-- ==== Sys2Proof/Word.lean ====
section
/-!
DEFINITION. Word.lean: the words, bytes and instance numbers of the block, and the plainest arithmetic on them.
Multi-byte fields are little-endian everywhere (00, Conventions).
-/
namespace Sys2Proof

/-- One byte of a memory, a payload or a flit. -/
abbrev Byte := BitVec 8

/-- The contents of a register (R13: accesses are 32 or 64 bits; a 32-bit register keeps its upper half 0). -/
abbrev Word := BitVec 64

/-- A logical core, 0–3 (R9). -/
abbrev Core := Fin 4

/-- An Avras port, 0–23 (R9, R16). -/
abbrev Port := Fin 24

/-- An HBM stack, 0–11 (R9, R16). -/
abbrev Stack := Fin 12

/-- An ONFI channel of the Ingot Store, 0–15 (R9, R16). -/
abbrev Chan := Fin 16

/-- A casting, which is also a Tundish die and a half (R16). -/
abbrev Die := Fin 2

/-- Bits `[lo + w - 1 : lo]` of a natural number. -/
def bits (n lo w : Nat) : Nat := (n >>> lo) % 2 ^ w

/-- `n` with the field `[lo + w - 1 : lo]` replaced by the low `w` bits of `v`. -/
def setBits (n lo w v : Nat) : Nat :=
  n - (bits n lo w) * 2 ^ lo + (v % 2 ^ w) * 2 ^ lo

/-- One bit of a natural number. -/
def bit (n i : Nat) : Bool := (n >>> i) % 2 == 1

/-- `true` as 1 and `false` as 0. -/
def b2n (b : Bool) : Nat := if b then 1 else 0

/-- The natural number a little-endian byte string spells. -/
def leNat : List Byte → Nat
  | [] => 0
  | b :: bs => b.toNat + 256 * leNat bs

/-- The `k` little-endian bytes of `n`. -/
def leBytes : Nat → Nat → List Byte
  | 0, _ => []
  | k + 1, n => BitVec.ofNat 8 n :: leBytes k (n / 256)

/-- A value below `2 ^ w` read as two's complement. -/
def toSigned (w n : Nat) : Int :=
  if n % 2 ^ w < 2 ^ (w - 1) then (n % 2 ^ w : Nat) else (n % 2 ^ w : Nat) - (2 ^ w : Nat)

/-- The two's-complement encoding of an integer in `w` bits. -/
def ofSigned (w : Nat) (i : Int) : Nat := (i % (2 ^ w : Nat)).toNat

/-- `n` held at its maximum `2 ^ w - 1` (a saturating counter). -/
def satN (w n : Nat) : Nat := if n < 2 ^ w then n else 2 ^ w - 1

/-- The quotient rounded up. -/
def ceilDiv (a b : Nat) : Nat := if b = 0 then 0 else (a + b - 1) / b

/-- The first element of a list that satisfies `p`, with its position. -/
def findIdx' {α : Type} (p : α → Bool) : List α → Nat → Option (Nat × α)
  | [], _ => none
  | x :: xs, i => if p x then some (i, x) else findIdx' p xs (i + 1)

/-- The list with its element `i` replaced (unchanged when there is none). -/
def setNth {α : Type} : List α → Nat → α → List α
  | [], _, _ => []
  | _ :: xs, 0, y => y :: xs
  | x :: xs, i + 1, y => x :: setNth xs i y

/-- `k` copies of a byte. -/
def zeros (k : Nat) : List Byte := List.replicate k 0

/-- The `k` bytes of a string that start at byte `off`, reading 0 past its end. -/
def slice (bs : List Byte) (off k : Nat) : List Byte :=
  let t := (bs.drop off).take k
  t ++ zeros (k - t.length)

/-- The little-endian field of `k` bytes at byte `off` of a string. -/
def fieldAt (bs : List Byte) (off k : Nat) : Nat := leNat (slice bs off k)

end Sys2Proof
end

