-- ==== Sys2Proof/Syntax.lean ====
section
/-!
DEFINITION. Syntax.lean: the commands of the block: one constructor of `Instr` per row of spec/opcode_table.json, and the
plain data its rows carry as operands.
-/
namespace Sys2Proof

/-- R171: the queues of a core that release descriptors: one per engine, and one per class for the Crucible (R129). -/
inductive EngQ where
  | mould | assay | cruLow | cruHigh | ladle | runners
deriving DecidableEq, Repr

/-- R460: a module fetched in a recovery boot that passes: its block type, version, security version and measurement. -/
structure RecMod where
  block : Nat
  version : Nat := 0
  svn : Nat := 0
  meas : Nat := 0
  owner : Bool := false
  raise : Bool := false
  grades : Nat := 7
  /-- The bytes of its manifest and body. -/
  len : Nat := 1280
deriving DecidableEq, Repr

/-- What a reset meets outside the block: the outcome of each self-test, training and check that the start-up sequence
of R455 makes. -/
structure BootEnv where
  /-- Step 1: the regulators start without a rail or over-current fault (R463). -/
  powerOk : Bool := true
  /-- Step 1: the straps `SB_ADDR2`–`SB_ADDR0` (R447, R469). -/
  straps : Nat := 0
  /-- Step 1: the input is 38 V or more with PWR_FAIL_N deasserted (R463). -/
  inputOk : Bool := true
  /-- Step 2: failed data groups of each bridge direction (R25). -/
  bridgeFail : Nat × Nat := (0, 0)
  /-- Step 3: the rate each ONFI channel trains at, in MT/s; 0 means down at every rate (R265). -/
  rates : List Nat := List.replicate 16 3600
  /-- Step 3: present and rejected targets of each channel, as bit masks (R265, R275). -/
  targets : List (Nat × Nat) := List.replicate 16 (15, 0)
  /-- Step 4: modules that fail verification, by block type (R424, R426). -/
  badModules : List Nat := []
  /-- Step 4: area 3 cannot be read (R460). -/
  noArea3 : Bool := false
  /-- Step 4: the signature of the trust record fails (R425). -/
  badRecord : Bool := false
  /-- Step 5: a copy of an image in area 4 or 5 cannot be read: user calibration (R446) and lifetime counters (R365). -/
  lostCal : Bool × Bool := (false, false)
  lostLife : Bool × Bool := (false, false)
  /-- Recovery boot: the port and the peer word (as `PEER` shows it) that answer with a valid directory, and the modules it lists
  that pass (R460). -/
  recovery : Option (Nat × Nat × List RecMod) := none
  /-- Step 6: stacks lost in training with the cause code and channel of `LOST_CAUSE` (R249, R255). -/
  lostStacks : List (Nat × Nat × Nat) := []
  /-- Step 6: lanes repaired at each stack and the mask of channels with a repair (R248). -/
  laneRepairs : List (Nat × Nat) := List.replicate 12 (0, 0)
  /-- Step 8: the ports with a cable present, and the peers that train: port, peer ID word as `PEER` shows it. -/
  cables : Nat := 0
  peers : List (Nat × Nat) := []
  /-- Step 9: the ports whose link exchange succeeds (R431). -/
  linked : Nat := 0
  /-- Step 3: what the parameter pages report (R264): LUNs, planes, blocks per LUN, tR and tPROG in µs, pages per block,
  and rated endurance. -/
  geom : Nat × Nat × Nat × Nat × Nat × Nat × Nat := (1, 4, 1024, 46, 600, 1024, 3000)
  /-- Duration of each step in ms (R455). -/
  ms : List Nat := [15, 45, 340, 1450, 900, 3900, 1, 1950, 400]
deriving DecidableEq, Repr

/-- R392: a cause that reaches the Quench controller: its code and, for cause 1, the page's block type, instance and
source. -/
structure QCause where
  code : Nat
  type : Nat := 0
  inst : Nat := 0
  src : Nat := 0
deriving DecidableEq, Repr

/-- A block whose common source 3 watches its progress: R88, R107, R141, R167, R199, chapter 09's RUN and TUN pages,
R263, chapter 13's COL page, R418. -/
inductive Watch where
  | spr (c : Core) | mld (c : Core) | asy (c : Core) | cru (c : Core) | ldl (c : Core) | run (c : Core) | tun (d : Die)
  | hbm (k : Stack) | col | pwr
deriving DecidableEq, Repr

/-- R402: the memories with a scrubber: the banks of a Tundish die, the operand cache, resident store, pattern store and
slot store of a core, and the Steward SRAM. -/
inductive Scrubbed where
  | tun (d : Die) | cache (c : Core) | cru (c : Core) | pat (c : Core) | asy (c : Core) | stw
deriving DecidableEq, Repr

/-- R395: what a `QUENCH` ordered set carries: the device, its cause code, `Q_COUNT`, `Q_NONCE` and the frame of entry. -/
structure QSet where
  dev : BitVec 17
  cause : BitVec 4
  count : BitVec 32
  nonce : BitVec 64
  frame : BitVec 48
deriving DecidableEq, Repr

/-- R28: the words that a promotion's copy reads as uncorrectable: 16-byte words of the Crucible resident store, matrix IDs of
the matrix table, units of the Assay slot store, 8-byte words of the operand cache, words of the pattern store. -/
structure PromoBad where
  cru : List Nat := []
  ids : List Nat := []
  asy : List Nat := []
  cache : List Nat := []
  pat : List Nat := []
deriving DecidableEq, Repr


/-- The commands and events of the block: one constructor per row of spec/opcode_table.json, with the operands the row
needs: instance numbers, written values, readings taken outside the block, and what arrives from outside. -/
inductive Instr where
  /-- COLD_RESET (R454). The input rises to 40 V or more after a power loss, with PWR_FAIL_N deasserted for 10 ms, and the device starts the full nine-step start-up sequence. -/
  | coldReset (e : BootEnv)
  /-- RST_CMD (R454). A write of 0x7A3C to STW.RST_CMD starts a warm reset; any other value is ignored. -/
  | rstCmd (v : BitVec 16) (e : BootEnv)
  /-- INPUT_RECOVERY (R454). After a completed power-fail flush, the input stays at or above 40 V for 10 ms, and the Quench controller performs a warm reset. -/
  | inputRecovery (e : BootEnv)
  /-- BOOT_STEP_OVERTIME (R458). A start-up step passes its maximum time, sets its BOOT_OVER bit and raises STW source 12. -/
  | bootStepOvertime (step : Fin 9)
  /-- REGULATOR_RETRY (R463). One second after a rail or over-current fault in step 1, the regulators retry once. -/
  | regulatorRetry (e : BootEnv)
  /-- POWER_FAIL_TRIP (R371). The input falls below 38 V or PWR_FAIL_N asserts; the device quenches and flushes the journal tail and the map log. -/
  | powerFailTrip (pin : Bool) (mv : Nat)
  /-- FLUSH_COMPLETE (R371). The last map log page of the power-fail flush is programmed, and the Steward enters the power-down state. -/
  | flushComplete
  /-- INPUT_SAMPLE (R405). Every 1 µs the input voltage and current are sampled and judged against the voltage ranges. -/
  | inputSample (mv : Nat) (ma : Nat)
  /-- RAIL_OUT_OF_REGULATION (R408). A rail stays outside ±5 % of its set point for more than 1 µs, raising PWR source 7. -/
  | railOutOfRegulation (d : Die) (rail : Fin 11)
  /-- SENSOR_READ (R413). Every 10 µs each junction sensor is read and compared with TJ_WARN, 105 °C and the trip level. -/
  | sensorRead (sensor : Fin 160) (deci : Int)
  /-- REFCLK_LOSS (R415). REFCLK is absent for 1 µs or out of range, or a PLL loses lock, raising PWR source 12. -/
  | refclkLoss
  /-- STAGGER_GRANT (R409). A pending core start or Mould ramp is granted in its next usable stagger slot. -/
  | staggerGrant
  /-- PIN_CTRL_WRITE (R417). A PIN_CTRL write applies STROBE_EN at once, defers TICK_OUT_EN to the next tick, and flags a conflict when both enables become set. -/
  | pinCtrlWrite (v : BitVec 32)
  /-- FRAME_TICK (R200). Power & Tick raises a tick: the frame counter advances and the boundary-window actions run. -/
  | frameTick (energy : Nat)
  /-- PERIOD_CHANGE (R201). At the tick that begins frame FRM_PERIOD_AT, the period becomes FRM_PERIOD_NEXT. -/
  | periodChange
  /-- TIMING_MODE_CHANGE (R206). At a tick, a pending LOCK_REQ change takes effect if its conditions hold; otherwise it is refused and source 19 is raised. -/
  | timingModeChange
  /-- IDLE_FRAME (R208). An idle frame requested by the power cap begins: no release, issue, Crucible step or Runner move starts. -/
  | idleFrame
  /-- FRAME_CHECK (R217). At each tick an armed per-core frame check raises FRM_DUE, settles it against the token counter, and raises FRAME_OVERRUN if debt remains. -/
  | frameCheck
  /-- SLACK_EXCEEDED (R216). A core's replay time in the frame exceeds FRM_SLACK × 1,024 ck, raising FRAME_OVERRUN once per frame. -/
  | slackExceeded (c : Core)
  /-- REPLAY_BUDGET_EXCEEDED (R79). A descriptor's replay time exceeds its replay budget, raising MLD source 6 once. -/
  | replayBudgetExceeded (c : Core)
  /-- BEACON (R202). A timing beacon is received: the phase error is measured, the beacon is forwarded onward, and the alignment state is updated. -/
  | beacon (ps : Int)
  /-- BEACON_TIMEOUT (R203). Four frames pass with no beacon, which clears ALIGNED. -/
  | beaconTimeout
  /-- STRETCH (R208). A TC0 idle-frame request reaches the master, or a frame named idle reaches a device. -/
  | stretch
  /-- GRD_PROFILE_REQ_WRITE (R6). A write to GRD_PROFILE.REQ is stored and written through to calibration item 0, and the user image is saved. -/
  | grdProfileReqWrite (v : Bool)
  /-- GRD_BSCHED_LOCK_WRITE (R24). Setting the bridge schedule lock checks the schedule, and is refused with SCHED_BAD if the schedule fails a condition. -/
  | grdBschedLockWrite (v : Bool)
  /-- BRIDGE_WORD_CORRECTED (R25). The bridge corrects a word and counts it, raising GRD source 1. -/
  | bridgeWordCorrected (d : Die)
  /-- BRIDGE_WORD_UNCORRECTABLE (R25). The bridge delivers an uncorrectable word as received, counts it and raises GRD source 2. -/
  | bridgeWordUncorrectable (d : Die)
  /-- BRIDGE_LOSS (R26). A control wire is lost, a data group fails with no spare left, or the tick skew between castings exceeds 2 ck; GRD source 5 quenches the device. -/
  | bridgeLoss
  /-- PROMOTE_REQUEST (R27). GO written to GRD_PROMOTE requests a hot-spare promotion; if accepted, core c's work is abandoned and the copy starts. -/
  | promoteRequest (c : Fin 4)
  /-- PROMOTE_COPY_DONE (R28). The copy of core c's stores to the spare ends, with uncorrectable words poisoned in their stores. -/
  | promoteCopyDone (bad : PromoBad)
  /-- PROMOTE_SWITCH (R28). At the first tick after the copy, the logical number moves to the spare and the failed core is fenced. -/
  | promoteSwitch
  /-- MATMUL (R65). The Mould runs a matrix product, cut into rounds of output tiles. -/
  | matmul (c : Core)
  /-- RAMP_UP (R70). A Mould RAMP_UP descriptor completes when the array is WARM. -/
  | rampUp (c : Core)
  /-- RAMP_DOWN (R71). A Mould RAMP_DOWN descriptor starts the ramp down and completes when the array is COLD. -/
  | rampDown (c : Core)
  /-- MLD_LOAD_START (R69). The load of a B-register set into the shadow set begins, once the previous stream has started and the B tiles are present. -/
  | mldLoadStart (c : Core)
  /-- MLD_LOAD_END (R69). A B load completes 528 ck after it began, and its parity is checked. -/
  | mldLoadEnd (c : Core)
  /-- MLD_STREAM_START (R69). A stream of A rows starts once the load, the previous stream, the A rows, a free half and a warm array all allow it. -/
  | mldStreamStart (c : Core)
  /-- MLD_STREAM_END (R69). A stream ends after its rows have been streamed. -/
  | mldStreamEnd (c : Core)
  /-- ACC_OVERFLOW_MARK (R74). An FP32 accumulator element becomes infinite from a finite contribution, and its output tile is marked for replay. -/
  | accOverflowMark (c : Core)
  /-- MLD_ROUND_COMPLETE (R69). A round completes F ck after its last stream, and its half becomes the shadow half. -/
  | mldRoundComplete (c : Core)
  /-- MLD_DRAIN_START (R68). The drain of a finished round begins, once the previous drain has ended. -/
  | mldDrainStart (c : Core)
  /-- MLD_DRAIN_END (R68). The drain writes the round's last byte, and the half becomes free. -/
  | mldDrainEnd (c : Core)
  /-- MLD_OPERAND_TILE_ARRIVE (R82). An operand tile arrives in the operand stage and its CRC and coarse scale are checked. -/
  | mldOperandTileArrive (c : Core)
  /-- MLD_ARRAY_WARM (R70). 1,024 ck after the ramp grant the array becomes WARM. -/
  | mldArrayWarm (c : Core)
  /-- MLD_IDLE_GATE_EXPIRE (R71). The array's idle time reaches IDLE_GATE × 256 ck with nothing queued, and a ramp down begins. -/
  | mldIdleGateExpire (c : Core)
  /-- MLD_ARRAY_COLD (R71). 1,024 ck after the ramp down began the array becomes COLD. -/
  | mldArrayCold (c : Core)
  /-- COV (R95). The Assay accumulates block covariance from the sampled rows of its paired tapped MATMUL. -/
  | cov (c : Core)
  /-- ASY_EXPORT (R98). The Assay writes block sums as FP32 images, optionally clearing the slots. -/
  | asyExport (c : Core)
  /-- BLEND (R101). The Assay blends blocks into Crucible source matrices, entry by entry from a list. -/
  | blend (c : Core)
  /-- SQNORM (R103). The Assay adds the sum of squares of a region into NS_LOCAL or NS_GLOBAL. -/
  | sqnorm (c : Core)
  /-- NOISE (R104). The Assay updates the gradient-noise estimates from a 32-byte record, or rejects the record. -/
  | noise (c : Core)
  /-- ASY_NS_UPDATES_WRITE (R104). A write of 0 to NS_UPDATES restarts the noise averages. -/
  | asyNsUpdatesWrite (c : Core) (v : BitVec 32)
  /-- STORE_PORT_GRANT (R133). The Crucible store port frees and is granted to the Crucible or the Assay, alternating between them. -/
  | storePortGrant (c : Core)
  /-- CHOL (R120). A Crucible problem computes the Cholesky factor of a damped source. -/
  | chol (c : Core)
  /-- LDL (R120). A Crucible problem computes the LDLᵀ factor of a damped source. -/
  | ldl (c : Core)
  /-- TRSM (R123). A Crucible problem solves a triangular system with a published factor. -/
  | trsm (c : Core)
  /-- INV (R121). A Crucible problem computes the inverse of a damped source. -/
  | inv (c : Core)
  /-- IROOT (R121). A Crucible problem computes the inverse p-th root by coupled Newton iteration. -/
  | iroot (c : Core)
  /-- ROOT (R121). A Crucible problem computes the p-th root by coupled Newton iteration. -/
  | root (c : Core)
  /-- ORTH (R122). A Crucible problem computes the orthogonal polar factor by Newton–Schulz iteration. -/
  | orth (c : Core)
  /-- DAMP (R124). The Crucible adds LAMBDA to the diagonal of each listed source. -/
  | damp (c : Core)
  /-- EMA (R124). The Crucible blends one source into another with BETA. -/
  | ema (c : Core)
  /-- DELTA (R124). The Crucible sets or adds listed entries of sources. -/
  | delta (c : Core)
  /-- RESCALE (R124). The Crucible rescales sources to a new F and X. -/
  | rescale (c : Core)
  /-- IMPORT (R125). The Crucible writes sources from images in region 0. -/
  | import (c : Core)
  /-- CRU_EXPORT (R125). The Crucible writes published sets or sources to images in region 2. -/
  | cruExport (c : Core)
  /-- DEFINE (R126). The Crucible writes matrix table entries from a list. -/
  | define (c : Core)
  /-- CRU_STEP_START (R130). At a step boundary the Crucible starts the next step that fits before the tick, with the high class first. -/
  | cruStepStart (c : Core)
  /-- CRU_STEP_END (R130). A Crucible step ends after its quanta. -/
  | cruStepEnd (c : Core)
  /-- CRU_RESUME (R131). 64 ck after a tick, Crucible problems that waited or were suspended resume. -/
  | cruResume (c : Core)
  /-- CRU_DEADLINE (R136). At the tick that begins the deadline frame, unpublished problems are marked STALE, and abandoned under ON_STALE = 1. -/
  | cruDeadline (c : Core)
  /-- LOAD (R150). The Ladle loads region 0 into registers, converting scaled formats. -/
  | load (c : Core)
  /-- STORE (R150). The Ladle stores registers to region 2, converting under R47. -/
  | store (c : Core)
  /-- ZERO (R147). The Ladle writes +0 with valid check bits to region 2. -/
  | zero (c : Core)
  /-- ELEM_ADD (R151). The Ladle adds elements, rounding once. -/
  | elemAdd (c : Core)
  /-- ELEM_SUB (R151). The Ladle subtracts elements as a + (−b), rounding once. -/
  | elemSub (c : Core)
  /-- ELEM_MUL (R151). The Ladle multiplies elements, rounding once. -/
  | elemMul (c : Core)
  /-- ELEM_FMA (R151). The Ladle forms a × b + c with a single rounding. -/
  | elemFma (c : Core)
  /-- ELEM_MAX (R151). The Ladle takes the element-wise maximum. -/
  | elemMax (c : Core)
  /-- ELEM_MIN (R151). The Ladle takes the element-wise minimum. -/
  | elemMin (c : Core)
  /-- ELEM_ABS (R151). The Ladle clears the sign of each element. -/
  | elemAbs (c : Core)
  /-- ELEM_NEG (R151). The Ladle inverts the sign of each element. -/
  | elemNeg (c : Core)
  /-- ELEM_CVT (R151). The Ladle converts elements to the result format. -/
  | elemCvt (c : Core)
  /-- ELEM_SEL (R151). The Ladle selects a or b per element by a mask register. -/
  | elemSel (c : Core)
  /-- EXP2 (R158). The Ladle computes 2^x on the fixed-point grid. -/
  | exp2 (c : Core)
  /-- LOG2 (R158). The Ladle computes log2 x on the fixed-point grid. -/
  | log2 (c : Core)
  /-- RCP (R158). The Ladle computes the reciprocal on the fixed-point grid. -/
  | rcp (c : Core)
  /-- RSQRT (R158). The Ladle computes the reciprocal square root on the fixed-point grid. -/
  | rsqrt (c : Core)
  /-- TANH (R158). The Ladle computes tanh on the fixed-point grid. -/
  | tanh (c : Core)
  /-- ERF (R158). The Ladle computes erf on the fixed-point grid. -/
  | erf (c : Core)
  /-- SINCOS (R158). The Ladle computes sine and cosine of an argument in turns. -/
  | sincos (c : Core)
  /-- REDUCE_SUM (R156). The Ladle sums the elements of each set by the fixed tree. -/
  | reduceSum (c : Core)
  /-- REDUCE_PROD (R156). The Ladle multiplies the elements of each set by the fixed tree. -/
  | reduceProd (c : Core)
  /-- REDUCE_MAX (R156). The Ladle takes the maximum of each set by the fixed tree. -/
  | reduceMax (c : Core)
  /-- REDUCE_MIN (R156). The Ladle takes the minimum of each set by the fixed tree. -/
  | reduceMin (c : Core)
  /-- ARGMAX (R156). The Ladle finds the largest value of each set and its index. -/
  | argmax (c : Core)
  /-- ARGMIN (R156). The Ladle finds the smallest value of each set and its index. -/
  | argmin (c : Core)
  /-- MASKGEN (R159). The Ladle writes causal, window and padding masks from positions, or ends with BOUNDS. -/
  | maskgen (c : Core)
  /-- ACCREAD (R161). The Ladle reads a held Mould half, and releases it when REL is set. -/
  | accread (c : Core)
  /-- RMSNORM (R162). The Ladle applies RMS normalisation per segment. -/
  | rmsnorm (c : Core)
  /-- LAYERNORM (R162). The Ladle applies layer normalisation per segment. -/
  | layernorm (c : Core)
  /-- OPT (R163). The Ladle applies the per-element optimiser update and the working-copy recast. -/
  | opt (c : Core)
  /-- RUN (R198). The Ladle runs a user pattern, checking each generator access against its region. -/
  | run (c : Core)
  /-- RING_TAIL_WRITE (R168). A write to RING_TAIL makes more descriptor slots readable, at once or at the next tick in locked timing. -/
  | ringTailWrite (c : Core) (v : BitVec 16)
  /-- DESC_FETCH (R169). A group of descriptors arrives in the window and each CRC is checked, with one refetch on a mismatch. -/
  | descFetch (c : Core)
  /-- DESC_ISSUE (R170). The Sprue issues the next descriptor: it numbers it, applies strides and the predicate, checks it and queues it. -/
  | descIssue (c : Core)
  /-- DESC_RELEASE (R171). A queued descriptor at its queue head, with its waits satisfied and its engine accepting, is released and its consumes are applied. -/
  | descRelease (c : Core) (q : EngQ)
  /-- DESC_COMPLETE (R172). An engine finishes a descriptor: its record is written and its signals fire. -/
  | descComplete (c : Core) (q : EngQ)
  /-- TOKEN_SIGNAL_DELIVER (R180). A signal to another core arrives 64 ck after completion and adds to its counter. -/
  | tokenSignalDeliver (c : Core)
  /-- TOK_SIGNAL (R180). A write to TOK_SIGNAL signals a token once, as a remote signal. -/
  | tokSignal (c : Core) (t : BitVec 12)
  /-- TOK_DATA (R179). A write to TOK_DATA sets the counter at TOK_ADDR. -/
  | tokData (c : Core) (v : BitVec 16)
  /-- PRED_WRITE (R183). A write to PRED sets the predicate bits for later issues. -/
  | predWrite (c : Core) (v : BitVec 64)
  /-- NOP (R187). A Sprue NOP acts as a barrier through its waits and signals. -/
  | nop (c : Core)
  /-- LOOP (R185). A Sprue LOOP reads its count and repeats the body that follows. -/
  | loop (c : Core)
  /-- PSET (R187). A Sprue PSET sets the predicate bits under a mask. -/
  | pset (c : Core)
  /-- PTEST (R187). A Sprue PTEST sets a predicate bit from a masked compare of a word. -/
  | ptest (c : Core)
  /-- SEED (R188). A Sprue SEED sets JOB_SEED for later descriptors. -/
  | seed (c : Core)
  /-- TOKSET (R187). A Sprue TOKSET sets a range of token counters. -/
  | tokset (c : Core)
  /-- PATLOAD (R197). A Sprue PATLOAD loads a user pattern into a slot once the slot is free, or ends with PATTERN_BAD. -/
  | patload (c : Core)
  /-- PATFREE (R196). A Sprue PATFREE unmaps a user pattern and frees its slot once the slot is not in use. -/
  | patfree (c : Core)
  /-- STOP (R187). A Sprue STOP ends the stream in state STOPPED. -/
  | stop (c : Core)
  /-- SPR_CTRL_RUN (R191). Setting CTRL.RUN starts fetch and issue; clearing it halts the stream at the next descriptor boundary. -/
  | sprCtrlRun (c : Core) (v : Bool)
  /-- SPR_CTRL_RESUME (R192). RESUME continues a HALTED stream, re-issuing or passing the head descriptor. -/
  | sprCtrlResume (c : Core) (mode : Bool)
  /-- NO_PROGRESS_TIMEOUT (R88). A block makes no progress for its timeout, raising its page's common source 3. -/
  | noProgressTimeout (w : Watch)
  /-- COPY (R239). The Runners copy region 0 to region 2, raw or in tile mode with conversion. -/
  | copy (c : Core)
  /-- FILL (R238). The Runners write a 32-bit pattern to region 2, zero its sidecars, or unmap Ingot tiles. -/
  | fill (c : Core)
  /-- FILL_ALL (R226). The Runners fill the whole Tundish, payload and sidecars, or end with LOCKED_REFUSED in locked timing. -/
  | fillAll (c : Core)
  /-- GATHER (R238). The Runners move indexed rows of region 0 to consecutive rows of region 2. -/
  | gather (c : Core)
  /-- SCATTER (R238). The Runners move consecutive rows of region 0 to indexed rows of region 2. -/
  | scatter (c : Core)
  /-- PREFETCH (R238). The Runners allocate and fill cache entries for region 0. -/
  | prefetch (c : Core)
  /-- INVAL (R236). The Runners invalidate the cache entries of region 0's source tiles. -/
  | inval (c : Core)
  /-- REQUEST_COMPLETE (R241). A read request's data is delivered and checked, and its request slot frees. -/
  | requestComplete (c : Core)
  /-- SCRUB_ACCESS (R403). A scrubber reads a word in a free slot and writes back a corrected word or reports an uncorrectable one. -/
  | scrubAccess (m : Scrubbed) (a : Nat) (e : Fin 3)
  /-- SPARE_REQ (R228). GO written to SPARE_REQ starts a copy of a bank into a free spare, or is refused. -/
  | spareReq (d : Die) (bank : Fin 128)
  /-- SPARE_COPY_DONE (R228). The copy of a bank into its spare ends. -/
  | spareCopyDone (d : Die)
  /-- SPARE_MAP_CHANGE (R228). In the boundary window after the copy ends, the spare replaces the bank, and the bank is fenced. -/
  | spareMapChange (d : Die)
  /-- DIAG_RAW_WRITE (R229). A diagnostic raw write stores data and check bits in a fenced or unmapped bank. -/
  | diagRawWrite (d : Die)
  /-- DIAG_RAW_READ (R229). A diagnostic raw read returns data and check bits as stored. -/
  | diagRawRead (d : Die)
  /-- DIAG_DECODED_READ (R229). A diagnostic decoded read returns the corrected data and the syndrome. -/
  | diagDecodedRead (d : Die)
  /-- QAPPLY (R233). A write to QAPPLY checks the quota set and refuses it on overlap or on cache mode in locked timing. -/
  | qapply
  /-- QUOTA_SET_APPLY (R233). An accepted quota set takes effect in the next boundary window, and stray cache entries are invalidated. -/
  | quotaSetApply
  /-- HBM_PARITY_ERROR (R254). A stack reports a parity error, and the controller repeats the command once. -/
  | hbmParityError (k : Stack) (ch : Chan) (again : Bool)
  /-- HBM_CHANNEL_TIMEOUT (R255). An HBM channel does not answer for 4,096 hk, and the stack is declared lost. -/
  | hbmChannelTimeout (k : Stack) (ch : Chan)
  /-- HBM_TEMP_READ (R256). Every 32 µs each stack's temperature is read, and the refresh rate is doubled or restored. -/
  | hbmTempRead (k : Stack) (deg : Fin 256)
  /-- HBM_TEMP_PORT_LOSS (R255). The IEEE 1500 port cannot be read for 1 ms or reports a catastrophic temperature, and the stack is lost. -/
  | hbmTempPortLoss (k : Stack) (hot : Bool)
  /-- HBM_SLOT_SERVE (R259). A locked-timing slot begins and serves its owning partition's waiting requests. -/
  | hbmSlotServe (j : Nat)
  /-- SLOT_CTRL_APPLY (R260). APPLY checks the slot tables and sets VALID, or records a conflict. -/
  | slotCtrlApply
  /-- INGOT_READ_COMPLETE (R269). An Ingot page read finishes decoding with retries, and its data is staged or reported INGOT_FAIL. -/
  | ingotReadComplete (c : Core) (r : List Nat)
  /-- INGOT_PROGRAM_START (R270). A held Ingot write starts its page program once staging room and the write budget allow it. -/
  | ingotProgramStart
  /-- INGOT_PROGRAM_COMPLETE (R270). A page program ends, and its map update is entered in the map log. -/
  | ingotProgramComplete (fails : Bool)
  /-- GARBAGE_COLLECT (R273). When a target's free blocks fall below GC_LOW, the block with the fewest valid pages is collected. -/
  | garbageCollect (tg : Fin 64) (fails : Bool)
  /-- WEAR_LEVEL (R273). When the P/E spread exceeds WL_SPREAD, the lowest-count data block is moved. -/
  | wearLevel (tg : Fin 64) (fails : Bool)
  /-- RETIRE_REQ (R277). GO written to RETIRE_REQ starts the in-service retirement of a target, or is refused. -/
  | retireReq (tg : Fin 64)
  /-- TARGET_RETIRE_DONE (R277). No valid page remains on the retiring target, and it is fenced. -/
  | targetRetireDone
  /-- TARGET_COMMAND_TIMEOUT (R278). A target does not answer for 100 ms, or fails ZQ calibration twice, and is failed. -/
  | targetCommandTimeout (tg : Fin 64) (zq : Bool)
  /-- PATROL_READ (R279). The patrol reads a valid page and applies decoding and retry to it. -/
  | patrolRead (area : Fin 7) (tile : Nat) (r : List Nat)
  /-- FLIT_RECEIVE (R289). A flit is received, checked and accepted, discarded with a NAK, treated as a duplicate, or treated as a protocol error. -/
  | flitReceive (p : Port) (raw : BitVec 2048) (uncorr : Bool)
  /-- FLIT_TRANSMIT (R303). At a flit boundary the transmitter picks the next flit by the priority order. -/
  | flitTransmit (p : Port)
  /-- LINK_REPLAY (R290). After a NAK, the transmitter resends every unacknowledged flit in order. -/
  | linkReplay (p : Port) (e : Fin 3)
  /-- NAK_TIMEOUT (R289). An outstanding NAK is sent again after 2 µs. -/
  | nakTimeout (p : Port)
  /-- ACK_TIMEOUT (R291). Unacknowledged flits make no ACK progress for ACK_TIMEOUT, and the port retrains. -/
  | ackTimeout (p : Port)
  /-- LANE_WINDOW (R292). At the end of a window of 2^20 codewords, each lane's corrected-symbol count is judged against LANE_THRESH. -/
  | laneWindow (p : Port) (sym : List Nat) (corr : Nat)
  /-- LANE_REQUEST (R292). A CTRL lane request makes the peer mirror a lane onto the spare for equalisation. -/
  | laneRequest (p : Port)
  /-- LANE_SWITCH (R292). At the named codeword both ends move the lane onto the spare. -/
  | laneSwitch (p : Port)
  /-- RE_EQ (R293). Every RE_EQ_PERIOD seconds an active lane is moved to the spare, re-equalised and moved back. -/
  | reEq (p : Port)
  /-- PRESENCE_ASSERT (R296). Cable presence asserts after its debounce, and full training starts. -/
  | presenceAssert (p : Port)
  /-- PRESENCE_DEASSERT (R296). Cable presence deasserts, and the port goes to EMPTY at once. -/
  | presenceDeassert (p : Port)
  /-- TRAINING_COMPLETE (R296). Full training ends in UP, or in FAILED. -/
  | trainingComplete (p : Port) (peer : Option (BitVec 23)) (rx : BitVec 5) (tx : BitVec 5)
  /-- AVL_CTRL_RETRAIN (R296). RETRAIN starts a short retraining of the port. -/
  | avlCtrlRetrain (p : Port)
  /-- SHORT_RETRAIN_COMPLETE (R296). A short retraining ends: the port resumes, discards its state on a peer change, or falls to full training. -/
  | shortRetrainComplete (p : Port) (peer : Option (BitVec 23)) (rx : BitVec 5) (tx : BitVec 5)
  /-- PORT_ACTIVATE (R320). At the tick after PORT_EN is set and the peer matches the wiring, a trained port enters ACTIVE. -/
  | portActivate (p : Port)
  /-- TX_WRAPS_LIMIT (R301). TX_WRAPS reaches 2^31, raising AVL source 10, or 2^32 − 1, and the port fails. -/
  | txWrapsLimit (p : Port)
  /-- QUENCH_SET_RECEIVE (R307). A good QUENCH ordered set puts the port in PEER_QUENCHED and raises AVL source 7. -/
  | quenchSetReceive (p : Port) (q : QSet)
  /-- RD_REQ (R313). A remote read request is checked and answered with data or ERR_RSP. -/
  | rdReq
  /-- RD_RSP (R314). A remote read response completes its request and frees its slot; a late one is dropped. -/
  | rdRsp
  /-- WR (R313). A remote write is checked against bounds and the landing zone, and carried out or refused. -/
  | wr
  /-- WR_ACK (R315). A remote write acknowledgement arrives, and the descriptor's remote signals may follow. -/
  | wrAck
  /-- ERR_RSP (R313). An error response completes its remote request with REMOTE_FAIL. -/
  | errRsp
  /-- REG_RD (R325). A remote register read is carried out for a host with ACL set, or refused with code 4. -/
  | regRd
  /-- REG_WR (R325). A remote register write is carried out for a host with ACL set, or refused with code 4. -/
  | regWr (e : BootEnv)
  /-- REG_RSP (R325). A register response returns data or a result code to the requester. -/
  | regRsp
  /-- TOKEN (R180). A TC0 token message signals a counter on a target core, at once or at the next tick in locked timing. -/
  | token
  /-- BAD_MSG (R312). A packet with an unlisted MKIND, or the wrong class, is dropped and counted. -/
  | badMsg
  /-- PACKET_ROUTE (R317). A packet for another destination is forwarded by the dimension-order rule or an exception entry. -/
  | packetRoute
  /-- E2E_TIMEOUT (R314). A remote request has no response within E2E_TIMEOUT and completes with REMOTE_FAIL. -/
  | e2eTimeout
  /-- ROUT_TABLE_WRITE (R17). A write to the ROUT page updates both halves of the routing table before it completes. -/
  | routTableWrite (a : BitVec 26) (v : BitVec 64) (wide : Bool)
  /-- COLL_ALL_REDUCE (R327). A COLL on an all-reduce group reduces every member's vector in member order and returns it to all members. -/
  | collAllReduce (c : Core)
  /-- COLL_REDUCE_SCATTER (R327). A COLL on a reduce-scatter group reduces the vectors and delivers shard i to member i. -/
  | collReduceScatter (c : Core)
  /-- COLL_ALL_GATHER (R326). A COLL on an all-gather group delivers every member's shard to all members. -/
  | collAllGather (c : Core)
  /-- COLL_BROADCAST (R326). A COLL on a broadcast group sends the root's data to every member. -/
  | collBroadcast (c : Core)
  /-- COLL_REDUCE_TO_ROOT (R327). A COLL on a reduce group reduces the vectors to the ROOT member. -/
  | collReduceToRoot (c : Core)
  /-- COLL_FENCE (R330). A fence COLL synchronises the members and applies pending group entries. -/
  | collFence (c : Core)
  /-- COLL (R331). An incoming COLL chunk is checked for its epoch and CRC, and accepted, held or dropped. -/
  | coll
  /-- FENCE (R330). A FENCE message advances the barrier of a fence. -/
  | fence
  /-- COLL_HOLD_TIMEOUT (R331). A COLL packet held for a future epoch for more than HOLD_FRAMES frames is dropped. -/
  | collHoldTimeout
  /-- GRP_DEFINE (R329). DEFINE sets, stages or refuses a group entry from GRP_DATA. -/
  | grpDefine
  /-- GRP_FREE (R329). FREE clears an idle group entry, or is refused while the entry is busy. -/
  | grpFree
  /-- NCHECK (R346). The Runner NCHECK forms the clip factor σ0 and the verdict word from the check block. -/
  | ncheck (c : Core)
  /-- VOTE (R347). The Runner VOTE runs the commit vote for a key and writes the decision word. -/
  | vote (c : Core)
  /-- VOTE_BALLOT (R347). A flask peer's ballot is received; with all 8 ballots in, the flask verdict forms. -/
  | voteBallot
  /-- VOTE_LANE_VERDICT (R347). A child's lane verdict reaches its parent node, which combines the verdicts or decides at the root. -/
  | voteLaneVerdict
  /-- VOTE_COMMIT_DECISION (R348). A commit decision arrives; the device commits and passes the decision down its lane tree. -/
  | voteCommitDecision
  /-- VOTE_ABORT_DECISION (R348). An abort decision arrives, and the device aborts definitively. -/
  | voteAbortDecision
  /-- VOTE_COMMIT_NOTICE (R348). A commit notice from a flask peer commits the device, or converts its provisional abort. -/
  | voteCommitNotice
  /-- VOTE_DEADLINE (R348). The deadline frame begins with no decision, and the device aborts provisionally. -/
  | voteDeadline
  /-- VOTE_GRACE_EXPIRE (R348). GRACE frames pass without a commit notice, and the abort becomes final. -/
  | voteGraceExpire
  /-- SEAL (R352). The Runner SEAL folds a block's masters into the seal and writes or checks the block record; LAST sends the device seal. -/
  | seal (c : Core)
  /-- SEAL_MESSAGE (R354). A replica's seal arrives and the seals are resolved as equal, odd, without majority or still missing. -/
  | sealMessage
  /-- SEAL_TIMEOUT (R354). A member's seal is still missing after SEAL_FRAMES frames, raising COL source 12. -/
  | sealTimeout
  /-- SW_CMD_RELEASE (R355). RELEASE forces the release of the retained gradient. -/
  | swCmdRelease
  /-- SW_CMD_CLEAR_HOLD (R354). CLEAR_HOLD clears a seal hold. -/
  | swCmdClearHold
  /-- RISER (R375). The Runner RISER adds a keyframe or delta record for a block to the Riser stream, and an end record with LAST. -/
  | riser (c : Core)
  /-- RISER_EXPORT (R377). The export sends buffered Riser records, in SSEQ order, to each enabled destination. -/
  | riserExport
  /-- BULK (R377). A BULK acknowledgement from the host advances RSR_ACK. -/
  | bulk
  /-- RISER_RETX (R377). RSR_ACK makes no progress for RETX_FRAMES frames, and the export resends from the first unacknowledged record. -/
  | riserRetx
  /-- RISER_WAIT_TIMEOUT (R378). A RISER has waited WAIT_FRAMES frames for buffer room; it ends RISER_DROPPED and the stream is marked BROKEN. -/
  | riserWaitTimeout
  /-- JAPPEND (R368). The Runner JAPPEND appends a user journal record, completing on entry to the tail or, when DURABLE, on program. -/
  | jappend (c : Core)
  /-- JOURNAL_SYNC (R368). SYNC_FRAMES frames after the last program, the partly filled tail page is programmed with PAD records. -/
  | journalSync
  /-- JOURNAL_PAGE_PROGRAM (R368). A journal page program completes, and the durable appends waiting on it complete. -/
  | journalPageProgram
  /-- SNAPSHOT_APPEND (R369). After SNAP_PAGES pages, or when a journal target fails, the Steward appends a SNAPSHOT and frees old pages. -/
  | snapshotAppend
  /-- LIFE_SAVE (R365). Every SAVE_MIN minutes the lifetime counters are saved to the next copy, and a COUNTERS record is appended. -/
  | lifeSave
  /-- QUENCH_ENTRY (R392). A quench cause reaches the Quench controller: the cause is recorded, a nonce is drawn and the safe-state sequence starts. -/
  | quenchEntry (q : QCause) (qs : List QCause)
  /-- SAFE_STATE_REACHED (R393). 2 µs after entry, HBM is in self-refresh, the draw is at most 300 W and SAFE is set. -/
  | safeStateReached
  /-- FLASH_QUIESCED (R393). The flash program in flight at quench completes within 4 ms, and FLASH_BUSY clears. -/
  | flashQuiesced
  /-- QUENCH_EXIT (R400). An authenticated QUENCH_EXIT matching the count and nonce gives the Steward 10 ms, then warm-resets the device; any other is refused. -/
  | quenchExit (e : BootEnv)
  /-- Q_SWREQ (R392). A write of 0x51E4 to Q_SWREQ quenches the device with cause 6. -/
  | qSwreq (v : BitVec 32)
  /-- FLT_STATUS_CLEAR (R390). A W1C write clears fault status bits and drops the interrupt level once no enabled bit remains set. -/
  | fltStatusClear (a : BitVec 26) (v : BitVec 64)
  /-- FLT_FIRST_CLEAR (R385). A W1C write to FLT_FIRST.VALID re-arms the capture of the first fault. -/
  | fltFirstClear (a : BitVec 26)
  /-- HEADER_PARITY_ERROR (R391). A page header word fails parity on access, which raises source 0 and quenches the device. -/
  | headerParityError (a : BitVec 26)
  /-- WDOG_KICK (R401). A control core kicks its watchdog and clears its missed bit. -/
  | wdogKick (k : Fin 4)
  /-- WDOG_PERIOD_EXPIRE (R401). A watchdog period passes without a kick: a first miss raises STW source 4, and a second quenches with cause 5. -/
  | wdogPeriodExpire (k : Fin 4)
  /-- ATTEST (R430). Trust writes an attestation report signed with the identity key over the buffer. -/
  | attest
  /-- VERIFY (R424). Trust verifies a module through its ordered checks. -/
  | verify
  /-- NONCE (R427). Trust places a fresh 32-byte nonce in the buffer for enrolment. -/
  | nonce
  /-- ENROL (R427). Trust checks a vendor-signed enrolment token and records the owner key. -/
  | enrol
  /-- UNENROL (R427). Trust checks an unenrolment token and removes the owner key. -/
  | unenrol
  /-- UPDATE (R434). Trust verifies a new module, and the Steward programs it and marks its block type pending. -/
  | update
  /-- PATVERIFY (R428). Trust verifies the signature of a user pattern before its PATLOAD. -/
  | patverify
  /-- LINK (R431). Trust starts the link key exchange on a port. -/
  | link (p : Port)
  /-- HELLO (R431). A peer's HELLO carrying its nonce and certificate is received and checked. -/
  | hello (p : Port)
  /-- REPORT (R431). A peer's attestation report is received and checked against the nonce and LK_POLICY. -/
  | report (p : Port)
  /-- SHARE (R432). A peer's encrypted share is received, and the direction keys are derived into the unused slots. -/
  | share (p : Port)
  /-- DONE (R431). A peer's DONE result ends the exchange, and a refusal fails the port. -/
  | done (p : Port)
  /-- RNG_HEALTH_FAIL (R422). A health test of the random source fails; Trust raises source 8 and refuses commands that need random bits. -/
  | rngHealthFail
  /-- MODULE_UPDATE_ACTIVATE (R434). At the first tick when every instance of the block type is quiesced, off or fused, the pending module takes effect. -/
  | moduleUpdateActivate
  /-- UPDATE_DEFER_TIMEOUT (R434). An update pending for UPD_WAIT_FRAMES frames is deferred to the next warm reset, raising TRU source 7. -/
  | updateDeferTimeout
  /-- PAGE_ENABLE (R440). Setting EN brings a page from OFF to ON; clearing it takes a QUIESCED page to OFF. -/
  | pageEnable (a : BitVec 26) (v : Bool)
  /-- PAGE_QUIESCE (R440). Setting QUIESCE stops new operations, and clearing it returns the page to ON. -/
  | pageQuiesce (a : BitVec 26) (v : Bool)
  /-- PAGE_QUIESCED (R440). A quiescing block finishes its operations already started and reads QUIESCED. -/
  | pageQuiesced (a : BitVec 26)
  /-- PAGE_BRESET (R440). BRESET block-resets a page as its chapter defines, leaving it OFF. -/
  | pageBreset (a : BitVec 26)
  /-- PAGE_LOCK_WRITE (R439). A write to PAGE_LOCK locks FLT_SEV or the RWL fields until reset. -/
  | pageLockWrite (a : BitVec 26) (v : BitVec 32)
  /-- LOP_COPY (R441). A long operation COPY moves bytes between the Tundish, HBM and Ingot area 0. -/
  | lopCopy (k : Fin 4)
  /-- RCOPY (R441). A long operation copies from a remote device by TC2 reads. -/
  | rcopy (k : Fin 4)
  /-- HBM_SCRUB (R441). A long operation reads an HBM range, rewrites corrected sectors and counts uncorrectable ones. -/
  | hbmScrub (k : Fin 4)
  /-- HBM_TEST (R441). A long operation writes and checks four patterns over an HBM range, leaving it zero. -/
  | hbmTest (k : Fin 4)
  /-- ING_FORMAT (R441). A long operation erases the Ingot Store and sets the area sizes. -/
  | ingFormat (k : Fin 4)
  /-- LOP_ABORT (R442). ABORT ends a long operation at its next step boundary. -/
  | lopAbort (k : Fin 4)
  /-- LOP_STEP (R441). The Steward runs one step of a running long operation and updates its progress. -/
  | lopStep (k : Fin 4) (r : List (List Nat)) (errs : Nat)
  /-- CAL_APPLY (R445). APPLY makes the edited calibration items take effect, clamped to their ranges. -/
  | calApply
  /-- CAL_SAVE (R366). SAVE writes the user calibration image to both copies in turn, with a new generation. -/
  | calSave
  /-- CAL_RELOAD (R445). RELOAD reads the user image back and applies it as at start-up. -/
  | calReload
  /-- CAL_CLEAR (R443). CLEAR makes the selected item's user offset absent. -/
  | calClear
  /-- RAIL_SLEW_STEP (R444). Every 10 µs a rail set point moves 5 mV toward its new effective value. -/
  | railSlewStep
  /-- SIDEBAND_READ32 (R447). An I3C command 0x01 reads a 32-bit register, returning a status byte and data. -/
  | sidebandRead32 (a : BitVec 32)
  /-- SIDEBAND_WRITE32 (R447). An I3C command 0x02 writes a 32-bit register, subject to SB_POLICY. -/
  | sidebandWrite32 (a v : BitVec 32) (e : BootEnv)
  /-- SIDEBAND_READ64 (R447). An I3C command 0x03 reads a 64-bit register. -/
  | sidebandRead64 (a : BitVec 32)
  /-- SIDEBAND_WRITE64 (R447). An I3C command 0x04 writes a 64-bit register, subject to SB_POLICY. -/
  | sidebandWrite64 (a : BitVec 32) (v : BitVec 64) (e : BootEnv)
  /-- BYPASS (R449). The JTAG BYPASS instruction selects the bypass register. -/
  | bypass
  /-- IDCODE (R449). The JTAG IDCODE instruction returns the device identification code. -/
  | idcode
  /-- SAMPLE_PRELOAD (R449). The JTAG SAMPLE/PRELOAD instruction samples or preloads the boundary-scan register. -/
  | samplePreload (lands pre : BitVec 400)
  /-- EXTEST (R449). The JTAG EXTEST instruction drives the lands from boundary scan while DBG_EN is set. -/
  | extest (lands : BitVec 400)
  /-- CC_DEBUG (R449). The private CC_DEBUG instruction halts and inspects control cores while DBG_EN is set. -/
  | ccDebug (halt : BitVec 4)
  /-- ATTN_PRESS (R450). A press of ATTN_N, taken at release, requests or cancels a drain. -/
  | attnPress
  /-- ATTN_LONG_PRESS (R450). ATTN_N held low for 5 s forces a drain into QUIESCING. -/
  | attnLongPress
  /-- DRAIN_REQ (R451). DRAIN_REQ moves the drain state to REQUESTED and raises STW source 6. -/
  | drainReq
  /-- DRAIN_GO (R452). DRAIN_GO starts QUIESCING: runs stop, pages quiesce, ports fall back, and state is saved. -/
  | drainGo
  /-- DRAIN_CANCEL (R451). DRAIN_CANCEL returns a requested drain to NONE. -/
  | drainCancel
  /-- DRAIN_RENOTIFY (R451). Every RENOTIFY seconds in REQUESTED, the EVENT is sent again. -/
  | drainRenotify
  /-- DRAIN_SAFE (R452). Quiescing completes, the drain enters SAFE and SAFE_REMOVE lights steady. -/
  | drainSafe
  /-- DRAIN_LIMIT_EXPIRE (R452). SAFE is not reached within DRAIN_LIMIT; the device quenches with cause 6 and raises STW source 8. -/
  | drainLimitExpire
  /-- REGISTER_WRITE (R10). A write to a register with no row of its own is stored or ignored according to its access code and locks. -/
  | registerWrite (a : BitVec 26) (v : BitVec 64) (wide : Bool) (e : BootEnv)
  /-- MLD_INJ_ACC_OVF (R404). Arms a forced accumulator overflow in the next round. -/
  | mldInjAccOvf (c : Core)
  /-- MLD_INJ_OPND_CRC1 (R404). Arms a single failure of the next operand CRC check. -/
  | mldInjOpndCrc1 (c : Core)
  /-- MLD_INJ_OPND_CRC2 (R404). Arms a double failure of the next operand CRC check. -/
  | mldInjOpndCrc2 (c : Core)
  /-- MLD_INJ_ACC_UE (R404). Arms an uncorrectable error on the next accumulator word read. -/
  | mldInjAccUe (c : Core)
  /-- MLD_INJ_STAT_PAR (R404). Arms a parity failure on the next stationary load. -/
  | mldInjStatPar (c : Core)
  /-- ASY_INJ_CAP_UE (R404). Arms an uncorrectable error on the next capture word read. -/
  | asyInjCapUe (c : Core)
  /-- ASY_INJ_IMG_CRC1 (R404). Arms a single failure of the next image CRC check. -/
  | asyInjImgCrc1 (c : Core)
  /-- ASY_INJ_IMG_CRC2 (R404). Arms a double failure of the next image CRC check. -/
  | asyInjImgCrc2 (c : Core)
  /-- ASY_INJ_BLK_NF (R404). Arms the next blended block to be treated as non-finite. -/
  | asyInjBlkNf (c : Core)
  /-- CRU_INJ_STORE_UE (R404). Arms an uncorrectable error on the next resident-store word read. -/
  | cruInjStoreUe (c : Core)
  /-- CRU_INJ_PIVOT (R404). Arms the next pivot to be replaced by τ. -/
  | cruInjPivot (c : Core)
  /-- CRU_INJ_IMG_CRC1 (R404). Arms a single failure of the next Crucible image CRC check. -/
  | cruInjImgCrc1 (c : Core)
  /-- CRU_INJ_IMG_CRC2 (R404). Arms a double failure of the next Crucible image CRC check. -/
  | cruInjImgCrc2 (c : Core)
  /-- CRU_INJ_SAT (R404). Arms a saturation of the next result entry written. -/
  | cruInjSat (c : Core)
  /-- LDL_INJ_CACHE_UE (R404). Arms an uncorrectable error on the next operand-cache word read. -/
  | ldlInjCacheUe (c : Core)
  /-- LDL_INJ_TUN_CRC1 (R404). Arms a single failure of the next Tundish tile CRC check. -/
  | ldlInjTunCrc1 (c : Core)
  /-- LDL_INJ_TUN_CRC2 (R404). Arms a double failure of the next Tundish tile CRC check. -/
  | ldlInjTunCrc2 (c : Core)
  /-- LDL_INJ_REG_PAR (R404). Arms a parity failure on the next register read. -/
  | ldlInjRegPar (c : Core)
  /-- SPR_INJ_DESC_CRC1 (R404). Arms a single failure of the next descriptor CRC check. -/
  | sprInjDescCrc1 (c : Core)
  /-- SPR_INJ_DESC_CRC2 (R404). Arms a double failure of the next descriptor CRC check. -/
  | sprInjDescCrc2 (c : Core)
  /-- SPR_INJ_PAT_UE (R404). Arms an uncorrectable error on the next pattern-store word read. -/
  | sprInjPatUe (c : Core)
  /-- FRM_INJ_CHK_FAIL (R404). Arms the next armed frame check to find its counter at 0. -/
  | frmInjChkFail
  /-- FRM_INJ_LATE (R404). Arms the next stamped arrival to be treated as late. -/
  | frmInjLate
  /-- FRM_INJ_ALIGN_LOSS (R404). Arms the next beacon to be treated as 16 ns in error. -/
  | frmInjAlignLoss
  /-- TUN_INJ_CE (R404). Arms a corrected error on the next bank word read. -/
  | tunInjCe (d : Die)
  /-- TUN_INJ_UE (R404). Arms an uncorrectable error on the next bank word read. -/
  | tunInjUe (d : Die)
  /-- TUN_INJ_SIDECAR (R404). Arms an inverted HCRC on the next sidecar header written. -/
  | tunInjSidecar (d : Die)
  /-- RUN_INJ_SRC_CRC1 (R404). Arms a single failure of the next Runner source check. -/
  | runInjSrcCrc1 (c : Core)
  /-- RUN_INJ_SRC_CRC2 (R404). Arms a double failure of the next Runner source check. -/
  | runInjSrcCrc2 (c : Core)
  /-- RUN_INJ_REMOTE_ERR (R404). Arms an error response on the next remote response. -/
  | runInjRemoteErr (c : Core)
  /-- HBM_INJ_CE (R404). Arms a corrected error report on the next sector read. -/
  | hbmInjCe (k : Stack)
  /-- HBM_INJ_UE (R404). Arms an uncorrectable error report on the next sector read. -/
  | hbmInjUe (k : Stack)
  /-- HBM_INJ_PAR1 (R404). Arms a single parity failure of the next write command. -/
  | hbmInjPar1 (k : Stack)
  /-- HBM_INJ_HOT (R404). Arms the next stack temperature reading to be 90 °C. -/
  | hbmInjHot (k : Stack)
  /-- ING_INJ_RETRY (R404). Arms one decoding failure on the next page read. -/
  | ingInjRetry
  /-- ING_INJ_READ_FAIL (R404). Arms the next page read to fail every retry. -/
  | ingInjReadFail
  /-- ING_INJ_PROG_FAIL (R404). Arms the next program to fail and retire its block. -/
  | ingInjProgFail
  /-- ING_INJ_WB_EMPTY (R404). Arms the write budget bucket to be treated as 0 at the next write. -/
  | ingInjWbEmpty
  /-- AVL_INJ_LCRC (R404). Arms an LCRC failure on the next received sequenced flit. -/
  | avlInjLcrc (p : Port)
  /-- AVL_INJ_UNCORR (R404). Arms the next received codeword to be uncorrectable. -/
  | avlInjUncorr (p : Port)
  /-- AVL_INJ_LANE_BAD (R404). Arms receive lane 0's next window to exceed LANE_THRESH. -/
  | avlInjLaneBad (p : Port)
  /-- AVL_INJ_AUTH (R404). Arms a tag failure on the next received frame. -/
  | avlInjAuth (p : Port)
  /-- ROUT_INJ_UNREACH (R404). Arms the next forwarded packet to be treated as unreachable. -/
  | routInjUnreach
  /-- ROUT_INJ_TIMEOUT (R404). Arms the next remote request to time out. -/
  | routInjTimeout
  /-- COL_INJ_STALE (R404). Arms the next COLL packet to be treated as stale. -/
  | colInjStale
  /-- COL_INJ_CHUNK_CRC1 (R404). Arms a single failure of the next chunk CRC check. -/
  | colInjChunkCrc1
  /-- COL_INJ_CHUNK_CRC2 (R404). Arms a double failure of the next chunk CRC check. -/
  | colInjChunkCrc2
  /-- SW_INJ_SEAL_FLIP (R404). Arms bit 0 of the next seal sent to be inverted. -/
  | swInjSealFlip
  /-- SW_INJ_BALLOT_DROP (R404). Arms the next ballot of this device to be dropped. -/
  | swInjBallotDrop
  /-- JNL_INJ_TORN (R404). Arms the next flush to leave its last tail page unprogrammed. -/
  | jnlInjTorn
  /-- JNL_INJ_RSR_FULL (R404). Arms the next RISER to find the buffer full for WAIT_FRAMES frames. -/
  | jnlInjRsrFull
  /-- JNL_INJ_CAL_BAD (R404). Arms the next start-up to find calibration copy 0 invalid. -/
  | jnlInjCalBad
  /-- PWR_INJ_VIN_LOW (R404). Arms the next input sample to read 39,000 mV. -/
  | pwrInjVinLow
  /-- PWR_INJ_HOT (R404). Arms the next junction sensor reading to be 106 °C. -/
  | pwrInjHot
  /-- PWR_INJ_TRIP (R404). Arms the next two readings of sensor 0 to be 116 °C. -/
  | pwrInjTrip
  /-- TRU_INJ_BAD_SIG (R404). Arms the next verification to fail with BAD_SIG. -/
  | truInjBadSig
  /-- TRU_INJ_RNG (R404). Arms the next random-source health test to fail. -/
  | truInjRng
  /-- HDR_PARITY_INJ (R391). Arms a parity error on the next read of a header word, which quenches the device. -/
  | hdrParityInj (a : BitVec 26)
  /-- REGULATORS_STOP (R373). The input falls below 32 V, the regulators stop and any flush still running is cut, leaving the device unpowered. -/
  | regulatorsStop
  /-- PHASE_OVER_CURRENT (R407). A regulator phase reports current above its limit, and the device quenches with cause 3. -/
  | phaseOverCurrent
  /-- SPARE_EQUALISATION_DONE (R292). The receiver finishes equalising the spare lane against the mirrored data, within 1 ms, and sends a CTRL switch naming a codeword at least 256 ahead. -/
  | spareEqualisationDone (p : Port)
deriving DecidableEq, Repr

end Sys2Proof
end

