-- ==== Sys2Proof/Decode.lean ====
section
/-!
DEFINITION. Decode.lean: the words of the opcode table. The table gives its rows no bits: a command of the block is not an
encoded word, so none is read from one (log entry 2).
-/
namespace Sys2Proof

/-- The command that a word spells by the table's bits: none, as the table gives bits to no row. -/
def decodeTableWord (_nbits _w : Nat) : Option Instr := none

end Sys2Proof
end

