-- ==== Sys2Proof/Machine/Crc.lean ====
section
/-!
DEFINITION. Machine/Crc.lean: the three cyclic redundancy checks of the spec, all in reflected form with an all-ones
initial value and an all-ones final exclusive or: CRC-32C (R169), the link CRC-32 (R286) and CRC-64 (R353).
-/
namespace Sys2Proof.Machine

/-- One bit of a reflected CRC whose reflected polynomial is `poly`. -/
def crcBit (poly c : Nat) : Nat := if c % 2 = 1 then (c / 2) ^^^ poly else c / 2

/-- One byte of a reflected CRC. -/
def crcByte (poly c : Nat) (b : Byte) : Nat :=
  let x := c ^^^ b.toNat
  crcBit poly (crcBit poly (crcBit poly (crcBit poly (crcBit poly (crcBit poly (crcBit poly (crcBit poly x)))))))

/-- R169: the CRC-32C (Castagnoli, 0x1EDC6F41) of a byte string. -/
def crc32c (bs : List Byte) : Nat := (bs.foldl (crcByte 0x82F63B78) 0xFFFFFFFF) ^^^ 0xFFFFFFFF

/-- R286: the link CRC-32 (IEEE 802.3, 0x04C11DB7) of a byte string. -/
def crc32 (bs : List Byte) : Nat := (bs.foldl (crcByte 0xEDB88320) 0xFFFFFFFF) ^^^ 0xFFFFFFFF

/-- R353: the running state of the seal's CRC-64 (ECMA-182, 0x42F0E1EBA9EA3693) before its final exclusive or. -/
def crc64Init : Nat := 0xFFFFFFFFFFFFFFFF

/-- R353: more bytes folded into a running CRC-64. -/
def crc64Fold (c : Nat) (bs : List Byte) : Nat := bs.foldl (crcByte 0xC96C5795D7870F42) c

/-- R353: the final exclusive or of the CRC-64. -/
def crc64Done (c : Nat) : Nat := c ^^^ 0xFFFFFFFFFFFFFFFF

/-- R353: the CRC-64 of a byte string. -/
def crc64 (bs : List Byte) : Nat := crc64Done (crc64Fold crc64Init bs)

/-- A byte string whose last four bytes hold the CRC-32C of the bytes before it. -/
def withCrc32c (bs : List Byte) : List Byte := bs ++ leBytes 4 (crc32c bs)

end Sys2Proof.Machine
end

