-- ==== Sys2Proof/Config.lean ====
section
/-!
DEFINITION. Config.lean: what an implementation fixes and the spec does not give: opaque constants, so that a statement
holds for every value of them.
-/
namespace Sys2Proof

/-- A free value: what the hardware produces where the spec gives no value (log entry 3). The argument is the draw's
number, so two draws are unrelated. -/
opaque Config.freeValue : Nat → BitVec 64

/-- A free value: the stored 32-bit quotient of a number (numerator and denominator) by a factor entry that has been
rounded to 0, for which R114 and R120 state none (log entry 31). -/
opaque Config.quotByZero : Int → Nat → BitVec 32

/-- R196: word `k` of vendor pattern `id`, as the ROM of the stepping holds it (log entry 35). -/
opaque Config.vendorWord : Nat → Nat → BitVec 256

/-- R189, R196: the engine code of vendor pattern `id`; the spec does not say which engine a vendor pattern is for (log entry
35). -/
opaque Config.vendorEngine : Nat → Nat

/-- R196: word `k` of the vendor ROM as `PAT_RD_DATA` reads it; the spec gives the ROM no layout (log entry 35). -/
opaque Config.romWord : Nat → BitVec 256

/-- R224: which columns the (137,128) code of the Tundish gives its data bits; the spec does not give its matrix
(log entry 43). -/
opaque Config.eccColumn : Nat → BitVec 9

/-- R203: the drift, in ps over the next frame, that a device predicts from its last two phase errors; the spec does not give
the estimate (log entry 49). -/
opaque Config.predictedDrift : Int → Int → Int

end Sys2Proof
end

