-- ==== Sys2Proof/Machine/Flags.lean ====
section
/-!
DEFINITION. Machine/Flags.lean: the format events a descriptor collects (R52): what its completion record reports.
-/
namespace Sys2Proof.Machine

/-- R52: the format events of one descriptor. -/
structure Flags where
  overflow : Bool := false
  nan : Bool := false
  inf : Bool := false
  under : Nat := 0
  sat : Nat := 0
deriving DecidableEq, Repr

/-- Two sets of events together. -/
def Flags.join (a b : Flags) : Flags :=
  { overflow := a.overflow || b.overflow, nan := a.nan || b.nan, inf := a.inf || b.inf,
    under := a.under + b.under, sat := a.sat + b.sat }

/-- R138: the events of `n` saturations: overflow, and the saturation count. -/
def satFlags (n : Nat) : Flags := { overflow := decide (0 < n), sat := n }

/-- R194: the event bits of a completion record's status word. -/
def Flags.bits (fl : Flags) : Nat := b2n fl.overflow * 2 ^ 8 + b2n fl.nan * 2 ^ 9 + b2n fl.inf * 2 ^ 10

end Sys2Proof.Machine
end

