-- ==== Sys2Proof/Machine/Numbers.lean ====
section
/-!
DEFINITION. Machine/Numbers.lean: chapter 02: the fifteen formats and their exact values, the one rounding of R47–R49,
the stochastic rounding generator of R51, the sticky flags of R52 and the group sum of R53–R56.
-/
namespace Sys2Proof.Machine

/-- R34: the fifteen formats, in the order of their codes 0x0–0xE. -/
inductive Fmt where
  | fp32 | fp24 | bf16 | fp16 | e5m2 | e4m3 | e3m4 | e2m1 | int8 | int4 | q16 | q32 | q64 | pair | wa64
deriving DecidableEq, Repr

/-- R34: the format a 4-bit code names; 0xF is reserved. -/
def Fmt.ofCode : Nat → Option Fmt
  | 0 => some .fp32 | 1 => some .fp24 | 2 => some .bf16 | 3 => some .fp16 | 4 => some .e5m2
  | 5 => some .e4m3 | 6 => some .e3m4 | 7 => some .e2m1 | 8 => some .int8 | 9 => some .int4
  | 10 => some .q16 | 11 => some .q32 | 12 => some .q64 | 13 => some .pair | 14 => some .wa64
  | _ => none

/-- R34: the 4-bit code of a format. -/
def Fmt.code : Fmt → Nat
  | .fp32 => 0 | .fp24 => 1 | .bf16 => 2 | .fp16 => 3 | .e5m2 => 4 | .e4m3 => 5 | .e3m4 => 6 | .e2m1 => 7
  | .int8 => 8 | .int4 => 9 | .q16 => 10 | .q32 => 11 | .q64 => 12 | .pair => 13 | .wa64 => 14

/-- R34: the width of a format, in bits. -/
def Fmt.width : Fmt → Nat
  | .fp32 => 32 | .fp24 => 24 | .bf16 => 16 | .fp16 => 16 | .e5m2 => 8 | .e4m3 => 8 | .e3m4 => 8 | .e2m1 => 4
  | .int8 => 8 | .int4 => 4 | .q16 => 16 | .q32 => 32 | .q64 => 64 | .pair => 32 | .wa64 => 64

/-- R34: the formats with two-level scaling, codes 0x4–0x9. -/
def Fmt.scaled (f : Fmt) : Bool := 4 ≤ f.code && f.code ≤ 9

/-- R39: the Q formats. -/
def Fmt.isQ (f : Fmt) : Bool := f == .q16 || f == .q32 || f == .q64

/-- R39: the integer formats. -/
def Fmt.isInt (f : Fmt) : Bool := f == .int8 || f == .int4

/-- R35: stored significand bits. -/
def Fmt.man : Fmt → Nat
  | .fp32 => 23 | .fp24 => 15 | .bf16 => 7 | .fp16 => 10 | .e5m2 => 2 | .e4m3 => 3 | .e3m4 => 4 | .e2m1 => 1
  | .pair => 7 | .wa64 => 50 | _ => 0

/-- R35: exponent bias. -/
def Fmt.bias : Fmt → Nat
  | .fp32 => 127 | .fp24 => 127 | .bf16 => 127 | .fp16 => 15 | .e5m2 => 15 | .e4m3 => 7 | .e3m4 => 3 | .e2m1 => 1
  | .pair => 127 | .wa64 => 4095 | _ => 0

/-- R35: the format has infinities. -/
def Fmt.hasInf : Fmt → Bool
  | .fp32 | .fp24 | .bf16 | .fp16 | .e5m2 | .wa64 | .pair => true
  | _ => false

/-- R35: the encoding, sign clear, of the largest finite value of a floating format. -/
def Fmt.maxBits : Fmt → Nat
  | .fp32 => 0x7F7FFFFF | .fp24 => 0x7F7FFF | .bf16 => 0x7F7F | .fp16 => 0x7BFF | .e5m2 => 0x7B
  | .e4m3 => 0x7E | .e3m4 => 0x7E | .e2m1 => 0x7 | .pair => 0x7F7F | .wa64 => 0x7FFBFFFFFFFFFFFF | _ => 0

/-- R37: the canonical NaN of a format (0 where it has none). -/
def Fmt.nanBits : Fmt → Nat
  | .fp32 => 0x7FC00000 | .fp24 => 0x7FC000 | .bf16 => 0x7FC0 | .fp16 => 0x7E00 | .e5m2 => 0x7E
  | .e4m3 => 0x7F | .e3m4 => 0x7F | .wa64 => 0x7FFE000000000000 | .pair => 0x7FC0 | _ => 0

/-- R45: emax of fine-scale selection. -/
def Fmt.emax : Fmt → Nat
  | .e5m2 => 15 | .e4m3 => 8 | .e3m4 => 4 | .e2m1 => 2 | .int8 => 6 | .int4 => 2 | _ => 0

/-- R41: elements in one 16 KiB payload. -/
def Fmt.perTile : Fmt → Nat
  | .fp32 | .q32 | .pair => 4096 | .wa64 | .q64 => 2048 | .fp24 => 5461 | .bf16 | .fp16 | .q16 => 8192
  | .e5m2 | .e4m3 | .e3m4 | .int8 => 16384 | .e2m1 | .int4 => 32768

/-- An exact value: what an encoding stands for, before any rounding. `fin neg q` is ± `q` with `q ≥ 0`, so that
−0 is kept apart from +0 (R38). -/
inductive Val where
  | nan
  | inf (neg : Bool)
  | fin (neg : Bool) (mag : Rat)
deriving DecidableEq, Repr

/-- 2 to an integer power, exactly. -/
def pow2 (e : Int) : Rat := if 0 ≤ e then mkRat (2 ^ e.toNat) 1 else mkRat 1 (2 ^ (-e).toNat)

/-- The exact value of a rational number; zero is +0 (R38). -/
def Val.ofRat (q : Rat) : Val := if q < 0 then .fin true (-q) else .fin false q

/-- The rational number a finite value stands for (0 for the others). -/
def Val.toRat : Val → Rat
  | .fin true q => -q
  | .fin false q => q
  | _ => 0

def Val.isNan : Val → Bool | .nan => true | _ => false
def Val.isInf : Val → Bool | .inf _ => true | _ => false
def Val.isFin : Val → Bool | .fin _ _ => true | _ => false
/-- The sign bit. -/
def Val.sign : Val → Bool | .nan => false | .inf n => n | .fin n _ => n
def Val.isZero : Val → Bool | .fin _ q => q == 0 | _ => false

/-- The value with its sign inverted. -/
def Val.neg : Val → Val | .nan => .nan | .inf n => .inf (!n) | .fin n q => .fin (!n) q

/-- The value with its sign cleared. -/
def Val.abs : Val → Val | .nan => .nan | .inf _ => .inf false | .fin _ q => .fin false q

/-- The exact sum; ∞ − ∞ is NaN; an exact zero from nonzero operands is +0, and +0 + −0 is +0 (R38). -/
def Val.add : Val → Val → Val
  | .nan, _ => .nan
  | _, .nan => .nan
  | .inf a, .inf b => if a = b then .inf a else .nan
  | .inf a, _ => .inf a
  | _, .inf b => .inf b
  | .fin a p, .fin b q =>
    if p = 0 ∧ q = 0 then .fin (a && b) 0
    else Val.ofRat ((Val.fin a p).toRat + (Val.fin b q).toRat)

/-- The exact product; ∞ × 0 is NaN. -/
def Val.mul : Val → Val → Val
  | .nan, _ => .nan
  | _, .nan => .nan
  | .inf a, .inf b => .inf (a != b)
  | .inf a, .fin b q => if q = 0 then .nan else .inf (a != b)
  | .fin a q, .inf b => if q = 0 then .nan else .inf (a != b)
  | .fin a p, .fin b q => .fin (a != b) (p * q)

/-- a < b over the extended reals, NaN below nothing; −0 and +0 are equal. -/
def Val.lt : Val → Val → Bool
  | .nan, _ => false
  | _, .nan => false
  | .inf a, .inf b => a && !b
  | .inf a, .fin _ _ => a
  | .fin _ _, .inf b => !b
  | .fin a p, .fin b q => decide ((Val.fin a p).toRat < (Val.fin b q).toRat)

/-- floor(log2 q) of a positive rational. -/
def floorLog2 (q : Rat) : Int :=
  let k : Int := (Nat.log2 q.num.toNat : Int) - (Nat.log2 q.den : Int)
  if q < pow2 k then k - 1 else if pow2 (k + 1) ≤ q then k + 1 else k

/-- R49: the rounding mode with, for SR, the 32 bits drawn from the generator. -/
inductive Rnd where
  | rne
  | sr (r : Nat)
deriving DecidableEq, Repr

/-- R49: the integer a magnitude in units of u rounds to. -/
def roundMag (m : Rnd) (q : Rat) : Nat :=
  let n := q.floor.toNat
  let fr := q - (n : Rat)
  match m with
  | .rne => if fr < mkRat 1 2 then n else if mkRat 1 2 < fr then n + 1 else if n % 2 = 0 then n else n + 1
  | .sr r =>
    let t := (fr * (2 ^ 32 : Nat)).floor.toNat
    if 2 ^ 32 ≤ t + r then n + 1 else n

/-- R52: the events of reading a value. -/
def Val.seen (v : Val) : Flags := { nan := v.isNan, inf := v.isInf }

/-- R35: the exact value of a floating encoding. -/
def decodeFloat (f : Fmt) (x : Nat) : Val :=
  let m := f.man
  let s := bit x (f.width - 1)
  let body := x % 2 ^ (f.width - 1)
  let e := body / 2 ^ m
  let frac := body % 2 ^ m
  let top := 2 ^ (f.width - 1 - m) - 1
  if f.hasInf && e == top then (if frac = 0 then .inf s else .nan)
  else if (f == .e4m3 || f == .e3m4) && body == 0x7F then .nan
  else if e = 0 then .fin s ((frac : Rat) * pow2 (1 - (f.bias : Int) - m))
  else .fin s (((2 ^ m + frac : Nat) : Rat) * pow2 ((e : Int) - f.bias - m))

/-- The exact value of an element encoding, scales left out; `F` is the fraction-bit count of a Q format (R39), and a
PAIR holds hi in [15:0] and lo in [31:16] (R40). -/
def decodeElem (f : Fmt) (F : Nat) (x : Nat) : Val :=
  match f with
  | .int8 => Val.ofRat (toSigned 8 x : Int)
  | .int4 => Val.ofRat (toSigned 4 x : Int)
  | .q16 => Val.ofRat ((toSigned 16 x : Int) * pow2 (-(F : Int)))
  | .q32 => Val.ofRat ((toSigned 32 x : Int) * pow2 (-(F : Int)))
  | .q64 => Val.ofRat ((toSigned 64 x : Int) * pow2 (-(F : Int)))
  | .pair => (decodeFloat .bf16 (bits x 0 16)).add (decodeFloat .bf16 (bits x 16 16))
  | f => decodeFloat f x

/-- R35: largest finite value of a floating format. -/
def Fmt.maxFin (f : Fmt) : Rat := (decodeFloat (if f = .pair then .bf16 else f) f.maxBits).toRat

/-- R35: smallest normal value of a floating format. -/
def Fmt.minNormal (f : Fmt) : Rat := pow2 (1 - (f.bias : Int))

/-- R48, R49: the encoding (sign clear, possibly beyond the largest finite) of a positive magnitude on the grid of a
floating format; consecutive encodings are consecutive grid points, so a carry into the next binade needs no care. -/
def roundFloatMag (f : Fmt) (m : Rnd) (q : Rat) : Nat :=
  if q = 0 then 0 else
  let e := max (floorLog2 q) (1 - (f.bias : Int))
  let n := roundMag m (q / pow2 (e - f.man))
  (e + f.bias - 1).toNat * 2 ^ f.man + n

/-- The sign bit of a floating format set or clear. -/
def withSign (f : Fmt) (neg : Bool) (b : Nat) : Nat := if neg then b + 2 ^ (f.width - 1) else b

/-- R47: conversion of an exact value to a floating format with one rounding; a finite value never becomes infinite.
NaN and, in a format without infinities, infinity give the NaN encoding; E2M1 has none and gives 0, the NaN being
carried by the block's fine scale (R44). An E4M3 value of exactly 464 is a tie that RNE rounds to 448, which counts no saturation
(log entry 111). -/
def convFloat (f : Fmt) (m : Rnd) : Val → Nat × Flags
  | .nan => (f.nanBits, { nan := true })
  | .inf s => if f.hasInf then (withSign f s (2 ^ (f.width - 1) - 2 ^ f.man), { inf := true })
              else (f.nanBits, { nan := true, inf := true })
  | .fin s q =>
    let b := roundFloatMag f m q
    let tooBig : Bool := decide (f.maxFin < q)
    let tiny : Nat := b2n (decide (0 < q ∧ q < f.minNormal))
    if f.maxBits < b then (withSign f s f.maxBits, { overflow := true, sat := 1, under := tiny })
    else (withSign f s b, { overflow := tooBig, under := tiny })

/-- R47, R39: conversion to an integer held in `w` bits in units of `u`; the largest value is 2^(w−1) − 1 in
magnitude, NaN gives 0 and an infinity ± the largest value. -/
def convInt (w : Nat) (u : Rat) (m : Rnd) : Val → Nat × Flags
  | .nan => (0, { nan := true })
  | .inf s => (ofSigned w (if s then -((2 ^ (w - 1) - 1 : Nat) : Int) else ((2 ^ (w - 1) - 1 : Nat) : Int)),
               { inf := true, sat := 1 })
  | .fin s q =>
    let top : Nat := 2 ^ (w - 1) - 1
    let n := roundMag m (q / u)
    let tooBig : Bool := decide ((top : Rat) * u < q)
    let sg := fun (k : Nat) => ofSigned w (if s then -(k : Int) else (k : Int))
    if top < n then (sg top, { overflow := true, sat := 1 })
    else (sg n, { overflow := tooBig, under := b2n (decide (0 < q ∧ n = 0)) })

/-- R40: forming a PAIR-BF16 from an exact value. -/
def convPair (m : Rnd) (v : Val) : Nat × Flags :=
  let (hi, fl) := convFloat .bf16 m v
  match v with
  | .fin _ _ =>
    if fl.sat > 0 then (hi, fl)
    else
      let d := v.toRat - (decodeFloat .bf16 hi).toRat
      let lo := if d = 0 then 0 else (convFloat .bf16 .rne (Val.ofRat d)).1
      (hi + 2 ^ 16 * lo, { fl with overflow := false })
  | _ => (hi, fl)

/-- R47: conversion of an exact value (already divided by its scales) to a destination format. -/
def convert (f : Fmt) (F : Nat) (m : Rnd) (v : Val) : Nat × Flags :=
  match f with
  | .int8 => convInt 8 1 m v
  | .int4 => convInt 4 1 m v
  | .q16 => convInt 16 (pow2 (-(F : Int))) m v
  | .q32 => convInt 32 (pow2 (-(F : Int))) m v
  | .q64 => convInt 64 (pow2 (-(F : Int))) m v
  | .pair => convPair m v
  | f => convFloat f m v

/-- R54, R47: one rounded addition into an accumulator, which may reach infinity from finite operands (overflow). -/
def accRound (f : Fmt) (m : Rnd) (v : Val) : Nat × Flags :=
  match v with
  | .nan => (f.nanBits, { nan := true })
  | .inf s => (withSign f s (2 ^ (f.width - 1) - 2 ^ f.man), { inf := true })
  | .fin s q =>
    let b := roundFloatMag f m q
    if f.maxBits < b then (withSign f s (2 ^ (f.width - 1) - 2 ^ f.man), { overflow := true, inf := true })
    else (withSign f s b, {})

/-- R44: a coarse scale that makes its whole tensor NaN: zero, subnormal, negative, infinite or NaN. -/
def coarseBad (c : Nat) : Bool :=
  bit c 31 || bits c 23 8 == 0 || bits c 23 8 == 255

/-- The FP32 coarse scale 1.0 of every unscaled tensor (R42). -/
def coarseOne : Nat := 0x3F800000

/-- R42–R44: the exact value of an element under fine scale `f` and coarse scale `c` of its tensor. -/
def scaleVal (fmt : Fmt) (fine coarse : Nat) (v : Val) : Val :=
  if !fmt.scaled then v
  else if fine = 255 ∨ coarseBad coarse then .nan
  else v.mul ((Val.fin false (pow2 ((fine : Int) - 127))).mul (decodeFloat .fp32 coarse))

/-- R45: the fine scale of a block, from its exact values divided by the output coarse scale. -/
def fineScale (fmt : Fmt) (vs : List Val) : Nat :=
  let m := vs.foldl (fun (a : Rat) v => match v with | .fin _ q => if a < q then q else a | _ => a) 0
  if m = 0 then 127
  else
    let f := floorLog2 m - fmt.emax + 127
    if f < 0 then 0 else if 254 < f then 254 else f.toNat

/-- R44, R45: one block of up to 32 values written in a scaled format under coarse scale `c`: its fine scale, the
element encodings and the events. `rnd i` is the rounding of element `i`. -/
def writeBlock (fmt : Fmt) (coarse : Nat) (rnd : Nat → Rnd) (vs : List Val) : Nat × List Nat × Flags :=
  if coarseBad coarse then (255, vs.map (fun _ => 0), { nan := true })
  else
    let bad := vs.any (fun v => v.isNan || (v.isInf && fmt != .e5m2))
    let inff : Bool := vs.any Val.isInf
    if bad then (255, vs.map (fun _ => 0), { nan := true, inf := inff })
    else
      let c := (decodeFloat .fp32 coarse).toRat
      let dv := vs.map (fun v => match v with | .fin s q => Val.fin s (q / c) | v => v)
      let f := fineScale fmt dv
      let u := pow2 ((f : Int) - 127)
      let rs := dv.zipIdx.map (fun (v, i) =>
        convert fmt 0 (rnd i) (match v with | .fin s q => Val.fin s (q / u) | v => v))
      (f, rs.map Prod.fst, rs.foldl (fun a r => a.join r.2) { inf := inff })

/-- R51: rotation left. -/
def rotl (x : Word) (k : Nat) : Word := x.rotateLeft k

/-- R51: the rotation counts of the generator. -/
def srgRot : List Nat := [13, 17, 31, 7, 41, 23]

/-- R51: the round constants of the generator. -/
def srgRc : List Word := [0x3C6F, 0x71A2, 0xB5D4, 0x0E93, 0x6A58, 0xC7E1]

/-- R51: the stochastic rounding generator. -/
def srg (key : Word) (lo hi : Word) : Word :=
  let step := fun (ab : Word × Word) (rc : Nat × Word) =>
    let a := ab.1 + ab.2
    let b := rotl ab.2 rc.1 ^^^ a
    (rotl a 32 + (key ^^^ rc.2), b)
  let (a, b) := (srgRot.zip srgRc).foldl step (lo ^^^ key, hi ^^^ rotl key 29)
  let a := a + b
  let b := rotl b 19 ^^^ a
  a ^^^ rotl b 11

/-- R51: the counter of one result element. -/
structure SrgCtr where
  tensor : Nat
  step : Nat
  elem : Nat
  purpose : Nat
  ordinal : Nat
deriving DecidableEq, Repr

/-- R51: bits [63:0] of the counter. -/
def SrgCtr.lo (c : SrgCtr) : Word :=
  BitVec.ofNat 64 (c.ordinal % 4096 + c.purpose % 16 * 2 ^ 12 + c.elem % 2 ^ 48 * 2 ^ 16)

/-- R51: bits [127:64] of the counter. -/
def SrgCtr.hi (c : SrgCtr) : Word := BitVec.ofNat 64 (c.step % 2 ^ 40 + c.tensor % 2 ^ 24 * 2 ^ 40)

/-- R49: the rounding of a result element under the 2-bit mode field: 0 RNE, 1 SR from the generator. -/
def rndOf (mode : Nat) (key : Word) (c : SrgCtr) : Rnd :=
  if mode = 1 then .sr ((srg key c.lo c.hi).toNat / 2 ^ 32) else .rne

/-- R53: a Mould operand decoded for one pass: sign, integer significand part and the exponent of its least significant
bit, with the special classes and the exact value kept for R56. -/
structure Part where
  neg : Bool
  m : Nat
  e : Int
deriving DecidableEq, Repr

/-- R53: the significand with its hidden bit, its width w, and e_lsb of a floating or integer encoding. -/
def significand (f : Fmt) (x : Nat) : Bool × Nat × Nat × Int :=
  match f with
  | .int8 => let i := toSigned 8 x; (decide (i < 0), i.natAbs, 8, 0)
  | .int4 => let i := toSigned 4 x; (decide (i < 0), i.natAbs, 4, 0)
  | f =>
    let body := x % 2 ^ (f.width - 1)
    let e := body / 2 ^ f.man
    let m := body % 2 ^ f.man
    let s := bit x (f.width - 1)
    if e = 0 then (s, m, f.man + 1, 1 - (f.bias : Int) - f.man)
    else (s, 2 ^ f.man + m, f.man + 1, (e : Int) - f.bias - f.man)

/-- R53: the hi part of an operand, fine scale folded in. -/
def hiPart (f : Fmt) (fine x : Nat) : Part :=
  let g := if f = .pair then Fmt.bf16 else f
  let (s, m, w, e) := significand g (if f = .pair then bits x 0 16 else x)
  let m16 := if w ≤ 16 then m * 2 ^ (16 - w) else m / 2 ^ (w - 16)
  let sc : Int := if f.scaled then (fine : Int) - 127 else 0
  if f = .pair then ⟨s, m, e + sc⟩ else ⟨s, m16 / 256, e + w - 8 + sc⟩

/-- R53: the lo part of an operand. -/
def loPart (f : Fmt) (fine x : Nat) : Part :=
  let g := if f = .pair then Fmt.bf16 else f
  let (s, m, w, e) := significand g (if f = .pair then bits x 16 16 else x)
  let m16 := if w ≤ 16 then m * 2 ^ (16 - w) else m / 2 ^ (w - 16)
  let sc : Int := if f.scaled then (fine : Int) - 127 else 0
  if f = .pair then ⟨s, m, e + sc⟩ else ⟨s, m16 % 256, e + w - 16 + sc⟩

/-- One operand element of the Mould with its format and fine scale. -/
structure Operand where
  fmt : Fmt
  fine : Nat
  bits : Nat
  tensorNan : Bool := false
deriving DecidableEq, Repr

/-- R56: the exact value of an operand, used to resolve special values before any shift. -/
def Operand.exact (o : Operand) : Val :=
  if o.tensorNan then .nan else scaleVal o.fmt o.fine coarseOne (decodeElem o.fmt 0 o.bits)

/-- R53: the parts a pass multiplies: pass 1 hi·hi, pass 2 A_lo·B_hi, pass 3 A_hi·B_lo. -/
def passParts (pass : Nat) (a b : Operand) : Part × Part :=
  let pa := if pass = 2 then loPart a.fmt a.fine a.bits else hiPart a.fmt a.fine a.bits
  let pb := if pass = 3 then loPart b.fmt b.fine b.bits else hiPart b.fmt b.fine b.bits
  (pa, pb)

/-- R54 step 3: a product shifted to LSB weight 2^lsb, magnitude truncated toward zero. -/
def shiftTrunc (neg : Bool) (m : Nat) (e lsb : Int) : Int :=
  let n : Nat := if lsb ≤ e then m * 2 ^ (e - lsb).toNat else m / 2 ^ (lsb - e).toNat
  if neg then -(n : Int) else n

/-- R54, R56: the group sum of up to 32 operand pairs in one pass, as the exact value to add to the accumulator, or
`none` where every product is zero and the accumulator stays unchanged. -/
def groupSum (pass : Nat) (ps : List (Operand × Operand)) : Option Val :=
  let prods := ps.map (fun (a, b) => (a.exact, b.exact))
  let special := prods.filterMap (fun (x, y) =>
    if x.isNan || y.isNan then some Val.nan
    else if x.isInf || y.isInf then some (x.mul y) else none)
  if special ≠ [] then some (special.foldl Val.add (special.headD .nan))
  else
    let raw := ps.map (fun (a, b) =>
      let (p, q) := passParts pass a b
      (p.neg != q.neg, p.m * q.m, p.e + q.e))
    let nz := raw.filter (fun r => r.2.1 ≠ 0)
    match nz with
    | [] => none
    | r0 :: rs =>
      let lead := fun (r : Bool × Nat × Int) => (Nat.log2 r.2.1 : Int) + r.2.2
      let eg := rs.foldl (fun m r => max m (lead r)) (lead r0)
      let s := nz.foldl (fun (t : Int) r => t + shiftTrunc r.1 r.2.1 r.2.2 (eg - 62)) 0
      some (Val.ofRat ((s : Rat) * pow2 (eg - 62)))

/-- R54 step 5: the accumulator after one group: one rounded addition, IEEE 754 rules for specials. -/
def accAdd (accFmt : Fmt) (m : Rnd) (acc : Nat) (g : Option Val) : Nat × Flags :=
  match g with
  | none => (acc, {})
  | some v => accRound accFmt m ((decodeFloat accFmt acc).add v)

end Sys2Proof.Machine
end

