-- ==== Sys2Proof/Machine/Regs.lean ====
section
/-!
DEFINITION. Machine/Regs.lean: the register window of R438 and every register of its pages, with the access codes of
R10 as masks, the reset values of R14 and the fields the spec names. A field `P.REG_FIELD` is a field of `P.REG`.
-/
namespace Sys2Proof.Machine

/-- R438: the kinds of page; `hdr` registers exist in every one of them. -/
inductive PageKind where
  | stw | tru | pwr | grd | cal | spr | mld | asy | cru | ldl | run | tun | hbm | ing | ingch | avl | col | rout
deriving DecidableEq, Repr

/-- R438: the byte offset of a page in the register window. -/
def PageKind.base (p : PageKind) (i : Nat) : Nat :=
  match p with
  | .stw => 0x0000000 | .tru => 0x0010000 | .pwr => 0x0020000 | .grd => 0x0030000 | .cal => 0x0040000
  | .spr => 0x0100000 + i * 0x100000 | .mld => 0x0110000 + i * 0x100000 | .asy => 0x0120000 + i * 0x100000
  | .cru => 0x0130000 + i * 0x100000 | .ldl => 0x0140000 + i * 0x100000 | .run => 0x0150000 + i * 0x100000
  | .tun => 0x0500000 + i * 0x80000 | .hbm => 0x0600000 + i * 0x10000 | .ing => 0x0700000
  | .ingch => 0x0710000 + i * 0x1000 | .avl => 0x0800000 + i * 0x10000 | .col => 0x0980000 | .rout => 0x0990000

/-- R438: the size of a page in bytes. -/
def PageKind.size : PageKind → Nat
  | .tun => 0x80000 | .ingch => 0x1000 | _ => 0x10000

/-- R438: how many pages of a kind there are. -/
def PageKind.count : PageKind → Nat
  | .spr | .mld | .asy | .cru | .ldl | .run => 4 | .tun => 2 | .hbm => 12 | .ingch => 16 | .avl => 24 | _ => 1

/-- R438: the block type code of a page. -/
def PageKind.blockType : PageKind → Nat
  | .stw => 0x01 | .tru => 0x02 | .pwr => 0x03 | .grd => 0x04 | .cal => 0x05 | .spr => 0x10 | .mld => 0x11
  | .asy => 0x12 | .cru => 0x13 | .ldl => 0x14 | .run => 0x15 | .tun => 0x20 | .hbm => 0x21 | .ing => 0x22
  | .ingch => 0x23 | .avl => 0x30 | .col => 0x31 | .rout => 0x32

/-- Every kind of page, in the order of the window. -/
def PageKind.all : List PageKind :=
  [.stw, .tru, .pwr, .grd, .cal, .spr, .mld, .asy, .cru, .ldl, .run, .tun, .hbm, .ing, .ingch, .avl, .col, .rout]

/-- The pages of a core (R438), which R2 numbers by the logical core. -/
def PageKind.ofCore : PageKind → Bool
  | .spr | .mld | .asy | .cru | .ldl | .run => true | _ => false

/-- The severities of R388. -/
inductive Sev where
  | record | notify | halt | quench
deriving DecidableEq, Repr

/-- R388: the 2-bit encoding of a severity. -/
def Sev.code : Sev → Nat | .record => 0 | .notify => 1 | .halt => 2 | .quench => 3

/-- R388: the severity a 2-bit encoding names. -/
def Sev.ofCode : Nat → Sev | 0 => .record | 1 => .notify | 2 => .halt | _ => .quench

/-- The fault sources a page defines beyond the common four, with their reset severities: the fault source tables of
chapters 01, 03–20. -/
def PageKind.ownSources : PageKind → List (Nat × Sev)
  | .stw => [(4, .notify), (5, .notify), (6, .notify), (7, .notify), (8, .record), (9, .notify), (10, .record),
             (11, .notify), (12, .notify), (13, .notify)]
  | .tru => [(4, .notify), (5, .notify), (6, .notify), (7, .record), (8, .notify)]
  | .pwr => [(4, .notify), (5, .notify), (6, .quench), (7, .quench), (8, .notify), (9, .notify), (10, .record),
             (11, .record), (12, .quench), (13, .record), (16, .notify), (17, .notify), (18, .notify), (19, .record)]
  | .grd => [(4, .record), (5, .quench), (6, .notify), (7, .notify)]
  | .cal => [(4, .notify), (5, .record)]
  | .spr => [(4, .halt), (5, .halt), (6, .halt), (7, .notify), (8, .record), (9, .halt), (10, .notify)]
  | .mld => [(4, .notify), (5, .halt), (6, .notify), (7, .halt), (8, .halt)]
  | .asy => [(4, .notify), (5, .halt), (6, .notify)]
  | .cru => [(4, .record), (5, .record), (6, .notify), (7, .halt), (8, .record), (9, .notify)]
  | .ldl => [(4, .halt), (5, .halt), (6, .halt), (7, .halt)]
  | .run => [(4, .halt), (5, .notify), (6, .notify), (7, .halt)]
  | .tun => [(4, .record), (5, .notify), (6, .notify), (7, .notify), (8, .notify)]
  | .hbm => [(4, .record), (5, .quench), (6, .record), (7, .notify)]
  | .ing => [(5, .notify), (6, .record), (7, .notify), (8, .notify), (9, .notify), (10, .notify), (11, .notify),
             (12, .notify), (13, .record), (14, .record)]
  | .ingch => [(4, .notify)]
  | .avl => [(4, .record), (5, .notify), (6, .notify), (7, .notify), (8, .notify), (9, .record), (10, .notify),
             (11, .notify)]
  | .col => [(4, .record), (5, .notify), (6, .notify), (7, .halt), (8, .notify), (9, .notify), (10, .notify),
             (11, .notify), (12, .notify), (13, .halt)]
  | .rout => [(4, .notify), (5, .notify), (6, .record), (7, .record)]

/-- R386: the common sources 0–3 with their reset severities; GRD states its own for 1 and 2 (01), and common source 2
of an HBM page resets to HALT (R253). -/
def PageKind.commonSources : PageKind → List (Nat × Sev)
  | .grd => [(0, .quench), (1, .record), (2, .quench), (3, .notify)]
  | .hbm => [(0, .quench), (1, .record), (2, .halt), (3, .notify)]
  | _ => [(0, .quench), (1, .record), (2, .notify), (3, .notify)]

/-- Every fault source of a page with its reset severity (R384, R386). -/
def PageKind.sources (p : PageKind) : List (Nat × Sev) := p.commonSources ++ p.ownSources

/-- R384: the page defines source `i`. -/
def PageKind.defines (p : PageKind) (i : Nat) : Bool := p.sources.any (fun x => x.1 == i)

/-- R384: one bit per defined source; the bit of a source a page does not define reads 0 and ignores writes. -/
def PageKind.sourceMask (p : PageKind) : Nat := p.sources.foldl (fun m x => m + 2 ^ x.1) 0

/-- R386: the sources whose severity is fixed. -/
def PageKind.fixedSev (p : PageKind) (i : Nat) : Bool :=
  i == 0 || (p == .grd && i == 5) || (p == .hbm && i == 5)

/-- R386: the two 64-bit words of `FLT_SEV` at reset. -/
def sevResets (p : PageKind) : List Nat :=
  [ (p.sources.filter (fun x => x.1 < 32)).foldl (fun m x => m + x.2.code * 2 ^ (2 * x.1)) 0,
    (p.sources.filter (fun x => 32 ≤ x.1)).foldl (fun m x => m + x.2.code * 2 ^ (2 * (x.1 - 32))) 0 ]

/-- R386: the bits of the two words of `FLT_SEV` that a write may change. -/
def sevMask (p : PageKind) (w : Nat) : Nat :=
  (p.sources.filter (fun x => x.1 / 32 == w && !p.fixedSev x.1)).foldl (fun m x => m + 3 * 2 ^ (2 * (x.1 % 32))) 0

/-- R20: the default bridge schedule: the owner code of entry i. -/
def bschedDefault (i : Nat) : Nat :=
  let special := fun (j : Nat) => j % 8 == 7 || j == 6 || j == 38 || j == 22 || j == 54
  if i % 8 = 7 then 4
  else if i = 6 ∨ i = 38 then 5
  else if i = 22 ∨ i = 54 then 6
  else ((List.range i).filter (fun j => !special j)).length % 4

/-- R20: the six words of a default schedule, entry i in bits [3i+2:3i]. -/
def bschedWords : List Nat :=
  let all := (List.range 64).foldl (fun m i => m + bschedDefault i * 2 ^ (3 * i)) 0
  (List.range 6).map (fun k => bits all (32 * k) 32)

/-- R260: the default slot table: the 2-bit entry of partition p (R259: 0 not owned, 1 read, 2 write, 3 either). -/
def slotDefault (p i : Nat) : Nat :=
  let k := i % 16
  let g := i / 16
  if k < 12 then (if k % 4 = p then (if g % 2 = 0 then 1 else 2) else 0)
  else if k = 12 then (if p = 4 then 1 else 0)
  else if k = 13 then (if p = 4 then 2 else 0)
  else if k = 14 then (if (p = 5 ∧ g % 2 = 0) ∨ (p = 6 ∧ g % 2 = 1) then 3 else 0)
  else 0

/-- R260: the 128 words of the default slot tables, partition p at word 16p. -/
def slotTableWords : List Nat :=
  (List.range 128).map (fun w =>
    (List.range 16).foldl (fun m j => m + slotDefault (w / 16) (w % 16 * 16 + j) * 2 ^ (2 * j)) 0)

/-- Chapter 10: `PART_REG0`–`PART_REG7` at reset: RATE in [9:0], BURST 256 in [31:16]. -/
def partRegWords : List Nat :=
  [224, 224, 224, 224, 64, 32, 16, 0].map (fun r => r + 256 * 2 ^ 16)

/-- A register, or an array of `count` registers `stride` bytes apart: where it lies in its page, its width, its reset
values (R14) and, as masks, the bits of each access code of R10. Bits of no mask are RO, ROF or reserved: a write leaves
them. `held` are the bits that a warm reset leaves as they were (R14's dash, R462). `fuse` marks a ROF register. -/
structure Reg where
  page : PageKind
  off : Nat
  count : Nat := 1
  stride : Nat := 4
  wide : Bool := false
  reset : Nat := 0
  resets : List Nat := []
  rw : Nat := 0
  rwl : Nat := 0
  w1s : Nat := 0
  w1c : Nat := 0
  wo : Nat := 0
  held : Nat := 0
  fuse : Bool := false
deriving DecidableEq, Repr

/-- A field of a register: its lowest bit and its width. -/
structure Fld where
  reg : Reg
  lo : Nat
  w : Nat
deriving DecidableEq, Repr

/-- The offset in the register window of element `i` of a register of page instance `inst`. -/
def Reg.addr (r : Reg) (inst i : Nat) : Nat := r.page.base inst + r.off + r.stride * i

/-- The reset value of element `i`. -/
def Reg.resetAt (r : Reg) (i : Nat) : Nat := r.resets.getD i r.reset

/-- The width of a register in bits. -/
def Reg.width (r : Reg) : Nat := if r.wide then 64 else 32

/-! ## Chapter 16, 19, 20: registers of the STW page -/
def STW.STW_STATE : Reg := { page := .stw, off := 0x100 }
def STW.STW_STATE_ROM_DONE : Fld := ⟨STW.STW_STATE, 0, 1⟩
def STW.STW_STATE_BOOTED : Fld := ⟨STW.STW_STATE, 1, 1⟩
def STW.STW_STATE_RECOVERY : Fld := ⟨STW.STW_STATE, 2, 1⟩
def STW.CC_STATE : Reg := { page := .stw, off := 0x104, reset := 0x1 }
def STW.CC_STATE_RUNNING : Fld := ⟨STW.CC_STATE, 0, 4⟩
def STW.CC_STATE_HALTED : Fld := ⟨STW.CC_STATE, 4, 4⟩
def STW.BOOT_STATE : Reg := { page := .stw, off := 0x108, reset := 0x1 }
def STW.BOOT_STATE_STEP : Fld := ⟨STW.BOOT_STATE, 0, 4⟩
def STW.BOOT_STATE_READY : Fld := ⟨STW.BOOT_STATE, 4, 1⟩
def STW.BOOT_STATE_RECOV_FETCH : Fld := ⟨STW.BOOT_STATE, 5, 1⟩
def STW.BOOT_CAUSE : Reg := { page := .stw, off := 0x10c }
def STW.BOOT_CAUSE_CAUSE : Fld := ⟨STW.BOOT_CAUSE, 0, 3⟩
def STW.IRQ_ROUTE : Reg := { page := .stw, off := 0x110, count := 4, stride := 4, rw := 0xffffffff }
def STW.DBG_EN : Reg := { page := .stw, off := 0x120, rwl := 0x1 }
def STW.DBG_EN_EN : Fld := ⟨STW.DBG_EN, 0, 1⟩
def STW.SB_POLICY : Reg := { page := .stw, off := 0x124, rwl := 0x1 }
def STW.SB_POLICY_RO : Fld := ⟨STW.SB_POLICY, 0, 1⟩
def STW.SB_REFUSED : Reg := { page := .stw, off := 0x128 }
def STW.RST_CMD : Reg := { page := .stw, off := 0x12c, wo := 0xffff, held := 0xffffffff }
def STW.BOOT_MS : Reg := { page := .stw, off := 0x140, count := 9, stride := 4 }
def STW.BOOT_OVER : Reg := { page := .stw, off := 0x164 }
def STW.BOOT_OVER_MASK : Fld := ⟨STW.BOOT_OVER, 0, 9⟩
def STW.RECOV_WIN : Reg := { page := .stw, off := 0x170, wide := true, stride := 8, rw := 0x7ffffffffffff }
def STW.RECOV_WIN_BASE : Fld := ⟨STW.RECOV_WIN, 0, 48⟩
def STW.RECOV_WIN_TYPE : Fld := ⟨STW.RECOV_WIN, 48, 2⟩
def STW.RECOV_WIN_VALID : Fld := ⟨STW.RECOV_WIN, 50, 1⟩
def STW.RECOV_LEN : Reg := { page := .stw, off := 0x178, rw := 0xffffffff }
def STW.RECOV_SRC : Reg := { page := .stw, off := 0x17c }
def STW.RECOV_SRC_ID : Fld := ⟨STW.RECOV_SRC, 0, 17⟩
def STW.RECOV_SRC_HOST : Fld := ⟨STW.RECOV_SRC, 17, 1⟩
def STW.RECOV_SRC_PORT : Fld := ⟨STW.RECOV_SRC, 18, 5⟩
def STW.RECOV_SRC_VALID : Fld := ⟨STW.RECOV_SRC, 23, 1⟩
def STW.LOP_CMD : Reg := { page := .stw, off := 0x200, count := 4, stride := 64, rw := 0xf, w1s := 0x30 }
def STW.LOP_CMD_OP : Fld := ⟨STW.LOP_CMD, 0, 4⟩
def STW.LOP_CMD_GO : Fld := ⟨STW.LOP_CMD, 4, 1⟩
def STW.LOP_CMD_ABORT : Fld := ⟨STW.LOP_CMD, 5, 1⟩
def STW.LOP_STATUS : Reg := { page := .stw, off := 0x204, count := 4, stride := 64 }
def STW.LOP_STATUS_STATE : Fld := ⟨STW.LOP_STATUS, 0, 3⟩
def STW.LOP_STATUS_RESULT : Fld := ⟨STW.LOP_STATUS, 8, 8⟩
def STW.LOP_SRC : Reg := { page := .stw, off := 0x208, count := 4, stride := 64, wide := true, rw := 0x3ffffffffffff }
def STW.LOP_SRC_ADDR : Fld := ⟨STW.LOP_SRC, 0, 48⟩
def STW.LOP_SRC_KIND : Fld := ⟨STW.LOP_SRC, 48, 2⟩
def STW.LOP_DST : Reg := { page := .stw, off := 0x210, count := 4, stride := 64, wide := true, rw := 0x3ffffffffffff }
def STW.LOP_DST_ADDR : Fld := ⟨STW.LOP_DST, 0, 48⟩
def STW.LOP_DST_KIND : Fld := ⟨STW.LOP_DST, 48, 2⟩
def STW.LOP_LEN : Reg := { page := .stw, off := 0x218, count := 4, stride := 64, wide := true, rw := 0xffffffffffffffff }
def STW.LOP_PROGRESS : Reg := { page := .stw, off := 0x220, count := 4, stride := 64, wide := true }
def STW.LOP_REMOTE : Reg := { page := .stw, off := 0x228, count := 4, stride := 64, rw := 0x1ffff }
def STW.LOP_REMOTE_DEV : Fld := ⟨STW.LOP_REMOTE, 0, 17⟩
def STW.LOP_ERRORS : Reg := { page := .stw, off := 0x22c, count := 4, stride := 64 }
def STW.SVC_STATE : Reg := { page := .stw, off := 0x300 }
def STW.SVC_STATE_DRAIN : Fld := ⟨STW.SVC_STATE, 0, 2⟩
def STW.SVC_STATE_EARLY : Fld := ⟨STW.SVC_STATE, 2, 1⟩
def STW.SVC_STATE_FORCED : Fld := ⟨STW.SVC_STATE, 3, 1⟩
def STW.SVC_STATE_ATTN : Fld := ⟨STW.SVC_STATE, 4, 1⟩
def STW.SVC_LAMP : Reg := { page := .stw, off := 0x304, rw := 0xf }
def STW.SVC_LAMP_LOCATE : Fld := ⟨STW.SVC_LAMP, 0, 2⟩
def STW.SVC_LAMP_SERVICE : Fld := ⟨STW.SVC_LAMP, 2, 2⟩
def STW.SVC_LAMP_SAFE_REMOVE : Fld := ⟨STW.SVC_LAMP, 4, 2⟩
def STW.SVC_CMD : Reg := { page := .stw, off := 0x308, w1s := 0x7 }
def STW.SVC_CMD_DRAIN_REQ : Fld := ⟨STW.SVC_CMD, 0, 1⟩
def STW.SVC_CMD_DRAIN_GO : Fld := ⟨STW.SVC_CMD, 1, 1⟩
def STW.SVC_CMD_DRAIN_CANCEL : Fld := ⟨STW.SVC_CMD, 2, 1⟩
def STW.SVC_TGT : Reg := { page := .stw, off := 0x30c, reset := 0x3f }
def STW.SVC_TGT_TGT : Fld := ⟨STW.SVC_TGT, 0, 6⟩
def STW.DRAIN_CTRL : Reg := { page := .stw, off := 0x310, reset := 0xa03e8, rw := 0xffffff }
def STW.DRAIN_CTRL_DRAIN_LIMIT : Fld := ⟨STW.DRAIN_CTRL, 0, 16⟩
def STW.DRAIN_CTRL_RENOTIFY : Fld := ⟨STW.DRAIN_CTRL, 16, 8⟩
def STW.SVC_PRESSES : Reg := { page := .stw, off := 0x314 }
def STW.Q_STATE : Reg := { page := .stw, off := 0x400 }
def STW.Q_STATE_QUENCHED : Fld := ⟨STW.Q_STATE, 0, 1⟩
def STW.Q_STATE_EXITING : Fld := ⟨STW.Q_STATE, 1, 1⟩
def STW.Q_STATE_SAFE : Fld := ⟨STW.Q_STATE, 2, 1⟩
def STW.Q_STATE_FLASH_BUSY : Fld := ⟨STW.Q_STATE, 3, 1⟩
def STW.Q_CAUSE : Reg := { page := .stw, off := 0x404, held := 0xffffffff }
def STW.Q_CAUSE_CODE : Fld := ⟨STW.Q_CAUSE, 0, 4⟩
def STW.Q_CAUSE_TYPE : Fld := ⟨STW.Q_CAUSE, 4, 8⟩
def STW.Q_CAUSE_INST : Fld := ⟨STW.Q_CAUSE, 12, 8⟩
def STW.Q_CAUSE_SRC : Fld := ⟨STW.Q_CAUSE, 20, 6⟩
def STW.Q_COUNT : Reg := { page := .stw, off := 0x408, held := 0xffffffff }
def STW.Q_LATER : Reg := { page := .stw, off := 0x40c }
def STW.Q_NONCE : Reg := { page := .stw, off := 0x410, wide := true, stride := 8, held := 0xffffffffffffffff }
def STW.Q_FRAME : Reg := { page := .stw, off := 0x418, wide := true, stride := 8, held := 0xffffffffffffffff }
def STW.Q_FRAME_F : Fld := ⟨STW.Q_FRAME, 0, 48⟩
def STW.Q_SWREQ : Reg := { page := .stw, off := 0x420, wo := 0xffff, held := 0xffffffff }
def STW.Q_EXIT_REFUSED : Reg := { page := .stw, off := 0x424 }
def STW.WDOG_CTRL : Reg := { page := .stw, off := 0x428, reset := 0xf0064, rwl := 0xfffff }
def STW.WDOG_CTRL_PERIOD : Fld := ⟨STW.WDOG_CTRL, 0, 16⟩
def STW.WDOG_CTRL_ARMED : Fld := ⟨STW.WDOG_CTRL, 16, 4⟩
def STW.WDOG_KICK : Reg := { page := .stw, off := 0x42c, wo := 0x3, held := 0xffffffff }
def STW.WDOG_STATE : Reg := { page := .stw, off := 0x430 }
def STW.WDOG_STATE_MISSED : Fld := ⟨STW.WDOG_STATE, 0, 4⟩
def STW.SCRUB_CTRL : Reg := { page := .stw, off := 0x434, reset := 0x10fff, rw := 0x1ffff }
def STW.SCRUB_CTRL_CACHE : Fld := ⟨STW.SCRUB_CTRL, 0, 4⟩
def STW.SCRUB_CTRL_CRU : Fld := ⟨STW.SCRUB_CTRL, 4, 4⟩
def STW.SCRUB_CTRL_PAT : Fld := ⟨STW.SCRUB_CTRL, 8, 4⟩
def STW.SCRUB_CTRL_ASY : Fld := ⟨STW.SCRUB_CTRL, 12, 4⟩
def STW.SCRUB_CTRL_STW : Fld := ⟨STW.SCRUB_CTRL, 16, 1⟩
def STW.INJ_EN : Reg := { page := .stw, off := 0x438, rwl := 0x1 }
def STW.INJ_EN_EN : Fld := ⟨STW.INJ_EN, 0, 1⟩

/-! ## Chapter 18: registers of the TRU page -/
def TRU.TRU_STATE : Reg := { page := .tru, off := 0x100 }
def TRU.TRU_STATE_OWNER : Fld := ⟨TRU.TRU_STATE, 0, 1⟩
def TRU.TRU_STATE_RECOVERY : Fld := ⟨TRU.TRU_STATE, 1, 1⟩
def TRU.TRU_STATE_BUSY : Fld := ⟨TRU.TRU_STATE, 2, 1⟩
def TRU.TRU_STATE_RNG_OK : Fld := ⟨TRU.TRU_STATE, 3, 1⟩
def TRU.TRU_STATE_UPD_PENDING : Fld := ⟨TRU.TRU_STATE, 4, 1⟩
def TRU.TRU_CMD : Reg := { page := .tru, off := 0x104, rw := 0x1ff, w1s := 0x80000000 }
def TRU.TRU_CMD_OP : Fld := ⟨TRU.TRU_CMD, 0, 4⟩
def TRU.TRU_CMD_ARG : Fld := ⟨TRU.TRU_CMD, 4, 5⟩
def TRU.TRU_CMD_GO : Fld := ⟨TRU.TRU_CMD, 31, 1⟩
def TRU.TRU_STATUS : Reg := { page := .tru, off := 0x108 }
def TRU.TRU_STATUS_RESULT : Fld := ⟨TRU.TRU_STATUS, 0, 8⟩
def TRU.TRU_STATUS_DONE : Fld := ⟨TRU.TRU_STATUS, 8, 1⟩
def TRU.TRU_BUF : Reg := { page := .tru, off := 0x110, wide := true, stride := 8, rw := 0x7fffffff }
def TRU.TRU_BUF_ADDR : Fld := ⟨TRU.TRU_BUF, 0, 31⟩
def TRU.TRU_BUF_LEN : Reg := { page := .tru, off := 0x118, rw := 0xffffffff }
def TRU.ID_LOT : Reg := { page := .tru, off := 0x120, wide := true, stride := 8, fuse := true }
def TRU.ID_WAFER : Reg := { page := .tru, off := 0x128, fuse := true }
def TRU.ID_DIE : Reg := { page := .tru, off := 0x130, count := 4, stride := 4, fuse := true }
def TRU.ID_DIE_X : Fld := ⟨TRU.ID_DIE, 0, 16⟩
def TRU.ID_DIE_Y : Fld := ⟨TRU.ID_DIE, 16, 16⟩
def TRU.MEAS_SEL : Reg := { page := .tru, off := 0x150, rw := 0x1f }
def TRU.MEAS_SEL_I : Fld := ⟨TRU.MEAS_SEL, 0, 5⟩
def TRU.MEAS_INFO : Reg := { page := .tru, off := 0x154, held := 0xffffffff }
def TRU.MEAS_INFO_TYPE : Fld := ⟨TRU.MEAS_INFO, 0, 8⟩
def TRU.MEAS_INFO_LOADED : Fld := ⟨TRU.MEAS_INFO, 8, 1⟩
def TRU.MEAS_INFO_OWNER : Fld := ⟨TRU.MEAS_INFO, 9, 1⟩
def TRU.MEAS_INFO_PENDING : Fld := ⟨TRU.MEAS_INFO, 10, 1⟩
def TRU.MEAS_INFO_SVN : Fld := ⟨TRU.MEAS_INFO, 16, 16⟩
def TRU.MEAS_VER : Reg := { page := .tru, off := 0x158, held := 0xffffffff }
def TRU.MEAS_FLOOR : Reg := { page := .tru, off := 0x15c, held := 0xffffffff }
def TRU.MEAS_DATA : Reg := { page := .tru, off := 0x160, count := 16, stride := 4, held := 0xffffffff }
def TRU.OWNER_HASH : Reg := { page := .tru, off := 0x1a0, count := 16, stride := 4, held := 0xffffffff }
def TRU.LK_POLICY : Reg := { page := .tru, off := 0x1e0, reset := 0x4, rwl := 0x7 }
def TRU.LK_POLICY_SAME_OWNER : Fld := ⟨TRU.LK_POLICY, 0, 1⟩
def TRU.LK_POLICY_PEER_INJ_LOCKED : Fld := ⟨TRU.LK_POLICY, 1, 1⟩
def TRU.LK_POLICY_AUTO_ROTATE : Fld := ⟨TRU.LK_POLICY, 2, 1⟩
def TRU.LK_STATE : Reg := { page := .tru, off := 0x1e4 }
def TRU.LK_STATE_MASK : Fld := ⟨TRU.LK_STATE, 0, 24⟩
def TRU.UPD_WAIT_FRAMES : Reg := { page := .tru, off := 0x1e8, reset := 0x1000, rw := 0xffff }
def TRU.VERIFY_FAILS : Reg := { page := .tru, off := 0x1ec }
def TRU.RNG_FAILS : Reg := { page := .tru, off := 0x1f0 }
def TRU.INJ : Reg := { page := .tru, off := 0x1f4, w1s := 0x3 }
def TRU.INJ_BAD_SIG : Fld := ⟨TRU.INJ, 0, 1⟩
def TRU.INJ_RNG : Fld := ⟨TRU.INJ, 1, 1⟩
def TRU.CERT_WIN : Reg := { page := .tru, off := 0x800, count := 320, stride := 4, fuse := true }

/-! ## Chapter 08, 17: registers of the PWR page -/
def PWR.PWR_STATE : Reg := { page := .pwr, off := 0x100, reset := 0x20 }
def PWR.PWR_STATE_IN_LOW : Fld := ⟨PWR.PWR_STATE, 0, 1⟩
def PWR.PWR_STATE_IN_HIGH : Fld := ⟨PWR.PWR_STATE, 1, 1⟩
def PWR.PWR_STATE_THROTTLED : Fld := ⟨PWR.PWR_STATE, 2, 1⟩
def PWR.PWR_STATE_HOT : Fld := ⟨PWR.PWR_STATE, 3, 1⟩
def PWR.PWR_STATE_TRIPPING : Fld := ⟨PWR.PWR_STATE, 4, 1⟩
def PWR.PWR_STATE_REFCLK_OK : Fld := ⟨PWR.PWR_STATE, 5, 1⟩
def PWR.VIN : Reg := { page := .pwr, off := 0x104 }
def PWR.IIN : Reg := { page := .pwr, off := 0x108 }
def PWR.PIN_W : Reg := { page := .pwr, off := 0x10c }
def PWR.ENERGY : Reg := { page := .pwr, off := 0x110, wide := true, stride := 8 }
def PWR.PCAP : Reg := { page := .pwr, off := 0x118, reset := 0x1f40c1c, rw := 0xffffffff }
def PWR.PCAP_CAP_W : Fld := ⟨PWR.PCAP, 0, 16⟩
def PWR.PCAP_DEBT_MAX : Fld := ⟨PWR.PCAP, 16, 16⟩
def PWR.PCAP_DEBT : Reg := { page := .pwr, off := 0x11c }
def PWR.THR_CTRL : Reg := { page := .pwr, off := 0x120, reset := 0x8, rw := 0x1f }
def PWR.THR_CTRL_THR_DUTY : Fld := ⟨PWR.THR_CTRL, 0, 4⟩
def PWR.THR_CTRL_THROTTLE : Fld := ⟨PWR.THR_CTRL, 4, 1⟩
def PWR.TJ : Reg := { page := .pwr, off := 0x124 }
def PWR.TJ_NOW : Fld := ⟨PWR.TJ, 0, 8⟩
def PWR.TJ_MAX : Fld := ⟨PWR.TJ, 8, 8⟩
def PWR.TJ_SENSOR : Fld := ⟨PWR.TJ, 16, 8⟩
def PWR.TJ_WARN : Reg := { page := .pwr, off := 0x128, reset := 0x64, rw := 0xff }
def PWR.TJ_WARN_T : Fld := ⟨PWR.TJ_WARN, 0, 8⟩
def PWR.RAIL_SEL : Reg := { page := .pwr, off := 0x130, rw := 0x1f }
def PWR.RAIL_SEL_RAIL : Fld := ⟨PWR.RAIL_SEL, 0, 4⟩
def PWR.RAIL_SEL_CASTING : Fld := ⟨PWR.RAIL_SEL, 4, 1⟩
def PWR.RAIL_DATA : Reg := { page := .pwr, off := 0x134, held := 0xffffffff }
def PWR.RAIL_DATA_MV : Fld := ⟨PWR.RAIL_DATA, 0, 16⟩
def PWR.RAIL_DATA_AMP : Fld := ⟨PWR.RAIL_DATA, 16, 16⟩
def PWR.RAIL_SET : Reg := { page := .pwr, off := 0x138, held := 0xffffffff }
def PWR.RAIL_SET_MV : Fld := ⟨PWR.RAIL_SET, 0, 16⟩
def PWR.STAG_STATE : Reg := { page := .pwr, off := 0x140 }
def PWR.STAG_STATE_PEND : Fld := ⟨PWR.STAG_STATE, 0, 8⟩
def PWR.STAG_STATE_LAST : Fld := ⟨PWR.STAG_STATE, 8, 3⟩
def PWR.GRANTS : Reg := { page := .pwr, off := 0x144 }
def PWR.CLK_STATE : Reg := { page := .pwr, off := 0x148 }
def PWR.CLK_STATE_CK : Fld := ⟨PWR.CLK_STATE, 0, 1⟩
def PWR.CLK_STATE_TK : Fld := ⟨PWR.CLK_STATE, 1, 1⟩
def PWR.CLK_STATE_HK : Fld := ⟨PWR.CLK_STATE, 2, 1⟩
def PWR.CLK_STATE_ONFI : Fld := ⟨PWR.CLK_STATE, 3, 1⟩
def PWR.CLK_STATE_STW : Fld := ⟨PWR.CLK_STATE, 4, 1⟩
def PWR.CLK_STATE_SERDES : Fld := ⟨PWR.CLK_STATE, 5, 1⟩
def PWR.CLK_STATE_REFCLK : Fld := ⟨PWR.CLK_STATE, 16, 16⟩
def PWR.PIN_CTRL : Reg := { page := .pwr, off := 0x150, reset := 0x64, rw := 0x3fff, w1c := 0x4000 }
def PWR.PIN_CTRL_TICK_OUT_EN : Fld := ⟨PWR.PIN_CTRL, 0, 1⟩
def PWR.PIN_CTRL_STROBE_EN : Fld := ⟨PWR.PIN_CTRL, 1, 1⟩
def PWR.PIN_CTRL_TICK_W : Fld := ⟨PWR.PIN_CTRL, 2, 8⟩
def PWR.PIN_CTRL_STROBE_SRC : Fld := ⟨PWR.PIN_CTRL, 10, 2⟩
def PWR.PIN_CTRL_STROBE_CORE : Fld := ⟨PWR.PIN_CTRL, 12, 2⟩
def PWR.PIN_CTRL_PIN_CONFLICT : Fld := ⟨PWR.PIN_CTRL, 14, 1⟩
def PWR.STROBE_SEQ : Reg := { page := .pwr, off := 0x154, rw := 0xffffffff }
def PWR.PWR_INJ : Reg := { page := .pwr, off := 0x158, w1s := 0x7 }
def PWR.PWR_INJ_VIN_LOW : Fld := ⟨PWR.PWR_INJ, 0, 1⟩
def PWR.PWR_INJ_HOT : Fld := ⟨PWR.PWR_INJ, 1, 1⟩
def PWR.PWR_INJ_TRIP : Fld := ⟨PWR.PWR_INJ, 2, 1⟩
def PWR.FRM_CTRL : Reg := { page := .pwr, off := 0x200, rwl := 0x1 }
def PWR.FRM_CTRL_LOCK_REQ : Fld := ⟨PWR.FRM_CTRL, 0, 1⟩
def PWR.FRM_STATE : Reg := { page := .pwr, off := 0x204 }
def PWR.FRM_STATE_LOCKED : Fld := ⟨PWR.FRM_STATE, 0, 1⟩
def PWR.FRM_STATE_ALIGNED : Fld := ⟨PWR.FRM_STATE, 1, 1⟩
def PWR.FRM_STATE_LOCK_REFUSED : Fld := ⟨PWR.FRM_STATE, 2, 1⟩
def PWR.FRM_STATE_WHY_SCHED : Fld := ⟨PWR.FRM_STATE, 3, 1⟩
def PWR.FRM_STATE_WHY_CACHE : Fld := ⟨PWR.FRM_STATE, 4, 1⟩
def PWR.FRM_STATE_WHY_SLOTS : Fld := ⟨PWR.FRM_STATE, 5, 1⟩
def PWR.FRM_STATE_WHY_BUSY : Fld := ⟨PWR.FRM_STATE, 6, 1⟩
def PWR.FRM_STATE_PERIOD_MISMATCH : Fld := ⟨PWR.FRM_STATE, 7, 1⟩
def PWR.FRM_STATE_STRETCH_PENDING : Fld := ⟨PWR.FRM_STATE, 8, 1⟩
def PWR.FRM_PERIOD : Reg := { page := .pwr, off := 0x208, reset := 0x124f80 }
def PWR.FRM_PERIOD_NEXT : Reg := { page := .pwr, off := 0x20c, reset := 0x124f80, rw := 0x3ffffff }
def PWR.FRM_PERIOD_AT : Reg := { page := .pwr, off := 0x210, wide := true, stride := 8, rw := 0xffffffffffff }
def PWR.TICK_COUNT : Reg := { page := .pwr, off := 0x218, wide := true, stride := 8 }
def PWR.FRAME_COUNT : Reg := { page := .pwr, off := 0x220, wide := true, stride := 8 }
def PWR.FRM_SLACK : Reg := { page := .pwr, off := 0x230, count := 4, stride := 4, reset := 0x10, rw := 0xffff }
def PWR.SLACK_USED : Reg := { page := .pwr, off := 0x240, count := 4, stride := 4 }
def PWR.FRM_CHK : Reg := { page := .pwr, off := 0x250, count := 4, stride := 4, rw := 0x1fffffff }
def PWR.FRM_CHK_TOKEN : Fld := ⟨PWR.FRM_CHK, 0, 12⟩
def PWR.FRM_CHK_EXPECT : Fld := ⟨PWR.FRM_CHK, 12, 16⟩
def PWR.FRM_CHK_EN : Fld := ⟨PWR.FRM_CHK, 28, 1⟩
def PWR.FRM_DUE : Reg := { page := .pwr, off := 0x260, count := 4, stride := 4 }
def PWR.ALIGN_CTRL : Reg := { page := .pwr, off := 0x270, rwl := 0x3ffff }
def PWR.ALIGN_CTRL_SRC : Fld := ⟨PWR.ALIGN_CTRL, 0, 17⟩
def PWR.ALIGN_CTRL_MASTER : Fld := ⟨PWR.ALIGN_CTRL, 17, 1⟩
def PWR.ALIGN_ERR : Reg := { page := .pwr, off := 0x274 }
def PWR.ALIGN_ERR_ERR : Fld := ⟨PWR.ALIGN_ERR, 0, 16⟩
def PWR.ALIGN_ERR_TRIM : Fld := ⟨PWR.ALIGN_ERR, 16, 16⟩
def PWR.OVR_COUNT : Reg := { page := .pwr, off := 0x278 }
def PWR.LATE_COUNT : Reg := { page := .pwr, off := 0x27c }
def PWR.IDLE_FRAMES : Reg := { page := .pwr, off := 0x280 }
def PWR.SLICE_MAP : Reg := { page := .pwr, off := 0x284, reset := 0xe4 }
def PWR.OVR_CORE : Reg := { page := .pwr, off := 0x288 }
def PWR.OVR_CORE_CORE : Fld := ⟨PWR.OVR_CORE, 0, 2⟩
def PWR.FRM_INJ : Reg := { page := .pwr, off := 0x28c, w1s := 0x7 }
def PWR.FRM_INJ_CHK_FAIL : Fld := ⟨PWR.FRM_INJ, 0, 1⟩
def PWR.FRM_INJ_LATE : Fld := ⟨PWR.FRM_INJ, 1, 1⟩
def PWR.FRM_INJ_ALIGN_LOSS : Fld := ⟨PWR.FRM_INJ, 2, 1⟩

/-! ## Chapter 00, 01: registers of the GRD page -/
def GRD.GRD_ID : Reg := { page := .grd, off := 0x100, fuse := true }
def GRD.GRD_ID_GRADE : Fld := ⟨GRD.GRD_ID, 0, 8⟩
def GRD.GRD_ID_STEP_LETTER : Fld := ⟨GRD.GRD_ID, 8, 8⟩
def GRD.GRD_ID_STEP_DIGIT : Fld := ⟨GRD.GRD_ID, 16, 8⟩
def GRD.GRD_ID_CORES : Fld := ⟨GRD.GRD_ID, 24, 4⟩
def GRD.GRD_ID_FUSED_CORE : Fld := ⟨GRD.GRD_ID, 28, 4⟩
def GRD.GRD_ENGINES : Reg := { page := .grd, off := 0x104, fuse := true }
def GRD.GRD_ENGINES_MOULD : Fld := ⟨GRD.GRD_ENGINES, 0, 1⟩
def GRD.GRD_ENGINES_ASSAY : Fld := ⟨GRD.GRD_ENGINES, 1, 1⟩
def GRD.GRD_ENGINES_CRUCIBLE : Fld := ⟨GRD.GRD_ENGINES, 2, 1⟩
def GRD.GRD_ENGINES_LADLE : Fld := ⟨GRD.GRD_ENGINES, 3, 1⟩
def GRD.GRD_ENGINES_RUNNERS : Fld := ⟨GRD.GRD_ENGINES, 4, 1⟩
def GRD.GRD_PROFILE : Reg := { page := .grd, off := 0x108, reset := 0xe00, rwl := 0x1 }
def GRD.GRD_PROFILE_REQ : Fld := ⟨GRD.GRD_PROFILE, 0, 1⟩
def GRD.GRD_PROFILE_ACTIVE : Fld := ⟨GRD.GRD_PROFILE, 8, 1⟩
def GRD.GRD_PROFILE_SPARE_CORE : Fld := ⟨GRD.GRD_PROFILE, 9, 3⟩
def GRD.GRD_LIFE : Reg := { page := .grd, off := 0x10c, held := 0xffffffff }
def GRD.GRD_BRIDGE_STATE : Reg := { page := .grd, off := 0x110 }
def GRD.GRD_BRIDGE_STATE_UP : Fld := ⟨GRD.GRD_BRIDGE_STATE, 0, 1⟩
def GRD.GRD_BRIDGE_STATE_SCHED_BAD : Fld := ⟨GRD.GRD_BRIDGE_STATE, 1, 1⟩
def GRD.GRD_BRIDGE_STATE_SPARE_01 : Fld := ⟨GRD.GRD_BRIDGE_STATE, 2, 3⟩
def GRD.GRD_BRIDGE_STATE_SPARE_10 : Fld := ⟨GRD.GRD_BRIDGE_STATE, 5, 3⟩
def GRD.GRD_BRIDGE_CORR : Reg := { page := .grd, off := 0x114 }
def GRD.GRD_BRIDGE_UNCORR : Reg := { page := .grd, off := 0x118 }
def GRD.GRD_BSCHED_LOCK : Reg := { page := .grd, off := 0x11c, rwl := 0x1 }
def GRD.GRD_BSCHED_LOCK_LOCK : Fld := ⟨GRD.GRD_BSCHED_LOCK, 0, 1⟩
def GRD.GRD_BSCHED_01 : Reg := { page := .grd, off := 0x120, count := 6, stride := 4, resets := bschedWords, rwl := 0xffffffff }
def GRD.GRD_BSCHED_10 : Reg := { page := .grd, off := 0x140, count := 6, stride := 4, resets := bschedWords, rwl := 0xffffffff }
def GRD.GRD_PROMOTE : Reg := { page := .grd, off := 0x160, rw := 0x3, w1s := 0x4, held := 0x700 }
def GRD.GRD_PROMOTE_CORE : Fld := ⟨GRD.GRD_PROMOTE, 0, 2⟩
def GRD.GRD_PROMOTE_GO : Fld := ⟨GRD.GRD_PROMOTE, 2, 1⟩
def GRD.GRD_PROMOTE_REFUSED : Fld := ⟨GRD.GRD_PROMOTE, 3, 1⟩
def GRD.GRD_PROMOTE_BUSY : Fld := ⟨GRD.GRD_PROMOTE, 4, 1⟩
def GRD.GRD_PROMOTE_DONE : Fld := ⟨GRD.GRD_PROMOTE, 5, 1⟩
def GRD.GRD_PROMOTE_FAILED_PHYS : Fld := ⟨GRD.GRD_PROMOTE, 8, 2⟩
def GRD.GRD_PROMOTE_FENCED : Fld := ⟨GRD.GRD_PROMOTE, 10, 1⟩
def GRD.PROMO_SEQ : Reg := { page := .grd, off := 0x164 }
def GRD.PROMO_POISON : Reg := { page := .grd, off := 0x168 }

/-! ## Chapter 19: registers of the CAL page -/
def CAL.CAL_STATE : Reg := { page := .cal, off := 0x100 }
def CAL.CAL_STATE_USER_VALID : Fld := ⟨CAL.CAL_STATE, 0, 1⟩
def CAL.CAL_STATE_EDITED : Fld := ⟨CAL.CAL_STATE, 1, 1⟩
def CAL.CAL_STATE_UNKNOWN : Fld := ⟨CAL.CAL_STATE, 16, 12⟩
def CAL.CAL_GEN : Reg := { page := .cal, off := 0x108, wide := true, stride := 8, held := 0xffffffffffffffff }
def CAL.CAL_SEL : Reg := { page := .cal, off := 0x110, rw := 0xff }
def CAL.CAL_SEL_I : Fld := ⟨CAL.CAL_SEL, 0, 8⟩
def CAL.CAL_FACTORY : Reg := { page := .cal, off := 0x114, fuse := true }
def CAL.CAL_USER : Reg := { page := .cal, off := 0x118, rw := 0xffffffff, held := 0xffffffff }
def CAL.CAL_EFFECTIVE : Reg := { page := .cal, off := 0x11c, held := 0xffffffff }
def CAL.CAL_MIN : Reg := { page := .cal, off := 0x120, fuse := true }
def CAL.CAL_MAX : Reg := { page := .cal, off := 0x124, fuse := true }
def CAL.CAL_ITEM : Reg := { page := .cal, off := 0x128, held := 0xffffffff }
def CAL.CAL_ITEM_DEFINED : Fld := ⟨CAL.CAL_ITEM, 0, 1⟩
def CAL.CAL_ITEM_PRESENT : Fld := ⟨CAL.CAL_ITEM, 1, 1⟩
def CAL.CAL_ITEM_CLAMPED : Fld := ⟨CAL.CAL_ITEM, 2, 1⟩
def CAL.CAL_ITEM_PENDING : Fld := ⟨CAL.CAL_ITEM, 3, 1⟩
def CAL.CAL_CMD : Reg := { page := .cal, off := 0x12c, w1s := 0xf }
def CAL.CAL_CMD_APPLY : Fld := ⟨CAL.CAL_CMD, 0, 1⟩
def CAL.CAL_CMD_SAVE : Fld := ⟨CAL.CAL_CMD, 1, 1⟩
def CAL.CAL_CMD_RELOAD : Fld := ⟨CAL.CAL_CMD, 2, 1⟩
def CAL.CAL_CMD_CLEAR : Fld := ⟨CAL.CAL_CMD, 3, 1⟩

/-! ## Chapter 07: registers of the SPR page -/
def SPR.CTRL : Reg := { page := .spr, off := 0x100, rw := 0x5, w1s := 0x2 }
def SPR.CTRL_RUN : Fld := ⟨SPR.CTRL, 0, 1⟩
def SPR.CTRL_RESUME : Fld := ⟨SPR.CTRL, 1, 1⟩
def SPR.CTRL_RESUME_MODE : Fld := ⟨SPR.CTRL, 2, 1⟩
def SPR.STATE : Reg := { page := .spr, off := 0x104 }
def SPR.STATE_STREAM : Fld := ⟨SPR.STATE, 0, 3⟩
def SPR.STATE_Q_FULL : Fld := ⟨SPR.STATE, 3, 1⟩
def SPR.STATE_SPRUE_WAIT : Fld := ⟨SPR.STATE, 4, 1⟩
def SPR.STATE_DEPTH : Fld := ⟨SPR.STATE, 5, 3⟩
def SPR.RING_BASE : Reg := { page := .spr, off := 0x108, wide := true, stride := 8, rw := 0x1f3ffffffffffff }
def SPR.RING_BASE_ADDR : Fld := ⟨SPR.RING_BASE, 0, 48⟩
def SPR.RING_BASE_TYPE : Fld := ⟨SPR.RING_BASE, 48, 2⟩
def SPR.RING_BASE_SIZE : Fld := ⟨SPR.RING_BASE, 52, 5⟩
def SPR.RING_HEAD : Reg := { page := .spr, off := 0x110 }
def SPR.RING_TAIL : Reg := { page := .spr, off := 0x114, rw := 0xffff }
def SPR.RING_TAIL_V : Fld := ⟨SPR.RING_TAIL, 0, 16⟩
def SPR.RING_FREE : Reg := { page := .spr, off := 0x118 }
def SPR.SEQ : Reg := { page := .spr, off := 0x11c }
def SPR.CPL_BASE : Reg := { page := .spr, off := 0x120, wide := true, stride := 8, rw := 0x1f000007fffffff }
def SPR.CPL_BASE_ADDR : Fld := ⟨SPR.CPL_BASE, 0, 31⟩
def SPR.CPL_BASE_SIZE : Fld := ⟨SPR.CPL_BASE, 52, 5⟩
def SPR.CPL_TAIL : Reg := { page := .spr, off := 0x128 }
def SPR.CPL_HEAD : Reg := { page := .spr, off := 0x12c, rw := 0xffff }
def SPR.CPL_HEAD_V : Fld := ⟨SPR.CPL_HEAD, 0, 16⟩
def SPR.CPL_LOST : Reg := { page := .spr, off := 0x130 }
def SPR.TOK_DROPPED : Reg := { page := .spr, off := 0x134 }
def SPR.JOB_SEED : Reg := { page := .spr, off := 0x138, wide := true, stride := 8, rw := 0xffffffffffffffff }
def SPR.PRED : Reg := { page := .spr, off := 0x140, wide := true, stride := 8, rw := 0xffffffffffffffff }
def SPR.ORDER : Reg := { page := .spr, off := 0x148, rwl := 0x1 }
def SPR.ORDER_PORTABLE : Fld := ⟨SPR.ORDER, 0, 1⟩
def SPR.TOK_LIMIT : Reg := { page := .spr, off := 0x14c, reset := 0x1000, rwl := 0x1fff }
def SPR.TOK_LIMIT_LIM : Fld := ⟨SPR.TOK_LIMIT, 0, 13⟩
def SPR.TOK_ADDR : Reg := { page := .spr, off := 0x150, rw := 0xfff }
def SPR.TOK_ADDR_A : Fld := ⟨SPR.TOK_ADDR, 0, 12⟩
def SPR.TOK_DATA : Reg := { page := .spr, off := 0x154, rw := 0xffff, held := 0xffffffff }
def SPR.TOK_DATA_V : Fld := ⟨SPR.TOK_DATA, 0, 16⟩
def SPR.TOK_SIGNAL : Reg := { page := .spr, off := 0x158, wo := 0xfff, held := 0xffffffff }
def SPR.TOK_SIGNAL_T : Fld := ⟨SPR.TOK_SIGNAL, 0, 12⟩
def SPR.HALT_INFO : Reg := { page := .spr, off := 0x160 }
def SPR.HALT_INFO_CAUSE : Fld := ⟨SPR.HALT_INFO, 0, 8⟩
def SPR.HALT_INFO_PAGE : Fld := ⟨SPR.HALT_INFO, 8, 8⟩
def SPR.HALT_INFO_SOURCE : Fld := ⟨SPR.HALT_INFO, 16, 8⟩
def SPR.HALT_SEQ : Reg := { page := .spr, off := 0x164 }
def SPR.ENGINES : Reg := { page := .spr, off := 0x168, fuse := true }
def SPR.RDEV : Reg := { page := .spr, off := 0x170, count := 16, stride := 4, rw := 0x3ffff }
def SPR.RDEV_DEST : Fld := ⟨SPR.RDEV, 0, 17⟩
def SPR.RDEV_VALID : Fld := ⟨SPR.RDEV, 17, 1⟩
def SPR.LOOP_IDX : Reg := { page := .spr, off := 0x1c0, count := 4, stride := 4 }
def SPR.LOOP_CNT : Reg := { page := .spr, off := 0x1d0, count := 4, stride := 4 }
def SPR.ISSUE_STALL_CK : Reg := { page := .spr, off := 0x1e0, wide := true, stride := 8 }
def SPR.SKIPPED : Reg := { page := .spr, off := 0x1e8 }
def SPR.REJECTED : Reg := { page := .spr, off := 0x1ec }
def SPR.PAT_CTRL : Reg := { page := .spr, off := 0x200, rwl := 0x1 }
def SPR.PAT_CTRL_REQ_SIGNED : Fld := ⟨SPR.PAT_CTRL, 0, 1⟩
def SPR.PAT_SLOTS : Reg := { page := .spr, off := 0x208, wide := true, stride := 8 }
def SPR.VPAT_PRESENT : Reg := { page := .spr, off := 0x210, count := 8, stride := 4, fuse := true }
def SPR.PAT_RD_ADDR : Reg := { page := .spr, off := 0x230, rw := 0x7fff }
def SPR.PAT_RD_ADDR_ADDR : Fld := ⟨SPR.PAT_RD_ADDR, 0, 14⟩
def SPR.PAT_RD_ADDR_ROM : Fld := ⟨SPR.PAT_RD_ADDR, 14, 1⟩
def SPR.PAT_RD_DATA : Reg := { page := .spr, off := 0x240, count := 8, stride := 4, held := 0xffffffff }
def SPR.INJ : Reg := { page := .spr, off := 0x260, w1s := 0x7 }
def SPR.INJ_DESC_CRC1 : Fld := ⟨SPR.INJ, 0, 1⟩
def SPR.INJ_DESC_CRC2 : Fld := ⟨SPR.INJ, 1, 1⟩
def SPR.INJ_PAT_UE : Fld := ⟨SPR.INJ, 2, 1⟩
def SPR.PAT_MAP : Reg := { page := .spr, off := 0x300, count := 192, stride := 4 }

/-! ## Chapter 03: registers of the MLD page -/
def MLD.CTRL : Reg := { page := .mld, off := 0x100, reset := 0x100011, rw := 0xffff013f }
def MLD.CTRL_REPLAY_EN : Fld := ⟨MLD.CTRL, 0, 1⟩
def MLD.CTRL_REPLAY_K : Fld := ⟨MLD.CTRL, 1, 5⟩
def MLD.CTRL_RAMP_HOLD : Fld := ⟨MLD.CTRL, 8, 1⟩
def MLD.CTRL_IDLE_GATE : Fld := ⟨MLD.CTRL, 16, 16⟩
def MLD.STATE : Reg := { page := .mld, off := 0x104 }
def MLD.STATE_ARRAY : Fld := ⟨MLD.STATE, 0, 2⟩
def MLD.STATE_ACTIVE_HALF : Fld := ⟨MLD.STATE, 2, 1⟩
def MLD.STATE_HALF0 : Fld := ⟨MLD.STATE, 3, 2⟩
def MLD.STATE_HALF1 : Fld := ⟨MLD.STATE, 5, 2⟩
def MLD.STATE_REPLAYING : Fld := ⟨MLD.STATE, 7, 1⟩
def MLD.STATE_SLABS_ON : Fld := ⟨MLD.STATE, 8, 5⟩
def MLD.STATE_OLDER_HELD : Fld := ⟨MLD.STATE, 13, 1⟩
def MLD.CUR_SEQ : Reg := { page := .mld, off := 0x108 }
def MLD.STREAM_CK : Reg := { page := .mld, off := 0x110, wide := true, stride := 8 }
def MLD.LOAD_STALL_CK : Reg := { page := .mld, off := 0x118, wide := true, stride := 8 }
def MLD.OPND_STALL_CK : Reg := { page := .mld, off := 0x120, wide := true, stride := 8 }
def MLD.HALF_STALL_CK : Reg := { page := .mld, off := 0x128, wide := true, stride := 8 }
def MLD.RAMP_CK : Reg := { page := .mld, off := 0x130, wide := true, stride := 8 }
def MLD.REPLAY_CK : Reg := { page := .mld, off := 0x138, wide := true, stride := 8 }
def MLD.REPLAY_COUNT : Reg := { page := .mld, off := 0x140 }
def MLD.UNRECOVERED : Reg := { page := .mld, off := 0x144 }
def MLD.CRC_RETRIES : Reg := { page := .mld, off := 0x148 }
def MLD.PAR_RELOADS : Reg := { page := .mld, off := 0x14c }
def MLD.INJ : Reg := { page := .mld, off := 0x150, w1s := 0x1f }
def MLD.INJ_ACC_OVF : Fld := ⟨MLD.INJ, 0, 1⟩
def MLD.INJ_OPND_CRC1 : Fld := ⟨MLD.INJ, 1, 1⟩
def MLD.INJ_OPND_CRC2 : Fld := ⟨MLD.INJ, 2, 1⟩
def MLD.INJ_ACC_UE : Fld := ⟨MLD.INJ, 3, 1⟩
def MLD.INJ_STAT_PAR : Fld := ⟨MLD.INJ, 4, 1⟩
def MLD.TILE_SHIFT0 : Reg := { page := .mld, off := 0x200, count := 32, stride := 4, held := 0xffffffff }
def MLD.TILE_SHIFT1 : Reg := { page := .mld, off := 0x280, count := 32, stride := 4, held := 0xffffffff }

/-! ## Chapter 04: registers of the ASY page -/
def ASY.CTRL : Reg := { page := .asy, off := 0x100, reset := 0x7000, rw := 0x3ffff }
def ASY.CTRL_NS_ALPHA : Fld := ⟨ASY.CTRL, 0, 16⟩
def ASY.CTRL_NS_FREEZE : Fld := ⟨ASY.CTRL, 16, 1⟩
def ASY.CTRL_NS_RESEED : Fld := ⟨ASY.CTRL, 17, 1⟩
def ASY.STATE : Reg := { page := .asy, off := 0x104 }
def ASY.STATE_ENGINE : Fld := ⟨ASY.STATE, 0, 2⟩
def ASY.CUR_SEQ : Reg := { page := .asy, off := 0x108 }
def ASY.CAPTURE_FREE : Reg := { page := .asy, off := 0x10c, reset := 0x1000000 }
def ASY.BUSY_CK : Reg := { page := .asy, off := 0x110, wide := true, stride := 8 }
def ASY.RELEASE_WAIT_CK : Reg := { page := .asy, off := 0x118, wide := true, stride := 8 }
def ASY.NS_LOCAL : Reg := { page := .asy, off := 0x120, wide := true, stride := 8, rw := 0xffffffffffffffff }
def ASY.NS_GLOBAL : Reg := { page := .asy, off := 0x128, wide := true, stride := 8, rw := 0xffffffffffffffff }
def ASY.NS_G2_EMA : Reg := { page := .asy, off := 0x130 }
def ASY.NS_S_EMA : Reg := { page := .asy, off := 0x134 }
def ASY.NS_BNOISE : Reg := { page := .asy, off := 0x138 }
def ASY.NS_UPDATES : Reg := { page := .asy, off := 0x13c, rw := 0xffffffff }
def ASY.NONFINITE_BLOCKS : Reg := { page := .asy, off := 0x140 }
def ASY.POISON_UNITS : Reg := { page := .asy, off := 0x144 }
def ASY.INJ : Reg := { page := .asy, off := 0x148, w1s := 0xf }
def ASY.INJ_CAP_UE : Fld := ⟨ASY.INJ, 0, 1⟩
def ASY.INJ_IMG_CRC1 : Fld := ⟨ASY.INJ, 1, 1⟩
def ASY.INJ_IMG_CRC2 : Fld := ⟨ASY.INJ, 2, 1⟩
def ASY.INJ_BLK_NF : Fld := ⟨ASY.INJ, 3, 1⟩

/-! ## Chapter 05: registers of the CRU page -/
def CRU.CTRL : Reg := { page := .cru, off := 0x100, reset := 0x10, rw := 0xffff1f }
def CRU.CTRL_STEP_MAX : Fld := ⟨CRU.CTRL, 0, 5⟩
def CRU.CTRL_LOW_BUDGET : Fld := ⟨CRU.CTRL, 8, 16⟩
def CRU.STATE : Reg := { page := .cru, off := 0x104 }
def CRU.STATE_RUNNING : Fld := ⟨CRU.STATE, 0, 2⟩
def CRU.STATE_STEP : Fld := ⟨CRU.STATE, 2, 1⟩
def CRU.CUR_SEQ_LO : Reg := { page := .cru, off := 0x108 }
def CRU.CUR_SEQ_HI : Reg := { page := .cru, off := 0x10c }
def CRU.CTRL2 : Reg := { page := .cru, off := 0x110, reset := 0x100, rw := 0xffff }
def CRU.CTRL2_RESID_LIMIT : Fld := ⟨CRU.CTRL2, 0, 16⟩
def CRU.BUSY_CK : Reg := { page := .cru, off := 0x118, wide := true, stride := 8 }
def CRU.PORT_WAIT_CK : Reg := { page := .cru, off := 0x120, wide := true, stride := 8 }
def CRU.FIT_WAIT_CK : Reg := { page := .cru, off := 0x128, wide := true, stride := 8 }
def CRU.PUBLISHED : Reg := { page := .cru, off := 0x130 }
def CRU.STALE_COUNT : Reg := { page := .cru, off := 0x134 }
def CRU.REG_COUNT : Reg := { page := .cru, off := 0x138 }
def CRU.SAT_COUNT : Reg := { page := .cru, off := 0x13c }
def CRU.MTAB_ADDR : Reg := { page := .cru, off := 0x140, rw := 0x7fff }
def CRU.MTAB_ADDR_ID : Fld := ⟨CRU.MTAB_ADDR, 0, 12⟩
def CRU.MTAB_ADDR_WORD : Fld := ⟨CRU.MTAB_ADDR, 12, 3⟩
def CRU.MTAB_DATA : Reg := { page := .cru, off := 0x148, wide := true, stride := 8, held := 0xffffffffffffffff }
def CRU.INJ : Reg := { page := .cru, off := 0x150, w1s := 0x1f }
def CRU.INJ_STORE_UE : Fld := ⟨CRU.INJ, 0, 1⟩
def CRU.INJ_PIVOT : Fld := ⟨CRU.INJ, 1, 1⟩
def CRU.INJ_IMG_CRC1 : Fld := ⟨CRU.INJ, 2, 1⟩
def CRU.INJ_IMG_CRC2 : Fld := ⟨CRU.INJ, 3, 1⟩
def CRU.INJ_SAT : Fld := ⟨CRU.INJ, 4, 1⟩

/-! ## Chapter 06: registers of the LDL page -/
def LDL.CTRL : Reg := { page := .ldl, off := 0x100, reset := 0x1, rw := 0x1 }
def LDL.CTRL_ZERO_ON_RESET : Fld := ⟨LDL.CTRL, 0, 1⟩
def LDL.STATE : Reg := { page := .ldl, off := 0x104 }
def LDL.STATE_BUSY : Fld := ⟨LDL.STATE, 0, 1⟩
def LDL.STATE_ACCREAD : Fld := ⟨LDL.STATE, 1, 1⟩
def LDL.CUR_SEQ : Reg := { page := .ldl, off := 0x108 }
def LDL.BUSY_CK : Reg := { page := .ldl, off := 0x110, wide := true, stride := 8 }
def LDL.CONFLICT_CK : Reg := { page := .ldl, off := 0x118, wide := true, stride := 8 }
def LDL.TUN_WAIT_CK : Reg := { page := .ldl, off := 0x120, wide := true, stride := 8 }
def LDL.EMPTY_COUNT : Reg := { page := .ldl, off := 0x128 }
def LDL.CRC_RETRIES : Reg := { page := .ldl, off := 0x12c }
def LDL.INJ : Reg := { page := .ldl, off := 0x130, w1s := 0xf }
def LDL.INJ_CACHE_UE : Fld := ⟨LDL.INJ, 0, 1⟩
def LDL.INJ_TUN_CRC1 : Fld := ⟨LDL.INJ, 1, 1⟩
def LDL.INJ_TUN_CRC2 : Fld := ⟨LDL.INJ, 2, 1⟩
def LDL.INJ_REG_PAR : Fld := ⟨LDL.INJ, 3, 1⟩
def LDL.VTAG_SEL : Reg := { page := .ldl, off := 0x140, rw := 0x3f }
def LDL.VTAG_SEL_V : Fld := ⟨LDL.VTAG_SEL, 0, 6⟩
def LDL.VTAG : Reg := { page := .ldl, off := 0x144, held := 0xffffffff }
def LDL.VTAG_FMT : Fld := ⟨LDL.VTAG, 0, 4⟩
def LDL.VTAG_F : Fld := ⟨LDL.VTAG, 4, 5⟩

/-! ## Chapter 09: registers of the RUN page -/
def RUN.CTRL : Reg := { page := .run, off := 0x100, reset := 0x204c40, rw := 0xff7fff }
def RUN.CTRL_RUNAHEAD : Fld := ⟨RUN.CTRL, 0, 8⟩
def RUN.CTRL_PC_CAP : Fld := ⟨RUN.CTRL, 8, 6⟩
def RUN.CTRL_PF_EN : Fld := ⟨RUN.CTRL, 14, 1⟩
def RUN.CTRL_ING_SLOTS : Fld := ⟨RUN.CTRL, 16, 8⟩
def RUN.STATE : Reg := { page := .run, off := 0x104 }
def RUN.STATE_LOCAL : Fld := ⟨RUN.STATE, 0, 6⟩
def RUN.STATE_REMOTE : Fld := ⟨RUN.STATE, 6, 7⟩
def RUN.STATE_INGOT : Fld := ⟨RUN.STATE, 13, 8⟩
def RUN.STATE_BUSY : Fld := ⟨RUN.STATE, 21, 1⟩
def RUN.CUR_SEQ : Reg := { page := .run, off := 0x108 }
def RUN.BUSY_CK : Reg := { page := .run, off := 0x110, wide := true, stride := 8 }
def RUN.SLOT_WAIT_CK : Reg := { page := .run, off := 0x118, wide := true, stride := 8 }
def RUN.CAP_WAIT_CK : Reg := { page := .run, off := 0x120, wide := true, stride := 8 }
def RUN.PF_ISSUED : Reg := { page := .run, off := 0x128 }
def RUN.PF_USED : Reg := { page := .run, off := 0x12c }
def RUN.PF_LATE : Reg := { page := .run, off := 0x130 }
def RUN.PF_EVICTED : Reg := { page := .run, off := 0x134 }
def RUN.PF_SUPPRESSED : Reg := { page := .run, off := 0x138 }
def RUN.CACHE_HITS : Reg := { page := .run, off := 0x13c }
def RUN.CACHE_MISSES : Reg := { page := .run, off := 0x140 }
def RUN.CRC_RETRIES : Reg := { page := .run, off := 0x144 }
def RUN.INJ : Reg := { page := .run, off := 0x148, w1s := 0x7 }
def RUN.INJ_SRC_CRC1 : Fld := ⟨RUN.INJ, 0, 1⟩
def RUN.INJ_SRC_CRC2 : Fld := ⟨RUN.INJ, 1, 1⟩
def RUN.INJ_REMOTE_ERR : Fld := ⟨RUN.INJ, 2, 1⟩

/-! ## Chapter 09: registers of the TUN page -/
def TUN.STATE : Reg := { page := .tun, off := 0x100 }
def TUN.STATE_FILLING : Fld := ⟨TUN.STATE, 0, 1⟩
def TUN.STATE_COPYING : Fld := ⟨TUN.STATE, 1, 1⟩
def TUN.STATE_SCRUB_BEHIND : Fld := ⟨TUN.STATE, 2, 1⟩
def TUN.SCRUB_FRAMES : Reg := { page := .tun, off := 0x104, reset := 0x40, rw := 0xffff }
def TUN.SCRUB_PASSES : Reg := { page := .tun, off := 0x108 }
def TUN.CORR_COUNT : Reg := { page := .tun, off := 0x10c }
def TUN.UNCORR_COUNT : Reg := { page := .tun, off := 0x110 }
def TUN.SPARE_REQ : Reg := { page := .tun, off := 0x114, rw := 0x7f, w1s := 0x80 }
def TUN.SPARE_REQ_BANK : Fld := ⟨TUN.SPARE_REQ, 0, 7⟩
def TUN.SPARE_REQ_GO : Fld := ⟨TUN.SPARE_REQ, 7, 1⟩
def TUN.SPARE_REQ_REFUSED : Fld := ⟨TUN.SPARE_REQ, 8, 1⟩
def TUN.SPARE_MAP : Reg := { page := .tun, off := 0x118, held := 0xffffffff }
def TUN.SPARE_PROGRESS : Reg := { page := .tun, off := 0x11c }
def TUN.DIAG_CTRL : Reg := { page := .tun, off := 0x120, rw := 0x7fff }
def TUN.DIAG_CTRL_EN : Fld := ⟨TUN.DIAG_CTRL, 0, 1⟩
def TUN.DIAG_CTRL_BANK : Fld := ⟨TUN.DIAG_CTRL, 1, 8⟩
def TUN.DIAG_CTRL_OP : Fld := ⟨TUN.DIAG_CTRL, 9, 2⟩
def TUN.DIAG_CTRL_SIDE : Fld := ⟨TUN.DIAG_CTRL, 11, 1⟩
def TUN.DIAG_CTRL_WORD : Fld := ⟨TUN.DIAG_CTRL, 12, 3⟩
def TUN.DIAG_LINE : Reg := { page := .tun, off := 0x124, rw := 0xffff }
def TUN.DIAG_LINE_L : Fld := ⟨TUN.DIAG_LINE, 0, 16⟩
def TUN.DIAG_DATA : Reg := { page := .tun, off := 0x130, count := 4, stride := 4, rw := 0xffffffff, held := 0xffffffff }
def TUN.DIAG_CHECK : Reg := { page := .tun, off := 0x140, rw := 0x1ff, held := 0xffffffff }
def TUN.DIAG_STATUS : Reg := { page := .tun, off := 0x144 }
def TUN.DIAG_STATUS_DONE : Fld := ⟨TUN.DIAG_STATUS, 0, 1⟩
def TUN.DIAG_STATUS_REFUSED : Fld := ⟨TUN.DIAG_STATUS, 1, 1⟩
def TUN.DIAG_STATUS_SYND : Fld := ⟨TUN.DIAG_STATUS, 2, 9⟩
def TUN.DIAG_STATUS_RESULT : Fld := ⟨TUN.DIAG_STATUS, 11, 2⟩
def TUN.INJ : Reg := { page := .tun, off := 0x148, w1s := 0x7 }
def TUN.INJ_CE : Fld := ⟨TUN.INJ, 0, 1⟩
def TUN.INJ_UE : Fld := ⟨TUN.INJ, 1, 1⟩
def TUN.INJ_SIDECAR : Fld := ⟨TUN.INJ, 2, 1⟩
def TUN.QUOTA : Reg := { page := .tun, off := 0x200, count := 7, stride := 8, wide := true, rw := 0x1fffffffff }
def TUN.QUOTA_FIRST : Fld := ⟨TUN.QUOTA, 0, 17⟩
def TUN.QUOTA_COUNT : Fld := ⟨TUN.QUOTA, 17, 18⟩
def TUN.QUOTA_MODE : Fld := ⟨TUN.QUOTA, 35, 2⟩
def TUN.POOL : Reg := { page := .tun, off := 0x238, wide := true, stride := 8, rw := 0x1fffffffff }
def TUN.POOL_FIRST : Fld := ⟨TUN.POOL, 0, 17⟩
def TUN.POOL_COUNT : Fld := ⟨TUN.POOL, 17, 18⟩
def TUN.POOL_MODE : Fld := ⟨TUN.POOL, 35, 2⟩
def TUN.QAPPLY : Reg := { page := .tun, off := 0x240, w1s := 0x1 }
def TUN.QAPPLY_GO : Fld := ⟨TUN.QAPPLY, 0, 1⟩
def TUN.QSTATUS : Reg := { page := .tun, off := 0x244 }
def TUN.QSTATUS_PENDING : Fld := ⟨TUN.QSTATUS, 0, 1⟩
def TUN.QSTATUS_CONFLICT : Fld := ⟨TUN.QSTATUS, 1, 1⟩
def TUN.QSTATUS_LOCKED : Fld := ⟨TUN.QSTATUS, 2, 1⟩
def TUN.QSTATUS_FIRST : Fld := ⟨TUN.QSTATUS, 4, 3⟩
def TUN.QSTATUS_SECOND : Fld := ⟨TUN.QSTATUS, 8, 3⟩
def TUN.CACHE_ENTRIES : Reg := { page := .tun, off := 0x248 }
def TUN.LAND_REFUSED : Reg := { page := .tun, off := 0x24c }
def TUN.PGA : Reg := { page := .tun, off := 0x20000, count := 32768, stride := 4, rw := 0xffffffff }

/-! ## Chapter 10: registers of the HBM page -/
def HBM.STATE : Reg := { page := .hbm, off := 0x100, held := 0x2 }
def HBM.STATE_TRAINED : Fld := ⟨HBM.STATE, 0, 1⟩
def HBM.STATE_LOST : Fld := ⟨HBM.STATE, 1, 1⟩
def HBM.STATE_HOT : Fld := ⟨HBM.STATE, 2, 1⟩
def HBM.STACK_ID : Reg := { page := .hbm, off := 0x104, fuse := true }
def HBM.TEMP : Reg := { page := .hbm, off := 0x108 }
def HBM.TEMP_NOW : Fld := ⟨HBM.TEMP, 0, 8⟩
def HBM.TEMP_MAX : Fld := ⟨HBM.TEMP, 8, 8⟩
def HBM.LANES : Reg := { page := .hbm, off := 0x10c }
def HBM.LANES_REPAIRED : Fld := ⟨HBM.LANES, 0, 8⟩
def HBM.LANES_MASK : Fld := ⟨HBM.LANES, 8, 16⟩
def HBM.CORR_COUNT : Reg := { page := .hbm, off := 0x110 }
def HBM.UNCORR_COUNT : Reg := { page := .hbm, off := 0x114 }
def HBM.PARITY_COUNT : Reg := { page := .hbm, off := 0x118 }
def HBM.LOST_CAUSE : Reg := { page := .hbm, off := 0x11c, held := 0x7f }
def HBM.LOST_CAUSE_CAUSE : Fld := ⟨HBM.LOST_CAUSE, 0, 3⟩
def HBM.LOST_CAUSE_CHAN : Fld := ⟨HBM.LOST_CAUSE, 3, 4⟩
def HBM.RD_BYTES : Reg := { page := .hbm, off := 0x120, wide := true, stride := 8 }
def HBM.WR_BYTES : Reg := { page := .hbm, off := 0x128, wide := true, stride := 8 }
def HBM.INJ : Reg := { page := .hbm, off := 0x130, w1s := 0xf }
def HBM.INJ_CE : Fld := ⟨HBM.INJ, 0, 1⟩
def HBM.INJ_UE : Fld := ⟨HBM.INJ, 1, 1⟩
def HBM.INJ_PAR1 : Fld := ⟨HBM.INJ, 2, 1⟩
def HBM.INJ_HOT : Fld := ⟨HBM.INJ, 3, 1⟩
def HBM.TILEWIN : Reg := { page := .hbm, off := 0x200, reset := 0x2cb4178, rwl := 0x3ffffff }
def HBM.PART_REG : Reg := { page := .hbm, off := 0x210, count := 8, stride := 4, resets := partRegWords, rw := 0xffff07ff }
def HBM.PART_REG_RATE : Fld := ⟨HBM.PART_REG, 0, 10⟩
def HBM.PART_REG_HARD : Fld := ⟨HBM.PART_REG, 10, 1⟩
def HBM.PART_REG_BURST : Fld := ⟨HBM.PART_REG, 16, 16⟩
def HBM.SLOT_CTRL : Reg := { page := .hbm, off := 0x230, reset := 0x1, w1s := 0x2 }
def HBM.SLOT_CTRL_VALID : Fld := ⟨HBM.SLOT_CTRL, 0, 1⟩
def HBM.SLOT_CTRL_APPLY : Fld := ⟨HBM.SLOT_CTRL, 1, 1⟩
def HBM.SLOT_CTRL_CONFLICT : Fld := ⟨HBM.SLOT_CTRL, 2, 1⟩
def HBM.SLOT_CTRL_PART_A : Fld := ⟨HBM.SLOT_CTRL, 3, 3⟩
def HBM.SLOT_CTRL_PART_B : Fld := ⟨HBM.SLOT_CTRL, 6, 3⟩
def HBM.SLOT_CTRL_ENTRY : Fld := ⟨HBM.SLOT_CTRL, 9, 8⟩
def HBM.SLOT_TABLE : Reg := { page := .hbm, off := 0x300, count := 128, stride := 4, resets := slotTableWords, rw := 0xffffffff }

/-! ## Chapter 11, 15: registers of the ING page -/
def ING.CTRL : Reg := { page := .ing, off := 0x100, reset := 0x1e080307, rw := 0xff1f0f0f }
def ING.CTRL_RETRY_MAX : Fld := ⟨ING.CTRL, 0, 4⟩
def ING.CTRL_RELOC_AT : Fld := ⟨ING.CTRL, 8, 4⟩
def ING.CTRL_GC_LOW : Fld := ⟨ING.CTRL, 16, 5⟩
def ING.CTRL_PATROL_EN : Fld := ⟨ING.CTRL, 24, 1⟩
def ING.CTRL_PATROL_DAYS : Fld := ⟨ING.CTRL, 25, 7⟩
def ING.STATE : Reg := { page := .ing, off := 0x104 }
def ING.STATE_READY : Fld := ⟨ING.STATE, 0, 1⟩
def ING.STATE_RETIRING : Fld := ⟨ING.STATE, 1, 1⟩
def ING.STATE_WB_HELD : Fld := ⟨ING.STATE, 2, 1⟩
def ING.STATE_SPACE_LOW : Fld := ⟨ING.STATE, 3, 1⟩
def ING.PE_RATED : Reg := { page := .ing, off := 0x108, held := 0xffffffff }
def ING.PE_MAX : Reg := { page := .ing, off := 0x10c, held := 0xffffffff }
def ING.PHYS_BYTES : Reg := { page := .ing, off := 0x110, wide := true, stride := 8, held := 0xffffffffffffffff }
def ING.WB_DAY : Reg := { page := .ing, off := 0x118, wide := true, stride := 8, held := 0xffffffffffffffff }
def ING.WB_BUCKET : Reg := { page := .ing, off := 0x120, wide := true, stride := 8, held := 0xffffffffffffffff }
def ING.WB_USED : Reg := { page := .ing, off := 0x128, wide := true, stride := 8 }
def ING.HOST_BYTES : Reg := { page := .ing, off := 0x130, wide := true, stride := 8 }
def ING.WB_HOLDS : Reg := { page := .ing, off := 0x138 }
def ING.READ_FAILS : Reg := { page := .ing, off := 0x13c }
def ING.RETRY_READS : Reg := { page := .ing, off := 0x140 }
def ING.UNMAPPED_READS : Reg := { page := .ing, off := 0x144 }
def ING.RETIRED_BLOCKS : Reg := { page := .ing, off := 0x148, held := 0xffffffff }
def ING.LOST_TILES : Reg := { page := .ing, off := 0x14c, held := 0xffffffff }
def ING.MAPC_HITS : Reg := { page := .ing, off := 0x150 }
def ING.MAPC_MISSES : Reg := { page := .ing, off := 0x154 }
def ING.RETIRE_REQ : Reg := { page := .ing, off := 0x158, rw := 0x3f, w1s := 0x40 }
def ING.RETIRE_REQ_TARGET : Fld := ⟨ING.RETIRE_REQ, 0, 6⟩
def ING.RETIRE_REQ_GO : Fld := ⟨ING.RETIRE_REQ, 6, 1⟩
def ING.RETIRE_REQ_REFUSED : Fld := ⟨ING.RETIRE_REQ, 7, 1⟩
def ING.RETIRE_PROGRESS : Reg := { page := .ing, off := 0x15c }
def ING.INJ : Reg := { page := .ing, off := 0x160, w1s := 0xf }
def ING.INJ_RETRY : Fld := ⟨ING.INJ, 0, 1⟩
def ING.INJ_READ_FAIL : Fld := ⟨ING.INJ, 1, 1⟩
def ING.INJ_PROG_FAIL : Fld := ⟨ING.INJ, 2, 1⟩
def ING.INJ_WB_EMPTY : Fld := ⟨ING.INJ, 3, 1⟩
def ING.AREA_TILES : Reg := { page := .ing, off := 0x200, count := 7, stride := 8, wide := true, held := 0xffffffffffffffff }
def ING.JNL_CTRL : Reg := { page := .ing, off := 0x300, reset := 0x101000, rw := 0xffffff }
def ING.JNL_CTRL_SNAP_PAGES : Fld := ⟨ING.JNL_CTRL, 0, 16⟩
def ING.JNL_CTRL_SYNC_FRAMES : Fld := ⟨ING.JNL_CTRL, 16, 8⟩
def ING.JNL_STATE : Reg := { page := .ing, off := 0x304 }
def ING.JNL_STATE_REPLAYED : Fld := ⟨ING.JNL_STATE, 0, 1⟩
def ING.JNL_STATE_TAIL_FULL : Fld := ⟨ING.JNL_STATE, 1, 1⟩
def ING.JNL_STATE_GAP_SEEN : Fld := ⟨ING.JNL_STATE, 2, 1⟩
def ING.JNL_STATE_FLUSHING : Fld := ⟨ING.JNL_STATE, 3, 1⟩
def ING.JNL_SEQ : Reg := { page := .ing, off := 0x308, wide := true, stride := 8, held := 0xffffffffffffffff }
def ING.JNL_DURABLE : Reg := { page := .ing, off := 0x310, wide := true, stride := 8, held := 0xffffffffffffffff }
def ING.JNL_TAIL : Reg := { page := .ing, off := 0x318 }
def ING.JNL_TAIL_MAX : Reg := { page := .ing, off := 0x31c, held := 0xffffffff }
def ING.JNL_DISCARDED : Reg := { page := .ing, off := 0x320 }
def ING.JNL_SNAP_SEQ : Reg := { page := .ing, off := 0x328, wide := true, stride := 8, held := 0xffffffffffffffff }
def ING.RSR_CTRL : Reg := { page := .ing, off := 0x330, reset := 0x10000, rw := 0xffff0fff }
def ING.RSR_CTRL_TO_INGOT : Fld := ⟨ING.RSR_CTRL, 0, 1⟩
def ING.RSR_CTRL_TO_HOST : Fld := ⟨ING.RSR_CTRL, 1, 1⟩
def ING.RSR_CTRL_HOST : Fld := ⟨ING.RSR_CTRL, 2, 10⟩
def ING.RSR_CTRL_KEY_EVERY : Fld := ⟨ING.RSR_CTRL, 16, 16⟩
def ING.RSR_RATE : Reg := { page := .ing, off := 0x334, reset := 0x10001000, rw := 0xffffffff }
def ING.RSR_RATE_INGOT : Fld := ⟨ING.RSR_RATE, 0, 16⟩
def ING.RSR_RATE_HOST : Fld := ⟨ING.RSR_RATE, 16, 16⟩
def ING.RSR_STATE : Reg := { page := .ing, off := 0x338, reset := 0x1 }
def ING.RSR_STATE_BROKEN : Fld := ⟨ING.RSR_STATE, 0, 1⟩
def ING.RSR_STATE_BUSY : Fld := ⟨ING.RSR_STATE, 1, 1⟩
def ING.RSR_SEQ : Reg := { page := .ing, off := 0x340, wide := true, stride := 8, held := 0xffffffffffffffff }
def ING.RSR_ACK : Reg := { page := .ing, off := 0x348, wide := true, stride := 8, held := 0xffffffffffffffff }
def ING.RSR_BUF : Reg := { page := .ing, off := 0x350, reset := 0x8040100, rw := 0xffffffff }
def ING.RSR_BUF_SIZE : Fld := ⟨ING.RSR_BUF, 0, 16⟩
def ING.RSR_BUF_WAIT_FRAMES : Fld := ⟨ING.RSR_BUF, 16, 8⟩
def ING.RSR_BUF_RETX_FRAMES : Fld := ⟨ING.RSR_BUF, 24, 8⟩
def ING.RSR_DROPPED : Reg := { page := .ing, off := 0x354 }
def ING.RSR_KEY_EPOCH : Reg := { page := .ing, off := 0x358, held := 0xffffffff }
def ING.LIFE_SEL : Reg := { page := .ing, off := 0x360, rw := 0xf }
def ING.LIFE_SEL_I : Fld := ⟨ING.LIFE_SEL, 0, 4⟩
def ING.LIFE_DATA : Reg := { page := .ing, off := 0x368, wide := true, stride := 8, held := 0xffffffffffffffff }
def ING.LIFE_CTRL : Reg := { page := .ing, off := 0x370, reset := 0x3c, rw := 0xffff }
def ING.LIFE_CTRL_SAVE_MIN : Fld := ⟨ING.LIFE_CTRL, 0, 16⟩
def ING.JNL_INJ : Reg := { page := .ing, off := 0x378, w1s := 0x7 }
def ING.JNL_INJ_TORN : Fld := ⟨ING.JNL_INJ, 0, 1⟩
def ING.JNL_INJ_RSR_FULL : Fld := ⟨ING.JNL_INJ, 1, 1⟩
def ING.JNL_INJ_CAL_BAD : Fld := ⟨ING.JNL_INJ, 2, 1⟩

/-! ## Chapter 11: registers of the INGCH page -/
def INGCH.CH_STATE : Reg := { page := .ingch, off := 0x100 }
def INGCH.CH_STATE_STATE : Fld := ⟨INGCH.CH_STATE, 0, 2⟩
def INGCH.CH_STATE_TGT_PRESENT : Fld := ⟨INGCH.CH_STATE, 2, 4⟩
def INGCH.CH_STATE_TGT_REJECT : Fld := ⟨INGCH.CH_STATE, 6, 4⟩
def INGCH.CH_STATE_TGT_RETIRED : Fld := ⟨INGCH.CH_STATE, 10, 4⟩
def INGCH.CH_STATE_TGT_FAILED : Fld := ⟨INGCH.CH_STATE, 14, 4⟩
def INGCH.CH_RATE : Reg := { page := .ingch, off := 0x104 }
def INGCH.CH_CTRL : Reg := { page := .ingch, off := 0x108, reset := 0x100, rw := 0xffff }
def INGCH.CH_CTRL_WL_SPREAD : Fld := ⟨INGCH.CH_CTRL, 0, 16⟩
def INGCH.TGT_GEOM : Reg := { page := .ingch, off := 0x110, count := 4, stride := 8, wide := true, held := 0xffffffffffffffff }
def INGCH.TGT_GEOM_LUNS : Fld := ⟨INGCH.TGT_GEOM, 0, 4⟩
def INGCH.TGT_GEOM_PLANES : Fld := ⟨INGCH.TGT_GEOM, 4, 4⟩
def INGCH.TGT_GEOM_BLOCKS : Fld := ⟨INGCH.TGT_GEOM, 8, 24⟩
def INGCH.TGT_GEOM_TR : Fld := ⟨INGCH.TGT_GEOM, 32, 12⟩
def INGCH.TGT_GEOM_TPROG : Fld := ⟨INGCH.TGT_GEOM, 44, 12⟩
def INGCH.RD_PAGES : Reg := { page := .ingch, off := 0x130, wide := true, stride := 8 }
def INGCH.PR_PAGES : Reg := { page := .ingch, off := 0x138, wide := true, stride := 8 }
def INGCH.ERASES : Reg := { page := .ingch, off := 0x140, wide := true, stride := 8 }
def INGCH.CW_RETRIED : Reg := { page := .ingch, off := 0x148 }
def INGCH.CW_FAILED : Reg := { page := .ingch, off := 0x14c }

/-! ## Chapter 12: registers of the AVL page -/
def AVL.CTRL : Reg := { page := .avl, off := 0x100, reset := 0x8d, rw := 0xff, w1s := 0x100 }
def AVL.CTRL_EN : Fld := ⟨AVL.CTRL, 0, 1⟩
def AVL.CTRL_ENC_EN : Fld := ⟨AVL.CTRL, 1, 1⟩
def AVL.CTRL_AUTO_LANE : Fld := ⟨AVL.CTRL, 2, 1⟩
def AVL.CTRL_RE_EQ_EN : Fld := ⟨AVL.CTRL, 3, 1⟩
def AVL.CTRL_REPLAY_MAX : Fld := ⟨AVL.CTRL, 4, 4⟩
def AVL.CTRL_RETRAIN : Fld := ⟨AVL.CTRL, 8, 1⟩
def AVL.STATE : Reg := { page := .avl, off := 0x104 }
def AVL.STATE_PORT : Fld := ⟨AVL.STATE, 0, 3⟩
def AVL.STATE_PRESENT : Fld := ⟨AVL.STATE, 3, 1⟩
def AVL.STATE_ENC_ON : Fld := ⟨AVL.STATE, 4, 1⟩
def AVL.STATE_SPARE_USED_TX : Fld := ⟨AVL.STATE, 5, 1⟩
def AVL.STATE_SPARE_USED_RX : Fld := ⟨AVL.STATE, 6, 1⟩
def AVL.PEER : Reg := { page := .avl, off := 0x108 }
def AVL.PEER_ID : Fld := ⟨AVL.PEER, 0, 17⟩
def AVL.PEER_HOST : Fld := ⟨AVL.PEER, 17, 1⟩
def AVL.PEER_PORT : Fld := ⟨AVL.PEER, 18, 5⟩
def AVL.PEER_VALID : Fld := ⟨AVL.PEER, 23, 1⟩
def AVL.LANE_MAP : Reg := { page := .avl, off := 0x10c, reset := 0x6880688 }
def AVL.LANE_MAP_RX : Fld := ⟨AVL.LANE_MAP, 0, 12⟩
def AVL.LANE_MAP_TX : Fld := ⟨AVL.LANE_MAP, 16, 12⟩
def AVL.LANE_THRESH : Reg := { page := .avl, off := 0x110, reset := 0x20000, rw := 0xffffffff }
def AVL.ACK_TIMEOUT : Reg := { page := .avl, off := 0x114, reset := 0x1f4, rw := 0xffff }
def AVL.RE_EQ_PERIOD : Reg := { page := .avl, off := 0x118, reset := 0x258, rw := 0xffff }
def AVL.TC_WEIGHT : Reg := { page := .avl, off := 0x11c, reset := 0x20606, rw := 0xffffff }
def AVL.TC_WEIGHT_TC1 : Fld := ⟨AVL.TC_WEIGHT, 0, 8⟩
def AVL.TC_WEIGHT_TC2 : Fld := ⟨AVL.TC_WEIGHT, 8, 8⟩
def AVL.TC_WEIGHT_TC3 : Fld := ⟨AVL.TC_WEIGHT, 16, 8⟩
def AVL.LANE_SYM : Reg := { page := .avl, off := 0x120, count := 5, stride := 4 }
def AVL.FEC_CORR_CW : Reg := { page := .avl, off := 0x138, wide := true, stride := 8 }
def AVL.FEC_UNCORR_CW : Reg := { page := .avl, off := 0x140 }
def AVL.CRC_ERR : Reg := { page := .avl, off := 0x144 }
def AVL.REPLAYS : Reg := { page := .avl, off := 0x148 }
def AVL.RETRAINS : Reg := { page := .avl, off := 0x14c }
def AVL.LANE_SWAPS : Reg := { page := .avl, off := 0x150 }
def AVL.RE_EQ_SKIPPED : Reg := { page := .avl, off := 0x154 }
def AVL.PROTO_ERR : Reg := { page := .avl, off := 0x158 }
def AVL.LOST_PKTS : Reg := { page := .avl, off := 0x15c }
def AVL.TX_FLITS : Reg := { page := .avl, off := 0x160, wide := true, stride := 8 }
def AVL.RX_FLITS : Reg := { page := .avl, off := 0x168, wide := true, stride := 8 }
def AVL.TC0_QMAX : Reg := { page := .avl, off := 0x170 }
def AVL.TC0_UNBOUNDED : Reg := { page := .avl, off := 0x174 }
def AVL.KEY_STATE : Reg := { page := .avl, off := 0x178 }
def AVL.KEY_STATE_TX_SLOT : Fld := ⟨AVL.KEY_STATE, 0, 1⟩
def AVL.KEY_STATE_TX0 : Fld := ⟨AVL.KEY_STATE, 1, 1⟩
def AVL.KEY_STATE_TX1 : Fld := ⟨AVL.KEY_STATE, 2, 1⟩
def AVL.KEY_STATE_RX0 : Fld := ⟨AVL.KEY_STATE, 3, 1⟩
def AVL.KEY_STATE_RX1 : Fld := ⟨AVL.KEY_STATE, 4, 1⟩
def AVL.KEY_STATE_KEY_AGE : Fld := ⟨AVL.KEY_STATE, 5, 1⟩
def AVL.AUTH_FAIL : Reg := { page := .avl, off := 0x17c }
def AVL.TX_WRAPS : Reg := { page := .avl, off := 0x180 }
def AVL.INJ : Reg := { page := .avl, off := 0x184, w1s := 0xf }
def AVL.INJ_LCRC : Fld := ⟨AVL.INJ, 0, 1⟩
def AVL.INJ_UNCORR : Fld := ⟨AVL.INJ, 1, 1⟩
def AVL.INJ_LANE_BAD : Fld := ⟨AVL.INJ, 2, 1⟩
def AVL.INJ_AUTH : Fld := ⟨AVL.INJ, 3, 1⟩
def AVL.TC0_REG : Reg := { page := .avl, off := 0x200, reset := 0x802, rwl := 0xffff }
def AVL.TC0_REG_RATE : Fld := ⟨AVL.TC0_REG, 0, 8⟩
def AVL.TC0_REG_BURST : Fld := ⟨AVL.TC0_REG, 8, 8⟩
def AVL.TC0_HELD : Reg := { page := .avl, off := 0x204 }

/-! ## Chapter 13, 14: registers of the COL page -/
def COL.STATE : Reg := { page := .col, off := 0x100 }
def COL.STATE_ACTIVE : Fld := ⟨COL.STATE, 0, 11⟩
def COL.GRP_SEL : Reg := { page := .col, off := 0x104, rw := 0x3ff }
def COL.GRP_SEL_G : Fld := ⟨COL.GRP_SEL, 0, 10⟩
def COL.GRP_CMD : Reg := { page := .col, off := 0x108, w1s := 0x3 }
def COL.GRP_CMD_DEFINE : Fld := ⟨COL.GRP_CMD, 0, 1⟩
def COL.GRP_CMD_FREE : Fld := ⟨COL.GRP_CMD, 1, 1⟩
def COL.GRP_STATUS : Reg := { page := .col, off := 0x10c }
def COL.GRP_STATUS_BUSY : Fld := ⟨COL.GRP_STATUS, 0, 1⟩
def COL.GRP_STATUS_PENDING : Fld := ⟨COL.GRP_STATUS, 1, 1⟩
def COL.GRP_STATUS_VALID : Fld := ⟨COL.GRP_STATUS, 2, 1⟩
def COL.HOLD_FRAMES : Reg := { page := .col, off := 0x110, reset := 0x4, rw := 0xff }
def COL.STALE_DROPPED : Reg := { page := .col, off := 0x114 }
def COL.HELD_DROPPED : Reg := { page := .col, off := 0x118 }
def COL.PEND_BUSY : Reg := { page := .col, off := 0x11c }
def COL.COLL_DONE : Reg := { page := .col, off := 0x120 }
def COL.FENCES : Reg := { page := .col, off := 0x124 }
def COL.INJ : Reg := { page := .col, off := 0x128, w1s := 0x7 }
def COL.INJ_STALE : Fld := ⟨COL.INJ, 0, 1⟩
def COL.INJ_CHUNK_CRC1 : Fld := ⟨COL.INJ, 1, 1⟩
def COL.INJ_CHUNK_CRC2 : Fld := ⟨COL.INJ, 2, 1⟩
def COL.GRP_DATA : Reg := { page := .col, off := 0x200, count := 16, stride := 4, rw := 0xffffffff, held := 0xffffffff }
def COL.SW_FLASK_GRP : Reg := { page := .col, off := 0x300, rw := 0x7ff }
def COL.SW_FLASK_GRP_G : Fld := ⟨COL.SW_FLASK_GRP, 0, 10⟩
def COL.SW_FLASK_GRP_VALID : Fld := ⟨COL.SW_FLASK_GRP, 10, 1⟩
def COL.SW_LANE_GRP : Reg := { page := .col, off := 0x304, rw := 0x7ff }
def COL.SW_LANE_GRP_G : Fld := ⟨COL.SW_LANE_GRP, 0, 10⟩
def COL.SW_LANE_GRP_VALID : Fld := ⟨COL.SW_LANE_GRP, 10, 1⟩
def COL.SW_SEAL_GRP : Reg := { page := .col, off := 0x308, rw := 0x7ff }
def COL.SW_SEAL_GRP_G : Fld := ⟨COL.SW_SEAL_GRP, 0, 10⟩
def COL.SW_SEAL_GRP_VALID : Fld := ⟨COL.SW_SEAL_GRP, 10, 1⟩
def COL.SW_CTRL : Reg := { page := .col, off := 0x30c, reset := 0x100401, rw := 0xffff01 }
def COL.SW_CTRL_SEAL_HOLD : Fld := ⟨COL.SW_CTRL, 0, 1⟩
def COL.SW_CTRL_GRACE : Fld := ⟨COL.SW_CTRL, 8, 8⟩
def COL.SW_CTRL_SEAL_FRAMES : Fld := ⟨COL.SW_CTRL, 16, 8⟩
def COL.SW_STATE : Reg := { page := .col, off := 0x310 }
def COL.SW_STATE_VOTE : Fld := ⟨COL.SW_STATE, 0, 3⟩
def COL.SW_STATE_SEAL : Fld := ⟨COL.SW_STATE, 3, 2⟩
def COL.SW_STATE_HELD : Fld := ⟨COL.SW_STATE, 5, 1⟩
def COL.SW_STATE_RETAINED : Fld := ⟨COL.SW_STATE, 6, 1⟩
def COL.SW_EPOCH : Reg := { page := .col, off := 0x314 }
def COL.SW_ATTEMPT : Reg := { page := .col, off := 0x318 }
def COL.SW_NEXT_BLOCK : Reg := { page := .col, off := 0x31c }
def COL.SW_SEAL : Reg := { page := .col, off := 0x320, wide := true, stride := 8 }
def COL.SW_SKIPS : Reg := { page := .col, off := 0x328 }
def COL.SW_CONVERTS : Reg := { page := .col, off := 0x32c }
def COL.SW_MISMATCHES : Reg := { page := .col, off := 0x330 }
def COL.SW_ODD : Reg := { page := .col, off := 0x334 }
def COL.SW_ODD_POS : Fld := ⟨COL.SW_ODD, 0, 16⟩
def COL.SW_ODD_VALID : Fld := ⟨COL.SW_ODD, 16, 1⟩
def COL.SW_ODD_NO_MAJORITY : Fld := ⟨COL.SW_ODD, 17, 1⟩
def COL.SW_ODD_SELF_ODD : Fld := ⟨COL.SW_ODD, 18, 1⟩
def COL.SW_CMD : Reg := { page := .col, off := 0x338, w1s := 0x3 }
def COL.SW_CMD_RELEASE : Fld := ⟨COL.SW_CMD, 0, 1⟩
def COL.SW_CMD_CLEAR_HOLD : Fld := ⟨COL.SW_CMD, 1, 1⟩
def COL.SW_INJ : Reg := { page := .col, off := 0x33c, w1s := 0x3 }
def COL.SW_INJ_SEAL_FLIP : Fld := ⟨COL.SW_INJ, 0, 1⟩
def COL.SW_INJ_BALLOT_DROP : Fld := ⟨COL.SW_INJ, 1, 1⟩
def COL.SW_REL_TOK : Reg := { page := .col, off := 0x340, rw := 0x1ffff }
def COL.SW_REL_TOK_TOKEN : Fld := ⟨COL.SW_REL_TOK, 0, 12⟩
def COL.SW_REL_TOK_CORES : Fld := ⟨COL.SW_REL_TOK, 12, 4⟩
def COL.SW_REL_TOK_EN : Fld := ⟨COL.SW_REL_TOK, 16, 1⟩

/-! ## Chapter 13: registers of the ROUT page -/
def ROUT.SELF : Reg := { page := .rout, off := 0x100, rwl := 0x3ffff }
def ROUT.SELF_ID : Fld := ⟨ROUT.SELF, 0, 17⟩
def ROUT.SELF_VALID : Fld := ⟨ROUT.SELF, 17, 1⟩
def ROUT.DIMS : Reg := { page := .rout, off := 0x104, reset := 0x101088, rwl := 0x1f1fff }
def ROUT.DIMS_D0 : Fld := ⟨ROUT.DIMS, 0, 4⟩
def ROUT.DIMS_D1 : Fld := ⟨ROUT.DIMS, 4, 4⟩
def ROUT.DIMS_D2 : Fld := ⟨ROUT.DIMS, 8, 5⟩
def ROUT.DIMS_D3 : Fld := ⟨ROUT.DIMS, 16, 5⟩
def ROUT.BRIDGE : Reg := { page := .rout, off := 0x108, reset := 0x8, rwl := 0xf }
def ROUT.BRIDGE_MEMBER : Fld := ⟨ROUT.BRIDGE, 0, 3⟩
def ROUT.BRIDGE_EN : Fld := ⟨ROUT.BRIDGE, 3, 1⟩
def ROUT.PORT_EN : Reg := { page := .rout, off := 0x10c, rw := 0xffffff }
def ROUT.PORT_EN_MASK : Fld := ⟨ROUT.PORT_EN, 0, 24⟩
def ROUT.MISCABLED : Reg := { page := .rout, off := 0x110 }
def ROUT.EXC_USED : Reg := { page := .rout, off := 0x114 }
def ROUT.E2E_TIMEOUT : Reg := { page := .rout, off := 0x118, reset := 0x3e8, rw := 0xfffff }
def ROUT.EVT_HOST : Reg := { page := .rout, off := 0x11c, rw := 0x7ff }
def ROUT.EVT_HOST_HOST : Fld := ⟨ROUT.EVT_HOST, 0, 10⟩
def ROUT.EVT_HOST_EN : Fld := ⟨ROUT.EVT_HOST, 10, 1⟩
def ROUT.MAX_HOPS : Reg := { page := .rout, off := 0x120 }
def ROUT.UNREACH_COUNT : Reg := { page := .rout, off := 0x124 }
def ROUT.E2E_LOST : Reg := { page := .rout, off := 0x128 }
def ROUT.LATE_RSP : Reg := { page := .rout, off := 0x12c }
def ROUT.BAD_MSG : Reg := { page := .rout, off := 0x130 }
def ROUT.EXC_STATUS : Reg := { page := .rout, off := 0x134 }
def ROUT.EXC_STATUS_EXC_FULL : Fld := ⟨ROUT.EXC_STATUS, 0, 1⟩
def ROUT.INJ : Reg := { page := .rout, off := 0x138, w1s := 0x3 }
def ROUT.INJ_UNREACH : Fld := ⟨ROUT.INJ, 0, 1⟩
def ROUT.INJ_TIMEOUT : Fld := ⟨ROUT.INJ, 1, 1⟩
def ROUT.EXC : Reg := { page := .rout, off := 0x1000, count := 256, stride := 8, wide := true, rw := 0xffffffffff }
def ROUT.EXC_MATCH : Fld := ⟨ROUT.EXC, 0, 17⟩
def ROUT.EXC_MASK : Fld := ⟨ROUT.EXC, 17, 17⟩
def ROUT.EXC_PORT : Fld := ⟨ROUT.EXC, 34, 5⟩
def ROUT.EXC_VALID : Fld := ⟨ROUT.EXC, 39, 1⟩
def ROUT.HOSTS : Reg := { page := .rout, off := 0x2000, count := 1024, stride := 4, rw := 0x7ffff }
def ROUT.HOSTS_DEV : Fld := ⟨ROUT.HOSTS, 0, 17⟩
def ROUT.HOSTS_VALID : Fld := ⟨ROUT.HOSTS, 17, 1⟩
def ROUT.HOSTS_ACL : Fld := ⟨ROUT.HOSTS, 18, 1⟩

/-! ## Chapter 16 (R384), 19 (R439): registers of the HDR page header (every page) -/
def HDR.PAGE_ID (p : PageKind) : Reg := { page := p, off := 0x0 }
def HDR.PAGE_ID_INST (p : PageKind) : Fld := ⟨HDR.PAGE_ID p, 16, 8⟩
def HDR.PAGE_ID_TYPE (p : PageKind) : Fld := ⟨HDR.PAGE_ID p, 24, 8⟩
def HDR.PAGE_ID_VER (p : PageKind) : Fld := ⟨HDR.PAGE_ID p, 0, 16⟩
def HDR.PAGE_CAPS (p : PageKind) : Reg := { page := p, off := 0x4 }
def HDR.PAGE_CAPS_PRESENT (p : PageKind) : Fld := ⟨HDR.PAGE_CAPS p, 0, 1⟩
def HDR.PAGE_CAPS_FUSED (p : PageKind) : Fld := ⟨HDR.PAGE_CAPS p, 1, 1⟩
def HDR.PAGE_CAPS_MAXSRC (p : PageKind) : Fld := ⟨HDR.PAGE_CAPS p, 8, 6⟩
def HDR.PAGE_CTRL (p : PageKind) : Reg := { page := p, off := 0x8, rw := 0x5, w1s := 0x2 }
def HDR.PAGE_CTRL_EN (p : PageKind) : Fld := ⟨HDR.PAGE_CTRL p, 0, 1⟩
def HDR.PAGE_CTRL_BRESET (p : PageKind) : Fld := ⟨HDR.PAGE_CTRL p, 1, 1⟩
def HDR.PAGE_CTRL_QUIESCE (p : PageKind) : Fld := ⟨HDR.PAGE_CTRL p, 2, 1⟩
def HDR.PAGE_STATE (p : PageKind) : Reg := { page := p, off := 0xc }
def HDR.PAGE_STATE_ST (p : PageKind) : Fld := ⟨HDR.PAGE_STATE p, 0, 3⟩
def HDR.FLT_STATUS (p : PageKind) : Reg := { page := p, off := 0x10, wide := true, stride := 8, w1c := 0xffffffffffffffff }
def HDR.FLT_IRQ_EN (p : PageKind) : Reg := { page := p, off := 0x18, wide := true, stride := 8, rw := 0xffffffffffffffff }
def HDR.FLT_SEV (p : PageKind) : Reg := { page := p, off := 0x20, count := 2, stride := 8, wide := true, resets := sevResets p, rwl := 0xffffffffffffffff }
def HDR.FLT_FIRST (p : PageKind) : Reg := { page := p, off := 0x30, w1c := 0x80000000 }
def HDR.FLT_FIRST_SOURCE (p : PageKind) : Fld := ⟨HDR.FLT_FIRST p, 0, 6⟩
def HDR.FLT_FIRST_VALID (p : PageKind) : Fld := ⟨HDR.FLT_FIRST p, 31, 1⟩
def HDR.FLT_FIRST_FRAME (p : PageKind) : Reg := { page := p, off := 0x34, count := 2, stride := 4 }
def HDR.FLT_COUNT (p : PageKind) : Reg := { page := p, off := 0x40, count := 16, stride := 4 }
def HDR.FLT_EVT_EN (p : PageKind) : Reg := { page := p, off := 0x80, wide := true, stride := 8, rw := 0xffffffffffffffff }
def HDR.HDR_PARITY (p : PageKind) : Reg := { page := p, off := 0xf8, w1s := 0x80000000, held := 0x7f }
def HDR.HDR_PARITY_ERR (p : PageKind) : Fld := ⟨HDR.HDR_PARITY p, 0, 1⟩
def HDR.HDR_PARITY_WORD (p : PageKind) : Fld := ⟨HDR.HDR_PARITY p, 1, 6⟩
def HDR.HDR_PARITY_INJ (p : PageKind) : Fld := ⟨HDR.HDR_PARITY p, 31, 1⟩
def HDR.PAGE_LOCK (p : PageKind) : Reg := { page := p, off := 0xfc, w1s := 0x3 }
def HDR.PAGE_LOCK_SEV (p : PageKind) : Fld := ⟨HDR.PAGE_LOCK p, 0, 1⟩
def HDR.PAGE_LOCK_RWL (p : PageKind) : Fld := ⟨HDR.PAGE_LOCK p, 1, 1⟩

/-- The registers of the STW page. -/
def STW.allRegs : List Reg :=
  [ STW.STW_STATE, STW.CC_STATE, STW.BOOT_STATE, STW.BOOT_CAUSE, STW.IRQ_ROUTE,
    STW.DBG_EN, STW.SB_POLICY, STW.SB_REFUSED, STW.RST_CMD, STW.BOOT_MS,
    STW.BOOT_OVER, STW.RECOV_WIN, STW.RECOV_LEN, STW.RECOV_SRC, STW.LOP_CMD,
    STW.LOP_STATUS, STW.LOP_SRC, STW.LOP_DST, STW.LOP_LEN, STW.LOP_PROGRESS,
    STW.LOP_REMOTE, STW.LOP_ERRORS, STW.SVC_STATE, STW.SVC_LAMP, STW.SVC_CMD,
    STW.SVC_TGT, STW.DRAIN_CTRL, STW.SVC_PRESSES, STW.Q_STATE, STW.Q_CAUSE,
    STW.Q_COUNT, STW.Q_LATER, STW.Q_NONCE, STW.Q_FRAME, STW.Q_SWREQ,
    STW.Q_EXIT_REFUSED, STW.WDOG_CTRL, STW.WDOG_KICK, STW.WDOG_STATE, STW.SCRUB_CTRL,
    STW.INJ_EN ]

/-- The registers of the TRU page. -/
def TRU.allRegs : List Reg :=
  [ TRU.TRU_STATE, TRU.TRU_CMD, TRU.TRU_STATUS, TRU.TRU_BUF, TRU.TRU_BUF_LEN,
    TRU.ID_LOT, TRU.ID_WAFER, TRU.ID_DIE, TRU.MEAS_SEL, TRU.MEAS_INFO,
    TRU.MEAS_VER, TRU.MEAS_FLOOR, TRU.MEAS_DATA, TRU.OWNER_HASH, TRU.LK_POLICY,
    TRU.LK_STATE, TRU.UPD_WAIT_FRAMES, TRU.VERIFY_FAILS, TRU.RNG_FAILS, TRU.INJ,
    TRU.CERT_WIN ]

/-- The registers of the PWR page. -/
def PWR.allRegs : List Reg :=
  [ PWR.PWR_STATE, PWR.VIN, PWR.IIN, PWR.PIN_W, PWR.ENERGY,
    PWR.PCAP, PWR.PCAP_DEBT, PWR.THR_CTRL, PWR.TJ, PWR.TJ_WARN,
    PWR.RAIL_SEL, PWR.RAIL_DATA, PWR.RAIL_SET, PWR.STAG_STATE, PWR.GRANTS,
    PWR.CLK_STATE, PWR.PIN_CTRL, PWR.STROBE_SEQ, PWR.PWR_INJ, PWR.FRM_CTRL,
    PWR.FRM_STATE, PWR.FRM_PERIOD, PWR.FRM_PERIOD_NEXT, PWR.FRM_PERIOD_AT, PWR.TICK_COUNT,
    PWR.FRAME_COUNT, PWR.FRM_SLACK, PWR.SLACK_USED, PWR.FRM_CHK, PWR.FRM_DUE,
    PWR.ALIGN_CTRL, PWR.ALIGN_ERR, PWR.OVR_COUNT, PWR.LATE_COUNT, PWR.IDLE_FRAMES,
    PWR.SLICE_MAP, PWR.OVR_CORE, PWR.FRM_INJ ]

/-- The registers of the GRD page. -/
def GRD.allRegs : List Reg :=
  [ GRD.GRD_ID, GRD.GRD_ENGINES, GRD.GRD_PROFILE, GRD.GRD_LIFE, GRD.GRD_BRIDGE_STATE,
    GRD.GRD_BRIDGE_CORR, GRD.GRD_BRIDGE_UNCORR, GRD.GRD_BSCHED_LOCK, GRD.GRD_BSCHED_01, GRD.GRD_BSCHED_10,
    GRD.GRD_PROMOTE, GRD.PROMO_SEQ, GRD.PROMO_POISON ]

/-- The registers of the CAL page. -/
def CAL.allRegs : List Reg :=
  [ CAL.CAL_STATE, CAL.CAL_GEN, CAL.CAL_SEL, CAL.CAL_FACTORY, CAL.CAL_USER,
    CAL.CAL_EFFECTIVE, CAL.CAL_MIN, CAL.CAL_MAX, CAL.CAL_ITEM, CAL.CAL_CMD ]

/-- The registers of the SPR page. -/
def SPR.allRegs : List Reg :=
  [ SPR.CTRL, SPR.STATE, SPR.RING_BASE, SPR.RING_HEAD, SPR.RING_TAIL,
    SPR.RING_FREE, SPR.SEQ, SPR.CPL_BASE, SPR.CPL_TAIL, SPR.CPL_HEAD,
    SPR.CPL_LOST, SPR.TOK_DROPPED, SPR.JOB_SEED, SPR.PRED, SPR.ORDER,
    SPR.TOK_LIMIT, SPR.TOK_ADDR, SPR.TOK_DATA, SPR.TOK_SIGNAL, SPR.HALT_INFO,
    SPR.HALT_SEQ, SPR.ENGINES, SPR.RDEV, SPR.LOOP_IDX, SPR.LOOP_CNT,
    SPR.ISSUE_STALL_CK, SPR.SKIPPED, SPR.REJECTED, SPR.PAT_CTRL, SPR.PAT_SLOTS,
    SPR.VPAT_PRESENT, SPR.PAT_RD_ADDR, SPR.PAT_RD_DATA, SPR.INJ, SPR.PAT_MAP ]

/-- The registers of the MLD page. -/
def MLD.allRegs : List Reg :=
  [ MLD.CTRL, MLD.STATE, MLD.CUR_SEQ, MLD.STREAM_CK, MLD.LOAD_STALL_CK,
    MLD.OPND_STALL_CK, MLD.HALF_STALL_CK, MLD.RAMP_CK, MLD.REPLAY_CK, MLD.REPLAY_COUNT,
    MLD.UNRECOVERED, MLD.CRC_RETRIES, MLD.PAR_RELOADS, MLD.INJ, MLD.TILE_SHIFT0,
    MLD.TILE_SHIFT1 ]

/-- The registers of the ASY page. -/
def ASY.allRegs : List Reg :=
  [ ASY.CTRL, ASY.STATE, ASY.CUR_SEQ, ASY.CAPTURE_FREE, ASY.BUSY_CK,
    ASY.RELEASE_WAIT_CK, ASY.NS_LOCAL, ASY.NS_GLOBAL, ASY.NS_G2_EMA, ASY.NS_S_EMA,
    ASY.NS_BNOISE, ASY.NS_UPDATES, ASY.NONFINITE_BLOCKS, ASY.POISON_UNITS, ASY.INJ ]

/-- The registers of the CRU page. -/
def CRU.allRegs : List Reg :=
  [ CRU.CTRL, CRU.STATE, CRU.CUR_SEQ_LO, CRU.CUR_SEQ_HI, CRU.CTRL2,
    CRU.BUSY_CK, CRU.PORT_WAIT_CK, CRU.FIT_WAIT_CK, CRU.PUBLISHED, CRU.STALE_COUNT,
    CRU.REG_COUNT, CRU.SAT_COUNT, CRU.MTAB_ADDR, CRU.MTAB_DATA, CRU.INJ ]

/-- The registers of the LDL page. -/
def LDL.allRegs : List Reg :=
  [ LDL.CTRL, LDL.STATE, LDL.CUR_SEQ, LDL.BUSY_CK, LDL.CONFLICT_CK,
    LDL.TUN_WAIT_CK, LDL.EMPTY_COUNT, LDL.CRC_RETRIES, LDL.INJ, LDL.VTAG_SEL,
    LDL.VTAG ]

/-- The registers of the RUN page. -/
def RUN.allRegs : List Reg :=
  [ RUN.CTRL, RUN.STATE, RUN.CUR_SEQ, RUN.BUSY_CK, RUN.SLOT_WAIT_CK,
    RUN.CAP_WAIT_CK, RUN.PF_ISSUED, RUN.PF_USED, RUN.PF_LATE, RUN.PF_EVICTED,
    RUN.PF_SUPPRESSED, RUN.CACHE_HITS, RUN.CACHE_MISSES, RUN.CRC_RETRIES, RUN.INJ ]

/-- The registers of the TUN page. -/
def TUN.allRegs : List Reg :=
  [ TUN.STATE, TUN.SCRUB_FRAMES, TUN.SCRUB_PASSES, TUN.CORR_COUNT, TUN.UNCORR_COUNT,
    TUN.SPARE_REQ, TUN.SPARE_MAP, TUN.SPARE_PROGRESS, TUN.DIAG_CTRL, TUN.DIAG_LINE,
    TUN.DIAG_DATA, TUN.DIAG_CHECK, TUN.DIAG_STATUS, TUN.INJ, TUN.QUOTA,
    TUN.POOL, TUN.QAPPLY, TUN.QSTATUS, TUN.CACHE_ENTRIES, TUN.LAND_REFUSED,
    TUN.PGA ]

/-- The registers of the HBM page. -/
def HBM.allRegs : List Reg :=
  [ HBM.STATE, HBM.STACK_ID, HBM.TEMP, HBM.LANES, HBM.CORR_COUNT,
    HBM.UNCORR_COUNT, HBM.PARITY_COUNT, HBM.LOST_CAUSE, HBM.RD_BYTES, HBM.WR_BYTES,
    HBM.INJ, HBM.TILEWIN, HBM.PART_REG, HBM.SLOT_CTRL, HBM.SLOT_TABLE ]

/-- The registers of the ING page. -/
def ING.allRegs : List Reg :=
  [ ING.CTRL, ING.STATE, ING.PE_RATED, ING.PE_MAX, ING.PHYS_BYTES,
    ING.WB_DAY, ING.WB_BUCKET, ING.WB_USED, ING.HOST_BYTES, ING.WB_HOLDS,
    ING.READ_FAILS, ING.RETRY_READS, ING.UNMAPPED_READS, ING.RETIRED_BLOCKS, ING.LOST_TILES,
    ING.MAPC_HITS, ING.MAPC_MISSES, ING.RETIRE_REQ, ING.RETIRE_PROGRESS, ING.INJ,
    ING.AREA_TILES, ING.JNL_CTRL, ING.JNL_STATE, ING.JNL_SEQ, ING.JNL_DURABLE,
    ING.JNL_TAIL, ING.JNL_TAIL_MAX, ING.JNL_DISCARDED, ING.JNL_SNAP_SEQ, ING.RSR_CTRL,
    ING.RSR_RATE, ING.RSR_STATE, ING.RSR_SEQ, ING.RSR_ACK, ING.RSR_BUF,
    ING.RSR_DROPPED, ING.RSR_KEY_EPOCH, ING.LIFE_SEL, ING.LIFE_DATA, ING.LIFE_CTRL,
    ING.JNL_INJ ]

/-- The registers of the INGCH page. -/
def INGCH.allRegs : List Reg :=
  [ INGCH.CH_STATE, INGCH.CH_RATE, INGCH.CH_CTRL, INGCH.TGT_GEOM, INGCH.RD_PAGES,
    INGCH.PR_PAGES, INGCH.ERASES, INGCH.CW_RETRIED, INGCH.CW_FAILED ]

/-- The registers of the AVL page. -/
def AVL.allRegs : List Reg :=
  [ AVL.CTRL, AVL.STATE, AVL.PEER, AVL.LANE_MAP, AVL.LANE_THRESH,
    AVL.ACK_TIMEOUT, AVL.RE_EQ_PERIOD, AVL.TC_WEIGHT, AVL.LANE_SYM, AVL.FEC_CORR_CW,
    AVL.FEC_UNCORR_CW, AVL.CRC_ERR, AVL.REPLAYS, AVL.RETRAINS, AVL.LANE_SWAPS,
    AVL.RE_EQ_SKIPPED, AVL.PROTO_ERR, AVL.LOST_PKTS, AVL.TX_FLITS, AVL.RX_FLITS,
    AVL.TC0_QMAX, AVL.TC0_UNBOUNDED, AVL.KEY_STATE, AVL.AUTH_FAIL, AVL.TX_WRAPS,
    AVL.INJ, AVL.TC0_REG, AVL.TC0_HELD ]

/-- The registers of the COL page. -/
def COL.allRegs : List Reg :=
  [ COL.STATE, COL.GRP_SEL, COL.GRP_CMD, COL.GRP_STATUS, COL.HOLD_FRAMES,
    COL.STALE_DROPPED, COL.HELD_DROPPED, COL.PEND_BUSY, COL.COLL_DONE, COL.FENCES,
    COL.INJ, COL.GRP_DATA, COL.SW_FLASK_GRP, COL.SW_LANE_GRP, COL.SW_SEAL_GRP,
    COL.SW_CTRL, COL.SW_STATE, COL.SW_EPOCH, COL.SW_ATTEMPT, COL.SW_NEXT_BLOCK,
    COL.SW_SEAL, COL.SW_SKIPS, COL.SW_CONVERTS, COL.SW_MISMATCHES, COL.SW_ODD,
    COL.SW_CMD, COL.SW_INJ, COL.SW_REL_TOK ]

/-- The registers of the ROUT page. -/
def ROUT.allRegs : List Reg :=
  [ ROUT.SELF, ROUT.DIMS, ROUT.BRIDGE, ROUT.PORT_EN, ROUT.MISCABLED,
    ROUT.EXC_USED, ROUT.E2E_TIMEOUT, ROUT.EVT_HOST, ROUT.MAX_HOPS, ROUT.UNREACH_COUNT,
    ROUT.E2E_LOST, ROUT.LATE_RSP, ROUT.BAD_MSG, ROUT.EXC_STATUS, ROUT.INJ,
    ROUT.EXC, ROUT.HOSTS ]

/-- The registers of the HDR page header. -/
def HDR.allRegs (p : PageKind) : List Reg :=
  [ HDR.PAGE_ID p, HDR.PAGE_CAPS p, HDR.PAGE_CTRL p, HDR.PAGE_STATE p, HDR.FLT_STATUS p,
    HDR.FLT_IRQ_EN p, HDR.FLT_SEV p, HDR.FLT_FIRST p, HDR.FLT_FIRST_FRAME p, HDR.FLT_COUNT p,
    HDR.FLT_EVT_EN p, HDR.HDR_PARITY p, HDR.PAGE_LOCK p ]

/-- The registers at 0x100 and above of a page, and its header registers (R438, R439). -/
def PageKind.regs (p : PageKind) : List Reg :=
  (match p with
  | .stw => STW.allRegs | .tru => TRU.allRegs | .pwr => PWR.allRegs | .grd => GRD.allRegs | .cal => CAL.allRegs
  | .spr => SPR.allRegs | .mld => MLD.allRegs | .asy => ASY.allRegs | .cru => CRU.allRegs | .ldl => LDL.allRegs
  | .run => RUN.allRegs | .tun => TUN.allRegs | .hbm => HBM.allRegs | .ing => ING.allRegs
  | .ingch => INGCH.allRegs | .avl => AVL.allRegs | .col => COL.allRegs | .rout => ROUT.allRegs) ++ HDR.allRegs p

/-- A place in the register window: the register, its page instance, the element, and which 32-bit half of it. -/
structure RegLoc where
  reg : Reg
  inst : Nat
  idx : Nat
  high : Bool
deriving DecidableEq, Repr

/-- R438: the page and instance an offset of the window lies in. -/
def pageAt (a : Nat) : Option (PageKind × Nat) :=
  (PageKind.all.flatMap (fun p => (List.range p.count).map (fun i => (p, i)))).find?
    (fun x => decide (x.1.base x.2 ≤ a ∧ a < x.1.base x.2 + x.1.size))

/-- R438: the register at a 32-bit offset of the window; none where no chapter defines one (reads 0, ignores writes). -/
def regAt (a : Nat) : Option RegLoc :=
  match pageAt a with
  | none => none
  | some (p, i) =>
    let o := a - p.base i
    (p.regs.find? (fun r =>
      decide (r.off ≤ o) && (let d := o - r.off
        decide (d / r.stride < r.count) && (d % r.stride == 0 || (r.wide && d % r.stride == 4))))).map
      (fun r => let d := o - r.off; { reg := r, inst := i, idx := d / r.stride, high := d % r.stride == 4 && r.wide })

end Sys2Proof.Machine
end

