-- ==== Sys2Proof/Machine/State.lean ====
section
/-!
DEFINITION. Machine/State.lean: everything the spec gives the block, as plain data: the registers of every page, the
stores, queues and sequencers behind them, the queue of waiting commands, and the state after reset.
-/
namespace Sys2Proof.Machine

/-! ## Shared containers -/

/-- A sparse map in one canonical form: keys strictly rising, no entry equal to the map's default value. -/
abbrev SMap (α : Type) := List (Nat × α)

/-- A byte memory: the cells that differ from 0, addresses strictly rising. -/
abbrev Mem := List Host.Cell

/-! ## Descriptors (07) -/

/-- R173: a wait word. -/
structure Wait where
  id : Nat
  consume : Bool
  thresh : Nat
deriving DecidableEq, Repr

/-- R173: a signal word. -/
structure Sig where
  id : Nat
  valid : Bool
  remote : Bool
  cond : Nat
  dev : Nat
  core : Nat
deriving DecidableEq, Repr

/-- R173: a loop-stride word. -/
structure LStr where
  level : Nat
  target : Nat
  valid : Bool
  shift : Nat
  stride : Int
deriving DecidableEq, Repr

/-- R174: a region descriptor. `base` is an integer because a loop stride may make it negative (R176). -/
structure Region where
  base : Int := 0
  type : Nat := 0
  rtype : Nat := 0
  dev : Nat := 0
  rowBytes : Nat := 0
  rows : Nat := 0
  rowStride : Nat := 0
deriving DecidableEq, Repr

/-- R173: a descriptor, its 128 bytes taken apart. -/
structure Desc where
  engine : Nat := 0
  op : Nat := 0
  predIdx : Nat := 0
  predPol : Bool := false
  predEn : Bool := false
  pattern : Nat := 0
  fmt0 : Nat := 0
  fmt1 : Nat := 0
  fmt2 : Nat := 0
  rnd0 : Nat := 0
  rnd1 : Nat := 0
  passes : Nat := 0
  frac : Nat := 0
  irq : Bool := false
  waits : List Wait := []
  sigs : List Sig := []
  lstrs : List LStr := []
  len0 : Nat := 0
  len1 : Nat := 0
  len2 : Nat := 0
  scaleWord : Nat := 0
  w38 : Nat := 0
  reg0 : Region := {}
  reg1 : Region := {}
  reg2 : Region := {}
  baseElem : Int := 0
  aux16 : Nat := 0
  param : Nat := 0
deriving DecidableEq, Repr

/-- An issued descriptor (R170): its sequence number, ring slot, SRG key (R188), times, the loop indices in force,
and for a Mould descriptor `MLD.CTRL` as read at issue (R73). `frame` is the frame of its issue; `stale` marks a queued Crucible descriptor whose
deadline frame has begun (R136). -/
structure Iss where
  seq : Nat := 0
  slot : Nat := 0
  desc : Desc := {}
  key : Word := 0
  issueCk : Nat := 0
  relCk : Nat := 0
  loopIdx : List Nat := []
  skip : Bool := false
  snap : Nat := 0
  frame : Nat := 0
  stale : Bool := false
deriving DecidableEq, Repr

/-- What an engine hands the Sprue when it has finished a descriptor (R172, R194). -/
structure Fin' where
  iss : Iss
  status : Nat := 0
  flags : Flags := {}
  word : Nat := 0
  finCk : Nat := 0
deriving DecidableEq, Repr

/-! ## Sprue (07) -/

/-- R179, R180: a change of a token counter that the counter holds from the ck after `ck`: a signal, or the value `val` of
a `TOKSET` or a counter write. -/
structure Fresh where
  id : Nat
  ck : Nat
  val : Option Nat := none
deriving DecidableEq, Repr

/-- R169: one entry of the 64-entry descriptor window; `bad` marks a descriptor whose CRC failed twice. -/
structure WinEnt where
  slot : Nat
  desc : Desc
  bad : Bool
deriving DecidableEq, Repr

/-- R185: a hardware loop in force: its body's first slot and length, its index and its count. -/
structure Loop where
  body : Nat
  len : Nat
  idx : Nat
  count : Nat
deriving DecidableEq, Repr

/-- One engine queue of a core (R170): issued and waiting, released and in execution, and finished but not completed,
each oldest first. A finished descriptor stays in `run` until it completes. -/
structure EngSt where
  queue : List Iss := []
  run : List Iss := []
  fin : List Fin' := []
deriving DecidableEq, Repr

/-- The Sprue of one core beyond its registers. -/
structure SprueSt where
  window : List WinEnt := []
  cur : Option Iss := none
  curStatus : Nat := 0
  tokens : SMap Nat := []
  fresh : List Fresh := []
  loops : List Loop := []
  lastIssue : Nat := 0
  lastProgress : Nat := 0
  eng : Vector EngSt 6 := Vector.replicate 6 {}
  sigDue : List (Nat × Nat) := []
  pat : SMap Nat := []
  passHead : Bool := false
  /-- R198: the pattern-store words whose check bits decode as uncorrectable. -/
  patBad : List Nat := []
  /-- R204: the signals a counter has had since the fitting tick of the frame, in locked timing. -/
  late : SMap Nat := []
  /-- R170, R208: the ck of idle frames since the last issue in which a Sprue descriptor was next. -/
  idleCk : Nat := 0
  /-- R389: `HALT_INFO` holds a cause recorded since the stream last started. -/
  cause : Bool := false
deriving DecidableEq, Repr

/-! ## Messages (12, 13) -/

/-- R286, R312: a packet: its header, its message-field word and the message body that follows. -/
structure Packet where
  tc : Nat
  mkind : Nat
  dest : Nat
  dhost : Bool := false
  src : Nat := 0
  shost : Bool := false
  len : Nat := 1
  fstamp : Nat := 0
  word : Nat := 0
  body : List Byte := []
  /-- R19, R223, R261: the ck before which an answer to a memory request is not ready to be sent. -/
  notBefore : Nat := 0
deriving DecidableEq, Repr

/-! ## Ladle (06) -/

/-- R143–R146: the Ladle's stores: vector registers of 512 lanes with their format tags, mask registers of 512 bits, and
the 32 MiB operand cache with the words whose check bits decode as uncorrectable. -/
structure LdlSt where
  v : SMap (List Nat) := []
  vtag : SMap (Nat × Nat) := []
  k : SMap Nat := []
  cache : Mem := []
  cacheBad : List Nat := []
  /-- R148: what the Runners wrote to the cache while a Ladle descriptor was in execution (address, ck, the bytes before), and
  what the Ladle wrote while a Runner descriptor was (address, length, ck), in the current frame. -/
  runW : List (Nat × Nat × List Byte) := []
  ldlW : List (Nat × Nat × Nat) := []
deriving DecidableEq, Repr


/-! ## Mould (03) -/

/-- R64, R65: an output tile in progress: its place, its scale shift, how often it has been marked, and its accumulator
elements, row-major, as encodings of the accumulator format. -/
structure MTile where
  idx : Nat
  panel : Nat
  row0 : Nat
  rows : Nat
  col0 : Nat
  cols : Nat
  s : Nat := 0
  marks : Nat := 0
  unrec : Bool := false
  acc : List Nat := []
deriving DecidableEq, Repr

/-- R82: an operand tile in the operand stage: operand 0 A, 1 B; its number in its memory; payload, sidecar and when it passed
its check. -/
structure OpTile where
  op : Nat
  j : Nat
  payload : List Byte
  side : List Byte
  ck : Nat := 0
deriving DecidableEq, Repr

/-- R196–R198: the operand rows that a Mould-feed pattern supplies: of each A row it advances the ck and the offset in region 0,
of each B load row the offset in region 1; none of either under the built-in sequencing. -/
structure MFeed where
  a : List (Nat × Nat) := []
  b : List Nat := []
deriving DecidableEq, Repr

/-- R65, R66: a round in progress or waiting for its completion: its half, its tiles, and the end of its last stream. -/
structure MRound where
  round : Nat
  half : Nat
  tiles : List MTile
  endCk : Option Nat := none
deriving DecidableEq, Repr

/-- A `MATMUL` in execution: its staged operands and their coarse scales (R476), the round and B-register set it streams
next, its rounds in progress, the marks to be made (ck, tile) and made (R74), the failures found, and what its
completion reports (R85, R86). -/
structure MJob where
  iss : Iss
  feed : MFeed := {}
  stage : List OpTile := []
  coarse : Option Nat × Option Nat := (none, none)
  forceBad : List (Nat × Nat) := []
  round : Nat := 0
  set : Nat := 0
  live : List MRound := []
  pend : List (Nat × Nat) := []
  marked : List (Nat × Nat) := []
  streamed : Bool := false
  undrained : Nat := 0
  bad : List Nat := []
  abandoned : Bool := false
  flags : Flags := {}
  replays : Nat := 0
  replayed : List Nat := []
  maxShift : Nat := 0
  used : Nat := 0
  budgetHit : Bool := false
  overrun : Bool := false
  crcRetry : Bool := false
  eccCorr : Bool := false
  rounds : Nat := 0
deriving DecidableEq, Repr

/-- R69: a B-register set being loaded or loaded into the shadow set: the descriptor and set, its start and end. -/
structure MLoad where
  seq : Nat
  round : Nat
  set : Nat
  startCk : Nat
  endCk : Nat
  done : Bool := false
  again : Bool := false
deriving DecidableEq, Repr

/-- R68: a finished round that waits for its drain or drains. -/
structure MDrain where
  seq : Nat
  half : Nat
  tiles : List MTile
  ready : Nat
  skip : Option Nat := none
  endCk : Option Nat := none
deriving DecidableEq, Repr

/-- The Mould beyond its registers. -/
structure MouldSt where
  jobs : List MJob := []
  load : Option MLoad := none
  /-- The stream in progress: descriptor, start, end. -/
  stream : Option (Nat × Nat × Nat) := none
  /-- The start and the end of the last stream. -/
  lastStart : Nat := 0
  freeCk : Nat := 0
  drains : List MDrain := []
  drainFree : Nat := 0
  /-- When each half became free. -/
  halfFree : Nat × Nat := (0, 0)
  /-- The tiles held in each half with their accumulator format, under `DRAIN_HOLD` (R67). -/
  held : Option (Nat × List MTile) × Option (Nat × List MTile) := (none, none)
  /-- Operand tiles delivered and not yet checked: descriptor, operand tile, read status, whether it is a second copy. -/
  inq : List (Nat × OpTile × Nat × Bool) := []
  /-- When the ramp in progress was granted or began. -/
  rampCk : Nat := 0
  idleFrom : Nat := 0
  /-- R75: the replays of this frame, oldest first: each its descriptor, its first ck and its end. -/
  reps : List (Nat × Nat × Nat) := []
  /-- R79: the descriptors whose replay budget runs out, and when, oldest first. -/
  budgetDue : List (Nat × Nat) := []
  /-- R66: the half of the last round that began. -/
  lastHalf : Option Nat := none
  /-- R216: `FRAME_OVERRUN` has been raised for the slack in this frame. -/
  slackHit : Bool := false
deriving DecidableEq, Repr

/-! ## Assay (04) -/

/-- R91: a `COV` with the tapped `MATMUL` paired with it, and the rows captured for it (R92), as row, K-tile, the ck it was
offered and 512 BF16 encodings; the capture space taken for it and K; `past`: its blocks would pass unit 191 (R95); how many of
the captured rows have been accumulated, and when the last of them was. -/
structure Pair where
  cov : Iss
  mat : Option Nat := none
  noRows : Bool := false
  space : Nat := 0
  kLen : Nat := 0
  waited : Bool := false
  waitFrom : Option Nat := none
  rows : List (Nat × Nat × Nat × List Nat) := []
  flags : Flags := {}
  lastCk : Nat := 0
  full : Bool := false
  past : Bool := false
  accN : Nat := 0
  accCk : Nat := 0
deriving DecidableEq, Repr

/-- R99: a `BLEND` in execution: the entry it comes to next and what its completion reports (R105, R106). -/
structure BlendSt where
  seq : Nat
  next : Nat := 0
  written : Nat := 0
  skipped : Nat := 0
  nonfinite : Bool := false
  retry : Bool := false
  status : List Nat := []
  flags : Flags := {}
deriving DecidableEq, Repr

/-- R89: the Assay's stores: slot units (entry (p, q) of unit u at 16,384 u + 128 p + q, FP32), their tags (count,
poison), and the captures. -/
structure AsySt where
  slots : SMap Nat := []
  tags : SMap (Nat × Bool) := []
  pairs : List Pair := []
  blend : Option BlendSt := none
deriving DecidableEq, Repr


/-! ## Crucible (05) -/

/-- R113: a working matrix of n × n exact values held as integers under one block exponent. -/
structure WMat where
  n : Nat
  e : Int
  m : List Int
deriving DecidableEq, Repr

/-- A problem of a solve in execution, or a member of its group (R117): its list entry, its snapshot with the source's
F and X, and its computed result: shift, working matrix and status word. -/
structure CProb where
  idx : Nat
  srcId : Nat
  resId : Nat
  snap : List Int := []
  f : Nat := 0
  x : Int := 0
  result : Option WMat := none
  shift : Int := 0
  dshift : Int := 0
  st : Nat := 0
  skip : Bool := false
deriving DecidableEq, Repr

/-- What a quantum of work is (R128): a snapshot, computing, a result write, one item of a direct operation, or a skip. -/
inductive QKind where
  | snap | work | write | item | skipped
deriving DecidableEq, Repr

/-- R129: the work of one class: the descriptor, the next problem or item, the problems of the group in hand, the quanta
left of it, and what the completion reports (R138). -/
structure CCtx where
  iss : Iss
  next : Nat := 0
  group : List CProb := []
  quanta : List (QKind × Nat) := []
  stale : Bool := false
  ended : Bool := false
  status : List Nat := []
  doneN : Nat := 0
  staleN : Nat := 0
  regN : Nat := 0
  satN : Nat := 0
  skipN : Nat := 0
  abandoned : Bool := false
  late : Bool := false
  portWaited : Bool := false
  flags : Flags := {}
  /-- R136: the problems skipped or abandoned, which do not publish. -/
  missed : List Nat := []
deriving DecidableEq, Repr

/-- R133: an access of a step to the resident store that has not begun: its offset in the step, its length (0 for an item
that needs none), and the problem whose snapshot or factor it reads, if that is its sort. -/
structure CAcc where
  off : Nat
  len : Nat
  snap : Option Nat := none
deriving DecidableEq, Repr

/-- R130: the step in progress: its class, its quanta, when it started and ends, and whether its operation has been
carried out; its accesses that have not begun, the ck it has waited at the port, and the items it has carried out. -/
structure CStep where
  hi : Bool
  quanta : List (QKind × Nat)
  startCk : Nat
  endCk : Nat
  applied : Bool
  accs : List CAcc := []
  waited : Nat := 0
  done : Nat := 0
deriving DecidableEq, Repr

/-- The Crucible beyond its registers: the matrix table (entries as 512-bit numbers), the resident store's buffers by
32-bit word, the two contexts, the step in progress, this frame's low-class step time, and who holds the store port. -/
structure CruSt where
  mtab : SMap Nat := []
  store : SMap Nat := []
  lo : Option CCtx := none
  hi : Option CCtx := none
  step : Option CStep := none
  lowUsed : Nat := 0
  resumeCk : Nat := 0
  waitFrom : Option Nat := none
  /-- R141: when a step last started, carried out an item or ended, or a descriptor was released. -/
  progCk : Nat := 0
  /-- R139: the 16-byte words of the store whose check bits decode as uncorrectable. -/
  bad : List Nat := []
deriving DecidableEq, Repr

/-- R133: the store port: who waits for it and since when, who holds it until when, whether the Assay's grant is unused, and who was
granted last. -/
structure PortSt where
  cruWait : Option Nat := none
  asyWait : Option Nat := none
  busyUntil : Nat := 0
  asyGrant : Bool := false
  lastAsy : Bool := false
deriving DecidableEq, Repr

/-! ## Tundish and Runners (09) -/

/-- R241: a read request: one tile with its sidecar, or the sectors of one chunk of a row. Kind 0 takes a local slot
(Tundish, HBM), 1 a remote slot, 2 an Ingot slot, 3 none (the prefetcher). `tag` is the piece's place in a requester's source,
or names the operand tile it is for (Mould feed: operand and number). `check`: the consumer checks the tile (R231). -/
structure Req where
  kind : Nat
  type : Nat
  dev : Nat
  rtype : Nat
  addr : Nat
  len : Nat
  tile : Bool
  tag : Nat := 0
  check : Bool := true
deriving DecidableEq, Repr

/-- One delivered piece of a requester's source: payload, sidecar (empty for sectors) and the check's outcome:
0 good, 1 CRC bad twice, 2 uncorrectable, 3 Ingot failure, 4 remote failure; and where it came from: its memory (type,
memory type and device entry as one number) and its address there. -/
structure Piece where
  payload : List Byte
  side : List Byte
  bad : Nat
  space : Nat := 0
  addr : Nat := 0
deriving DecidableEq, Repr

/-- R242: a requester of a core: the Runner descriptor in execution or the feed of an engine; its requests not yet issued,
all it has had but second copies (`asked`), and its data delivered so far by place. `eng` is the code of the engine it feeds (5 Runners). The two times are when it
began to wait for a slot and under a pseudo-channel's cap. `indexed` says that it has asked for what a list of it names. `first` and
`last` are the ck of its first and its latest delivery (R246). -/
structure Requester where
  eng : Nat
  seq : Nat
  todo : List Req
  asked : List Req := []
  got : List (Nat × Piece) := []
  total : Nat
  retry : Bool := false
  corr : Bool := false
  hit : Bool := false
  waitFrom : Option Nat := none
  capFrom : Option Nat := none
  indexed : Bool := false
  first : Option Nat := none
  last : Nat := 0
deriving DecidableEq, Repr

/-- A request that holds a slot (R241): whom it serves, its request, when it reaches its memory, when its data is
delivered (`none` while that waits for an HBM slot, an Ingot read or a response), and the pseudo-channels of which an
controller must still serve it (R258, R259), the ck at which the first of its data has left its memory and the last is ready;
`cached`: the Tundish tile of the cache entry that serves it or that it fills (`fills`); `stage`: the staging tile that holds
its data (R237); `done`: its data waits for the boundary window (R207); `frame` is the frame of the request (R218). -/
structure Flight where
  eng : Nat
  seq : Nat
  req : Req
  arr : Nat := 0
  due : Option Nat := none
  parts : List Nat := []
  first : Option Nat := none
  ready : Nat := 0
  cached : Option Nat := none
  fills : Bool := false
  stage : Option Nat := none
  done : Bool := false
  frame : Nat := 0
  /-- R271: of an Ingot read whose tile has changed since its issue, the page, the payload and the sidecar it reads. -/
  old : Option (Option Nat × List Byte × List Byte) := none
deriving DecidableEq, Repr

/-- R311, R314: a write to a remote device that waits for a remote slot: its descriptor, device, memory type, tile mode,
address and data. -/
structure RemWrite where
  seq : Nat
  dest : Nat
  rtype : Nat
  tile : Bool
  addr : Nat
  data : List Byte
deriving DecidableEq, Repr

/-- The request slots of one core (R241), oldest first; when its read port is free; the round-robin position; remote
writes that wait for a slot; when the last write it has issued is acknowledged (R223, R261). -/
structure RunSt where
  requesters : List Requester := []
  flight : List Flight := []
  portFree : Nat := 0
  rr : Nat := 0
  wq : List RemWrite := []
  ackCk : Nat := 0
deriving DecidableEq, Repr

/-- R257–R259: an access to HBM, other than a core's read, that waits at its controllers: its partition, its direction,
whether it is a tile, its address and length, when it arrives, the pseudo-channels still to serve it, the end of its latest
service, and the answer to send once it is served (the address and length of a read whose data goes with it). -/
structure HReq where
  part : Nat
  write : Bool
  tile : Bool
  addr : Nat
  len : Nat
  arr : Nat
  parts : List Nat
  first : Option Nat := none
  ready : Nat := 0
  /-- The casting of the requester of partitions 4–6; 2 a core. -/
  cast : Nat := 2
  /-- The slot of the long operation whose step it belongs to; 4 none. -/
  slot : Nat := 4
  answer : Option Packet := none
deriving DecidableEq, Repr

/-- R20–R22, R221, R222, R258, R259: what is taken of the shared ways to memory: uses of a bridge direction, a die crossbar or
a bank by time; the hk at which each pseudo-channel is free; each partition's token bucket at each stack, in 1/32 of a
sector, with the hk it was last brought up to date; and the accesses that wait at the HBM controllers. -/
structure AccSt where
  use : SMap Nat := []
  pcFree : SMap Nat := []
  bucket : SMap (Int × Nat) := []
  hq : List HReq := []
  /-- R25: the bridge directions in which a word has been delivered damaged, whose data has not come to its consumer. -/
  dmg : List Nat := []
deriving DecidableEq, Repr

/-- R234, R235: one cache entry: the Tundish tile that holds it, its source tile, its user and its allocation stamp;
`pf` marks an entry fetched by run-ahead or the prefetcher and not yet used (R245), `fill` one whose data has not come, and
`gone` one that is invalidated and leaves once no read of it is in progress (R233, R238). -/
structure CacheEnt where
  tile : Nat
  type : Nat
  dev : Nat
  src : Nat
  user : Nat
  stamp : Nat
  pf : Bool
  fill : Bool := false
  gone : Bool := false
deriving DecidableEq, Repr

/-- R233: a quota entry in force: first tile, count and mode. -/
structure Quota where
  first : Nat := 0
  count : Nat := 0
  mode : Nat := 0
deriving DecidableEq, Repr

/-- R228: a spare-bank copy: the bank and the spare it goes to, when it started, and when every line was copied. -/
structure SpareCopy where
  bank : Nat
  spare : Nat
  startCk : Nat
  done : Option Nat := none
deriving DecidableEq, Repr

/-- The Tundish beyond its registers: payload and sidecar bytes, words whose stored check bits are not those of their
data (payload word k of the address space at k, sidecar word k of tile t at 2^27 + 128 t + k), the words of fenced and
spare banks for the diagnostic window (data and, above 128 bits, the exclusive or of their check bits with those of the
data), quotas in force and accepted with the ck of their acceptance, and the tag directory. -/
structure TunSt where
  bytes : Mem := []
  side : Mem := []
  badWords : SMap Nat := []
  fenced : SMap Nat := []
  quotas : Vector Quota 8 := Vector.replicate 8 {}
  quotaNext : Option (Vector Quota 8) := none
  quotaCk : Nat := 0
  cache : List CacheEnt := []
  staging : List (Nat × Nat) := []
  copies : Vector (Option SpareCopy) 2 := Vector.replicate 2 none
  scrubPos : Vector Nat 2 := Vector.replicate 2 0
  /-- R227: of each die's scrubber the ck at which its pass began and that of its last line. -/
  scrubCk : Vector (Nat × Nat) 2 := Vector.replicate 2 (0, 0)
  /-- R402: of each scrubber of `SCRUB_CTRL` the unit it is at, and the ck it came to it. -/
  scrubs : SMap (Nat × Nat) := []
deriving DecidableEq, Repr

/-! ## Events from outside (08) -/

/-- R32, R207: an event from outside a core that takes effect in the boundary window in locked timing. -/
inductive ExtEvt where
  /-- A `RING_TAIL` write (R168). -/
  | ringTail (c v : Nat)
  /-- A `PRED` write (R183). -/
  | pred (c : Nat) (v : Word)
  /-- A remote token signal or a `TOK_SIGNAL` write (R180). -/
  | signal (c token : Nat)
  /-- A `TOK_DATA` write (R179). -/
  | counter (c token v : Nat)
  /-- A remote read or an Ingot read delivered to a requester of core `c`: the descriptor, the engine it feeds, the
  request, and its data (R207). -/
  | piece (c seq eng : Nat) (r : Req) (p : Piece)
  /-- A durable journal append or an Ingot write of core `c` that has completed (R270, R368). -/
  | written (c seq : Nat)
deriving DecidableEq, Repr

/-- R314: a remote request of this device that waits for its response: its tag, the core and descriptor it serves (core 4
for the Steward), whether it is a write, the request, and the frame-count deadline in ck. -/
structure RemReq where
  tag : Nat
  core : Nat
  seq : Nat
  eng : Nat
  write : Bool
  dest : Nat
  req : Req
  deadline : Nat
deriving DecidableEq, Repr

/-! ## Ingot Store (11) -/

/-- R273: a flash block: its P/E count, the pages programmed in it, and its state: 0 free, 1 open, 2 full, 3 retired. -/
structure FBlk where
  pe : Nat := 0
  used : Nat := 0
  st : Nat := 0
deriving DecidableEq, Repr

/-- R270: a page write accepted and not complete: whom it serves (core 4: the Steward or the Ingot Store itself), its
area and tile, its payload and sidecar, and the page it is being programmed into since when. -/
structure IngWrite where
  core : Nat
  seq : Nat
  area : Nat
  tile : Nat
  payload : List Byte
  side : List Byte
  page : Option Nat := none
  startCk : Nat := 0
deriving DecidableEq, Repr

/-- The Ingot Store: area 0's contents by tile; the map from area and tile to physical page (its number plus 1); the
blocks that differ from a fresh one; the next channel in rotation; the map cache, newest first; the writes not complete;
the updates of the map log not programmed; the pages of a block; the target being retired; the carry of the write
budget (R276). -/
structure IngSt where
  bytes : Mem := []
  side : Mem := []
  map : SMap Nat := []
  blocks : SMap FBlk := []
  next : Nat := 0
  mapc : List Nat := []
  writes : List IngWrite := []
  log : Nat := 0
  ppb : Nat := 1024
  retiring : Option Nat := none
  carry : Nat := 0
  /-- R279: pages whose data no retry decodes. -/
  dead : List Nat := []
  /-- R276: a write has waited for the budget, or would have, in this frame. -/
  held : Bool := false
  /-- R279: of each channel the ck of its last patrol read. -/
  patrols : SMap Nat := []
deriving DecidableEq, Repr

/-! ## Collectives and the sweep (13, 14) -/

/-- R326–R328: a collective in progress, or one whose chunks have begun to arrive: its group; the cores that have issued
their `COLL`, with sequence number and contribution; the vector this device contributes; partial chunks received (member
position, chunk, elements); chunks passed up; result chunks; chunks asked for again; and chunks that already belong to
the next collective. `fence` holds the members whose `FENCE` has come. -/
structure CollRun where
  group : Nat
  joined : List (Nat × Nat × List (Option Nat) × Flags) := []
  own : Option (List (Option Nat)) := none
  parts : List (Nat × Nat × List Nat) := []
  up : List Nat := []
  res : List (Nat × List Nat) := []
  again : List (Nat × Nat × Bool) := []
  early : List (Nat × Nat × List Nat) := []
  fence : List Nat := []
  flags : Flags := {}
  failed : Bool := false
deriving DecidableEq, Repr

/-- The collectives engine: the group table's active and pending entries (512-bit numbers by group ID), the collectives
in progress, packets held for a later epoch with their port and the frame they came in (R331), and the groups whose
pending entry takes its contents when they drain (R330). -/
structure ColSt where
  grp : SMap Nat := []
  grpNext : SMap Nat := []
  runs : List CollRun := []
  held : List (Nat × Packet × Nat) := []
  drain : List Nat := []
  /-- When a collective last made progress. -/
  progCk : Nat := 0
deriving DecidableEq, Repr

/-- R347–R349: the vote in progress: the core and descriptor it serves, its key (E, A), its deadline frame, the verdict
word, the ballots of the flask and the lane verdicts of the children (position, PASS), what has been sent, the decision
word, whether it was aborted provisionally, and whether the decision waits for the boundary window. -/
structure VoteSt where
  core : Nat
  seq : Nat
  e : Nat
  a : Nat
  deadline : Nat
  verdict : Nat
  ballots : List (Nat × Bool) := []
  lanes : List (Nat × Bool) := []
  laneSent : Bool := false
  word : Option Nat := none
  provisional : Bool := false
deriving DecidableEq, Repr

/-- The sweep: the vote, the key last decided with its word, votes held for a later key, the seal accumulator, the
device's own seal with its epoch and frame, the seals received (epoch, position, seal), and whether the missing-seal
source has been raised. -/
structure SweepSt where
  vote : Option VoteSt := none
  last : Option (Nat × Nat × Nat) := none
  heldVotes : List Packet := []
  acc : Nat := 0
  own : Option (Nat × Nat × Nat) := none
  seals : List (Nat × Nat × Nat) := []
  missing : Bool := false
deriving DecidableEq, Repr


/-! ## Avras ports (12) -/

/-- R285: a flit without its `LCRC`; the payload has 240 bytes. -/
structure Flit where
  seq : Nat := 0
  kind : Nat := 0
  tc : Nat := 0
  key : Bool := false
  ack : Nat := 0
  ackValid : Bool := false
  nak : Bool := false
  cred : List Nat := [0, 0, 0, 0]
  payload : List Byte := []
deriving DecidableEq, Repr

/-- A flit of a packet that waits in a port's queue or its replay buffer, and the packet it belongs to: its number, whether
it began on this device, its message kind and tag; `ahead` is how many flits of its class were queued before it. -/
structure QFlit where
  kind : Nat
  tc : Nat
  payload : List Byte
  pk : Nat := 0
  own : Bool := false
  mkind : Nat := 0
  tag : Nat := 0
  ahead : Nat := 0
  /-- R318: the half of its class's receive buffer that the packet uses: upper or lower; none where the buffer has no halves. -/
  half : Option Bool := none
deriving DecidableEq, Repr

/-- R288: a sequenced flit in the replay buffer, as transmitted, with how often it has been sent. -/
structure RFlit where
  flit : Flit
  src : QFlit
  sends : Nat := 1
deriving DecidableEq, Repr

/-- R282–R304: a port beyond its registers. Transmit: the next sequence number; the replay buffer, oldest first; the place
in it of the next flit due for replay; whether a `NAK` has asked for one; waiting `CTRL` payloads; waiting flits of each
class; credits held; the TC0 share and the slots toward its next unit; the class the round robin serves and what is left
of its weight; when `ACK` last progressed; the flit last driven. -/
structure PortLink where
  seq : Nat := 0
  replay : List RFlit := []
  rp : Option Nat := none
  nakIn : Bool := false
  ctrl : List (List Byte) := []
  q : Vector (List QFlit) 4 := Vector.replicate 4 []
  credit : Vector Nat 4 := Vector.replicate 4 0
  /-- R318: of each class the halves of the flits sent whose credits have not come back, oldest first. -/
  halves : Vector (List (Option Bool)) 4 := Vector.replicate 4 []
  share : Nat := 0
  slots : Nat := 0
  wrr : Nat × Nat := (0, 0)
  progCk : Nat := 0
  tx : Option Flit := none
  /-- R300: the flits of the open encryption frame, and whether it is closed and its `TAG` waits. -/
  frm : List Flit := []
  tagDue : Bool := false
  /-- Receive: the expected number; when an outstanding `NAK` was sent and whether one is to be sent; credits to return;
  the packet in reassembly of each class with the flits it lacks. -/
  exp : Nat := 0
  nakCk : Option Nat := none
  nakDue : Bool := false
  ret : Vector Nat 4 := Vector.replicate 4 0
  asm : Vector (Option (List Byte × Nat)) 4 := Vector.replicate 4 none
  /-- R301: the flits of the frame being received, and the first number of a frame that has failed its tag. -/
  rfrm : List Flit := []
  rfail : Option Nat := none
  /-- R300: the receive slot of the last frame, and how often the peer's numbers have wrapped under its key. -/
  rxSlot : Nat := 0
  rxWraps : Nat := 0
  /-- R431: fragments of the link message being received, and the messages received: type and contents. -/
  frag : List Byte := []
  msgs : List (Nat × List Byte) := []
  /-- The state before a short retraining. -/
  prev : Nat := 0
  /-- R292: the receive lane being replaced with whether its spare is equalised, the transmit lane being mirrored, and the
  windows a standby lane has stayed good. -/
  rxRep : Option (Nat × Bool) := none
  txRep : Option Nat := none
  good : Nat := 0
  reEqCk : Nat := 0
  /-- R299: the key and salt of transmit slots 0 and 1 and receive slots 0 and 1; whether the unused transmit slot holds a
  newer key; and, after a switch, the number whose acknowledgement erases the old slot. -/
  keys : Vector (Nat × Nat) 4 := Vector.replicate 4 (0, 0)
  newKey : Bool := false
  eraseAt : Option Nat := none
  /-- R431: the state of the link exchange: this end's nonce and share, the peer's nonce, share, key and report. -/
  ex : Option (Nat × Nat) := none
  peerN : Option Nat := none
  peerS : Option Nat := none
  peerCert : List Byte := []
  peerRep : Bool := false
deriving DecidableEq, Repr


/-! ## Journal, Riser stream, lifetime counters and calibration images (15, 19) -/

/-- R367: a journal record before it is laid out in its 4,096 bytes. -/
structure JRec where
  seq : Nat
  type : Nat
  epoch : Nat
  frame : Nat
  actor : Nat := 0
  host : Nat := 0
  payload : List Byte
deriving DecidableEq, Repr

/-- R367, R368: the journal: the tail not yet programmed; appends waiting for room; the pages of area 2 oldest first (each
with its tile, whether it can be decoded, and its records); the tile of the next page; the durable appends waiting on a
program (core, sequence number of the descriptor, journal sequence); the frame of the last program; the pages since the
last `SNAPSHOT` and whether one is due at once (R369); whether the power-fail trip has occurred since the last reset, and
whether its flush left part of the tail unprogrammed (R371, R372); the last committed step epoch and its seal (R367). -/
structure JnlSt where
  tail : List JRec := []
  waiting : List JRec := []
  pages : List (Nat × Bool × List JRec) := []
  nextTile : Nat := 0
  durable : List (Nat × Nat × Nat) := []
  syncFrame : Nat := 0
  pagesSinceSnap : Nat := 0
  snapDue : Bool := false
  tripped : Bool := false
  flushLost : Bool := false
  commit : Nat × Nat := (0, 0)
deriving DecidableEq, Repr

/-- R365: a saved image of the lifetime counters in area 5: valid, its generation, the journal sequence of the `COUNTERS`
record of its save, and the fifteen counters. -/
structure LifeImg where
  ok : Bool := false
  gen : Nat := 0
  seq : Nat := 0
  counters : List Nat := []
deriving DecidableEq, Repr

/-- R366, R446: a user calibration image in area 4: valid, its generation and its entries (item, signed offset). -/
structure CalImg where
  ok : Bool := false
  gen : Nat := 0
  entries : List (Nat × Int) := []
deriving DecidableEq, Repr

/-- R443–R446: user offsets as edited; offsets as last applied; offsets in force, which follow those applied at once, at a
tick, at a reset or at a training of the port; items edited and not yet applied; the two images; the rails' set points in
force in mV by item (R444); and the factory values of the fuses. -/
structure CalSt where
  user : List (Nat × Int) := []
  target : List (Nat × Int) := []
  applied : List (Nat × Int) := []
  edited : List Nat := []
  rails : SMap Nat := []
  factory : SMap Int := []
  images : Vector CalImg 2 := Vector.replicate 2 {}
deriving DecidableEq, Repr

/-- R375: a record of the Riser stream; `kind` 0 keyframe block, 1 delta block, 2 end of step; `key`: every record of its
step so far is a keyframe's. -/
structure RRec where
  sseq : Nat
  epoch : Nat
  block : Nat
  kind : Nat
  restart : Bool
  rawLen : Nat
  data : List Byte
  key : Bool
deriving DecidableEq, Repr

/-- R375–R380: the Riser stream: its buffer, oldest first; the records of area 1, each with its first tile and its tiles, and
the ring's next tile; the record being programmed there; the next sequence to deliver there; the next to send to the host and
the next the host lacks; whether the step latched `BROKEN`, whether every block of it so far is a keyframe's, its blocks and
its first sequence; a gap to be marked; the frame of the host's last progress; the waiting cores with the frame each began
to wait in; the last end record's epoch and sequence; and the first sequence of the newest keyframe complete in area 1. -/
structure RiserSt where
  buf : List RRec := []
  area1 : List (RRec × Nat × Nat) := []
  ring : Nat := 0
  busy : Option Nat := none
  ingotTo : Nat := 0
  hostSent : Nat := 0
  hostAck : Nat := 0
  stepKey : Bool := false
  stepAll : Bool := true
  blocks : Nat := 0
  stepFrom : Nat := 0
  gap : Bool := false
  ackFrame : Nat := 0
  waits : List (Nat × Nat) := []
  endSeq : Nat × Nat := (0, 0)
  keySeq : Option Nat := none
  skip : Bool := false
  ingotCk : Nat := 0
  hostCk : Nat := 0
deriving DecidableEq, Repr

/-! ## Power and frames (08, 17), Trust (18), the Steward (19, 20) -/

/-- Power & Tick beyond its registers. The frame checks of the frame that ends have been settled; the trim of the next
frame; the last two phase errors in ps and the beacons in a row within 8 ns (R203); the frame of the last beacon; the
master's number for the next tick; the frame named idle (R208) and whether stretch has been asked for (R411); whether
`TICK_OUT_EN` is in effect (R417) and the tick pulses driven, each with its width in 4 ns units (R416); the junction
readings by sensor, in 0.1 °C, and the sensors whose last reading was at or above 115 °C (R413); the ck of the last input
sample and how many in a row exceeded 100 A and 88 A (R407); the ck of quench entry (R393); the ck at which each control
core's watchdog period began (R401); the promotion in progress: its core, the end of its copy, and whether the copy is
settled (R28); lost regulation: the failures of step 1 (R463). -/
structure PwrSt where
  checked : Bool := false
  nextTrim : Int := 0
  lastErr : Int := 0
  prevErr : Int := 0
  good : Nat := 0
  beaconFrame : Nat := 0
  newFrame : Option Nat := none
  idleAt : Option Nat := none
  stretchAsked : Bool := false
  tickLand : Bool := false
  pulses : List (Nat × Nat) := []
  temps : SMap Int := []
  hotOnce : List Nat := []
  trips : Nat := 0
  sampleCk : Nat := 0
  over100 : Nat := 0
  over88 : Nat := 0
  qCk : Nat := 0
  wdogCk : Vector Nat 4 := Vector.replicate 4 0
  promo : Option (Nat × Nat × Bool) := none
  railFails : Nat := 0
deriving DecidableEq, Repr

/-- A module: the block type, whether the owner key signed it, whether it raises the floor, its version, security version
and grades, its signer key and its measurement (R424). -/
structure Mod where
  block : Nat
  owner : Bool := false
  raise : Bool := false
  version : Nat := 0
  svn : Nat := 0
  grades : Nat := 7
  key : Nat × Nat := (0, 0)
  meas : Nat := 0
deriving DecidableEq, Repr

/-- Trust beyond its registers. From the fuses: the vendor key (modulus and exponent; the fuses hold its hash) and the
private exponent of the identity key (R420). In area 3: the modules of the directory, and the trust record: owner key and
floors by block type (R425). In force: the owner key, the floors, the modules in force by slot, and those pending with the frame of their acceptance
and whether they are deferred to warm reset (R434). The enrolment nonce (R427), and a health test has failed (R422). -/
structure TruSt where
  vendor : Nat × Nat := (0, 0)
  idPriv : Nat := 0
  stored : List Mod := []
  rec3 : Option (Nat × Nat) × SMap Nat := (none, [])
  owner : Option (Nat × Nat) := none
  floors : SMap Nat := []
  mods : List Mod := []
  upd : List (Mod × Nat × Bool) := []
  nonce : Option (List Byte) := none
  rngBad : Bool := false
  /-- R428: the user pattern image that Trust has verified last. -/
  patImg : Option (List Byte) := none
deriving DecidableEq, Repr

/-- R441: a long operation as taken at `GO`, and the tag of the remote read it waits for. -/
structure LopSt where
  op : Nat
  src : Nat × Nat
  dst : Nat × Nat
  len : Nat
  remote : Nat := 0
  tag : Option Nat := none
deriving DecidableEq, Repr

/-- R449: the JTAG port: the data register its instruction selects (0 bypass, 1 identification, 2 boundary scan, 3
control-core debug) with its contents, the values preloaded for the lands, and whether the lands are driven from them. -/
structure JtagSt where
  sel : Nat := 1
  dr : Nat := 0
  preload : Nat := 0
  drive : Bool := false
deriving DecidableEq, Repr

/-- The Steward's service side: the sideband address, strap included, and the last response of the sideband (status and
data); JTAG; presses of `ATTN_N` held until `READY` (true: a long one); the ck of the last drain notice and of the start of
`QUIESCING`; the HBM stacks are in self-refresh; the regulators have stopped; a completed power-fail flush waits for the
input. -/
structure SvcSt where
  sbAddr : Nat := 0x50
  sb : Option (Nat × Nat) := none
  jtag : JtagSt := {}
  attnHeld : List Bool := []
  noteCk : Nat := 0
  drainCk : Nat := 0
  selfRef : Bool := false
  off : Bool := false
  flushed : Bool := false
deriving DecidableEq, Repr


/-! ## The whole state -/

/-- Everything one logical core holds beyond its registers (R15, R30). -/
structure CoreSt where
  spr : SprueSt := {}
  run : RunSt := {}
  ldl : LdlSt := {}
  mld : MouldSt := {}
  asy : AsySt := {}
  cru : CruSt := {}
  port : PortSt := {}
deriving DecidableEq, Repr

/-- The state of the block. -/
structure State where
  /-- The commands that are waiting, first in, first out. -/
  pending : List Instr := []
  /-- ck since ck locked: the 64-bit tick counter of R200 counts it. -/
  ck : Nat := 0
  /-- The ck of the most recent tick: the current frame began then (R200). -/
  frameCk : Nat := 0
  /-- R203: the trim of the current frame, in ck. -/
  trim : Int := 0
  /-- Every register's difference from its reset value, by its offset in the register window (R438). -/
  regs : SMap Word := []
  /-- The fuse-backed registers (ROF), by offset. -/
  fuses : SMap Word := []
  /-- R13: high halves latched by reads of low halves, by the offset of the low half. -/
  hiLatch : List (Nat × Nat) := []
  /-- The model's own field: how many free values have been drawn (Config.freeValue). -/
  freeCtr : Nat := 0
  cores : Vector CoreSt 4 := Vector.replicate 4 {}
  tun : TunSt := {}
  hbm : Mem := []
  acc : AccSt := {}
  ing : IngSt := {}
  col : ColSt := {}
  sweep : SweepSt := {}
  jnl : JnlSt := {}
  riser : RiserSt := {}
  life : List Nat := List.replicate 15 0
  lifeImg : Vector LifeImg 2 := Vector.replicate 2 {}
  /-- R365: the ck of the last save; R364: the ck of frames with a junction above 100 °C. -/
  lifeCk : Nat := 0
  hotCk : Nat := 0
  cal : CalSt := {}
  /-- R32: outside events that arrived in this frame in locked timing, in arrival order. -/
  ext : List ExtEvt := []
  /-- R409: core starts (0) and Mould ramps (1) that wait for a stagger slot: kind, core, ck of the request. -/
  stag : List (Nat × Nat × Nat) := []
  remote : List RemReq := []
  /-- R208: the current frame is idle. -/
  idleFrame : Bool := false
  /-- R385: the ck, plus one, at which each page's `FLT_FIRST` was captured, by the page's offset. -/
  firstCk : SMap Nat := []
  /-- R417: the ck of each strobe pulse driven on the shared land since the last tick. -/
  strobes : List Nat := []
  /-- Packets received and not yet consumed, with their port (24: from this device itself). -/
  inbox : List (Nat × Packet) := []
  /-- Packets of this device that wait to be routed. -/
  transit : List Packet := []
  ports : Vector PortLink 24 := Vector.replicate 24 {}
  /-- The number of the next packet queued at a port. -/
  pkNo : Nat := 0
  /-- R304: the TC0 regulator's level, in flits × ck per µs, and when it was last updated. -/
  tc0 : Nat × Nat := (0, 0)
  /-- R319: the destinations found unreachable in this frame. -/
  unreach : List Nat := []
  /-- Responses to the Steward's own remote requests: the slot they serve, result code (0 good), data. -/
  stwRsp : List (Nat × Nat × List Byte) := []
  /-- R396: the neighbour ports whose quench has been noted, with the quench count of each. -/
  noted : List (Nat × Nat) := []
  pwr : PwrSt := {}
  tru : TruSt := {}
  lops : Vector (Option LopSt) 4 := Vector.replicate 4 none
  svc : SvcSt := {}
deriving DecidableEq, Repr

/-- Why a command stops with a fault: never. Every command of the table has its effect in every state, so no fault is
defined. -/
inductive Fault where
deriving DecidableEq, Repr

/-- Why a command is refused. -/
inductive Refusal where
  /-- Raised by the dispatch arm of a command whose meaning is not yet written (safe: no effect is claimed). -/
  | notModelled (mnemonic : String)
deriving DecidableEq, Repr

/-- The part before its first start-up: every register at its reset value. The fuses are the model's choice (the spec gives
none): an LM9-A of stepping B1 with every engine, its factory rail set points (R408) `VCORE` 720 mV and the lowest of the range
for the others (log entry 51). -/
def State.reset : State :=
  { fuses := [(0x30100, 0xF4014201#64), (0x30104, 0x1F#64)]
    cal := { factory := [(16, 720), (17, 750), (18, 700), (19, 700), (20, 750), (21, 720), (22, 750), (23, 700), (24, 700), (25, 750)] } }

end Sys2Proof.Machine
end

