-- ==== Sys2Proof/Machine/Ops.lean ====
section
/-!
DEFINITION. Machine/Ops.lean: the named operations over the sparse maps, the registers and the per-core state; every
access of the model to a register goes through `reg`, `fld`, `setReg` and `setFld`.
-/
namespace Sys2Proof.Machine

open Sys2Proof

/-! ## Sparse maps -/

/-- The value of a sparse map at a key; `d` is what an unlisted key reads as. -/
def sget {α : Type} (d : α) : SMap α → Nat → α
  | [], _ => d
  | (k', v) :: m, k => if k = k' then v else if k < k' then d else sget d m k

/-- A sparse map with one key written; writing the default removes the entry, so equal maps stay equal data. -/
def sset {α : Type} [DecidableEq α] (d : α) : SMap α → Nat → α → SMap α
  | [], k, v => if v = d then [] else [(k, v)]
  | (k', v') :: m, k, v =>
    if k = k' then (if v = d then m else (k, v) :: m)
    else if k < k' then (if v = d then (k', v') :: m else (k, v) :: (k', v') :: m)
    else (k', v') :: sset d m k v

/-- Every key of a sparse map lies above `lo`, keys rise strictly and no entry equals the default. -/
def swfFrom {α : Type} [DecidableEq α] (d : α) : Nat → SMap α → Bool
  | _, [] => true
  | lo, (k, v) :: m => decide (lo ≤ k) && decide (v ≠ d) && swfFrom d (k + 1) m

/-- The canonical form of a sparse map. -/
def swf {α : Type} [DecidableEq α] (d : α) (m : SMap α) : Bool := swfFrom d 0 m

/-- The canonical form of a byte memory whose unlisted bytes read 0. -/
def Memory.wf (m : Mem) : Bool := swf (0 : Byte) m

/-- The bytes of `n` addresses from `a`, of a memory that lists no address below it. -/
def bytesFrom : Mem → Nat → Nat → List Byte
  | _, _, 0 => []
  | [], a, n + 1 => 0 :: bytesFrom [] (a + 1) n
  | (k, v) :: m, a, n + 1 => if k = a then v :: bytesFrom m (a + 1) n else 0 :: bytesFrom ((k, v) :: m) (a + 1) n

/-- `n` bytes of a memory from address `a`. -/
def readBytes (m : Mem) (a n : Nat) : List Byte := bytesFrom (m.dropWhile (fun c => decide (c.1 < a))) a n

/-- The cells that hold bytes from address `a`: those that differ from 0. -/
def cellsOf : Nat → List Byte → Mem
  | _, [] => []
  | a, b :: bs => if b = 0 then cellsOf (a + 1) bs else (a, b) :: cellsOf (a + 1) bs

/-- A memory with the bytes `bs` written from address `a`. -/
def writeBytes (m : Mem) (a : Nat) (bs : List Byte) : Mem :=
  m.takeWhile (fun c => decide (c.1 < a)) ++ cellsOf a bs ++ m.dropWhile (fun c => decide (c.1 < a + bs.length))

/-! ## Registers -/

/-- The value of a register (R10: the last value written, or the reset value; a fuse-backed register its fuses). -/
def State.reg (s : State) (r : Reg) (inst : Nat := 0) (i : Nat := 0) : Nat :=
  if r.fuse then (sget 0 s.fuses (r.addr inst i)).toNat
  else (sget 0 s.regs (r.addr inst i) ^^^ BitVec.ofNat 64 (r.resetAt i)).toNat

/-- A register given a value, cut to its width. -/
def State.setReg (s : State) (r : Reg) (v : Nat) (inst : Nat := 0) (i : Nat := 0) : State :=
  let x := BitVec.ofNat 64 (v % 2 ^ r.width) ^^^ BitVec.ofNat 64 (r.resetAt i)
  { s with regs := sset 0 s.regs (r.addr inst i) x }

/-- A field of a register. -/
def State.fld (s : State) (f : Fld) (inst : Nat := 0) (i : Nat := 0) : Nat := bits (s.reg f.reg inst i) f.lo f.w

/-- A one-bit field as a Boolean. -/
def State.flag (s : State) (f : Fld) (inst : Nat := 0) (i : Nat := 0) : Bool := s.fld f inst i != 0

/-- A field of a register given a value. -/
def State.setFld (s : State) (f : Fld) (v : Nat) (inst : Nat := 0) (i : Nat := 0) : State :=
  s.setReg f.reg (setBits (s.reg f.reg inst i) f.lo f.w v) inst i

/-- A saturating counter register increased (R362). -/
def State.bump (s : State) (r : Reg) (k : Nat := 1) (inst : Nat := 0) (i : Nat := 0) : State :=
  s.setReg r (satN r.width (s.reg r inst i + k)) inst i

/-- A wrapping counter register increased (R362: cycle and byte counters). -/
def State.wrapAdd (s : State) (r : Reg) (k : Nat) (inst : Nat := 0) (i : Nat := 0) : State :=
  s.setReg r (s.reg r inst i + k) inst i

/-! ## Time, free values and cores -/

/-- The frame counter (R200). -/
def State.frame (s : State) : Nat := s.reg PWR.FRAME_COUNT

/-- The state at ck `t` or later: an event's own time, which never runs backwards. -/
def State.upTo (s : State) (t : Nat) : State := { s with ck := max s.ck t }

/-- The Endurance profile is active (R4). -/
def State.endurance (s : State) : Bool := s.flag GRD.GRD_PROFILE_ACTIVE

/-- ck per microsecond in the active profile (R4, R7). -/
def State.ckPerUs (s : State) : Nat := if s.endurance then 2000 else 2400

/-- ck that `n` hk (1.2 GHz) take. -/
def hkCk (s : State) (n : Nat) : Nat := ceilDiv (n * s.ckPerUs) 1200

/-- ck that `n` tk (1.5 GHz) take. -/
def tkCk (s : State) (n : Nat) : Nat := ceilDiv (n * s.ckPerUs) 1500

/-- A free value drawn: the value and the state that has drawn it. -/
def State.draw (s : State) : Nat × State :=
  ((Config.freeValue s.freeCtr).toNat, { s with freeCtr := s.freeCtr + 1 })

/-- `n` free bytes drawn. -/
def State.drawBytes (s : State) (n : Nat) : List Byte × State :=
  ((List.range n).map (fun i => BitVec.ofNat 8 (Config.freeValue (s.freeCtr + i)).toNat),
   { s with freeCtr := s.freeCtr + n })

/-- The state of core `c` (core 0's beyond the last). -/
def State.core (s : State) (c : Nat) : CoreSt := s.cores.toList.getD c (s.cores[0])

/-- Core `c` changed. -/
def State.modCore (s : State) (c : Nat) (f : CoreSt → CoreSt) : State :=
  { s with cores := s.cores.mapIdx (fun i x => if i = c then f x else x) }

/-- The Sprue of core `c` changed. -/
def State.modSpr (s : State) (c : Nat) (f : SprueSt → SprueSt) : State :=
  s.modCore c (fun x => { x with spr := f x.spr })

/-- The device is quenched (R392). -/
def State.quenched (s : State) : Bool := s.flag STW.Q_STATE_QUENCHED

/-- Locked timing is in force (R206). -/
def State.locked (s : State) : Bool := s.flag PWR.FRM_STATE_LOCKED

/-- This device's ID, whether or not valid (R310). -/
def State.self (s : State) : Nat := s.fld ROUT.SELF_ID

/-- R1, R2: logical core `c` exists in the grade. -/
def State.present (s : State) (c : Nat) : Bool := decide (c < s.fld GRD.GRD_ID_CORES)

/-- R4, R29, R212: logical core `c` is active: present and, in the Endurance profile, one of 0–2 (core 3 is the hot spare, or
fenced). -/
def State.active (s : State) (c : Nat) : Bool := s.present c && (!s.endurance || decide (c < 3))

/-- R203: G, the limit of a frame's trim. -/
def trimG (s : State) : Nat := ceilDiv (s.reg PWR.FRM_PERIOD) 8192 + 16

/-- R200, R203: the ck of the next tick. -/
def State.tickAt (s : State) : Nat := ((s.frameCk + s.reg PWR.FRM_PERIOD : Nat) + s.trim).toNat

/-- R204: the tick that work is fitted before. -/
def State.fitTick (s : State) : Nat :=
  if s.locked then s.frameCk + s.reg PWR.FRM_PERIOD - trimG s else s.tickAt

/-! ## Admission (R20–R22, R68, R128) -/

/-- R20: the owner of entry `i` of the bridge schedule of a direction: 0 for 0→1, 1 for 1→0. -/
def schedOwner (s : State) (dir i : Nat) : Nat :=
  let r := if dir = 0 then GRD.GRD_BSCHED_01 else GRD.GRD_BSCHED_10
  bits ((List.range 6).foldl (fun m k => m + s.reg r 0 k * 2 ^ (32 * k)) 0) (3 * i) 3

/-- R20: the entries of 64 that an owner has in a direction. -/
def schedEntries (s : State) (dir o : Nat) : Nat := ((List.range 64).filter (fun i => schedOwner s dir i == o)).length

/-- R2, R16, R28: the physical core of logical core `c`: past the fused core of an LM9-B, and the spare for a promoted core. -/
def physCore (s : State) (c : Nat) : Nat :=
  if s.fld GRD.GRD_ID_CORES = 3 then (if s.fld GRD.GRD_ID_FUSED_CORE ≤ c then c + 1 else c)
  else if s.flag GRD.GRD_PROMOTE_FENCED && s.fld GRD.GRD_PROMOTE_FAILED_PHYS == c then 3 else c

/-- R16: the casting of logical core `c`. -/
def coreCasting (s : State) (c : Nat) : Nat := physCore s c / 2

/-- R21: the direction in which data read by core `c` crosses the bridge, and the one in which its write data does. -/
def inward (s : State) (c : Nat) : Nat := 1 - coreCasting s c
def outward (s : State) (c : Nat) : Nat := coreCasting s c

/-- R68: bytes per ck the write path of core `c` admits; R21: 3,072 bytes in each of the core's entries of 64. -/
def wrRate (s : State) (c : Nat) : Nat :=
  if s.locked then 48 * schedEntries s (outward s c) c else if s.endurance then 1500 else 1250

/-- R128: bytes per ck the read path of core `c` admits. -/
def rdRate (s : State) (c : Nat) : Nat :=
  if s.locked then 48 * schedEntries s (inward s c) c else if s.endurance then 3000 else 2500

/-! ## Page states (R439, R440) -/

/-- R439: the codes of `PAGE_STATE`. -/
def pgOff : Nat := 0
def pgOn : Nat := 1
def pgQuiesced : Nat := 2
def pgFused : Nat := 3
def pgQuenched : Nat := 4

/-- The state of a page. -/
def State.pageState (s : State) (p : PageKind) (inst : Nat := 0) : Nat := s.fld (HDR.PAGE_STATE_ST p) inst

/-- A page given a state. -/
def State.setPageState (s : State) (p : PageKind) (inst v : Nat) : State := s.setFld (HDR.PAGE_STATE_ST p) v inst

/-- The page is ON, and its block may start work: a quiescing block starts none. -/
def State.pageOn (s : State) (p : PageKind) (inst : Nat := 0) : Bool :=
  s.pageState p inst == pgOn && !s.flag (HDR.PAGE_CTRL_QUIESCE p) inst

/-- An injection bit is armed, and acts: only while `INJ_EN.EN` is set (R404). -/
def State.armed (s : State) (f : Fld) (inst : Nat := 0) : Bool := s.flag f inst && s.flag STW.INJ_EN_EN

/-- An injected event has occurred and its bit clears itself. -/
def State.disarm (s : State) (f : Fld) (inst : Nat := 0) : State := s.setFld f 0 inst

/-- Two consecutive injection bits: fails once, fails twice. The number of failures the next check meets, and the
state with the bit that forced them cleared. -/
def State.injFails (s : State) (once twice : Fld) (inst : Nat := 0) : Nat × State :=
  if s.armed twice inst then (2, s.disarm twice inst)
  else if s.armed once inst then (1, s.disarm once inst)
  else (0, s)

/-- Apply `f` for each element of a list, in order. -/
def State.forEach {α : Type} (s : State) (l : List α) (f : State → α → State) : State := l.foldl f s

end Sys2Proof.Machine
end

