-- ==== Sys2Proof/Machine/Faults.lean ====
section
/-!
DEFINITION. Machine/Faults.lean: chapter 16: messages sent, journal appends, raising a fault source at its severity
(R385–R390), halting streams (R389) and entering quench (R392, R393). Every family raises its sources through `raise`.
-/
namespace Sys2Proof.Machine

open Sys2Proof

/-! ## Messages sent (12, 13) -/

/-- R286: the flits of a packet whose message body has `n` bytes: the header takes 16 of the payload bytes. -/
def flitsFor (n : Nat) : Nat := max 1 (ceilDiv (n + 16) 240)

/-- R286, R310, R312: a message sent by this device: its header is formed and the packet waits to be routed. A device
whose `SELF.VALID` is clear sends none. -/
def sendMsg (s : State) (tc mkind dest : Nat) (dhost : Bool) (word : Nat) (body : List Byte) : State :=
  if s.flag ROUT.SELF_VALID then
    let m : Packet := { tc := tc, mkind := mkind, dest := dest, dhost := dhost, src := s.self,
                        len := flitsFor body.length, fstamp := s.frame % 2 ^ 16, word := word, body := body }
    { s with transit := s.transit ++ [m] }
  else s

/-! ## Journal appends (R367, R368) -/

/-- R459: until the store fills of start-up step 7 the tail lies in the Steward SRAM, which step 2 has written. -/
def jnlInSram (s : State) : Bool :=
  decide (2 ≤ s.fld STW.BOOT_STATE_STEP ∧ s.fld STW.BOOT_STATE_STEP ≤ 7)

/-- R368, R459: the pages the tail may hold: 1 MiB of SRAM during start-up, else `JNL_TAIL_MAX`. -/
def jnlPages (s : State) : Nat := if jnlInSram s then 64 else s.reg ING.JNL_TAIL_MAX

/-- R368: an append would leave at least one page of the buffer free. -/
def jnlRoom (s : State) : Bool := decide (ceilDiv (s.jnl.tail.length + 1) 4 + 1 ≤ jnlPages s)

/-- R367: one record enters the tail with the next journal sequence number. -/
def jnlPush (s : State) (type : Nat) (payload : List Byte) (actor host : Nat) : State :=
  let r : JRec := { seq := s.reg ING.JNL_SEQ, type := type, epoch := s.reg COL.SW_EPOCH, frame := s.frame,
                    actor := actor, host := host, payload := payload }
  let s := { s with jnl := { s.jnl with tail := s.jnl.tail ++ [r] } }
  let s := s.setReg ING.JNL_SEQ (s.reg ING.JNL_SEQ + 1)
  s.setReg ING.JNL_TAIL (ceilDiv s.jnl.tail.length 4)

/-- R368, R459: the Steward appends a record. Without room it waits with `TAIL_FULL` set; during start-up a record that
does not fit in the SRAM is counted in `JNL_DISCARDED`. -/
def jnlAppend (s : State) (type : Nat) (payload : List Byte) (actor : Nat := 0) (host : Nat := 0) : State :=
  if jnlRoom s then jnlPush s type payload actor host
  else if jnlInSram s then s.bump ING.JNL_DISCARDED
  else
    let r : JRec := { seq := 0, type := type, epoch := s.reg COL.SW_EPOCH, frame := s.frame, actor := actor,
                      host := host, payload := payload }
    { s with jnl := { s.jnl with waiting := s.jnl.waiting ++ [r] } }.setFld ING.JNL_STATE_TAIL_FULL 1

/-- R368: records that waited enter the tail, in order, while there is room; `TAIL_FULL` clears when none waits. -/
def jnlDrain : Nat → State → State
  | 0, s => s
  | n + 1, s =>
    match s.jnl.waiting with
    | [] => s.setFld ING.JNL_STATE_TAIL_FULL 0
    | r :: rs =>
      if jnlRoom s then
        jnlDrain n (jnlPush { s with jnl := { s.jnl with waiting := rs } } r.type r.payload r.actor r.host)
      else s

/-- R367, R382: a `RETIRE` record of a use of a spare: its class (0 core, 1 Tundish bank, 2 lane, 3 bridge group, 4 Ingot block,
5 Ingot target) and index. -/
def jnlRetire (s : State) (cls index : Nat) : State := jnlAppend s 8 (leBytes 4 cls ++ leBytes 4 index)

/-- R367, R388: the payload of a `FAULT` record (its layout is the model's, log entry 21). -/
def faultPayload (p : PageKind) (inst src : Nat) (sev : Sev) (frame : Nat) : List Byte :=
  leBytes 1 p.blockType ++ leBytes 1 inst ++ leBytes 1 src ++ leBytes 1 sev.code ++ leBytes 6 frame

/-- R368, R388: a `FAULT` record; one that finds the tail full is counted and discarded. -/
def jnlFault (s : State) (payload : List Byte) : State :=
  if jnlRoom s then jnlPush s 3 payload 0 0 else s.bump ING.JNL_DISCARDED

/-- A lifetime counter (R364) increased: 64-bit counters 0–2 and 8, 32-bit ones the rest, saturating. -/
def lifeAdd (s : State) (i k : Nat) : State :=
  let w := if i ≤ 2 ∨ i = 8 ∨ i = 11 ∨ i = 12 then 64 else 32
  let v := s.life.getD i 0 + k
  { s with life := setNth s.life i (if i = 11 ∨ i = 12 then v % 2 ^ 64 else satN w v) }

/-- R417: the selected strobe event drives a 16 ns pulse on the shared land at the event's ck; while the land carries the
tick the pulse is suppressed, which sets `PIN_CONFLICT`. -/
def strobe (s : State) : State :=
  if s.flag PWR.PIN_CTRL_STROBE_EN then
    if s.pwr.tickLand then s.setFld PWR.PIN_CTRL_PIN_CONFLICT 1 else { s with strobes := s.strobes ++ [s.ck] }
  else s

/-! ## Raising a source (R385, R388) -/

/-- The 64-bit header register of a page as a bit set: source `i` set. -/
def hdrBit (n i : Nat) : Bool := bit n i

/-- R386, R388: the severity in force for a source. -/
def State.severity (s : State) (p : PageKind) (inst src : Nat) : Sev :=
  if p.fixedSev src then .quench
  else Sev.ofCode (bits (s.reg (HDR.FLT_SEV p) inst (src / 32)) (2 * (src % 32)) 2)

/-- R385: status bit, counter, and the capture of the first fault with its frame; of the sources raised in one ck the lowest is
captured. -/
def recordFault (s : State) (p : PageKind) (inst src : Nat) : State :=
  let st := s.reg (HDR.FLT_STATUS p) inst
  let s := s.setReg (HDR.FLT_STATUS p) (if bit st src then st else st + 2 ^ src) inst
  let s := if src ≤ 15 then s.bump (HDR.FLT_COUNT p) 1 inst src else s
  if s.flag (HDR.FLT_FIRST_VALID p) inst then
    if s.flag PWR.CLK_STATE_CK && sget 0 s.firstCk (p.base inst) == s.ck + 1 && decide (src < s.reg (HDR.FLT_FIRST p) inst % 64)
    then s.setReg (HDR.FLT_FIRST p) (src + 2 ^ 31) inst else s
  else
    let s := { s with firstCk := sset 0 s.firstCk (p.base inst) (s.ck + 1) }
    let s := s.setReg (HDR.FLT_FIRST p) (src + 2 ^ 31) inst
    let s := s.setReg (HDR.FLT_FIRST_FRAME p) (s.frame % 2 ^ 32) inst 0
    s.setReg (HDR.FLT_FIRST_FRAME p) (s.frame / 2 ^ 32 % 2 ^ 16) inst 1

/-- R390: the interrupt level of a page: a status bit set with its enable bit at NOTIFY or HALT or above. -/
def irqLevel (s : State) (p : PageKind) (inst : Nat) : Bool :=
  (List.range 64).any (fun i => bit (s.reg (HDR.FLT_STATUS p) inst) i && bit (s.reg (HDR.FLT_IRQ_EN p) inst) i &&
    (s.severity p inst i == .notify || s.severity p inst i == .halt))

/-- The codes of `SPR.STATE.STREAM`. -/
def stIdle : Nat := 0
def stRunning : Nat := 1
def stHalted : Nat := 2
def stStopped : Nat := 3
def stQuenched : Nat := 4

/-- The stream state of a core. -/
def State.stream (s : State) (c : Nat) : Nat := s.fld SPR.STATE_STREAM c

/-- R170, R191: a stop leaves the waiting Sprue descriptor not issued: it is still at `RING_HEAD`, and its sequence
number is given again, unless a rejection record already carries it. -/
def unissue (s : State) (c : Nat) : State :=
  match (s.core c).spr.cur with
  | none => s
  | some i =>
    let p := (s.core c).spr
    let s := if p.curStatus ≤ 1 then s.setReg SPR.SEQ i.seq c else s
    let s := if i.skip && !p.passHead then s.setReg SPR.SKIPPED (s.reg SPR.SKIPPED c - 1) c else s
    (s.modSpr c (fun p => { p with cur := none, curStatus := 0, window := [] })).setFld SPR.STATE_SPRUE_WAIT 0 c

/-- R389: what a halt records in `HALT_INFO`. -/
def haltInfo (s : State) (c status : Nat) (p : PageKind) (inst : Nat) : State :=
  (s.modSpr c (fun x => { x with cause := true })).setReg SPR.HALT_INFO
    (status % 256 + p.blockType * 2 ^ 8 + inst % 256 * 2 ^ 16) c

/-- R191, R389: the stream of core `c` halts. A halt that finds it HALTED or STOPPED changes nothing but `HALT_INFO`, which
keeps its first cause: a STOPPED stream has none yet (log entry 107). -/
def haltStream (s : State) (c : Nat) (status : Nat) (p : PageKind) (inst seq : Nat) : State :=
  if s.stream c = stRunning ∨ s.stream c = stIdle then
    let s := unissue s c
    let s := { s with stag := s.stag.filter (fun r => !(r.1 == 0 && r.2.1 == c)) }
    let s := s.setFld SPR.STATE_STREAM stHalted c
    (haltInfo s c status p inst).setReg SPR.HALT_SEQ seq c
  else if s.stream c = stStopped ∧ ¬ (s.core c).spr.cause then haltInfo s c status p inst
  else s

/-- R389: a source at HALT in a core page halts that core's stream, one in any other page every core's. -/
def haltFor (s : State) (p : PageKind) (inst status seq : Nat) : State :=
  if p.ofCore then haltStream s inst status p inst seq
  else (List.range 4).foldl (fun s c => haltStream s c status p inst seq) s

/-- R388: an `EVENT` message for a source. -/
def sendEvent (s : State) (p : PageKind) (inst src : Nat) : State :=
  if s.flag ROUT.EVT_HOST_EN then
    sendMsg s 0 0x15 (s.fld ROUT.EVT_HOST_HOST) true (p.blockType + inst % 256 * 2 ^ 8 + src * 2 ^ 16)
      (leBytes 6 s.frame)
  else s

/-! ## Entering quench (R392, R393) -/

/-- R392: the cause that wins among those that arrive in one ck: the lower code; among fault sources the page with the
lower offset, then the lower source. -/
def causeBefore (a b : QCause) : Bool :=
  decide (a.code < b.code) || (a.code == b.code &&
    (decide (a.type < b.type) || (a.type == b.type && (decide (a.inst < b.inst) ||
      (a.inst == b.inst && decide (a.src < b.src))))))

/-- The winning cause of a non-empty list. -/
def firstCause (q : QCause) (qs : List QCause) : QCause := qs.foldl (fun a b => if causeBefore b a then b else a) q

/-- R394: the page kinds that read QUENCHED in the safe state. -/
def PageKind.quenches (p : PageKind) : Bool :=
  p.ofCore || p == .tun || p == .hbm || p == .avl || p == .col || p == .rout

/-- R393, R394: every page that is not FUSED of the quenched kinds reads QUENCHED. -/
def quenchPages (s : State) : State :=
  PageKind.all.foldl (fun s p =>
    if p.quenches then
      (List.range p.count).foldl (fun s i =>
        if s.pageState p i = pgFused then s else s.setPageState p i pgQuenched) s
    else s) s

/-- R393: no descriptor is issued or released and every engine abandons its operation, without a record or a signal;
every stream reads QUENCHED. -/
def quenchCores (s : State) : State :=
  (List.range 4).foldl (fun s c =>
    let s := s.modSpr c (fun p => { p with
      cur := none, eng := p.eng.map (fun e => { e with run := [], fin := [] }) })
    let s := s.modCore c (fun x => { x with run := { x.run with requesters := [], flight := [] } })
    s.setFld SPR.STATE_STREAM stQuenched c) s

/-- A port beyond its registers changed. -/
def modLink (s : State) (p : Nat) (f : PortLink → PortLink) : State :=
  { s with ports := s.ports.mapIdx (fun i x => if i = p then f x else x) }

/-- The link keys of a port are erased. -/
def eraseKeys (s : State) (p : Nat) : State :=
  let s := modLink s p (fun l => { l with keys := Vector.replicate 4 (0, 0), newKey := false, eraseAt := none })
  let s := s.setReg TRU.LK_STATE (setBits (s.reg TRU.LK_STATE) p 1 0)
  ((s.setReg AVL.KEY_STATE 0 p).setReg AVL.TX_WRAPS 0 p).setFld AVL.STATE_ENC_ON 0 p

/-- R393, R397, R433: the ports abandon lane replacement and key exchanges, and their keys are erased. -/
def quenchPorts (s : State) : State :=
  (List.range 24).foldl (fun s p =>
    eraseKeys (modLink s p (fun l => { l with
      rxRep := none, txRep := none, ex := none, peerN := none, peerS := none, peerCert := [], peerRep := false,
      frag := [], msgs := [] })) p) s

/-- R393: what one core's engines do at quench entry: every operation is abandoned, and a warm or ramping Mould array
begins to ramp down 64 ck later. -/
def quenchCore (s : State) (c : Nat) : State :=
  let a := s.fld MLD.STATE_ARRAY c
  let s := if a = 1 ∨ a = 2 then s.setFld MLD.STATE_ARRAY 3 c else s
  let s := (s.setFld MLD.STATE_HALF0 0 c).setFld MLD.STATE_HALF1 0 c
  let s := ((s.setReg CRU.STATE 0 c).setReg ASY.STATE 0 c).setReg LDL.STATE 0 c
  let s := s.setReg ASY.CAPTURE_FREE ASY.CAPTURE_FREE.reset c
  s.modCore c (fun x => { x with
    mld := { rampCk := if a = 3 then x.mld.rampCk else s.ck + 64 }
    cru := { x.cru with lo := none, hi := none, step := none, waitFrom := none }
    asy := { x.asy with pairs := [], blend := none }
    port := {}
    run := {} })

/-- R393, R397: what the other blocks do at quench entry: promotion and stagger requests end; outstanding remote requests,
events that waited for the boundary window, accesses that waited at the HBM controllers, fills of cache entries, collectives and
the sweep are abandoned; writes to the Ingot Store not yet in
flight do not start; a program in flight goes on, shown by `FLASH_BUSY`. -/
def quenchBlocks (s : State) : State :=
  let s := (List.range 4).foldl quenchCore s
  let s := quenchPorts s
  let ws := s.ing.writes.filter (fun w => w.page.isSome || decide (4 ≤ w.core))
  let s : State := { s with
    stag := [], ext := [], remote := [], sweep := {}, col := { s.col with runs := [], held := [], drain := [] },
    acc := { s.acc with hq := [] }
    tun := { s.tun with cache := s.tun.cache.filter (fun e => !e.fill && !e.gone), staging := [] }
    ing := { s.ing with writes := ws }, pwr := { s.pwr with promo := none, qCk := s.ck } }
  let s := (s.setFld GRD.GRD_PROMOTE_BUSY 0).setFld PWR.STAG_STATE_PEND 0
  let s := s.setFld STW.Q_STATE_FLASH_BUSY (if ws.any (fun w => w.page.isSome) then 1 else 0)
  if s.fld PWR.PIN_CTRL_STROBE_SRC = 2 then strobe s else s

/-- R385, R388: a source raised while the device is quenched: its streams have stopped, and a QUENCH severity only counts. -/
def raiseQuenched (p : PageKind) (inst src : Nat) (s : State) : State :=
  let was := bit (s.reg (HDR.FLT_STATUS p) inst) src
  let sev := s.severity p inst src
  let s := recordFault s p inst src
  if sev == .record then s
  else
    let s := if !was && bit (s.reg (HDR.FLT_EVT_EN p) inst) src then sendEvent s p inst src else s
    let s := jnlFault s (faultPayload p inst src sev s.frame)
    if sev == .quench then s.bump STW.Q_LATER else s

/-- R392, R422: one or more causes that reach the Quench controller in one ck. The winner is recorded, the others and every
cause that arrives while the device is quenched only count in `Q_LATER`. -/
def quench (s : State) (q : QCause) (qs : List QCause) : State :=
  if s.quenched then s.bump STW.Q_LATER (1 + qs.length)
  else
    let w := firstCause q qs
    let s := s.setReg STW.Q_STATE 1
    let s := s.setReg STW.Q_CAUSE (w.code + w.type * 2 ^ 4 + w.inst * 2 ^ 12 + w.src * 2 ^ 20)
    let s := s.bump STW.Q_COUNT
    let s := s.setReg STW.Q_LATER qs.length
    let (n, s) := s.draw
    let s := s.setReg STW.Q_NONCE n
    let s := s.setReg STW.Q_FRAME s.frame
    let s := quenchCores s
    let s := quenchPages s
    let s := quenchBlocks s
    let s := lifeAdd s 7 1
    let s := if s.tru.rngBad then raiseQuenched .tru 0 8 s else s
    jnlAppend s 4 (leBytes 4 (s.reg STW.Q_CAUSE) ++ leBytes 4 (s.reg STW.Q_COUNT) ++ leBytes 4 (s.reg STW.Q_LATER)
      ++ leBytes 8 (s.reg STW.Q_NONCE) ++ leBytes 8 (s.reg STW.Q_FRAME))

/-- A source raised at NOTIFY whatever its programmed severity (R365). -/
def raiseNotify (p : PageKind) (inst src : Nat) (s : State) : State :=
  let was := bit (s.reg (HDR.FLT_STATUS p) inst) src
  let s := recordFault s p inst src
  let s := if !was && bit (s.reg (HDR.FLT_EVT_EN p) inst) src then sendEvent s p inst src else s
  jnlFault s (faultPayload p inst src .notify s.frame)

/-- R385–R390: source `src` of a page is raised. `status` and `seq` are what a halt records (R191). -/
def raiseFor (p : PageKind) (inst src status seq : Nat) (s : State) : State :=
  if p.defines src then
    let was := bit (s.reg (HDR.FLT_STATUS p) inst) src
    let sev := s.severity p inst src
    let s := recordFault s p inst src
    match sev with
    | .record => s
    | sev =>
      let s := if !was && bit (s.reg (HDR.FLT_EVT_EN p) inst) src then sendEvent s p inst src else s
      let s := jnlFault s (faultPayload p inst src sev s.frame)
      match sev with
      | .halt => haltFor s p inst status seq
      | .quench => quench (haltFor s p inst status seq) ⟨1, p.blockType, inst, src⟩ []
      | _ => s
  else s

/-- R450: `SAFE_REMOVE` shows the meaning that takes precedence: steady in `SAFE`, 1 Hz in a drain, 4 Hz while a flash target
may be replaced. -/
def showRemove (s : State) : State :=
  let d := s.fld STW.SVC_STATE_DRAIN
  s.setFld STW.SVC_LAMP_SAFE_REMOVE (if d = 3 then 1 else if d ≠ 0 then 2 else if s.fld STW.SVC_TGT_TGT = 0x3F then 0 else 3)

/-- R385–R390: source `src` of a page is raised. -/
def raise (p : PageKind) (inst src : Nat) (s : State) : State := raiseFor p inst src 0 0 s

end Sys2Proof.Machine
end

