-- ==== Sys2Proof/Machine/Operands.lean ====
section
/-!
DEFINITION. Machine/Operands.lean: the operand forms: regions as byte sequences (R174), the memories behind them with the
status of each read (R225, R253), tiles with their sidecars (R230, R231, R252), and elements in payloads (R41).
-/
namespace Sys2Proof.Machine

open Sys2Proof

/-! ## Regions (R174) -/

/-- R173: the SRG tensor ID and step of the word at 0x38. -/
def Desc.tensor (d : Desc) : Nat := bits d.w38 0 24
def Desc.step (d : Desc) : Nat := bits d.w38 24 40

/-- The bytes a region holds. -/
def Region.bytes (r : Region) : Nat := r.rows * r.rowBytes

/-- R174: the address of byte `off` of the concatenation of a region's rows. -/
def Region.addr (r : Region) (off : Nat) : Nat :=
  r.base.toNat + off / r.rowBytes * (r.rowStride * 16) + off % r.rowBytes

/-- The pieces of bytes `off` … `off + n` of a region that cross neither a row nor a 16 KiB tile. -/
def Region.chunks (r : Region) : Nat → Nat → Nat → List (Nat × Nat)
  | 0, _, _ => []
  | fuel + 1, off, n =>
    if n = 0 ∨ r.rowBytes = 0 then [] else
    let a := r.addr off
    let k := min n (min (r.rowBytes - off % r.rowBytes) (16384 - a % 16384))
    (a, k) :: r.chunks fuel (off + k) (n - k)

/-- Where an address lies: the memory of a region's type, or a core's operand cache where its LOCAL bit is set; `fed`: the
data that the Runners have brought for a descriptor of an engine of core `c` from a memory (R242, R243). -/
inductive Place where
  | tun
  | hbm
  | ing
  | remote (dev rtype : Nat)
  | cache (c : Nat)
  | fed (c eng seq space : Nat)
deriving DecidableEq, Repr

/-- A memory as one number: a region's type, and for a remote one its memory type and device entry. -/
def spaceOf (type dev rtype : Nat) : Nat := type + (if type = 3 then 4 * (rtype + 4 * dev) else 0)

/-- R242, R243: what an engine's descriptor reads of a region: its operand cache, or what the Runners feed it. -/
def Region.feed (r : Region) (c eng seq : Nat) (loc : Bool) : Place :=
  if loc then .cache c else .fed c eng seq (spaceOf r.type r.dev r.rtype)

/-- R174, R149: the place of a region of core `c`. -/
def Region.place (r : Region) (c : Nat) (loc : Bool) : Place :=
  if loc then .cache c
  else match r.type with
  | 0 => .tun
  | 1 => .hbm
  | 2 => .ing
  | _ => .remote r.dev r.rtype

/-- R176: the bytes of the memory a place names (the Ingot Store's mapped capacity is kept in `ING.AREA_TILES0`). -/
def memBytes (s : State) : Place → Nat
  | .tun => 2 ^ 31
  | .hbm => 864000000000
  | .ing => s.reg ING.AREA_TILES 0 0 * 16384
  | .remote _ _ => 2 ^ 48
  | .cache _ => 2 ^ 25
  | .fed _ _ _ _ => 2 ^ 48

/-! ## Reads with their check status: 0 good, 1 corrected, 2 uncorrectable -/

/-- R220: the die of a Tundish address. -/
def tunDie (a : Nat) : Nat := a / 16384 % 2

/-- The status of reading words of the Tundish from `a`, `n` bytes within one tile: an armed injection, or a word whose
check bits decode as uncorrectable (R228). The count, the source and the injection bit follow. -/
def tunStatus (s : State) (a n : Nat) : Nat × State :=
  let d := tunDie a
  if n = 0 then (0, s)
  else if s.armed TUN.INJ_UE d then
    (2, raise .tun d 2 ((s.disarm TUN.INJ_UE d).bump TUN.UNCORR_COUNT 1 d))
  else if s.tun.badWords.any (fun w => decide (a / 16 ≤ w.1 ∧ w.1 ≤ (a + n - 1) / 16)) then
    (2, raise .tun d 2 (s.bump TUN.UNCORR_COUNT 1 d))
  else if s.armed TUN.INJ_CE d then
    (1, raise .tun d 1 ((s.disarm TUN.INJ_CE d).bump TUN.CORR_COUNT 1 d))
  else (0, s)

/-- R250: the stack of an HBM address. -/
def hbmStack (a : Nat) : Nat := a / 16384 % 12

/-- R17: the casting that holds an address of a Tundish die or an HBM stack. -/
def memCasting (type a : Nat) : Nat := if type = 0 then tunDie a else hbmStack a / 6

/-- R25: data of a memory of the casting `m` as it comes to core `c`: across the bridge it carries a word delivered damaged. -/
def acrossBridge (s : State) (c m : Nat) (bs : List Byte) : List Byte × State :=
  let dir := inward s c
  if m != coreCasting s c && s.acc.dmg.contains dir then
    let (f, s) := s.drawBytes (min 16 bs.length)
    (f ++ bs.drop 16, { s with acc := { s.acc with dmg := s.acc.dmg.erase dir } })
  else (bs, s)

/-- R253: the severity reported with a read of the stack that holds `a`. -/
def hbmStatus (s : State) (a n : Nat) : Nat × State :=
  let k := hbmStack a
  let s := s.wrapAdd HBM.RD_BYTES n k
  if n = 0 then (0, s)
  else if s.armed HBM.INJ_UE k then
    (2, raise .hbm k 2 ((s.disarm HBM.INJ_UE k).bump HBM.UNCORR_COUNT 1 k))
  else if s.armed HBM.INJ_CE k then
    (1, raise .hbm k 1 ((s.disarm HBM.INJ_CE k).bump HBM.CORR_COUNT 1 k))
  else (0, s)

/-- R146: the status of a read of a core's operand cache. Its reader raises the source, with the status it reports. -/
def cacheStatus (s : State) (c a n : Nat) : Nat × State :=
  if n = 0 then (0, s)
  else if s.armed LDL.INJ_CACHE_UE c then (2, s.disarm LDL.INJ_CACHE_UE c)
  else if (s.core c).ldl.cacheBad.any (fun w => decide (a / 8 ≤ w ∧ w ≤ (a + n - 1) / 8)) then (2, s)
  else (0, s)

/-- The pieces delivered for a descriptor from a memory. -/
def fedPieces (s : State) (c eng seq space : Nat) : List Piece :=
  match (s.core c).run.requesters.find? (fun q => q.eng == eng && q.seq == seq) with
  | some q => (q.got.map Prod.snd).filter (fun p => p.space == space)
  | none => []

/-- The piece that holds an address. -/
def pieceAt (ps : List Piece) (a : Nat) : Option Piece :=
  ps.find? (fun p => decide (p.addr ≤ a ∧ a < p.addr + p.payload.length))

/-- `n` bytes from `a` out of delivered pieces; what none holds reads 0. -/
def fedBytes (ps : List Piece) : Nat → Nat → Nat → List Byte
  | 0, _, _ => []
  | fuel + 1, a, n =>
    if n = 0 then [] else
    match pieceAt ps a with
    | some p =>
      let k := min n (p.addr + p.payload.length - a)
      slice p.payload (a - p.addr) k ++ fedBytes ps fuel (a + k) (n - k)
    | none => 0 :: fedBytes ps fuel (a + 1) (n - 1)

/-- R240: the outcome of the read of the pieces that hold `n` bytes from `a`: the greatest `Piece.bad`. -/
def fedBad (ps : List Piece) (a n : Nat) : Nat :=
  (ps.filter (fun p => decide (p.addr < a + n ∧ a < p.addr + p.payload.length))).foldl (fun m p => max m p.bad) 0

/-- The bytes a memory of this device holds from `a`. -/
def peek (s : State) (p : Place) (a n : Nat) : List Byte :=
  match p with
  | .tun => readBytes s.tun.bytes a n
  | .hbm => readBytes s.hbm a n
  | .ing => readBytes s.ing.bytes a n
  | .remote _ _ => zeros n
  | .cache c => readBytes (s.core c).ldl.cache a n
  | .fed c eng seq sp => fedBytes (fedPieces s c eng seq sp) n a n

/-- One read of `n` bytes from `a`, within one tile: the bytes, the status and the state after it. -/
def readChunk (s : State) (p : Place) (a n : Nat) : List Byte × Nat × State :=
  let bs := peek s p a n
  match p with
  | .tun => let (e, s) := tunStatus s a n; (bs, e, s)
  | .hbm => let (e, s) := hbmStatus s a n; (bs, e, s)
  | .cache c => let (e, s) := cacheStatus s c a n; (bs, e, s)
  | .fed c eng seq sp => (bs, if 2 ≤ fedBad (fedPieces s c eng seq sp) a n then 2 else 0, s)
  | _ => (bs, 0, s)

/-- A list of pieces read in order: the bytes, the worst status and the state. -/
def readChunks (s : State) (p : Place) : List (Nat × Nat) → List Byte × Nat × State
  | [] => ([], 0, s)
  | (a, n) :: cs =>
    let (b, e, s) := readChunk s p a n
    let (b', e', s) := readChunks s p cs
    (b ++ b', max e e', s)

/-- Bytes `off` … `off + n` of a region read. -/
def readRegion (s : State) (r : Region) (p : Place) (off n : Nat) : List Byte × Nat × State :=
  readChunks s p (r.chunks (n + 1) off n)

/-- The bytes of a region as stored. -/
def peekRegion (s : State) (r : Region) (p : Place) (off n : Nat) : List Byte :=
  (r.chunks (n + 1) off n).flatMap (fun x => peek s p x.1 x.2)

/-! ## Writes -/

/-- R235: a request in flight reads or fills the cache entry in Tundish tile `t`. -/
def beingRead (s : State) (t : Nat) : Bool :=
  (List.range 4).any (fun c => (s.core c).run.flight.any (fun f => f.cached == some t))

/-- The directory changed; `CACHE_ENTRIES` counts the entries that hold valid data. -/
def setCache (s : State) (l : List CacheEnt) : State :=
  { s with tun := { s.tun with cache := l } }.setReg TUN.CACHE_ENTRIES (l.filter (fun (e : CacheEnt) => !e.fill && !e.gone)).length

/-- R245: an entry that leaves before any demand read of it counts for its core. -/
def evictCount (s : State) (e : CacheEnt) : State := if e.pf && decide (e.user < 4) then s.bump RUN.PF_EVICTED 1 e.user else s

/-- R233, R238: invalidated entries leave once no read of them is in progress. -/
def sweepGone (s : State) : State := setCache s (s.tun.cache.filter (fun e => !e.gone || beingRead s e.tile))

/-- R233, R236, R238: the entries that satisfy `p` are invalidated: no later read finds them, and each leaves once no read of
it is in progress. -/
def dropEntries (s : State) (p : CacheEnt → Bool) : State :=
  let s := (s.tun.cache.filter (fun e => p e && !e.gone)).foldl evictCount s
  sweepGone (setCache s (s.tun.cache.map (fun e => if p e then { e with gone := true, pf := false } else e)))

/-- R236: the cache entries of a source tile are invalidated by a write to it. -/
def invalidate (s : State) (type dev tile : Nat) : State :=
  dropEntries s (fun e => e.type == type && e.dev == dev && e.src == tile)

/-- R225, R228: a write gives its words valid check bits. -/
def tunWrite (s : State) (a : Nat) (bs : List Byte) : State :=
  { s with tun := { s.tun with
      bytes := writeBytes s.tun.bytes a bs,
      badWords := s.tun.badWords.filter (fun w => !decide (a / 16 ≤ w.1 ∧ w.1 ≤ (a + bs.length - 1) / 16)) } }

/-- R254: a write command that fails parity once is repeated. -/
def hbmWrite (s : State) (a : Nat) (bs : List Byte) : State :=
  let k := hbmStack a
  let s := s.wrapAdd HBM.WR_BYTES bs.length k
  let s := if s.armed HBM.INJ_PAR1 k then
      raise .hbm k 4 ((s.disarm HBM.INJ_PAR1 k).bump HBM.PARITY_COUNT 1 k) else s
  invalidate { s with hbm := writeBytes s.hbm a bs } 1 0 (a / 16384)

/-- A write to the operand cache of a core gives its words valid check bits (R146). -/
def cacheWrite (s : State) (c a : Nat) (bs : List Byte) : State :=
  s.modCore c (fun x => { x with ldl := { x.ldl with
    cache := writeBytes x.ldl.cache a bs,
    cacheBad := x.ldl.cacheBad.filter (fun w => !decide (a / 8 ≤ w ∧ w ≤ (a + bs.length - 1) / 8)) } })

/-- One write of bytes from `a` to a memory of this device. -/
def poke (s : State) (p : Place) (a : Nat) (bs : List Byte) : State :=
  if bs = [] then s else
  match p with
  | .tun => tunWrite s a bs
  | .hbm => hbmWrite s a bs
  | .ing => { s with ing := { s.ing with bytes := writeBytes s.ing.bytes a bs } }
  | .remote _ _ => s
  | .cache c => cacheWrite s c a bs
  | .fed _ _ _ _ => s

/-- Bytes written over a list of pieces, in order. -/
def writeChunks (s : State) (p : Place) : List (Nat × Nat) → List Byte → State
  | [], _ => s
  | (a, n) :: cs, bs => writeChunks (poke s p a (bs.take n)) p cs (bs.drop n)

/-- Bytes written to a region from byte `off`. -/
def writeRegion (s : State) (r : Region) (p : Place) (off : Nat) (bs : List Byte) : State :=
  writeChunks s p (r.chunks (bs.length + 1) off bs.length) bs

/-! ## Tiles and sidecars (R230, R231) -/

/-- R230: the fields of a sidecar header. -/
structure TileHdr where
  fmt : Nat := 0
  frac : Nat := 0
  valid : Bool := true
  nanSeen : Bool := false
  infSeen : Bool := false
  sat : Bool := false
  elems : Nat := 0
  rowLen : Nat := 0
  coarse : Nat := 0x3F800000
  crc : Nat := 0
  stepEpoch : Nat := 0
  layoutEpoch : Nat := 0
  shift : Nat := 0
  unrec : Bool := false
  prodDev : Nat := 0
  prodCore : Nat := 0
  prodEngine : Nat := 0
  tensor : Nat := 0
  baseElem : Nat := 0
deriving DecidableEq, Repr

/-- R230: the 60 header bytes before `HCRC`. -/
def TileHdr.bytes60 (h : TileHdr) : List Byte :=
  leBytes 4 (h.fmt % 16 + h.frac % 64 * 2 ^ 4 + b2n h.valid * 2 ^ 10 + b2n h.nanSeen * 2 ^ 11 +
    b2n h.infSeen * 2 ^ 12 + b2n h.sat * 2 ^ 13) ++
  leBytes 4 (h.elems % 2 ^ 16 + h.rowLen % 2 ^ 16 * 2 ^ 16) ++ leBytes 4 h.coarse ++ leBytes 4 h.crc ++
  leBytes 4 h.stepEpoch ++
  leBytes 4 (h.layoutEpoch % 2 ^ 16 + h.shift % 128 * 2 ^ 16 + b2n h.unrec * 2 ^ 23) ++
  leBytes 8 (h.prodDev % 2 ^ 17 + h.prodCore % 4 * 2 ^ 17 + h.prodEngine % 16 * 2 ^ 19) ++
  leBytes 8 (h.tensor % 2 ^ 24) ++ leBytes 8 (h.baseElem % 2 ^ 48) ++ zeros 12

/-- The header fields a sidecar's bytes spell. -/
def TileHdr.parse (b : List Byte) : TileHdr :=
  let w0 := fieldAt b 0 4
  let w1 := fieldAt b 4 4
  let w5 := fieldAt b 0x14 4
  let w6 := fieldAt b 0x18 4
  { fmt := bits w0 0 4, frac := bits w0 4 6, valid := bit w0 10, nanSeen := bit w0 11, infSeen := bit w0 12,
    sat := bit w0 13, elems := bits w1 0 16, rowLen := bits w1 16 16, coarse := fieldAt b 8 4, crc := fieldAt b 12 4,
    stepEpoch := fieldAt b 0x10 4, layoutEpoch := bits w5 0 16, shift := bits w5 16 7, unrec := bit w5 23,
    prodDev := bits w6 0 17, prodCore := bits w6 17 2, prodEngine := bits w6 19 4, tensor := fieldAt b 0x20 3,
    baseElem := fieldAt b 0x28 6 }

/-- R41: how many fine scales a payload of a format has in use. -/
def fineCount (fmtCode : Nat) : Nat :=
  if 4 ≤ fmtCode ∧ fmtCode ≤ 9 then (if fmtCode = 7 ∨ fmtCode = 9 then 1024 else 512) else 0

/-- R230: a whole sidecar: the header with both CRCs computed, the fine scales, and zeros. -/
def mkSidecar (h : TileHdr) (payload fines : List Byte) : List Byte :=
  let fs := slice fines 0 (fineCount h.fmt)
  let h := { h with crc := crc32c (payload ++ fs) }
  withCrc32c h.bytes60 ++ fs ++ zeros (1984 - fs.length)

/-- R231: a tile checks good: `VALID` set, `HCRC` and `CRC` matching. -/
def tileGood (payload side : List Byte) : Bool :=
  let h := TileHdr.parse side
  h.valid && fieldAt side 0x3C 4 == crc32c (slice side 0 60) &&
    h.crc == crc32c (payload ++ slice side 64 (fineCount h.fmt))

/-- R252: the HBM address of the sidecar of window tile `t`. -/
def hbmSideAddr (s : State) (t : Nat) : Nat := s.reg HBM.TILEWIN * 16384 + t * 2048

/-- A tile of a memory of this device: its payload and its sidecar, as stored. -/
def peekTile (s : State) (p : Place) (t : Nat) : List Byte × List Byte :=
  (peek s p (t * 16384) 16384,
   match p with
   | .tun => readBytes s.tun.side (t * 2048) 2048
   | .hbm => readBytes s.hbm (hbmSideAddr s t) 2048
   | .ing => readBytes s.ing.side (t * 2048) 2048
   | .fed c eng seq sp =>
     (((fedPieces s c eng seq sp).find? (fun p => p.addr == t * 16384 && !p.side.isEmpty)).map Piece.side).getD (zeros 2048)
   | _ => zeros 2048)

/-- R224: the number of 128-bit word `k` of the sidecar of a Tundish tile. -/
def sideWord (t k : Nat) : Nat := 2 ^ 27 + 128 * t + k

/-- One read of a tile with its sidecar: payload, sidecar, status, state. -/
def readTile (s : State) (p : Place) (t : Nat) : List Byte × List Byte × Nat × State :=
  let (pl, sd) := peekTile s p t
  let (_, e, s) := readChunk s p (t * 16384) 16384
  if p = .tun ∧ s.tun.badWords.any (fun w => decide (sideWord t 0 ≤ w.1 ∧ w.1 < sideWord t 128)) then
    (pl, sd, 2, raise .tun (t % 2) 2 (s.bump TUN.UNCORR_COUNT 1 (t % 2)))
  else (pl, sd, e, s)

/-- R231: the sidecar of a Tundish tile written; `TUN.INJ.SIDECAR` inverts the `HCRC` of the next header written to its
die. -/
def writeSide (s : State) (t : Nat) (side : List Byte) : State :=
  let d := t % 2
  let bad := s.armed TUN.INJ_SIDECAR d
  let side := if bad then side.take 60 ++ leBytes 4 (fieldAt side 60 4 ^^^ 0xFFFFFFFF) ++ side.drop 64 else side
  let s := if bad then s.disarm TUN.INJ_SIDECAR d else s
  { s with tun := { s.tun with
      side := writeBytes s.tun.side (t * 2048) side,
      badWords := s.tun.badWords.filter (fun w => !decide (sideWord t 0 ≤ w.1 ∧ w.1 < sideWord t 128)) } }

/-- R231, R236: a tile written: payload and fine scales, then the header. -/
def writeTile (s : State) (p : Place) (t : Nat) (payload side : List Byte) : State :=
  match p with
  | .tun => writeSide (tunWrite s (t * 16384) payload) t side
  | .hbm =>
    let s := hbmWrite s (t * 16384) payload
    { s with hbm := writeBytes s.hbm (hbmSideAddr s t) side }
  | .ing =>
    let s := poke s .ing (t * 16384) payload
    { s with ing := { s.ing with side := writeBytes s.ing.side (t * 2048) side } }
  | _ => s

/-! ## Elements in payloads (R41) -/

/-- R41: the encoding of element `i` of a payload whose bytes `rd` reads (offset, length). -/
def elemField (f : Fmt) (rd : Nat → Nat → Nat) (i : Nat) : Nat :=
  match f with
  | .fp32 | .q32 => rd (4 * i) 4
  | .wa64 | .q64 => rd (8 * i) 8
  | .fp24 => rd (3 * i) 3
  | .bf16 | .fp16 | .q16 => rd (2 * i) 2
  | .pair => rd (2 * i) 2 + rd (8192 + 2 * i) 2 * 2 ^ 16
  | .e2m1 | .int4 => bits (rd (i / 2) 1) (4 * (i % 2)) 4
  | _ => rd i 1

/-- The encoding of element `i` of a payload. -/
def elemBits (f : Fmt) (pl : List Byte) (i : Nat) : Nat := elemField f (fieldAt pl) i

/-- Pairs of 4-bit elements packed two to a byte, the lower element in bits [3:0]. -/
def packNibbles : List Nat → List Byte
  | [] => []
  | [a] => [BitVec.ofNat 8 (a % 16)]
  | a :: b :: r => BitVec.ofNat 8 (a % 16 + b % 16 * 16) :: packNibbles r

/-- R41: a payload that holds the given element encodings, padded with zeros to 16 KiB. -/
def packPayload (f : Fmt) (es : List Nat) : List Byte :=
  let bs := match f with
    | .fp32 | .q32 => es.flatMap (leBytes 4)
    | .wa64 | .q64 => es.flatMap (leBytes 8)
    | .fp24 => es.flatMap (leBytes 3)
    | .bf16 | .fp16 | .q16 => es.flatMap (leBytes 2)
    | .pair =>
      let hi := es.flatMap (fun e => leBytes 2 (bits e 0 16))
      slice hi 0 8192 ++ es.flatMap (fun e => leBytes 2 (bits e 16 16))
    | .e2m1 | .int4 => packNibbles es
    | _ => es.flatMap (leBytes 1)
  slice bs 0 16384

/-- The exact value of element `i` of a tile, its scales applied (R42, R44). -/
def tileVal (payload side : List Byte) (i : Nat) : Val :=
  let h := TileHdr.parse side
  match Fmt.ofCode h.fmt with
  | none => .nan
  | some f =>
    scaleVal f (fieldAt side (64 + i / 32) 1) h.coarse (decodeElem f h.frac (elemBits f payload i))

/-- R45: the values of one tile written in a scaled or unscaled format: element encodings, fine scales and events.
`rnd i` rounds element `i`; blocks are 32 elements in payload order. The blocks past the last value are padding, written
as zeros (R230), and have the fine scale R44 and R45 give such a block. -/
def encodeTile (f : Fmt) (F coarse : Nat) (rnd : Nat → Rnd) (vs : List Val) : List Nat × List Byte × Flags :=
  if f.scaled then
    let n := ceilDiv vs.length 32
    let (es, fs, fl) := (List.range n).foldl (fun (es, fs, fl) b =>
      let (fi, e, g) := writeBlock f coarse (fun j => rnd (32 * b + j)) ((vs.drop (32 * b)).take 32)
      (es ++ e, fs ++ [BitVec.ofNat 8 fi], fl.join g)) ([], [], {})
    (es, fs ++ List.replicate (f.perTile / 32 - n) (BitVec.ofNat 8 (writeBlock f coarse (fun _ => .rne) []).1), fl)
  else
    let rs := vs.zipIdx.map (fun (v, i) => convert f F (rnd i) v)
    (rs.map Prod.fst, [], rs.foldl (fun a r => a.join r.2) {})

end Sys2Proof.Machine
end

