-- ==== Sys2Proof/Machine/MouldPlan.lean ====
section
/-!
DEFINITION. Machine/MouldPlan.lean: chapter 03 without time: how a `MATMUL` is cut (R62–R65), which operand tiles a set
reads, and the arithmetic of a stream (R53–R56, R74) and of a conversion (R67, R77).
-/
namespace Sys2Proof.Machine

open Sys2Proof

/-- The format a code names (FP32 for the reserved code, which no accepted descriptor carries). -/
def fmtOf (code : Nat) : Fmt := (Fmt.ofCode code).getD .fp32

/-! ## Shape (R57–R65) -/

/-- R58: the formats A and B may have, and the output formats. -/
def mouldIn (code : Nat) : Bool := decide (code ≤ 9) || code == 13
def mouldOut (code : Nat) : Bool := decide (code ≤ 9) || code == 13 || code == 14

/-- R62: the significand width is above 8. -/
def mouldWide (code : Nat) : Bool := decide (code = 0 ∨ code = 1 ∨ code = 3 ∨ code = 13)

/-- R63: a format of a double-rate pair: E5M2, E4M3, E2M1, INT4. -/
def mouldDouble (code : Nat) : Bool := decide (code = 4 ∨ code = 5 ∨ code = 7 ∨ code = 9)

/-- The shape of a `MATMUL` as the array sees it. -/
structure MGeo where
  m : Nat
  n : Nat
  k : Nat
  trows : Nat
  cols : Nat
  double : Bool
  passes : Nat
  wa64 : Bool
  perHalf : Nat
  rowBlocks : Nat
  panels : Nat
  ktiles : Nat
deriving DecidableEq, Repr

/-- R63: the descriptor runs at double rate. -/
def Desc.double (d : Desc) : Bool := mouldDouble d.fmt0 && mouldDouble d.fmt1 && d.passes == 1

/-- The fields of the Mould's `PARAM` (R175). -/
def Desc.bT (d : Desc) : Bool := bit d.param 19
def Desc.drainHold (d : Desc) : Bool := bit d.param 20
def Desc.tap (d : Desc) : Bool := d.engine == 1 && d.op == 1 && bit d.param 21
def Desc.accFmt (d : Desc) : Fmt := if bit d.param 22 then .wa64 else .fp32

/-- R57–R65: the geometry of a descriptor. -/
def mgeo (d : Desc) : MGeo :=
  let cols := if d.double then 1024 else 512
  let trows := 32 * 2 ^ min (bits d.param 16 3) 4
  let accB := if bit d.param 22 then 8 else 4
  { m := d.len0, n := d.len1, k := d.len2, trows := trows, cols := cols, double := d.double, passes := d.passes,
    wa64 := bit d.param 22, perHalf := 8388608 / (trows * cols * accB), rowBlocks := ceilDiv d.len0 trows,
    panels := ceilDiv d.len1 cols, ktiles := ceilDiv d.len2 512 }

/-- R65: the number of output tiles. -/
def MGeo.tiles (g : MGeo) : Nat := g.rowBlocks * g.panels

/-- R65: the number of rounds. -/
def MGeo.rounds (g : MGeo) : Nat := ceilDiv g.tiles g.perHalf

/-- R65: output tile `i`, numbered panel-major, with its accumulators at +0. -/
def MGeo.tile (g : MGeo) (i : Nat) : MTile :=
  let p := i / g.rowBlocks
  let r := i % g.rowBlocks
  let rows := min g.trows (g.m - r * g.trows)
  let cols := min g.cols (g.n - p * g.cols)
  { idx := i, panel := p, row0 := r * g.trows, rows := rows, col0 := p * g.cols, cols := cols,
    acc := List.replicate (rows * cols) 0 }

/-- R65: the tiles of a round. -/
def MGeo.roundTiles (g : MGeo) (r : Nat) : List MTile :=
  (List.range (min g.perHalf (g.tiles - r * g.perHalf))).map (fun i => g.tile (r * g.perHalf + i))

/-- R62, R65: a B-register set: its K-tile, its panel, and the passes streamed against it. -/
structure MSet where
  kt : Nat
  panel : Nat
  first : Nat
  npass : Nat
deriving DecidableEq, Repr

/-- R62: the loads of one K-tile and panel: the first pass of each and how many passes stream against it. -/
def passSets (passes : Nat) : List (Nat × Nat) :=
  if passes = 1 then [(1, 1)] else if passes = 2 then [(1, 2)] else [(1, 2), (3, 1)]

/-- The panels of a list of tiles, ascending. -/
def panelsOf (ts : List MTile) : List Nat :=
  ts.foldl (fun ps t => if ps.contains t.panel then ps else ps ++ [t.panel]) []

/-- R65: the B-register sets of a round, in order. -/
def MGeo.sets (g : MGeo) (r : Nat) : List MSet :=
  let ps := panelsOf (g.roundTiles r)
  (List.range g.ktiles).flatMap (fun kt => ps.flatMap (fun p =>
    (passSets g.passes).map (fun x => { kt := kt, panel := p, first := x.1, npass := x.2 })))

/-! ## Checks at issue (R58–R62, R67, R92) -/

/-- R189 step 5 for the Mould. -/
def mouldFormatBad (d : Desc) : Bool :=
  !(d.op == 1 || d.op == 2 || d.op == 3) ||
  (d.op == 1 &&
    (!mouldIn d.fmt0 || !mouldIn d.fmt1 || !mouldOut d.fmt2 || decide (1 < d.rnd0) || decide (1 < d.rnd1) ||
     d.passes == 0 || (decide (2 ≤ d.passes) && !mouldWide d.fmt0) || (d.passes == 3 && !mouldWide d.fmt1) ||
     decide (4 < bits d.param 16 3) || ((fmtOf d.fmt1).scaled && !d.bT)))

/-- R177: a `MATMUL` with nothing to do. -/
def mouldEmpty (d : Desc) : Bool := d.len0 == 0 || d.len1 == 0 || d.len2 == 0

/-- The bytes of the whole 16 KiB tiles that hold `n` elements. -/
def tileBytes (f : Fmt) (n : Nat) : Nat := ceilDiv n f.perTile * 16384

/-- The bytes that `n` elements take (R41). -/
def elemBytes (f : Fmt) (n : Nat) : Nat :=
  if f = .pair then tileBytes f n else n / f.perTile * 16384 + ceilDiv (n % f.perTile * f.width) 8

/-- The bytes of region 2: every output tile is a whole number of 16 KiB tiles (log entry 30). -/
def mouldOutBytes (d : Desc) : Nat :=
  let g := mgeo d
  let f := fmtOf d.fmt2
  ([(g.trows, g.m / g.trows), (g.m % g.trows, 1)] : List (Nat × Nat)).foldl (fun t rn =>
    ([(g.cols, g.n / g.cols), (g.n % g.cols, 1)] : List (Nat × Nat)).foldl (fun t cn =>
      t + rn.2 * cn.2 * tileBytes f (rn.1 * cn.1)) t) 0

/-- R189 step 9: the regions of a `MATMUL` and the extents it needs. -/
def mouldExtents (d : Desc) : List (Region × Bool × Nat) :=
  if d.op ≠ 1 ∨ mouldEmpty d then [] else
  [(d.reg0, false, elemBytes (fmtOf d.fmt0) (d.len0 * d.len2)),
   (d.reg1, false, elemBytes (fmtOf d.fmt1) (d.len1 * d.len2))] ++
  (if d.drainHold then [] else [(d.reg2, false, mouldOutBytes d)])

/-! ## Operand rows and their tiles -/

/-- R59: the position of element (row or column `v`, `k`) in operand `op`. -/
def opIndex (d : Desc) (op v k : Nat) : Nat :=
  if op = 0 then v * d.len2 + k else if d.bT then v * d.len2 + k else k * d.len1 + v

/-- The region and the format of an operand. -/
def opRegion (d : Desc) (op : Nat) : Region := if op = 0 then d.reg0 else d.reg1
def opFmt (d : Desc) (op : Nat) : Fmt := fmtOf (if op = 0 then d.fmt0 else d.fmt1)

/-- The stream length of a set over the given tiles (R62). -/
def streamLen (x : MSet) (ts : List MTile) : Nat := x.npass * ts.foldl (fun n t => n + t.rows) 0

/-- The tiles of a round in a panel. -/
def MGeo.panelTiles (g : MGeo) (r p : Nat) : List MTile := (g.roundTiles r).filter (fun t => t.panel == p)

/-- The sets before set `j` of round `r`, each with its round. -/
def MGeo.setsBefore (g : MGeo) (r j : Nat) : List (Nat × MSet) :=
  (List.range r).flatMap (fun q => (g.sets q).map (fun x => (q, x))) ++ ((g.sets r).take j).map (fun x => (r, x))

/-- R69: the A rows streamed, and the B rows loaded, before set `j` of round `r`. -/
def MGeo.aBefore (g : MGeo) (r j : Nat) : Nat :=
  (g.setsBefore r j).foldl (fun n y => n + streamLen y.2 (g.panelTiles y.1 y.2.panel)) 0
def bLoadRows (d : Desc) (g : MGeo) (x : MSet) : Nat :=
  if d.bT then min g.cols (g.n - g.cols * x.panel) else min 512 (g.k - 512 * x.kt)
def bBefore (d : Desc) (g : MGeo) (r j : Nat) : Nat := (g.setsBefore r j).foldl (fun n y => n + bLoadRows d g y.2) 0

/-- The fields of a job's descriptor and its geometry. -/
def MJob.d (j : MJob) : Desc := j.iss.desc
def MJob.geo (j : MJob) : MGeo := mgeo j.iss.desc

/-- R198: where a Mould-feed pattern takes row `i` of pass `p` (from 0) of tile `t` in set `k` of round `r`, in region 0. -/
def MJob.aRow (j : MJob) (r k : Nat) (x : MSet) (p : Nat) (t : MTile) (i : Nat) : Option Nat :=
  if j.feed.a.isEmpty then none else
  let ts := j.geo.panelTiles r x.panel
  let rows := ts.foldl (fun n t => n + t.rows) 0
  let off := (ts.filter (fun u => decide (u.idx < t.idx))).foldl (fun n t => n + t.rows) 0
  (j.feed.a[j.geo.aBefore r k + p * rows + off + i]?).map Prod.snd

/-- R198: where it takes B load row `i` of set `k` of round `r`, in region 1. -/
def MJob.bRow (j : MJob) (r k i : Nat) : Option Nat :=
  if j.feed.b.isEmpty then none else j.feed.b[bBefore j.d j.geo r k + i]?

/-- R59, R198: where element `kk` (counted over K) of an A row lies in region 0: the start of a run of elements there and the
element's place in it. -/
def MJob.aPos (j : MJob) (row : Option Nat) (m kk : Nat) : Nat × Nat :=
  match row with
  | some o => (o, kk % 512)
  | none => let i := opIndex j.d 0 m kk; let per := (opFmt j.d 0).perTile; (i / per * 16384, i % per)

/-- R59, R198: where element (`n`, `kk`) of B lies in region 1 for set `k` of round `r`. -/
def MJob.bPos (j : MJob) (r k : Nat) (x : MSet) (n kk : Nat) : Nat × Nat :=
  let c := n - j.geo.cols * x.panel
  match j.bRow r k (if j.d.bT then c else kk - 512 * x.kt) with
  | some o => (o, if j.d.bT then kk - 512 * x.kt else c)
  | none => let i := opIndex j.d 1 n kk; let per := (opFmt j.d 1).perTile; (i / per * 16384, i % per)

/-- Naturals of a list that are not in another, each once, in order. -/
def addNew (ks : List Nat) (seen : List Nat) : List Nat :=
  ks.foldl (fun a k => if a.contains k then a else a ++ [k]) seen

/-- R41, R174: the tiles of a region's memory that hold elements `lo` … `hi` of a run of elements that starts at `base`. -/
def runTiles (r : Region) (f : Fmt) (base lo hi : Nat) : List Nat :=
  let span : Nat → Nat → List Nat := fun a b => (r.chunks ((b - a) / 16 + 2) (base + a) (b - a)).map (fun x => x.1 / 16384)
  if f = .pair then span (2 * lo) (2 * hi + 2) ++ span (8192 + 2 * lo) (8192 + 2 * hi + 2)
  else span (lo * f.width / 8) (ceilDiv ((hi + 1) * f.width) 8)

/-- The tiles that hold a row of an operand: elements `lo` … `hi` of the operand, or its first `n` from a pattern's offset. -/
def rowTiles (d : Desc) (op : Nat) (row : Option Nat) (lo hi : Nat) : List Nat :=
  let f := opFmt d op
  let per := f.perTile
  match row with
  | some o => runTiles (opRegion d op) f o 0 (hi - lo)
  | none => (List.range (hi / per - lo / per + 1)).flatMap (fun i =>
      let j := lo / per + i
      runTiles (opRegion d op) f (j * 16384) (if i = 0 then lo % per else 0) (if j = hi / per then hi % per else per - 1))

/-- The B tiles that set `k` of round `r` reads. -/
def bTiles (j : MJob) (r k : Nat) (x : MSet) : List Nat :=
  let g := j.geo
  let k0 := 512 * x.kt
  let k1 := min g.k (k0 + 512)
  let c0 := g.cols * x.panel
  let c1 := min g.n (c0 + g.cols)
  (List.range (bLoadRows j.d g x)).foldl (fun a i =>
    addNew (if j.d.bT then rowTiles j.d 1 (j.bRow r k i) (opIndex j.d 1 (c0 + i) k0) (opIndex j.d 1 (c0 + i) (k1 - 1))
      else rowTiles j.d 1 (j.bRow r k i) (opIndex j.d 1 c0 (k0 + i)) (opIndex j.d 1 (c1 - 1) (k0 + i))) a) []

/-- The A tiles it reads: the rows of the round's tiles that lie in its panel. -/
def aTiles (j : MJob) (r k : Nat) (x : MSet) : List Nat :=
  let k0 := 512 * x.kt
  let k1 := min j.geo.k (k0 + 512)
  (List.range (if j.feed.a.isEmpty then 1 else x.npass)).foldl (fun a p =>
    (j.geo.panelTiles r x.panel).foldl (fun a t =>
      (List.range t.rows).foldl (fun a i =>
        addNew (rowTiles j.d 0 (j.aRow r k x p t i) (opIndex j.d 0 (t.row0 + i) k0) (opIndex j.d 0 (t.row0 + i) (k1 - 1))) a) a) a) []

/-- Operand tiles (operand, number) a set reads, B before A. -/
def setTiles (j : MJob) (r k : Nat) (x : MSet) : List (Nat × Nat) :=
  (bTiles j r k x).map (fun t => (1, t)) ++ (aTiles j r k x).map (fun t => (0, t))

/-- Pairs of a list that are not in another, each once, in order. -/
def addPairs (ks seen : List (Nat × Nat)) : List (Nat × Nat) :=
  ks.foldl (fun a k => if a.contains k then a else a ++ [k]) seen

/-- The operand tiles of rounds below `r` and of the first `k` sets of round `r`, in order of need. -/
def needUpTo (j : MJob) (r k : Nat) : List (Nat × Nat) :=
  let g := j.geo
  (List.range (r + 1)).foldl (fun a q =>
    (if q < r then g.sets q else (g.sets q).take k).zipIdx.foldl (fun a x => addPairs (setTiles j q x.2 x.1) a) a) []

/-- Every operand tile of a descriptor, in order of need. -/
def needAll (j : MJob) : List (Nat × Nat) := needUpTo j j.geo.rounds 0

/-! ## The arithmetic of a stream (R53–R56, R74, R75) -/

/-- A padded element (R60): +0. -/
def zeroOperand : Operand := { fmt := .fp32, fine := 127, bits := 0 }

/-- The staged tile that holds byte `off` of an operand's region. -/
def stagedTile (d : Desc) (stage : List OpTile) (op off : Nat) : Option OpTile :=
  stage.find? (fun t => t.op == op && t.j == (opRegion d op).addr off / 16384)

/-- R42–R44: element `e` of the run of elements at `base` of a staged operand. The fine scale is that of its place in the tile
that holds it. -/
def stagedElem (d : Desc) (stage : List OpTile) (op : Nat) (pos : Nat × Nat) : Operand :=
  let f := opFmt d op
  let r := opRegion d op
  let o := pos.1 + (if f = .pair then 2 * pos.2 else pos.2 * f.width / 8)
  match stagedTile d stage op o with
  | none => zeroOperand
  | some t =>
    let rd := fun (b n : Nat) => leNat ((List.range n).map (fun k =>
      ((stagedTile d stage op (pos.1 + b + k)).map (fun t => t.payload.getD (r.addr (pos.1 + b + k) % 16384) 0)).getD 0))
    let place := r.addr o % 16384 * 8 / f.width + (if f.width = 4 then pos.2 % 2 else 0)
    { fmt := f, fine := fieldAt t.side (64 + place / 32) 1, bits := elemField f rd pos.2,
      tensorNan := f.scaled && coarseBad (fieldAt t.side 8 4) }

/-- The 32 operand pairs of slab group `q` (counted over the whole of K) of row `m`, which lies at `row`, and column `n`, for set
`k` of round `r`. -/
def groupPairs (j : MJob) (r k : Nat) (x : MSet) (row : Option Nat) (m n q : Nat) : List (Operand × Operand) :=
  (List.range 32).map (fun i =>
    let kk := 32 * q + i
    if kk < j.d.len2 then
      (stagedElem j.d j.stage 0 (j.aPos row m kk), stagedElem j.d j.stage 1 (j.bPos r k x n kk))
    else (zeroOperand, zeroOperand))

/-- R85: the NaN and infinity events of a group's operands and of its sum. -/
def groupFlags (ps : List (Operand × Operand)) (g : Option Val) : Flags :=
  let vs := ps.flatMap (fun x => [x.1.exact, x.2.exact])
  { nan := vs.any Val.isNan || (g.map Val.isNan).getD false, inf := vs.any Val.isInf || (g.map Val.isInf).getD false }

/-- R54, R75 step 3: an element's accumulator after one pass over one K-tile, its events, and whether a finite group
turned it infinite (R74). `force` makes the first write infinite (R404, `ACC_OVF`). -/
def passElem (j : MJob) (r k : Nat) (x : MSet) (pass s : Nat) (row : Option Nat) (m n : Nat) (force : Bool) (acc : Nat) :
    Nat × Flags × Bool :=
  let d := j.d
  let f := d.accFmt
  (List.range 16).foldl (fun (a, fl, ov) gi =>
    let ps := groupPairs j r k x row m n (16 * x.kt + gi)
    let g := groupSum pass ps
    let v := g.map (fun v => v.mul (.fin false (pow2 (-(s : Int)))))
    let ctr : SrgCtr := { tensor := d.tensor, step := d.step, elem := (d.baseElem.toNat + m * d.len1 + n),
                          purpose := 1, ordinal := (x.kt * d.passes + (pass - 1)) * 16 + gi }
    let (a', e) := accAdd f (rndOf d.rnd0 j.iss.key ctr) a v
    let fl := (fl.join (groupFlags ps g)).join { e with under := 0, sat := 0 }
    if force && gi == 0 then (withSign f false (2 ^ (f.width - 1) - 2 ^ f.man), { fl with overflow := true, inf := true }, true)
    else (a', fl, ov || e.overflow)) (acc, {}, false)

/-- One pass (`p` from 0) of a set over the rows of a tile: the tile, its events, and the first row at which it is marked. -/
def passTile (j : MJob) (r k : Nat) (x : MSet) (p : Nat) (force : Bool) (t : MTile) : MTile × Flags × Option Nat :=
  let rs := (List.range (t.rows * t.cols)).map (fun i =>
    let y := i / t.cols
    let (a, fl, ov) := passElem j r k x (x.first + p) t.s (j.aRow r k x p t y) (t.row0 + y) (t.col0 + i % t.cols) (force && i == 0)
      (t.acc.getD i 0)
    (a, fl, if ov then some y else none))
  ({ t with acc := rs.map Prod.fst },
   rs.foldl (fun a y => a.join y.2.1) {},
   rs.foldl (fun m y => match m with | some r => some r | none => y.2.2) none)

/-- R65, R74: set `k` of round `r` streamed over the given tiles of its panel: the tiles, the events, and for each tile that is
marked its number and the entry of the marked row, counted from the stream's start. -/
def streamTiles (j : MJob) (r k : Nat) (x : MSet) (force : Bool) (ts : List MTile) :
    List MTile × Flags × List (Nat × Nat) :=
  let rows := ts.foldl (fun n t => n + t.rows) 0
  (List.range x.npass).foldl (fun (ts, fl, mk) p =>
    let (ts', fl', mk', _) := ts.foldl (fun (acc : List MTile × Flags × List (Nat × Nat) × Nat) t =>
      let (out, fl, mk, off) := acc
      let (t', e, row) := passTile j r k x p (force && p == 0 && out.isEmpty) t
      let mk := match row with
        | some r => if mk.any (fun y => y.2 == t.idx) then mk else mk ++ [(p * rows + off + r, t.idx)]
        | none => mk
      (out ++ [t'], fl.join e, mk, off + t.rows)) ([], fl, mk, 0)
    (ts', fl', mk')) (ts, {}, [])

/-- R69, R198: the ck, counted from a stream's start, by the end of which its first `n` rows have entered: one row a ck, or as a
Mould-feed pattern advances them. -/
def MJob.entered (j : MJob) (r k n : Nat) : Nat :=
  let a := j.feed.a
  let b := j.geo.aBefore r k
  if n = 0 ∨ a.length ≤ b then n else
  let from_ := if b = 0 then 0 else ((a[b - 1]?).map (fun x => x.1 + 1)).getD 0
  let known := min n (a.length - b)
  ((a[b + known - 1]?).map (fun x => x.1 + 1)).getD 0 - from_ + (n - known)

/-! ## Conversion (R67, R77) -/

/-- R44, R77: c_out × 2^s rounded to FP32 and saturated, with its events; a bad c_out is written as given. -/
def coarseOut (c s : Nat) : Nat × Flags :=
  if s = 0 ∨ coarseBad c then (c, {}) else
  match decodeFloat .fp32 c with
  | .fin neg q => convFloat .fp32 .rne (.fin neg (q * pow2 s))
  | v => convFloat .fp32 .rne v

/-- A coarse scale as a factor; a bad one has made every element NaN already (R44). -/
def coarseVal (c : Nat) : Val := if coarseBad c then .fin false 1 else decodeFloat .fp32 c

/-- R67: the exact values of a tile's elements: acc × 2^s × c_A × c_B. -/
def tileValues (d : Desc) (cA cB : Nat) (t : MTile) : List Val :=
  let k := ((coarseVal cA).mul (coarseVal cB)).mul (.fin false (pow2 t.s))
  t.acc.map (fun a => (decodeFloat d.accFmt a).mul k)

/-- R67, R77, R475: an output tile converted: its 16 KiB tiles with their sidecars, and the events of R85. Its elements lie
row after row, and a block of R45 is one of R43's, 32 elements of a 16 KiB tile (log entry 30). -/
def convertTile (d : Desc) (key : Word) (dev core : Nat) (cA cB cOut : Nat) (t : MTile) :
    List (List Byte × List Byte) × Flags :=
  let f := fmtOf d.fmt2
  let (c, cf) := if f.scaled then coarseOut cOut t.s else (coarseOne, {})
  let vs := tileValues d cA cB t
  let per := f.perTile
  let elem := fun (j : Nat) => (t.row0 + j / t.cols) * d.len1 + t.col0 + j % t.cols
  (List.range (ceilDiv vs.length per)).foldl (fun (out, fl) i =>
    let chunk := (vs.drop (i * per)).take per
    let (es, fines, e) := encodeTile f 0 c (fun x => rndOf d.rnd1 key
      { tensor := d.tensor, step := d.step, elem := d.baseElem.toNat + elem (i * per + x), purpose := 2, ordinal := 0 }) chunk
    let pl := packPayload f es
    let h : TileHdr :=
      { fmt := d.fmt2, nanSeen := e.nan, infSeen := e.inf, sat := decide (0 < e.sat), elems := chunk.length,
        rowLen := if d.len1 ≤ 65535 then d.len1 else 0, coarse := c, stepEpoch := d.step % 2 ^ 32, shift := t.s,
        unrec := t.unrec, prodDev := dev, prodCore := core, prodEngine := 1, tensor := d.tensor,
        baseElem := d.baseElem.toNat + elem (i * per) }
    (out ++ [(pl, mkSidecar h pl fines)], fl.join e)) ([], cf)

/-- Where the 16 KiB tiles of output tile `i` begin in region 2, in tiles (log entry 30). -/
def outStart (d : Desc) (i : Nat) : Nat :=
  let g := mgeo d
  let f := fmtOf d.fmt2
  (List.range i).foldl (fun n j => n + ceilDiv ((g.tile j).rows * (g.tile j).cols) f.perTile) 0

end Sys2Proof.Machine
end

