-- ==== Sys2Proof/Machine/EngineFields.lean ====
section
/-!
DEFINITION. Machine/EngineFields.lean: what the engine chapters read from a descriptor, and the values, shapes and extents
they reject at issue: Assay (R90–R104), Crucible (R115, R116), Ladle (R143–R160, R478) and Runners (R238, R479).
-/
namespace Sys2Proof.Machine

open Sys2Proof

/-! ## Assay (R90–R104, R175) -/

/-- The fields of an Assay descriptor's `PARAM` (R175). -/
def Desc.blk (d : Desc) : Nat := if bit d.param 9 then 256 else 128
def Desc.slotBase (d : Desc) : Nat := bits d.param 10 8

/-- R89: the slot units of one block. -/
def blkUnits (b : Nat) : Nat := if b = 256 then 3 else 1

/-- R93: row `i` is sampled by a `COV`. -/
def sampled (cov : Desc) (i : Nat) : Bool :=
  let mask := 2 ^ bits cov.param 0 3 - 1
  ((cov.len1 + i) % 2 ^ 32) &&& mask == bits cov.param 3 6 &&& mask

/-- R92: the bytes a capture of `ns` sampled rows of `k` features takes. -/
def capBytes (ns k : Nat) : Nat := ns * 512 * ceilDiv k 512 * 2

/-- R92, R93: how many rows of an M-row operand a `COV` samples. -/
def sampledRows (cov : Desc) (m : Nat) : Nat := ((List.range m).filter (sampled cov)).length

/-- R189 step 5 for the Assay. -/
def asyFormatBad (d : Desc) : Bool :=
  decide (d.op < 1 ∨ 5 < d.op) || (d.op == 1 && bits d.param 0 3 == 7) ||
  (d.op == 4 && !(decide (d.fmt0 ≤ 7) || d.fmt0 == 13 || d.fmt0 == 14))

/-- R89, R95: slot units past 191; of a `COV` those of its first block, the others following from K (`notePairing`). -/
def asyBoundsBad (d : Desc) : Bool :=
  (d.op == 1 && decide (192 < d.slotBase + blkUnits d.blk)) ||
  (d.op == 2 && d.len0 != 0 && decide (192 < d.slotBase + d.len0 * blkUnits d.blk))

/-- R189 step 9 for the Assay. The images of a `BLEND` are named by its list, which is not read at issue: an image that passes
the end of region 0 is read on from there (log entry 99). -/
def asyExtents (d : Desc) : List (Region × Bool × Nat) :=
  if d.op = 2 ∧ d.len0 ≠ 0 then [(d.reg2, false, d.len0 * (d.blk * d.blk * 4))]
  else if d.op = 3 ∧ d.len0 ≠ 0 then [(d.reg1, false, 16 * d.len0), (d.reg0, false, 0)]
  else if d.op = 4 ∧ d.len0 ≠ 0 then
    [(d.reg0, false, elemBytes (fmtOf d.fmt0) d.len0)] ++ (if d.reg2.bytes = 0 then [] else [(d.reg2, false, 8)])
  else if d.op = 5 then [(d.reg0, false, 32)] else []

/-! ## Crucible (R115, R116, R125) -/

/-- The operation codes of the Crucible's solves (R115). -/
def opChol : Nat := 1
def opLdl : Nat := 2
def opTrsm : Nat := 3
def opInv : Nat := 4
def opIroot : Nat := 5
def opRoot : Nat := 6
def opOrth : Nat := 7

def Desc.ncode (d : Desc) : Nat := bits d.param 0 3
def Desc.cruN (d : Desc) : Nat := if d.ncode ≤ 5 then 8 * 2 ^ d.ncode else 0
def Desc.iters (d : Desc) : Nat := bits d.param 3 7
def Desc.pcode (d : Desc) : Nat := bits d.param 10 2
def Desc.hipri (d : Desc) : Bool := bit d.param 12
def Desc.onStale (d : Desc) : Bool := bit d.param 13
def Desc.beta (d : Desc) : Int := toSigned 16 (bits d.w38 48 16)
def Desc.rhs (d : Desc) : Nat := bits d.baseElem.toNat 0 9
def Desc.trans (d : Desc) : Bool := bit d.baseElem.toNat 9
def Desc.newF (d : Desc) : Nat := bits d.baseElem.toNat 10 5
def Desc.newX (d : Desc) : Int := toSigned 8 (bits d.baseElem.toNat 15 8)
def Desc.lambda (d : Desc) : Int := toSigned 32 d.len2
def Desc.tau (d : Desc) : Int := toSigned 32 d.len1

/-- R115: the operation is a solve. -/
def isSolve (op : Nat) : Bool := decide (1 ≤ op ∧ op ≤ 7)

/-- R189 step 5 for the Crucible. -/
def cruFormatBad (d : Desc) : Bool :=
  let o := d.op
  let q := fun (f : Nat) => f == 11 && decide (31 < d.frac)
  decide (o < 1 ∨ 14 < o) ||
  ((o == opIroot || o == opRoot || o == opOrth) && decide (d.iters < 1 ∨ 64 < d.iters)) ||
  ((o == opIroot || o == opRoot) && d.pcode == 0) ||
  ((isSolve o || o == 9 || o == 11) && decide (5 < d.ncode)) ||
  ((o == opChol || o == opLdl || o == opInv) && decide (d.tau ≤ 0)) ||
  (o == 9 && decide (d.beta < 0)) ||
  (o == 11 && decide (d.newF < 16 ∨ 30 < d.newF)) ||
  (o == opTrsm && (decide (d.rhs < 1 ∨ 256 < d.rhs) || !(d.fmt0 == 0 || d.fmt0 == 11) || !(d.fmt2 == 0 || d.fmt2 == 11)
    || q d.fmt0 || q d.fmt2)) ||
  (o == 12 && (!(d.fmt0 == 0 || d.fmt0 == 11) || q d.fmt0)) ||
  (o == 13 && (!(d.fmt2 == 0 || d.fmt2 == 2 || d.fmt2 == 13 || d.fmt2 == 11) || q d.fmt2))

/-- R176: the regions a Crucible operation uses and the extents it needs; images of `IMPORT` and `EXPORT` are checked as
they are met (R480). -/
def cruExtents (d : Desc) : List (Region × Bool × Nat) :=
  let img := fun (f : Nat) => elemBytes (fmtOf f) (d.len0 * d.cruN * d.rhs)
  let list := if d.op = 10 then 16 * d.len0 else if d.op = 14 then 32 * d.len0 else 8 * d.len0
  if d.len0 = 0 then [] else
  [(d.reg1, false, list)] ++ (if d.op = opTrsm then [(d.reg0, false, img d.fmt0), (d.reg2, false, img d.fmt2)] else [])
    ++ (if d.op = 12 then [(d.reg0, false, 0)] else if d.op = 13 then [(d.reg2, false, 0)] else [])

/-! ## Ladle (R143–R160, R175, R478) -/

def Desc.subop (d : Desc) : Nat := bits d.param 0 4
def Desc.racc (d : Desc) : Fmt := if bit d.param 4 then .wa64 else .fp32
def Desc.axis (d : Desc) : Nat := bits d.param 5 2
def Desc.msel (d : Desc) : Nat := bits d.param 7 4
def Desc.mkeep (d : Desc) : Bool := bit d.param 11
def Desc.loc (d : Desc) (k : Nat) : Bool := bit d.param (12 + k)
def Desc.rel (d : Desc) : Bool := bit d.param 15
def Desc.seg (d : Desc) : Nat := d.len1
def Desc.vs1 (d : Desc) : Nat := bits d.len2 0 6
def Desc.vs2 (d : Desc) : Nat := bits d.len2 6 6
def Desc.vdst (d : Desc) : Nat := bits d.len2 12 6
def Desc.kdst (d : Desc) : Nat := bits d.len2 18 3
def Desc.vreg (d : Desc) (k : Nat) : Bool := bit d.len2 (21 + k)

/-- R150: the operation codes. -/
def ldLoad : Nat := 0x01
def ldStore : Nat := 0x02
def ldZero : Nat := 0x03
def ldElem : Nat := 0x10
def ldFunc : Nat := 0x20
def ldReduce : Nat := 0x30
def ldMaskgen : Nat := 0x40
def ldAccread : Nat := 0x50
def ldRms : Nat := 0x60
def ldLayer : Nat := 0x61
def ldOpt : Nat := 0x70
def ldRun : Nat := 0x7F

/-- R143: elements held by one vector register. -/
def perReg (f : Fmt) : Nat := if f = .wa64 then 256 else if f.width = 16 then 1024 else 512

/-- R143: a format that registers hold. -/
def regFmt (code : Nat) : Bool := [0, 1, 2, 3, 10, 11, 13, 14].contains code

/-- An operand or result of a Ladle descriptor: registers from a number on, or a region with its `LOCAL` bit; the format
code the descriptor gives it. -/
inductive Opnd where
  | regs (r : Nat) (fmt : Nat)
  | mem (r : Region) (loc : Bool) (fmt : Nat)
deriving DecidableEq, Repr

/-- R478: the first source, the second source and the result (0, 1, 2). -/
def ldlOpnd (d : Desc) (k : Nat) : Opnd :=
  let inReg : Bool := if d.op = ldLoad then k == 2 else if d.op = ldStore then k == 0
    else if d.op = ldZero then false else d.vreg k
  match k with
  | 0 => if inReg then .regs d.vs1 d.fmt0 else .mem d.reg0 (d.loc 0) d.fmt0
  | 1 => if inReg then .regs d.vs2 d.fmt1 else .mem d.reg1 (d.loc 1) d.fmt1
  | _ => if inReg then .regs d.vdst d.fmt2 else .mem d.reg2 (d.loc 2) d.fmt2

def Opnd.code : Opnd → Nat
  | .regs _ f => f
  | .mem _ _ f => f

/-- How many sources (from 0 on) an operation reads: `LOAD`, unary and functions 1; binary 2; the norms and `OPT` read
their region fields as their rules say. -/
def ldlSources (d : Desc) : Nat :=
  if d.op = ldZero ∨ d.op = ldMaskgen ∨ d.op = ldAccread ∨ d.op = ldRun then 0
  else if d.op = ldElem then (if 6 ≤ d.subop ∧ d.subop ≤ 8 then 1 else 2)
  else if d.op = ldRms ∨ d.op = ldLayer ∨ d.op = ldOpt then 2
  else 1

/-- The operation writes a result operand. -/
def ldlResult (d : Desc) : Bool := !(d.op == ldMaskgen || d.op == ldRun)

/-- R154: elements of one row of the reduced operand. -/
def redRow (d : Desc) : Nat := perReg (fmtOf d.fmt0)

/-- R154: how many results a reduction gives, and the length of one set on axes 0, 2 and 3. -/
def redCount (d : Desc) (row : Nat) : Nat :=
  if d.axis = 0 then ceilDiv d.len0 row
  else if d.axis = 1 then ceilDiv d.len0 (8 * row) * row
  else if d.axis = 2 then 1 else ceilDiv d.len0 d.seg

/-- The elements of the result operand. -/
def ldlResCount (d : Desc) : Nat :=
  if d.op = ldReduce then redCount d (redRow d)
  else if d.op = ldFunc ∧ d.subop = 6 then 2 * d.len0 else d.len0

/-- R477: a region of the operand cache whose format is scaled is a tile-image region. -/
def imageRegion (loc : Bool) (code : Nat) : Bool := loc && (fmtOf code).scaled

/-- The bytes `n` elements of a format need in a region. -/
def ldlNeed (loc : Bool) (code n : Nat) : Nat :=
  if imageRegion loc code then ceilDiv n (fmtOf code).perTile * 18432 else elemBytes (fmtOf code) n

/-- R478: `n` elements held in registers from `r` on run past V63. -/
def pastV63 (r code n : Nat) : Bool := decide (64 < r + ceilDiv n (perReg (fmtOf code)))

/-- R189 step 5 for one operand: its format code and, in memory, its region type. -/
def opndFormatBad (d : Desc) (edge : Bool) (o : Opnd) : Bool :=
  let code := o.code
  let qbad : Bool := match Fmt.ofCode code with | some f => f.isQ && decide (f.width ≤ d.frac) | none => true
  let typeBad : Bool := match o with | .mem r loc _ => !loc && r.type != 0 | .regs _ _ => false
  qbad || typeBad || !(regFmt code || (edge && code ≠ 15))

/-- R189 step 5 for the Ladle. The formats of register sources are their tags', so only their span is checked. -/
def ldlFormatBad (d : Desc) : Bool :=
  let o := d.op
  let src := fun (k : Nat) => match ldlOpnd d k with
    | .regs _ _ => false
    | m => opndFormatBad d (o == ldLoad) m
  ! [ldLoad, ldStore, ldZero, ldElem, ldFunc, ldReduce, ldMaskgen, ldAccread, ldRms, ldLayer, ldOpt, ldRun].contains o ||
  (o == ldElem && decide (9 < d.subop)) || (o == ldFunc && decide (6 < d.subop)) || (o == ldReduce && decide (5 < d.subop)) ||
  decide (1 < d.rnd0) || (o == ldReduce && d.rnd0 == 1) || decide (8 ≤ d.msel ∧ d.msel ≤ 14) ||
  (o == ldElem && d.subop == 9 && d.msel == 15) || (o == ldStore && d.mkeep && (fmtOf d.fmt2).scaled) ||
  (((o == ldReduce && d.axis == 3) || o == ldMaskgen || o == ldRms || o == ldLayer) && decide (d.seg < 1 ∨ 2 ^ 24 < d.seg)) ||
  (List.range (ldlSources d)).any (fun k => (ldlOpnd d k).code == 15 || src k) ||
  (ldlResult d && opndFormatBad d (o == ldStore) (ldlOpnd d 2)) ||
  (o == ldOpt && !(d.fmt1 == 0 && (d.fmt2 == 0 || d.fmt2 == 13))) ||
  (o == ldRun && ([(d.reg0, d.fmt0), (d.reg1, d.fmt1), (d.reg2, d.fmt2)].any (fun x => x.1.bytes != 0 &&
    (!regFmt x.2 || (match Fmt.ofCode x.2 with | some f => f.isQ && decide (f.width ≤ d.frac) | none => true))))) ||
  (o == ldRun && [d.reg0, d.reg1, d.reg2].zipIdx.any (fun x => x.1.bytes != 0 && !d.loc x.2 && x.1.type != 0))

/-- R477: a tile-image region whose base is no multiple of 2,048. -/
def ldlShapeBad (d : Desc) : Bool :=
  let bad := fun (o : Opnd) => match o with
    | .mem r loc code => imageRegion loc code && r.base % 2048 != 0
    | .regs _ _ => false
  (decide (0 < ldlSources d) && bad (ldlOpnd d 0)) || (ldlResult d && bad (ldlOpnd d 2))

/-- The operation reads its scalar block: a masked fill, a norm, an `OPT` or a `MASKGEN`. -/
def readsScalars (d : Desc) : Bool :=
  d.op == ldMaskgen || d.op == ldRms || d.op == ldLayer || d.op == ldOpt ||
  ((d.op == ldElem && d.subop != 9 || d.op == ldFunc || d.op == ldStore || d.op == ldLoad || d.op == ldAccread ||
    d.op == ldZero) && d.msel != 15 && !d.mkeep)

/-- R478: registers named past V63 or K7, and a scalar block past the cache. -/
def ldlBoundsBad (d : Desc) : Bool :=
  let past := fun (o : Opnd) (n : Nat) => match o with
    | .regs r code => pastV63 r code n
    | .mem _ _ _ => false
  let idx := if d.op = ldReduce ∧ 4 ≤ d.subop then ceilDiv (ldlResCount d) 512 * 512 else 0
  d.len0 != 0 &&
  (((List.range (ldlSources d)).any (fun k => past (ldlOpnd d k) (if k = 1 ∧ d.op = ldRms then d.seg else if k = 1 ∧ d.op = ldLayer then 2 * d.seg else d.len0))) ||
   (ldlResult d && (match ldlOpnd d 2 with
     | .regs r code => decide (64 < r + ceilDiv (ldlResCount d) (perReg (fmtOf code)) + idx / 512)
     | .mem _ _ _ => false)) ||
   (d.op == ldMaskgen && decide (8 < d.kdst + d.len0 * ceilDiv d.seg 512)) ||
   (readsScalars d && bit d.scaleWord 25 && decide (2 ^ 25 < bits d.scaleWord 0 25 * 64 + 64)))

/-- R189 step 9: the extents a Ladle operation needs. The working copy of `OPT` has the format its scalar block names,
so only the master is checked here. -/
def ldlExtents (d : Desc) : List (Region × Bool × Nat) :=
  let ext := fun (o : Opnd) (n extra : Nat) => match o with
    | .mem r loc code => [(r, loc, if extra = 0 then ldlNeed loc code n else ceilDiv (ldlNeed loc code n) 16 * 16 + extra)]
    | .regs _ _ => []
  if d.len0 = 0 then [] else
  if d.op = ldRun then ([d.reg0, d.reg1, d.reg2].zipIdx.filter (fun x => x.1.bytes != 0)).map (fun x => (x.1, d.loc x.2, 0)) else
  (List.range (ldlSources d)).flatMap (fun k => ext (ldlOpnd d k)
    (if k = 1 ∧ d.op = ldRms then d.seg else if k = 1 ∧ d.op = ldLayer then 2 * d.seg else d.len0) 0) ++
  (if ldlResult d then ext (ldlOpnd d 2) (ldlResCount d)
    (if d.op = ldReduce ∧ 4 ≤ d.subop then 4 * ldlResCount d else 0) else [])

/-! ## Runners (R238, R239, R326, R345, R368, R375, R479) -/

def Desc.tiles (d : Desc) : Bool := bit d.param 3
def Desc.all (d : Desc) : Bool := bit d.param 4
def Desc.stamp (d : Desc) : Bool := bit d.param 5
/-- The `LOCAL` bits of a Runner descriptor. -/
def Desc.rloc (d : Desc) (k : Nat) : Bool := bit d.param k && decide (d.op ≤ 6)

/-- The operation codes of the Runners. -/
def rnCopy : Nat := 1
def rnFill : Nat := 2
def rnGather : Nat := 3
def rnScatter : Nat := 4
def rnPrefetch : Nat := 5
def rnInval : Nat := 6
def rnColl : Nat := 0x10
def rnNcheck : Nat := 0x11
def rnVote : Nat := 0x12
def rnSeal : Nat := 0x13
def rnRiser : Nat := 0x14
def rnJappend : Nat := 0x15

/-- R239: a tile-mode copy that converts. -/
def Desc.converts (d : Desc) : Bool := d.op == rnCopy && d.tiles && d.fmt0 != d.fmt2

/-- The bytes of `n` tiles in a region: with their sidecars in the operand cache (R477). -/
def tileSpan (loc : Bool) (n : Nat) : Nat := n * (if loc then 18432 else 16384)

/-- R189 step 5 for the Runners. F of a Q operand or result lies in its width (R173), but for the source of a conversion, whose
header has its F (R239). -/
def runFormatBad (d : Desc) : Bool :=
  let o := d.op
  let q := fun (f : Nat) => (fmtOf f).isQ && decide ((fmtOf f).width ≤ d.frac)
  ! [rnCopy, rnFill, rnGather, rnScatter, rnPrefetch, rnInval, rnColl, rnNcheck, rnVote, rnSeal, rnRiser, rnJappend].contains o ||
  (o == rnCopy && !d.tiles && (d.len0 % 16 != 0 || d.fmt0 != d.fmt2)) ||
  ((o == rnCopy || o == rnColl) && (d.fmt0 == 15 || d.fmt2 == 15 || q d.fmt2 || (q d.fmt0 && !d.converts))) ||
  (o == rnFill && !d.tiles && !d.all && d.len0 % 16 != 0) ||
  (o == rnVote && d.aux16 == 0) ||
  (o == rnJappend && (decide (4028 < d.len0) || decide (d.len1 % 2 ^ 16 < 0x8000)))

/-- R238, R477: a tile-mode base that is not aligned; rows of different lengths in a `GATHER` or `SCATTER`. -/
def runShapeBad (d : Desc) : Bool :=
  let bad := fun (r : Region) (loc : Bool) => r.base % (if loc then 2048 else 16384) != 0
  let tile := (d.tiles && decide (d.op ≤ 6)) || d.op == rnPrefetch || d.op == rnInval
  let first := tile && d.op != rnFill
  let last := tile && (d.op == rnCopy || d.op == rnFill || d.op == rnGather || d.op == rnScatter)
  d.len0 != 0 &&
  ((first && bad d.reg0 (d.rloc 0)) || (last && !(d.op == rnFill && d.all) && bad d.reg2 (d.rloc 2)) ||
   ((d.op == rnGather || d.op == rnScatter) && d.reg0.rowBytes != d.reg2.rowBytes)) ||
  ((d.op == rnSeal || d.op == rnRiser) && bad d.reg0 false) || (d.op == rnRiser && bad d.reg1 false)

/-- R189 step 9 for the Runners. -/
def runExtents (d : Desc) : List (Region × Bool × Nat) :=
  let o := d.op
  if o = rnNcheck then [(d.reg0, false, 64), (d.reg1, false, 4), (d.reg2, false, 4)]
  else if o = rnVote then [(d.reg0, false, 4), (d.reg2, false, 4)]
  else if o = rnSeal then [(d.reg0, false, 0), (d.reg1, false, 64)]
  else if o = rnRiser then [(d.reg0, false, 0), (d.reg1, false, 0)]
  else if d.len0 = 0 ∨ (o = rnFill ∧ d.all) then []
  else if o = rnJappend then [(d.reg0, false, d.len0)]
  else if o = rnCopy then
    if d.tiles then
      [(d.reg0, d.rloc 0, tileSpan (d.rloc 0) d.len0),
       (d.reg2, d.rloc 2, tileSpan (d.rloc 2) (if d.converts then ceilDiv (d.len0 * (fmtOf d.fmt0).perTile) (fmtOf d.fmt2).perTile else d.len0))]
    else [(d.reg0, d.rloc 0, d.len0), (d.reg2, d.rloc 2, d.len0)]
  else if o = rnFill then [(d.reg2, d.rloc 2, d.len0)]
  else if o = rnGather then [(d.reg0, d.rloc 0, 0), (d.reg1, d.rloc 1, 4 * d.len0), (d.reg2, d.rloc 2, d.len0 * d.reg0.rowBytes)]
  else if o = rnScatter then [(d.reg0, d.rloc 0, d.len0 * d.reg0.rowBytes), (d.reg1, d.rloc 1, 4 * d.len0), (d.reg2, d.rloc 2, 0)]
  else if o = rnColl then [(d.reg0, false, elemBytes (fmtOf d.fmt0) d.len0), (d.reg2, false, 0)]
  else [(d.reg0, false, tileSpan false d.len0)]

end Sys2Proof.Machine
end

