-- ==== Sys2Proof/Machine/IssueChecks.lean ====
section
/-!
DEFINITION. Machine/IssueChecks.lean: the checks each engine chapter adds to the Sprue's own at issue (R189 steps 2, 5, 8,
9): pairing of the tap (TAP_UNPAIRED), field values (FORMAT), shapes (SHAPE) and extents (BOUNDS).
-/
namespace Sys2Proof.Machine

open Sys2Proof

/-! ## The tap (R91) -/

/-- The pairs of core `c`. -/
def pairs (s : State) (c : Nat) : List Pair := (s.core c).asy.pairs

/-- R91: the `COV` not yet paired. -/
def openCov (s : State) (c : Nat) : Option Pair := (pairs s c).find? (fun p => p.mat.isNone)

/-- R91: a tapped `MATMUL` without an unpaired `COV` ahead of it, or a `COV` while another is unpaired. -/
def pairingBad (s : State) (c : Nat) (d : Desc) : Bool :=
  (d.tap && (openCov s c).isNone) || (d.engine == 2 && d.op == 1 && (openCov s c).isSome)

/-- The pairs of core `c` changed. -/
def modPairs (s : State) (c : Nat) (f : List Pair → List Pair) : State :=
  s.modCore c (fun x => { x with asy := { x.asy with pairs := f x.asy.pairs } })

/-- R91: pairing of an issued descriptor, skipped ones too. A `MATMUL` paired with a skipped `COV` runs untapped; one
that is skipped or has nothing to do leaves its `COV` without rows, and so does one whose K takes the blocks of its `COV` past unit
191: the `COV`, whose blocks are known only now, is then rejected (R95, log entry 99). -/
def notePairing (s : State) (c : Nat) (i : Iss) : State :=
  let d := i.desc
  if d.engine = 2 ∧ d.op = 1 then modPairs s c (fun ps => ps ++ [{ cov := i }])
  else if d.tap then
    modPairs s c (fun ps => (ps.map (fun p =>
      if p.mat.isSome then p
      else
        let past := decide (192 < p.cov.desc.slotBase + ceilDiv d.len2 p.cov.desc.blk * blkUnits p.cov.desc.blk)
        let none := i.skip || mouldEmpty d
        { p with mat := some i.seq, noRows := none || past, past := past && !none, kLen := d.len2,
                 space := if none || past then 0 else capBytes (sampledRows p.cov.desc d.len0) d.len2 })).filter
      (fun p => !(p.cov.skip && p.mat == some i.seq)))
  else s

/-! ## Checks by engine -/

/-- R34, R326: a defined group entry carries a reduction format that is neither FP32 nor WA64. -/
def groupFormatBad (s : State) (g : Nat) : Bool :=
  let e := sget 0 s.col.grp g
  bit e 0 && !(bits e 8 4 == 0 || bits e 8 4 == 14)

/-- R189 step 5: the field values an engine rejects with FORMAT: the reserved rounding modes (R49), and those of its chapter. -/
def engineFormatBad (s : State) (_c : Nat) (d : Desc) : Bool :=
  (decide (1 ≤ d.engine ∧ d.engine ≤ 5) && decide (1 < d.rnd0)) ||
  (d.engine == 5 && d.op == rnColl && groupFormatBad s (d.param % 1024)) ||
  match d.engine with
  | 1 => mouldFormatBad d
  | 2 => asyFormatBad d
  | 3 => cruFormatBad d
  | 4 => ldlFormatBad d
  | 5 => runFormatBad d
  | _ => false

/-- R189 step 8: the shape rules of an engine: the output of a held `MATMUL` of more than one round (R67), a capture above
16 MiB (R92), and alignments. -/
def engineShapeBad (s : State) (c : Nat) (d : Desc) : Bool :=
  match d.engine with
  | 1 => d.op == 1 && !mouldEmpty d &&
      ((d.drainHold && decide (1 < (mgeo d).rounds)) ||
       (d.tap && (openCov s c).any (fun p => !p.cov.skip &&
          decide (2 ^ 24 < capBytes (sampledRows p.cov.desc d.len0) d.len2))))
  | 4 => ldlShapeBad d
  | 5 => runShapeBad d
  | _ => false

/-- R189 step 9: the regions an operation uses, each with whether its LOCAL bit is set and the extent it needs. -/
def engineExtents (_s : State) (_c : Nat) (d : Desc) : List (Region × Bool × Nat) :=
  match d.engine with
  | 1 => mouldExtents d
  | 2 => asyExtents d
  | 3 => cruExtents d
  | 4 => ldlExtents d
  | 5 => runExtents d
  | _ => []

/-- R252: the regions of a descriptor that are read or written in tile mode, or hold an engine's tile operands. -/
def windowRegions (d : Desc) : List Region :=
  match d.engine with
  | 1 => if d.op = 1 then [d.reg0, d.reg1, d.reg2] else []
  | 2 => if d.op = 2 then [d.reg2] else if d.op = 3 ∨ d.op = 4 then [d.reg0] else []
  | 3 => if d.op = opTrsm then [d.reg0, d.reg2] else if d.op = 12 then [d.reg0] else if d.op = 13 then [d.reg2] else []
  | 5 =>
    if d.op = rnCopy ∧ d.tiles then (if d.rloc 0 then [] else [d.reg0]) ++ (if d.rloc 2 then [] else [d.reg2])
    else if d.op = rnPrefetch ∨ d.op = rnSeal then [d.reg0]
    else if d.op = rnRiser then [d.reg0, d.reg1]
    else if d.op = rnColl then [d.reg0, d.reg2] else []
  | _ => []

/-- R252: a region of HBM that leaves the tile window. -/
def outsideWindow (s : State) (r : Region) : Bool :=
  r.type == 1 && r.bytes != 0 &&
  decide (((s.reg HBM.TILEWIN * 16384 : Nat) : Int) < r.base + ((r.rows - 1) * r.rowStride * 16 + r.rowBytes : Nat))

/-- R189 step 9: the counts an engine rejects with BOUNDS: slot units past 191, more than 1,024 problems (R116),
registers past V63 or K7 (R478), and a tile region outside the tile window (R252). -/
def engineBoundsBad (s : State) (_c : Nat) (d : Desc) : Bool :=
  (windowRegions d).any (outsideWindow s) ||
  match d.engine with
  | 2 => asyBoundsBad d
  | 3 => isSolve d.op && decide (1024 < d.len0)
  | 4 => ldlBoundsBad d
  | _ => false

end Sys2Proof.Machine
end

