-- ==== Sys2Proof/Machine/Sprue.lean ====
section
/-!
DEFINITION. Machine/Sprue.lean: chapter 07: fetching, issuing and completing descriptors, tokens, predicates, loops, the
Sprue operations, halts and records. Releasing a descriptor to its engine is in Machine/Release.lean.
-/
namespace Sys2Proof.Machine

open Sys2Proof

/-! ## Descriptors (R173, R174) -/

/-- R174: a region descriptor. -/
def Region.parse (b : List Byte) : Region :=
  let n := leNat (slice b 0 16)
  { base := (bits n 0 48 : Nat), type := bits n 48 2, rtype := bits n 50 2, dev := bits n 52 4,
    rowBytes := bits n 64 20, rows := bits n 84 24, rowStride := bits n 108 20 }

/-- R173: a wait word. -/
def Wait.parse (w : Nat) : Wait := { id := bits w 0 12, consume := bit w 12, thresh := bits w 16 16 }

/-- R173: a signal word. -/
def Sig.parse (w : Nat) : Sig :=
  { id := bits w 0 12, valid := bit w 12, remote := bit w 13, cond := bits w 14 2, dev := bits w 16 4,
    core := bits w 20 2 }

/-- R173: a loop-stride word. -/
def LStr.parse (w : Nat) : LStr :=
  { level := bits w 0 2, target := bits w 2 2, valid := bit w 4, shift := bits w 5 3,
    stride := toSigned 24 (bits w 8 24) }

/-- R173: the fields of a descriptor's 128 bytes. -/
def Desc.parse (b : List Byte) : Desc :=
  let w0 := fieldAt b 0 4
  let w1 := fieldAt b 4 4
  { engine := bits w0 0 4, op := bits w0 4 8, predIdx := bits w0 12 6, predPol := bit w0 18, predEn := bit w0 19,
    pattern := bits w0 20 12, fmt0 := bits w1 0 4, fmt1 := bits w1 4 4, fmt2 := bits w1 8 4, rnd0 := bits w1 12 2,
    rnd1 := bits w1 14 2, passes := bits w1 16 2, frac := bits w1 18 6, irq := bit w1 24,
    waits := [0x08, 0x0C, 0x10, 0x14].map (fun o => Wait.parse (fieldAt b o 4)),
    sigs := [0x18, 0x1C].map (fun o => Sig.parse (fieldAt b o 4)),
    lstrs := [0x20, 0x24].map (fun o => LStr.parse (fieldAt b o 4)),
    len0 := fieldAt b 0x28 4, len1 := fieldAt b 0x2C 4, len2 := fieldAt b 0x30 4, scaleWord := fieldAt b 0x34 4,
    w38 := fieldAt b 0x38 8, reg0 := Region.parse (slice b 0x40 16), reg1 := Region.parse (slice b 0x50 16),
    reg2 := Region.parse (slice b 0x60 16), baseElem := (fieldAt b 0x70 6 : Nat), aux16 := fieldAt b 0x76 2,
    param := fieldAt b 0x78 4 }

/-- R195's status codes that the Sprue and the shared operations use. -/
def stOk : Nat := 0x00
def stSkipped : Nat := 0x01
def stDescCrc : Nat := 0x10
def stFormat : Nat := 0x11
def stBounds : Nat := 0x12
def stShape : Nat := 0x13
def stTapUnpaired : Nat := 0x14
def stEngineAbsent : Nat := 0x15
def stLoopNest : Nat := 0x16
def stTokenRange : Nat := 0x17
def stPatternAbsent : Nat := 0x18
def stPatternBad : Nat := 0x19
def stPatUnsigned : Nat := 0x1A
def stCorePromoted : Nat := 0x1B

/-! ## The ring, loops and the window (R168, R185) -/

/-- R168: the slots of the ring of core `c`. -/
def ringSize (s : State) (c : Nat) : Nat := 2 ^ s.fld SPR.RING_BASE_SIZE c

/-- R198: the ring size field is legal. -/
def ringOk (s : State) (c : Nat) : Bool := decide (6 ≤ s.fld SPR.RING_BASE_SIZE c ∧ s.fld SPR.RING_BASE_SIZE c ≤ 16)

/-- Slots from `a` up to `b` in the ring of core `c`. -/
def ringDist (s : State) (c a b : Nat) : Nat := (b + ringSize s c - a % ringSize s c) % ringSize s c

/-- The 128 bytes of ring slot `i`: its place and the status of the read. -/
def readSlot (s : State) (c i : Nat) : List Byte × Nat × State :=
  let a := s.fld SPR.RING_BASE_ADDR c + 128 * i
  let (b, st, s) := readChunk s (if s.fld SPR.RING_BASE_TYPE c = 1 then .hbm else .tun) a 128
  let (b, s) := acrossBridge s c (memCasting (s.fld SPR.RING_BASE_TYPE c) a) b
  (b, st, s)

/-- R186: the loop registers and the depth field show the loops in force, innermost first. -/
def showLoops (s : State) (c : Nat) : State :=
  let ls := (s.core c).spr.loops
  let s := (List.range 4).foldl (fun s k =>
    (s.setReg SPR.LOOP_IDX ((ls[k]?.map Loop.idx).getD 0) c k).setReg SPR.LOOP_CNT ((ls[k]?.map Loop.count).getD 0) c k) s
  s.setFld SPR.STATE_DEPTH ls.length c

/-- R168: `RING_FREE` is the first body slot of the outermost loop, else `RING_HEAD`. -/
def showFree (s : State) (c : Nat) : State :=
  match (s.core c).spr.loops.getLast? with
  | some l => s.setReg SPR.RING_FREE l.body c
  | none => s.setReg SPR.RING_FREE (s.reg SPR.RING_HEAD c) c

/-- R185: at the end of a loop body: the next pass from its first slot, or the loop ends and the enclosing one is
looked at. The head to issue next and the loops in force. -/
def loopEnd (size : Nat) : List Loop → Nat → List Loop × Nat × Bool
  | [], h => ([], h, false)
  | l :: ls, h =>
    if (h + size - l.body % size) % size = l.len then
      if l.idx + 1 < l.count then ({ l with idx := l.idx + 1 } :: ls, l.body, true)
      else let (r, h, _) := loopEnd size ls h; (r, h, true)
    else (l :: ls, h, false)

/-- R170, R185: the descriptor at `RING_HEAD` and `n − 1` after it are passed. A jump empties the window, so that every
pass of a loop body is fetched afresh. -/
def advance (s : State) (c n : Nat) : State :=
  let size := ringSize s c
  let h := (s.reg SPR.RING_HEAD c + n) % size
  let (ls, h', jump) := loopEnd size (s.core c).spr.loops h
  let s := s.modSpr c (fun p => { p with
    loops := ls, window := if jump || n != 1 then [] else p.window.drop 1, passHead := false })
  showFree (showLoops (s.setReg SPR.RING_HEAD h' c) c) c

/-! ## Tokens (R178–R180) -/

/-- R178, R179: what a change makes of a counter; a signal leaves 0xFFFF as it is. -/
def Fresh.on (x : Fresh) (v : Nat) : Nat :=
  match x.val with
  | some w => w % 2 ^ 16
  | none => min 0xFFFF (v + 1)

/-- R179: the order in which changes apply: by ck, and in one ck the signals before the set that replaces their result. -/
def Fresh.key (x : Fresh) : Nat := 2 * x.ck + b2n x.val.isSome

/-- R179: a counter of core `c` with those of its changes that a test picks. -/
def tokenWith (s : State) (c id : Nat) (f : Fresh → Bool) : Nat :=
  ((s.core c).spr.fresh.filter (fun x => x.id == id && f x)).foldl (fun v x => x.on v) (sget 0 (s.core c).spr.tokens id)

/-- R178, R179: the counter of core `c` in this ck. -/
def State.token (s : State) (c id : Nat) : Nat := tokenWith s c id (fun x => decide (x.ck < s.ck))

/-- R179: the changes of earlier ck enter the counters of core `c`. -/
def settleTokens (s : State) (c : Nat) : State :=
  s.modSpr c (fun p => { p with
    tokens := p.fresh.foldl (fun m x => if x.ck < s.ck then sset 0 m x.id (x.on (sget 0 m x.id)) else m) p.tokens
    fresh := p.fresh.filter (fun x => decide (s.ck ≤ x.ck)) })

/-- R179: a change that the counter holds from the ck after `t`. -/
def putToken (s : State) (c id t : Nat) (val : Option Nat) : State :=
  let x : Fresh := { id := id, ck := t, val := val }
  (settleTokens s c).modSpr c (fun p => { p with
    fresh := p.fresh.filter (fun y => decide (y.key ≤ x.key)) ++ x :: p.fresh.filter (fun y => !decide (y.key ≤ x.key)) })

/-- R179: a `TOKSET` or a counter write that takes effect in ck `t`. -/
def setToken (s : State) (c id t v : Nat) : State := putToken s c id t (some (v % 2 ^ 16))

/-- R179: `k` taken from a counter in this ck. -/
def spendToken (s : State) (c id k : Nat) : State :=
  (settleTokens s c).modSpr c (fun p => { p with tokens := sset 0 p.tokens id (sget 0 p.tokens id - k) })

/-- R178, R179: a signal delivered in ck `t` adds 1; at 0xFFFF the counter stays and source 7 is raised. -/
def signalToken (s : State) (c id t : Nat) : State :=
  if tokenWith s c id (fun x => decide (x.key ≤ 2 * t)) = 0xFFFF then raise .spr c 7 s
  else
    let s := putToken s c id t none
    if s.locked && decide (s.fitTick ≤ t) then s.modSpr c (fun p => { p with late := sset 0 p.late id (sget 0 p.late id + 1) }) else s

/-- R178: a wait is satisfied. -/
def waitOk (s : State) (c : Nat) (w : Wait) : Bool := w.thresh == 0 || decide (w.thresh ≤ s.token c w.id)

/-- Every wait of a descriptor is satisfied. -/
def waitsOk (s : State) (c : Nat) (d : Desc) : Bool := d.waits.all (waitOk s c)

/-- R171, R178: the consumes of a descriptor. -/
def consume (s : State) (c : Nat) (d : Desc) : State :=
  d.waits.foldl (fun s w => if w.consume && w.thresh != 0 then spendToken s c w.id w.thresh else s) s

/-- R171, R179: the first ck, this one or one in which a change already made enters a counter, in which the waits of a
descriptor are satisfied. -/
def waitsFrom (s : State) (c : Nat) (d : Desc) : Option State :=
  let ts := ((s.core c).spr.fresh.map (fun x => x.ck + 1)).filter (fun t => decide (s.ck < t))
  ((s.ck :: ts.mergeSort (fun a b => decide (a ≤ b))).find? (fun t => waitsOk { s with ck := t } c d)).map s.upTo

/-- R173, R190, R195: a signal fires at a status: `COND` 0 always, 1 on OK or SKIPPED, 2 on any other. -/
def sigFires (sg : Sig) (status : Nat) : Bool :=
  sg.valid && (sg.cond == 0 || (sg.cond == 1 && decide (status ≤ 1)) || (sg.cond == 2 && decide (1 < status)))

/-- R180: one signal delivered: in the counter from the next ck on the same core, 64 ck later on another core, as a TC0 `TOKEN` message to a
remote device. -/
def fireSig (s : State) (c : Nat) (sg : Sig) : State :=
  if sg.remote then
    sendMsg s 0 0x10 (s.fld SPR.RDEV_DEST c sg.dev) false (sg.id + sg.core * 2 ^ 12) []
  else if sg.core = c then signalToken s c sg.id s.ck
  else s.modSpr sg.core (fun p => { p with sigDue := p.sigDue ++ [(s.ck + 63, sg.id)] })

/-- The signals of a descriptor at a status. -/
def fireSigs (s : State) (c : Nat) (d : Desc) (status : Nat) : State :=
  d.sigs.foldl (fun s sg => if sigFires sg status then fireSig s c sg else s) s

/-! ## Completion records (R194) -/

/-- R194: the 64 bytes of a completion record. -/
def recordBytes (i : Iss) (status : Nat) (fl : Flags) (word frame wait run : Nat) : List Byte :=
  leBytes 4 i.seq ++ leBytes 4 (i.slot % 2 ^ 16 + i.desc.engine * 2 ^ 16 + i.desc.op * 2 ^ 20) ++
  leBytes 4 (status + fl.bits) ++
  leBytes 4 (satN 32 fl.under) ++ leBytes 4 (satN 32 fl.sat) ++ zeros 4 ++ leBytes 8 word ++
  leBytes 8 (frame % 2 ^ 48) ++ leBytes 4 (satN 32 wait) ++ leBytes 4 (satN 32 run) ++
  (List.range 4).flatMap (fun k => leBytes 4 (i.loopIdx.getD k 0))

/-- R194: the completion ring of core `c` is full, or its size field is outside 4–16. -/
def cplFull (s : State) (c : Nat) : Bool :=
  let l := s.fld SPR.CPL_BASE_SIZE c
  decide (l < 4 ∨ 16 < l) ||
    (s.reg SPR.CPL_TAIL c + 2 ^ l - s.reg SPR.CPL_HEAD c % 2 ^ l) % 2 ^ l == 2 ^ l - 1

/-- R194: one record written into the completion ring, or dropped and counted when the ring is full. `irq`: a record that is
written raises source 10 (R173, R199). -/
def writeRecord (s : State) (c : Nat) (i : Iss) (status : Nat) (fl : Flags) (word wait run : Nat) (irq : Bool) : State :=
  if cplFull s c then raise .spr c 8 (s.bump SPR.CPL_LOST 1 c)
  else
    let l := s.fld SPR.CPL_BASE_SIZE c
    let t := s.reg SPR.CPL_TAIL c
    let s := tunWrite s (s.fld SPR.CPL_BASE_ADDR c + 64 * t) (recordBytes i status fl word s.frame wait run)
    let s := s.setReg SPR.CPL_TAIL ((t + 1) % 2 ^ l) c
    if irq && i.desc.irq then raise .spr c 10 s else s

/-- R417: the strobe of descriptor completion pulses when its source is selected (Machine/Power.lean shows the land). -/
def strobeSeq (s : State) (c : Nat) (seq : Nat) : State :=
  if s.fld PWR.PIN_CTRL_STROBE_SRC = 1 ∧ s.fld PWR.PIN_CTRL_STROBE_CORE = c ∧ s.reg PWR.STROBE_SEQ = seq then strobe s
  else s

/-! ## Fetch (R169) -/

/-- R169, R404: how many times the CRC check of the next descriptor fails, injections included. -/
def fetchOne (s : State) (c slot : Nat) : WinEnt × State :=
  let (inj, s) := s.injFails SPR.INJ_DESC_CRC1 SPR.INJ_DESC_CRC2 c
  let (b, _, s) := readSlot s c slot
  let good := crc32c (b.take 0x7C) == fieldAt b 0x7C 4
  if inj = 0 && good then ({ slot := slot, desc := Desc.parse b, bad := false }, s)
  else
    let (b, _, s) := readSlot s c slot
    let good := crc32c (b.take 0x7C) == fieldAt b 0x7C 4
    ({ slot := slot, desc := Desc.parse b, bad := inj == 2 || !good }, s)

/-- `n` descriptors fetched from slot `slot` on. -/
def fetchGroup (s : State) (c : Nat) : Nat → Nat → State
  | 0, _ => s
  | n + 1, slot =>
    let (e, s) := fetchOne s c slot
    fetchGroup (s.modSpr c (fun p => { p with window := p.window ++ [e] })) c n ((slot + 1) % ringSize s c)

/-- R170: the issued form of the descriptor at `RING_HEAD`: its sequence number, which the register then passes, its
slot and the loop indices in force. -/
def stamp (s : State) (c : Nat) (d : Desc) : Iss × State :=
  let q := s.reg SPR.SEQ c
  ({ seq := q, slot := s.reg SPR.RING_HEAD c, desc := d, key := BitVec.ofNat 64 (s.reg SPR.JOB_SEED c),
     issueCk := s.ck, frame := s.frame, snap := if d.engine = 1 then s.reg MLD.CTRL c else 0, loopIdx := (s.core c).spr.loops.map Loop.idx },
   s.setReg SPR.SEQ ((q + 1) % 2 ^ 32) c)

/-- R169: the stream meets a descriptor whose CRC failed twice at `RING_HEAD`: its record is written with `DESC_CRC`,
source 4 is raised, and the stream halts there whatever the source's severity. -/
def descCrc (s : State) (c : Nat) (d : Desc) : State :=
  let (i, s) := stamp s c d
  let s := writeRecord s c i stDescCrc {} 0 0 0 false
  let s := raiseFor .spr c 4 stDescCrc i.seq s
  haltStream (s.modSpr c (fun p => { p with window := [] })) c stDescCrc .spr c i.seq

/-- The stream of core `c` may work: RUNNING, its page ON. -/
def streamOn (s : State) (c : Nat) : Bool := s.stream c == stRunning && s.pageOn .spr c

/-- R208: the stream of core `c` may issue a Sprue descriptor: none issues in an idle frame. -/
def streamRuns (s : State) (c : Nat) : Bool := streamOn s c && !s.idleFrame

/-- DESC_FETCH (R169). A group of up to 8 descriptors enters the window when 8 entries are free; a bad one that is next
to issue ends the stream there. -/
def execDescFetch (c : Core) (s : State) : Host.Outcome State Fault Refusal :=
  let w := (s.core c).spr.window
  let n := min 8 (ringDist s c ((s.reg SPR.RING_HEAD c + w.length) % ringSize s c) (s.reg SPR.RING_TAIL c))
  if streamOn s c && decide (w.length + 8 ≤ 64) && decide (0 < n) then
    let s := fetchGroup s c n ((s.reg SPR.RING_HEAD c + w.length) % ringSize s c)
    match (s.core c).spr.window with
    | e :: _ => if e.bad && !(s.core c).spr.passHead then .next (descCrc s c e.desc) else .next s
    | [] => .next s
  else .next s

/-! ## Checks at issue (R189) -/

/-- R173, R176: the loop strides applied; `none` where a level names a loop not in force (R186). -/
def applyStrides (ls : List Loop) (d : Desc) : Option Desc :=
  d.lstrs.foldl (fun od x =>
    match od with
    | none => none
    | some d =>
      if !x.valid then some d else
      match ls[x.level]? with
      | none => none
      | some l =>
        let add : Int := (l.idx : Int) * x.stride * (4 ^ x.shift : Nat)
        some (match x.target with
        | 0 => { d with reg0 := { d.reg0 with base := d.reg0.base + add } }
        | 1 => { d with reg1 := { d.reg1 with base := d.reg1.base + add } }
        | 2 => { d with reg2 := { d.reg2 with base := d.reg2.base + add } }
        | _ => { d with baseElem := d.baseElem + add })) (some d)

/-- R174: a region whose fields are illegal: an address or a row length that is no multiple of 16, a pitch below the
row, or a remote memory type 2–3. -/
def Region.formatBad (r : Region) : Bool :=
  !(r.rows == 0 && r.rowBytes == 0) &&
  (r.base % 16 != 0 || r.rowBytes % 16 != 0 || (decide (1 < r.rows) && decide (r.rowStride * 16 < r.rowBytes)) ||
   (r.type == 3 && decide (2 ≤ r.rtype)))

/-- R176: a region that fails its bounds for an extent. -/
def Region.boundsBad (s : State) (c : Nat) (r : Region) (loc : Bool) (need : Nat) : Bool :=
  let last : Int := r.base + ((r.rows - 1) * r.rowStride * 16 + r.rowBytes : Nat) - 1
  !(r.rows == 0 && r.rowBytes == 0 && need == 0) &&
  (decide (r.base < 0) || decide ((2 ^ 48 : Nat) ≤ r.base) || decide ((2 ^ 48 : Nat) ≤ last) ||
   decide ((memBytes s (r.place c loc) : Int) ≤ last) || decide (r.bytes < need))

/-- R180: a signal whose target is illegal: `COND` 3, a `DEV` without `VALID`, an absent core. -/
def sigBad (s : State) (c : Nat) (g : Sig) : Bool :=
  g.valid && (g.cond == 3 || (g.remote && !s.flag SPR.RDEV_VALID c g.dev) || (!g.remote && !s.present g.core))

/-- R182: the highest token ID a descriptor names. -/
def tokenBad (s : State) (c : Nat) (d : Desc) : Bool :=
  let lim := s.fld SPR.TOK_LIMIT_LIM c
  d.waits.any (fun w => w.thresh != 0 && decide (lim ≤ w.id)) ||
  d.sigs.any (fun g => g.valid && decide (lim ≤ g.id)) ||
  (d.engine == 0 && d.op == 5 && d.len1 != 0 && decide (lim < min (d.len0 % 4096 + d.len1) 4096))

/-- R187, R185: field values of Sprue operations rejected with FORMAT. -/
def sprueFormatBad (d : Desc) : Bool :=
  decide (8 < d.op) || (d.op == 1 && decide (d.len1 < 1 ∨ 1024 < d.len1))

/-- R186: a `LOOP` too deep, or one whose body runs past the end of the enclosing body. -/
def loopNestBad (s : State) (c : Nat) (d : Desc) : Bool :=
  d.engine == 0 && d.op == 1 &&
  (let ls := (s.core c).spr.loops
   decide (4 ≤ ls.length) ||
   (match ls.head? with
    | none => false
    | some l => decide (l.len < ringDist s c l.body (s.reg SPR.RING_HEAD c) + 1 + d.len1)))

/-- R189 step 9 for a Sprue descriptor: the word or image region 0 holds, and the range of a `TOKSET`. -/
def sprueBoundsBad (s : State) (c : Nat) (d : Desc) : Bool :=
  if d.op = 3 ∨ (d.op = 1 ∧ bit d.param 0) then d.reg0.boundsBad s c false 4
  else if d.op = 6 then d.reg0.boundsBad s c false 64
  else if d.op = 5 then decide (4096 < d.len0 % 4096 + d.len1)
  else false

/-- R189 step 1: the engine is present in the grade. -/
def engineThere (s : State) (_c e : Nat) : Bool := e == 0 || bit (s.reg GRD.GRD_ENGINES) (e - 1)

/-- R196: the slot a user pattern ID is mapped to. -/
def patSlot (s : State) (c id : Nat) : Option Nat :=
  let b := bits (s.reg SPR.PAT_MAP c ((id - 256) / 4)) (8 * ((id - 256) % 4)) 8
  if bit b 7 then some (b % 64) else none

/-- R196: the engine a mapped pattern is for: bits [27:24] of its image, kept with its words. -/
def patEngine (s : State) (c slot : Nat) : Nat := sget 0 (s.core c).spr.pat (2 ^ 20 + slot) / 2 ^ 8

/-- R189 step 6: a pattern that is not there or is for another engine. Vendor IDs are marked in `VPAT_PRESENT`, and the engine of
each is a free value, since the spec gives the ROM no layout (log entry 35); ID 0
selects the built-in sequencing, but in a Ladle `RUN`, which names a pattern. -/
def patternBad (s : State) (c : Nat) (d : Desc) : Bool :=
  if d.engine = 0 ∨ (d.pattern = 0 ∧ ¬ (d.engine = 4 ∧ d.op = ldRun)) then false
  else if d.pattern < 256 then
    !bit (s.reg SPR.VPAT_PRESENT c (d.pattern / 32)) (d.pattern % 32) || Config.vendorEngine d.pattern != d.engine
  else match patSlot s c d.pattern with
    | none => true
    | some k => patEngine s c k != d.engine

/-- R174: the regions a descriptor uses. -/
def usedRegions (s : State) (c : Nat) (d : Desc) : List Region :=
  if d.engine = 0 then (if d.op = 3 ∨ d.op = 6 ∨ (d.op = 1 ∧ bit d.param 0) then [d.reg0] else [])
  else (engineExtents s c d).map Prod.fst

/-- The outcome of the checks at issue: the descriptor runs, is skipped, or is rejected with a status. -/
inductive Verdict where
  | run
  | skip
  | reject (status : Nat)
deriving DecidableEq, Repr

/-- R189: the checks, in order; the first failure is reported. `d` has its strides applied; `strideOk` is false where a
stride named a loop not in force. -/
def checkDesc (s : State) (c : Nat) (d : Desc) (strideOk : Bool) : Verdict :=
  if 6 ≤ d.engine then .reject stFormat
  else if !engineThere s c d.engine then .reject stEngineAbsent
  else if tokenBad s c d then .reject stTokenRange
  else if d.sigs.any (sigBad s c) then .reject stFormat
  else if d.engine = 1 ∧ d.op = 1 ∧ bit d.param 21 ∧ !engineThere s c 2 then .reject stEngineAbsent
  else if pairingBad s c d then .reject stTapUnpaired
  else if d.predEn && (bit (s.reg SPR.PRED c) d.predIdx == d.predPol) then .skip
  else if !strideOk || decide (1024 ≤ d.pattern) || (usedRegions s c d).any Region.formatBad
      || (d.engine == 0 && sprueFormatBad d) || engineFormatBad s c d then .reject stFormat
  else if patternBad s c d then .reject stPatternAbsent
  else if loopNestBad s c d then .reject stLoopNest
  else if engineShapeBad s c d then .reject stShape
  else if decide (d.baseElem < 0) || decide ((2 ^ 48 : Nat) ≤ d.baseElem)
      || (d.engine == 0 && sprueBoundsBad s c d) || engineBoundsBad s c d
      || (engineExtents s c d).any (fun x => x.1.boundsBad s c x.2.1 x.2.2) then .reject stBounds
  else .run

/-! ## Issue (R170) -/

/-- R170: the queue of a non-Sprue descriptor; the Crucible's class is its `HIPRI` bit. -/
def Desc.queue (d : Desc) : EngQ :=
  match d.engine with
  | 1 => .mould | 2 => .assay | 3 => if bit d.param 12 then .cruHigh else .cruLow | 4 => .ladle | _ => .runners

/-- The index of a queue in a core's engines. -/
def engIdx : EngQ → Nat
  | .mould => 0 | .assay => 1 | .cruLow => 2 | .cruHigh => 3 | .ladle => 4 | .runners => 5

/-- The engine code of a queue. -/
def engCode : EngQ → Nat
  | .mould => 1 | .assay => 2 | .cruLow => 3 | .cruHigh => 3 | .ladle => 4 | .runners => 5

/-- One engine queue of a core. -/
def State.eng (s : State) (c : Nat) (q : EngQ) : EngSt := (s.core c).spr.eng.toList.getD (engIdx q) {}

/-- One engine queue of a core changed. -/
def modEng (s : State) (c : Nat) (q : EngQ) (f : EngSt → EngSt) : State :=
  s.modSpr c (fun p => { p with eng := p.eng.mapIdx (fun i e => if i = (engIdx q) then f e else e) })

/-- R170: the descriptors of a queue that hold an entry: issued and not completed. -/
def EngSt.held (e : EngSt) : Nat := e.queue.length + e.run.length

/-- The descriptors of a queue that are in execution: released and not finished. -/
def EngSt.busy (e : EngSt) : List Iss := e.run.filter (fun i => !(e.fin.any (fun f => f.iss.seq == i.seq)))

/-- R170, R129: the queue has room: 8, 8, 16 (at most 12 low class), 16 and 32. -/
def queueRoom (s : State) (c : Nat) (q : EngQ) : Bool :=
  match q with
  | .mould | .assay => decide ((s.eng c q).held < 8)
  | .cruLow => decide ((s.eng c .cruLow).held < 12 ∧ (s.eng c .cruLow).held + (s.eng c .cruHigh).held < 16)
  | .cruHigh => decide ((s.eng c .cruLow).held + (s.eng c .cruHigh).held < 16)
  | .ladle => decide ((s.eng c q).held < 16)
  | .runners => decide ((s.eng c q).held < 32)

/-- R190: the source of a rejection. -/
def rejectSource (status : Nat) : Nat := if status = stEngineAbsent then 6 else 5

/-- R170: an issue at this ck: the stall since the last issue is counted. -/
def countIssue (s : State) (c : Nat) : State :=
  let l := (s.core c).spr.lastIssue
  let s := s.wrapAdd SPR.ISSUE_STALL_CK (s.ck - l - 1 - (s.core c).spr.idleCk) c
  s.modSpr c (fun p => { p with lastIssue := s.ck, lastProgress := s.ck, idleCk := 0 })

/-- R190: a rejection: its record, its count and its source; where the stream goes on, the descriptor waits to be
passed as a NOP with its own waits and signals. -/
def reject (s : State) (c : Nat) (i : Iss) (status : Nat) : State :=
  let s := s.bump SPR.REJECTED 1 c
  let s := writeRecord s c i status {} 0 0 0 false
  let s := raiseFor .spr c (rejectSource status) status i.seq s
  if s.stream c = stRunning then
    s.modSpr c (fun p => { p with cur := some i, curStatus := status })
  else s.modSpr c (fun p => { p with window := [] })

/-- R170: what holds issue before a descriptor is numbered: a loop body not wholly before `RING_TAIL`, or a full
queue. -/
def issueHeld (s : State) (c : Nat) (d : Desc) : Bool :=
  (d.engine == 0 && d.op == 1 && decide (1 ≤ d.len1 ∧ d.len1 ≤ 1024) &&
    decide (ringDist s c (s.reg SPR.RING_HEAD c) (s.reg SPR.RING_TAIL c) < 1 + d.len1)) ||
  (decide (1 ≤ d.engine ∧ d.engine ≤ 5) && !queueRoom s c d.queue)

/-- R170, R192: the descriptor at `RING_HEAD` is issued, at most one in a ck: numbered, its strides applied, checked, and queued; a Sprue
descriptor, a rejected one that is passed as a NOP, and one passed under R192 wait in `cur` for their waits. -/
def issueHead (s : State) (c : Nat) (e : WinEnt) : State :=
  let s := countIssue (s.upTo ((s.core c).spr.lastIssue + 1)) c
  let (i, s) := stamp s c e.desc
  if (s.core c).spr.passHead then s.modSpr c (fun p => { p with cur := some { i with skip := true }, curStatus := stSkipped })
  else
    let od := applyStrides (s.core c).spr.loops e.desc
    let d := od.getD e.desc
    let i := { i with desc := d }
    match checkDesc s c d od.isSome with
    | .reject st => reject s c i st
    | v =>
      let i := { i with skip := v == .skip }
      let s := notePairing s c i
      let s := if v == .skip then s.bump SPR.SKIPPED 1 c else s
      if d.engine = 0 then
        (s.modSpr c (fun p => { p with cur := some i, curStatus := if v == .skip then stSkipped else stOk })).setFld
          SPR.STATE_SPRUE_WAIT (b2n (!waitsOk s c d)) c
      else advance (modEng s c d.queue (fun q => { q with queue := q.queue ++ [i] })) c 1

/-- The Sprue descriptor in `cur` is over: it leaves, and the ring moves on by `n` slots. -/
def curDone (s : State) (c n : Nat) : State :=
  advance ((s.modSpr c (fun p => { p with cur := none, curStatus := 0 })).setFld SPR.STATE_SPRUE_WAIT 0 c) c n

/-- R184, R190, R192: the descriptor in `cur` acts as a NOP whose waits are satisfied: a skipped or passed one writes a
record of status SKIPPED and a rejected one keeps its record; a `LOOP` skipped by its predicate is a loop of count 0, while one
passed under R192 is a NOP, so that its body issues once. -/
def passCur (s : State) (c : Nat) (i : Iss) (status : Nat) : State :=
  let s := consume (s.modSpr c (fun p => { p with cur := none })) c i.desc
  let w := s.ck - i.issueCk
  let s := { s with ck := s.ck + 1 }
  let s := if i.skip then strobeSeq (writeRecord s c i stSkipped {} 0 w 1 true) c i.seq else s
  let s := fireSigs s c i.desc status
  curDone s c (if i.skip && !(s.core c).spr.passHead && i.desc.engine == 0 && i.desc.op == 1 && decide (1 ≤ i.desc.len1 ∧ i.desc.len1 ≤ 1024)
    then 1 + i.desc.len1 else 1)

/-- DESC_ISSUE (R170). The next descriptor issues, or the one held in `cur` as a NOP passes once its waits hold. -/
def execDescIssue (c : Core) (s : State) : Host.Outcome State Fault Refusal :=
  if !streamOn s c then .next s
  else
    let p := (s.core c).spr
    match p.cur with
    | some i =>
      match (if (i.skip || p.curStatus != stOk) && !s.idleFrame then waitsFrom s c i.desc else none) with
      | some t => .next (passCur t c i p.curStatus)
      | none => .next s
    | none =>
      match p.window with
      | [] => .next s
      | e :: _ =>
        if s.idleFrame && (e.desc.engine == 0 || p.passHead) then .next s
        else if e.bad && !p.passHead then .next (descCrc s c e.desc)
        else if !p.passHead && issueHeld s c e.desc then
          .next (s.setFld SPR.STATE_Q_FULL (b2n (decide (1 ≤ e.desc.engine))) c)
        else .next (issueHead (s.setFld SPR.STATE_Q_FULL 0 c) c e)

/-! ## Sprue operations (R187) -/

/-- A Sprue descriptor of operation `op` is in `cur`, neither skipped nor rejected, and its waits are satisfied; with the
state in the ck in which they are. -/
def sprueReady (s : State) (c op : Nat) : Option (Iss × State) :=
  let p := (s.core c).spr
  match p.cur with
  | some i =>
    if i.desc.engine == 0 && i.desc.op == op && !i.skip && p.curStatus == stOk && streamRuns s c
    then (waitsFrom s c i.desc).map (fun t => (i, t)) else none
  | none => none

/-- R223, R261: the ck a word takes to reach the Sprue: 96 ck + 40 tk from the Tundish, 96 ck + 120 hk from HBM
(open timing, no wait). -/
def wordLatency (s : State) (type : Nat) : Nat :=
  if type = 1 then 96 + ceilDiv (120 * s.ckPerUs) 1200 else 96 + ceilDiv (40 * s.ckPerUs) 1500

/-- R187, R207, R269, R314: a word that comes to the Sprue as an answer or in a slot: from a remote memory, from the Ingot Store,
or from HBM in locked timing. -/
def sprueAsks (s : State) (d : Desc) : Bool := decide (2 ≤ d.reg0.type) || (d.reg0.type == 1 && s.locked)

/-- R170: the ck for which a Sprue operation waits on memory, past those it has waited for an answer. -/
def sprueMem (s : State) (d : Desc) : Nat :=
  if sprueAsks s d then 0
  else if d.op = 3 ∨ d.op = 6 ∨ (d.op = 1 ∧ bit d.param 0) then wordLatency s d.reg0.type else 0

/-- R187: a Sprue operation completes `t` ck after its waits were satisfied: its record, its signals, and the ring moves
on by `n`; the next descriptor may issue in that ck. The ck it waited on its tokens or on memory count as stall (R170). -/
def sprueEnd (s : State) (c : Nat) (i : Iss) (status t n : Nat) : State :=
  let w := s.ck - i.issueCk
  let s := s.wrapAdd SPR.ISSUE_STALL_CK (w + sprueMem s i.desc - (s.core c).spr.idleCk) c
  let s := { s with ck := s.ck + t }
  let s := strobeSeq (writeRecord s c i status {} 0 w t true) c i.seq
  let s := fireSigs s c i.desc status
  let s := s.modSpr c (fun p => { p with lastIssue := s.ck - 1, lastProgress := s.ck, idleCk := 0 })
  curDone s c n

/-- A Sprue operation run when one is ready: `f` gives the state, the status, the issue time and the slots passed. -/
def runSprue (c op : Nat) (s : State) (f : Iss → State → State × Nat × Nat × Nat) : Host.Outcome State Fault Refusal :=
  match sprueReady s c op with
  | none => .next s
  | some (i, s) =>
    let s := s.modSpr c (fun p => { p with cur := none })
    let (s, st, t, n) := f i (consume s c i.desc)
    .next (sprueEnd s c i st t n)

/-- NOP (R187). Its waits and signals make it a barrier. -/
def execNop (c : Core) (s : State) : Host.Outcome State Fault Refusal := runSprue c 0 s (fun _ s => (s, stOk, 1, 1))

/-- R185: a loop of `count` passes over the `len` slots after the `LOOP`; a count of 0 passes over the body. The
`LOOP`'s record, signals and ring advance follow in `sprueEnd`, so the loop is entered with its body still ahead. -/
def enterLoop (s : State) (c count len : Nat) : State :=
  let body := (s.reg SPR.RING_HEAD c + 1) % ringSize s c
  s.modSpr c (fun p => { p with loops := { body := body, len := len, idx := 0, count := count } :: p.loops })

/-- PSET (R187). `PRED` = (`PRED` AND NOT M) OR (V AND M). -/
def execPset (c : Core) (s : State) : Host.Outcome State Fault Refusal :=
  runSprue c 2 s (fun i s =>
    let m : Word := BitVec.ofNat 64 (i.desc.len0 + i.desc.len1 * 2 ^ 32)
    let v : Word := BitVec.ofNat 64 i.desc.w38
    let p : Word := BitVec.ofNat 64 (s.reg SPR.PRED c)
    (s.setReg SPR.PRED ((p &&& ~~~m) ||| (v &&& m)).toNat c, stOk, 1, 1))

/-- SEED (R188). `JOB_SEED` for the descriptors issued after it. -/
def execSeed (c : Core) (s : State) : Host.Outcome State Fault Refusal :=
  runSprue c 4 s (fun i s => (s.setReg SPR.JOB_SEED i.desc.w38 c, stOk, 1, 1))

/-- TOKSET (R187). The counters of a range are set; a count of 0 is the no-op of R177. -/
def execTokset (c : Core) (s : State) : Host.Outcome State Fault Refusal :=
  runSprue c 5 s (fun i s =>
    let d := i.desc
    ((List.range d.len1).foldl (fun s k => setToken s c (d.len0 % 4096 + k) s.ck (d.len2 % 2 ^ 16)) s, stOk,
      max 1 (ceilDiv d.len1 64), 1))

/-- R196: a slot is in use while an issued descriptor that has not completed names the ID mapped to it. -/
def patInUse (s : State) (c id : Nat) : Bool :=
  (s.core c).spr.eng.toList.any (fun e =>
    e.queue.any (fun i => i.desc.pattern == id) || e.run.any (fun i => i.desc.pattern == id))

/-- R196: the IDs mapped to a slot. -/
def patIds (s : State) (c slot : Nat) : List Nat :=
  (List.range 768).filterMap (fun k => if patSlot s c (256 + k) = some slot then some (256 + k) else none)

/-- R196: the map byte of a user pattern ID. -/
def setPatMap (s : State) (c id b : Nat) : State :=
  let k := id - 256
  s.setReg SPR.PAT_MAP (setBits (s.reg SPR.PAT_MAP c (k / 4)) (8 * (k % 4)) 8 b) c (k / 4)

/-- R196: `PAT_SLOTS` shows the mapped slots. -/
def setPatSlot (s : State) (c slot v : Nat) : State :=
  s.setReg SPR.PAT_SLOTS (setBits (s.reg SPR.PAT_SLOTS c) slot 1 v) c

/-- R196, R198: an ID is unmapped and its slot freed. -/
def patUnmap (s : State) (c id : Nat) : State :=
  match patSlot s c id with
  | none => s
  | some k => setPatSlot (setPatMap s c id 0) c k 0

/-- R150, R197, R238: the operation code of a control word is one its engine has: a Ladle operation other than `RUN` with a
sub-operation it has, or a move code of the Runners. A Mould-feed word has flags in its place. -/
def patOpOk (engine w : Nat) : Bool :=
  let o := bits w 0 8
  let sub := bits w 8 4
  if engine = 4 then
    [ldLoad, ldStore, ldZero, ldMaskgen, ldAccread, ldRms, ldLayer, ldOpt].contains o || (o == ldElem && decide (sub ≤ 9)) ||
      (o == ldFunc && decide (sub ≤ 6)) || (o == ldReduce && decide (sub ≤ 5))
  else if engine = 5 then decide (1 ≤ bits w 0 16 ∧ bits w 0 16 ≤ 6)
  else true

/-- R197: a control word is legal: `NEXT` within the pattern, and no reserved encoding: an operation code its engine does not have,
a generator's `WIDTH` 7, a rounding mode 2–3, a mask register past 7 that is not 0xF, a result format 0xF. -/
def patWordOk (engine len w : Nat) : Bool :=
  patOpOk engine w && decide (bits w 24 8 ≤ len) && (bits w 232 2 < 2 : Bool) && bits w 228 4 != 15 && decide (bits w 224 4 ≤ 7 ∨ bits w 224 4 = 15)
    && [40, 80, 120, 160].all (fun o => bits w (o + 30) 3 != 7)

/-- R197: the image of a pattern is good for an ID. -/
def patImageOk (id : Nat) (b : List Byte) : Bool :=
  let len := fieldAt b 2 1
  let e := fieldAt b 3 1 % 16
  fieldAt b 0 2 == id && decide (256 ≤ id ∧ id ≤ 1023) && (e == 1 || e == 4 || e == 5) &&
  fieldAt b 4 4 == crc32c (slice b 0x20 (32 * (len + 1))) &&
  (List.range (len + 1)).all (fun k => patWordOk e len (fieldAt b (0x20 + 32 * k) 32))

/-- R196: a good image put into a slot: any ID mapped there is unmapped, the words are stored, and the ID is mapped.
Word k of slot n is word 256n + k of the pattern store; its length and engine are kept beside it. -/
def patStore (s : State) (c id slot : Nat) (b : List Byte) : State :=
  let len := fieldAt b 2 1
  let s := (patIds s c slot).foldl (fun s j => patUnmap s c j) s
  let s := s.modSpr c (fun p => { p with
    patBad := p.patBad.filter (fun w => w / 256 != slot),
    pat := (List.range (len + 1)).foldl (fun m k => sset 0 m (256 * slot + k) (fieldAt b (0x20 + 32 * k) 32))
      (sset 0 p.pat (2 ^ 20 + slot) (len + fieldAt b 3 1 % 16 * 2 ^ 8)) })
  setPatSlot (setPatMap s c id (slot + 128)) c slot 1

/-- PATFREE (R196). A user pattern is unmapped once its slot is not in use. -/
def execPatfree (c : Core) (s : State) : Host.Outcome State Fault Refusal :=
  match sprueReady s c 7 with
  | none => .next s
  | some (i, _) =>
    let id := i.desc.param % 1024
    if patInUse s c id then .next s
    else runSprue c 7 s (fun _ s => (if 256 ≤ id then patUnmap s c id else s, stOk, 1, 1))

/-- STOP (R187). The stream ends STOPPED and source 10 is raised. -/
def execStop (c : Core) (s : State) : Host.Outcome State Fault Refusal :=
  runSprue c 8 s (fun _ s => (raise .spr c 10 ((s.setFld SPR.STATE_STREAM stStopped c).setFld SPR.CTRL_RUN 0 c), stOk, 1, 1))

/-! ## Outside writes: ring, tokens, predicates (R168, R180, R183) -/

/-- R168: `RING_TAIL` takes effect. -/
def applyRingTail (s : State) (c v : Nat) : State :=
  let idle := s.reg SPR.RING_HEAD c == s.reg SPR.RING_TAIL c
  let s := s.setReg SPR.RING_TAIL (v % 2 ^ 16) c
  if idle then s.modSpr c (fun p => { p with lastIssue := s.ck }) else s

/-- R180: an outside token signal delivered in ck `t`; one for an absent core is dropped and counted. -/
def applySignal (s : State) (c id t : Nat) : State :=
  if s.present c then signalToken s c id t else s.bump SPR.TOK_DROPPED 1 c

/-- R180, R183, R207: an outside event takes effect at once in open timing; in locked timing it waits for the boundary
window of the next tick. -/
def outside (s : State) (e : ExtEvt) (now : State → State) : State :=
  if s.locked then { s with ext := s.ext ++ [e] } else now s

/-- RING_TAIL_WRITE (R168). -/
def execRingTailWrite (c : Core) (v : BitVec 16) (s : State) : Host.Outcome State Fault Refusal :=
  if s.pageState .spr c = pgQuenched then .next s
  else .next (outside s (.ringTail c v.toNat) (fun s => applyRingTail s c v.toNat))

/-- TOK_SIGNAL (R180). A write to `TOK_SIGNAL` signals its token once; its counter holds the signal from the next ck. -/
def execTokSignal (c : Core) (t : BitVec 12) (s : State) : Host.Outcome State Fault Refusal :=
  if s.pageState .spr c = pgQuenched then .next s
  else .next (outside s (.signal c t.toNat) (fun s => applySignal s c t.toNat s.ck))

/-- TOK_DATA (R179). A write to `TOK_DATA` sets the counter at `TOK_ADDR`. -/
def execTokData (c : Core) (v : BitVec 16) (s : State) : Host.Outcome State Fault Refusal :=
  let a := s.fld SPR.TOK_ADDR_A c
  if s.pageState .spr c = pgQuenched then .next s
  else .next (outside s (.counter c a v.toNat) (fun s => setToken s c a s.ck v.toNat))

/-- PRED_WRITE (R183). A write to `PRED` for the descriptors issued after it. -/
def execPredWrite (c : Core) (v : BitVec 64) (s : State) : Host.Outcome State Fault Refusal :=
  if s.pageState .spr c = pgQuenched then .next s
  else .next (outside s (.pred c v) (fun s => s.setReg SPR.PRED v.toNat c))

/-- TOKEN_SIGNAL_DELIVER (R180). The oldest signal from another core arrives: its counter holds it from 64 ck
after the completion that sent it. -/
def execTokenSignalDeliver (c : Core) (s : State) : Host.Outcome State Fault Refusal :=
  match (s.core c).spr.sigDue with
  | [] => .next s
  | (t, id) :: r => .next (signalToken ((s.modSpr c (fun p => { p with sigDue := r })).upTo t) c id (max s.ck t))

/-! ## Completion (R172) -/

/-- The register that names the descriptor in execution on an engine. -/
def curSeqReg : EngQ → Reg
  | .mould => MLD.CUR_SEQ | .assay => ASY.CUR_SEQ | .cruLow => CRU.CUR_SEQ_LO | .cruHigh => CRU.CUR_SEQ_HI
  | .ladle => LDL.CUR_SEQ | .runners => RUN.CUR_SEQ

/-- R270, R315, R368: no write of the descriptor waits for a remote slot, for its acknowledgement or for its page program;
in locked timing a completed page program counts from the next boundary window. -/
def writesDone (s : State) (c : Nat) (i : Iss) : Bool :=
  !(s.remote.any (fun r => r.core == c && r.seq == i.seq && r.write)) &&
  !((s.core c).run.wq.any (fun w => w.seq == i.seq)) &&
  !(s.ing.writes.any (fun w => w.core == c && w.seq == i.seq)) && !(s.ext.contains (.written c i.seq)) &&
  !(s.jnl.durable.any (fun w => w.1 == c && w.2.1 == i.seq))

/-- R172: a finished descriptor completes: its record is written and its signals fire as their conditions allow; a local
signal is in its counter from the next ck. -/
def complete (s : State) (c : Nat) (f : Fin') : State :=
  let i := f.iss
  let s := s.upTo f.finCk
  let s := writeRecord s c i f.status f.flags f.word (i.relCk - i.issueCk) (f.finCk - i.relCk) true
  let s := strobeSeq s c i.seq
  let s := fireSigs s c i.desc f.status
  s.modSpr c (fun p => { p with lastProgress := s.ck })

/-- DESC_COMPLETE (R171, R172). The oldest released descriptor of an engine (class) completes once it has finished and
its remote and Ingot writes are complete (R270, R315); completions follow program order. -/
def execDescComplete (c : Core) (q : EngQ) (s : State) : Host.Outcome State Fault Refusal :=
  match (s.eng c q).run with
  | [] => .next s
  | i :: r =>
    match (s.eng c q).fin.find? (fun f => f.iss.seq == i.seq) with
    | none => .next s
    | some f =>
      if writesDone s c i then
        .next (complete (modEng s c q (fun e => { e with run := r, fin := e.fin.filter (fun f => f.iss.seq != i.seq) })) c f)
      else .next s

/-- An engine has finished a descriptor at ck `t` (R172, R194). -/
def finishDesc (s : State) (c : Nat) (q : EngQ) (i : Iss) (status : Nat) (fl : Flags) (word t : Nat) : State :=
  modEng s c q (fun e => { e with fin := e.fin ++ [{ iss := i, status := status, flags := fl, word := word, finCk := t }] })

/-- A finished descriptor that waits for its writes ends no earlier than ck `t`. -/
def touchFin (s : State) (c seq t : Nat) : State :=
  s.modSpr c (fun p => { p with eng := p.eng.map (fun e => { e with
    fin := e.fin.map (fun f => if f.iss.seq = seq then { f with finCk := max f.finCk t } else f) }) })

/-- A finished descriptor fails after the fact with a status (R314). -/
def failFin (s : State) (c seq status : Nat) : State :=
  s.modSpr c (fun p => { p with eng := p.eng.map (fun e => { e with
    fin := e.fin.map (fun f => if f.iss.seq = seq ∧ f.status = stOk then { f with status := status } else f) }) })

/-! ## Run and resume (R191, R192) -/

/-- R409: the stream of core `c` asks for a stagger slot; it reads RUNNING from the grant on. A core being promoted away from
asks for none (R28). -/
def askStart (s : State) (c : Nat) : State :=
  if s.stag.any (fun r => r.1 == 0 && r.2.1 == c) || !s.active c || s.pwr.promo.any (fun x => x.1 == c) then s
  else { s with stag := s.stag ++ [(0, c, s.ck)] }

/-- SPR_CTRL_RUN (R191, R198). Setting `RUN` starts an IDLE or STOPPED stream whose ring is legal; clearing it stops the
stream, which reads IDLE. -/
def execSprCtrlRun (c : Core) (v : Bool) (s : State) : Host.Outcome State Fault Refusal :=
  if s.stream c = stQuenched ∨ !s.pageOn .spr c then .next s
  else if v then
    if (s.stream c = stIdle ∨ s.stream c = stStopped) ∧ ringOk s c then
      .next (askStart ((s.setFld SPR.CTRL_RUN 1 c).modSpr c (fun p => { p with window := [], passHead := false })) c)
    else if s.stream c = stIdle then .next s
    else .next (s.setFld SPR.CTRL_RUN 1 c)
  else
    let s := s.setFld SPR.CTRL_RUN 0 c
    let s := { s with stag := s.stag.filter (fun r => !(r.1 == 0 && r.2.1 == c)) }
    if s.stream c = stRunning then
      let s := (unissue s c).setFld SPR.STATE_STREAM stIdle c
      let s := s.setReg SPR.HALT_INFO (PageKind.spr.blockType * 2 ^ 8 + c * 2 ^ 16) c
      .next (s.setReg SPR.HALT_SEQ (s.reg SPR.SEQ c) c)
    else .next s

/-- SPR_CTRL_RESUME (R192). A HALTED stream continues: the descriptor at `RING_HEAD` is fetched again, or, with
`RESUME_MODE` 1, passed as a NOP. -/
def execSprCtrlResume (c : Core) (mode : Bool) (s : State) : Host.Outcome State Fault Refusal :=
  if s.pageState .spr c = pgQuenched then .next s else
  let s := s.setFld SPR.CTRL_RESUME_MODE (b2n mode) c
  if s.stream c = stHalted then
    let s := s.modSpr c (fun p => { p with window := [], cur := none, curStatus := 0, passHead := mode })
    if s.flag SPR.CTRL_RUN c then .next (askStart s c) else .next (s.setFld SPR.STATE_STREAM stIdle c)
  else .next s

end Sys2Proof.Machine
end

