-- ==== Sys2Proof/Machine/MatStore.lean ====
section
/-!
DEFINITION. Machine/MatStore.lean: the resident store and the matrix table (R108–R111), the integer rounding of R112, and
the store port (R133), shared by the Crucible and the Assay's `BLEND`.
-/
namespace Sys2Proof.Machine

open Sys2Proof

/-- The Crucible of core `c`, and it changed. -/
def State.cru (s : State) (c : Nat) : CruSt := (s.core c).cru
def modCru (s : State) (c : Nat) (f : CruSt → CruSt) : State := s.modCore c (fun x => { x with cru := f x.cru })

/-- The store port of core `c`, and it changed. -/
def State.port (s : State) (c : Nat) : PortSt := (s.core c).port
def modPort (s : State) (c : Nat) (f : PortSt → PortSt) : State := s.modCore c (fun x => { x with port := f x.port })

/-! ## The matrix table (R109) -/

/-- The 512-bit table entry of a matrix ID. -/
def mtab (s : State) (c id : Nat) : Nat := sget 0 (s.cru c).mtab id

/-- A table entry written. -/
def setMtab (s : State) (c id v : Nat) : State := modCru s c (fun x => { x with mtab := sset 0 x.mtab id v })

/-- A field of a table entry written. -/
def setMtabFld (s : State) (c id lo w v : Nat) : State := setMtab s c id (setBits (mtab s c id) lo w v)

/-- R109: the fields of a table entry. -/
def mtBase (e : Nat) : Nat := bits e 0 19
def mtN (e : Nat) : Nat := if bits e 19 3 ≤ 5 then 8 * 2 ^ bits e 19 3 else 0
def mtKind (e : Nat) : Nat := bits e 22 2
def mtType (e : Nat) : Nat := bits e 24 2
def mtF (e : Nat) : Nat := bits e 26 5
def mtPoison (e : Nat) : Bool := bit e 31
def mtX (e : Nat) : Int := toSigned 8 (bits e 32 8)
def mtPub (e : Nat) : Nat := bits e 40 1
def mtValid (e : Nat) : Bool := bit e 41
def mtEpoch (e : Nat) : Nat := bits e 128 32
def mtXPub (e : Nat) : Int := toSigned 8 (bits e 160 8)
def mtXWork (e : Nat) : Int := toSigned 8 (bits e 168 8)
def mtStPub (e : Nat) : Nat := bits e 192 64
def mtStWork (e : Nat) : Nat := bits e 256 64

/-- R109: matrix kinds. -/
def kSym : Nat := 0
def kLtri : Nat := 1
def kGen : Nat := 2

/-- R109: entries held by a matrix of a kind. -/
def kindEntries (kind n : Nat) : Nat := if kind = kGen then n * n else n * (n + 1) / 2

/-- R109: the units of a buffer. -/
def bufUnits (kind n : Nat) : Nat := ceilDiv (4 * kindEntries kind n) 256

/-- R109: the packed index of entry (p, q). -/
def entryIdx (kind n p q : Nat) : Nat :=
  if kind = kSym then (if p ≤ q then p * n - p * (p - 1) / 2 + (q - p) else q * n - q * (q - 1) / 2 + (p - q))
  else if kind = kLtri then p * (p + 1) / 2 + q
  else p * n + q

/-- The first unit of buffer A (0) or B (1) of an entry. -/
def bufUnit (e buf : Nat) : Nat := mtBase e + buf * bufUnits (mtKind e) (mtN e)

/-- The integer at packed index `i` of the buffer at a unit. -/
def storeWord (s : State) (c unit i : Nat) : Int := toSigned 32 (sget 0 (s.cru c).store (64 * unit + i))

/-- The integer at packed index `i` of a buffer written. -/
def setStoreWord (s : State) (c unit i : Nat) (v : Int) : State :=
  modCru s c (fun x => { x with store := sset 0 x.store (64 * unit + i) (ofSigned 32 v) })

/-- The packed integers of a buffer. -/
def readBuf (s : State) (c unit kind n : Nat) : List Int := (List.range (kindEntries kind n)).map (storeWord s c unit)

/-- R139: every word of a buffer of `n` units has been written. -/
def cleanBuf (s : State) (c unit n : Nat) : State :=
  modCru s c (fun x => { x with bad := x.bad.filter (fun w => !decide (16 * unit ≤ w ∧ w < 16 * (unit + n))) })

/-- R139: some of `n` words of 32 bits from index `i` of the buffer at a unit are read with an uncorrectable word among them:
an armed injection, or one found so. -/
def storeHitAt (s : State) (c unit i n : Nat) : Bool :=
  decide (0 < n) && (s.armed CRU.INJ_STORE_UE c ||
    (s.cru c).bad.any (fun w => decide (64 * unit + i < 4 * w + 4 ∧ 4 * w < 64 * unit + i + n)))

/-- R139: a read of a whole buffer meets an uncorrectable word. -/
def storeHit (s : State) (c unit kind n : Nat) : Bool := storeHitAt s c unit 0 (kindEntries kind n)

/-- The packed integers of a buffer written, from index `i`. -/
def writeBuf (s : State) (c unit : Nat) (vs : List Int) : State :=
  cleanBuf (vs.zipIdx.foldl (fun s (v, i) => setStoreWord s c unit i v) s) c unit (ceilDiv vs.length 64)

/-- R110: the integer that stands for entry (p, q) of a packed matrix. -/
def packed (kind n : Nat) (m : List Int) (p q : Nat) : Int :=
  if kind = kLtri ∧ p < q then 0 else m.getD (entryIdx kind n p q) 0

/-! ## Integer rounding (R112) -/

/-- R112: a rational number rounded to an integer, ties to even. -/
def rneInt (q : Rat) : Int := if q < 0 then -(roundMag .rne (-q) : Int) else (roundMag .rne q : Int)

/-- The value fits in Q32. -/
def fits32 (i : Int) : Bool := decide (-(2 ^ 31 : Nat) ≤ i ∧ i ≤ (2 ^ 31 - 1 : Nat))

/-- R112: clamp to [−2^31, 2^31 − 1]. -/
def sat32 (i : Int) : Int := max (-(2 ^ 31 : Nat) : Int) (min i (2 ^ 31 - 1 : Nat))

/-- Entries of a list that saturate. -/
def satCount (is : List Int) : Nat := (is.filter (fun i => !fits32 i)).length

/-! ## The store port (R133) -/

/-- V of R128: one store-port access to a matrix. -/
def portV (kind n : Nat) : Nat := if kind = kGen then ceilDiv (n * n) 128 else ceilDiv (n * (n + 1)) 256

/-- The context of a class. -/
def ctxOf (s : State) (c : Nat) (hi : Bool) : Option CCtx := if hi then (s.cru c).hi else (s.cru c).lo

/-- The context of a class changed. -/
def modCtx (s : State) (c : Nat) (hi : Bool) (f : CCtx → CCtx) : State :=
  modCru s c (fun x => if hi then { x with hi := x.hi.map f } else { x with lo := x.lo.map f })

/-- The step in progress changed. -/
def modStep (s : State) (c : Nat) (f : CStep → CStep) : State := modCru s c (fun x => { x with step := x.step.map f })

/-- The status word of a result being worked on. -/
def stWork (s : State) (c id : Nat) : Nat := mtStWork (mtab s c id)
def setStWork (s : State) (c id v : Nat) : State := if id < 4096 then setMtabFld s c id 256 64 v else s

/-- R195: an uncorrectable word of the resident store. -/
def stStoreUnc : Nat := 0x40

/-- R139: an uncorrectable word found in the buffer of matrix `id`: source 2, `POISON`, and the descriptor's status. -/
def poison (s : State) (c : Nat) (hi : Bool) (seq id : Nat) : State :=
  modCtx (setMtabFld (raiseFor .cru c 2 stStoreUnc seq (s.disarm CRU.INJ_STORE_UE c)) c id 31 1 1) c hi
    (fun x => { x with status := x.status ++ [stStoreUnc] })

/-- The quanta of a group up to its snapshot. -/
def throughSnap : List (QKind × Nat) → List (QKind × Nat)
  | [] => []
  | q :: qs => if q.1 = .skipped then q :: throughSnap qs else [q]

/-- A group none of whose problems is left does no more work: the step ends with what it has begun. -/
def cutGroup (s : State) (c : Nat) (hi : Bool) : State :=
  if (ctxOf s c hi).any (fun x => x.group.all CProb.skip) then
    let s := modCtx s c hi (fun x => { x with quanta := throughSnap x.quanta })
    modStep s c (fun z =>
      let qs := throughSnap z.quanta
      { z with quanta := qs, accs := [], applied := true,
               endCk := z.startCk + z.waited + qs.foldl (fun t q => t + q.2) 0 })
  else s

/-- R119, R123, R139: the access that reads the source of problem `k` of the group in hand: its snapshot, or for a `TRSM` the
published set of its factor. One that meets an uncorrectable word abandons the problem. -/
def snapOne (s : State) (c : Nat) (hi : Bool) (k : Nat) : State :=
  match ctxOf s c hi with
  | none => s
  | some x =>
    match x.group.find? (fun p => p.idx == k) with
    | none => s
    | some p =>
      let e := mtab s c p.srcId
      let res := mtType e == 2
      let u := if res then bufUnit e (mtPub e) else mtBase e
      let put := fun (s : State) (q : CProb) =>
        modCtx s c hi (fun y => { y with group := y.group.map (fun r => if r.idx = k then q else r) })
      if storeHit s c u (mtKind e) (mtN e) then
        let s := poison s c hi x.iss.seq p.srcId
        let s := if res then s else setStWork s c p.resId (4 + 512 + (stWork s c p.resId &&& 32))
        let s := modCtx s c hi (fun y => { y with missed := y.missed ++ [k], skipN := y.skipN + b2n res })
        cutGroup (put s { p with skip := true }) c hi
      else
        let s := if res then s else setStWork s c p.resId (2 + (stWork s c p.resId &&& 32))
        put s { p with snap := readBuf s c u (mtKind e) (mtN e), f := mtF e, x := if res then mtXPub e else mtX e,
                       st := if res then mtStPub e else 0 }

/-- R133: the port is granted to the Assay. -/
def grantAsy (s : State) (c : Nat) : State := modPort s c (fun p => { p with asyWait := none, asyGrant := true, lastAsy := true })

/-- The Crucible waits for the port from ck `b`, if that has come by ck `t`. -/
def cruWaits (s : State) (c b t : Nat) : State :=
  if b ≤ t then modPort s c (fun p => { p with cruWait := some b }) else s

/-- R133: the next access of the step begins at ck `x`, having waited since ck `b`. -/
def beginAcc (s : State) (c : Nat) (hi : Bool) (a : CAcc) (b x : Nat) : State :=
  let d := x - b
  let s := s.wrapAdd CRU.PORT_WAIT_CK d c
  let s := modStep s c (fun z => { z with accs := z.accs.tail, waited := z.waited + d, endCk := z.endCk + d })
  let s := if d = 0 then s else modCtx s c hi (fun y => { y with portWaited := true })
  let s := modPort s c (fun p =>
    if a.len = 0 then { p with cruWait := none } else { p with cruWait := none, lastAsy := false, busyUntil := x + a.len })
  match a.snap with
  | some k => snapOne s c hi k
  | none => s

/-- R133: what the store port does up to ck `t`. The accesses of the step follow one another, each from its place in the step
on; when the port frees it is granted to the one that waits, and when both wait to the one that was not granted the access
before. A direct operation's item is carried out before the next access of either. -/
def portTo : Nat → Nat → State → Nat → State
  | 0, _, s, _ => s
  | n + 1, t, s, c =>
    let p := s.port c
    let u := p.busyUntil
    let next := (s.cru c).step.bind (fun z => z.accs.head?.map (fun a => (z, a)))
    let items := (s.cru c).step.any (fun z => z.quanta.any (fun q => q.1 == .item) && decide (z.done + z.accs.length < z.quanta.length))
    if items then s else
    match next with
    | none => if p.asyWait.any (fun w => decide (max u w ≤ t)) && !p.asyGrant then grantAsy s c else s
    | some (z, a) =>
      let b := z.startCk + z.waited + a.off
      if a.len = 0 then (if b ≤ t then portTo n t (beginAcc s c z.hi a b b) c else s)
      else if p.asyGrant then cruWaits s c b t
      else
        let x := max u (match p.asyWait with | some w => min b w | none => b)
        if t < x then cruWaits s c b t
        else if p.asyWait.any (fun w => decide (w ≤ x)) && (decide (x < b) || !p.lastAsy) then cruWaits (grantAsy s c) c b t
        else portTo n t (beginAcc s c z.hi a b x) c

/-- The store port of core `c` brought up to the present. -/
def portNow (s : State) (c : Nat) : State :=
  portTo (((s.cru c).step.map (fun z => z.accs.length)).getD 0 + 1) s.ck s c

/-- STORE_PORT_GRANT (R133). The port frees and is granted: to the one that waits, or, when both wait, to the one that
was not granted the access before. -/
def execStorePortGrant (c : Core) (s : State) : Host.Outcome State Fault Refusal :=
  .next (portNow (s.upTo (s.port c).busyUntil) c)

end Sys2Proof.Machine
end

