-- ==== Sys2Proof/Machine/Cache.lean ====
section
/-!
DEFINITION. Machine/Cache.lean: the Tundish's quotas in use: cache mode with its tag directory (R232–R236), the
prefetcher (R244, R245) and the staging range of Ingot tiles (R237).
-/
namespace Sys2Proof.Machine

open Sys2Proof

/-! ## Quotas (R232) -/

/-- The quota in force of a user; 7 is the pool. -/
def quota (s : State) (u : Nat) : Quota := s.tun.quotas.toList.getD u {}

/-- A tile lies in a quota's range. -/
def Quota.has (q : Quota) (t : Nat) : Bool := q.mode != 0 && decide (q.first ≤ t ∧ t < q.first + q.count)

/-- R238: a Tundish tile lies in a cache-mode range or the pool. -/
def inCacheRange (s : State) (t : Nat) : Bool :=
  (List.range 8).any (fun u => (quota s u).mode == 2 && (quota s u).has t)

/-- R238: bytes of a Tundish region that overlap a cache-mode range. -/
def rangeConflict (s : State) (r : Region) (loc : Bool) (off n : Nat) : Bool :=
  !loc && r.type == 0 && (r.chunks (n + 1) off n).any (fun x => inCacheRange s (x.1 / 16384))

/-! ## The tag directory (R234, R235) -/

/-- The entry of a source tile, valid or filling. -/
def cacheFind (s : State) (type dev src : Nat) : Option CacheEnt :=
  s.tun.cache.find? (fun e => e.type == type && e.dev == dev && e.src == src && !e.gone)

/-- The lowest tile of a range that satisfies `p`. -/
def lowestFree (q : Quota) (p : Nat → Bool) : Option Nat :=
  if q.mode = 0 then none else ((List.range q.count).map (· + q.first)).find? p

/-- R235: the entry to evict: the oldest of the candidates, ties to the lower tile number. -/
def oldest : List CacheEnt → Option CacheEnt
  | [] => none
  | e :: es =>
    match oldest es with
    | none => some e
    | some f => if f.stamp < e.stamp ∨ (f.stamp = e.stamp ∧ f.tile < e.tile) then some f else some e

/-- R235: a tile for a new entry of user `x`, with the entry it evicts; one that fills or is being read is never chosen. -/
def allocTile (s : State) (x : Nat) : Option (Nat × Option CacheEnt) :=
  let used := fun (t : Nat) => s.tun.cache.any (fun e => e.tile == t)
  let own := quota s x
  let pool := quota s 7
  match lowestFree own (fun t => !used t) with
  | some t => some (t, none)
  | none =>
    match lowestFree pool (fun t => !used t) with
    | some t => some (t, none)
    | none => (oldest (s.tun.cache.filter (fun e =>
        (own.has e.tile || pool.has e.tile) && !e.fill && !beingRead s e.tile))).map (fun e => (e.tile, some e))

/-- R234: an entry allocated for user `x` at a miss, its stamp the current frame; its fetch fills it. `none` where no
candidate exists. -/
def allocEntry (s : State) (x type dev src : Nat) (pf : Bool) : Option (Nat × State) :=
  (allocTile s x).map (fun (t, ev) =>
    let s := match ev with
      | some e => evictCount (setCache s (s.tun.cache.filter (fun f => f.tile != e.tile))) e
      | none => s
    let e : CacheEnt := { tile := t, type := type, dev := dev, src := src, user := x, stamp := s.frame, pf := pf, fill := true }
    (t, setCache s (s.tun.cache ++ [e])))

/-- R234: the fetch of an entry has come: its tile holds the data. -/
def fillEntry (s : State) (t : Nat) (pl sd : List Byte) : State :=
  let s := writeTile s .tun t pl sd
  setCache s (s.tun.cache.map (fun e => if e.tile = t then { e with fill := false } else e))

/-- R234, R245: a demand read of core `c` that finds an entry: used, or used late where it is still filling. -/
def cacheHit (s : State) (c : Nat) (e : CacheEnt) : State :=
  let s := s.bump RUN.CACHE_HITS 1 c
  if e.pf then
    setCache (s.bump (if e.fill then RUN.PF_LATE else RUN.PF_USED) 1 c)
      (s.tun.cache.map (fun f => if f.tile = e.tile then { f with pf := false } else f))
  else s

/-- A HBM tile as a fill takes it: its sidecar only inside the tile window (R252). -/
def hbmTile (s : State) (t : Nat) : List Byte × List Byte :=
  let (pl, sd) := peekTile s .hbm t
  (pl, if t < s.reg HBM.TILEWIN then sd else zeros 2048)

/-! ## Staging (R237) -/

/-- R237: the lowest free tile of user 5's staging range. -/
def stageFree (s : State) : Option Nat :=
  if (quota s 5).mode = 3 then lowestFree (quota s 5) (fun t => !s.tun.staging.any (fun x => x.1 == t)) else none

/-- R237: an Ingot tile placed in the staging range for a descriptor. -/
def stageTileFor (s : State) (owner t : Nat) (pl sd : List Byte) : State :=
  let s := writeTile s .tun t pl sd
  { s with tun := { s.tun with staging := s.tun.staging ++ [(t, owner)] } }

/-- R237: a staged tile is freed. -/
def unstageTile (s : State) (t : Nat) : State :=
  { s with tun := { s.tun with staging := s.tun.staging.filter (fun x => x.1 != t) } }

/-- R237: the staged tiles of a descriptor are freed. -/
def unstage (s : State) (owner : Nat) : State :=
  { s with tun := { s.tun with staging := s.tun.staging.filter (fun x => x.2 != owner) } }

/-- The owner number of a descriptor in the staging range. -/
def stageOwner (c eng seq : Nat) : Nat := (c * 8 + eng) * 2 ^ 32 + seq

end Sys2Proof.Machine
end

