-- ==== Sys2Proof/Machine/PatRun.lean ====
section
/-!
DEFINITION. Machine/PatRun.lean: R196–R198: the control words of a pattern, their sequencing and address generators, and what a
Mould-feed word does. Which generator feeds which operand is log entry 34.
-/
namespace Sys2Proof.Machine

open Sys2Proof

/-- R166, R198: the status `PATTERN_UNCORRECTABLE`. -/
def stPatUnc : Nat := 0x53

/-- An address generator field (R197). -/
structure Agu where
  en : Bool
  region : Nat
  write : Bool
  mode : Nat
  step : Int
  width : Nat
deriving DecidableEq, Repr

/-- A control word (R197). -/
structure CWord where
  op : Nat
  sub : Nat
  rep : Nat
  next : Nat
  seq : Nat
  csel : Nat
  agus : List Agu
  srcA : Nat
  srcB : Nat
  srcC : Nat
  dst : Nat
  mask : Nat
  rfmt : Nat
  rnd : Nat
deriving DecidableEq, Repr

/-- R197: the fields of a generator. -/
def Agu.parse (n : Nat) : Agu :=
  { en := bit n 0, region := bits n 1 2, write := bit n 3, mode := bits n 4 2, step := toSigned 24 (bits n 6 24),
    width := 32 * 2 ^ bits n 30 3 }

/-- R197: the fields of a control word. -/
def CWord.parse (n : Nat) : CWord :=
  { op := bits n 0 8, sub := bits n 8 4, rep := bits n 16 8, next := bits n 24 8, seq := bits n 32 2, csel := bits n 34 2,
    agus := [40, 80, 120, 160].map (fun o => Agu.parse (bits n o 40)), srcA := bits n 200 6, srcB := bits n 206 6,
    srcC := bits n 212 6, dst := bits n 218 6, mask := bits n 224 4, rfmt := bits n 228 4, rnd := bits n 232 2 }

/-- A pattern in execution: its state, word, counters, generator offsets, ck, the elements results have been formed of outside
regions, held elements read, masks made, the Tundish tiles checked, the status that ended it (`own`: a status of the engine, not
of the pattern), what it reports, and the rows a Mould-feed pattern has advanced. -/
structure PRun where
  s : State
  pc : Nat := 0
  ctr : List Nat
  pos : List Int := [0, 0, 0, 0]
  t : Nat := 0
  el : Nat := 0
  acc : Nat := 0
  masks : Nat := 0
  seen : List Nat := []
  err : Option Nat := none
  own : Bool := false
  done : Bool := false
  flags : Flags := {}
  masked : Nat := 0
  moved : Nat := 0
  empties : Nat := 0
  retry : Bool := false
  conflict : Nat := 0
  rel : Bool := false
  feed : MFeed := {}

/-- A pattern ended by a status of its engine; the first one stands. -/
def PRun.fail (p : PRun) (st : Nat) : PRun := if p.err.isSome then p else { p with err := some st, own := true }

/-- R196: word `k` of the pattern a descriptor names: the pattern store's, or a vendor pattern's ROM word. -/
def patWord (s : State) (c id k : Nat) : Nat :=
  if id < 256 then (Config.vendorWord id k).toNat
  else match patSlot s c id with
    | some n => sget 0 (s.core c).spr.pat (256 * n + k)
    | none => 0

/-- R198: word `k` of a user pattern reads as uncorrectable. -/
def patHit (s : State) (c id k : Nat) : Bool :=
  decide (256 ≤ id) &&
    (s.armed SPR.INJ_PAT_UE c || (patSlot s c id).any (fun n => (s.core c).spr.patBad.contains (256 * n + k)))

/-- The region of a generator, with its `LOCAL` bit: 0–2 the descriptor's, 3 the scalar block. -/
def aguRegion (d : Desc) (loc : Nat → Bool) (k : Nat) : Region × Bool :=
  match k with
  | 0 => (d.reg0, loc 0)
  | 1 => (d.reg1, loc 1)
  | 2 => (d.reg2, loc 2)
  | _ => ({ base := (bits d.scaleWord 0 25 * 64 : Nat), rowBytes := 64, rows := 1, rowStride := 4 }, bit d.scaleWord 25)

/-- The format of a generator's data. -/
def aguFmt (d : Desc) (k : Nat) : Fmt :=
  fmtOf (match k with | 0 => d.fmt0 | 1 => d.fmt1 | 2 => d.fmt2 | _ => 0)

/-- R198: the access of a generator lies inside its region. -/
def aguInside (r : Region) (pos : Int) (w : Nat) : Bool := decide (0 ≤ pos ∧ pos.toNat + w ≤ r.bytes)

/-- R198: a generator's offset after a ck, `last` at the word's end. -/
def Agu.move (a : Agu) (last : Bool) (pos : Int) : Int :=
  if !a.en then pos
  else match a.mode with
    | 1 => pos + a.step
    | 2 => 0
    | 3 => if last then pos + a.step else pos
    | _ => pos

/-- R198: the ck of one word: an access outside its region is not made and ends the pattern. -/
def wordCks (c : Nat) (d : Desc) (loc : Nat → Bool) (w : CWord) (f : CWord → PRun → PRun) : Nat → PRun → PRun
  | 0, p => p
  | n + 1, p =>
    if (w.agus.zip p.pos).any (fun x => x.1.en && !aguInside (aguRegion d loc x.1.region).1 x.2 x.1.width) then
      { p with err := some stBounds }
    else
      let p := f w p
      if p.err.isSome then { p with t := p.t + 1 } else
      let p := { p with t := p.t + 1, pos := (w.agus.zip p.pos).map (fun x => x.1.move (n == 0) x.2) }
      wordCks c d loc w f n p

/-- R198: the words of a pattern from `pc` on, until one with `SEQ` 3 ends; `none` where it has not ended after `fuel`
words. -/
def patLoop (c : Nat) (i : Iss) (loc : Nat → Bool) (f : CWord → PRun → PRun) : Nat → PRun → Option PRun
  | 0, _ => none
  | fuel + 1, p =>
    if patHit p.s c i.desc.pattern p.pc then some { p with s := p.s.disarm SPR.INJ_PAT_UE c, err := some stPatUnc }
    else
      let w := CWord.parse (patWord p.s c i.desc.pattern p.pc)
      let p := wordCks c i.desc loc w f (w.rep + 1) p
      if p.err.isSome then some p else
      match w.seq with
      | 0 => patLoop c i loc f fuel { p with pc := p.pc + 1 }
      | 1 =>
        let v := (p.ctr.getD w.csel 0 + 2 ^ 32 - 1) % 2 ^ 32
        patLoop c i loc f fuel { p with ctr := setNth p.ctr w.csel v, pc := if v = 0 then p.pc + 1 else w.next }
      | 2 => patLoop c i loc f fuel { p with pc := w.next }
      | _ => some { p with done := true }

/-- R198: a pattern run from word 0, with its counters at `LEN0`–`LEN2` and 0. Its course is set by the word it is at and its
four counters alone, which have 2^136 values together: one that has not ended after as many words never ends. -/
def runPattern (s : State) (c : Nat) (i : Iss) (loc : Nat → Bool) (f : CWord → PRun → PRun) : Option PRun :=
  patLoop c i loc f (2 ^ 136) { s := s, ctr := [i.desc.len0, i.desc.len1, i.desc.len2, 0] }

/-- R198: the sources of a pattern's end: 5 for `BOUNDS`; an uncorrectable word raises source 2 and unmaps its ID. -/
def patEnd (s : State) (c : Nat) (i : Iss) (p : PRun) : State :=
  match p.err with
  | none => s
  | some st =>
    if p.own then s
    else if st = stPatUnc then
      raiseFor .spr c 2 st i.seq (if 256 ≤ i.desc.pattern then patUnmap s c i.desc.pattern else s)
    else raiseFor .spr c 5 st i.seq s

/-! ## The Mould feed (R197) -/

/-- The offset of the read generator of a word for a region. -/
def feedOff (w : CWord) (p : PRun) (k : Nat) : Option Nat :=
  ((w.agus.zip p.pos).find? (fun x => x.1.en && !x.1.write && x.1.region == k)).map (fun x => x.2.toNat)

/-- R197: one ck of a Mould-feed word: it advances the A row, or the B load row, that its generator of region 0, or 1, is at; while
it holds the array input no A row enters (log entry 103). -/
def feedCk (w : CWord) (p : PRun) : PRun :=
  let a := match (if bit w.op 0 && !bit w.op 2 then feedOff w p 0 else none) with
    | some o => p.feed.a ++ [(p.t, o)]
    | none => p.feed.a
  let b := match (if bit w.op 1 then feedOff w p 1 else none) with
    | some o => p.feed.b ++ [o]
    | none => p.feed.b
  { p with feed := { a := a, b := b } }

end Sys2Proof.Machine
end

