-- ==== Sys2Proof/Machine/Access.lean ====
section
/-!
DEFINITION. Machine/Access.lean: the ways to memory and their times: the bridge schedule entry by entry (R19–R22), the
Tundish's banks, crossbars and reserved tk (R221–R224), and the HBM controllers' queues with their token buckets in open timing
(R257, R258, R261).
-/
namespace Sys2Proof.Machine

open Sys2Proof

/-! ## What is taken of a resource at a time -/

/-- The resources: 0 and 1 the bridge directions, 2 and 3 the die crossbars, 4 + b the Tundish banks. -/
def useKey (res t : Nat) : Nat := res * 2 ^ 64 + t

/-- How much of a resource is taken at a time. -/
def used (s : State) (res t : Nat) : Nat := sget 0 s.acc.use (useKey res t)

/-- A resource taken `n` times more at a time. -/
def takeUse (s : State) (res t n : Nat) : State :=
  { s with acc := { s.acc with use := sset 0 s.acc.use (useKey res t) (used s res t + n) } }

/-- The uses before the frame that begins are over. -/
def pruneUse (s : State) : State :=
  { s with acc := { s.acc with use := s.acc.use.filter (fun x => decide (s.frameCk ≤ x.1 % 2 ^ 64)) } }

/-- The ck of the most recent tick at ck `t`; ticks to come are taken at their planned ck. -/
def tickBefore (s : State) (t : Nat) : Nat :=
  if t < s.tickAt then s.frameCk else s.tickAt + (t - s.tickAt) / max 1 (s.reg PWR.FRM_PERIOD) * s.reg PWR.FRM_PERIOD

/-! ## The bridge (R19–R22) -/

/-- R20: the owner of the entry in force in ck `t`. -/
def bridgeOwner (s : State) (dir t : Nat) : Nat := schedOwner s dir ((t - tickBefore s t) % 64)

/-- R20–R22: `n` lines of owner `o` admitted from ck `t` on, at most 24 lines of 128 bytes in a ck. In locked timing only the
owner's entries admit them. In open timing an entry whose owner has nothing waiting passes on, so that a ck admits what is
left of its 24 lines (log entry 73). -/
def admitLines (o dir : Nat) : Nat → Nat → Nat → State → Nat × State
  | 0, t, _, s => (t, s)
  | fuel + 1, t, n, s =>
    if n = 0 then (t, s)
    else
      let k := if s.locked && bridgeOwner s dir t != o then 0 else min (24 - used s dir t) n
      admitLines o dir fuel (t + 1) (n - k) (if k = 0 then s else takeUse s dir t k)

/-- The lines of `n` bytes. -/
def linesOf (n : Nat) : Nat := ceilDiv n 128

/-- R20: bytes of owner `o` admitted to the bridge from ck `t` on: the ck after the last admission. -/
def bridgeAdmit (s : State) (o dir t n : Nat) : Nat × State :=
  admitLines o dir (64 * (linesOf n + s.acc.use.length + 64)) t (linesOf n) s

/-- R19, R21, R22: `n` bytes of data for core `c` that leave their memory from ck `first` on, the last at ck `last`, cross the
bridge to it: when the last has arrived. Every access of a core is admitted in locked timing, and in open timing one to the
far casting; the 48 ck of the crossing pad a near one. -/
def crossIn (s : State) (c : Nat) (far : Bool) (first last n : Nat) : Nat × State :=
  if s.locked || far then
    let (e, s) := bridgeAdmit s c (inward s c) first n
    (max e last + 48, s)
  else (last + 48, s)

/-- R19–R22: `n` bytes of an owner other than a core cross from casting `a` to casting `b` from ck `t` on: when they have
crossed. -/
def crossOther (s : State) (o a b t n : Nat) : Nat × State :=
  if a = b then (t, s)
  else
    let (e, s) := bridgeAdmit s o a t n
    (e + 48, s)

/-! ## The Tundish clock and its banks (R220–R224) -/

/-- R221: the first tk edge at or after ck `t`, in tk since the most recent tick. -/
def tkUp (s : State) (t : Nat) : Nat := ceilDiv ((t - tickBefore s t) * 1500) s.ckPerUs

/-- R220: the bank of a die that holds row `r` of the tile with per-die index `u`. -/
def bankOf (u r : Nat) : Nat := (u + r) % 128

/-- R221, R222: the tk in which bank `b` of die `d` serves an access of owner `o` that is there from tk `k` on: not the bank's
reserved tk, in locked timing one of the owner's, with the bank free and room in the die's crossbar. -/
def bankTk (o d b base : Nat) : Nat → Nat → State → Nat
  | 0, k, _ => k
  | fuel + 1, k, s =>
    let ok := k % 64 != b % 64 && (!s.locked || schedOwner s 0 ((k + b) % 64) == o) &&
      used s (4 + 128 * d + b) (base + k) == 0 && decide (used s (2 + d) (base + k) < 125)
    if ok then k else bankTk o d b base fuel (k + 1) s

/-- One line access of a bank; one that writes less than whole words takes 3 of the bank's tk (R224). The last tk taken. -/
def bankServe (o d b base : Nat) : Nat → Nat → State → Nat × State
  | 0, k, s => (k, s)
  | n + 1, k, s =>
    let k := bankTk o d b base (64 * 64 + s.acc.use.length) k s
    let s := takeUse (takeUse s (4 + 128 * d + b) (base + k) 1) (2 + d) (base + k) 1
    if n = 0 then (k, s) else bankServe o d b base n (k + 1) s

/-- Line accesses of a die, each a bank, its earliest tk and its tk count, served in order: the first and the last tk. -/
def serveLines (o d base : Nat) : List (Nat × Nat × Nat) → Option Nat → Nat → State → Option Nat × Nat × State
  | [], f, l, s => (f, l, s)
  | (b, k, n) :: rest, f, l, s =>
    let (k, s) := bankServe o d b base n k s
    serveLines o d base rest (some (min (f.getD k) k)) (max l k) s

/-- R220, R221: the line accesses of `n` bytes from Tundish address `a` within one tile, from tk `k` on, as a port that admits
`port` bytes a tk paces them; a tile's sidecar lines travel beside its payload. -/
def tunLines (a n port k : Nat) (write tile : Bool) : List (Nat × Nat × Nat) :=
  let t := a / 16384
  let r0 := a / 128
  let cnt := if n = 0 then 0 else (a + n - 1) / 128 - r0 + 1
  let part := fun (i : Nat) =>
    let lo := max a ((r0 + i) * 128)
    let hi := min (a + n) ((r0 + i + 1) * 128)
    if write && decide (lo % 16 ≠ 0 ∨ hi % 16 ≠ 0) then 3 else 1
  (List.range cnt).map (fun i => (bankOf (t / 2) ((r0 + i) % 128), k + i * 128 / port, part i)) ++
    (if tile then (List.range 16).map (fun j => (bankOf (t / 2) j, k, 1)) else [])

/-- R221–R223: an access of owner `o` to bytes of one Tundish tile that reaches the banks at ck `t`: the tk that its first and
its last line wait there. -/
def tunServe (s : State) (o a n : Nat) (write tile : Bool) (t : Nat) : Nat × Nat × State :=
  let k := tkUp s t
  let (f, l, s) := serveLines o (tunDie a) (tickBefore s t) (tunLines a n (if write then 2000 else 4000) k write tile)
    none k s
  (f.getD k - k, l - k, s)

/-! ## The HBM controllers (R250, R251, R257, R258, R261) -/

/-- The first hk edge at or after ck `t`, in hk, and the ck of an hk. -/
def hkUp (s : State) (t : Nat) : Nat := ceilDiv (t * 1200) s.ckPerUs
def ckOfHk (s : State) (h : Nat) : Nat := hkCk s h

/-- R250: the pseudo-channel of the device (32 × stack + k) that holds an HBM address. -/
def pcAt (a : Nat) : Nat :=
  let t := a / 16384
  t % 12 * 32 + t / 12 % 4 + 4 * (a % 16384 / 2048)

/-- R251: the pseudo-channels an access touches. -/
def pcsOf (s : State) (tile : Bool) (a n : Nat) : List Nat :=
  if tile then (List.range 8).map (fun e => pcAt (a + 2048 * e)) ++ [pcAt (hbmSideAddr s (a / 16384))]
  else if n = 0 then []
  else if pcAt a = pcAt (a + n - 1) then [pcAt a] else [pcAt a, pcAt (a + n - 1)]

/-- R248, R259: the sectors an access takes at a pseudo-channel: 64 for an eighth, and for bytes of a tile those that lie
there; a write of less than a sector takes 8. -/
def sectorsAt (tile write : Bool) (a n pc : Nat) : Nat :=
  if tile then 64
  else
    let lo := max a (if pcAt a = pc then a else (a + n - 1) / 2048 * 2048)
    let hi := min (a + n) ((lo / 2048 + 1) * 2048)
    let first := lo / 32
    let k := (hi - 1) / 32 - first + 1
    let cut := fun (x : Nat) => b2n (x % 32 != 0)
    if write then k + 7 * (if k = 1 then max (cut lo) (cut hi) else cut lo + cut hi) else k

/-- An access that waits at the controllers: a core's read in flight (`core` 0–3, `idx` its place there) or one of the
controllers' queue (`core` 4). -/
structure HCand where
  core : Nat
  idx : Nat
  part : Nat
  write : Bool
  tile : Bool
  addr : Nat
  len : Nat
  arr : Nat
  parts : List Nat
deriving DecidableEq, Repr

/-- The request slots of a core. -/
def State.run (s : State) (c : Nat) : RunSt := (s.core c).run
def modRun (s : State) (c : Nat) (f : RunSt → RunSt) : State := s.modCore c (fun x => { x with run := f x.run })

/-- R257: the accesses that wait at the controllers, each partition's oldest first. -/
def hbmWaiting (s : State) : List HCand :=
  (((List.range 4).flatMap (fun c => ((s.run c).flight.zipIdx.filter (fun x =>
      x.1.req.type == 1 && x.1.due.isNone && !x.1.parts.isEmpty)).map (fun (x : Flight × Nat) =>
    ({ core := c, idx := x.2, part := c, write := false, tile := x.1.req.tile, addr := x.1.req.addr, len := x.1.req.len,
       arr := x.1.arr, parts := x.1.parts } : HCand)))) ++
  (s.acc.hq.zipIdx.map (fun (x : HReq × Nat) =>
    ({ core := 4, idx := x.2, part := x.1.part, write := x.1.write, tile := x.1.tile, addr := x.1.addr, len := x.1.len,
       arr := x.1.arr, parts := x.1.parts } : HCand)))).mergeSort (fun a b => decide (a.arr ≤ b.arr))

/-- R258: the token bucket of partition `p` at a stack at hk `h`, in 1/32 of a sector. -/
def bucketAt (s : State) (k p h : Nat) : Int :=
  let (l, t) := sget (0, 0) s.acc.bucket (8 * k + p)
  min (s.fld HBM.PART_REG_BURST 0 p * 1024 : Nat) (l + (s.fld HBM.PART_REG_RATE 0 p * (h - t) : Nat))

/-- R258: the hk from `h` on at which the bucket of a partition is above zero; none where it never is. -/
def bucketOpens (s : State) (k p h : Nat) : Option Nat :=
  let l := bucketAt s k p h
  let r := s.fld HBM.PART_REG_RATE 0 p
  if 0 < l then some h
  else if r = 0 ∨ s.fld HBM.PART_REG_BURST 0 p = 0 then none
  else some (h + (-l).toNat / r + 1)

/-- R258: the hk in which a pseudo-channel could serve a waiting access of a partition, and whether it is within rate then: an
access out of rate waits for its bucket where its partition has `HARD` set. -/
def serveHk (s : State) (pc : Nat) (x : HCand) : Option (Nat × Bool) :=
  let h := max (sget 0 s.acc.pcFree pc) (hkUp s x.arr)
  if 0 < bucketAt s (pc / 32) x.part h then some (h, true)
  else if s.flag HBM.PART_REG_HARD 0 x.part then (bucketOpens s (pc / 32) x.part h).map (fun t => (t, true))
  else some (h, false)

/-- R258: of two accesses at a pseudo-channel the one it serves first: the earlier, then the one within rate, then the older. -/
def servesBefore (a b : Nat × Bool × HCand) : Bool :=
  decide (a.1 < b.1) || (a.1 == b.1 && ((a.2.1 && !b.2.1) || (a.2.1 == b.2.1 && decide (a.2.2.arr ≤ b.2.2.arr))))

/-- The first of a list under an order. -/
def firstBy {α : Type} (le : α → α → Bool) : List α → Option α
  | [] => none
  | x :: xs =>
    match firstBy le xs with
    | none => some x
    | some y => if le x y then some x else some y

/-- R258: the next service in open timing: the pseudo-channel, the access, and the hk it begins. -/
def nextService (s : State) : Option (Nat × HCand × Nat) :=
  let ws := hbmWaiting s
  let pcs := (ws.flatMap HCand.parts).eraseDups
  let picks := pcs.filterMap (fun pc =>
    (firstBy servesBefore ((ws.filter (fun x => x.parts.contains pc)).filterMap (fun x =>
      (serveHk s pc x).map (fun (y : Nat × Bool) => (y.1, y.2, x))))).map (fun (z : Nat × Bool × HCand) => (pc, z.2.2, z.1)))
  firstBy (fun a b => decide (a.2.2 ≤ b.2.2)) picks

/-- The k-th item of a list changed. -/
def setNth {α : Type} : List α → Nat → α → List α
  | [], _, _ => []
  | _ :: xs, 0, y => y :: xs
  | x :: xs, n + 1, y => x :: setNth xs n y

/-- R128: bytes per ck the read port of a core admits, whatever the timing. -/
def portRate (s : State) : Nat := if s.endurance then 3000 else 2500

/-- R19, R21, R128: the data of a request of core `c` reaches it: it crosses the bridge and passes the read port. -/
def deliverAt (s : State) (c : Nat) (far : Bool) (first last n : Nat) : Nat × State :=
  let (e, s) := crossIn s c far first last n
  let d := max e (max (first + 48) (s.run c).portFree + ceilDiv n (portRate s))
  (d, modRun s c (fun x => { x with portFree := d }))

/-- R17, R19: an access of core `c` to HBM goes to the far casting. -/
def hbmFar (s : State) (c a : Nat) : Bool := hbmStack a / 6 != coreCasting s c

/-- An answer to a memory request that may be sent from ck `t` on. -/
def answerAt (s : State) (answer : Option Packet) (t : Nat) : State :=
  match answer with
  | some m => { s with transit := s.transit ++ [{ m with notBefore := t }] }
  | none => s

/-- R261: a core's read in flight, its `idx`-th, served at a pseudo-channel. Its first data leaves at ck `first` and its service
there ends at ck `stop`; when the last has served it it is on its way to the core. -/
def flightServed (s : State) (c idx : Nat) (f : Flight) (pc first stop : Nat) : State :=
  let f := { f with parts := f.parts.erase pc, first := some (min (f.first.getD first) first), ready := max f.ready stop }
  if f.parts.isEmpty then
    let r := deliverAt s c (hbmFar s c f.req.addr) (f.first.getD first) f.ready f.req.len
    modRun r.2 c (fun x => { x with flight := setNth x.flight idx { f with due := some r.1 } })
  else modRun s c (fun x => { x with flight := setNth x.flight idx f })

/-- R261: an access served whole leaves the controllers' queue: a core's write is acknowledged, another owner's access answered. -/
def queueServed (s : State) (q : HReq) (first : Nat) : State :=
  let home := hbmStack q.addr / 6
  let back := if home = q.cast then 0 else 48
  if q.cast = 2 then modRun s q.part (fun r => { r with ackCk := max r.ackCk (q.ready + 48) })
  else if q.write then answerAt s q.answer (q.ready + back)
  else
    let r := crossOther s q.part home q.cast (q.first.getD first) q.len
    answerAt r.2 q.answer (max r.1 (q.ready + back))

/-- R261: a waiting access served at a pseudo-channel. Its first data leaves at ck `first` and its service there ends at ck
`stop`. -/
def markServed (s : State) (x : HCand) (pc first stop : Nat) : State :=
  if x.core < 4 then
    match (s.run x.core).flight[x.idx]? with
    | none => s
    | some f => flightServed s x.core x.idx f pc first stop
  else
    match s.acc.hq[x.idx]? with
    | none => s
    | some q =>
      let q := { q with parts := q.parts.erase pc, first := some (min (q.first.getD first) first), ready := max q.ready stop }
      if q.parts.isEmpty then queueServed { s with acc := { s.acc with hq := s.acc.hq.eraseIdx x.idx } } q first
      else { s with acc := { s.acc with hq := setNth s.acc.hq x.idx q } }

/-- R258, R261: the next service of open timing carried out: the pseudo-channel is taken for its sectors, which the bucket
pays, and the data follows 120 hk after a read's start, 40 hk after a write's. -/
def serveOpen (s : State) (pc : Nat) (x : HCand) (h : Nat) : State :=
  let n := sectorsAt x.tile x.write x.addr x.len pc
  let s := { s with acc := { s.acc with
    pcFree := sset 0 s.acc.pcFree pc (h + n),
    bucket := sset (0, 0) s.acc.bucket (8 * (pc / 32) + x.part) (bucketAt s (pc / 32) x.part h - (32 * n : Nat), h) } }
  let lat := if x.write then 40 else 120
  markServed s x pc (ckOfHk s (h + lat)) (ckOfHk s (h + lat + (if x.write then 0 else n)))

/-- R258: services of open timing that begin at or before ck `t` carried out, in order. -/
def hbmAdvance : Nat → Nat → State → State
  | 0, _, s => s
  | fuel + 1, t, s =>
    if s.locked then s else
    match nextService s with
    | some (pc, x, h) => if ckOfHk s h ≤ t then hbmAdvance fuel t (serveOpen s pc x h) else s
    | none => s

/-- How many services the waiting accesses still need. -/
def hbmLeft (s : State) : Nat := (hbmWaiting s).foldl (fun n x => n + x.parts.length) 0

/-- R257, R261: an access of partition `q.part` that reaches its controllers at ck `q.arr` waits there. -/
def hbmQueue (s : State) (q : HReq) : State :=
  let q := { q with parts := pcsOf s q.tile q.addr q.len }
  if q.parts.isEmpty then answerAt s q.answer q.arr
  else { s with acc := { s.acc with hq := s.acc.hq ++ [q] } }

/-! ## Writes of a core (R19, R223, R257, R261) -/

/-- R19, R21, R223, R261: a write of `n` bytes at address `a` of a memory by core `c`: the bridge that it crosses, or in locked
timing is admitted to, the banks or the controllers it takes, and when it is acknowledged. -/
def noteWrite (s : State) (c : Nat) (p : Place) (a n : Nat) (tile : Bool) : State :=
  match p with
  | .tun =>
    let (t, s) := if s.locked || tunDie a != coreCasting s c then bridgeAdmit s c (outward s c) s.ck n else (s.ck, s)
    let (_, w, s) := tunServe s c a n true tile t
    modRun s c (fun r => { r with ackCk := max r.ackCk (t + 48 + tkCk s (24 + w)) })
  | .hbm =>
    let (t, s) := if s.locked || hbmFar s c a then bridgeAdmit s c (outward s c) s.ck n else (s.ck, s)
    hbmQueue s { part := c, write := true, tile := tile, addr := a, len := n, arr := t + 48, parts := [] }
  | _ => s

/-! ## Accesses of the other owners (R19–R22, R221, R222, R257) -/

/-- An access of an owner other than a core: the owner (4 the fabric, 5 Ingot staging, 6 the Steward), which is its HBM
partition too, its casting, and the operation slot it works for (4 none). -/
structure Owner where
  o : Nat
  cast : Nat
  slot : Nat := 4
deriving DecidableEq, Repr

/-- R19–R22: the request of an access of an owner other than a core, with a write's data, goes to the casting that holds the
memory: when it is there. -/
def goThere (s : State) (w : Owner) (write : Bool) (home n t : Nat) : Nat × State :=
  if write then crossOther s w.o w.cast home t n else (t + (if w.cast = home then 0 else 48), s)

/-- R221–R223: an access of an owner other than a core that reaches the Tundish banks at ck `t`: 24 tk to a write's
acknowledgement, 40 tk to a read's data, which crosses back. -/
def otherTun (s : State) (w : Owner) (write tile : Bool) (a n t : Nat) (answer : Option Packet) : State :=
  let home := tunDie a
  let back := if w.cast = home then 0 else 48
  let r := tunServe s w.o a n write tile t
  if write then answerAt r.2.2 answer (t + tkCk r.2.2 (24 + r.2.1) + back)
  else
    let x := crossOther r.2.2 w.o home w.cast (t + tkCk r.2.2 (40 + r.1)) n
    answerAt x.2 answer (max x.1 (t + tkCk x.2 (40 + r.2.1) + back))

/-- R19–R22, R221–R223, R261: an access of an owner other than a core at ck `t`, with its answer: what it takes of the bridge and
of the banks, or its place at the HBM controllers. No padding delays one on its own casting (R19), so a Tundish read there
takes 40 tk and a write 24 tk. -/
def otherAccess (s : State) (w : Owner) (p : Place) (write tile : Bool) (a n t : Nat) (answer : Option Packet) : State :=
  match p with
  | .tun =>
    let r := goThere s w write (tunDie a) n t
    otherTun r.2 w write tile a n r.1 answer
  | .hbm =>
    let r := goThere s w write (hbmStack a / 6) n t
    hbmQueue r.2 { part := w.o, write := write, tile := tile, addr := a, len := n, arr := r.1, parts := [], cast := w.cast,
                   slot := w.slot, answer := answer }
  | _ => s

end Sys2Proof.Machine
end

