-- ==== Sys2Proof/Machine/IngotMap.lean ====
section
/-!
DEFINITION. Machine/IngotMap.lean: the Ingot Store's targets, blocks, map, map log and write budget (R264–R276): what a
page program does, and what the Runners' writes to area 0 leave for it (R270).
-/
namespace Sys2Proof.Machine

open Sys2Proof

/-! ## Targets, blocks and pages -/

/-- A target, numbered channel × 4 + target (R277), in service: present, and neither rejected, retired nor failed, on a
channel that is up. -/
def tgtUsable (s : State) (tg : Nat) : Bool :=
  let ch := tg / 4
  let t := tg % 4
  let st := s.fld INGCH.CH_STATE_STATE ch
  (st == 1 || st == 2) && bit (s.fld INGCH.CH_STATE_TGT_PRESENT ch) t && !bit (s.fld INGCH.CH_STATE_TGT_REJECT ch) t &&
  !bit (s.fld INGCH.CH_STATE_TGT_RETIRED ch) t && !bit (s.fld INGCH.CH_STATE_TGT_FAILED ch) t

/-- R278: the target has failed. -/
def tgtFailed (s : State) (tg : Nat) : Bool := bit (s.fld INGCH.CH_STATE_TGT_FAILED (tg / 4)) (tg % 4)

/-- The blocks of a target: LUNs × blocks per LUN. -/
def tgtBlocks (s : State) (tg : Nat) : Nat :=
  s.fld INGCH.TGT_GEOM_LUNS (tg / 4) (tg % 4) * s.fld INGCH.TGT_GEOM_BLOCKS (tg / 4) (tg % 4)

/-- R269: tR and tPROG of a target in µs. -/
def tgtTR (s : State) (tg : Nat) : Nat := s.fld INGCH.TGT_GEOM_TR (tg / 4) (tg % 4)
def tgtTProg (s : State) (tg : Nat) : Nat := s.fld INGCH.TGT_GEOM_TPROG (tg / 4) (tg % 4)

/-- The key of block `b` of a target, and of a page in it. -/
def blkKey (tg b : Nat) : Nat := tg * 2 ^ 24 + b
def pageKey (k i : Nat) : Nat := k * 2 ^ 16 + i
def pageBlk (p : Nat) : Nat := p / 2 ^ 16
def blkTgt (k : Nat) : Nat := k / 2 ^ 24
def pageTgt (p : Nat) : Nat := blkTgt (pageBlk p)

/-- A block. -/
def fblk (s : State) (k : Nat) : FBlk := sget {} s.ing.blocks k

/-- A block changed. -/
def setFblk (s : State) (k : Nat) (b : FBlk) : State := { s with ing := { s.ing with blocks := sset {} s.ing.blocks k b } }

/-- The blocks of a target. -/
def tgtKeys (s : State) (tg : Nat) : List Nat := (List.range (tgtBlocks s tg)).map (blkKey tg)

/-- The blocks of a target in a state (`FBlk.st`). -/
def blksIn (s : State) (tg st : Nat) : List Nat := (tgtKeys s tg).filter (fun k => (fblk s k).st == st)

/-- The block of a list with the lowest P/E count, the lower number first among equals. -/
def lowestPe (s : State) : List Nat → Option Nat
  | [] => none
  | k :: ks =>
    match lowestPe s ks with
    | none => some k
    | some j => if (fblk s j).pe < (fblk s k).pe then some j else some k

/-- R267: the usable pages of the store. -/
def usablePages (s : State) : Nat :=
  (List.range 64).foldl (fun n tg =>
    if tgtUsable s tg then n + ((tgtKeys s tg).filter (fun k => (fblk s k).st != 3)).length * s.ing.ppb else n) 0

/-- The sum of the area sizes in tiles. -/
def areaSum (s : State) : Nat := (List.range 7).foldl (fun n a => n + s.reg ING.AREA_TILES 0 a) 0

/-- R274, R277: a number of usable pages is below 16/15 of the area sizes. -/
def spaceShort (s : State) (pages : Nat) : Bool := decide (pages * 15 < areaSum s * 16)

/-! ## The map (R268) -/

/-- The key of a logical tile. -/
def mapKey (area tile : Nat) : Nat := area * 2 ^ 40 + tile

/-- The page of a logical tile. -/
def mapped (s : State) (area tile : Nat) : Option Nat :=
  match sget 0 s.ing.map (mapKey area tile) with
  | 0 => none
  | p + 1 => some p

/-- The tile of a page, if the page is valid. -/
def pageTile (s : State) (p : Nat) : Option Nat := (s.ing.map.find? (fun e => e.2 == p + 1)).map Prod.fst

/-- The logical tiles whose pages lie in a block. -/
def blkTiles (s : State) (k : Nat) : List Nat := (s.ing.map.filter (fun e => pageBlk (e.2 - 1) == k)).map Prod.fst

/-- The logical tiles whose pages lie on a target. -/
def tgtTiles (s : State) (tg : Nat) : List Nat := (s.ing.map.filter (fun e => pageTgt (e.2 - 1) == tg)).map Prod.fst

/-- R268: an access looks its map page up: a miss reads the page and replaces the least recently used one. -/
def mapAccess (s : State) (area tile : Nat) : Bool × State :=
  let m := mapKey area tile / 4096
  let hit := s.ing.mapc.contains m
  let s := { s with ing := { s.ing with mapc := (m :: s.ing.mapc.filter (fun x => x != m)).take 8192 } }
  (hit, if hit then s.bump ING.MAPC_HITS else s.bump ING.MAPC_MISSES)

/-! ## Page programs (R273, R275, R276) -/

/-- R276: a signed 64-bit register. -/
def bucket (s : State) : Int := toSigned 64 (s.reg ING.WB_BUCKET)
def setBucket (s : State) (v : Int) : State := s.setReg ING.WB_BUCKET (ofSigned 64 v)

/-- R275: the daily budget of a rated endurance and a capacity. -/
def wbDaily (pe bytes : Nat) : Nat := pe * bytes / 2557

/-- R275: `PHYS_BYTES` and `WB_DAY` recomputed. -/
def wbRecompute (s : State) : State :=
  let s := s.setReg ING.PHYS_BYTES (usablePages s * 16384)
  s.setReg ING.WB_DAY (wbDaily (s.reg ING.PE_RATED) (s.reg ING.PHYS_BYTES))

/-- R275, R276: one page programmed counts 16,384 bytes and leaves the bucket by as much. -/
def wbCharge (s : State) : State := setBucket (s.wrapAdd ING.WB_USED 16384) (bucket s - 16384)

/-- The open block of a target, opening the free block with the lowest P/E count where none is open (R273). -/
def openBlock (s : State) (tg : Nat) : Option Nat :=
  match blksIn s tg 1 with
  | k :: _ => some k
  | [] => lowestPe s (blksIn s tg 0)

/-- R273: the target of the next write: the next channel in rotation, its targets in turn (log entry 41), skipping one
that is being retired or has no block to open. -/
def nextTarget (s : State) : Option Nat :=
  ((List.range 64).map (fun i => let n := (s.ing.next + i) % 64; n % 16 * 4 + n / 16)).find? (fun tg =>
    tgtUsable s tg && s.ing.retiring != some tg && (openBlock s tg).isSome)

/-- R273: a page of a target's open block is taken: the block, when it fills, is full. -/
def takePage (s : State) (tg : Nat) : Option (Nat × State) :=
  (openBlock s tg).map (fun k =>
    let b := fblk s k
    let p := pageKey k b.used
    let n := b.used + 1
    let s := setFblk s k { b with used := n, st := if s.ing.ppb ≤ n then 2 else 1 }
    let s := { s with ing := { s.ing with next := (s.ing.next + 1) % 64 } }
    (p, (wbCharge s).wrapAdd INGCH.PR_PAGES 1 (tg / 4)))

/-- R270: one update enters the map log; a log page is programmed when it fills. -/
def logUpdate (s : State) : State :=
  let s := { s with ing := { s.ing with log := s.ing.log + 1 } }
  if s.ing.log < 2048 then s
  else
    let s := { s with ing := { s.ing with log := 0 } }
    match (nextTarget s).bind (takePage s) with
    | some (_, s) => s
    | none => s

/-- R270: what has been logged and not programmed is programmed as a log page. -/
def logFlush (s : State) : State :=
  if s.ing.log = 0 then s
  else
    let s := { s with ing := { s.ing with log := 0 } }
    match (nextTarget s).bind (takePage s) with
    | some (_, s) => s
    | none => s

/-- The map entry of a logical tile set to a page. -/
def setMap (s : State) (area tile page : Nat) : State :=
  logUpdate { s with ing := { s.ing with map := sset 0 s.ing.map (mapKey area tile) (page + 1) } }

/-- Area 0's contents of a tile. -/
def setIngTile (s : State) (tile : Nat) (payload side : List Byte) : State :=
  { s with ing := { s.ing with bytes := writeBytes s.ing.bytes (tile * 16384) payload,
                               side := writeBytes s.ing.side (tile * 2048) side } }

/-- R271: the Ingot reads of a tile that were issued before its map update read its old page. -/
def keepOld (s : State) (tile : Nat) : State :=
  let x := (mapped s 0 tile, readBytes s.ing.bytes (tile * 16384) 16384, readBytes s.ing.side (tile * 2048) 2048)
  { s with cores := s.cores.map (fun c => { c with run := { c.run with flight := c.run.flight.map (fun f =>
      if f.req.type = 2 ∧ f.req.addr / 16384 = tile ∧ f.due.isNone ∧ ¬ f.done ∧ f.old.isNone ∧ (f.cached.isNone ∨ f.fills) then
        { f with old := some x } else f) } }) }

/-- R268: a tile of area 0 is unmapped: it reads as zeros, and cached copies of it go (R236). -/
def unmapTile (s : State) (tile : Nat) : State :=
  let s := keepOld s tile
  let s := if (mapped s 0 tile).isSome then
      logUpdate { s with ing := { s.ing with map := sset 0 s.ing.map (mapKey 0 tile) 0 } } else s
  invalidate (setIngTile s tile (zeros 16384) (zeros 2048)) 2 0 tile

/-- R267: of areas 4 and 5, which hold two copies, copy `k` is logical tile `k`, and it is placed on a channel of casting `k` while
one can take it; any other tile goes to the next target. -/
def targetFor (s : State) (area tile : Nat) : Option Nat :=
  let all := (List.range 64).map (fun i => let n := (s.ing.next + i) % 64; n % 16 * 4 + n / 16)
  if area = 4 ∨ area = 5 then
    (all.find? (fun tg => tg / 32 == tile % 2 && tgtUsable s tg && s.ing.retiring != some tg && (openBlock s tg).isSome)).orElse
      (fun _ => nextTarget s)
  else nextTarget s

/-- A page written by the Ingot Store or the Steward itself, which never waits (R276): it is mapped as `tile` of an
area. `none` where no page is free. -/
def programOwn (s : State) (area tile : Nat) : Option State :=
  ((targetFor s area tile).bind (takePage s)).map (fun x => setMap x.2 area tile x.1)

/-! ## Writes accepted (R270) -/

/-- `bs` with bytes from `off` replaced. -/
def patch (bs : List Byte) (off : Nat) (x : List Byte) : List Byte := bs.take off ++ x ++ bs.drop (off + x.length)

/-- R270: a change of a tile of area 0 by a descriptor joins the descriptor's write of that tile; the first one starts
from the tile's current page. -/
def ingWrite (s : State) (c seq tile : Nat) (f : List Byte × List Byte → List Byte × List Byte) : State :=
  let same := fun (w : IngWrite) => w.core == c && w.seq == seq && w.area == 0 && w.tile == tile && w.page.isNone
  if s.ing.writes.any same then
    { s with ing := { s.ing with writes := s.ing.writes.map (fun w =>
        if same w then let (p, d) := f (w.payload, w.side); { w with payload := p, side := d } else w) } }
  else
    let (p, d) := f (readBytes s.ing.bytes (tile * 16384) 16384, readBytes s.ing.side (tile * 2048) 2048)
    { s with ing := { s.ing with writes := s.ing.writes ++
        [{ core := c, seq := seq, area := 0, tile := tile, payload := p, side := d }] } }

end Sys2Proof.Machine
end

