-- ==== Sys2Proof/Machine/Remote.lean ====
section
/-!
DEFINITION. Machine/Remote.lean: read requests and their slots (R241–R243, R246, R251, R261), remote reads and writes as
messages (R311–R315), and how a request is issued.
-/
namespace Sys2Proof.Machine

open Sys2Proof

/-! ## Requests (R241, R251) -/

/-- The slot set of a region's type: 0 local, 1 remote, 2 Ingot. -/
def slotKind (type : Nat) : Nat := if type = 3 then 1 else if type = 2 then 2 else 0

/-- The request of tile `j` of a region, for place `tag`. -/
def tileReq (r : Region) (j tag : Nat) : Req :=
  { kind := slotKind r.type, type := r.type, dev := r.dev, rtype := r.rtype,
    addr := r.addr (j * 16384) / 16384 * 16384, len := 16384, tile := true, tag := tag }

/-- The requests of the first `n` tiles of a region. -/
def tileReqs (r : Region) (n tag0 : Nat) : List Req := (List.range n).map (fun j => tileReq r j (tag0 + j))

/-- The parts of `n` bytes from `a` that lie in one 2 KiB eighth each: at most 64 sectors (R241). -/
def eighths (a n : Nat) : List (Nat × Nat) :=
  (List.range (ceilDiv (a % 2048 + n) 2048)).map (fun i =>
    let lo := max a ((a / 2048 + i) * 2048)
    (lo, min (a + n) ((a / 2048 + i + 1) * 2048) - lo))

/-- The sector requests of bytes `off` … `off + n` of a region. -/
def sectorReqs (r : Region) (off n tag0 : Nat) : List Req :=
  (((r.chunks (n + 1) off n).flatMap (fun x => eighths x.1 x.2)).zipIdx).map (fun (x : (Nat × Nat) × Nat) =>
    { kind := slotKind r.type, type := r.type, dev := r.dev, rtype := r.rtype, addr := x.1.1, len := x.1.2, tile := false,
      tag := tag0 + x.2 })

/-- R251: the pseudo-channels a request touches. -/
def Req.pcs (s : State) (r : Req) : List Nat := if r.type ≠ 1 then [] else pcsOf s r.tile r.addr r.len

/-! ## Slots (R241, R242) -/

/-- The slots of a kind a core uses; a remote write holds a remote slot as a read does (R314). -/
def slotsUsed (s : State) (c k : Nat) : Nat :=
  ((s.run c).flight.filter (fun f => f.req.kind == k)).length +
    (if k = 1 then (s.remote.filter (fun r => r.core == c && r.write)).length else 0)

/-- The local slots of a core that touch a pseudo-channel. -/
def pcUsed (s : State) (c pc : Nat) : Nat :=
  ((s.run c).flight.filter (fun f => f.req.kind == 0 && (f.req.pcs s).contains pc)).length

/-- `RUN.STATE` shows the slots in use and whether a descriptor is in execution. -/
def showRun (s : State) (c : Nat) : State :=
  s.setReg RUN.STATE (slotsUsed s c 0 + slotsUsed s c 1 * 2 ^ 6 + slotsUsed s c 2 * 2 ^ 13 +
    b2n (!(s.eng c .runners).busy.isEmpty) * 2 ^ 21) c

/-! ## Remote memory as messages (R311–R315) -/

/-- The lowest request tag not in use. -/
def freeTag (s : State) : Nat :=
  ((List.range (s.remote.length + 1)).find? (fun t => !s.remote.any (fun r => r.tag == t))).getD 0

/-- R314: the ck at which a request sent now times out. -/
def e2eDeadline (s : State) : Nat := s.ck + s.reg ROUT.E2E_TIMEOUT * s.ckPerUs

/-- R314: a remote request is recorded and its message sent; `ROUT.INJ.TIMEOUT` loses the message. -/
def sendRemote (s : State) (rq : RemReq) (mkind word : Nat) (body : List Byte) : State :=
  let lost := s.armed ROUT.INJ_TIMEOUT
  let s := if lost then s.disarm ROUT.INJ_TIMEOUT else s
  let s := { s with remote := s.remote ++ [rq] }
  if lost then s else sendMsg s 2 mkind rq.dest false word body

/-- R312: a `RD_REQ` for a request of descriptor `seq`. A sector request asks for whole sectors (R313). -/
def sendRead (s : State) (c eng seq dest : Nat) (r : Req) : State :=
  let t := freeTag s
  let rq : RemReq := { tag := t, core := c, seq := seq, eng := eng, write := false, dest := dest, req := r,
                       deadline := e2eDeadline s }
  let a := if r.tile then r.addr else r.addr / 32 * 32
  let n := if r.tile then 18432 else ceilDiv (r.addr + r.len) 32 * 32 - a
  sendRemote s rq 0x01 (t + r.rtype * 2 ^ 16 + b2n r.tile * 2 ^ 18) (leBytes 6 a ++ leBytes 4 n)

/-- R312: a `WR`. -/
def sendWrite (s : State) (c : Nat) (w : RemWrite) : State :=
  let t := freeTag s
  let r : Req := { kind := 1, type := 3, dev := w.dest, rtype := w.rtype, addr := w.addr, len := w.data.length,
                   tile := w.tile }
  let rq : RemReq := { tag := t, core := c, seq := w.seq, eng := 0, write := true, dest := w.dest, req := r,
                       deadline := e2eDeadline s }
  sendRemote s rq 0x03 (t + w.rtype * 2 ^ 16 + b2n w.tile * 2 ^ 18) (leBytes 6 w.addr ++ leBytes 4 w.data.length ++ w.data)

/-- R314: remote writes that wait go out while remote slots are free. -/
def pumpWrites : Nat → State → Nat → State
  | 0, s, _ => s
  | n + 1, s, c =>
    match (s.run c).wq with
    | [] => s
    | w :: ws =>
      if 64 ≤ slotsUsed s c 1 then s
      else pumpWrites n (sendWrite (modRun s c (fun x => { x with wq := ws })) c w) c

/-- A remote write of a descriptor is queued and sent when a slot is free. -/
def putRemote (s : State) (c : Nat) (w : RemWrite) : State :=
  let s := modRun s c (fun x => { x with wq := x.wq ++ [w] })
  pumpWrites 64 s c

/-! ## Cached reads (R234, R235) -/

/-- Entry `i` of partition `p`'s slot table: 0 not owned, 1 read, 2 write, 3 either. -/
def slotEntry (s : State) (p i : Nat) : Nat := bits (s.reg HBM.SLOT_TABLE 0 (16 * p + i / 16)) (2 * (i % 16)) 2

/-- R234: the cache key of a request: its type, device (with its memory type) and source tile. -/
def Req.key (s : State) (c : Nat) (r : Req) : Nat × Nat × Nat :=
  (r.type, if r.type = 3 then s.fld SPR.RDEV_DEST c r.dev + r.rtype * 2 ^ 17 else 0, r.addr / 16384)

/-- R234: the user a core's read of a type allocates for. -/
def cacheUser (c type : Nat) : Nat := if type = 2 then 5 else c

/-- R234: a request is a tile read of a user in cache mode. -/
def cacheMode (s : State) (c : Nat) (r : Req) : Bool := r.tile && r.type != 0 && (quota s (cacheUser c r.type)).mode == 2

/-- R234: the entry that serves a request. -/
def reqEntry (s : State) (c : Nat) (r : Req) : Option CacheEnt :=
  if cacheMode s c r then
    let (t, d, n) := r.key s c
    cacheFind s t d n
  else none

/-- R234: a request misses, and allocates an entry when it is issued. -/
def needsEntry (s : State) (c : Nat) (r : Req) : Bool := cacheMode s c r && (reqEntry s c r).isNone

/-- Whether a request can take a slot now: it can, it has none, or a pseudo-channel's cap holds it. -/
inductive Fit where
  | yes | noSlot | cap
deriving DecidableEq, Repr

/-- R241: the Ingot read slots in use on the device. The Steward draws on the same pool for a copy from area 0 that is no bulk
copy to HBM (R272). -/
def ingSlots (s : State) : Nat :=
  (List.range 4).foldl (fun n k => n + slotsUsed s k 2) 0 +
    (s.lops.toList.filter (fun l => l.any (fun l => l.op == 1 && l.src.1 == 2 && l.dst.1 != 1))).length

/-- R235, R241: a request takes a slot of its set while one is free and its entry, where it misses, can be had. -/
def fit (s : State) (c : Nat) (r : Req) : Fit :=
  if needsEntry s c r && (allocTile s (cacheUser c r.type)).isNone then .noSlot
  else if r.kind = 0 then
    if 48 ≤ slotsUsed s c 0 then .noSlot
    else if (r.pcs s).any (fun pc => decide (s.fld RUN.CTRL_PC_CAP c ≤ pcUsed s c pc)) then .cap else .yes
  else if r.kind = 1 then (if 64 ≤ slotsUsed s c 1 then .noSlot else .yes)
  else if s.fld RUN.CTRL_ING_SLOTS c ≤ slotsUsed s c 2 ∨ 128 ≤ ingSlots s then .noSlot
  else .yes


/-! ## Issue (R223, R242, R243, R261) -/

/-- R80, R243: the feed of an engine may ask for its next tile: at most `RUNAHEAD` tiles ahead of its consumption. The
Mould consumes its sets' tiles (R80) and holds 3,072 tiles in the operand stage; the other engines take a tile as it comes.
A second copy is always asked for. -/
def feedMay (s : State) (c : Nat) (q : Requester) (r : Req) : Bool :=
  if q.eng = 5 ∨ 2 ^ 36 ≤ r.tag then true
  else if q.eng ≠ 1 then
    decide (((s.run c).flight.filter (fun f => f.eng == q.eng && f.seq == q.seq)).length ≤ s.fld RUN.CTRL_RUNAHEAD c)
  else
    let mld := (s.core c).mld
    match mld.jobs.find? (fun j => j.iss.seq == q.seq) with
    | none => false
    | some j =>
      let asked := q.total - q.todo.length
      let held := mld.jobs.foldl (fun n k => n + k.stage.length) 0 + mld.inq.length +
        ((s.run c).flight.filter (fun f => f.eng == 1)).length
      decide (asked < (needUpTo j j.round (j.set + 1)).length + s.fld RUN.CTRL_RUNAHEAD c ∧ held < 3072)

/-- R223: a read of the Tundish by core `c` asked for at this ck: when its data is delivered. -/
def tunRead (s : State) (c a n : Nat) (tile : Bool) : Nat × State :=
  let (wf, wl, s) := tunServe s c a n false tile (s.ck + 48)
  let t := s.ck + 48
  deliverAt s c (tunDie a != coreCasting s c) (t + tkCk s (40 + wf)) (t + tkCk s (40 + wl)) n

/-- A request's access to its memory begins: a Tundish read is on its way, an HBM read waits at its controllers (R261), an
Ingot read at the Ingot Store, and a remote one for its response. -/
def startAccess (s : State) (c : Nat) (f : Flight) : Flight × State :=
  let r := f.req
  if r.type = 0 then
    let (d, s) := tunRead s c r.addr r.len r.tile
    ({ f with due := some d }, s)
  else if r.type = 1 then ({ f with arr := s.ck + 48, parts := r.pcs s }, s)
  else if r.type = 2 then (f, s)
  else (f, sendRead s c f.eng f.seq (s.fld SPR.RDEV_DEST c r.dev) r)

/-- R234: a read served by a cache entry that holds its data reads the entry's Tundish tile. -/
def startHit (s : State) (c : Nat) (f : Flight) (t : Nat) : Flight × State :=
  let (d, s) := tunRead s c (t * 16384) 16384 true
  ({ f with cached := some t, fills := false, due := some d }, s)

/-- R234, R245: a request issued: a hit reads its entry, or waits while it fills; a miss allocates an entry and fetches; any
other read passes through. A fetch that an engine's feed makes is run-ahead. -/
def launch (s : State) (c : Nat) (q : Requester) (r : Req) : State :=
  let f : Flight := { eng := q.eng, seq := q.seq, req := r, arr := s.ck, frame := s.frame % 2 ^ 16 }
  let add := fun (x : Flight × State) => modRun x.2 c (fun y => { y with flight := y.flight ++ [x.1] })
  match reqEntry s c r with
  | some e =>
    let s := cacheHit s c e
    if e.fill then add ({ f with cached := some e.tile }, s) else add (startHit s c f e.tile)
  | none =>
    if needsEntry s c r then
      let (t, d, n) := r.key s c
      match allocEntry s (cacheUser c r.type) t d n (q.eng != 5) with
      | some (tile, s) =>
        let s := s.bump RUN.CACHE_MISSES 1 c
        let s := if q.eng ≠ 5 then s.bump RUN.PF_ISSUED 1 c else s
        add (startAccess s c { f with cached := some tile, fills := true })
      | none => s
    else add (startAccess s c f)

/-- R234: the fetch of an entry ends. One that brought the data fills it, and the reads that waited for it read it; one that
failed (`none`) leaves no entry, and they go to their source. -/
def fillDone (s : State) (t : Nat) (data : Option (List Byte × List Byte)) : State :=
  let s := match data with
    | some (pl, sd) => fillEntry s t pl sd
    | none => setCache s (s.tun.cache.filter (fun e => e.tile != t))
  (List.range 4).foldl (fun s c =>
    ((s.run c).flight.zipIdx.filter (fun (x : Flight × Nat) => x.1.cached == some t && !x.1.fills && x.1.due.isNone)).foldl
      (fun s x =>
        let (g, s) := if data.isSome then startHit s c x.1 t else startAccess s c { x.1 with cached := none }
        modRun s c (fun y => { y with flight := setNth y.flight x.2 g })) s) s

/-- A request leaves its slot. -/
def landFlight (s : State) (c : Nat) (f : Flight) : State :=
  modRun s c (fun x => { x with flight := x.flight.erase f })

/-- The requests of a core are dropped; an entry that one of them was to fill has no data. -/
def dropFlights (s : State) (c : Nat) : State :=
  let fs := (s.run c).flight
  let s := modRun s c (fun x => { x with flight := [] })
  sweepGone (fs.foldl (fun s f => match f.cached with
    | some t => if f.fills then fillDone s t none else s
    | none => s) s)

/-- R244: the next-tile prefetcher after a demand read of HBM tile `t` by core `c`. -/
def prefetchNext (s : State) (c t : Nat) : State :=
  if !s.flag RUN.CTRL_PF_EN c || (t + 1) % 128 == 0 || (quota s c).mode != 2 then s
  else if (cacheFind s 1 0 (t + 1)).isSome then s
  else
    let p := (t + 1) / 128
    let g := bits (s.reg TUN.PGA 0 (p / 16)) (2 * (p % 16)) 2
    if g ≠ 3 then s.bump RUN.PF_SUPPRESSED 1 c
    else match allocEntry s c 1 0 (t + 1) true with
      | none => s
      | some (tile, s) =>
        let r : Req := { kind := 3, type := 1, dev := 0, rtype := 0, addr := (t + 1) * 16384, len := 16384, tile := true }
        let f : Flight := { eng := 0, seq := 0, req := r, cached := some tile, fills := true }
        let (f, s) := startAccess (s.bump RUN.PF_ISSUED 1 c) c f
        modRun s c (fun y => { y with flight := y.flight ++ [f] })

/-! ## No other traffic (R246) -/

/-- The state with nothing else under way at any memory, at ck `t`. -/
def alone (s : State) (t : Nat) : State :=
  { s with ck := t, acc := {}, cores := s.cores.map (fun x => { x with run := {} }) }

/-- When the data of a Tundish or HBM request of core `c` issued now is delivered, with none other under way. -/
def aloneDue (s : State) (c : Nat) (r : Req) : Nat × State :=
  let (f, s) := startAccess s c { eng := 5, seq := 0, req := r }
  let s := modRun s c (fun x => { x with flight := [f] })
  let s := hbmAdvance 16 (s.ck + 2 ^ 40) s
  ((((s.run c).flight.head?).bind Flight.due).getD s.ck, modRun s c (fun x => { x with flight := [] }))

/-- When the last of a list of local requests would arrive if the first 48 were issued at ck `t`, each later one when the
one 48 before it arrives (R241), and there were no other traffic. `held` are the arrivals that hold slots, oldest first. -/
def aloneLast (c t : Nat) : List Req → List Nat → Nat → State → Nat
  | [], _, l, _ => l
  | r :: rs, held, l, s =>
    let (t', held) := match held with
      | a :: as => if held.length = 48 then (a, as) else (t, held)
      | [] => (t, held)
    let (d, s) := aloneDue { s with ck := t' } c r
    aloneLast c t rs (held ++ [d]) (max l d) s

/-! ## Grants (R242) -/

/-- R242: the next requester in round-robin order whose next request can take a slot. -/
def nextGrant (s : State) (c : Nat) : Option (Nat × Requester × Req × List Req) :=
  let qs := (s.run c).requesters
  ((List.range qs.length).map (fun k => ((s.run c).rr + k) % qs.length)).findSome? (fun k =>
    match qs[k]? with
    | some q =>
      match q.todo with
      | r :: rs => if feedMay s c q r && fit s c r == .yes then some (k, q, r, rs) else none
      | [] => none
    | none => none)

/-- R242: one slot granted; the waits it ends are counted. -/
def grantOne (s : State) (c : Nat) : Option State :=
  (nextGrant s c).map (fun (k, q, r, rs) =>
    let s := s.wrapAdd RUN.SLOT_WAIT_CK ((q.waitFrom.map (fun t => s.ck - t)).getD 0) c
    let s := s.wrapAdd RUN.CAP_WAIT_CK ((q.capFrom.map (fun t => s.ck - t)).getD 0) c
    let s := modRun s c (fun x => { x with
      requesters := setNth x.requesters k { q with todo := rs, waitFrom := none, capFrom := none },
      rr := (k + 1) % x.requesters.length })
    launch s c q r)

/-- Slots are granted while some requester can take one. -/
def grantLoop : Nat → State → Nat → State
  | 0, s, _ => s
  | n + 1, s, c =>
    match grantOne s c with
    | some s => grantLoop n s c
    | none => s

/-- R242: what every requester left waiting waits for. -/
def markWaits (s : State) (c : Nat) : State :=
  modRun s c (fun x => { x with requesters := x.requesters.map (fun q =>
    match q.todo with
    | [] => q
    | r :: _ =>
      if !feedMay s c q r then q else
      match fit s c r with
      | .noSlot => if q.waitFrom.isSome then q else { q with waitFrom := some s.ck }
      | .cap => if q.capFrom.isSome then q else { q with capFrom := some s.ck }
      | .yes => q) })

/-- R241, R242: every slot that is free is granted. No request is issued in an idle frame (R208) or in quench. -/
def grantSlots (s : State) (c : Nat) : State :=
  if s.idleFrame || s.quenched then s
  else
    let n := (s.run c).requesters.foldl (fun n q => n + q.todo.length) 0
    showRun (markWaits (grantLoop n s c) c) c

/-! ## Requesters (R242, R243) -/

/-- A requester of a core changed. -/
def modReq (s : State) (c eng seq : Nat) (f : Requester → Requester) : State :=
  modRun s c (fun x => { x with requesters := x.requesters.map (fun q => if q.eng = eng ∧ q.seq = seq then f q else q) })

/-- The requester of a descriptor. -/
def findReq (s : State) (c eng seq : Nat) : Option Requester :=
  (s.run c).requesters.find? (fun q => q.eng == eng && q.seq == seq)

/-- A requester's requests: those it makes at once. -/
def newReq (eng seq : Nat) (todo : List Req) : Requester :=
  { eng := eng, seq := seq, todo := todo, asked := todo, total := todo.length }

/-- A requester joins those of its core. -/
def addReq (s : State) (c : Nat) (q : Requester) : State := modRun s c (fun x => { x with requesters := x.requesters ++ [q] })

/-- A requester has had what it asked for, and leaves. -/
def dropReq (s : State) (c eng seq : Nat) : State :=
  modRun s c (fun x => { x with requesters := x.requesters.filter (fun r => !(r.eng == eng && r.seq == seq)) })

/-- R242, R243: all that an engine's descriptor reads outside its local store has been brought to it. -/
def fedAll (s : State) (c eng seq : Nat) : Bool :=
  match findReq s c eng seq with
  | some q => q.todo.isEmpty && q.got.length == q.total
  | none => true

/-- R223, R261: a source whose latency with no wait is a fixed number of ck: the Tundish, and HBM in open timing. -/
def fixedLat (s : State) (type : Nat) : Bool := type == 0 || (type == 1 && !s.locked)

/-- R128, R164, R246: how much later the last data of a descriptor's feed came than with no other traffic; the latency of
a source where that is a measured time. -/
def feedWaited (s : State) (c eng : Nat) (i : Iss) : Nat :=
  match findReq s c eng i.seq with
  | some q =>
    if q.asked.isEmpty then 0
    else if q.asked.all (fun r => fixedLat s r.type) then q.last - aloneLast c i.relCk q.asked [] i.relCk (alone s i.relCk)
    else q.last - i.relCk
  | none => 0

/-- When a descriptor of an engine that takes `t` ck from its release ends: waits of its feed add to it. One that reads nothing
outside its local store ends no earlier than it is carried out. -/
def engineEnd (s : State) (c eng : Nat) (i : Iss) (t : Nat) : Nat :=
  match findReq s c eng i.seq with
  | some q => if q.asked.isEmpty then max s.ck (i.relCk + t) else i.relCk + t + feedWaited s c eng i
  | none => max s.ck (i.relCk + t)

/-- Whether a request of an engine's descriptor was made again (R231). -/
def fedRetry (s : State) (c eng seq : Nat) : Bool := (findReq s c eng seq).any (fun q => q.retry)

/-! ## Stores (R230, R231, R270, R314) -/

/-- Bytes written from `a` to the memory a place names, for descriptor `seq` of core `c`: a remote write is sent, one to the
Ingot Store joins the descriptor's writes (R270), and the others are done, with what they take of the way there. -/
def storeAt (s : State) (c seq : Nat) (p : Place) (a : Nat) (bs : List Byte) : State :=
  if bs = [] then s else
  match p with
  | .remote dev rt =>
    putRemote s c { seq := seq, dest := s.fld SPR.RDEV_DEST c dev, rtype := rt, tile := false, addr := a, data := bs }
  | .ing =>
    ingWrite (s.wrapAdd ING.HOST_BYTES bs.length) c seq (a / 16384) (fun t => (patch t.1 (a % 16384) bs, t.2))
  | p => noteWrite (poke s p a bs) c p a bs.length false

/-- Bytes written over a list of pieces, in order. -/
def storePieces (c seq : Nat) (p : Place) : List (Nat × Nat) → List Byte → State → State
  | [], _, s => s
  | (a, n) :: cs, bs, s => storePieces c seq p cs (bs.drop n) (storeAt s c seq p a (bs.take n))

/-- Bytes written to a region from byte `off`. -/
def storeRegion (s : State) (c seq : Nat) (r : Region) (p : Place) (off : Nat) (bs : List Byte) : State :=
  storePieces c seq p (r.chunks (bs.length + 1) off bs.length) bs s

/-- R231, R236: a tile with its sidecar written for descriptor `seq` of core `c`. -/
def storeTile (s : State) (c seq : Nat) (p : Place) (t : Nat) (payload side : List Byte) : State :=
  match p with
  | .remote dev rt =>
    putRemote s c { seq := seq, dest := s.fld SPR.RDEV_DEST c dev, rtype := rt, tile := true, addr := t * 16384,
                    data := payload ++ side }
  | .ing => ingWrite (s.wrapAdd ING.HOST_BYTES 16384) c seq t (fun _ => (payload, side))
  | p => noteWrite (writeTile s p t payload side) c p (t * 16384) 16384 true

end Sys2Proof.Machine
end

