-- ==== Sys2Proof/Machine/Mould.lean ====
section
/-!
DEFINITION. Machine/Mould.lean: chapter 03 in time: operand tiles, loads, streams, marks and replays, rounds and drains,
the slab ramp, and what a Mould descriptor reports.
-/
namespace Sys2Proof.Machine

open Sys2Proof

/-! ## Access -/

/-- The Mould of core `c`. -/
def State.mld (s : State) (c : Nat) : MouldSt := (s.core c).mld

/-- The Mould of core `c` changed. -/
def modMld (s : State) (c : Nat) (f : MouldSt → MouldSt) : State := s.modCore c (fun x => { x with mld := f x.mld })

/-- One `MATMUL` of core `c` changed. -/
def modJob (s : State) (c seq : Nat) (f : MJob → MJob) : State :=
  modMld s c (fun m => { m with jobs := m.jobs.map (fun j => if j.iss.seq = seq then f j else j) })

/-- A `MATMUL` in execution by its sequence number. -/
def findJob (s : State) (c seq : Nat) : Option MJob := (s.mld c).jobs.find? (fun j => j.iss.seq == seq)

/-- R195: the statuses of the Mould. -/
def stOverflow : Nat := 0x20
def stOpCrc : Nat := 0x21
def stOpUnc : Nat := 0x22
def stAccUnc : Nat := 0x23
def stParity : Nat := 0x24
def stOpScale : Nat := 0x25

/-- The codes of `MLD.STATE.ARRAY`. -/
def arCold : Nat := 0
def arUp : Nat := 1
def arWarm : Nat := 2
def arDown : Nat := 3

/-- The state of the array. -/
def array (s : State) (c : Nat) : Nat := s.fld MLD.STATE_ARRAY c

/-- F of R69. -/
def latF : Nat := 80
/-- L_B of R69. -/
def latLB : Nat := 528

/-- A half's code in `MLD.STATE`: 0 free, 1 accumulating, 2 draining, 3 held. -/
def half (s : State) (c h : Nat) : Nat := s.fld (if h = 0 then MLD.STATE_HALF0 else MLD.STATE_HALF1) c

/-- A half given a code. -/
def setHalf (s : State) (c h v : Nat) : State := s.setFld (if h = 0 then MLD.STATE_HALF0 else MLD.STATE_HALF1) v c

/-- A half becomes free at this ck; `OLDER_HELD` then shows the other half if that is held (R161). -/
def freeHalf (s : State) (c h : Nat) : State :=
  let s := (setHalf s c h 0).setFld MLD.STATE_OLDER_HELD (if half s c (1 - h) = 3 then 1 - h else 0) c
  modMld s c (fun m => { m with halfFree := if h = 0 then (s.ck, m.halfFree.2) else (m.halfFree.1, s.ck) })

/-! ## Throttling (R412) -/

/-- R412: of every 16 ck the number that admit Mould rows: all but while throttled. -/
def thrDuty (s : State) : Nat := if s.flag PWR.PWR_STATE_THROTTLED then s.fld PWR.THR_CTRL_THR_DUTY else 16

/-- R412: how many ck below `x` admit rows; windows of 16 ck are counted from ck 0. -/
def admitted (d x : Nat) : Nat := x / 16 * d + min (x % 16) d

/-- The end of `k` rows that begin to enter at ck `u`. -/
def admitEnd (d u k : Nat) : Nat :=
  if k = 0 then u else let n := admitted d u + k - 1; 16 * (n / d) + n % d + 1

/-- A stream in progress at a change of the duty: the rows left of it and their marks are planned again. -/
def replan (d d' t : Nat) (m : MouldSt) : MouldSt :=
  match m.stream with
  | some (q, a, e) =>
    let u := max a t
    let move := fun (x : Nat) => if u < x then admitEnd d' u (admitted d x - admitted d u) else x
    { m with
      stream := some (q, a, move e),
      jobs := m.jobs.map (fun j => if j.iss.seq = q then
        { j with pend := j.pend.map (fun (p : Nat × Nat) =>
            if u + latF ≤ p.1 then (move (p.1 - latF + 1) - 1 + latF, p.2) else p) } else j) }
  | none => m

/-- R412: a change that may alter the duty. -/
def changeDuty (s : State) (f : State → State) : State :=
  let s' := f s
  if thrDuty s = thrDuty s' then s'
  else (List.range 4).foldl (fun x c => modMld x c (replan (thrDuty s) (thrDuty s') s.ck)) s'

/-! ## Ramps (R70, R71) -/

/-- R70, R409: a ramp up is asked for when the array is COLD. -/
def wantRamp (s : State) (c : Nat) : State :=
  if array s c = arCold && !s.stag.any (fun r => r.1 == 1 && r.2.1 == c) then { s with stag := s.stag ++ [(1, c, s.ck)] }
  else s

/-- R71: a ramp down begins. -/
def startDown (s : State) (c : Nat) : State :=
  modMld (s.setFld MLD.STATE_ARRAY arDown c) c (fun m => { m with rampCk := s.ck })

/-- The last stream of a descriptor has started: it has no further set to stream. -/
def MJob.allStarted (j : MJob) : Bool := decide (j.geo.rounds ≤ j.round)

/-- No row of a `MATMUL` is still to enter the array: its last stream has ended, and no mark of it is to be replayed. -/
def MJob.entered? (s : State) (c : Nat) (j : MJob) : Bool :=
  j.abandoned || (j.allStarted && (s.mld c).stream.all (fun x => x.1 != j.iss.seq) && j.pend.isEmpty && j.marked.isEmpty)

/-- The Mould descriptor in execution that comes first and is not a `MATMUL` whose rows have all entered (R71). -/
def mouldHead (s : State) (c : Nat) : Option Iss :=
  (s.eng c .mould).busy.find? (fun i =>
    !((s.mld c).jobs.any (fun j => j.iss.seq == i.seq && j.entered? s c)))

/-- RAMP_UP (R70, R71). Completes when the array is WARM; asks for the ramp when it is COLD. -/
def execRampUp (c : Core) (s : State) : Host.Outcome State Fault Refusal :=
  match mouldHead s c with
  | some i =>
    if i.desc.op = 2 then
      if array s c = arWarm then .next (finishDesc s c .mould i stOk {} 0 (max s.ck i.relCk)) else .next (wantRamp s c)
    else .next s
  | none => .next s

/-- RAMP_DOWN (R71). Starts the ramp down of a WARM array with no stream or replay in progress, and completes at COLD. -/
def execRampDown (c : Core) (s : State) : Host.Outcome State Fault Refusal :=
  match mouldHead s c with
  | some i =>
    if i.desc.op = 3 then
      if array s c = arCold then .next (finishDesc s c .mould i stOk {} 0 (max s.ck i.relCk))
      else if array s c = arWarm && (s.mld c).stream.isNone then .next (startDown (s.upTo (s.mld c).freeCk) c)
      else .next s
    else .next s
  | none => .next s

/-- MLD_ARRAY_WARM (R70). 1,024 ck after the grant. -/
def execMldArrayWarm (c : Core) (s : State) : Host.Outcome State Fault Refusal :=
  if array s c = arUp then
    let s := s.upTo ((s.mld c).rampCk + 1024)
    .next (modMld (s.setFld MLD.STATE_ARRAY arWarm c) c (fun m => { m with idleFrom := (s.mld c).rampCk + 1024 }))
  else .next s

/-- MLD_ARRAY_COLD (R71). 1,024 ck after the ramp down began; work that waits asks for a full ramp up. -/
def execMldArrayCold (c : Core) (s : State) : Host.Outcome State Fault Refusal :=
  if array s c = arDown then
    let s := (s.upTo ((s.mld c).rampCk + 1024)).setFld MLD.STATE_ARRAY arCold c
    match mouldHead s c with
    | some i => if i.desc.op = 1 ∨ i.desc.op = 2 then .next (wantRamp s c) else .next s
    | none => .next s
  else .next s

/-- MLD_IDLE_GATE_EXPIRE (R71). The idle time of a WARM array reaches `IDLE_GATE` × 256 ck with no Mould descriptor queued: none
waits in the queue, and none in execution has rows still to enter; one that only drains is not queued (log entry 103). -/
def execMldIdleGateExpire (c : Core) (s : State) : Host.Outcome State Fault Refusal :=
  if array s c = arWarm && !s.flag MLD.CTRL_RAMP_HOLD c && (s.eng c .mould).queue.isEmpty && (mouldHead s c).isNone
      && (s.mld c).stream.isNone then
    .next (startDown (s.upTo ((s.mld c).idleFrom + s.fld MLD.CTRL_IDLE_GATE c * 256)) c)
  else .next s

/-! ## MATMUL (R65) -/

/-- R73: `REPLAY_EN` and k as read at issue. -/
def MJob.replayEn (j : MJob) : Bool := bit j.iss.snap 0
def MJob.k (j : MJob) : Nat := bits j.iss.snap 1 5

/-- R82–R84: a failure of a descriptor's operands or loads; no set of it is loaded or streamed any more. A tile given up
(R76, R83) is none. -/
def MJob.failed (j : MJob) : Bool := j.bad.any (fun x => x != stOverflow && x != stAccUnc)

/-- The next B-register set of a descriptor. -/
def MJob.nextSet (j : MJob) : Option MSet := if j.allStarted then none else (j.geo.sets j.round)[j.set]?

/-- R65: the set after (`r`, `j`). -/
def MGeo.after (g : MGeo) (r j : Nat) : Nat × Nat := if j + 1 < (g.sets r).length then (r, j + 1) else (r + 1, 0)

/-- The descriptor whose set is streamed next. -/
def nextJob (s : State) (c : Nat) : Option MJob := (s.mld c).jobs.find? (fun j => !j.allStarted && !j.abandoned)

/-! ## Ending a descriptor (R82–R86) -/

/-- R86: the status reported. -/
def mouldStatus (j : MJob) : Nat :=
  match [stAccUnc, stOpUnc, stOpCrc, stOpScale, stParity, stOverflow].find? (fun x => j.bad.contains x) with
  | some x => x
  | none => stOk

/-- R85: the engine word. -/
def mouldWord (j : MJob) : Nat :=
  satN 16 j.replays + satN 16 j.replayed.length * 2 ^ 16 + j.maxShift * 2 ^ 32 + b2n j.d.double * 2 ^ 39 +
  b2n j.overrun * 2 ^ 40 + b2n j.crcRetry * 2 ^ 41 + b2n j.eccCorr * 2 ^ 42 + satN 16 j.rounds * 2 ^ 48

/-- R82: the request of one operand tile; its tag names the operand (bit 35) and the tile. -/
def operandReq (d : Desc) (op t : Nat) : Req :=
  let r := opRegion d op
  { kind := slotKind r.type, type := r.type, dev := r.dev, rtype := r.rtype, addr := t * 16384, len := 16384, tile := true,
    tag := op * 2 ^ 35 + t }

/-- The Mould's feed of a descriptor (R82, R243): every operand tile, in order of need. -/
def feedOf (j : MJob) : Requester := newReq 1 j.iss.seq ((needAll j).map (fun x => operandReq j.d x.1 x.2))

/-- A `MATMUL` begins: its feed asks for its first tiles, and a COLD array asks for its ramp. -/
def startJob (s : State) (c : Nat) (j : MJob) : State :=
  let s := modMld s c (fun m => { m with jobs := m.jobs ++ [j] })
  grantSlots (addReq (wantRamp (s.setReg MLD.CUR_SEQ j.iss.seq c) c) c (feedOf j)) c

/-- MATMUL (R65, R70, R196, R198). A released matrix product is cut into rounds. A Mould-feed pattern supplies its rows; one that
ends with an error ends the descriptor, with nothing streamed (log entry 103). -/
def execMatmul (c : Core) (s : State) : Host.Outcome State Fault Refusal :=
  match (s.eng c .mould).busy.find? (fun i => i.desc.op == 1 && (findJob s c i.seq).isNone) with
  | none => .next s
  | some i =>
    if i.desc.pattern = 0 then .next (startJob s c { iss := i }) else
    match runPattern s c i (fun _ => false) feedCk with
    | none => .next s
    | some p =>
      let s := patEnd p.s c i p
      match p.err with
      | some st => .next (finishDesc s c .mould i st {} (mouldWord { iss := i }) (max s.ck (i.relCk + p.t)))
      | none => .next (startJob s c { iss := i, feed := p.feed })

/-- The feed of a descriptor ends: no tile of it is requested or checked any more, and its staged Ingot tiles are freed
(R237). Requests in flight keep their slots until they are answered. -/
def endFeed (s : State) (c seq : Nat) : State :=
  let s := dropReq s c 1 seq
  let s := unstage s (stageOwner c 1 seq)
  grantSlots (modMld s c (fun m => { m with inq := m.inq.filter (fun x => x.1 != seq) })) c

/-- The descriptor has finished: its record is handed to the Sprue. -/
def mouldFinish (s : State) (c : Nat) (j : MJob) : State :=
  let s := modMld s c (fun m => { m with jobs := m.jobs.filter (fun x => x.iss.seq != j.iss.seq) })
  finishDesc (endFeed s c j.iss.seq) c .mould j.iss (mouldStatus j) j.flags (mouldWord j) s.ck

/-- R67, R82: the descriptor finishes once nothing of it streams and nothing waits for a drain. -/
def mouldTryFinish (s : State) (c seq : Nat) : State :=
  match findJob s c seq with
  | some j => if (j.abandoned || j.streamed) && j.undrained == 0 then mouldFinish s c j else s
  | none => s

/-- R82, R84: a descriptor is abandoned: its rounds in progress are given up and their halves freed, and the next round takes the
other half (R66); what it has already written stays, and rounds that wait for their drain are drained. -/
def abandonJob (s : State) (c seq : Nat) : State :=
  match findJob s c seq with
  | none => s
  | some j =>
    let s := j.live.foldl (fun s r => (freeHalf s c r.half).setFld MLD.STATE_ACTIVE_HALF (1 - r.half) c) s
    let s := modJob s c seq (fun j => { j with abandoned := true, live := [], pend := [], marked := [] })
    let s := modMld s c (fun m => { m with
      load := m.load.filter (fun l => l.seq != seq),
      stream := m.stream.filter (fun x => x.1 != seq),
      freeCk := if (m.stream.map (fun x => x.1 == seq)).getD false then s.ck else m.freeCk })
    mouldTryFinish (endFeed s c seq) c seq

/-- R82, R83, R476: a failure found in a descriptor's operands: its source is raised, and it is abandoned at the end of
the stream in progress. -/
def operandFails (s : State) (c seq status src : Nat) : State :=
  let s := raiseFor .mld c src status seq s
  let s := modJob s c seq (fun j => { j with bad := j.bad ++ [status] })
  if (s.mld c).stream.isSome then s else abandonJob s c seq

/-! ## Operand tiles (R82, R83, R476) -/

/-- R82: a tile whose first copy fails is requested once more; bit 36 of the tag marks the second copy. -/
def againTile (s : State) (c : Nat) (job : MJob) (t : OpTile) : State :=
  let s := modJob (s.bump MLD.CRC_RETRIES 1 c) c job.iss.seq (fun j => { j with crcRetry := true })
  let s := s.modCore c (fun x => { x with run := { x.run with
    requesters := x.run.requesters.map (fun r =>
      if r.eng = 1 ∧ r.seq = job.iss.seq then { r with todo := (let q := operandReq job.d t.op t.j; { q with tag := q.tag + 2 ^ 36 }) :: r.todo, retry := true }
      else r) } })
  grantSlots s c

/-- R476: a checked tile enters the operand stage unless its coarse scale differs from that of its operand. -/
def stageTile (s : State) (c : Nat) (job : MJob) (t : OpTile) : State :=
  let scaled := (fmtOf (if t.op = 0 then job.d.fmt0 else job.d.fmt1)).scaled
  let co := fieldAt t.side 8 4
  let seen := if t.op = 0 then job.coarse.1 else job.coarse.2
  if scaled && seen.isSome && seen != some co then operandFails s c job.iss.seq stOpScale 8
  else modJob s c job.iss.seq (fun j => { j with
    stage := j.stage ++ [{ t with ck := s.ck }],
    coarse := if t.op = 0 then (some (if scaled then co else coarseOne), j.coarse.2)
      else (j.coarse.1, some (if scaled then co else coarseOne)) })

/-- MLD_OPERAND_TILE_ARRIVE (R82, R83, R476). The oldest delivered operand tile is checked; a bad one is requested once more, and
a second bad copy ends the descriptor. A corrected word is reported (R83), an uncorrectable one ends the descriptor at once. -/
def execMldOperandTileArrive (c : Core) (s : State) : Host.Outcome State Fault Refusal :=
  match (s.mld c).inq with
  | [] => .next s
  | (seq, t, e, second) :: r =>
    let s := modMld s c (fun m => { m with inq := r })
    match findJob s c seq with
    | none => .next s
    | some job =>
      let s := if e = 1 then raiseFor .mld c 1 0 seq (modJob s c seq (fun j => { j with eccCorr := true })) else s
      if e = 2 then .next (operandFails s c seq stOpUnc 2)
      else
        let forced := second && job.forceBad.contains (t.op, t.j)
        let (inj, s) := if second then (0, s) else s.injFails MLD.INJ_OPND_CRC1 MLD.INJ_OPND_CRC2 c
        let good := decide (e ≤ 1) && tileGood t.payload t.side && !forced && inj == 0
        if good then .next (stageTile s c job t)
        else if second || e == 5 then .next (operandFails s c seq stOpCrc 5)
        else
          let s := if inj = 2 then modJob s c seq (fun j => { j with forceBad := (t.op, t.j) :: j.forceBad }) else s
          .next (againTile s c job t)

/-- The operand tiles of a set that lie in the operand stage. -/
def setPresent (j : MJob) (x : MSet) (op : Nat) : Bool :=
  (if op = 1 then bTiles j j.round j.set x else aTiles j j.round j.set x).all (fun k =>
    j.stage.any (fun t => t.op == op && t.j == k))

/-- R80: the tiles still needed: those of the sets to come, and with `REPLAY_EN` those of every round not complete. -/
def stillNeeded (j : MJob) : List (Nat × Nat) :=
  let g := j.geo
  let first := if j.replayEn then (match j.live with | r :: _ => (r.round, 0) | [] => (j.round, j.set)) else (j.round, j.set)
  (List.range (g.rounds - first.1)).foldl (fun a q =>
    let r := first.1 + q
    let ss := if q = 0 then (g.sets r).zipIdx.drop first.2 else (g.sets r).zipIdx
    ss.foldl (fun a x => addPairs (setTiles j r x.2 x.1) a) a) []

/-- R80: tiles declared consumed leave the operand stage. -/
def consumeTiles (s : State) (c seq : Nat) : State :=
  let s := modJob s c seq (fun j =>
    let need := stillNeeded j
    { j with stage := j.stage.filter (fun t => need.contains (t.op, t.j)) })
  grantSlots s c

/-! ## Loads (R69, R84) -/

/-- MLD_LOAD_START (R69). The next set's load begins once the previous stream has started and its B tiles are present. -/
def execMldLoadStart (c : Core) (s : State) : Host.Outcome State Fault Refusal :=
  let m := s.mld c
  match nextJob s c with
  | none => .next s
  | some j =>
    match j.nextSet with
    | none => .next s
    | some x =>
      if m.load.isNone && !j.failed && setPresent j x 1 then
        let t0 := max j.iss.relCk m.lastStart
        let s := s.upTo t0
        let s := s.wrapAdd MLD.OPND_STALL_CK (s.ck - t0) c
        let l : MLoad := { seq := j.iss.seq, round := j.round, set := j.set, startCk := s.ck, endCk := s.ck + latLB }
        .next (modMld s c (fun m => { m with load := some l }))
      else .next s

/-- MLD_LOAD_END (R69, R84). The load's parity is checked; a failure repeats the load once. -/
def execMldLoadEnd (c : Core) (s : State) : Host.Outcome State Fault Refusal :=
  match (s.mld c).load with
  | none => .next s
  | some l =>
    if l.done then .next s else
    let s := s.upTo l.endCk
    if s.armed MLD.INJ_STAT_PAR c then
      let s := s.disarm MLD.INJ_STAT_PAR c
      if l.again then
        let s := raiseFor .mld c 7 stParity l.seq s
        .next (abandonJob (modJob s c l.seq (fun j => { j with bad := j.bad ++ [stParity] })) c l.seq)
      else
        .next (modMld (s.bump MLD.PAR_RELOADS 1 c) c (fun m => { m with
          load := some { l with endCk := l.endCk + latLB, again := true } }))
    else .next (modMld s c (fun m => { m with load := some { l with done := true } }))

/-! ## Time in replay (R79, R216) -/

/-- R216: the replay ck of core `c` in the current frame up to ck `t`. -/
def slackUsed (s : State) (c t : Nat) : Nat :=
  (s.mld c).reps.foldl (fun n (x : Nat × Nat × Nat) => n + (min t x.2.2 - max x.2.1 s.frameCk)) 0

/-- R216: the ck in which the time of a list of replays in the frame from ck `f` on first exceeds `lim` ck, and the descriptor
whose replay runs then. -/
def replayPast (f : Nat) : List (Nat × Nat × Nat) → Nat → Option (Nat × Nat)
  | [], _ => none
  | (q, a, b) :: rs, lim =>
    let n := b - max a f
    if lim < n then some (max a f + lim, q) else replayPast f rs (lim - n)

/-- R79, R216: the ck in which this frame's slack runs out, if its replays so far reach it, and the descriptor replaying then. -/
def slackDue (s : State) (c : Nat) : Option (Nat × Nat) :=
  let lim := s.reg PWR.FRM_SLACK 0 c % 2 ^ 16
  if lim = 0xFFFF ∨ (s.mld c).slackHit then none else replayPast s.frameCk (s.mld c).reps (lim * 1024)

/-- R79: `FRAME_OVERRUN`: source 6, and `OVERRUN` of the descriptor whose replay was running. -/
def raiseOverrun (s : State) (c seq : Nat) : State :=
  raiseFor .mld c 6 0 seq (modJob s c seq (fun j => { j with overrun := true }))

/-- R79: the checks of the replay time that fail at or before ck `t` raise; two in one ck raise once. -/
def settleReplay (s : State) (c t : Nat) : State :=
  let due := (s.mld c).budgetDue.filter (fun x => decide (x.2 ≤ t))
  let k := (slackDue s c).filter (fun x => decide (x.1 ≤ t))
  let s := modMld s c (fun m => { m with budgetDue := m.budgetDue.filter (fun x => !decide (x.2 ≤ t)),
                                         slackHit := m.slackHit || k.isSome })
  let s := due.foldl (fun s x => raiseOverrun s c x.1) s
  match k with
  | some (x, q) => if due.any (fun y => y.2 == x) then s else raiseOverrun s c q
  | none => s

/-- REPLAY_BUDGET_EXCEEDED (R79). A descriptor's replay time exceeds its budget. -/
def execReplayBudgetExceeded (c : Core) (s : State) : Host.Outcome State Fault Refusal :=
  match (s.mld c).budgetDue with
  | (_, t) :: _ => .next (settleReplay (s.upTo t) c t)
  | [] => .next s

/-- SLACK_EXCEEDED (R216). A core's replay time in the frame exceeds its slack. -/
def execSlackExceeded (c : Core) (s : State) : Host.Outcome State Fault Refusal :=
  match slackDue s c with
  | some (t, _) => .next (settleReplay (s.upTo t) c t)
  | none => .next s

/-! ## Marks and replays (R74–R78) -/

/-- A tile of a descriptor's rounds in progress, by its number. -/
def MJob.tile? (j : MJob) (i : Nat) : Option MTile := (j.live.flatMap MRound.tiles).find? (fun t => t.idx == i)

/-- Tiles replaced in the rounds in progress. -/
def MJob.putTiles (j : MJob) (ts : List MTile) : MJob :=
  { j with live := j.live.map (fun r => { r with tiles := r.tiles.map (fun t =>
    match ts.find? (fun x => x.idx == t.idx) with | some x => x | none => t) }) }

/-- R76: a tile marked a fourth time is `UNRECOVERED`: source 4, its count, and the descriptor's status. -/
def unrecover (s : State) (c seq i : Nat) : State :=
  let s := modJob s c seq (fun j =>
    let j := j.putTiles ((j.tile? i).toList.map (fun t => { t with unrec := true }))
    { j with bad := if j.bad.contains stOverflow then j.bad else j.bad ++ [stOverflow] })
  raiseFor .mld c 4 stOverflow seq (s.bump MLD.UNRECOVERED 1 c)

/-- R74, R76: the marks of a descriptor due by ck `t` are made. -/
def makeMarks (s : State) (c seq t : Nat) : State :=
  match findJob s c seq with
  | none => s
  | some j =>
    let due := j.pend.filter (fun p => decide (p.1 ≤ t))
    let s := modJob s c seq (fun j => { j with pend := j.pend.filter (fun p => !decide (p.1 ≤ t)) })
    due.foldl (fun s p =>
      if ((j.tile? p.2).map (fun x => decide (3 ≤ x.marks))).getD false then unrecover s c seq p.2
      else modJob s c seq (fun j => { j with marked := j.marked ++ [p] })) s

/-- What a replay carries along: the tiles in it, the marks to be made, when its next stream starts, when its
last one ended, and its reports. -/
structure Rep where
  tiles : List MTile
  pend : List (Nat × Nat) := []
  ss : Nat
  fin : Nat
  flags : Flags := {}
  restarts : Nat := 0
  unrec : List Nat := []
  rows : Nat := 0
deriving DecidableEq, Repr

/-- R76: the marks of a group's tiles due before `t`: each raises its tile's shift by k, or ends its recovery. -/
def remark (k t : Nat) (grp : List Nat) (st : Rep) : Rep × Bool :=
  let due := st.pend.filter (fun p => decide (p.1 < t) && grp.contains p.2)
  let st := { st with pend := st.pend.filter (fun p => !(decide (p.1 < t) && grp.contains p.2)) }
  due.foldl (fun (st, again) p =>
    match st.tiles.find? (fun x => x.idx == p.2) with
    | none => (st, again)
    | some x =>
      let x' := if 3 ≤ x.marks then { x with unrec := true } else { x with marks := x.marks + 1, s := x.s + k }
      ({ st with tiles := st.tiles.map (fun y => if y.idx = x.idx then x' else y),
                 unrec := if x'.unrec then st.unrec ++ [x.idx] else st.unrec }, again || !x'.unrec)) (st, false)

/-- R75, R76: the sets of one group's panel run again over the group's tiles, restarting when a tile is marked again. `sets` is
the whole list, each with its number in round `r`, and `todo` what is left of it; `ends`: the replay ends with this group's last
row. -/
def repGroup (duty : Nat) (j : MJob) (r : Nat) (sets : List (MSet × Nat)) (grp : List Nat) (ends : Bool) :
    Nat → List (MSet × Nat) → Rep → Rep
  | 0, _, st => st
  | fuel + 1, todo, st =>
    let live := fun (st : Rep) => st.tiles.filter (fun t => grp.contains t.idx && !t.unrec)
    let bound := if todo.isEmpty && ends && decide (st.fin ≠ 0) then st.fin + 1 else st.ss
    let (st, again) := remark j.k bound grp st
    if (live st).isEmpty then st
    else if again then repGroup duty j r sets grp ends fuel sets { st with restarts := st.restarts + 1 }
    else match todo with
      | [] => st
      | x :: xs =>
        let ts := live st
        let ts := if xs.length + 1 = sets.length then ts.map (fun t => { t with acc := List.replicate (t.rows * t.cols) 0 }) else ts
        let (ts', fl, mk) := streamTiles j r x.2 x.1 false ts
        let n := streamLen x.1 ts
        let mk := if j.d.accFmt = .fp32 then mk.map (fun p => (admitEnd duty st.ss (p.1 + 1) - 1 + latF, p.2)) else []
        let e := admitEnd duty st.ss n
        let st := { st with
          tiles := st.tiles.map (fun t => match ts'.find? (fun y => y.idx == t.idx) with | some y => y | none => t),
          pend := st.pend ++ mk.filter (fun p => !st.pend.any (fun q => q.2 == p.2)),
          ss := max e (st.ss + latLB), fin := e, flags := st.flags.join fl, rows := st.rows + n }
        repGroup duty j r sets grp ends fuel xs st

/-- R78: the cost of a replay that began at `r0`: it ends with its last row when no stream of the descriptor follows it, else
when the next stream may start. -/
def replayCost (st : Rep) (r0 : Nat) (ends : Bool) : Nat := (if ends && decide (st.fin ≠ 0) then st.fin else st.ss) - r0

/-- The round in progress that holds a tile. -/
def MJob.roundOf (j : MJob) (i : Nat) : Nat :=
  ((j.live.find? (fun r => r.tiles.any (fun t => t.idx == i))).map MRound.round).getD 0

/-- R75: the tiles marked, divided into groups by panel, and within a panel by round, whose sets differ (log entry 103); the group
whose row was marked first comes first, and each group is in tile order. -/
def replayGroups (j : MJob) : List (List Nat) :=
  let ts := j.marked.filterMap (fun p => (j.tile? p.2).map (fun t => (p.1, (j.roundOf t.idx, t.panel), t.idx)))
  let keys := (ts.mergeSort (fun a b => decide (a.1 ≤ b.1))).foldl (fun (a : List (Nat × Nat)) x =>
    if a.contains x.2.1 then a else a ++ [x.2.1]) []
  keys.map (fun p => (addNew ((ts.filter (fun x => x.2.1 == p)).map (fun x => x.2.2)) []).mergeSort (fun a b => decide (a ≤ b)))

/-- R75 step 3: the sets of a tile's panel streamed in its round before the replay began, each with its number. -/
def setsStreamed (j : MJob) (i : Nat) : List (MSet × Nat) :=
  match j.tile? i with
  | some t =>
    let r := j.roundOf i
    let ss := (j.geo.sets r).zipIdx
    (if r = j.round then ss.take j.set else ss).filter (fun x => x.1.panel == t.panel)
  | none => []

/-- R75–R79: a replay of a descriptor's marked tiles begins at ck `r0`. Its results, its cost, and what the normal flow
resumes with; a load made behind it is discarded and made again. An injected parity failure repeats its first load (R84). -/
def runReplay (s : State) (c seq r0 : Nat) : State :=
  match findJob s c seq with
  | none => s
  | some j =>
    let ids := j.marked.map Prod.snd
    let ends := j.live.all (fun r => r.endCk.isSome)
    let groups := replayGroups j
    let start := (j.live.flatMap MRound.tiles).filter (fun t => ids.contains t.idx)
    let start := start.map (fun t => { t with marks := t.marks + 1, s := t.s + j.k })
    let par := s.armed MLD.INJ_STAT_PAR c
    let s := if par then (s.disarm MLD.INJ_STAT_PAR c).bump MLD.PAR_RELOADS 1 c else s
    let fuel := groups.foldl (fun n g => n + ((setsStreamed j (g.headD 0)).length + 1) * (4 * g.length + 2)) 8
    let st := groups.zipIdx.foldl (fun st (g, i) =>
      let ss := setsStreamed j (g.headD 0)
      repGroup (thrDuty s) j (j.roundOf (g.headD 0)) ss g (ends && i + 1 == groups.length) fuel ss st)
      ({ tiles := start, ss := r0 + latLB + b2n par * latLB, fin := 0 } : Rep)
    let cost := replayCost st r0 ends
    let fin := r0 + cost
    let s := s.wrapAdd MLD.REPLAY_CK cost c
    let s := s.bump MLD.REPLAY_COUNT (1 + st.restarts) c
    let s := s.wrapAdd MLD.STREAM_CK st.rows c
    let budget := j.d.param % 2 ^ 16 * 1024
    let s := modJob s c seq (fun j =>
      let j := j.putTiles st.tiles
      { j with
        marked := [], pend := j.pend ++ st.pend, flags := j.flags.join st.flags, replays := j.replays + 1 + st.restarts,
        replayed := addNew ids j.replayed, maxShift := st.tiles.foldl (fun m t => max m t.s) j.maxShift,
        used := j.used + cost, budgetHit := j.budgetHit || decide (budget < j.used + cost),
        live := j.live.map (fun r => if r.endCk.isSome then { r with endCk := some fin } else r) })
    let s := modMld s c (fun m => { m with
      reps := m.reps ++ [(seq, r0, fin)],
      budgetDue := if !j.budgetHit && decide (budget < j.used + cost) then m.budgetDue ++ [(seq, r0 + (budget - j.used))]
        else m.budgetDue,
      freeCk := fin, idleFrom := fin, lastStart := fin,
      load := if ends then none else some { seq := seq, round := j.round, set := j.set, startCk := fin - latLB, endCk := fin } })
    st.unrec.foldl (fun s i => unrecover s c seq i) s

/-- R75: after a stream ends, or at a mark with no stream in progress, the marked tiles are replayed; marks made by the
replay's end are replayed at once after it. -/
def replayAll : Nat → State → Nat → Nat → Nat → State
  | 0, s, _, _, _ => s
  | n + 1, s, c, seq, t =>
    match findJob s c seq with
    | none => s
    | some j =>
      if j.marked.isEmpty then s
      else
        let s := runReplay s c seq t
        let e := ((s.mld c).reps.getLast?.map (fun x => x.2.2)).getD t
        replayAll n (makeMarks s c seq e) c seq e

/-- The earliest mark to be made in core `c`: its ck and its descriptor. -/
def firstMark (s : State) (c : Nat) : Option (Nat × Nat) :=
  (s.mld c).jobs.foldl (fun b j => j.pend.foldl (fun b p =>
    match b with | some (t, q) => if p.1 < t then some (p.1, j.iss.seq) else some (t, q) | none => some (p.1, j.iss.seq)) b) none

/-- ACC_OVERFLOW_MARK (R74, R75). F ck after the marked row entered its tile is marked; with no stream in progress the
replay begins at once. -/
def execAccOverflowMark (c : Core) (s : State) : Host.Outcome State Fault Refusal :=
  match firstMark s c with
  | none => .next s
  | some (t, seq) =>
    match (s.mld c).stream with
    | some (_, _, e) => if t ≤ e then .next (makeMarks (s.upTo t) c seq t) else .next s
    | none =>
      let s := makeMarks (s.upTo t) c seq t
      .next (replayAll 64 s c seq (max t (s.mld c).freeCk))

/-! ## Streams (R69, R72) -/

/-- R94: the 512 elements of a sampled row in one K-tile, scaled and rounded to BF16, with the events counted; `row` is where a
pattern takes it from. -/
def captureRow (j : MJob) (cov : Desc) (row : Option Nat) (m kt : Nat) : List Nat × Flags :=
  let f := opFmt j.d 0
  let sc := pow2 (toSigned 7 (bits cov.param 18 7))
  let es := (List.range 512).map (fun i =>
    let k := 512 * kt + i
    if k < j.d.len2 then
      let pos := j.aPos row m k
      let o := stagedElem j.d j.stage 0 pos
      let co := match stagedTile j.d j.stage 0 (pos.1 + pos.2 * f.width / 8) with
        | some t => if f.scaled then fieldAt t.side 8 4 else coarseOne
        | none => coarseOne
      let v := (o.exact.mul (coarseVal co)).mul (.fin false sc)
      let (b, fl) := convFloat .bf16 .rne v
      (b, fl.join v.seen)
    else (0, {}))
  (es.map Prod.fst, es.foldl (fun a e => a.join e.2) {})

/-- R72, R92: the tap: the sampled rows of a pass-1 stream of the first panel enter the capture store of the paired
`COV`. -/
def tapStream (s : State) (c : Nat) (j : MJob) (r k : Nat) (x : MSet) (ts : List MTile) (startCk endCk : Nat) : State :=
  if j.d.tap && x.panel == 0 && x.first == 1 then
    s.modCore c (fun y => { y with asy := { y.asy with pairs := y.asy.pairs.map (fun p =>
      if p.mat = some j.iss.seq ∧ ¬ p.cov.skip then
        let rows := ts.flatMap (fun t => (List.range t.rows).map (fun i => (t.row0 + i, j.aRow r k x 0 t i)))
        let caps := (rows.zipIdx.filter (fun m => sampled p.cov.desc m.1.1)).map (fun m =>
          (m.1.1, admitEnd (thrDuty s) startCk (j.entered r k (m.2 + 1)), captureRow j p.cov.desc m.1.2 m.1.1 x.kt))
        { p with
          rows := p.rows ++ caps.map (fun q => (q.1, x.kt, q.2.1, q.2.2.1)),
          flags := caps.foldl (fun a q => a.join q.2.2.2) p.flags, lastCk := max p.lastCk endCk,
          full := p.full || (decide (j.geo.m ≤ (ts.getLast?.map (fun t => t.row0 + t.rows)).getD 0) && x.kt + 1 == j.geo.ktiles) }
      else p) } })
  else s

/-- R66: the half the next round takes: half 0 first, then the halves alternate. -/
def nextHalf (s : State) (c : Nat) : Nat := ((s.mld c).lastHalf.map (fun h => 1 - h)).getD 0

/-- R69: a stream may start: its load has ended, no stream is in progress, its tiles are present, the half of a new round
is free, and the array is warm. -/
def canStream (s : State) (c : Nat) (j : MJob) (x : MSet) : Bool :=
  let m := s.mld c
  (match m.load with | some l => l.done && l.seq == j.iss.seq && l.round == j.round && l.set == j.set | none => false) &&
  m.stream.isNone && !j.failed && setPresent j x 0 && setPresent j x 1 && array s c == arWarm &&
  m.jobs.all (fun k => k.marked.isEmpty) &&
  (j.set != 0 || (half s c (nextHalf s c) == 0 && decide (j.live.length ≤ 1)))

/-- R69: what a stream waited for, counted from the ck in which it might otherwise have started: its load, its half, the ramp, its
operand tiles. -/
def countStalls (s : State) (c : Nat) (j : MJob) (x : MSet) (floor : Nat) : State :=
  let m := s.mld c
  let s := s.wrapAdd MLD.LOAD_STALL_CK (((m.load.map MLoad.endCk).getD 0) - floor) c
  let s := if j.set = 0 then
      s.wrapAdd MLD.HALF_STALL_CK ((if nextHalf s c = 0 then m.halfFree.1 else m.halfFree.2) - floor) c else s
  let s := s.wrapAdd MLD.RAMP_CK (m.rampCk + 1024 - floor) c
  let need := aTiles j j.round j.set x
  s.wrapAdd MLD.OPND_STALL_CK
    ((j.stage.filter (fun t => t.op == 0 && need.contains t.j)).foldl (fun n t => max n t.ck) 0 - floor) c

/-- A stream of core `c` starts at the state's ck, into half `h`; R417: it may be the strobe's event. -/
def startStream (c : Core) (s : State) (j : MJob) (x : MSet) (h floor : Nat) : State :=
  let s := settleReplay s c s.ck
  let s := countStalls s c j x floor
  let s := if s.fld PWR.PIN_CTRL_STROBE_SRC = 0 ∧ s.fld PWR.PIN_CTRL_STROBE_CORE = c then strobe s else s
  let seq := j.iss.seq
  let live := if j.set = 0 then j.live ++ [{ round := j.round, half := h, tiles := j.geo.roundTiles j.round }] else j.live
  let ts := ((live.getLast?.map MRound.tiles).getD []).filter (fun t => t.panel == x.panel)
  let force := j.set == 0 && s.armed MLD.INJ_ACC_OVF c
  let s := if force then s.disarm MLD.INJ_ACC_OVF c else s
  let s := if j.set = 0 then (setHalf s c h 1).setFld MLD.STATE_ACTIVE_HALF h c else s
  let (ts', fl, mk) := streamTiles { j with live := live } j.round j.set x force ts
  let n := streamLen x ts
  let t0 := s.ck
  let mk := if j.replayEn && j.d.accFmt == .fp32 then
      (mk.filter (fun p => !(j.pend ++ j.marked).any (fun q => q.2 == p.2) &&
        !((ts.find? (fun t => t.idx == p.2)).map MTile.unrec).getD false)).map (fun p =>
          (admitEnd (thrDuty s) t0 (j.entered j.round j.set (p.1 + 1)) - 1 + latF, p.2))
    else []
  let (r', k') := j.geo.after j.round j.set
  let e := admitEnd (thrDuty s) t0 (j.entered j.round j.set n)
  let s := tapStream s c j j.round j.set x ts t0 e
  let s := s.wrapAdd MLD.STREAM_CK n c
  let s := modJob s c seq (fun j =>
    { { j with live := live }.putTiles ts' with
      round := r', set := k', pend := j.pend ++ mk, flags := j.flags.join fl })
  let half := fun (m : MouldSt) => if j.set = 0 then some h else m.lastHalf
  grantSlots (modMld s c (fun m => { m with
    load := none, stream := some (seq, t0, e), lastStart := t0, lastHalf := half m })) c

/-- MLD_STREAM_START (R69). The rows of the round's tiles in the set's panel enter the array, one a ck. -/
def execMldStreamStart (c : Core) (s : State) : Host.Outcome State Fault Refusal :=
  match nextJob s c with
  | none => .next s
  | some j =>
    match j.nextSet with
    | none => .next s
    | some x =>
      if canStream s c j x then
        let m := s.mld c
        let h := nextHalf s c
        let floor := max m.freeCk j.iss.relCk
        let t := max (max floor ((m.load.map MLoad.endCk).getD 0))
          (if j.set = 0 then (if h = 0 then m.halfFree.1 else m.halfFree.2) else 0)
        let s := s.upTo t
        match firstMark s c with
        | some (tm, _) => if tm < t then .next s else .next (startStream c s j x h floor)
        | none => .next (startStream c s j x h floor)
      else .next s

/-- MLD_STREAM_END (R69, R75). The stream ends; marks made by then start a replay, and a descriptor that has failed is
abandoned. -/
def execMldStreamEnd (c : Core) (s : State) : Host.Outcome State Fault Refusal :=
  match (s.mld c).stream with
  | none => .next s
  | some (seq, _, e) =>
    let s := settleReplay (s.upTo e) c e
    let s := modMld s c (fun m => { m with stream := none, freeCk := e, idleFrom := e })
    let s := modJob s c seq (fun j => { j with live := j.live.map (fun r =>
      if r.endCk.isNone && decide (r.round < j.round) then { r with endCk := some e } else r) })
    let s := match findJob s c seq with
      | some j => if j.replayEn then s else consumeTiles s c seq
      | none => s
    let qs := (s.mld c).jobs.map (fun j => j.iss.seq)
    let s := qs.foldl (fun s q => makeMarks s c q e) s
    let s := qs.foldl (fun s q => if (findJob s c q).any MJob.failed then abandonJob s c q else s) s
    .next (qs.foldl (fun s q => replayAll 64 s c q (max e (s.mld c).freeCk)) s)

/-! ## Rounds and drains (R66–R68, R77) -/

/-- R87: the byte of a tile in `TILE_SHIFT`. -/
def shiftByte (t : MTile) : Nat := t.s % 128 + b2n t.unrec * 128

/-- R77, R87: `TILE_SHIFT` of a half is written when a round is held. -/
def writeShifts (s : State) (c h : Nat) (ts : List MTile) : State :=
  let r := if h = 0 then MLD.TILE_SHIFT0 else MLD.TILE_SHIFT1
  (List.range (ceilDiv ts.length 4)).foldl (fun s w =>
    let v := (List.range 4).foldl (fun v i =>
      match ts[4 * w + i]? with | some t => v + shiftByte t * 2 ^ (8 * i) | none => v) 0
    s.setReg r v c w) s

/-- R161: `OLDER_HELD` shows the half that became held first. -/
def holdHalf (s : State) (c h : Nat) : State :=
  let other := half s c (1 - h) == 3
  let s := setHalf s c h 3
  if other then s else s.setFld MLD.STATE_OLDER_HELD h c

/-- R67, R74: the oldest round of a descriptor has had its last stream, and none of its tiles is marked or to be marked. -/
def MJob.roundReady (j : MJob) : Bool :=
  match j.live with
  | r :: _ => r.endCk.isSome && !(j.pend ++ j.marked).any (fun p => r.tiles.any (fun t => t.idx == p.2))
  | [] => false

/-- MLD_ROUND_COMPLETE (R66, R67). F ck after the round's last stream its half becomes the shadow half: it waits for its
drain, or is held under `DRAIN_HOLD`. -/
def execMldRoundComplete (c : Core) (s : State) : Host.Outcome State Fault Refusal :=
  match (s.mld c).jobs.find? MJob.roundReady with
  | none => .next s
  | some j =>
    match j.live with
    | [] => .next s
    | r :: rest =>
      let seq := j.iss.seq
      let t := r.endCk.getD 0 + latF
      let s := s.upTo t
      let s := settleReplay s c s.ck
      let last := r.round + 1 == j.geo.rounds
      let s := modJob s c seq (fun j => { j with
        live := rest, rounds := j.rounds + 1, streamed := last, undrained := j.undrained + (if j.d.drainHold then 0 else 1) })
      let s := if j.replayEn then consumeTiles s c seq else s
      let s := if ((s.mld c).jobs.flatMap MJob.live).isEmpty then s.setFld MLD.STATE_ACTIVE_HALF (1 - r.half) c else s
      if j.d.drainHold then
        let s := writeShifts (holdHalf s c r.half) c r.half r.tiles
        let h := some (if bit j.d.param 22 then 1 else 0, r.tiles)
        let s := modMld s c (fun m => { m with held := if r.half = 0 then (h, m.held.2) else (m.held.1, h) })
        .next (mouldTryFinish s c seq)
      else
        .next (modMld (setHalf s c r.half 2) c (fun m => { m with
          drains := m.drains ++ [{ seq := seq, half := r.half, tiles := r.tiles, ready := t }] }))

/-- R68: D of a round. Y counts the bytes of its elements, not the padding of partly filled 16 KiB tiles (log entry 103). -/
def drainTime (s : State) (c : Nat) (d : Desc) (ts : List MTile) : Nat :=
  let e := ts.foldl (fun n t => n + t.rows * t.cols) 0
  max (ceilDiv e 512) (ceilDiv (ceilDiv (e * (fmtOf d.fmt2).width) 8) (wrRate s c)) + 64

/-- MLD_DRAIN_START (R68, R83). The oldest round that waits begins its drain once the previous one has ended; an
uncorrectable accumulator word gives up its output tile. -/
def execMldDrainStart (c : Core) (s : State) : Host.Outcome State Fault Refusal :=
  match (s.mld c).drains with
  | [] => .next s
  | x :: rest =>
    if x.endCk.isSome then .next s else
    match findJob s c x.seq with
    | none => .next s
    | some j =>
      let s := s.upTo (max x.ready (s.mld c).drainFree)
      let ue := s.armed MLD.INJ_ACC_UE c
      let s := if ue then raiseFor .mld c 2 stAccUnc x.seq
          (modJob (s.disarm MLD.INJ_ACC_UE c) c x.seq (fun j => { j with bad := j.bad ++ [stAccUnc] })) else s
      let e := s.ck + drainTime s c j.d x.tiles
      .next (modMld s c (fun m => { m with
        drains := { x with endCk := some e, skip := if ue then x.tiles.head?.map MTile.idx else none } :: rest,
        drainFree := e }))

/-- R67, R77: the tiles of a round converted and written to region 2 in tile order, to whichever memory it lies in. -/
def writeRound (s : State) (c : Nat) (j : MJob) (ts : List MTile) : State :=
  let cA := j.coarse.1.getD coarseOne
  let cB := j.coarse.2.getD coarseOne
  let a := bits j.d.scaleWord 0 25 * 64
  let (cb, _, s) := if (fmtOf j.d.fmt2).scaled then readChunk s (if bit j.d.scaleWord 25 then .cache c else .tun) a 4
    else ([], 0, s)
  ts.foldl (fun s t =>
    let (out, fl) := convertTile j.d j.iss.key s.self c cA cB (leNat cb) t
    let s := modJob s c j.iss.seq (fun j => { j with flags := j.flags.join fl })
    let base := outStart j.d t.idx
    out.zipIdx.foldl (fun s (p, i) =>
      storeTile s c j.iss.seq (j.d.reg2.place c false) (j.d.reg2.addr ((base + i) * 16384) / 16384) p.1 p.2) s) s

/-- MLD_DRAIN_END (R67, R68). The round's last byte is accepted and its half becomes free. -/
def execMldDrainEnd (c : Core) (s : State) : Host.Outcome State Fault Refusal :=
  match (s.mld c).drains with
  | [] => .next s
  | x :: rest =>
    match x.endCk, findJob s c x.seq with
    | some e, some j =>
      let s := s.upTo e
      let s := writeRound s c j (x.tiles.filter (fun t => some t.idx != x.skip))
      let s := freeHalf (modMld s c (fun m => { m with drains := rest })) c x.half
      let s := modJob s c x.seq (fun j => { j with undrained := j.undrained - 1 })
      .next (mouldTryFinish s c x.seq)
    | _, _ => .next s

/-! ## Progress (R88) -/

/-- R88: when a Mould descriptor in execution last made progress; not while the oldest waits for operand tiles. -/
def mldProgress (s : State) (c : Nat) : Option Nat :=
  match (s.eng c .mould).busy with
  | [] => none
  | i :: _ =>
    let m := s.mld c
    let waits := (m.jobs.find? (fun j => j.iss.seq == i.seq)).any (fun j =>
      j.nextSet.any (fun x => !setPresent j x 1 || !setPresent j x 0))
    if waits && m.stream.isNone && m.drains.isEmpty then none
    else some (([m.freeCk, m.lastStart, m.drainFree, m.halfFree.1, m.halfFree.2, (m.load.map MLoad.endCk).getD 0, m.rampCk] ++
      (m.jobs.flatMap (fun j => j.stage.map OpTile.ck)) ++ (m.jobs.flatMap (fun j => j.live.filterMap MRound.endCk))).foldl max i.relCk)

end Sys2Proof.Machine
end

