-- ==== Sys2Proof/Machine/Assay.lean ====
section
/-!
DEFINITION. Machine/Assay.lean: chapter 04: covariance from captured rows, export and blending of blocks, squared norms
and the gradient-noise estimate.
-/
namespace Sys2Proof.Machine

open Sys2Proof

/-! ## Access -/

/-- The Assay of core `c`, and it changed. -/
def State.asy (s : State) (c : Nat) : AsySt := (s.core c).asy
def modAsy (s : State) (c : Nat) (f : AsySt → AsySt) : State := s.modCore c (fun x => { x with asy := f x.asy })

/-- R195: the statuses of the Assay. -/
def stCapUnc : Nat := 0x30
def stImageCrc : Nat := 0x31
def stPoisoned : Nat := 0x32
def stNonfinite : Nat := 0x33
def stBadCount : Nat := 0x34
def stNoiseInvalid : Nat := 0x35
def stEmpty : Nat := 0x36

/-- R106: the status reported. -/
def asyStatus (xs : List Nat) : Nat :=
  ([stCapUnc, stImageCrc, stShape, stFormat, stPoisoned, stNonfinite, stBadCount, stNoiseInvalid, stEmpty, stBounds].find?
    (fun x => xs.contains x)).getD stOk

/-- R89: the place of upper entry (p, q) of a block whose first unit is `u`. -/
def slotKey (u p q : Nat) : Nat := (u + p / 128 + q / 128) * 16384 + p % 128 * 128 + q % 128

/-- An entry of the slot store. -/
def slotGet (s : State) (c u p q : Nat) : Nat := sget 0 (s.asy c).slots (slotKey u p q)

/-- The tag of a unit (R89): its count and its poison bit. -/
def slotTag (s : State) (c u : Nat) : Nat × Bool := sget (0, false) (s.asy c).tags u

/-- The tag of a unit written; `POISON_UNITS` shows how many are poisoned. -/
def setTag (s : State) (c u : Nat) (t : Nat × Bool) : State :=
  let s := modAsy s c (fun a => { a with tags := sset (0, false) a.tags u t })
  s.setReg ASY.POISON_UNITS (((s.asy c).tags.filter (fun x => x.2.2)).length) c

/-- R98: units reset to +0 sums, count 0 and poison clear. -/
def clearUnits (s : State) (c u n : Nat) : State :=
  let s := modAsy s c (fun a => { a with slots := a.slots.filter (fun x => !decide (u * 16384 ≤ x.1 ∧ x.1 < (u + n) * 16384)) })
  (List.range n).foldl (fun s i => setTag s c (u + i) (0, false)) s

/-- The Assay descriptor in execution, if its operation is `op` and what it reads has been brought. -/
def asyHead (s : State) (c op : Nat) : Option Iss :=
  match (s.eng c .assay).busy with
  | i :: _ => if i.desc.op = op ∧ fedAll s c 2 i.seq then some i else none
  | [] => none

/-- R105: the engine word. -/
def asyWord (rows written skipped : Nat) (nonfinite retry waited : Bool) : Nat :=
  satN 32 rows + satN 16 written * 2 ^ 32 + satN 8 skipped * 2 ^ 48 + b2n nonfinite * 2 ^ 56 + b2n retry * 2 ^ 57 +
  b2n waited * 2 ^ 58

/-- The Assay has finished a descriptor after `t` ck of work. -/
def asyFinish (s : State) (c : Nat) (i : Iss) (status : Nat) (fl : Flags) (word work endCk : Nat) : State :=
  let s := dropReq (s.setFld ASY.STATE_ENGINE 0 c) c 2 i.seq
  finishDesc (s.wrapAdd ASY.BUSY_CK work c) c .assay i status fl word endCk

/-! ## COV (R91–R97) -/

/-- R95: one sampled row added to the sums of a block. `xs` is the row's 512 elements of the block's K-tile. -/
def covRow (s : State) (c u b k0 : Nat) (xs : List Nat) : State × Flags :=
  let pq := (List.range b).flatMap (fun p => (List.range (b - p)).map (fun d => (p, p + d)))
  pq.foldl (fun (s, fl) (p, q) =>
    let x := decodeFloat .bf16 (xs.getD ((k0 + p) % 512) 0)
    let y := decodeFloat .bf16 (xs.getD ((k0 + q) % 512) 0)
    let (a, e) := convFloat .fp32 .rne ((decodeFloat .fp32 (slotGet s c u p q)).add (x.mul y))
    (modAsy s c (fun y => { y with slots := sset 0 y.slots (slotKey u p q) a }), fl.join e)) (s, {})

/-- The blocks of K that lie in K-tile `kt`. -/
def tileBlocks (b k kt : Nat) : List Nat := (List.range (512 / b)).filterMap (fun j =>
  let q := kt * (512 / b) + j
  if q * b < k then some q else none)

/-- R97: the ck one sampled row costs in K-tile `kt`. -/
def rowCost (b k kt : Nat) : Nat := (tileBlocks b k kt).length * blkUnits b

/-- The pair of a `COV` changed. -/
def modPair (s : State) (c seq : Nat) (f : Pair → Pair) : State :=
  modAsy s c (fun a => { a with pairs := a.pairs.map (fun q => if q.cov.seq = seq then f q else q) })

/-- R92, R95, R97: captured rows accumulated in the order they were offered, each once it has been offered and the one before
it is done, as far as that is by ck `t`; each frees its space. -/
def covTake (c seq t : Nat) (i : Iss) : Nat → State → State
  | 0, s => s
  | fuel + 1, s =>
    match (s.asy c).pairs.find? (fun p => p.cov.seq == seq) with
    | none => s
    | some p =>
      match p.rows[p.accN]? with
      | none => s
      | some (_, kt, ck, xs) =>
        let b := i.desc.blk
        let e := max (max p.accCk i.relCk) ck + rowCost b p.kLen kt
        if t < e then s
        else
          let (s, fl) := (tileBlocks b p.kLen kt).foldl (fun (s, fl) j =>
            let u := i.desc.slotBase + j * blkUnits b
            let (s, e) := covRow s c u b (j * b) xs
            let (n, poison) := slotTag s c u
            (setTag s c u ((n + 1) % 2 ^ 32, poison), fl.join e)) (s, p.flags)
          let s := s.setReg ASY.CAPTURE_FREE (s.reg ASY.CAPTURE_FREE c + 1024) c
          covTake c seq t i fuel (modPair s c seq (fun p => { p with accN := p.accN + 1, accCk := e, flags := fl }))

/-- R92: the rows of the `COV` in execution accumulated by now. -/
def covProgress (s : State) (c : Nat) : State :=
  match asyHead s c 1 with
  | none => s
  | some i =>
    if s.armed ASY.INJ_CAP_UE c then s
    else covTake c i.seq s.ck i (((s.asy c).pairs.map (fun p => p.rows.length)).foldl max 0) s

/-- R92: a `COV` ends: what capture space it still holds is free. -/
def covDrop (s : State) (c : Nat) (p : Pair) : State :=
  let s := modAsy s c (fun a => { a with pairs := a.pairs.filter (fun q => q.cov.seq != p.cov.seq) })
  s.setReg ASY.CAPTURE_FREE (s.reg ASY.CAPTURE_FREE c + (p.space - 1024 * p.accN)) c

/-- COV (R91, R92, R95–R97, R106). The rows captured so far are accumulated; the `COV` ends once its paired `MATMUL` has
offered every row and the last is accumulated. One with no rows to come ends at once. -/
def execCov (c : Core) (s : State) : Host.Outcome State Fault Refusal :=
  match asyHead s c 1 with
  | none => .next s
  | some i =>
    match (s.asy c).pairs.find? (fun p => p.cov.seq == i.seq) with
    | none => .next s
    | some p =>
      let b := i.desc.blk
      let word := asyWord ((p.rows.filter (fun r => r.2.1 == 0)).length) 0 0 false false p.waited
      if p.noRows then
        .next (asyFinish (covDrop s c p) c i (if p.past then stBounds else stOk) {} (asyWord 0 0 0 false false p.waited) 0 (max s.ck i.relCk))
      else if s.armed ASY.INJ_CAP_UE c && !p.rows.isEmpty then
        let s := raiseFor .asy c 2 stCapUnc i.seq (s.disarm ASY.INJ_CAP_UE c)
        let u := i.desc.slotBase
        let s := (List.range (ceilDiv p.kLen b * blkUnits b)).foldl (fun s k => setTag s c (u + k) ((slotTag s c (u + k)).1, true)) s
        .next (asyFinish (covDrop s c p) c i stCapUnc p.flags word (s.ck - i.relCk) (max s.ck i.relCk))
      else if !p.full then .next (covProgress s c)
      else
        let s := covTake c i.seq (s.ck + 2 ^ 64) i p.rows.length s
        match (s.asy c).pairs.find? (fun p => p.cov.seq == i.seq) with
        | none => .next s
        | some p =>
          let s := s.upTo p.accCk
          let work := p.rows.foldl (fun n r => n + rowCost b p.kLen r.2.1) 64
          .next (asyFinish (covDrop s c p) c i stOk p.flags word work (max (max p.accCk p.lastCk) i.relCk + 64))

/-! ## EXPORT (R98) -/

/-- The FP32 elements of a block's image, row-major. -/
def blockImage (s : State) (c u b : Nat) : List Nat :=
  (List.range (b * b)).map (fun k =>
    let p := k / b
    let q := k % b
    if p ≤ q then slotGet s c u p q else slotGet s c u q p)

/-- R475: the header of a tile an Assay export writes. -/
def asyHdr (s : State) (c b : Nat) (es : List Nat) : TileHdr :=
  { fmt := 0, elems := es.length, rowLen := b, prodDev := s.self, prodCore := c, prodEngine := 2,
    nanSeen := es.any (fun e => (decodeFloat .fp32 e).isNan), infSeen := es.any (fun e => (decodeFloat .fp32 e).isInf) }

/-- FP32 elements written as whole tiles into a region from its tile `t0`. -/
def writeImage (s : State) (c seq : Nat) (r : Region) (t0 : Nat) (hdr : List Nat → TileHdr) (es : List Nat) : State :=
  (List.range (ceilDiv es.length 4096)).foldl (fun s k =>
    let chunk := (es.drop (k * 4096)).take 4096
    let pl := packPayload .fp32 chunk
    storeTile s c seq (r.place c false) (r.addr ((t0 + k) * 16384) / 16384) pl (mkSidecar (hdr chunk) pl [])) s

/-- ASY_EXPORT (R98). A range of blocks is written to region 2; with `CLEAR` the slots are then cleared. -/
def execAsyExport (c : Core) (s : State) : Host.Outcome State Fault Refusal :=
  match asyHead s c 2 with
  | none => .next s
  | some i =>
    let d := i.desc
    let b := d.blk
    let tiles := b * b / 4096
    let (s, fl) := (List.range d.len0).foldl (fun (s, (fl : Flags)) j =>
      let u := d.slotBase + j * blkUnits b
      let img := blockImage s c u b
      let fl := img.foldl (fun (a : Flags) e => a.join (decodeFloat .fp32 e).seen) fl
      let s := writeImage s c i.seq d.reg2 (j * tiles) (asyHdr s c b) img
      (if bit d.param 25 then clearUnits s c u (blkUnits b) else s, fl)) (s, {})
    let t := ceilDiv (d.len0 * tiles * 16384) (wrRate s c) + 64
    .next (asyFinish s c i stOk fl (asyWord 0 0 0 false false false) t (max s.ck i.relCk + t))

/-! ## BLEND (R99–R101, R106) -/

/-- The FP32 elements of an image of `n` tiles from tile `t` of a fed region; `false` where a tile stays bad (R231, R240).
An image that passes the end of its region is read on from there (log entry 99). -/
def readImage (s : State) (c eng seq : Nat) (r : Region) : Nat → Nat → List Nat × Bool
  | 0, _ => ([], true)
  | n + 1, t =>
    let a := r.addr (t * 16384) / 16384 * 16384
    let sp := spaceOf r.type r.dev r.rtype
    if fedBad (fedPieces s c eng seq sp) a 16384 = 0 then
      let pl := peek s (.fed c eng seq sp) a 16384
      let (es, ok) := readImage s c eng seq r n (t + 1)
      ((List.range 4096).map (elemBits .fp32 pl) ++ es, ok)
    else ([], false)

/-- R100: the blend of one entry: s_q and m_new, with whether s_q saturated. -/
def blendEntry (acc : Val) (n : Nat) (f : Nat) (x : Int) (beta : Int) (seed : Bool) (m : Int) : Int × Bool :=
  let q := rneInt (acc.toRat / (n : Rat) * pow2 ((f : Int) - x))
  let sq := sat32 q
  (if seed then sq else rneInt (mkRat (beta * m + (32768 - beta) * sq) 32768), q != sq)

/-- R101: the stored entries that upper entry (p, q) of a block is applied to, the first being the one blended. -/
def blendTargets (kind n p q : Nat) : List Nat :=
  if kind = kLtri then [entryIdx kind n q p]
  else if kind = kGen ∧ p ≠ q then [entryIdx kind n p q, entryIdx kind n q p] else [entryIdx kind n p q]

/-- R100, R101: a block blended into a source matrix: entries written, saturations, the state. -/
def blendBlock (s : State) (c e : Nat) (block : List Nat) (n : Nat) (beta : Int) (seed : Bool) : Nat × Nat × State :=
  let b := mtN e
  let k := mtKind e
  let pq := (List.range b).flatMap (fun p => (List.range (b - p)).map (fun d => (p, p + d)))
  pq.foldl (fun (w, sat, s) (p, q) =>
    let ts := blendTargets k b p q
    let m := storeWord s c (mtBase e) (ts.headD 0)
    let (m', past) := blendEntry (decodeFloat .fp32 (block.getD (p * b + q) 0)) n (mtF e) (mtX e) beta seed m
    let ch := ts.filter (fun i => storeWord s c (mtBase e) i != m')
    (w + ch.length, sat + b2n past, ch.foldl (fun s i => setStoreWord s c (mtBase e) i m') s)) (0, 0, s)

/-- A `BLEND` ends: its record (R105). -/
def blendEnd (s : State) (c : Nat) (i : Iss) (b : BlendSt) : State :=
  let s := modAsy s c (fun a => { a with blend := none })
  let e := max s.ck (s.port c).busyUntil
  asyFinish s c i (asyStatus b.status) b.flags (asyWord b.next (b.written / 64) b.skipped b.nonfinite b.retry false)
    (e - i.relCk) e

/-- R101, R102: entry `w` of a `BLEND` with its block read: what stops it, its blending and what it leaves to the next. `e` is
the source's matrix table entry and `n` the block's size; `ok`: the image's CRC matched. -/
def blendWith (s : State) (c : Nat) (i : Iss) (st : BlendSt) (w e n : Nat) (beta : Int) (block : List Nat) (ok : Bool) : State :=
  let d := i.desc
  let unit := bits w 0 16
  let fromImg := unit == 0xFFFF
  if !ok then
    blendEnd (raiseFor .asy c 5 stImageCrc i.seq s) c i { st with next := st.next + 1, status := st.status ++ [stImageCrc] }
  else
    let cnt := if bits w 64 32 = 0 then (if fromImg then 0 else (slotTag s c unit).1) else bits w 64 32
    let poisoned := !fromImg && (List.range (blkUnits n)).any (fun k => (slotTag s c (unit + k)).2)
    let forced := s.armed ASY.INJ_BLK_NF c
    let s := s.disarm ASY.INJ_BLK_NF c
    let upper := ((List.range (n * n)).filter (fun k => decide (k / n ≤ k % n))).map (fun k => decodeFloat .fp32 (block.getD k 0))
    let nf := forced || upper.any (fun v => !v.isFin)
    let seen := upper.foldl (fun (a : Flags) v => a.join v.seen) {}
    let reasons := (if poisoned then [stPoisoned] else []) ++ (if nf then [stNonfinite] else []) ++
      (if cnt = 0 then [stEmpty] else [])
    let s := if nf then raiseFor .asy c 4 stNonfinite i.seq (s.bump ASY.NONFINITE_BLOCKS 1 c) else s
    let (wr, sat, s) := if reasons = [] then blendBlock s c e block cnt beta (bit w 48) else (0, 0, s)
    let s := if reasons = [] && bit w 49 && !fromImg then clearUnits s c unit (blkUnits n) else s
    let t := ceilDiv (n * (n + 1)) 256 + ceilDiv wr 128 + 32
    let st := { st with
      next := st.next + 1, written := st.written + wr, skipped := st.skipped + (if reasons = [] then 0 else 1),
      nonfinite := st.nonfinite || nf, status := st.status ++ reasons, flags := (st.flags.join (satFlags sat)).join seen }
    let s := modPort s c (fun p => { p with busyUntil := s.ck + t })
    if st.next < d.len0 then modAsy s c (fun a => { a with blend := some st }) else blendEnd s c i st

/-- R99–R101: one list entry of a `BLEND` is carried out with the port granted. -/
def blendStep (s : State) (c : Nat) (i : Iss) (st : BlendSt) : State :=
  let d := i.desc
  let (eb, _, s) := readRegion s d.reg1 (d.reg1.feed c 2 i.seq false) (16 * st.next) 16
  let w := leNat eb
  let unit := bits w 0 16
  let id := bits w 16 16
  let beta := toSigned 16 (bits w 32 16)
  let e := if id < 4096 then mtab s c id else 0
  let n := if mtType e = 1 then mtN e else 0
  let stops := (if n = 128 ∨ n = 256 then [] else [stShape]) ++ (if beta < 0 then [stFormat] else [])
  if stops ≠ [] then blendEnd s c i { st with next := st.next + 1, status := st.status ++ stops }
  else
    let fromImg := unit == 0xFFFF
    let (block, ok) :=
      if fromImg then readImage s c 2 i.seq d.reg0 (n * n / 4096) (bits w 96 32) else (blockImage s c unit n, true)
    let st := { st with retry := st.retry || fedRetry s c 2 i.seq }
    blendWith s c i st w e n beta block ok

/-- BLEND (R99, R133). The next list entry is blended as one access of the store port; while the Crucible holds the port
or waits for it, the entry waits for a grant. -/
def execBlend (c : Core) (s : State) : Host.Outcome State Fault Refusal :=
  match asyHead s c 3 with
  | none => .next s
  | some i =>
    let p := s.port c
    let t := if p.lastAsy && p.asyWait.isNone then max s.ck p.busyUntil else s.ck
    let s1 := portNow (modPort { s with ck := t } c (fun q =>
      if q.asyGrant then q else { q with asyWait := some (q.asyWait.getD t) })) c
    if (s1.port c).asyGrant then
      .next (blendStep (modPort s1 c (fun q => { q with asyGrant := false })) c i (((s.asy c).blend).getD { seq := i.seq }))
    else .next { s1 with ck := s.ck }

/-! ## SQNORM and NOISE (R103, R104) -/

/-- R103: one square added to a WA64 accumulator; that of a PAIR-BF16 element is rounded first. -/
def addSquare (f : Fmt) (acc : Nat × Flags) (v : Val) : Nat × Flags :=
  let (sq, fl) := if f = .pair then
      let (e, fl) := convFloat .wa64 .rne (v.mul v)
      (decodeFloat .wa64 e, fl)
    else (v.mul v, {})
  let (a, fl') := convFloat .wa64 .rne ((decodeFloat .wa64 acc.1).add sq)
  (a, ((acc.2.join v.seen).join fl).join fl')

/-- SQNORM (R103). The squares of region 0's elements are added to `NS_LOCAL` or `NS_GLOBAL`. A tile whose header or CRC is
wrong, or that reads uncorrectable, is summed as it reads: the chapter names no status for it (log entry 99). -/
def execSqnorm (c : Core) (s : State) : Host.Outcome State Fault Refusal :=
  match asyHead s c 4 with
  | none => .next s
  | some i =>
    let d := i.desc
    let f := fmtOf d.fmt0
    let r := if bit d.param 26 then ASY.NS_GLOBAL else ASY.NS_LOCAL
    let a0 := if bit d.param 25 then 0 else s.reg r c
    let p := d.reg0.feed c 2 i.seq false
    let (a, fl) := (List.range (ceilDiv d.len0 f.perTile)).foldl (fun a k =>
      let (pl, sd) := peekTile s p (d.reg0.addr (k * 16384) / 16384)
      let vs := (List.range (min f.perTile (d.len0 - k * f.perTile))).map (fun j =>
        let co := if f.scaled then fieldAt sd 8 4 else coarseOne
        scaleVal f (fieldAt sd (64 + j / 32) 1) co (decodeElem f 0 (elemBits f pl j)))
      vs.foldl (addSquare f) a) (a0, ({} : Flags))
    let s := s.setReg r a c
    let s := if d.reg2.bytes = 0 then s else storeRegion s c i.seq d.reg2 (d.reg2.place c false) 0 (leBytes 8 a)
    let t := ceilDiv d.len0 128 + 64
    .next (asyFinish s c i stOk fl (asyWord d.len0 0 0 false false false) t (engineEnd s c 2 i t))

/-- The quotient of two values; the divisor is finite and not zero. -/
def Val.div (a b : Val) : Val :=
  match b with
  | .fin s q => if q = 0 then .nan else a.mul (.fin s (1 / q))
  | _ => .nan

/-- R104: a value rounded to WA64 by RNE, saturating under R47, with the events so far. -/
def wa (v : Val × Flags) : Val × Flags :=
  let (e, f) := convFloat .wa64 .rne v.1
  (decodeFloat .wa64 e, v.2.join f)

/-- An operation on two values with their events. -/
def both (op : Val → Val → Val) (a b : Val × Flags) : Val × Flags := wa (op a.1 b.1, a.2.join b.2)

/-- R104: a value is a positive integer. -/
def posInt (v : Val) : Bool :=
  match v with
  | .fin false q => q.den == 1 && decide (0 < q)
  | _ => false

/-- NOISE (R104). A record updates the noise estimates, or is rejected. -/
def execNoise (c : Core) (s : State) : Host.Outcome State Fault Refusal :=
  match asyHead s c 5 with
  | none => .next s
  | some i =>
    let d := i.desc
    let (b, _, s) := readRegion s d.reg0 (d.reg0.feed c 2 i.seq false) 0 32
    let v := fun k => decodeFloat .wa64 (fieldAt b (8 * k) 8)
    let x := fun (k : Nat) => (v k, ({} : Flags))
    let seen := (List.range 4).foldl (fun (a : Flags) k => a.join (v k).seen) {}
    let endCk := engineEnd s c 2 i 1
    let word := asyWord 0 0 0 false false false
    if !((v 0).isFin && (v 1).isFin && posInt (v 2) && posInt (v 3) && (v 2).lt (v 3)) then
      .next (asyFinish (raiseFor .asy c 6 stBadCount i.seq s) c i stBadCount seen word 1 endCk)
    else
      let sub := fun (a b : Val) => a.add b.neg
      let dd := both sub (x 3) (x 2)
      let lm := both Val.mul (x 0) (both Val.div (x 2) (x 3))
      let g2 := both Val.div (both sub (both Val.mul (x 3) (x 1)) (both Val.mul (x 2) lm)) dd
      let sv := both Val.div (both Val.mul (both Val.mul (both sub lm (x 1)) (x 2)) (x 3)) dd
      let fp := fun (v : Val) => convFloat .fp32 .rne v
      let al : Rat := mkRat (s.fld ASY.CTRL_NS_ALPHA c % 2 ^ 15 : Nat) 32768
      let mix := fun (old : Nat) (new : Val) =>
        fp (((decodeFloat .fp32 old).mul (.fin false al)).add (new.mul (.fin false (1 - al))))
      let frozen := s.flag ASY.CTRL_NS_FREEZE c
      let n := s.reg ASY.NS_UPDATES c
      let seed := n == 0 || s.flag ASY.CTRL_NS_RESEED c
      let (eg, f1) := if seed then fp g2.1 else mix (s.reg ASY.NS_G2_EMA c) g2.1
      let (es, f2) := if seed then fp sv.1 else mix (s.reg ASY.NS_S_EMA c) sv.1
      let pos := Val.lt (.fin false 0) (decodeFloat .fp32 eg)
      let fl := (seen.join g2.2).join sv.2
      let s := s.setReg ASY.NS_UPDATES (satN 32 (n + 1)) c
      if frozen then .next (asyFinish s c i stOk fl word 1 endCk)
      else
        let s := (s.setReg ASY.NS_G2_EMA eg c).setReg ASY.NS_S_EMA es c
        let s := if seed then s.setFld ASY.CTRL_NS_RESEED 0 c else s
        let (bn, f3) := if pos then fp ((decodeFloat .fp32 es).div (decodeFloat .fp32 eg)) else (0x7F800000, { inf := true })
        .next (asyFinish (s.setReg ASY.NS_BNOISE bn c) c i (if pos then stOk else stNoiseInvalid)
          (((fl.join f1).join f2).join f3) word 1 endCk)

/-- ASY_NS_UPDATES_WRITE (R104). A write to `NS_UPDATES`; 0 restarts the averages at the next record. -/
def execAsyNsUpdatesWrite (c : Core) (v : BitVec 32) (s : State) : Host.Outcome State Fault Refusal :=
  if s.pageState .asy c = pgQuenched then .next s else .next (s.setReg ASY.NS_UPDATES v.toNat c)

/-! ## The feed (R99, R103, R104, R242) -/

/-- R242: what an Assay descriptor asks the Runners for at once. -/
def asyFeed (d : Desc) : List Req :=
  if d.op = 3 then sectorReqs d.reg1 0 (16 * d.len0) 0
  else if d.op = 4 then (tileReqs d.reg0 (ceilDiv d.len0 (fmtOf d.fmt0).perTile) 0).map (fun r => { r with check := false })
  else if d.op = 5 then sectorReqs d.reg0 0 32 0
  else []

/-- R99: the images a delivered `BLEND` list names: the tiles of each, in list order. -/
def asyImages (s : State) (c : Nat) (i : Iss) (tag0 : Nat) : List Req :=
  let d := i.desc
  if d.op ≠ 3 then [] else
  let list := (d.reg1.chunks (16 * d.len0 + 1) 0 (16 * d.len0)).flatMap (fun x => peek s (d.reg1.feed c 2 i.seq false) x.1 x.2)
  (List.range d.len0).foldl (fun out k =>
    let w := leNat (slice list (16 * k) 16)
    let id := bits w 16 16
    let e := if id < 4096 then mtab s c id else 0
    let n := if mtType e = 1 ∧ (mtN e = 128 ∨ mtN e = 256) then mtN e else 0
    if bits w 0 16 = 0xFFFF then
      out ++ (List.range (n * n / 4096)).map (fun t => tileReq d.reg0 (bits w 96 32 + t) (tag0 + out.length + t))
    else out) []

end Sys2Proof.Machine
end

