-- ==== Sys2Proof/Machine/CrucibleMath.lean ====
section
/-!
DEFINITION. Machine/CrucibleMath.lean: chapter 05 without time or stores: working matrices (R113), column exponents
(R114), normalisation (R119), the factorisations (R120), the iterations (R121, R122) and triangular solves (R123).
-/
namespace Sys2Proof.Machine

open Sys2Proof

/-! ## Working matrices (R113) -/

/-- The value of entry `i` of a working matrix (row-major). -/
def WMat.at (w : WMat) (i : Nat) : Rat := (w.m.getD i 0 : Int) * pow2 (w.e - 30)

/-- The value of entry (p, q). -/
def WMat.get (w : WMat) (p q : Nat) : Rat := w.at (p * w.n + q)

/-- The smallest exponent from `e` up to 127 at which the two extremes, rounded at `frac` fraction bits, fit in Q32, if
there is one in `n` tries. -/
def leastExp (lo hi : Rat) (frac : Nat) : Nat → Int → Int
  | 0, e => e
  | n + 1, e =>
    if 127 ≤ e then 127
    else if fits32 (rneInt (lo * pow2 ((frac : Int) - e))) && fits32 (rneInt (hi * pow2 ((frac : Int) - e))) then e
    else leastExp lo hi frac n (e + 1)

/-- The least and the greatest of a list of values and 0. -/
def extremes (vs : List Rat) : Rat × Rat :=
  vs.foldl (fun (a, b) v => (if v < a then v else a, if b < v then v else b)) (0, 0)

/-- R113: values formed into a working matrix: one block exponent, each entry rounded once; how many saturate. -/
def formW (n : Nat) (vs : List Rat) : WMat × Nat :=
  let (lo, hi) := extremes vs
  let e := leastExp lo hi 30 256 (-128)
  let is := vs.map (fun v => rneInt (v * pow2 (30 - e)))
  ({ n := n, e := e, m := is.map sat32 }, satCount is)

/-- Values computed entry by entry and formed into a working matrix. -/
def formF (n : Nat) (f : Nat → Nat → Rat) : WMat × Nat :=
  formW n ((List.range (n * n)).map (fun i => f (i / n) (i % n)))

/-- The exact dot product over k < n of two families of values. -/
def dot (n : Nat) (f g : Nat → Rat) : Rat := (List.range n).foldl (fun t k => t + f k * g k) 0

/-- R121: a product, formed exactly and rounded once. The number carried beside a matrix counts saturations. -/
def mulW (a b : WMat × Nat) : WMat × Nat :=
  let n := a.1.n
  let (w, s) := formF n (fun p q => dot n (fun k => a.1.get p k) (fun k => b.1.get k q))
  (w, s + a.2 + b.2)

/-- The product with the transpose of the second matrix. -/
def mulWT (a b : WMat × Nat) : WMat × Nat :=
  let n := a.1.n
  let (w, s) := formF n (fun p q => dot n (fun k => a.1.get p k) (fun k => b.1.get q k))
  (w, s + a.2 + b.2)

/-- The identity as a working matrix. -/
def idW (n : Nat) : WMat × Nat := formF n (fun p q => if p = q then 1 else 0)

/-- R121: an element-wise line of two matrices. -/
def lineW (x : Rat) (a : WMat × Nat) (y : Rat) (b : WMat × Nat) : WMat × Nat :=
  let (w, s) := formF a.1.n (fun p q => x * a.1.get p q + y * b.1.get p q)
  (w, s + a.2 + b.2)

/-! ## Columns with their own exponents (R114, R120) -/

/-- A column being formed: its exponent, its entries so far, and how many have saturated. -/
structure Col where
  e : Int := 0
  m : List Int := []
  sat : Nat := 0
deriving DecidableEq, Repr

/-- The value of stored entry `i` of a column. -/
def Col.at (c : Col) (i : Nat) : Rat := (c.m.getD i 0 : Int) * pow2 (c.e - 30)

/-- R114: entries shifted to a higher exponent, each rounded once more. -/
def shiftCol (m : List Int) (d : Int) : List Int := m.map (fun i => rneInt ((i : Int) * pow2 (-d)))

/-- The smallest exponent from `e` at which an entry fits; `r e` is the entry rounded at exponent `e`. -/
def colExp (r : Int → Int) : Nat → Int → Int
  | 0, e => e
  | n + 1, e => if 127 ≤ e ∨ fits32 (r e) then e else colExp r n (e + 1)

/-- R114: a new entry is rounded at the column's exponent, which is raised by the least amount that makes it fit. -/
def Col.push (c : Col) (r : Int → Int) : Col :=
  let e := colExp r 256 c.e
  let i := r e
  { e := e, m := (if e = c.e then c.m else shiftCol c.m (e - c.e)) ++ [sat32 i], sat := c.sat + (if fits32 i then 0 else 1) }

/-- An exact value rounded at an exponent with 30 fraction bits. -/
def atExp (v : Rat) (e : Int) : Int := rneInt (v * pow2 (30 - e))

/-- The quotient of a value by a stored entry, rounded at an exponent; a factor entry rounded to 0 gives a value the spec
does not state (log entry 31). -/
def quotAt (v d : Rat) (e : Int) : Int :=
  if d = 0 then toSigned 32 (Config.quotByZero v.num v.den).toNat else atExp (v / d) e

/-- The integer square root by bisection on 2^`n`. -/
def isqrt : Nat → Nat → Nat
  | 0, _ => 0
  | n + 1, x =>
    let r := 2 * isqrt n (x / 4)
    if (r + 1) * (r + 1) ≤ x then r + 1 else r

/-- The square root of a positive rational rounded to an integer, ties to even: x = n + f with f compared with ½ exactly. -/
def rneSqrt (q : Rat) : Int :=
  let x := q.floor.toNat
  let n := isqrt (Nat.log2 x / 2 + 1) x
  let half : Rat := ((2 * n + 1 : Nat) : Rat) / 2
  let h2 := half * half
  if q < h2 then (n : Int) else if h2 < q then (n : Int) + 1 else if n % 2 = 0 then (n : Int) else (n : Int) + 1

/-- R114: columns brought to the largest column exponent: a working matrix by columns, row-major. `off j` is the first
row the entries of column j stand for. -/
def joinCols (n rows : Nat) (off : Nat → Nat) (cs : List Col) : Int × List Int :=
  let e := cs.foldl (fun m c => max m c.e) (cs.headD {}).e
  let cols := cs.map (fun c => shiftCol c.m (e - c.e))
  (e, (List.range (rows * n)).map (fun i =>
    let p := i / n
    let q := i % n
    if p < off q then 0 else (cols.getD q []).getD (p - off q) 0))

/-- What a factorisation reports: replaced pivots and the first of them. -/
structure Pivots where
  count : Nat := 0
  first : Nat := 0
deriving DecidableEq, Repr

/-- R120: the factor of a working matrix, columns in ascending order: `CHOL` arithmetic, or `LDL` with `ldl`. `force`
replaces the first pivot (R404). -/
def factorW (a : WMat) (ldl : Bool) (tau : Rat) (force : Bool) : WMat × Nat × Pivots :=
  let n := a.n
  let (cs, pv) := (List.range n).foldl (fun (cs, pv) j =>
    let l := fun (i k : Nat) => (cs.getD k {} : Col).at (i - k)
    let d := fun (k : Nat) => if ldl then l k k else 1
    let piv := a.get j j - (List.range j).foldl (fun t k => t + l j k * l j k * d k) 0
    let bad : Bool := decide (piv ≤ 0) || decide (piv < tau) || (force && j == 0)
    let dj := if bad then tau else piv
    let c0 : Col := Col.push {} (fun e => if ldl then atExp dj e else rneSqrt (dj * pow2 (60 - 2 * e)))
    let c := (List.range (n - j - 1)).foldl (fun (c : Col) k =>
      let i := j + 1 + k
      let v := a.get i j - (List.range j).foldl (fun t k => t + l i k * l j k * d k) 0
      c.push (fun e => quotAt v (c.at 0) e)) c0
    (cs ++ [c], if bad then { count := pv.count + 1, first := if pv.count = 0 then j else pv.first } else pv))
    (([], {}) : List Col × Pivots)
  let (e, m) := joinCols n n (fun j => j) cs
  ({ n := n, e := e, m := m }, cs.foldl (fun t c => t + c.sat) 0, pv)

/-- R114: L Y = B (or Lᵀ Y = B), row by row; `l p q` is the factor, `b p q` the right-hand side of `r` columns with block
exponent `e0`; `unit` takes the diagonal as 1. -/
def solveW (n r : Nat) (l b : Nat → Nat → Rat) (e0 : Int) (trans unit : Bool) : Int × List Int × Nat :=
  let cs := (List.range r).map (fun q =>
    (List.range n).foldl (fun (c : Col) t =>
      let i := if trans then n - 1 - t else t
      let li := fun (u : Nat) => let k := if trans then n - 1 - u else u; if trans then l k i else l i k
      let s := (List.range t).foldl (fun x u => x + li u * c.at u) 0
      let v := b i q - s
      c.push (fun e => if unit then atExp v e else quotAt v (l i i) e)) ({ e := e0 } : Col))
  let (e, m) := joinCols r n (fun _ => 0) cs
  let m := if trans then (List.range (n * r)).map (fun i => m.getD ((n - 1 - i / r) * r + i % r) 0) else m
  (e, m, cs.foldl (fun t c => t + c.sat) 0)

/-! ## Normalisation (R119) -/

/-- R119 step 2: the squared Frobenius norm of an n × n matrix of values. -/
def frob (n : Nat) (f : Nat → Nat → Rat) : Rat :=
  (List.range (n * n)).foldl (fun t i => t + f (i / n) (i % n) * f (i / n) (i % n)) 0

/-- The smallest multiple of `k` at or above an integer. -/
def raiseTo (k : Nat) (e : Int) : Int := -((-e) / (k : Int)) * k

/-- R119 step 3: the smallest e with 2^(2e) ≥ Φ > 0. -/
def normShift (phi : Rat) : Int :=
  let k := floorLog2 phi
  let up : Int := if pow2 k = phi then k else k + 1
  raiseTo 2 up / 2

/-! ## The solves (R120–R122) -/

/-- R116: p of `PCODE`. -/
def rootP (code : Nat) : Nat := 2 ^ code

/-- R119: the step to whose multiple the shift is raised. -/
def shiftStep (op p : Nat) : Nat := if op = opChol then 2 else if op = opIroot ∨ op = opRoot then p else 1

/-- R119: the exponent that denormalisation adds to the result. -/
def denorm (op p : Nat) (e : Int) : Int :=
  if op = opChol then e / 2 else if op = opInv then -e else if op = opIroot then -(e / (p : Int))
  else if op = opRoot then e / (p : Int) else 0

/-- R121: `iters` rounds of the coupled Newton iteration from (m, x); the last number counts saturations. -/
def newtonW (n p : Nat) : Nat → WMat → WMat → Nat → WMat × WMat × Nat
  | 0, m, x, s => (m, x, s)
  | k + 1, m, x, s =>
    let t := lineW (1 / (p : Rat) * -1) (m, 0) (((p + 1 : Nat) : Rat) / (p : Rat)) ((idW n).1, 0)
    let x' := mulW (x, 0) (t.1, 0)
    let t2 := mulW (t.1, 0) (t.1, 0)
    let t4 := if 4 ≤ p then mulW (t2.1, 0) (t2.1, 0) else (t2.1, 0)
    let t8 := if p = 8 then mulW (t4.1, 0) (t4.1, 0) else (t4.1, 0)
    let m' := mulW (t8.1, 0) (m, 0)
    newtonW n p k m'.1 x'.1 (s + t.2 + x'.2 + t2.2 + (if 4 ≤ p then t4.2 else 0) + (if p = 8 then t8.2 else 0) + m'.2)

/-- R121: the `ROOT` tail: A′ x^(p−1), by the fixed chain of products. -/
def rootTail (a x : WMat) (p : Nat) : WMat × Nat :=
  if p = 2 then mulW (a, 0) (x, 0)
  else
    let x2 := mulW (x, 0) (x, 0)
    if p = 4 then
      let x3 := mulW (x2.1, 0) (x, 0)
      let w := mulW (a, 0) (x3.1, 0)
      (w.1, x2.2 + x3.2 + w.2)
    else
      let x4 := mulW (x2.1, 0) (x2.1, 0)
      let x6 := mulW (x4.1, 0) (x2.1, 0)
      let x7 := mulW (x6.1, 0) (x, 0)
      let w := mulW (a, 0) (x7.1, 0)
      (w.1, x2.2 + x4.2 + x6.2 + x7.2 + w.2)

/-- R122: `iters` rounds of Newton–Schulz. -/
def orthW (ca cb cc : Rat) : Nat → WMat → Nat → WMat × Nat
  | 0, x, s => (x, s)
  | k + 1, x, s =>
    let g := mulWT (x, 0) (x, 0)
    if cc = 0 then
      let gx := mulW (g.1, 0) (x, 0)
      let x' := lineW ca (x, 0) cb (gx.1, 0)
      orthW ca cb cc k x'.1 (s + g.2 + gx.2 + x'.2)
    else
      let g2 := mulW (g.1, 0) (g.1, 0)
      let u := lineW cb (g.1, 0) cc (g2.1, 0)
      let ux := mulW (u.1, 0) (x, 0)
      let x' := lineW ca (x, 0) 1 (ux.1, 0)
      orthW ca cb cc k x'.1 (s + g.2 + g2.2 + u.2 + ux.2 + x'.2)

/-- R121, R127: resid, in units of 2^−12 rounded up and saturated. -/
def residOf (m : WMat) : Nat :=
  let r := (List.range (m.n * m.n)).foldl (fun (t : Rat) i =>
    let d := m.at i - (if i / m.n = i % m.n then 1 else 0)
    let d := if d < 0 then -d else d
    if t < d then d else t) 0
  satN 16 (r * (4096 : Nat)).ceil.toNat

/-- What a solve has computed: its result before denormalisation, the exponent that adds, the pivots, resid and the
saturations in its working matrices. -/
structure Solved where
  w : WMat
  shift : Int
  dshift : Int := 0
  piv : Pivots := {}
  resid : Nat := 0
  sat : Nat := 0
deriving DecidableEq, Repr

/-- R119–R122: a solve carried out on a snapshot of values (damping applied) whose units have exponent `xf` = X − F. -/
def solve (op n p iters : Nat) (tau na nb nc : Rat) (force : Bool) (xf : Int) (f : Nat → Nat → Rat) : Solved :=
  let phi := frob n f
  let e := raiseTo (shiftStep op p) (if phi = 0 then xf else normShift phi)
  let (a, s0) := formF n (fun i j => f i j * pow2 (-e))
  let sh := denorm op p e
  if op = opChol then
    let (l, s, pv) := factorW a false tau force
    { w := l, shift := sh, piv := pv, sat := s0 + s }
  else if op = opLdl then
    let (l, s, pv) := factorW a true tau force
    { w := l, shift := 0, dshift := e, piv := pv, sat := s0 + s }
  else if op = opInv then
    let (l, s, pv) := factorW a false tau force
    let (ye, ym, s') := solveW n n (fun i j => l.get i j) (fun i j => if i = j then 1 else 0) (idW n).1.e false false
    let y : WMat := { n := n, e := ye, m := ym }
    let (w, s'') := formF n (fun i j => dot n (fun k => y.get k i) (fun k => y.get k j))
    { w := w, shift := sh, piv := pv, sat := s0 + s + s' + s'' }
  else if op = opOrth then
    let (x, s) := orthW na nb nc iters a s0
    { w := x, shift := sh, sat := s }
  else
    let (m, x, s) := newtonW n p iters a (idW n).1 s0
    if op = opRoot then
      let (w, s') := rootTail a x p
      { w := w, shift := sh, resid := residOf m, sat := s + s' }
    else { w := x, shift := sh, resid := residOf m, sat := s }

/-- R127: the value of packed entry (i, j) of a solve's result. -/
def Solved.value (r : Solved) (op i j : Nat) : Rat :=
  r.w.get i j * pow2 (if op = opLdl ∧ i = j then r.dshift else r.shift)

end Sys2Proof.Machine
end

