-- ==== Sys2Proof/Machine/Crucible.lean ====
section
/-!
DEFINITION. Machine/Crucible.lean: chapter 05 in time: classes, steps and quanta, problems and their publication, the
direct operations, deadlines, and what a Crucible descriptor reports.
-/
namespace Sys2Proof.Machine

open Sys2Proof

/-- R195: the statuses of the Crucible. -/
def stBusy : Nat := 0x41
def stStale : Nat := 0x42

/-- R140: the status reported. -/
def cruStatus (xs : List Nat) : Nat :=
  ([stStoreUnc, stImageCrc, stFormat, stBounds, stBusy, stStale].find? (fun x => xs.contains x)).getD stOk

/-! ## Contexts -/

/-- The queue of a class. -/
def cruQ (hi : Bool) : EngQ := if hi then .cruHigh else .cruLow

/-- An ID names a defined result. -/
def isRes (s : State) (c id : Nat) : Bool := decide (id < 4096) && mtType (mtab s c id) == 2

/-! ## Lists (R117, R124–R126, R242) -/

/-- The bytes of an entry of a descriptor's list. -/
def entryBytes (d : Desc) : Nat := if d.op = 10 then 16 else if d.op = 14 then 32 else 8

/-- R242: what a Crucible descriptor asks the Runners for at once: its list, and the right-hand sides of a `TRSM`. -/
def cruFeed (d : Desc) : List Req :=
  let a := sectorReqs d.reg1 0 (entryBytes d * d.len0) 0
  if d.op = opTrsm then
    a ++ tileReqs d.reg0 (ceilDiv (d.len0 * d.cruN * d.rhs) (fmtOf d.fmt0).perTile) a.length
  else a

/-- The list of a released descriptor has been brought to the Crucible. -/
def listReady (s : State) (c : Nat) (i : Iss) : Bool :=
  match findReq s c 3 i.seq with
  | some q => q.indexed
  | none => false

/-- Bytes of a descriptor's list: of a released one, those brought to it; before that they are as its memory holds them, and
those of a remote list are not known: they read as all ones, which is no matrix ID (log entry 101). -/
def listBytes (s : State) (c : Nat) (i : Iss) (off n : Nat) : List Byte :=
  let r := i.desc.reg1
  if listReady s c i then peekRegion s r (r.feed c 3 i.seq false) off n
  else if r.type = 3 then List.replicate n 255
  else peekRegion s r (r.place c false) off n

/-- R117: entry `k` of a problem list: the source ID and the result ID. -/
def listEntry (s : State) (c : Nat) (i : Iss) (k : Nat) : Nat × Nat :=
  let b := listBytes s c i (8 * k) 8
  (fieldAt b 0 2, fieldAt b 2 2)

/-- `CRU.STATE` shows what runs and whether a low-class problem is held. -/
def showCru (s : State) (c : Nat) : State :=
  let x := s.cru c
  let run := match x.step with
    | some st => if st.hi then 2 else 1
    | none => if x.waitFrom.isSome then 3 else 0
  (s.setFld CRU.STATE_RUNNING run c).setFld CRU.STATE_STEP (b2n (x.lo.any (fun y => !y.group.isEmpty))) c

/-- A released descriptor takes its class's context. -/
def cruRelease (s : State) (c : Nat) (i : Iss) : State :=
  let hi := i.desc.hipri
  let x : CCtx := { iss := i, stale := i.stale, staleN := if i.stale then i.desc.len0 else 0 }
  let s := modCru s c (fun y => if hi then { y with hi := some x } else { y with lo := some x })
  s.setReg (if hi then CRU.CUR_SEQ_HI else CRU.CUR_SEQ_LO) i.seq c

/-- The released descriptor with a sequence number. -/
def cruIss (s : State) (c seq : Nat) : Option Iss :=
  match (s.cru c).lo, (s.cru c).hi with
  | some x, y => if x.iss.seq = seq then some x.iss else (y.filter (fun z => z.iss.seq == seq)).map CCtx.iss
  | none, y => (y.filter (fun z => z.iss.seq == seq)).map CCtx.iss

/-- The list of a released descriptor has come: the results of a solve read "queued" in their working status. -/
def cruListed (s : State) (c : Nat) (i : Iss) : State :=
  if isSolve i.desc.op && i.desc.op != opTrsm then
    (List.range i.desc.len0).foldl (fun s k =>
      let r := (listEntry s c i k).2
      if isRes s c r then setStWork s c r (1 + (if i.stale then 32 else 0)) else s) s
  else s

/-! ## Costs (R128) -/

/-- U of R128. -/
def costU (n : Nat) : Nat := n * max n 64 * max n 64 / 4096

/-- R128: equal quanta. -/
def eachQ (k q : Nat) : List (QKind × Nat) := List.replicate k (.work, q)

/-- R128: the computing quanta of a solve at size n. -/
def solveQuanta (d : Desc) : List (QKind × Nat) :=
  let n := d.cruN
  let u := costU n
  let k := max (n / 64) 1
  let lg := if d.pcode = 1 then 1 else if d.pcode = 2 then 2 else 3
  let tp := if d.pcode = 1 then 1 else if d.pcode = 2 then 3 else 5
  if d.op = opChol ∨ d.op = opLdl then eachQ k ((u + 8 * n) / k)
  else if d.op = opInv then eachQ k ((u + 8 * n) / k) ++ eachQ k ((8 * n + u / 2) / k) ++ [(.work, u)]
  else if d.op = opIroot then eachQ (d.iters * (2 + lg)) u
  else if d.op = opRoot then eachQ (d.iters * (2 + lg) + tp) u
  else eachQ (d.iters * (if bits d.w38 32 16 = 0 then 2 else 3)) u

/-- R128: part `i` of `k` equal parts of a cost; the first takes what is left over. -/
def share (x k i : Nat) : Nat := if i = 0 then x - x / k * (k - 1) else x / k

/-- R128: the quanta of a group of a `TRSM` (log entry 32 says how the cost is divided). The port time of a problem is spread
over its quanta; that of the first lies in the group's computing quanta, so that none exceeds 4,096 ck. -/
def trsmQuanta (s : State) (c : Nat) (d : Desc) (members : Nat) : List (QKind × Nat) :=
  let n := d.cruN
  let r := d.rhs
  let k := ceilDiv r 64
  let comp := ceilDiv (r * max n 64 * max n 64) 8192
  let y := elemBytes (fmtOf d.fmt2) (n * r)
  let port := max (ceilDiv y (wrRate s c)) (portV kLtri n) + 64
  (List.range k).flatMap (fun i =>
    (.work, 8 * n + share comp k i + share port k i) :: List.replicate (members - 1) (.work, share port k i))

/-! ## Problems (R117–R119) -/

/-- R117: the problems that run together. -/
def groupSize (n : Nat) : Nat := if n < 64 then (64 / n) * (64 / n) else 1

/-- R118, R123, R139: why a problem is skipped, as bits of its status word; 0 where it runs. -/
def skipBits (s : State) (c : Nat) (hi : Bool) (d : Desc) (src res : Nat) : Nat :=
  let e := if src < 4096 then mtab s c src else 0
  let r := if res < 4096 then mtab s c res else 0
  let n := d.cruN
  let inFlight := match ctxOf s c (!hi) with | some x => x.group.any (fun p => p.resId == res && !p.skip) | none => false
  if d.op = opTrsm then
    if mtType e = 2 ∧ mtKind e = kLtri ∧ mtN e = n ∧ mtValid e then 0 else 128
  else
    let kinds :=
      if d.op = opChol ∨ d.op = opLdl then mtKind e == kSym && mtKind r == kLtri
      else if d.op = opOrth then (mtKind e == kSym || mtKind e == kGen) && mtKind r == mtKind e
      else mtKind e == kSym && mtKind r == kSym
    if !(mtType e == 1 && mtType r == 2 && mtN e == n && mtN r == n && kinds) then 128
    else if inFlight then 256
    else if mtPoison e then 512 else 0

/-- R118, R139: a skipped problem: its working status, its count, and source 2 for a poisoned source. -/
def noteSkip (s : State) (c : Nat) (hi : Bool) (i : Iss) (k res b : Nat) : State :=
  let s := modCtx s c hi (fun x => { x with skipN := x.skipN + 1, missed := x.missed ++ [k] })
  let s := if i.desc.op != opTrsm && isRes s c res then setStWork s c res (5 + b + (stWork s c res &&& 32)) else s
  if b = 512 then
    raiseFor .cru c 2 stStoreUnc i.seq (modCtx s c hi (fun x => { x with status := x.status ++ [stStoreUnc] }))
  else s

/-- R117, R128: the next group of a solve: its problems and its quanta. -/
def loadGroup (s : State) (c : Nat) (hi : Bool) (x : CCtx) : State :=
  let i := x.iss
  let d := i.desc
  let k := min (groupSize d.cruN) (d.len0 - x.next)
  let (ps, s) := (List.range k).foldl (fun (ps, s) t =>
    let (src, res) := listEntry s c i (x.next + t)
    let b := skipBits s c hi d src res
    let s := if b = 0 then s else noteSkip s c hi i (x.next + t) res b
    (ps ++ [({ idx := x.next + t, srcId := src, resId := res, skip := b != 0 } : CProb)], s)) (([] : List CProb), s)
  let live := ps.filter (fun p => !p.skip)
  let v := fun (f : CProb → Nat) => live.foldl (fun t p => t + portV (mtKind (mtab s c (f p))) d.cruN) 0
  let skips := List.replicate (ps.length - live.length) (QKind.skipped, 16)
  let qs := if live.isEmpty then skips
    else if d.op = opTrsm then skips ++ trsmQuanta s c d live.length
    else skips ++ [(.snap, v (fun p => p.srcId) + 64)] ++ solveQuanta d ++ [(.write, v (fun p => p.resId) + 32)]
  modCtx s c hi (fun x => { x with group := ps, quanta := qs, next := x.next + k })

/-! ## Direct operations: costs and items (R124–R126, R480) -/

/-- R480: the tiles an entry's image takes. -/
def imageTiles (s : State) (c id fmt : Nat) : Nat :=
  let e := if id < 4096 then mtab s c id else 0
  if mtType e = 1 ∨ mtType e = 2 then ceilDiv (mtN e * mtN e) (fmtOf fmt).perTile else 0

/-- R480: the tile of its region at which the image of entry `k` begins. -/
def imageStart (s : State) (c : Nat) (i : Iss) (fmt k : Nat) : Nat :=
  (List.range k).foldl (fun t j => t + imageTiles s c (listEntry s c i j).1 fmt) 0

/-- R124, R125: an entry of a direct operation is skipped. An `EMA` or `RESCALE` entry whose n is not the descriptor's, and an
`EMA` pair of unlike n or kind, is skipped too: R115 has them alike, and no rule says what else such an entry does (log entry
101). -/
def itemSkipped (s : State) (c : Nat) (i : Iss) (k : Nat) : Bool :=
  let d := i.desc
  let (a, b) := listEntry s c i k
  let e := if a < 4096 then mtab s c a else 0
  let g := if b < 4096 then mtab s c b else 0
  if d.op = 9 then
    !(mtType e == 1 && mtType g == 1 && mtN e == mtN g && mtKind e == mtKind g && mtN e == d.cruN)
  else if d.op = 11 then !(mtType e == 1 && mtN e == d.cruN)
  else if d.op = 13 then !(mtType e == 1 || (mtType e == 2 && mtValid e && !mtPoison e))
  else mtType e != 1

/-- R128: the cost of entry `k` of a direct operation on a matrix. -/
def itemCost (s : State) (c : Nat) (i : Iss) (k : Nat) : Nat :=
  let d := i.desc
  let e := mtab s c (listEntry s c i k).1
  let v := portV (mtKind e) (mtN e)
  let y := fun f => mtN e * mtN e * ((fmtOf f).width / 8)
  if itemSkipped s c i k then 16
  else if d.op = 8 then 2 * ceilDiv (mtN e) 128 + 32
  else if d.op = 9 then 3 * v + 32
  else if d.op = 11 then 2 * v + 32
  else if d.op = 12 then max (ceilDiv (y d.fmt0) (rdRate s c)) v + 64
  else max (ceilDiv (y d.fmt2) (wrRate s c)) v + 64

/-- R128: the quanta of a direct operation. -/
def directQuanta (s : State) (c : Nat) (i : Iss) : List (QKind × Nat) :=
  let d := i.desc
  if d.op = 10 then
    (List.range (ceilDiv d.len0 1024)).map (fun q => (.item, min 1024 (d.len0 - 1024 * q) + (if q = 0 then 64 else 0)))
  else if d.op = 14 then
    (List.range d.len0).map (fun k =>
      let b := listBytes s c i (32 * k) 16
      let e := fieldAt b 8 8
      (.item, 16 + (if bit (fieldAt b 0 4) 16 then mtType e * portV (mtKind e) (mtN e) else 0)))
  else (List.range d.len0).map (fun k => (.item, itemCost s c i k))

/-! ## Steps (R130–R132) -/

/-- The longest leading run of quanta whose total is at most a limit. -/
def leading : List (QKind × Nat) → Nat → List (QKind × Nat)
  | [], _ => []
  | q :: qs, lim => if q.2 ≤ lim then q :: leading qs (lim - q.2) else []

/-- The total of a list of quanta. -/
def qTotal (qs : List (QKind × Nat)) : Nat := qs.foldl (fun t q => t + q.2) 0

/-- The class's context with the quanta of its next group or descriptor at hand. -/
def ensureQuanta (s : State) (c : Nat) (hi : Bool) : State :=
  match ctxOf s c hi with
  | some x =>
    if x.quanta.isEmpty && x.group.isEmpty && !x.ended && listReady s c x.iss then
      if isSolve x.iss.desc.op then (if x.next < x.iss.desc.len0 then loadGroup s c hi x else s)
      else if x.next = 0 then modCtx s c hi (fun y => { y with quanta := directQuanta s c y.iss })
      else s
    else s
  | none => s

/-- R130, R131: the quanta of the step a class would start now; none where no quantum fits. -/
def nextStep (s : State) (c : Nat) (hi : Bool) : List (QKind × Nat) :=
  match ctxOf s c hi with
  | none => []
  | some x =>
    let fit := s.fitTick - s.ck
    let lim := min (s.fld CRU.CTRL_STEP_MAX c * 1024) fit
    let b := s.fld CRU.CTRL_LOW_BUDGET c * 1024
    let lim := if hi ∨ b = 0 then lim else min lim (b - (s.cru c).lowUsed)
    if x.ended then [] else leading x.quanta lim

/-- R133: the accesses of a step to the resident store: the snapshots and result writes of its problems, what a `TRSM` reads of
published sets with its first quantum, and the items of a direct operation. -/
def stepAccs (s : State) (c : Nat) (x : CCtx) (qs : List (QKind × Nat)) : List CAcc :=
  let live := x.group.filter (fun p => !p.skip)
  let n := x.iss.desc.cruN
  let one := fun (id : CProb → Nat) (snap : Bool) (off : Nat) =>
    (live.foldl (fun (t : List CAcc × Nat) p =>
      let v := portV (mtKind (mtab s c (id p))) n
      (t.1 ++ [{ off := t.2, len := v, snap := if snap then some p.idx else none }], t.2 + v)) ([], off)).1
  let first := x.quanta.length = (if x.iss.desc.op = opTrsm then
    (x.group.length - live.length) + (trsmQuanta s c x.iss.desc live.length).length else 0)
  (qs.foldl (fun (t : List CAcc × Nat × Bool) q =>
    let (as, off, fresh) := t
    match q.1 with
    | .snap => (as ++ one CProb.srcId true off, off + q.2, fresh)
    | .write => (as ++ one CProb.resId false off, off + q.2, fresh)
    | .item => (as ++ [{ off := off, len := if q.2 = 16 ∧ x.iss.desc.op ≠ 10 then 0 else q.2 }], off + q.2, fresh)
    | .work => (if fresh then as ++ one CProb.srcId true off else as, off + q.2, false)
    | .skipped => (as, off + q.2, fresh)) ([], 0, decide (x.iss.desc.op = opTrsm ∧ first))).1

/-- R130: a step of a class starts, with its first access to the store where the port is free (R133). -/
def startStep (s : State) (c : Nat) (hi : Bool) (qs : List (QKind × Nat)) : State :=
  match ctxOf s c hi with
  | none => s
  | some x =>
    let op := x.iss.desc.op
    let all := decide (qs.length = x.quanta.length)
    let need := qs.any (fun q => q.1 == .item) || (isSolve op && op != opTrsm && qs.any (fun q => q.1 == .write)) ||
      (op == opTrsm && all && qs.any (fun q => q.1 == .work))
    let step : CStep := { hi := hi, quanta := qs, startCk := s.ck, endCk := s.ck + qTotal qs, applied := !need,
                          accs := stepAccs s c x qs }
    showCru (portNow (modCru s c (fun y => { y with step := some step, progCk := s.ck })) c) c

/-- A class has quanta it could start. -/
def classWaits (s : State) (c : Nat) (hi : Bool) : Bool := (ctxOf s c hi).any (fun x => !x.quanta.isEmpty && !x.ended)

/-- R131: a class has begun to wait for the tick. -/
def beginWait (s : State) (c : Nat) : State :=
  modCru s c (fun x => { x with waitFrom := some (x.waitFrom.getD s.ck) })

/-- R131: the wait for the tick ends at ck `t`, and counts. -/
def endWait (s : State) (c t : Nat) : State :=
  match (s.cru c).waitFrom with
  | some w => modCru (s.wrapAdd CRU.FIT_WAIT_CK (t - w) c) c (fun x => { x with waitFrom := none })
  | none => s

/-- CRU_STEP_START (R130, R131). The high class's next step starts if it fits; else the low class's; a class whose step
does not fit waits for the tick. A group begins, and its problems are judged (R118), with the step that starts it. -/
def execCruStepStart (c : Core) (s : State) : Host.Outcome State Fault Refusal :=
  if (s.cru c).step.isSome || !s.pageOn .cru c || s.idleFrame || decide (s.ck < (s.cru c).resumeCk) then .next s
  else
    let sh := ensureQuanta s c true
    let h := nextStep sh c true
    if h ≠ [] then .next (startStep (endWait sh c s.ck) c true h)
    else
      let hw := classWaits sh c true
      let sl := ensureQuanta s c false
      let l := nextStep sl c false
      if l ≠ [] then .next (startStep (if hw then beginWait sl c else endWait sl c s.ck) c false l)
      else if hw || classWaits sl c false then .next (showCru (beginWait s c) c)
      else .next s

/-- CRU_RESUME (R131). 64 ck after the tick the classes that waited may start again. -/
def execCruResume (c : Core) (s : State) : Host.Outcome State Fault Refusal :=
  let s := s.upTo (s.cru c).resumeCk
  if (s.cru c).waitFrom.any (fun w => decide (w < (s.cru c).resumeCk)) then .next (showCru (endWait s c s.ck) c)
  else .next s

/-! ## Problems computed (R119–R123) -/

/-- The status bits of a computed result. -/
def solvedBits (d : Desc) (r : Solved) : Nat :=
  (if r.piv.count = 0 then 0 else 8 + r.piv.first * 2 ^ 16 + min r.piv.count 256 * 2 ^ 24) + (if r.sat = 0 then 0 else 16) +
  (if d.op = opLdl then 1024 else 0) + (if d.op = opIroot ∨ d.op = opRoot then r.resid * 2 ^ 48 else 0)

/-- R119: one problem of a solve computed from its snapshot; a diagonal integer that damping saturates counts (R112). -/
def computeProb (d : Desc) (force : Bool) (kind : Nat) (p : CProb) : Solved :=
  let n := d.cruN
  let u := pow2 (p.x - (p.f : Int))
  let v := fun i j =>
    let m := packed kind n p.snap i j
    ((if i = j then sat32 (m + d.lambda) else m : Int) : Rat) * u
  let damped := satCount ((List.range n).map (fun i => packed kind n p.snap i i + d.lambda))
  let q := fun (k : Nat) => mkRat (toSigned 16 (bits d.w38 (16 * k) 16)) 4096
  let r := solve d.op n (rootP d.pcode) d.iters (mkRat d.tau (2 ^ 30)) (q 0) (q 1) (q 2) force (p.x - (p.f : Int)) v
  { r with sat := r.sat + damped }

/-- R133: the step in progress has begun every access that reads a source: the command comes when the last has begun. -/
def catchReads (s : State) (c : Nat) : State :=
  match (s.cru c).step with
  | none => s
  | some z =>
    let t := ((z.accs.filter (fun a => a.snap.isSome)).getLast?.map (fun a => z.startCk + z.waited + a.off)).getD s.ck
    portNow (s.upTo t) c

/-- A solve's computing in the step in progress, when its operation is `op`. -/
def runSolve (s : State) (c op : Nat) : State :=
  let s := catchReads s c
  match (s.cru c).step with
  | none => s
  | some st =>
    match ctxOf s c st.hi with
    | none => s
    | some x =>
      if x.iss.desc.op = op ∧ ¬ st.applied ∧ ¬ st.accs.any (fun a => a.snap.isSome) then
        let d := x.iss.desc
        let (ps, s) := x.group.foldl (fun (ps, s) p =>
          if p.skip then (ps ++ [p], s) else
          let force := s.armed CRU.INJ_PIVOT c && (op == opChol || op == opLdl || op == opInv)
          let s := if force then s.disarm CRU.INJ_PIVOT c else s
          let r := computeProb d force (mtKind (mtab s c p.srcId)) p
          let s := s.bump CRU.SAT_COUNT r.sat c
          let s := modCtx s c st.hi (fun y => { y with flags := y.flags.join (satFlags r.sat) })
          (ps ++ [{ p with result := some r.w, shift := r.shift, dshift := r.dshift, st := solvedBits d r }], s)) (([] : List CProb), s)
        let s := modCtx s c st.hi (fun y => { y with group := ps })
        modStep s c (fun z => { z with applied := true })
      else s

/-- CHOL (R120). -/
def execChol (c : Core) (s : State) : Host.Outcome State Fault Refusal := .next (runSolve s c opChol)
/-- LDL (R120). -/
def execLdl (c : Core) (s : State) : Host.Outcome State Fault Refusal := .next (runSolve s c opLdl)
/-- INV (R121). -/
def execInv (c : Core) (s : State) : Host.Outcome State Fault Refusal := .next (runSolve s c opInv)
/-- IROOT (R121). -/
def execIroot (c : Core) (s : State) : Host.Outcome State Fault Refusal := .next (runSolve s c opIroot)
/-- ROOT (R121). -/
def execRoot (c : Core) (s : State) : Host.Outcome State Fault Refusal := .next (runSolve s c opRoot)
/-- ORTH (R122). -/
def execOrth (c : Core) (s : State) : Host.Outcome State Fault Refusal := .next (runSolve s c opOrth)

/-! ## Images (R123, R125) -/

/-- R475: the header of a tile the Crucible writes. -/
def cruHdr (s : State) (c fmt frac rowLen epoch elems : Nat) (fl : Flags) : TileHdr :=
  { fmt := fmt, frac := if fmt = 11 then frac else 0, elems := elems, rowLen := rowLen, stepEpoch := epoch,
    nanSeen := fl.nan, infSeen := fl.inf, sat := decide (0 < fl.sat), prodDev := s.self, prodCore := c, prodEngine := 3 }

/-- R231: bytes written into tile `t` of a region from byte `off` of it, the tile sealed with a header formed from the one it
had. Part of a tile of a remote memory is sent without its sidecar (log entry 101). -/
def patchTile (s : State) (c seq : Nat) (r : Region) (t off : Nat) (bs : List Byte) (hdr : TileHdr → TileHdr) : State :=
  let p := r.place c false
  let a := r.addr (t * 16384) / 16384
  let form := fun (x : List Byte × List Byte) =>
    let pl := patch x.1 off bs
    (pl, mkSidecar (hdr (TileHdr.parse x.2)) pl [])
  match p with
  | .ing => ingWrite (s.wrapAdd ING.HOST_BYTES bs.length) c seq a form
  | .remote _ _ =>
    if bs.length = 16384 then let y := form (bs, []); storeTile s c seq p a y.1 y.2
    else storeAt s c seq p (a * 16384 + off) bs
  | p => let y := form (peekTile s p a); storeTile s c seq p a y.1 y.2

/-- Values written as whole tiles of a format from tile `t0` of a region, rounded by RNE (R47); the events. -/
def writeValues (s : State) (c seq : Nat) (r : Region) (t0 fmt frac rowLen epoch : Nat) (vs : List Val) : State × Flags :=
  let f := fmtOf fmt
  (List.range (ceilDiv vs.length f.perTile)).foldl (fun (s, fl) k =>
    let rs := ((vs.drop (k * f.perTile)).take f.perTile).map (fun v => convert f frac .rne v)
    let e := rs.foldl (fun a x => a.join x.2) ({} : Flags)
    let pl := packPayload f (rs.map Prod.fst)
    (storeTile s c seq (r.place c false) (r.addr ((t0 + k) * 16384) / 16384) pl
      (mkSidecar (cruHdr s c fmt frac rowLen epoch rs.length e) pl []), fl.join e)) (s, {})

/-- The tiles of a region that `n` elements of a format from element `e0` lie in. -/
def elemTiles (f : Fmt) (e0 n : Nat) : List Nat :=
  let t0 := e0 / f.perTile
  (List.range ((e0 + n - 1) / f.perTile - t0 + 1)).map (fun k => t0 + k)

/-- The tiles have been brought to a descriptor. -/
def tilesFed (s : State) (c seq : Nat) (r : Region) (ts : List Nat) : Bool :=
  let ps := fedPieces s c 3 seq (spaceOf r.type r.dev r.rtype)
  ts.all (fun t => (pieceAt ps (r.addr (t * 16384) / 16384 * 16384)).isSome)

/-- The values of `n` elements from element `e0` of a fed region's image; `false` where a tile stays bad (R139). -/
def readValues (s : State) (c seq : Nat) (r : Region) (fmt frac e0 n : Nat) : List Val × Bool :=
  let f := fmtOf fmt
  let sp := spaceOf r.type r.dev r.rtype
  let ts := elemTiles f e0 n
  let at_ := fun (t : Nat) => r.addr (t * 16384) / 16384 * 16384
  (ts.flatMap (fun t =>
    let pl := peek s (.fed c 3 seq sp) (at_ t) 16384
    let lo := max e0 (t * f.perTile)
    (List.range (min (e0 + n) ((t + 1) * f.perTile) - lo)).map (fun j =>
      decodeElem f frac (elemBits f pl (lo - t * f.perTile + j)))),
   ts.all (fun t => fedBad (fedPieces s c 3 seq sp) (at_ t) 16384 == 0))

/-- A descriptor of a class ends at this point with a status (R125, R126, R139, R480). -/
def cruEndWith (s : State) (c : Nat) (hi : Bool) (st : Nat) : State :=
  modCtx s c hi (fun x => { x with status := x.status ++ [st], ended := true })

/-- R139: a second CRC mismatch ends the descriptor with source 7. -/
def cruImageBad (s : State) (c : Nat) (hi : Bool) (seq : Nat) : State :=
  cruEndWith (raiseFor .cru c 7 stImageCrc seq s) c hi stImageCrc

/-- A value as a rational number for the Crucible, which holds no infinity and no NaN: an infinity is beyond every
exponent of R113, and NaN is 0 as R47 has it for a Q format. -/
def cruRat (v : Val) : Rat :=
  match v with
  | .nan => 0
  | .inf s => if s then -pow2 200 else pow2 200
  | v => v.toRat

/-- R141: source 5, for a problem, matrix or entry with `k` saturations. -/
def raiseSat (s : State) (c : Nat) (hi : Bool) (k : Nat) : State :=
  if k = 0 then s else raiseFor .cru c 5 0 (((ctxOf s c hi).map (fun x => x.iss.seq)).getD 0) s

/-- A problem that publishes nothing, a matrix or an entry is processed, with `k` saturations (R112, R138). -/
def countDone (s : State) (c : Nat) (hi : Bool) (k : Nat) : State :=
  modCtx (raiseSat (s.bump CRU.SAT_COUNT k c) c hi k) c hi (fun x => { x with
    doneN := x.doneN + 1, satN := x.satN + b2n (decide (0 < k)), flags := x.flags.join (satFlags k) })

/-- R123: the solution of a `TRSM` problem written to region 2 from element `e0` on, tile by tile; the events of each tile are in
its header. -/
def writeSolution (s : State) (c : Nat) (i : Iss) (e0 : Nat) (rs : List (Nat × Flags)) : State :=
  let d := i.desc
  let f := fmtOf d.fmt2
  let size := f.width / 8
  (elemTiles f e0 rs.length).foldl (fun s t =>
    let lo := max e0 (t * f.perTile)
    let part := (rs.drop (lo - e0)).take (min (e0 + rs.length) ((t + 1) * f.perTile) - lo)
    let fl := part.foldl (fun a x => a.join x.2) ({} : Flags)
    let fresh := decide (lo = t * f.perTile)
    patchTile s c i.seq d.reg2 t ((lo - t * f.perTile) * size) (part.flatMap (fun x => leBytes size x.1)) (fun old =>
      let h := cruHdr s c d.fmt2 d.frac d.rhs d.scaleWord (min f.perTile (d.len0 * d.cruN * d.rhs - t * f.perTile)) fl
      if fresh then h
      else { h with nanSeen := h.nanSeen || old.nanSeen, infSeen := h.infSeen || old.infSeen, sat := h.sat || old.sat })) s

/-- R123: one `TRSM` problem: the solution of L Y = B or Lᵀ Y = B written to region 2. -/
def trsmProb (s : State) (c : Nat) (hi : Bool) (i : Iss) (p : CProb) : State :=
  let d := i.desc
  let n := d.cruN
  let r := d.rhs
  let (bs, ok) := readValues s c i.seq d.reg0 d.fmt0 d.frac (p.idx * n * r) (n * r)
  if !ok then cruImageBad s c hi i.seq
  else
    let u := pow2 (p.x - (p.f : Int))
    let rat := bs.map cruRat
    let (lo, h) := extremes rat
    let e0 := leastExp lo h 30 256 (-128)
    let bi := rat.map (fun v => rneInt (v * pow2 (30 - e0)))
    let b := fun a q => ((sat32 (bi.getD (a * r + q) 0) : Int) : Rat) * pow2 (e0 - 30)
    let (ye, ym, sat) := solveW n r (fun a q => ((packed kLtri n p.snap a q : Int) : Rat) * u) b e0 d.trans (bit p.st 10)
    let ys := ym.map (fun y => Val.ofRat (((y : Int) : Rat) * pow2 (ye - 30)))
    let rs := ys.map (fun v => convert (fmtOf d.fmt2) d.frac .rne v)
    let wr := rs.foldl (fun (a : Flags) x => a.join x.2) {}
    let seen := bs.foldl (fun (a : Flags) v => a.join v.seen) {}
    let s := writeSolution s c i (p.idx * n * r) rs
    let s := modCtx s c hi (fun x => { x with flags := (x.flags.join seen).join { wr with sat := 0 } })
    countDone s c hi (sat + satCount bi + wr.sat)

/-- TRSM (R123). The solutions of the group in hand are written once its right-hand sides have come. -/
def execTrsm (c : Core) (s : State) : Host.Outcome State Fault Refusal :=
  let s := catchReads s c
  match (s.cru c).step with
  | none => .next s
  | some st =>
    match ctxOf s c st.hi with
    | none => .next s
    | some x =>
      let d := x.iss.desc
      let m := d.cruN * d.rhs
      if d.op = opTrsm ∧ ¬ st.applied ∧ ¬ st.accs.any (fun a => a.snap.isSome) ∧
          x.group.all (fun p => p.skip || tilesFed s c x.iss.seq d.reg0 (elemTiles (fmtOf d.fmt0) (p.idx * m) m)) then
        let s := x.group.foldl (fun s p =>
          if p.skip || (ctxOf s c st.hi).any CCtx.ended then s else trsmProb s c st.hi x.iss p) s
        .next (modStep s c (fun z => { z with applied := true }))
      else .next s

/-! ## Direct operations (R124–R126) -/

/-- A matrix or entry of a direct operation is skipped. -/
def countSkip (s : State) (c : Nat) (hi : Bool) : State := modCtx s c hi (fun x => { x with skipN := x.skipN + 1 })

/-- R139: an uncorrectable word met by a direct operation: the matrix that holds it is poisoned and skipped. -/
def storeBad (s : State) (c : Nat) (hi : Bool) (i : Iss) (id : Nat) : State := countSkip (poison s c hi i.seq id) c hi

/-- R124: entries of a source replaced, only where they change. -/
def storeChanged (s : State) (c e : Nat) (old new : List Int) : State :=
  ((old.zip new).zipIdx).foldl (fun s (x, i) => if x.1 = x.2 then s else setStoreWord s c (mtBase e) i x.2) s

/-- R124: `DAMP` of one source. -/
def dampOne (s : State) (c : Nat) (hi : Bool) (i : Iss) (id : Nat) : State :=
  let e := mtab s c id
  let n := mtN e
  let ix := (List.range n).map (fun k => entryIdx (mtKind e) n k k)
  let vs := ix.map (fun k => storeWord s c (mtBase e) k + i.desc.lambda)
  countDone ((ix.zip vs).foldl (fun s (k, v) => setStoreWord s c (mtBase e) k (sat32 v)) s) c hi (satCount vs)

/-- R124: `EMA` of one pair of sources. -/
def emaOne (s : State) (c : Nat) (hi : Bool) (i : Iss) (a b : Nat) : State :=
  let e := mtab s c a
  let g := mtab s c b
  let old := readBuf s c (mtBase e) (mtKind e) (mtN e)
  let other := readBuf s c (mtBase g) (mtKind g) (mtN g)
  let sq := other.map (fun (v : Int) => rneInt (v * pow2 (mtX g - (mtF g : Int)) * pow2 ((mtF e : Int) - mtX e)))
  let be := i.desc.beta
  let new := (old.zip sq).map (fun x => rneInt (mkRat (be * x.1 + (32768 - be) * sat32 x.2) 32768))
  countDone (storeChanged s c e old new) c hi (satCount sq)

/-- R124: `RESCALE` of one source. -/
def rescaleOne (s : State) (c : Nat) (hi : Bool) (i : Iss) (id : Nat) : State :=
  let e := mtab s c id
  let old := readBuf s c (mtBase e) (mtKind e) (mtN e)
  let sh := ((i.desc.newF : Int) - i.desc.newX) - ((mtF e : Int) - mtX e)
  let new := old.map (fun (v : Int) => rneInt (v * pow2 sh))
  let s := writeBuf s c (mtBase e) (new.map sat32)
  let s := setMtabFld (setMtabFld s c id 26 5 i.desc.newF) c id 32 8 (ofSigned 8 i.desc.newX)
  countDone s c hi (satCount new)

/-- R124: one `DELTA` entry. -/
def deltaOne (s : State) (c : Nat) (hi : Bool) (i : Iss) (k : Nat) : State :=
  let b := listBytes s c i (16 * k) 16
  let id := fieldAt b 0 2
  let e := if id < 4096 then mtab s c id else 0
  let n := mtN e
  let r := fieldAt b 2 1
  let q := fieldAt b 3 1
  let (r, q) := if mtKind e = kSym ∧ q < r then (q, r) else (r, q)
  if mtType e != 1 || decide (n ≤ r ∨ n ≤ q) || (mtKind e == kLtri && decide (r < q)) then countSkip s c hi
  else if bit (fieldAt b 8 1) 0 && storeHitAt s c (mtBase e) (entryIdx (mtKind e) n r q) 1 then storeBad s c hi i id
  else
    let ix := entryIdx (mtKind e) n r q
    let v := toSigned 32 (fieldAt b 4 4)
    let v := if bit (fieldAt b 8 1) 0 then storeWord s c (mtBase e) ix + v else v
    countDone (setStoreWord s c (mtBase e) ix (sat32 v)) c hi (satCount [v])

/-- R125, R480: one `IMPORT`. A matrix left unchanged for a value that is not finite counts as skipped: the CRU page has no other
count of it (log entry 101). -/
def importOne (s : State) (c : Nat) (hi : Bool) (i : Iss) (k id : Nat) : State :=
  let d := i.desc
  let e := mtab s c id
  let n := mtN e
  let t0 := imageStart s c i d.fmt0 k
  if d.reg0.bytes < (t0 + imageTiles s c id d.fmt0) * 16384 then cruEndWith s c hi stBounds
  else
    let (vs, ok) := readValues s c i.seq d.reg0 d.fmt0 d.frac (t0 * (fmtOf d.fmt0).perTile) (n * n)
    if !ok then cruImageBad s c hi i.seq
    else
      let read := (List.range (n * n)).filter (fun j =>
        mtKind e == kGen || (mtKind e == kSym && decide (j / n ≤ j % n)) || (mtKind e == kLtri && decide (j % n ≤ j / n)))
      let vals := read.map (fun j => vs.getD j .nan)
      let seen := vals.foldl (fun a v => a.join v.seen) ({} : Flags)
      if seen.nan || seen.inf then countSkip (modCtx s c hi (fun x => { x with flags := x.flags.join seen })) c hi
      else
        let ints := vals.map (fun v => rneInt (v.toRat * pow2 ((mtF e : Int) - mtX e)))
        let s := (read.zip ints).foldl (fun s (j, v) =>
          setStoreWord s c (mtBase e) (entryIdx (mtKind e) n (j / n) (j % n)) (sat32 v)) s
        let s := cleanBuf s c (mtBase e) (bufUnits (mtKind e) n)
        countDone (setMtabFld s c id 31 1 0) c hi (satCount ints)

/-- R125, R480: one `EXPORT`. -/
def exportOne (s : State) (c : Nat) (hi : Bool) (i : Iss) (k id : Nat) : State :=
  let d := i.desc
  let e := mtab s c id
  let n := mtN e
  let t0 := imageStart s c i d.fmt2 k
  let res := mtType e == 2
  if d.reg2.bytes < (t0 + imageTiles s c id d.fmt2) * 16384 then cruEndWith s c hi stBounds
  else if storeHit s c (bufUnit e (if res then mtPub e else 0)) (mtKind e) n then storeBad s c hi i id
  else
    let m := readBuf s c (bufUnit e (if res then mtPub e else 0)) (mtKind e) n
    let u := pow2 ((if res then mtXPub e else mtX e) - (mtF e : Int))
    let vs := (List.range (n * n)).map (fun j => Val.ofRat (((packed (mtKind e) n m (j / n) (j % n) : Int) : Rat) * u))
    let (s, fl) := writeValues s c i.seq d.reg2 t0 d.fmt2 d.frac n (if res then mtEpoch e else d.scaleWord) vs
    countDone (modCtx s c hi (fun x => { x with flags := x.flags.join { fl with sat := 0 } })) c hi fl.sat

/-- R126: an ID is a source or a result of a problem in flight or queued in either class. -/
def cruUses (s : State) (c id : Nat) : Bool :=
  let inList := fun (i : Iss) (from_ : Nat) => isSolve i.desc.op && (List.range (i.desc.len0 - from_)).any (fun k =>
    let (a, b) := listEntry s c i (from_ + k)
    a == id || (i.desc.op != opTrsm && b == id))
  let inCtx := fun (x : Option CCtx) => x.any (fun x => inList x.iss x.next ||
    x.group.any (fun p => p.srcId == id || (x.iss.desc.op != opTrsm && p.resId == id)))
  inCtx (s.cru c).lo || inCtx (s.cru c).hi ||
  (s.eng c .cruLow).queue.any (fun i => inList i 0) || (s.eng c .cruHigh).queue.any (fun i => inList i 0)

/-- The first and the number of units of an entry's buffers. -/
def entryUnits (e : Nat) : Nat × Nat := (mtBase e, mtType e * bufUnits (mtKind e) (mtN e))

/-- R126: buffers that overlap those of another defined ID, or pass the end of the store. -/
def defineOverlaps (s : State) (c id e : Nat) : Bool :=
  let (b, n) := entryUnits e
  decide (392192 < b + n) || (s.cru c).mtab.any (fun x =>
    let (b', n') := entryUnits x.2
    x.1 != id && mtType x.2 != 0 && decide (b < b' + n' ∧ b' < b + n))

/-- R126: one `DEFINE` entry. -/
def defineOne (s : State) (c : Nat) (hi : Bool) (i : Iss) (k : Nat) : State :=
  let b := listBytes s c i (32 * k) 32
  let id := fieldAt b 0 2
  let e := fieldAt b 8 8
  let ty := mtType e
  let formatBad := ty == 3 || ((ty == 1 || ty == 2) && (decide (5 < bits e 19 3) || mtKind e == 3 || decide (mtF e < 16 ∨ 30 < mtF e)))
  if 4096 ≤ id then cruEndWith s c hi stBounds
  else if formatBad then cruEndWith s c hi stFormat
  else if ty ≠ 0 ∧ defineOverlaps s c id e then cruEndWith s c hi stBounds
  else if cruUses s c id then cruEndWith s c hi stBusy
  else if ty = 0 then countDone (setMtab s c id 0) c hi 0
  else
    let (u, n) := entryUnits e
    let s := if bit (fieldAt b 2 1) 0 then
        cleanBuf (modCru s c (fun x => { x with
          store := x.store.filter (fun w => !decide (64 * u ≤ w.1 ∧ w.1 < 64 * (u + n))) })) c u n else s
    countDone (setMtab s c id (setBits (e % 2 ^ 40) 31 1 0)) c hi 0

/-- One item (matrix or list entry) of a direct operation. -/
def itemOne (s : State) (c : Nat) (hi : Bool) (i : Iss) (k : Nat) : State :=
  let d := i.desc
  if (ctxOf s c hi).any CCtx.ended then s
  else if d.op = 10 then
    (List.range (min 1024 (d.len0 - 1024 * k))).foldl (fun s t => deltaOne s c hi i (1024 * k + t)) s
  else if d.op = 14 then defineOne s c hi i k
  else
    let (a, b) := listEntry s c i k
    let hit := fun (id : Nat) => let e := mtab s c id; storeHit s c (mtBase e) (mtKind e) (mtN e)
    let e := mtab s c a
    if itemSkipped s c i k then countSkip s c hi
    else if d.op = 12 then importOne s c hi i k a
    else if d.op = 13 then exportOne s c hi i k a
    else if d.op = 8 then
      if (List.range (mtN e)).any (fun j => storeHitAt s c (mtBase e) (entryIdx (mtKind e) (mtN e) j j) 1) then storeBad s c hi i a
      else dampOne s c hi i a
    else if hit a then storeBad s c hi i a
    else if d.op = 9 && hit b then storeBad s c hi i b
    else if d.op = 9 then emaOne s c hi i a b
    else rescaleOne s c hi i a

/-- R125: the tiles of the image of entry `k` of an `IMPORT` in its region; none where it is skipped or passes the region. -/
def importTiles (s : State) (c : Nat) (i : Iss) (k : Nat) : List Nat :=
  let d := i.desc
  let t0 := imageStart s c i d.fmt0 k
  let n := imageTiles s c (listEntry s c i k).1 d.fmt0
  if d.op ≠ 12 ∨ itemSkipped s c i k ∨ d.reg0.bytes < (t0 + n) * 16384 then [] else (List.range n).map (fun t => t0 + t)

/-- R242: the requests for the tiles of images of an `IMPORT` that it has not asked for. -/
def askTiles (s : State) (c : Nat) (i : Iss) (ts : List Nat) : State :=
  match findReq s c 3 i.seq with
  | none => s
  | some q =>
    let new := (ts.map (fun t => tileReq i.desc.reg0 t 0)).filter (fun r => !q.asked.any (fun x => x.tile && x.addr == r.addr))
    let new := new.zipIdx.map (fun x => { x.1 with tag := q.total + x.2 })
    if new = [] then s
    else modReq s c 3 i.seq (fun q => { q with todo := q.todo ++ new, asked := q.asked ++ new, total := q.total + new.length })

/-- The next item of the step in progress, once its access has begun. One it skips costs 16 ck (R128); one that ends the
descriptor ends the step with it, and a `DEFINE` entry refused clears no buffer, so it costs 16 ck. -/
def itemNext (s : State) (c : Nat) (st : CStep) (x : CCtx) : State :=
  let before := ((ctxOf s c st.hi).map CCtx.skipN).getD 0
  let s := modCru (itemOne s c st.hi x.iss (x.next + st.done)) c (fun y => { y with progCk := s.ck })
  let q := (st.quanta[st.done]?.getD (.item, 0)).2
  let ended := (ctxOf s c st.hi).any CCtx.ended
  let skipped := x.iss.desc.op ≠ 10 ∧ ((ctxOf s c st.hi).map CCtx.skipN).getD 0 ≠ before
  let cost := if skipped ∨ (ended ∧ x.iss.desc.op = 14) then 16 else q
  let s := if (s.port c).lastAsy then s else modPort s c (fun p => { p with busyUntil := p.busyUntil - (q - cost) })
  modStep s c (fun z =>
    let qs := setNth (if ended then z.quanta.take (z.done + 1) else z.quanta) z.done (.item, cost)
    { z with quanta := qs, done := z.done + 1, endCk := z.startCk + z.waited + qTotal qs,
             accs := if ended then [] else z.accs.map (fun a => { a with off := a.off - (q - cost) }),
             applied := ended || decide (qs.length ≤ z.done + 1) })

/-- The items of the step in progress, one after another as their accesses begin and, for an `IMPORT`, its image is there. -/
def runItems : Nat → State → Nat → Nat → State
  | 0, s, _, _ => s
  | n + 1, s, c, op =>
    let t := ((s.cru c).step.bind (fun z => z.accs.head?.map (fun a => z.startCk + z.waited + a.off))).getD s.ck
    let go := (s.cru c).step.any (fun z => decide (z.done + z.accs.length < z.quanta.length))
    let s := if go then s else portNow (s.upTo t) c
    match (s.cru c).step with
    | none => s
    | some st =>
      match ctxOf s c st.hi with
      | none => s
      | some x =>
        if x.iss.desc.op = op ∧ ¬ st.applied ∧ st.done + st.accs.length < st.quanta.length then
          let ts := importTiles s c x.iss (x.next + st.done)
          if tilesFed s c x.iss.seq x.iss.desc.reg0 ts then runItems n (itemNext s c st x) c op
          else grantSlots (askTiles s c x.iss ts) c
        else s

/-- A direct operation: the items of the step in progress, when it belongs to operation `op`. -/
def runDirect (s : State) (c op : Nat) : State :=
  if (s.cru c).step.any (fun z => (ctxOf s c z.hi).any (fun x => x.iss.desc.op == op)) then
    runItems (((s.cru c).step.map (fun z => z.quanta.length)).getD 0 + 1) s c op
  else s

/-- DAMP (R124). -/
def execDamp (c : Core) (s : State) : Host.Outcome State Fault Refusal := .next (runDirect s c 8)
/-- EMA (R124). -/
def execEma (c : Core) (s : State) : Host.Outcome State Fault Refusal := .next (runDirect s c 9)
/-- DELTA (R124). -/
def execDelta (c : Core) (s : State) : Host.Outcome State Fault Refusal := .next (runDirect s c 10)
/-- RESCALE (R124). -/
def execRescale (c : Core) (s : State) : Host.Outcome State Fault Refusal := .next (runDirect s c 11)
/-- IMPORT (R125). -/
def execImport (c : Core) (s : State) : Host.Outcome State Fault Refusal := .next (runDirect s c 12)
/-- CRU_EXPORT (R125). -/
def execCruExport (c : Core) (s : State) : Host.Outcome State Fault Refusal := .next (runDirect s c 13)
/-- DEFINE (R126). -/
def execDefine (c : Core) (s : State) : Host.Outcome State Fault Refusal := .next (runDirect s c 14)

/-! ## Result writes and publication (R127, R135) -/

/-- R135: the publication of a result, one atomic write of its table entry. -/
def publish (s : State) (c id epoch : Nat) : State :=
  let e := mtab s c id
  let e := setBits e 192 64 (mtStWork e)
  let e := setBits e 160 8 (bits e 168 8)
  let e := setBits e 40 1 (1 - mtPub e)
  let e := setBits e 41 1 1
  let e := setBits e 64 48 s.frame
  let e := setBits e 128 32 epoch
  let e := setBits e 112 16 (bits e 112 16 + 1)
  (setMtab s c id (setBits e 31 1 0)).bump CRU.PUBLISHED 1 c

/-- R127, R135, R138: one problem's result is written into the working set and published. -/
def writeResult (s : State) (c : Nat) (hi : Bool) (i : Iss) (p : CProb) : State :=
  match p.result with
  | none => s
  | some w =>
    let d := i.desc
    let e := mtab s c p.resId
    let n := mtN e
    let k := mtKind e
    let r : Solved := { w := w, shift := p.shift, dshift := p.dshift }
    let pq := (List.range (n * n)).filter (fun j =>
      k == kGen || (k == kSym && decide (j / n ≤ j % n)) || (k == kLtri && decide (j % n ≤ j / n)))
    let vs := pq.map (fun j => r.value d.op (j / n) (j % n))
    let (lo, h) := extremes vs
    let x := leastExp lo h (mtF e) 256 (-128)
    let raw := vs.map (fun v => rneInt (v * pow2 ((mtF e : Int) - x)))
    let inj := s.armed CRU.INJ_SAT c
    let s := s.disarm CRU.INJ_SAT c
    let raw := if inj then (match raw with | _ :: t => (2 ^ 31 : Nat) :: t | [] => []) else raw
    let unit := bufUnit e (1 - mtPub e)
    let s := (pq.zip raw).foldl (fun s (j, v) => setStoreWord s c unit (entryIdx k n (j / n) (j % n)) (sat32 v)) s
    let s := cleanBuf s c unit (bufUnits k n)
    let sat := satCount raw
    let under := ((vs.zip raw).filter (fun y => y.1 != 0 && y.2 == 0)).length
    let lim := s.fld CRU.CTRL2_RESID_LIMIT c
    let resid := bits p.st 48 16
    let high := (d.op == opIroot || d.op == opRoot) && decide (lim ≠ 0 ∧ lim < resid)
    let anySat := bit p.st 4 || decide (0 < sat)
    let st := setBits p.st 4 1 (b2n anySat) + (if high then 64 else 0) + 3 + (stWork s c p.resId &&& 32)
    let s := setMtabFld (setStWork s c p.resId st) c p.resId 168 8 (ofSigned 8 x)
    let s := publish s c p.resId d.scaleWord
    let reg := bit p.st 3
    let s := s.bump CRU.SAT_COUNT sat c
    let s := if reg then raiseFor .cru c 4 0 i.seq (s.bump CRU.REG_COUNT 1 c) else s
    let s := if anySat then raiseFor .cru c 5 0 i.seq s else s
    let s := if high then raiseFor .cru c 9 0 i.seq s else s
    modCtx s c hi (fun y => { y with
      doneN := y.doneN + 1, regN := y.regN + b2n reg, satN := y.satN + b2n anySat,
      flags := y.flags.join { overflow := decide (0 < sat), sat := sat, under := under } })

/-- R138: the engine word. -/
def cruWord (x : CCtx) : Nat :=
  satN 11 x.doneN + satN 11 x.staleN * 2 ^ 11 + satN 11 x.regN * 2 ^ 22 + satN 11 x.satN * 2 ^ 33 +
  satN 11 x.skipN * 2 ^ 44 + b2n x.abandoned * 2 ^ 55 + b2n x.late * 2 ^ 56 + b2n x.portWaited * 2 ^ 57

/-- The descriptor of a class has finished at ck `t`. -/
def cruFinish (s : State) (c : Nat) (hi : Bool) (t : Nat) : State :=
  match ctxOf s c hi with
  | none => s
  | some x =>
    let s := modCru s c (fun y => if hi then { y with hi := none } else { y with lo := none })
    showCru (finishDesc (dropReq s c 3 x.iss.seq) c (cruQ hi) x.iss (cruStatus x.status) x.flags (cruWord x) t) c

/-- Every problem or item of a descriptor is over. -/
def ctxOver (x : CCtx) : Bool :=
  x.ended || (x.quanta.isEmpty && x.group.isEmpty && (!isSolve x.iss.desc.op || decide (x.iss.desc.len0 ≤ x.next)))

/-- R130, R132: a step is over: its time counts, a result write publishes (R135), and a descriptor with nothing left finishes. In
open timing a step that was still running at a tick is late. -/
def stepFinish (s : State) (c : Nat) (st : CStep) : State :=
  let s := s.wrapAdd CRU.BUSY_CK (st.endCk - st.startCk) c
  let late := !s.locked && decide (st.startCk < s.frameCk ∧ s.frameCk < st.endCk)
  let s := modCru s c (fun x => { x with
    step := none, progCk := s.ck, lowUsed := if st.hi then x.lowUsed else x.lowUsed + (st.endCk - st.startCk) })
  let s := if late then raiseFor .cru c 8 0 ((ctxOf s c st.hi).map (fun x => x.iss.seq) |>.getD 0)
      (modCtx s c st.hi (fun x => { x with late := true })) else s
  match ctxOf s c st.hi with
  | none => s
  | some x =>
    let s := if st.quanta.any (fun q => q.1 == .write) && !x.ended then
        x.group.foldl (fun s p => if p.skip then s else writeResult s c st.hi x.iss p) s else s
    let left := x.quanta.drop st.quanta.length
    let s := modCtx s c st.hi (fun y => { y with
      quanta := left, group := if left.isEmpty then [] else y.group, next := y.next + st.done })
    match ctxOf s c st.hi with
    | some y =>
      if ctxOver y then cruFinish s c st.hi (if y.abandoned then max s.ck (s.cru c).resumeCk else s.ck) else showCru s c
    | none => s

/-- R125: the step in progress ends no earlier than the data its `IMPORT` has waited for. -/
def stepEnd (s : State) (c : Nat) (st : CStep) : Nat :=
  match ctxOf s c st.hi with
  | some x =>
    if x.iss.desc.op = 12 ∨ x.iss.desc.op = opTrsm then
      max st.endCk ((findReq s c 3 x.iss.seq).map (fun q => if q.todo.isEmpty ∧ q.got.length = q.total then q.last else 0) |>.getD 0)
    else st.endCk
  | none => st.endCk

/-- CRU_STEP_END (R130, R132, R135). The step in progress ends once its work is done and its accesses have been made. -/
def execCruStepEnd (c : Core) (s : State) : Host.Outcome State Fault Refusal :=
  match (s.cru c).step with
  | none => .next s
  | some st =>
    if !st.applied && !(ctxOf s c st.hi).any CCtx.ended then .next s else
    let s := portNow (s.upTo st.endCk) c
    match (s.cru c).step with
    | none => .next s
    | some st =>
      if !st.accs.isEmpty then .next s
      else
        let st := { st with endCk := stepEnd s c st }
        .next (stepFinish (s.upTo st.endCk) c st)

/-! ## Deadlines (R136) -/

/-- R136: a descriptor's deadline frame has begun; one that its predicate skips has no problems (R184). -/
def deadlineDue (s : State) (i : Iss) : Bool :=
  isSolve i.desc.op && i.desc.aux16 != 0 && !i.stale && !i.skip &&
    decide ((s.frame + 2 ^ 48 - (i.frame + i.desc.aux16) % 2 ^ 48) % 2 ^ 48 < 2 ^ 47)

/-- R136: problem `k` of a list receives `STALE`, and is marked abandoned with `gone` unless it was skipped or abandoned before. -/
def markStale (s : State) (c : Nat) (i : Iss) (gone past : Bool) (k : Nat) : State :=
  let r := (listEntry s c i k).2
  let s := if i.desc.op != opTrsm && isRes s c r then
      let w := stWork s c r
      setStWork s c r (if gone && !past then 4 + 32 else setBits w 5 1 1)
    else s
  raiseFor .cru c 6 stStale i.seq (s.bump CRU.STALE_COUNT 1 c)

/-- R136: the deadline of the descriptor of a class. -/
def ctxDeadline (s : State) (c : Nat) (hi : Bool) : State :=
  match ctxOf s c hi with
  | none => s
  | some x =>
    if x.stale || !deadlineDue s x.iss then s else
    let gone := x.iss.desc.onStale
    let ks := x.missed ++ (x.group.filter (fun p => !p.skip)).map (fun p => p.idx) ++
      (List.range (x.iss.desc.len0 - x.next)).map (fun k => x.next + k)
    let s := ks.foldl (fun s k => markStale s c x.iss gone (x.missed.contains k) k) s
    let s := modCtx s c hi (fun y => { y with stale := true, staleN := y.staleN + ks.length })
    if gone then
      let s := modCtx s c hi (fun y => { y with ended := true, abandoned := true, status := y.status ++ [stStale] })
      if (s.cru c).step.any (fun z => z.hi == hi) then s else cruFinish s c hi (max s.ck (s.cru c).resumeCk)
    else s

/-- R136: the deadlines of the descriptors still queued in a class. -/
def queueDeadline (s : State) (c : Nat) (q : EngQ) : State :=
  let due := (s.eng c q).queue.filter (deadlineDue s)
  let s := due.foldl (fun s i => (List.range i.desc.len0).foldl (fun s k => markStale s c i i.desc.onStale false k) s) s
  modEng s c q (fun e => { e with queue := e.queue.map (fun i => if due.any (fun j => j.seq == i.seq) then { i with stale := true } else i) })

/-- R136: the deadlines of core `c` that have come. -/
def cruDeadline (s : State) (c : Nat) : State :=
  queueDeadline (queueDeadline (ctxDeadline (ctxDeadline s c false) c true) c .cruLow) c .cruHigh

/-- CRU_DEADLINE (R136). -/
def execCruDeadline (c : Core) (s : State) : Host.Outcome State Fault Refusal := .next (cruDeadline s c)

end Sys2Proof.Machine
end

