-- ==== Sys2Proof/Machine/LadleTables.lean ====
section
/-!
DEFINITION. Machine/LadleTables.lean: the function tables of R158: each entry is the named value × 2^30, rounded to the
nearest integer.
-/
namespace Sys2Proof.Machine

/-- R158 `TE`: 2^(i/256): entries 0–31. -/
def tabE0 : List Nat :=
  [1073741824, 1076653033, 1079572136, 1082499153, 1085434106, 1088377016, 1091327906, 1094286796,
   1097253708, 1100228665, 1103211687, 1106202798, 1109202018, 1112209370, 1115224875, 1118248556,
   1121280436, 1124320536, 1127368878, 1130425485, 1133490379, 1136563583, 1139645120, 1142735011,
   1145833280, 1148939949, 1152055042, 1155178580, 1158310587, 1161451085, 1164600099, 1167757650]

/-- R158 `TE`: 2^(i/256): entries 32–63. -/
def tabE1 : List Nat :=
  [1170923762, 1174098458, 1177281762, 1180473697, 1183674286, 1186883552, 1190101520, 1193328213,
   1196563654, 1199807867, 1203060876, 1206322705, 1209593378, 1212872918, 1216161350, 1219458698,
   1222764986, 1226080238, 1229404479, 1232737732, 1236080024, 1239431376, 1242791816, 1246161366,
   1249540052, 1252927899, 1256324931, 1259731174, 1263146652, 1266571390, 1270005413, 1273448747]

/-- R158 `TE`: 2^(i/256): entries 64–95. -/
def tabE2 : List Nat :=
  [1276901417, 1280363448, 1283834865, 1287315695, 1290805962, 1294305692, 1297814910, 1301333643,
   1304861917, 1308399756, 1311947188, 1315504238, 1319070932, 1322647296, 1326233356, 1329829140,
   1333434672, 1337049980, 1340675091, 1344310030, 1347954824, 1351609500, 1355274085, 1358948606,
   1362633090, 1366327563, 1370032052, 1373746586, 1377471191, 1381205894, 1384950723, 1388705706]

/-- R158 `TE`: 2^(i/256): entries 96–127. -/
def tabE3 : List Nat :=
  [1392470869, 1396246240, 1400031848, 1403827719, 1407633882, 1411450365, 1415277195, 1419114401,
   1422962010, 1426820052, 1430688553, 1434567544, 1438457051, 1442357104, 1446267730, 1450188960,
   1454120821, 1458063343, 1462016553, 1465980482, 1469955159, 1473940611, 1477936870, 1481943963,
   1485961921, 1489990772, 1494030547, 1498081275, 1502142985, 1506215708, 1510299473, 1514394310]

/-- R158 `TE`: 2^(i/256): entries 128–159. -/
def tabE4 : List Nat :=
  [1518500250, 1522617322, 1526745556, 1530884983, 1535035634, 1539197537, 1543370725, 1547555228,
   1551751076, 1555958300, 1560176931, 1564406999, 1568648537, 1572901575, 1577166143, 1581442275,
   1585730000, 1590029350, 1594340357, 1598663052, 1602997467, 1607343634, 1611701585, 1616071351,
   1620452965, 1624846459, 1629251865, 1633669214, 1638098541, 1642539877, 1646993254, 1651458706]

/-- R158 `TE`: 2^(i/256): entries 160–191. -/
def tabE5 : List Nat :=
  [1655936265, 1660425963, 1664927835, 1669441912, 1673968228, 1678506817, 1683057710, 1687620943,
   1692196547, 1696784557, 1701385007, 1705997930, 1710623359, 1715261330, 1719911875, 1724575029,
   1729250827, 1733939301, 1738640488, 1743354420, 1748081133, 1752820662, 1757573041, 1762338305,
   1767116489, 1771907628, 1776711757, 1781528911, 1786359126, 1791202437, 1796058879, 1800928489]

/-- R158 `TE`: 2^(i/256): entries 192–223. -/
def tabE6 : List Nat :=
  [1805811301, 1810707353, 1815616678, 1820539314, 1825475297, 1830424663, 1835387448, 1840363688,
   1845353420, 1850356681, 1855373507, 1860403934, 1865448001, 1870505744, 1875577199, 1880662405,
   1885761398, 1890874216, 1896000896, 1901141476, 1906295993, 1911464486, 1916646992, 1921843549,
   1927054196, 1932278970, 1937517909, 1942771053, 1948038440, 1953320108, 1958616096, 1963926443]

/-- R158 `TE`: 2^(i/256): entries 224–255. -/
def tabE7 : List Nat :=
  [1969251188, 1974590370, 1979944027, 1985312200, 1990694927, 1996092249, 2001504204, 2006930832,
   2012372174, 2017828268, 2023299156, 2028784876, 2034285470, 2039800978, 2045331439, 2050876895,
   2056437387, 2062012954, 2067603638, 2073209480, 2078830522, 2084466803, 2090118366, 2095785251,
   2101467502, 2107165158, 2112878262, 2118606857, 2124350982, 2130110682, 2135885998, 2141676973]

/-- R158 `TE`: 2^(i/256). -/
def tabE : List Nat := tabE0 ++ tabE1 ++ tabE2 ++ tabE3 ++ tabE4 ++ tabE5 ++ tabE6 ++ tabE7

/-- R158 `TL`: log2(1 + i/256): entries 0–31. -/
def tabL0 : List Nat :=
  [0, 6039314, 12055174, 18047761, 24017256, 29963836, 35887675, 41788947,
   47667823, 53524472, 59359063, 65171760, 70962728, 76732128, 82480119, 88206862,
   93912511, 99597222, 105261148, 110904440, 116527248, 122129721, 127712004, 133274244,
   138816582, 144339162, 149842124, 155325606, 160789745, 166234679, 171660541, 177067464]

/-- R158 `TL`: log2(1 + i/256): entries 32–63. -/
def tabL1 : List Nat :=
  [182455581, 187825021, 193175914, 198508388, 203822568, 209118580, 214396548, 219656594,
   224898839, 230123404, 235330407, 240519966, 245692198, 250847218, 255985140, 261106077,
   266210141, 271297442, 276368092, 281422197, 286459867, 291481207, 296486323, 301475319,
   306448299, 311405366, 316346620, 321272163, 326182095, 331076513, 335955515, 340819199]

/-- R158 `TL`: log2(1 + i/256): entries 64–95. -/
def tabL2 : List Nat :=
  [345667660, 350500993, 355319292, 360122651, 364911162, 369684916, 374444004, 379188517,
   383918542, 388634168, 393335482, 398022572, 402695523, 407354420, 411999347, 416630388,
   421247625, 425851141, 430441017, 435017334, 439580170, 444129607, 448665721, 453188592,
   457698295, 462194908, 466678506, 471149164, 475606957, 480051959, 484484242, 488903880]

/-- R158 `TL`: log2(1 + i/256): entries 96–127. -/
def tabL3 : List Nat :=
  [493310944, 497705506, 502087636, 506457405, 510814882, 515160136, 519493235, 523814248,
   528123241, 532420281, 536705435, 540978767, 545240343, 549490228, 553728485, 557955178,
   562170370, 566374123, 570566499, 574747559, 578917365, 583075977, 587223455, 591359858,
   595485245, 599599675, 603703206, 607795895, 611877800, 615948977, 620009483, 624059373]

/-- R158 `TL`: log2(1 + i/256): entries 128–159. -/
def tabL4 : List Nat :=
  [628098702, 632127527, 636145900, 640153876, 644151509, 648138853, 652115959, 656082880,
   660039669, 663986377, 667923055, 671849754, 675766525, 679673418, 683570481, 687457766,
   691335320, 695203192, 699061430, 702910083, 706749198, 710578822, 714399001, 718209783,
   722011213, 725803337, 729586201, 733359850, 737124328, 740879680, 744625951, 748363183]

/-- R158 `TL`: log2(1 + i/256): entries 160–191. -/
def tabL5 : List Nat :=
  [752091421, 755810707, 759521085, 763222597, 766915285, 770599192, 774274358, 777940826,
   781598637, 785247830, 788888448, 792520529, 796144114, 799759243, 803365955, 806964289,
   810554283, 814135978, 817709409, 821274617, 824831638, 828380510, 831921271, 835453956,
   838978604, 842495250, 846003931, 849504683, 852997541, 856482542, 859959719, 863429109]

/-- R158 `TL`: log2(1 + i/256): entries 192–223. -/
def tabL6 : List Nat :=
  [866890747, 870344666, 873790901, 877229486, 880660455, 884083842, 887499680, 890908003,
   894308843, 897702233, 901088206, 904466794, 907838029, 911201944, 914558569, 917907937,
   921250079, 924585025, 927912807, 931233456, 934547002, 937853475, 941152905, 944445323,
   947730758, 951009239, 954280797, 957545460, 960803257, 964054218, 967298370, 970535742]

/-- R158 `TL`: log2(1 + i/256): entries 224–255. -/
def tabL7 : List Nat :=
  [973766362, 976990259, 980207461, 983417995, 986621888, 989819169, 993009864, 996194001,
   999371606, 1002542707, 1005707329, 1008865499, 1012017244, 1015162589, 1018301561, 1021434185,
   1024560487, 1027680492, 1030794226, 1033901713, 1037002979, 1040098049, 1043186948, 1046269699,
   1049346328, 1052416858, 1055481314, 1058539720, 1061592099, 1064638476, 1067678873, 1070713315]

/-- R158 `TL`: log2(1 + i/256). -/
def tabL : List Nat := tabL0 ++ tabL1 ++ tabL2 ++ tabL3 ++ tabL4 ++ tabL5 ++ tabL6 ++ tabL7

/-- R158 `TS` over the first quarter: sin(2πi/256): entries 0–31. -/
def tabQtr0 : List Nat :=
  [0, 26350943, 52686014, 78989349, 105245103, 131437462, 157550647, 183568930,
   209476638, 235258165, 260897982, 286380643, 311690799, 336813204, 361732726, 386434353,
   410903207, 435124548, 459083786, 482766489, 506158392, 529245404, 552013618, 574449320,
   596538995, 618269338, 639627258, 660599890, 681174602, 701339000, 721080937, 740388522]

/-- R158 `TS` over the first quarter: sin(2πi/256): entries 32–63. -/
def tabQtr1 : List Nat :=
  [759250125, 777654384, 795590213, 813046808, 830013654, 846480531, 862437520, 877875009,
   892783698, 907154608, 920979082, 934248793, 946955747, 959092290, 970651112, 981625251,
   992008094, 1001793390, 1010975242, 1019548121, 1027506862, 1034846671, 1041563127, 1047652185,
   1053110176, 1057933813, 1062120190, 1065666786, 1068571464, 1070832474, 1072448455, 1073418433]

/-- R158 `TS` over the first quarter: sin(2πi/256): entries 64–64. -/
def tabQtr2 : List Nat :=
  [1073741824]

/-- R158 `TS` over the first quarter: sin(2πi/256). -/
def tabQtr : List Nat := tabQtr0 ++ tabQtr1 ++ tabQtr2

/-- R158 `TF`: erf(i/64): entries 0–31. -/
def tabF0 : List Nat :=
  [0, 18929521, 37849801, 56751614, 75625760, 94463080, 113254469, 131990888,
   150663378, 169263073, 187781215, 206209160, 224538396, 242760553, 260867412, 278850922,
   296703202, 314416561, 331983500, 349396724, 366649153, 383733929, 400644421, 417374237,
   433917227, 450267494, 466419394, 482367545, 498106830, 513632403, 528939689, 544024391]

/-- R158 `TF`: erf(i/64): entries 32–63. -/
def tabF1 : List Nat :=
  [558882488, 573510241, 587904192, 602061162, 615978257, 629652864, 643082647, 656265553,
   669199802, 681883890, 694316583, 706496916, 718424186, 730097950, 741518017, 752684448,
   763597547, 774257855, 784666143, 794823410, 804730870, 814389950, 823802281, 832969688,
   841894186, 850577971, 859023410, 867233037, 875209539, 882955754, 890474657, 897769358]

/-- R158 `TF`: erf(i/64): entries 64–95. -/
def tabF2 : List Nat :=
  [904843087, 911699188, 918341114, 924772414, 930996728, 937017776, 942839355, 948465323,
   953899600, 959146156, 964209001, 969092184, 973799782, 978335892, 982704628, 986910111,
   990956467, 994847816, 998588268, 1002181921, 1005632850, 1008945106, 1012122709, 1015169646,
   1018089863, 1020887265, 1023565709, 1026129000, 1028580894, 1030925085, 1033165211, 1035304847]

/-- R158 `TF`: erf(i/64): entries 96–127. -/
def tabF3 : List Nat :=
  [1037347502, 1039296621, 1041155580, 1042927682, 1044616162, 1046224181, 1047754824, 1049211105,
   1050595959, 1051912247, 1053162752, 1054350184, 1055477171, 1056546270, 1057559959, 1058520639,
   1059430640, 1060292213, 1061107538, 1061878720, 1062607793, 1063296721, 1063947395, 1064561641,
   1065141214, 1065687805, 1066203038, 1066688477, 1067145620, 1067575907, 1067980718, 1068361375]

/-- R158 `TF`: erf(i/64): entries 128–159. -/
def tabF4 : List Nat :=
  [1068719144, 1069055239, 1069370817, 1069666986, 1069944805, 1070205284, 1070449384, 1070678026,
   1070892082, 1071092385, 1071279729, 1071454865, 1071618509, 1071771341, 1071914005, 1072047113,
   1072171244, 1072286947, 1072394742, 1072495121, 1072588547, 1072675460, 1072756274, 1072831381,
   1072901150, 1072965929, 1073026045, 1073081806, 1073133503, 1073181408, 1073225779, 1073266855]

/-- R158 `TF`: erf(i/64): entries 160–191. -/
def tabF5 : List Nat :=
  [1073304863, 1073340014, 1073372508, 1073402531, 1073430258, 1073455850, 1073479462, 1073501235,
   1073521303, 1073539791, 1073556815, 1073572483, 1073586895, 1073600147, 1073612325, 1073623512,
   1073633782, 1073643207, 1073651851, 1073659776, 1073667037, 1073673688, 1073679776, 1073685346,
   1073690440, 1073695097, 1073699351, 1073703236, 1073706782, 1073710017, 1073712967, 1073715655]

/-- R158 `TF`: erf(i/64): entries 192–223. -/
def tabF6 : List Nat :=
  [1073718105, 1073720334, 1073722364, 1073724210, 1073725888, 1073727413, 1073728799, 1073730056,
   1073731197, 1073732232, 1073733171, 1073734021, 1073734791, 1073735488, 1073736118, 1073736689,
   1073737204, 1073737670, 1073738090, 1073738469, 1073738812, 1073739120, 1073739399, 1073739649,
   1073739875, 1073740078, 1073740260, 1073740425, 1073740572, 1073740705, 1073740824, 1073740930]

/-- R158 `TF`: erf(i/64): entries 224–255. -/
def tabF7 : List Nat :=
  [1073741026, 1073741112, 1073741189, 1073741258, 1073741319, 1073741374, 1073741424, 1073741468,
   1073741507, 1073741542, 1073741574, 1073741602, 1073741627, 1073741649, 1073741669, 1073741686,
   1073741702, 1073741716, 1073741728, 1073741739, 1073741749, 1073741758, 1073741765, 1073741772,
   1073741778, 1073741784, 1073741788, 1073741793, 1073741796, 1073741800, 1073741803, 1073741805]

/-- R158 `TF`: erf(i/64). -/
def tabF : List Nat := tabF0 ++ tabF1 ++ tabF2 ++ tabF3 ++ tabF4 ++ tabF5 ++ tabF6 ++ tabF7

/-- R158 `TG`: exp(−(i/64)²): entries 0–31. -/
def tabG0 : List Nat :=
  [1073741824, 1073479712, 1072693760, 1071385118, 1069555701, 1067208183, 1064345991, 1060973295,
   1057095000, 1052716735, 1047844836, 1042486332, 1036648932, 1030340999, 1023571536, 1016350164,
   1008687096, 1000593115, 992079551, 983158249, 973841548, 964142247, 954073580, 943649182,
   932883063, 921789573, 910383370, 898679392, 886692820, 874439048, 861933651, 849192347]

/-- R158 `TG`: exp(−(i/64)²): entries 32–63. -/
def tabG1 : List Nat :=
  [836230973, 823065446, 809711731, 796185814, 782503667, 768681218, 754734322, 740678730,
   726530060, 712303773, 698015142, 683679228, 669310855, 654924586, 640534700, 626155172,
   611799650, 597481439, 583213481, 569008341, 554878188, 540834785, 526889472, 513053161,
   499336321, 485748970, 472300670, 459000520, 445857150, 432878719, 420072912, 407446941]

/-- R158 `TG`: exp(−(i/64)²): entries 64–95. -/
def tabG2 : List Nat :=
  [395007542, 382760979, 370713044, 358869062, 347233897, 335811954, 324607187, 313623107,
   302862788, 292328880, 282023612, 271948808, 262105897, 252495921, 243119550, 233977093,
   225068513, 216393437, 207951171, 199740714, 191760771, 184009768, 176485866, 169186976,
   162110769, 155254696, 148616000, 142191728, 135978748, 129973761, 124173316, 118573820]

/-- R158 `TG`: exp(−(i/64)²): entries 96–127. -/
def tabG3 : List Nat :=
  [113171556, 107962691, 102943294, 98109342, 93456736, 88981310, 84678844, 80545075,
   76575705, 72766411, 69112858, 65610703, 62255607, 59043242, 55969298, 53029492,
   50219573, 47535330, 44972595, 42527252, 40195241, 37972562, 35855279, 33839524,
   31921503, 30097496, 28363860, 26717034, 25153539, 23669980, 22263049, 20929522]

/-- R158 `TG`: exp(−(i/64)²): entries 128–159. -/
def tabG4 : List Nat :=
  [19666268, 18470239, 17338480, 16268124, 15256393, 14300598, 13398139, 12546503,
   11743265, 10986085, 10272709, 9600967, 8968771, 8374112, 7815065, 7289779,
   6796480, 6333470, 5899121, 5491877, 5110251, 4752823, 4418237, 4105200,
   3812480, 3538904, 3283355, 3044773, 2822149, 2614525, 2420994, 2240694]

/-- R158 `TG`: exp(−(i/64)²): entries 160–191. -/
def tabG5 : List Nat :=
  [2072809, 1916567, 1771237, 1636128, 1510587, 1393999, 1285780, 1185384,
   1092294, 1006023, 926113, 852134, 783682, 720377, 661863, 607805,
   557889, 511823, 469331, 430157, 394060, 360816, 330216, 302063,
   276175, 252383, 230528, 210462, 192050, 175162, 159682, 145499]

/-- R158 `TG`: exp(−(i/64)²): entries 192–223. -/
def tabG6 : List Nat :=
  [132510, 120623, 109748, 99804, 90718, 82418, 74841, 67928,
   61623, 55876, 50640, 45873, 41534, 37587, 33998, 30737,
   27776, 25087, 22648, 20436, 18430, 16614, 14969, 13481,
   12134, 10917, 9817, 8824, 7927, 7118, 6388, 5730]

/-- R158 `TG`: exp(−(i/64)²): entries 224–255. -/
def tabG7 : List Nat :=
  [5138, 4605, 4124, 3693, 3304, 2956, 2642, 2361,
   2109, 1882, 1679, 1498, 1335, 1189, 1059, 943,
   839, 746, 663, 589, 523, 464, 412, 365,
   323, 286, 254, 224, 198, 175, 155, 137]

/-- R158 `TG`: exp(−(i/64)²). -/
def tabG : List Nat := tabG0 ++ tabG1 ++ tabG2 ++ tabG3 ++ tabG4 ++ tabG5 ++ tabG6 ++ tabG7

/-- R158 `TS`: sin(2πi/256), from its first quarter. -/
def tabS (i : Nat) : Int :=
  let k := i % 256
  if k ≤ 64 then (tabQtr.getD k 0 : Nat) else if k ≤ 128 then (tabQtr.getD (128 - k) 0 : Nat)
  else if k ≤ 192 then -(tabQtr.getD (k - 128) 0 : Nat) else -(tabQtr.getD (256 - k) 0 : Nat)

/-- R158 `TC`: cos(2πi/256). -/
def tabC (i : Nat) : Int := tabS (i + 64)

/-- R158 `TR`: 2^38 / (256 + i), rounded. -/
def tabR (i : Nat) : Nat := (2 ^ 39 + (256 + i)) / (2 * (256 + i))

/-- The integer square root, by one bit at a time from bit `k − 1` down. -/
def isqrtFrom : Nat → Nat → Nat → Nat
  | 0, _, r => r
  | k + 1, n, r => if (r + 2 ^ k) * (r + 2 ^ k) ≤ n then isqrtFrom k n (r + 2 ^ k) else isqrtFrom k n r

/-- R158 `TQ`: 2^30 / √x with x = (1 + (i mod 128) / 128) × 2^(i / 128), rounded: half of the root of 2^67 / (128 x). -/
def tabQ (i : Nat) : Nat :=
  let y := (128 + i % 128) * 2 ^ (i / 128)
  (isqrtFrom 33 (2 ^ 69 / y) 0 + 1) / 2

end Sys2Proof.Machine
end

