-- ==== Sys2Proof/Machine/LadleMath.lean ====
section
/-!
DEFINITION. Machine/LadleMath.lean: the values of the Ladle's operations: comparisons (R151), reduction trees (R155–R157)
and the functions on their fixed-point grid (R158).
-/
namespace Sys2Proof.Machine

open Sys2Proof

/-! ## Element-wise values (R151) -/

/-- R151: a lies above b, with +0 above −0. -/
def Val.above (a b : Val) : Bool :=
  if a.isZero && b.isZero then !a.sign && b.sign else b.lt a

/-- R151: `MAX` and `MIN`: NaN if either is NaN. -/
def vmax (a b : Val) : Val := if a.isNan || b.isNan then .nan else if b.above a then b else a
def vmin (a b : Val) : Val := if a.isNan || b.isNan then .nan else if a.above b then b else a

/-- R151: the exact value of an `ELEM` sub-operation on its sources, the result's old value and the selector bit. -/
def elemValue (sub : Nat) (a b c : Val) (sel : Bool) : Val :=
  match sub with
  | 0 => a.add b
  | 1 => a.add b.neg
  | 2 => a.mul b
  | 3 => (a.mul b).add c
  | 4 => vmax a b
  | 5 => vmin a b
  | 6 => a.abs
  | 7 => a.neg
  | 8 => a
  | _ => if sel then a else b

/-! ## Reduction trees (R155–R157) -/

/-- One level of a tree: neighbours combined; an absent child passes the other. -/
def treeLevel {α : Type} (f : α → α → α) : List (Option α) → List (Option α)
  | [] => []
  | [a] => [a]
  | a :: b :: r =>
    (match a, b with | some x, some y => some (f x y) | some x, none => some x | none, y => y) :: treeLevel f r

/-- R155: the tree over a list of leaves; `fuel` is at least its height. -/
def tree {α : Type} (f : α → α → α) : Nat → List (Option α) → Option α
  | 0, l => (l.head?).join
  | n + 1, l => if l.length ≤ 1 then (l.head?).join else tree f n (treeLevel f l)

/-- A node: its value, its index and the events of rounding it. -/
abbrev RNode := Val × Nat × Flags

/-- R156: a node of a reduction. -/
def redNode (sub : Nat) (racc : Fmt) (a b : RNode) : RNode :=
  let fl := a.2.2.join b.2.2
  let rounded := fun (v : Val) =>
    let (e, g) := convFloat racc .rne v
    (decodeFloat racc e, a.2.1, fl.join g)
  match sub with
  | 0 => rounded (a.1.add b.1)
  | 1 => rounded (a.1.mul b.1)
  | 2 => (vmax a.1 b.1, a.2.1, fl)
  | 3 => (vmin a.1 b.1, a.2.1, fl)
  | _ =>
    let first := a.1.isNan || (!b.1.isNan && !(if sub = 4 then b.1.above a.1 else a.1.above b.1))
    if first then (a.1, a.2.1, fl) else (b.1, b.2.1, fl)

/-- R156: a leaf rounded to `RACC`. -/
def redLeaf (racc : Fmt) (v : Val) (idx : Nat) : RNode :=
  let (e, g) := convFloat racc .rne v
  (decodeFloat racc e, idx, g.join v.seen)

/-- R157: the identity of an operation. -/
def redIdentity (sub : Nat) : RNode :=
  match sub with
  | 0 => (.fin false 0, 0, {})
  | 1 => (.fin false 1, 0, {})
  | 2 => (.inf true, 0, {})
  | 3 => (.inf false, 0, {})
  | 4 => (.inf true, 0xFFFFFFFF, {})
  | _ => (.inf false, 0xFFFFFFFF, {})

/-- R155–R157: one set reduced: its root and whether it was empty. -/
def reduceSet (sub : Nat) (racc : Fmt) (leaves : List (Option (Val × Nat))) : RNode × Bool :=
  match tree (redNode sub racc) leaves.length (leaves.map (fun o => o.map (fun x => redLeaf racc x.1 x.2))) with
  | some r => (r, false)
  | none => (redIdentity sub, true)

/-! ## The function grid (R158) -/

/-- 64 fraction bits. -/
def gOne : Rat := pow2 64

/-- R158: a grid product: exact, then rounded to 64 fraction bits by RNE. -/
def gp (a b : Rat) : Rat :=
  let q := a * b * gOne
  let n : Int := if q < 0 then -(roundMag .rne (-q) : Int) else (roundMag .rne q : Int)
  n / gOne

/-- R158: r truncated toward zero to 64 fraction bits. -/
def gTrunc (a : Rat) : Rat :=
  let n : Int := if a < 0 then -(-(a) * gOne).floor else (a * gOne).floor
  n / gOne

/-- A constant or table entry of 30 fraction bits. -/
def c30 (n : Int) : Rat := n * pow2 (-30)

def gLN2 : Rat := c30 744261118
def gLOG2E : Rat := c30 1549082005
def gTWOPI : Rat := c30 6746518852
def gRSQRTPI : Rat := c30 1211587905
def gTHIRD : Rat := c30 357913941
def gSIXTH : Rat := c30 178956971
def gTF4 : Rat := c30 44739243

/-- A table entry. -/
def tab (t : List Nat) (i : Nat) : Rat := c30 (t.getD i 0 : Nat)

/-- R158 `exp2`, unrounded. The scale is held within ± 2^13, beyond every format's range, where the rounded result no
longer depends on it. -/
def gExp2 (x : Rat) : Rat :=
  let n := x.floor
  let f := x - n
  let i := (f * 256).floor.toNat
  let r := gTrunc (f - mkRat i 256)
  let z := gp r gLN2
  let p := 1 + gp z (1 + gp z (mkRat 1 2 + gp z gSIXTH))
  tab tabE i * p * pow2 (max (-8192) (min n 8192))

/-- |x| = 2^k (1 + m): k, the table index and r. -/
def gSplit (x : Rat) : Int × Nat × Rat :=
  let k := floorLog2 x
  let m := x / pow2 k - 1
  let i := (m * 256).floor.toNat
  (k, i, gTrunc (m - mkRat i 256))

/-- R158 `log2` of a positive value. -/
def gLog2 (x : Rat) : Rat :=
  if 1 - pow2 (-8) ≤ x ∧ x < 1 + pow2 (-8) then
    let u := gTrunc (x - 1)
    gp gLOG2E (u - gp u (gp u (mkRat 1 2 - gp u (gTHIRD - u / 4))))
  else
    let (k, i, r) := gSplit x
    let u := gp r (c30 (tabR i))
    let q := u - gp u (gp u (mkRat 1 2 - gp u gTHIRD))
    k + tab tabL i + gLOG2E * q

/-- R158 `rcp` of a positive magnitude. -/
def gRcp (x : Rat) : Rat :=
  let (k, i, r) := gSplit x
  let u := gp r (c30 (tabR i))
  pow2 (-k) * c30 (tabR i) * (1 - gp u (1 - gp u (1 - u)))

/-- R158 `rsqrt` of a positive value. -/
def gRsqrt (x : Rat) : Rat :=
  let k := floorLog2 x
  let m := x / pow2 k - 1
  let odd := (k % 2).toNat
  let j := odd * 128 + (m * 128).floor.toNat
  let y := (1 + m) * pow2 odd
  let xj := (1 + mkRat (j % 128 : Nat) 128) * pow2 (j / 128 : Nat)
  let r := gTrunc (y - xj)
  let u := gp r (c30 (tabR (2 * (j % 128)))) * pow2 (-((j / 128 : Nat) : Int))
  let p := 1 - gp u (mkRat 1 2 - gp u (mkRat 3 8 - gp u (mkRat 5 16 - gp u (mkRat 35 128))))
  pow2 (-((k - odd) / 2)) * c30 (tabQ j) * p

/-- R158 `tanh` of a finite value below 9 in magnitude. -/
def gTanh (x : Rat) : Rat :=
  let a := if x < 0 then -x else x
  if a < pow2 (-12) then x - gp (gp (gp x x) x) gTHIRD
  else
    let e := gExp2 (gp a (2 * gLOG2E))
    let t := (e - 1) / (e + 1)
    if x < 0 then -t else t

/-- R158 `erf` of a finite value below 4 in magnitude. -/
def gErf (x : Rat) : Rat :=
  let a := if x < 0 then -x else x
  if a < pow2 (-12) then gp gRSQRTPI (x - gp (gp (gp x x) x) gTHIRD)
  else
    let i := (a * 64).floor.toNat
    let r := gTrunc (a - mkRat i 64)
    let c : Rat := mkRat i 64
    let c3 := gp (2 * gp c c - 1) gTHIRD
    let c4 := c / 2 - gp (gp (gp c c) c) gTHIRD
    let p := gp r (1 + gp r (-c + gp r (c3 + gp r c4)))
    let v := tab tabF i + gRSQRTPI * tab tabG i * p
    if x < 0 then -v else v

/-- R158 `sincos` of an argument in turns: sine and cosine. -/
def gSinCos (x : Rat) : Rat × Rat :=
  let f := x - x.floor
  let i := (f * 256).floor.toNat
  let r := gTrunc (f - mkRat i 256)
  let t := gp r gTWOPI
  let t2 := gp t t
  let s := gp t (1 - gp t2 gSIXTH)
  let c := 1 - gp t2 (mkRat 1 2 - gp t2 gTF4)
  (c30 (tabS i) * c + c30 (tabC i) * s, c30 (tabC i) * c - c30 (tabS i) * s)

/-- A magnitude with its sign. -/
def signed (neg : Bool) (q : Rat) : Val := Val.ofRat (if neg then -q else q)

/-- R158: a function (0 `EXP2` … 6 `SINCOS`) of a value: one result, two for `SINCOS`. -/
def funcValue (sub : Nat) (v : Val) : List Val :=
  match sub, v with
  | 0, .nan => [.nan]
  | 0, .inf s => [if s then .fin false 0 else .inf false]
  | 0, .fin s q => [Val.ofRat (gExp2 (if s then -q else q))]
  | 1, .nan => [.nan]
  | 1, .inf s => [if s then .nan else .inf false]
  | 1, .fin s q => [if q = 0 then .inf true else if s then .nan else Val.ofRat (gLog2 q)]
  | 2, .nan => [.nan]
  | 2, .inf s => [.fin s 0]
  | 2, .fin s q => [if q = 0 then .inf s else signed s (gRcp q)]
  | 3, .nan => [.nan]
  | 3, .inf s => [if s then .nan else .fin false 0]
  | 3, .fin s q => [if q = 0 then .inf s else if s then .nan else Val.ofRat (gRsqrt q)]
  | 4, .nan => [.nan]
  | 4, .inf s => [.fin s 1]
  | 4, .fin s q => [if 9 ≤ q then .fin s 1 else Val.ofRat (gTanh (if s then -q else q))]
  | 5, .nan => [.nan]
  | 5, .inf s => [.fin s 1]
  | 5, .fin s q => [if 4 ≤ q then .fin s 1 else Val.ofRat (gErf (if s then -q else q))]
  | _, .fin s q => let (a, b) := gSinCos (if s then -q else q); [Val.ofRat a, Val.ofRat b]
  | _, _ => [.nan, .nan]

end Sys2Proof.Machine
end

