-- ==== Sys2Proof/Machine/Ladle.lean ====
section
/-!
DEFINITION. Machine/Ladle.lean: chapter 06: vector registers and masks, operands in registers, cache and Tundish, and every
Ladle operation but `RUN` (Machine/Pattern.lean).
-/
namespace Sys2Proof.Machine

open Sys2Proof

/-! ## Registers (R142–R145) -/

/-- R166: the statuses of the Ladle. -/
def stCacheUnc : Nat := 0x50
def stRegParity : Nat := 0x51
def stNotHeld : Nat := 0x52

/-- The Ladle of core `c`, and it changed. -/
def State.ldl (s : State) (c : Nat) : LdlSt := (s.core c).ldl
def modLdl (s : State) (c : Nat) (f : LdlSt → LdlSt) : State := s.modCore c (fun x => { x with ldl := f x.ldl })

/-- The lanes and the tag of a vector register, and a mask register. -/
def vLanes (s : State) (c r : Nat) : List Nat := sget [] (s.ldl c).v r
def vTag (s : State) (c r : Nat) : Nat × Nat := sget (0, 0) (s.ldl c).vtag r
def kReg (s : State) (c k : Nat) : Nat := sget 0 (s.ldl c).k k

/-- R143: the encoding of element `e` of a register's lanes. -/
def laneElem (f : Fmt) (lanes : List Nat) (e : Nat) : Nat :=
  if f = .wa64 then lanes.getD (2 * e) 0 + lanes.getD (2 * e + 1) 0 * 2 ^ 32
  else if f.width = 16 then bits (lanes.getD (e / 2) 0) (16 * (e % 2)) 16
  else bits (lanes.getD e 0) 0 f.width

/-- R143: the lanes of a register with some of its elements given encodings. -/
def putLanes (f : Fmt) (lanes : List Nat) (es : List (Option Nat)) : List Nat :=
  let new := fun (e : Nat) (old : Nat) => match es[e]? with | some (some x) => x | _ => old
  (List.range 512).map (fun l =>
    let old := lanes.getD l 0
    if f = .wa64 then
      let e := l / 2
      bits (new e (lanes.getD (2 * e) 0 + lanes.getD (2 * e + 1) 0 * 2 ^ 32)) (32 * (l % 2)) 32
    else if f.width = 16 then new (2 * l) (bits old 0 16) % 2 ^ 16 + new (2 * l + 1) (bits old 16 16) % 2 ^ 16 * 2 ^ 16
    else new l old)

/-- A vector register written: its lanes and its tag. -/
def setV (s : State) (c r : Nat) (lanes : List Nat) (tag : Nat × Nat) : State :=
  modLdl s c (fun x => { x with v := sset [] x.v r lanes, vtag := sset (0, 0) x.vtag r tag })

/-- A mask register written. -/
def setK (s : State) (c k v : Nat) : State := modLdl s c (fun x => { x with k := sset 0 x.k k (v % 2 ^ 512) })

/-- R144: `n` elements of the registers from `r` on, at the values their tags give. -/
def regElems (s : State) (c : Nat) : Nat → Nat → Nat → List Val
  | 0, _, _ => []
  | fuel + 1, r, n =>
    if n = 0 ∨ 64 ≤ r then [] else
    let t := vTag s c r
    let f := fmtOf t.1
    let m := min n (perReg f)
    (List.range m).map (fun e => decodeElem f t.2 (laneElem f (vLanes s c r) e)) ++ regElems s c fuel (r + 1) (n - m)

/-- R144: results written to registers from `r` on, each taking the result format and F as its tag; an element left out
keeps its bits. -/
def writeRegs (s : State) (c : Nat) (f : Fmt) (F : Nat) : Nat → Nat → List (Option Nat) → State
  | 0, _, _ => s
  | fuel + 1, r, es =>
    if es = [] ∨ 64 ≤ r then s else
    let s := setV s c r (putLanes f (vLanes s c r) (es.take (perReg f))) (f.code, if f.isQ then F else 0)
    writeRegs s c f F fuel (r + 1) (es.drop (perReg f))

/-- A vector register of free lanes and a free tag. -/
def freeV (s : State) (c r : Nat) : State :=
  let lanes := (List.range 512).map (fun i => (Config.freeValue (s.freeCtr + i)).toNat % 2 ^ 32)
  let t := (Config.freeValue (s.freeCtr + 512)).toNat
  setV { s with freeCtr := s.freeCtr + 513 } c r lanes (t % 16, t / 16 % 32)

/-- R145: the working registers V0–V47 and K0–K3 are undefined after a built-in operation, but for those its descriptor
names as results. -/
def scramble (s : State) (c : Nat) (keepV keepK : List Nat) : State :=
  let s := ((List.range 48).filter (fun r => !keepV.contains r)).foldl (fun s r => freeV s c r) s
  ((List.range 4).filter (fun k => !keepK.contains k)).foldl (fun s k =>
    let v := (List.range 8).foldl (fun v i => v + (Config.freeValue (s.freeCtr + i)).toNat * 2 ^ (64 * i)) 0
    setK { s with freeCtr := s.freeCtr + 8 } c k v) s

/-! ## Operands (R146, R149, R477) -/

/-- What reading an operand gives: the values up to the first failure, that failure (element, status), and whether a
tile was requested again. -/
structure LRead where
  vals : List Val := []
  bad : Option (Nat × Nat) := none
  retry : Bool := false
deriving DecidableEq, Repr

/-- The physical tiles that hold `n` bytes of a region from byte `off`. -/
def physTiles (r : Region) (off n : Nat) : List Nat :=
  (r.chunks (n + 1) off n).foldl (fun a x => if a.contains (x.1 / 16384) then a else a ++ [x.1 / 16384]) []

/-- The byte of a region at which element `e` of a format begins (R41); a PAIR's low plane lies 8,192 bytes on. -/
def elemOff (f : Fmt) (e : Nat) : Nat :=
  e / f.perTile * 16384 + (if f = .pair then e % f.perTile * 2 else e % f.perTile * f.width / 8)

/-- The bytes of a payload that its first `n` elements reach. -/
def reach (f : Fmt) (n : Nat) : Nat := if n = 0 then 0 else if f = .pair then 8192 + 2 * n else ceilDiv (n * f.width) 8

/-- R146: the first of some elements of a plain cache region that lies in a word whose check bits fail; a PAIR lies in two. -/
def badElem (s : State) (c : Nat) (r : Region) (f : Fmt) (es : List Nat) : Option Nat :=
  let bad := (s.ldl c).cacheBad
  let hit := fun (b n : Nat) => bad.any (fun w => decide (r.addr b / 8 ≤ w ∧ w ≤ (r.addr b + n - 1) / 8))
  if bad.isEmpty then none
  else es.find? (fun e =>
    if f = .pair then hit (elemOff f e) 2 || hit (elemOff f e + 8192) 2 else hit (elemOff f e) (max 1 (f.width / 8)))

/-- R149, R240: the pieces of a descriptor's Tundish tiles, all of them checked good. -/
def tilesGood (s : State) (c seq : Nat) (ts : List Nat) : Bool :=
  ts.all (fun t => fedBad (fedPieces s c 4 seq 0) (t * 16384) 16384 == 0)

/-- The elements `start` … `stop` of a region, tile by tile from region tile `j`. -/
def readMem (s : State) (c seq : Nat) (r : Region) (loc : Bool) (f : Fmt) (F start stop : Nat) : Nat → Nat → LRead × State
  | 0, _ => ({}, s)
  | k + 1, j =>
    let e0 := max start (j * f.perTile)
    let e1 := min stop ((j + 1) * f.perTile)
    let n := reach f (e1 - j * f.perTile)
    let p := r.feed c 4 seq loc
    if imageRegion loc f.code then
      let pl := peekRegion s r p (j * 18432) 16384
      let sd := peekRegion s r p (j * 18432 + 16384) 2048
      let (_, e, s) := readRegion s r p (j * 18432) 18432
      if e = 2 then ({ bad := some (e0, stCacheUnc) }, s)
      else if !tileGood pl sd then ({ bad := some (e0, stOpCrc), retry := true }, s.bump LDL.CRC_RETRIES 1 c)
      else
        let vs := (List.range (e1 - e0)).map (fun i => tileVal pl sd (e0 - j * f.perTile + i))
        let (x, s) := readMem s c seq r loc f F start stop k (j + 1)
        ({ x with vals := vs ++ x.vals }, s)
    else
      let (bad, s) :=
        if loc then
          if s.armed LDL.INJ_CACHE_UE c then (some (e0, stCacheUnc), s.disarm LDL.INJ_CACHE_UE c)
          else ((badElem s c r f ((List.range (e1 - e0)).map (· + e0))).map (fun e => (e, stCacheUnc)), s)
        else (if tilesGood s c seq (physTiles r (j * 16384) n) then none else some (e0, stOpCrc), s)
      match bad with
      | some b => ({ bad := some b }, s)
      | none =>
        let pl := peekRegion s r p (j * 16384) n
        let sd := if f.scaled then (peekTile s p (r.addr (j * 16384) / 16384)).2 else []
        let vs := (List.range (e1 - e0)).map (fun i =>
          let q := e0 - j * f.perTile + i
          if f.scaled then scaleVal f (fieldAt sd (64 + q / 32) 1) (fieldAt sd 8 4) (decodeElem f F (elemBits f pl q))
          else decodeElem f F (elemBits f pl q))
        let (x, s) := readMem s c seq r loc f F start stop k (j + 1)
        ({ x with vals := vs ++ x.vals }, s)

/-- R148: the operand cache as a Ladle access at ck `t` finds it: a word that a Runner writes in that ck still holds its old
value. -/
def cacheAt (s : State) (c t : Nat) : Mem :=
  (s.ldl c).runW.foldr (fun w m => if w.2.1 = t then writeBytes m w.1 w.2.2 else m) (s.ldl c).cache

/-- A read of the operand cache at ck `t`. -/
def readAt (s : State) (c t : Nat) (f : State → LRead × State) : LRead × State :=
  let old := (s.ldl c).cache
  let (x, s') := f (modLdl s c (fun l => { l with cache := cacheAt s c t }))
  (x, modLdl s' c (fun l => { l with cache := old }))

/-- Elements `start` … `stop` of an operand-cache region, those of each step at the step's ck. -/
def readSteps (c seq : Nat) (r : Region) (f : Fmt) (F start stop step : Nat) : List Nat → Nat → State → LRead × State
  | [], _, s => ({}, s)
  | t :: ts, k, s =>
    let a := max start (k * step)
    let b := min stop ((k + 1) * step)
    if stop ≤ a then ({}, s) else
    let (x, s) := readAt s c t (fun s => readMem s c seq r true f F a b ((b - 1) / f.perTile - a / f.perTile + 1) (a / f.perTile))
    let (y, s) := readSteps c seq r f F start stop step ts (k + 1) s
    ({ vals := x.vals ++ y.vals, bad := if x.bad.isSome then x.bad else y.bad, retry := x.retry || y.retry }, s)

/-- R144: `n` elements of an operand from element `start`; elements that registers past V63 would hold are free. `at` are the
step size and the ck at which each step reads (R148). -/
def readOpnd (s : State) (c : Nat) (i : Iss) (k start n : Nat) (steps : Nat × List Nat) : LRead × State :=
  let d := i.desc
  match ldlOpnd d k with
  | .regs r _ =>
    if s.armed LDL.INJ_REG_PAR c then ({ bad := some (0, stRegParity) }, s.disarm LDL.INJ_REG_PAR c)
    else
      let vs := (regElems s c 64 r (start + n)).drop start
      let m := n - vs.length
      let fs := (List.range m).map (fun i => decodeFloat .fp32 ((Config.freeValue (s.freeCtr + i)).toNat % 2 ^ 32))
      ({ vals := vs ++ fs }, { s with freeCtr := s.freeCtr + m })
  | .mem r loc code =>
    let f := fmtOf code
    if n = 0 then ({}, s)
    else if loc && !(s.ldl c).runW.isEmpty then readSteps c i.seq r f d.frac start (start + n) steps.1 steps.2 0 s
    else readMem s c i.seq r loc f d.frac start (start + n) ((start + n - 1) / f.perTile - start / f.perTile + 1) (start / f.perTile)

/-- The format an operand is read in: the tag of its first register, or its region's. -/
def opndFmt (s : State) (c : Nat) (d : Desc) (k : Nat) : Fmt :=
  match ldlOpnd d k with
  | .regs r _ => fmtOf (vTag s c r).1
  | .mem _ _ code => fmtOf code

/-! ## Results (R149, R475, R477) -/

/-- A result: an encoding with the events of forming it; `none` where `MKEEP` leaves an element unwritten. -/
abbrev Res := Option (Nat × Flags)

/-- R475: the header of a tile the Ladle writes. -/
def ldlHdr (s : State) (c : Nat) (d : Desc) (f : Fmt) (F coarse elems first : Nat) (rs : List Res) : TileHdr :=
  { fmt := f.code, frac := if f.isQ then F else 0, elems := elems, coarse := coarse, stepEpoch := d.step % 2 ^ 32,
    nanSeen := rs.any (fun r => r.any (fun x => x.2.nan)), infSeen := rs.any (fun r => r.any (fun x => x.2.inf)),
    sat := rs.any (fun r => r.any (fun x => decide (0 < x.2.sat))), prodDev := s.self, prodCore := c, prodEngine := 4,
    tensor := d.tensor, baseElem := (d.baseElem.toNat + first) % 2 ^ 48 }

/-- R149: a Tundish tile's sidecar computed afresh over the payload as it stands. -/
def reseal (s : State) (t : Nat) (h : TileHdr) : State := writeSide s t (mkSidecar h (peek s .tun (t * 16384) 16384) [])

/-- Bytes `a` … `a + n` of a region's memory set to 0, row by row. -/
def clearRegion (s : State) (r : Region) (p : Place) (off n : Nat) : State :=
  (r.chunks (n + 1) off n).foldl (fun s x =>
    match p with
    | .tun =>
      let s := tunWrite s x.1 (zeros (min x.2 1))
      { s with tun := { s.tun with bytes := s.tun.bytes.filter (fun y => !decide (x.1 ≤ y.1 ∧ y.1 < x.1 + x.2)),
                                   badWords := s.tun.badWords.filter (fun w => !decide (x.1 / 16 ≤ w.1 ∧ w.1 ≤ (x.1 + x.2 - 1) / 16)) } }
    | p => poke s p x.1 (zeros x.2)) s

/-- One element's bytes written to a region. -/
def pokeElem (s : State) (r : Region) (p : Place) (f : Fmt) (e x : Nat) : State :=
  if f = .pair then
    writeRegion (writeRegion s r p (elemOff f e) (leBytes 2 (bits x 0 16))) r p (elemOff f e + 8192) (leBytes 2 (bits x 16 16))
  else writeRegion s r p (elemOff f e) (leBytes (f.width / 8) x)

/-- R148: the Ladle's writes of elements of an operand-cache region, those of each step at the step's ck, kept while a Runner
descriptor is in execution. -/
def noteLdlW (s : State) (c : Nat) (r : Region) (f : Fmt) (n : Nat) (steps : Nat × List Nat) : State :=
  if (s.eng c .runners).busy.isEmpty then s else
  let ws := steps.2.zipIdx.flatMap (fun x =>
    let a := x.2 * steps.1
    let b := min n (a + steps.1)
    if b ≤ a then [] else
    let o := elemOff f a
    (r.chunks 16385 o (elemOff f (b - 1) + max 1 (f.width / 8) - o)).map (fun y => (y.1, y.2, x.1)))
  modLdl s c (fun l => { l with ldlW := l.ldlW ++ ws })

/-- R149, R230: unscaled results written to a region from its element 0. In the Tundish the rest of the last tile the
region holds is padding, and every tile written gets its sidecar. -/
def writeMem (s : State) (c : Nat) (d : Desc) (r : Region) (loc : Bool) (f : Fmt) (F : Nat) (rs : List Res) : State :=
  let p := r.place c loc
  let s := rs.zipIdx.foldl (fun s x => match x.1 with | some y => pokeElem s r p f x.2 y.1 | none => s) s
  if loc ∨ rs = [] then s else
  (List.range (ceilDiv rs.length f.perTile)).foldl (fun s j =>
    let n := min f.perTile (rs.length - j * f.perTile)
    let pad := ((List.range (f.perTile - n)).map (· + n)).headD f.perTile
    let size := min 16384 (r.bytes - j * 16384)
    let s := if n < f.perTile then
        let planes : List (Nat × Nat) := if f = .pair then [(2 * pad, 8192), (8192 + 2 * pad, 16384)] else [(ceilDiv (pad * f.width) 8, 16384)]
        planes.foldl (fun s y => clearRegion s r p (j * 16384 + y.1) (min size y.2 - y.1)) s
      else s
    (physTiles r (j * 16384) (min size (reach f n))).foldl (fun s t =>
      let es := (List.range n).filter (fun e => r.addr (elemOff f (j * f.perTile + e)) / 16384 == t)
      let first := j * f.perTile + es.headD 0
      let s := reseal s t (ldlHdr s c d f F coarseOne (if t * 16384 = r.addr (j * 16384) then n else es.length) first
        (es.map (fun e => (rs[j * f.perTile + e]?).join)))
      noteWrite s c .tun (t * 16384) (min size (reach f n)) true) s) s

/-- R163, R156: bytes that follow results in a region, the elements `rs` of a format: the tiles they begin get a header of
their own, its first element that of the tile. -/
def writeTail (s : State) (c : Nat) (d : Desc) (r : Region) (loc : Bool) (f : Fmt) (off : Nat) (bs : List Byte)
    (rs : List Res) : State :=
  let p := r.place c loc
  let bs := bs.take (r.bytes - off)
  let s := writeRegion s r p off bs
  if loc then s else
  (physTiles r off bs.length).foldl (fun s t =>
    let old := TileHdr.parse (peekTile s .tun t).2
    let es := (List.range rs.length).filter (fun e => r.addr (off + elemOff f e) / 16384 == t)
    let fresh := off % 16384 = 0 ∨ (physTiles r off 1).head? ≠ some t
    let s := reseal s t (if fresh then ldlHdr s c d f d.frac coarseOne es.length (es.headD 0) (es.map (fun e => (rs[e]?).join)) else old)
    noteWrite s c .tun (t * 16384) 16384 true) s

/-- R45, R477: `STORE` in a scaled format: whole tiles with their fine scales under coarse scale 1.0. -/
def storeScaled (s : State) (c : Nat) (d : Desc) (r : Region) (loc : Bool) (f : Fmt) (rnd : Nat → Rnd) (vs : List Val)
    (masked : Nat → Bool) : State × Flags :=
  let p := r.place c loc
  (List.range (ceilDiv vs.length f.perTile)).foldl (fun (s, fl) j =>
    let chunk := (vs.drop (j * f.perTile)).take f.perTile
    let (es, fines, g) := encodeTile f 0 coarseOne (fun i => rnd (j * f.perTile + i)) chunk
    let pl := packPayload f es
    let h := ldlHdr s c d f 0 coarseOne chunk.length (j * f.perTile) [some (0, g)]
    let sd := mkSidecar h pl fines
    let s := if loc then writeRegion (writeRegion s r p (j * 18432) pl) r p (j * 18432 + 16384) sd
      else noteWrite (writeTile s p (r.addr (j * 16384) / 16384) pl sd) c p (r.addr (j * 16384)) 16384 true
    let own := chunk.zipIdx.foldl (fun (a : Flags) x =>
      if masked (j * f.perTile + x.2) then a else
      let fi := ((fines[x.2 / 32]?).getD 0).toNat
      if fi = 255 then a.join { nan := true, inf := x.1.isInf }
      else a.join (convert f 0 (rnd (j * f.perTile + x.2)) (x.1.mul (.fin false (pow2 (127 - (fi : Int)))))).2) {}
    (s, fl.join own)) (s, {})

/-! ## Steps and time (R144, R146, R164) -/

/-- An access of a step: a region, its `LOCAL` bit, the format its elements are placed in, whether it writes, and the
elements per step. -/
structure Acc where
  r : Region
  loc : Bool
  f : Fmt
  wr : Bool
  off : Nat := 0
deriving DecidableEq, Repr

/-- The bytes of elements `e0` … `e1` of an access. -/
def Acc.span (a : Acc) (e0 e1 : Nat) : Nat × Nat :=
  let b0 := a.off + elemOff a.f e0
  let b1 := a.off + elemOff a.f (e1 - 1) + max 1 (a.f.width / 8)
  (b0, b1 - b0)

/-- R146: the ck of a step's cache accesses, each with its elements: the most distinct rows in any bank, never less than 1
where there is one. -/
def bankTime (as : List (Acc × Nat × Nat)) : Nat :=
  let rows := (as.filter (fun x => x.1.loc)).flatMap (fun x =>
    let a := x.1
    let (b, n) := a.span x.2.1 x.2.2
    (a.r.chunks (n + 1) b n).flatMap (fun x => (List.range ((x.1 + x.2 - 1) / 32 - x.1 / 32 + 1)).map (· + x.1 / 32)))
  let rows := addNew rows []
  (List.range 64).foldl (fun m b => max m (rows.filter (fun w => w % 64 == b)).length) 0

/-- The steps of a descriptor: of each the ck it takes, the ck beyond the first in cache accesses and the ck waited on Tundish
reads. Step `k` also makes the accesses `ws` to the elements `res k` (from, up to). -/
def stepList (s : State) (c : Nat) (as : List Acc) (n step cop accEl : Nat) (ws : List Acc := [])
    (res : Nat → Nat × Nat := fun _ => (0, 0)) : List (Nat × Nat × Nat) :=
  (List.range (ceilDiv n step)).map (fun k =>
    let e0 := k * step
    let e1 := min n (e0 + step)
    let more := if (res k).1 < (res k).2 then ws.map (fun a => (a, res k)) else []
    let all : List (Acc × Nat × Nat) := as.map (fun a => (a, e0, e1)) ++ more
    let bytes := fun (wr : Bool) =>
      ((all.filter (fun x => !x.1.loc && x.1.wr == wr)).map (fun x => (x.1.span x.2.1 x.2.2).2)).foldl (· + ·) 0
    let bank := bankTime all
    let rd := ceilDiv (bytes false) (rdRate s c)
    let wr := ceilDiv (bytes true) (wrRate s c)
    let acc := if accEl = 0 then 0 else ceilDiv (e1 - e0) accEl
    let other := max cop (max bank (max wr acc))
    (max other rd, bank - 1, rd - other))

/-- The time of some steps, with the ck beyond the first in cache accesses and the ck waited on Tundish reads. -/
def stepsTime (l : List (Nat × Nat × Nat)) : Nat × Nat × Nat :=
  l.foldl (fun a x => (a.1 + x.1, a.2.1 + x.2.1, a.2.2 + x.2.2)) (0, 0, 0)

/-- The ck at which each step begins, from a first ck (R164). -/
def stepCks : Nat → List (Nat × Nat × Nat) → List Nat
  | _, [] => []
  | t, x :: xs => t :: stepCks (t + x.1) xs

/-- R148: the size of a descriptor's steps and the ck at which each begins. -/
def stepsAt (i : Iss) (step : Nat) (l : List (Nat × Nat × Nat)) : Nat × List Nat := (step, stepCks (i.relCk + 32) l)

/-- The access an operand makes. -/
def opndAcc (d : Desc) (k : Nat) (wr : Bool) : List Acc :=
  match ldlOpnd d k with
  | .regs _ _ => []
  | .mem r loc code => [{ r := r, loc := loc, f := fmtOf code, wr := wr }]

/-- The accesses of results that lie `off` bytes on in region 2, in a format of their own. -/
def tailAcc (d : Desc) (f : Fmt) (off : Nat) : List Acc :=
  match ldlOpnd d 2 with
  | .regs _ _ => []
  | .mem r loc _ => [{ r := r, loc := loc, f := f, wr := true, off := off }]

/-- R144: the elements of a step. -/
def stepSize (d : Desc) (fs : List Fmt) : Nat :=
  if fs.contains .wa64 then 256 else if fs.all (fun f => f.width == 16) && d.msel == 15 then 1024 else 512

/-! ## Finishing (R165, R166) -/

/-- The Ladle descriptor in execution, if its operation and sub-operation are these and what it reads has been brought. -/
def ldlHead (s : State) (c op sub : Nat) : Option Iss :=
  match (s.eng c .ladle).busy with
  | i :: _ => if fedAll s c 4 i.seq ∧ i.desc.op = op ∧ ((op = ldElem ∨ op = ldFunc ∨ op = ldReduce) → i.desc.subop = sub) then some i else none
  | [] => none

/-- R166: the status reported. -/
def ldlStatus (xs : List Nat) : Nat :=
  ([stPatUnc, stCacheUnc, stRegParity, stOpCrc, stNotHeld, stBounds].find? (fun x => xs.contains x)).getD stOk

/-- R166, R167: the source of a status. -/
def ldlSource (st : Nat) : Nat :=
  if st = stCacheUnc then 2 else if st = stRegParity then 5 else if st = stOpCrc then 4 else if st = stNotHeld then 6 else 7

/-- What a descriptor reports (R165). -/
structure LRep where
  errs : List Nat := []
  flags : Flags := {}
  empties : Nat := 0
  masked : Nat := 0
  retry : Bool := false
  released : Bool := false
  time : Nat × Nat × Nat := (0, 0, 0)
  overhead : Nat := 56
deriving DecidableEq, Repr

/-- R165: the engine word. -/
def LRep.word (r : LRep) : Nat :=
  satN 16 r.empties + satN 16 (r.masked / 512) * 2 ^ 16 + b2n (decide (0 < r.empties)) * 2 ^ 32 + b2n r.retry * 2 ^ 33 +
  b2n (decide (0 < r.time.2.1)) * 2 ^ 35 + b2n r.released * 2 ^ 36

/-- The counters and the fault sources of a finished Ladle descriptor (R166). -/
def ldlCount (s : State) (c : Nat) (i : Iss) (r : LRep) : State :=
  let s := s.setReg LDL.STATE 0 c
  let s := ((s.wrapAdd LDL.BUSY_CK (r.time.1 + r.overhead) c).wrapAdd LDL.CONFLICT_CK r.time.2.1 c).wrapAdd LDL.TUN_WAIT_CK r.time.2.2 c
  let s := s.bump LDL.EMPTY_COUNT r.empties c
  (addNew r.errs []).foldl (fun s st => raiseFor .ldl c (ldlSource st) st i.seq s) s

/-- The Ladle has finished a descriptor: counters, fault sources and its record. Waits of its feed add to its time (R164) and
count as waits on Tundish data. -/
def ldlFinish (s : State) (c : Nat) (i : Iss) (r : LRep) : State :=
  let e := engineEnd s c 4 i (r.time.1 + r.overhead)
  let s := s.wrapAdd LDL.TUN_WAIT_CK (feedWaited s c 4 i) c
  finishDesc (dropReq (ldlCount s c i r) c 4 i.seq) c .ladle i (ldlStatus r.errs) r.flags r.word e

/-- The registers a result operand names. -/
def resRegs (d : Desc) (n : Nat) : List Nat :=
  match ldlOpnd d 2 with
  | .regs r code => (List.range (ceilDiv n (perReg (fmtOf code)))).map (· + r)
  | .mem _ _ _ => []

/-- R163: where the scalar block lies: its address, and whether in the operand cache. -/
def scalarAt (d : Desc) : Nat × Bool := (bits d.scaleWord 0 25 * 64, bit d.scaleWord 25)

/-- The scalar block (R163): its sixteen words, and the status of a failed read of them. -/
def readScalars (s : State) (c : Nat) (i : Iss) : List Nat × Option Nat × State :=
  let (a, loc) := scalarAt i.desc
  let (b, e, s) := readChunk s (if loc then .cache c else .fed c 4 i.seq 0) a 64
  ((List.range 16).map (fun k => fieldAt b (4 * k) 4), if e = 2 then some (if loc then stCacheUnc else stOpCrc) else none, s)

/-- σk of a scalar block as a value. -/
def sigma (w : List Nat) (k : Nat) : Val := decodeFloat .fp32 (w.getD k 0)

/-- R153: element `e` is masked. -/
def masked (s : State) (c : Nat) (d : Desc) (e : Nat) : Bool :=
  d.msel != 15 && !(d.op == ldElem && d.subop == 9) && !bit (kReg s c d.msel) (e % 512)

/-- R49, R51: the rounding of element `e` of a Ladle descriptor. -/
def ldlRnd (i : Iss) (purpose ordinal e : Nat) : Rnd :=
  rndOf i.desc.rnd0 i.key { tensor := i.desc.tensor, step := i.desc.step, elem := i.desc.baseElem.toNat + e,
                            purpose := purpose, ordinal := ordinal }

/-- The first failing element of some reads, and the elements done before its step. -/
def cutAt (n step : Nat) (bads : List (Nat × Nat)) : Nat :=
  bads.foldl (fun m b => min m (b.1 / step * step)) n

/-- R153: the fill of masked element `e`: σ15, rounded once to the result format. -/
def fillRes (i : Iss) (w : List Nat) (f : Fmt) (e : Nat) : Nat :=
  (convert f i.desc.frac (ldlRnd i 3 (i.desc.aux16 % 2 ^ 12) e) (sigma w 15)).1

/-- Results delivered to the result operand, those of each step at its ck. -/
def deliver (s : State) (c : Nat) (i : Iss) (f : Fmt) (rs : List Res) (steps : Nat × List Nat) : State :=
  match ldlOpnd i.desc 2 with
  | .regs r _ => writeRegs s c f i.desc.frac 64 r (rs.map (fun x => x.map Prod.fst))
  | .mem r loc _ =>
    let s := writeMem s c i.desc r loc f i.desc.frac rs
    if loc then noteLdlW s c r f rs.length steps else s

/-! ## The feed (R149, R242) -/

/-- The elements of an operand that a descriptor reads. -/
def opndCount (d : Desc) (k : Nat) : Nat :=
  if k = 1 ∧ d.op = ldRms then d.seg else if k = 1 ∧ d.op = ldLayer then 2 * d.seg else d.len0

/-- The Tundish tiles of the first `n` elements of an operand. -/
def opndTiles (d : Desc) (k n : Nat) : List Nat :=
  match ldlOpnd d k with
  | .mem r false code =>
    let f := fmtOf code
    (List.range (ceilDiv n f.perTile)).foldl (fun a j =>
      addNew (physTiles r (j * 16384) (reach f (min f.perTile (n - j * f.perTile)))) a) []
  | _ => []

/-- R149, R242: what a Ladle descriptor asks the Runners for: each Tundish tile of its sources, of its old result, and its
scalar block. A `RUN` reaches memory as its words say. -/
def ldlFeed (d : Desc) : List Req :=
  if d.op = ldRun ∨ d.len0 = 0 then [] else
  let ks := List.range (ldlSources d) ++ (if d.op = ldOpt ∨ (d.op = ldElem ∧ d.subop = 3) then [2] else [])
  let ts := ks.foldl (fun a k => addNew (opndTiles d k (opndCount d k)) a) []
  let rs : List Req := ts.map (fun t => { kind := 0, type := 0, dev := 0, rtype := 0, addr := t * 16384, len := 16384, tile := true })
  let sc : List Req := if readsScalars d && !(scalarAt d).2 then
      [{ kind := 0, type := 0, dev := 0, rtype := 0, addr := (scalarAt d).1, len := 64, tile := false }] else []
  (rs ++ sc).zipIdx.map (fun x => { x.1 with tag := x.2 })

/-- R151–R153, R158: an operation that gives each element `outs` results from its sources, its old result where `old` is set, and its
selector bit; the second results follow the first. -/
def elementwise (c : Nat) (s : State) (i : Iss) (old : Bool) (outs cop : Nat) (fn : List Val → Bool → List Val) : State :=
  let d := i.desc
  let n := d.len0
  let f := fmtOf d.fmt2
  let (w, sbad, s) := if readsScalars d then readScalars s c i else ([], none, s)
  let srcs := List.range (ldlSources d) ++ (if old then [2] else [])
  let step := stepSize d (f :: srcs.map (opndFmt s c d))
  let accs := (List.range (ldlSources d)).flatMap (fun k => opndAcc d k false) ++ (if old then opndAcc d 2 false else []) ++
    (List.range outs).flatMap (fun o => tailAcc d f (elemBytes f (o * n)))
  let l := stepList s c accs n step cop 0
  let steps := stepsAt i step l
  let (rd, s) := srcs.foldl (fun (rd, s) k => let (x, s) := readOpnd s c i k 0 n steps; (rd ++ [x], s)) (([] : List LRead), s)
  let bads := rd.filterMap (fun x => x.bad) ++ (sbad.map (fun st => (0, st))).toList
  let m := cutAt n step bads
  let keep := d.mkeep
  let sel := fun (e : Nat) => bit (kReg s c d.msel) (e % 512)
  let hid := masked s c d
  let vals := fun (e : Nat) => rd.map (fun x => x.vals.getD e .nan)
  let outV : List (List Val) := (List.range m).map (fun e => if hid e then [] else fn (vals e) (sel e))
  let seen := (List.range m).foldl (fun (a : Flags) e => if hid e then a else (vals e).foldl (fun a v => a.join v.seen) a) {}
  let rep : LRep := {
    errs := bads.map Prod.snd, retry := rd.any (fun x => x.retry) || fedRetry s c 4 i.seq,
    masked := ((List.range m).filter hid).length,
    time := stepsTime (l.take (ceilDiv (if m = n then n else m + 1) step)) }
  let (s, fl) := match ldlOpnd d 2 with
    | .mem r loc _ =>
      if f.scaled then
        let vs := outV.zipIdx.map (fun (x : List Val × Nat) => if hid x.2 then sigma w 15 else x.1.headD .nan)
        storeScaled s c d r loc f (fun e => ldlRnd i 3 (d.aux16 % 2 ^ 12) e) vs hid
      else (s, ({} : Flags))
    | .regs _ _ => (s, {})
  let rs : List Res := if f.scaled then [] else (List.range outs).flatMap (fun o =>
    (List.range (if o + 1 < outs then n else m)).map (fun e =>
      if m ≤ e then none
      else if hid e then (if keep then none else some (fillRes i w f (o * n + e), {}))
      else some (convert f d.frac (ldlRnd i 3 (d.aux16 % 2 ^ 12) (o * n + e)) ((outV.getD e []).getD o .nan))))
  let s := if f.scaled then s else deliver s c i f rs steps
  let fl := rs.zipIdx.foldl (fun (a : Flags) (x : Res × Nat) => if hid (x.2 % n) then a else match x.1 with | some y => a.join y.2 | none => a) fl
  let s := scramble s c (resRegs d (outs * n)) []
  ldlFinish s c i { rep with flags := fl.join seen }

/-- An element-wise operation of the descriptor in execution, if it is this one. -/
def runElem (c op sub : Nat) (s : State) (old : Bool) (outs cop : Nat) (fn : List Val → Bool → List Val) :
    Host.Outcome State Fault Refusal :=
  match ldlHead s c op sub with
  | none => .next s
  | some i => if i.desc.len0 = 0 then .next s else .next (elementwise c s i old outs cop fn)

/-- R151: an `ELEM` sub-operation. -/
def runElemSub (c sub : Nat) (s : State) : Host.Outcome State Fault Refusal :=
  runElem c ldElem sub s (sub == 3) 1 1 (fun v b => [elemValue sub (v.getD 0 .nan) (v.getD 1 .nan) (v.getD 2 .nan) b])

/-! ## The element-wise operations (R147, R150, R151) -/

/-- LOAD (R150). Region 0 to registers, converting scaled formats under R42. -/
def execLoad (c : Core) (s : State) : Host.Outcome State Fault Refusal := runElem c ldLoad 0 s false 1 1 (fun v _ => v)

/-- STORE (R150). Registers to region 2, converting under R47. -/
def execStore (c : Core) (s : State) : Host.Outcome State Fault Refusal := runElem c ldStore 0 s false 1 1 (fun v _ => v)

/-- ZERO (R147). +0 written to region 2. -/
def execZero (c : Core) (s : State) : Host.Outcome State Fault Refusal :=
  runElem c ldZero 0 s false 1 1 (fun _ _ => [.fin false 0])

/-- ELEM_ADD (R151). a + b. -/
def execElemAdd (c : Core) (s : State) : Host.Outcome State Fault Refusal := runElemSub c 0 s

/-- ELEM_SUB (R151). a + (−b). -/
def execElemSub (c : Core) (s : State) : Host.Outcome State Fault Refusal := runElemSub c 1 s

/-- ELEM_MUL (R151). a × b. -/
def execElemMul (c : Core) (s : State) : Host.Outcome State Fault Refusal := runElemSub c 2 s

/-- ELEM_FMA (R151). a × b + c, rounded once, c being the result as it stood. -/
def execElemFma (c : Core) (s : State) : Host.Outcome State Fault Refusal := runElemSub c 3 s

/-- ELEM_MAX (R151). The greater, +0 above −0. -/
def execElemMax (c : Core) (s : State) : Host.Outcome State Fault Refusal := runElemSub c 4 s

/-- ELEM_MIN (R151). The lesser. -/
def execElemMin (c : Core) (s : State) : Host.Outcome State Fault Refusal := runElemSub c 5 s

/-- ELEM_ABS (R151). The sign cleared. -/
def execElemAbs (c : Core) (s : State) : Host.Outcome State Fault Refusal := runElemSub c 6 s

/-- ELEM_NEG (R151). The sign inverted. -/
def execElemNeg (c : Core) (s : State) : Host.Outcome State Fault Refusal := runElemSub c 7 s

/-- ELEM_CVT (R151). a, converted. -/
def execElemCvt (c : Core) (s : State) : Host.Outcome State Fault Refusal := runElemSub c 8 s

/-- ELEM_SEL (R151). a where the selector's bit is 1, b where it is 0. -/
def execElemSel (c : Core) (s : State) : Host.Outcome State Fault Refusal := runElemSub c 9 s

/-! ## Functions (R158) -/

/-- A function sub-operation with its c_op (R164). -/
def runFunc (c sub cop : Nat) (s : State) : Host.Outcome State Fault Refusal :=
  runElem c ldFunc sub s false (if sub = 6 then 2 else 1) cop (fun v _ => funcValue sub (v.getD 0 .nan))

/-- EXP2 (R158). 2 to the power of x. -/
def execExp2 (c : Core) (s : State) : Host.Outcome State Fault Refusal := runFunc c 0 2 s

/-- LOG2 (R158). The logarithm to base 2. -/
def execLog2 (c : Core) (s : State) : Host.Outcome State Fault Refusal := runFunc c 1 3 s

/-- RCP (R158). The reciprocal. -/
def execRcp (c : Core) (s : State) : Host.Outcome State Fault Refusal := runFunc c 2 2 s

/-- RSQRT (R158). The reciprocal square root. -/
def execRsqrt (c : Core) (s : State) : Host.Outcome State Fault Refusal := runFunc c 3 2 s

/-- TANH (R158). The hyperbolic tangent. -/
def execTanh (c : Core) (s : State) : Host.Outcome State Fault Refusal := runFunc c 4 5 s

/-- ERF (R158). The error function. -/
def execErf (c : Core) (s : State) : Host.Outcome State Fault Refusal := runFunc c 5 4 s

/-- SINCOS (R158). Sine and cosine of an argument in turns. -/
def execSincos (c : Core) (s : State) : Host.Outcome State Fault Refusal := runFunc c 6 3 s

/-! ## Reductions (R154–R157) -/

/-- R154: the sets of a reduction over `n` elements: the elements of each, in index order. -/
def redSets (d : Desc) (row n : Nat) : List (List Nat) :=
  let run := fun (lo hi : Nat) => (List.range (hi - lo)).map (· + lo)
  if d.axis = 0 then (List.range (ceilDiv n row)).map (fun k => run (k * row) (min n ((k + 1) * row)))
  else if d.axis = 1 then
    (List.range (ceilDiv n (8 * row) * row)).map (fun k =>
      ((List.range 8).map (fun r => k / row * (8 * row) + r * row + k % row)).filter (fun e => decide (e < n)))
  else if d.axis = 2 then [run 0 n]
  else (List.range (ceilDiv n d.seg)).map (fun k => run (k * d.seg) (min n ((k + 1) * d.seg)))

/-- The results of a reduction that step `k` completes (from, up to): those of sets whose last element it holds. -/
def redDone (d : Desc) (row n step k : Nat) : Nat × Nat :=
  let sets := redSets d row n
  let last := fun (x : List Nat × Nat) =>
    if d.axis = 1 then min n ((x.2 / row + 1) * (8 * row)) - 1 else x.1.getLastD 0
  let js := (sets.zipIdx.filter (fun x => last x / step == k)).map Prod.snd
  match js with
  | [] => (0, 0)
  | j :: t => (j, t.getLastD j + 1)

/-- A reduction of the descriptor in execution (R155–R157). A read that fails ends it with nothing written. -/
def runReduce (c sub : Nat) (s : State) : Host.Outcome State Fault Refusal :=
  match ldlHead s c ldReduce sub with
  | none => .next s
  | some i =>
    let d := i.desc
    let n := d.len0
    if n = 0 then .next s else
    let f := fmtOf d.fmt2
    let src := opndFmt s c d 0
    let step := stepSize d [src, f]
    let tail := if sub < 4 then [] else tailAcc d .q32 (ceilDiv (elemBytes f (ldlResCount d)) 16 * 16)
    let l := stepList s c (opndAcc d 0 false) n step 1 0 (opndAcc d 2 true ++ tail) (redDone d (perReg src) n step)
    let (rd, s) := readOpnd s c i 0 0 n (stepsAt i step l)
    let retry := rd.retry || fedRetry s c 4 i.seq
    let time := stepsTime l
    let keep := resRegs d (ldlResCount d) ++
      (if 4 ≤ sub then (List.range (ceilDiv (ldlResCount d) 512)).map (fun k => k + (resRegs d (ldlResCount d)).getLastD 0 + 1) else [])
    match rd.bad with
    | some (_, st) =>
      .next (ldlFinish (scramble s c keep []) c i { errs := [st], retry := retry, time := time, overhead := 72 })
    | none =>
      let hid := masked s c d
      let roots := (redSets d (perReg src) n).map (fun es => reduceSet sub d.racc
        (es.zipIdx.map (fun x => if hid x.1 then none
          else some (rd.vals.getD x.1 .nan, if d.axis = 1 then x.1 % (8 * perReg src) / perReg src else x.2))))
      let rs := roots.map (fun r => (convert f d.frac .rne r.1.1, r))
      let fl := rs.foldl (fun (a : Flags) x => if x.2.2 then a else (a.join x.1.2).join x.2.1.2.2) {}
      let res : List Res := rs.map (fun x => some (x.1.1, if x.2.2 then {} else x.1.2))
      let s := deliver s c i f res (stepsAt i step l)
      let idx := roots.map (fun r => r.1.2.1)
      let s := if sub < 4 then s else match ldlOpnd d 2 with
        | .regs r _ => writeRegs s c .q32 0 64 (r + ceilDiv roots.length (perReg f)) (idx.map some)
        | .mem r loc _ =>
          writeTail s c d r loc .q32 (ceilDiv (elemBytes f roots.length) 16 * 16) (idx.flatMap (leBytes 4))
            (idx.map (fun x => some (x, {})))
      .next (ldlFinish (scramble s c keep []) c i {
        flags := fl, empties := (roots.filter (fun r => r.2)).length, masked := ((List.range n).filter hid).length,
        retry := retry, time := time, overhead := 72 })

/-- REDUCE_SUM (R156). -/
def execReduceSum (c : Core) (s : State) : Host.Outcome State Fault Refusal := runReduce c 0 s

/-- REDUCE_PROD (R156). -/
def execReduceProd (c : Core) (s : State) : Host.Outcome State Fault Refusal := runReduce c 1 s

/-- REDUCE_MAX (R156). -/
def execReduceMax (c : Core) (s : State) : Host.Outcome State Fault Refusal := runReduce c 2 s

/-- REDUCE_MIN (R156). -/
def execReduceMin (c : Core) (s : State) : Host.Outcome State Fault Refusal := runReduce c 3 s

/-- ARGMAX (R156). The greatest values and their indices. -/
def execArgmax (c : Core) (s : State) : Host.Outcome State Fault Refusal := runReduce c 4 s

/-- ARGMIN (R156). The least values and their indices. -/
def execArgmin (c : Core) (s : State) : Host.Outcome State Fault Refusal := runReduce c 5 s

/-! ## Masks (R159, R160) -/

/-- R159: the bit of lane `j` of step `st` of row `row`. -/
def maskBit (w : List Nat) (seg row st j : Nat) : Bool :=
  let g := fun k => w.getD k 0
  let q := g 0 + row
  let k := g 1 + 512 * st + j
  decide (512 * st + j < seg) && (bit (g 6) 0 || decide (k ≤ q)) && decide (k < g 2) &&
  (g 3 == 0 || decide (q ≤ k + g 3)) && decide (g 5 < g 4)

/-- MASKGEN (R159, R160). Position masks, or `BOUNDS` where a position would pass 16,777,215. -/
def execMaskgen (c : Core) (s : State) : Host.Outcome State Fault Refusal :=
  match ldlHead s c ldMaskgen 0 with
  | none => .next s
  | some i =>
    let d := i.desc
    if d.len0 = 0 then .next s else
    let (w, sbad, s) := readScalars s c i
    let steps := ceilDiv d.seg 512
    let past := decide (16777215 < w.getD 0 0 + d.len0 - 1 ∨ 16777215 < w.getD 1 0 + d.seg - 1)
    let errs := sbad.toList ++ (if past then [stBounds] else [])
    if errs ≠ [] then .next (ldlFinish (scramble s c [] [0, 1, 2, 3]) c i { errs := errs })
    else
      let s := (List.range (d.len0 * steps)).foldl (fun s k =>
        let v := (List.range 512).foldl (fun v j => if maskBit w d.seg (k / steps) (k % steps) j then v + 2 ^ j else v) 0
        setK s c (d.kdst + k) v) s
      let s := scramble s c [] ((List.range (d.len0 * steps)).map (· + d.kdst))
      .next (ldlFinish s c i { time := (d.len0 * steps, 0, 0) })

/-! ## The held accumulator half (R161) -/

/-- R161: the half `ACCREAD` reads: the one that became held first. -/
def heldHalf (s : State) (c : Nat) : Option (Nat × Nat × List MTile) :=
  let h := (s.mld c).held
  let older := s.fld MLD.STATE_OLDER_HELD c
  match h.1, h.2 with
  | some a, some b => if older = 0 then some (0, a) else some (1, b)
  | some a, none => some (0, a)
  | none, some b => some (1, b)
  | none, none => none

/-- R161: a held half is released; the other, if held, is then the one held first. -/
def releaseHalf (s : State) (c h : Nat) : State :=
  freeHalf (modMld s c (fun m => { m with held := if h = 0 then (none, m.held.2) else (m.held.1, none) })) c h

/-- R161: the values of a held half, in tile order: acc × 2^s. -/
def heldValues (wa : Nat) (ts : List MTile) : List Val :=
  ts.flatMap (fun t => t.acc.map (fun a => (decodeFloat (if wa = 1 then .wa64 else .fp32) a).mul (.fin false (pow2 t.s))))

/-- R83: the Ladle reads elements of a held half. An uncorrectable word raises the Mould's source 2, and what is read of it is a free
value; the Ladle's chapter gives no status for it (log entry 103). -/
def accUe (s : State) (c seq wa : Nat) (vs : List Val) : List Val × State :=
  if s.armed MLD.INJ_ACC_UE c && !vs.isEmpty then
    let n := min vs.length (if wa = 1 then 2 else 4)
    let f := if wa = 1 then Fmt.wa64 else .fp32
    let fs := (List.range n).map (fun k => decodeFloat f ((Config.freeValue (s.freeCtr + k)).toNat % 2 ^ f.width))
    (fs ++ vs.drop n, raiseFor .mld c 2 0 seq { s.disarm MLD.INJ_ACC_UE c with freeCtr := s.freeCtr + n })
  else (vs, s)

/-- ACCREAD (R161). The held half is read, and released with `REL`. -/
def execAccread (c : Core) (s : State) : Host.Outcome State Fault Refusal :=
  match ldlHead s c ldAccread 0 with
  | none => .next s
  | some i =>
    let d := i.desc
    match heldHalf s c with
    | none => .next (ldlFinish (scramble s c (resRegs d d.len0) []) c i { errs := [stNotHeld] })
    | some (h, wa, ts) =>
      let s := s.setFld LDL.STATE_ACCREAD 1 c
      let all := heldValues wa ts
      let n := min d.len0 all.length
      let (all, s) := accUe s c i.seq wa (all.take n)
      let f := fmtOf d.fmt2
      let hid := masked s c d
      let (w, sbad, s) := if readsScalars d then readScalars s c i else ([], none, s)
      let step := stepSize d [f, if wa = 1 then .wa64 else .fp32]
      let l := stepList s c (opndAcc d 2 true) n step 1 512
      let time := stepsTime l
      let errs := (if n < d.len0 then [stBounds] else []) ++ sbad.toList
      let rs : List Res := if sbad.isSome then [] else all.zipIdx.map (fun x =>
        if hid x.2 then (if d.mkeep then none else some (fillRes i w f x.2, {}))
        else
          let (e, fl) := convert f d.frac (ldlRnd i 3 (d.aux16 % 2 ^ 12) x.2) x.1
          some (e, fl.join x.1.seen))
      let s := if n = 0 then s else deliver s c i f rs (stepsAt i step l)
      let fl := rs.zipIdx.foldl (fun (a : Flags) x => if hid x.2 then a else match x.1 with | some y => a.join y.2 | none => a) {}
      let rel := d.rel && errs == []
      let s := scramble s c (resRegs d d.len0) []
      let s := if rel then releaseHalf (s.upTo (i.relCk + time.1 + 56)) c h else s
      .next (ldlFinish s c i { errs := errs, flags := fl, masked := ((List.range n).filter hid).length, released := rel, time := time })

/-! ## Norms and updates (R162, R163) -/

/-- A value rounded once by RNE to FP32, with its events. -/
def r32 (v : Val) : Val × Flags := let (e, f) := convFloat .fp32 .rne v; (decodeFloat .fp32 e, f)

/-- R155: an FP32 `SUM` tree. -/
def sum32 (vs : List (Option Val)) : Val × Flags :=
  let (r, _) := reduceSet 0 .fp32 (vs.map (fun v => v.map (fun x => (x, 0))))
  (r.1, r.2.2)

/-- A value divided by a positive whole number. -/
def Val.divBy (v : Val) (n : Nat) : Val := v.mul (.fin false (1 / (n : Rat)))

/-- R162: one segment of a norm: the values before the last rounding, and the events of the lines before it. `x` holds
`none` where an element is masked. -/
def normSeg (layer : Bool) (seg : Nat) (x : List (Option Val)) (g b : Nat → Val) (s0 : Val) : List (Option Val) × Flags :=
  let mean := sum32 x
  let mu := r32 (mean.1.divBy seg)
  let d := x.map (fun o => o.map (fun v => if layer then (r32 (v.add mu.1.neg)).1 else v))
  let df := if layer then x.foldl (fun (a : Flags) o => match o with | some v => a.join (r32 (v.add mu.1.neg)).2 | none => a)
      (mean.2.join mu.2) else {}
  let sq := sum32 (d.map (fun o => o.map (fun v => v.mul v)))
  let v := r32 (sq.1.divBy seg)
  let rho := r32 ((funcValue 3 (v.1.add s0)).headD .nan)
  (d.zipIdx.map (fun o => o.1.map (fun v =>
    let y := (v.mul rho.1).mul (g o.2)
    if layer then y.add (b o.2) else y)), ((df.join sq.2).join v.2).join rho.2)

/-- A norm of the descriptor in execution (R162). -/
def runNorm (c op : Nat) (s : State) : Host.Outcome State Fault Refusal :=
  match ldlHead s c op 0 with
  | none => .next s
  | some i =>
    let d := i.desc
    let n := d.len0
    if n = 0 then .next s else
    let layer := op == ldLayer
    let f := fmtOf d.fmt2
    let (w, sbad, s) := readScalars s c i
    let step := stepSize d [f, opndFmt s c d 0, opndFmt s c d 1]
    let l := stepList s c (opndAcc d 0 false ++ opndAcc d 0 false ++ opndAcc d 1 false ++ opndAcc d 2 true) n step 2 0
    let (x, s) := readOpnd s c i 0 0 n (stepsAt i step l)
    let (g, s) := readOpnd s c i 1 0 (opndCount d 1) (stepsAt i step l)
    let bads := x.bad.toList ++ (g.bad.map (fun b => (0, b.2))).toList ++ (sbad.map (fun st => (0, st))).toList
    let m := cutAt n d.seg bads
    let hid := masked s c d
    let segs := (List.range (ceilDiv m d.seg)).map (fun k =>
      let idx := (List.range (min d.seg (m - k * d.seg))).map (· + k * d.seg)
      normSeg layer d.seg (idx.map (fun e => if hid e then none else some (x.vals.getD e .nan)))
        (fun j => g.vals.getD j .nan) (fun j => g.vals.getD (d.seg + j) .nan) (sigma w 0))
    let out := segs.flatMap Prod.fst
    let rs : List Res := out.zipIdx.map (fun o => match o.1 with
      | none => if d.mkeep then none else some (fillRes i w f o.2, {})
      | some v => some (convert f d.frac (ldlRnd i 3 (d.aux16 % 2 ^ 12) o.2) v))
    let fl := segs.foldl (fun (a : Flags) y => a.join y.2) {}
    let fl := (rs.zip out).foldl (fun (a : Flags) y => match y.1, y.2 with | some r, some _ => a.join r.2 | _, _ => a) fl
    let fl := (x.vals.take m).zipIdx.foldl (fun (a : Flags) y => if hid y.2 then a else a.join y.1.seen) fl
    let fl := (List.range (min m d.seg)).foldl (fun (a : Flags) j =>
      if (List.range (ceilDiv m d.seg)).all (fun k => hid (k * d.seg + j)) then a
      else (a.join (g.vals.getD j .nan).seen).join (if layer then (g.vals.getD (d.seg + j) .nan).seen else {})) fl
    let s := deliver s c i f rs (stepsAt i step l)
    let s := scramble s c (resRegs d n) []
    .next (ldlFinish s c i { errs := bads.map Prod.snd, flags := fl, masked := ((List.range m).filter hid).length,
                             retry := x.retry || g.retry || fedRetry s c 4 i.seq, time := stepsTime l,
                             overhead := 72 })

/-- RMSNORM (R162). -/
def execRmsnorm (c : Core) (s : State) : Host.Outcome State Fault Refusal := runNorm c ldRms s

/-- LAYERNORM (R162). -/
def execLayernorm (c : Core) (s : State) : Host.Outcome State Fault Refusal := runNorm c ldLayer s

/-- R163: the format of the working copy that σ4 names, where it asks for one. -/
def copyFmt (w : List Nat) : Option Fmt :=
  match sigma w 4 with
  | .fin false q => if q.den = 1 ∧ q < 16 ∧ q ≠ 0 ∧ regFmt q.num.toNat then some (fmtOf q.num.toNat) else none
  | _ => none

/-- R163: the working copy written after the master: to the registers that follow it, or to region 2 plus its size, where an
element left out keeps its bytes. -/
def putCopy (s : State) (c : Nat) (i : Iss) (f cf : Fmt) (cs : List Res) : State :=
  let d := i.desc
  match ldlOpnd d 2 with
  | .regs r _ => writeRegs s c cf d.frac 64 (r + ceilDiv d.len0 (perReg f)) (cs.map (fun x => x.map Prod.fst))
  | .mem r loc _ =>
    let off := elemBytes f d.len0
    let n := ceilDiv cs.length cf.perTile
    let old := peekRegion s r (r.place c loc) off (min (n * 16384) (r.bytes - off))
    writeTail s c d r loc cf off ((List.range n).flatMap (fun j =>
      let part := (cs.drop (j * cf.perTile)).take cf.perTile
      (packPayload cf (part.zipIdx.map (fun x => (x.1.map Prod.fst).getD (elemBits cf (slice old (j * 16384) 16384) x.2)))).take
        (if part.length < cf.perTile then reach cf part.length else 16384))) cs

/-- OPT (R163). Momentum, master and, with σ4 nonzero, the working copy of each element. -/
def execOpt (c : Core) (s : State) : Host.Outcome State Fault Refusal :=
  match ldlHead s c ldOpt 0 with
  | none => .next s
  | some i =>
    let d := i.desc
    let n := d.len0
    if n = 0 then .next s else
    let f := fmtOf d.fmt2
    let (w, sbad, s) := readScalars s c i
    let copy := copyFmt w
    let step := stepSize d ([f, opndFmt s c d 0, opndFmt s c d 1] ++ copy.toList)
    let l := stepList s c (opndAcc d 0 false ++ opndAcc d 1 false ++ opndAcc d 2 false ++ opndAcc d 1 true ++
      opndAcc d 2 true ++ (copy.toList.flatMap (fun cf => tailAcc d cf (elemBytes f n)))) n step 1 0
    let at_ := stepsAt i step l
    let (u, s) := readOpnd s c i 0 0 n at_
    let (mo, s) := readOpnd s c i 1 0 n at_
    let (wt, s) := readOpnd s c i 2 0 n at_
    let bads := (u.bad.toList ++ mo.bad.toList ++ wt.bad.toList) ++ (sbad.map (fun st => (0, st))).toList
    let m := cutAt n step bads
    let hid := masked s c d
    let rows := (List.range m).map (fun e =>
      let uv := u.vals.getD e .nan
      let mv := mo.vals.getD e .nan
      let w0 := wt.vals.getD e .nan
      let u1 := r32 ((sigma w 0).mul uv)
      let m1 := r32 (((sigma w 1).mul mv).add u1.1)
      let w1 := w0.add ((sigma w 2).mul (m1.1.add ((sigma w 3).mul w0))).neg
      (m1, convert f d.frac (ldlRnd i 3 (d.aux16 % 2 ^ 12) e) w1, ((u1.2.join uv.seen).join mv.seen).join w0.seen))
    let wRes : List Res := rows.zipIdx.map (fun x =>
      if hid x.2 then (if d.mkeep then none else some (fillRes i w f x.2, {})) else some x.1.2.1)
    let mRes : List Res := rows.zipIdx.map (fun x =>
      if hid x.2 then (if d.mkeep then none else some ((convFloat .fp32 .rne (sigma w 15)).1, {}))
      else some (convFloat .fp32 .rne x.1.1.1))
    let s := match ldlOpnd d 1 with
      | .regs r _ => writeRegs s c .fp32 0 64 r (mRes.map (fun x => x.map Prod.fst))
      | .mem r loc _ =>
        let s := writeMem s c d r loc .fp32 0 mRes
        if loc then noteLdlW s c r .fp32 m at_ else s
    let s := deliver s c i f wRes at_
    let cs : List Res := match copy with
      | none => []
      | some cf => rows.zipIdx.map (fun x =>
          if hid x.2 && d.mkeep then none
          else
            let (e, fl) := convert cf d.frac (ldlRnd i 6 0 x.2) (decodeElem f d.frac (if hid x.2 then fillRes i w f x.2 else x.1.2.1.1))
            some (e, if hid x.2 then {} else fl))
    let s := match copy with
      | some cf => putCopy s c i f cf cs
      | none => s
    let fl := rows.zipIdx.foldl (fun (a : Flags) x => if hid x.2 then a
      else ((a.join x.1.1.2).join x.1.2.1.2).join x.1.2.2) {}
    let fl := cs.foldl (fun (a : Flags) x => match x with | some y => a.join y.2 | none => a) fl
    let names := resRegs d n ++ (match ldlOpnd d 1 with
      | .regs r _ => (List.range (ceilDiv n 512)).map (· + r)
      | .mem _ _ _ => []) ++
      (match copy, ldlOpnd d 2 with
       | some cf, .regs r _ => (List.range (ceilDiv n (perReg cf))).map (· + (r + ceilDiv n (perReg f)))
       | _, _ => [])
    .next (ldlFinish (scramble s c names []) c i {
      errs := bads.map Prod.snd, flags := fl, masked := ((List.range m).filter hid).length,
      retry := u.retry || mo.retry || wt.retry || fedRetry s c 4 i.seq, time := stepsTime l })

end Sys2Proof.Machine
end

