-- ==== Sys2Proof/Machine/Crypto.lean ====
section
/-!
DEFINITION. Machine/Crypto.lean: the algorithms chapter 18 names by their standards (PRESUMED from them, log entry 48):
SHA-512, RSASSA-PSS and RSAES-OAEP with SHA-512, MGF1 with SHA-512 and a 64-byte salt (R421). Numbers are big-endian.
-/
namespace Sys2Proof.Machine

open Sys2Proof

/-! ## Integers -/

/-- The greatest `r < 2 ^ n` with `r ^ k ≤ x`, its bits fixed from the highest. -/
def rootBits (k x : Nat) : Nat → Nat → Nat
  | 0, r => r
  | n + 1, r => rootBits k x n (if (r + 2 ^ n) ^ k ≤ x then r + 2 ^ n else r)

/-- The first `n` primes from a candidate on. -/
def primesFrom : Nat → Nat → List Nat → List Nat
  | 0, _, ps => ps
  | f + 1, c, ps => primesFrom f (c + 1) (if ps.any (fun p => c % p == 0) then ps else ps ++ [c])

/-- `b ^ e mod n`, over the bits of `e` from the lowest. -/
def modPow (n : Nat) : Nat → Nat → Nat → Nat → Nat
  | 0, _, _, acc => acc
  | f + 1, b, e, acc => modPow n f (b * b % n) (e / 2) (if e % 2 = 1 then acc * b % n else acc)

/-- `n` bytes of a number, the highest first. -/
def beBytes (n x : Nat) : List Byte := (leBytes n x).reverse

/-- The number that bytes spell, the highest first. -/
def beNat (b : List Byte) : Nat := b.foldl (fun a x => a * 256 + x.toNat) 0

/-! ## SHA-512 -/

/-- The round constants: the first 64 fraction bits of the cube roots of the first 80 primes. -/
def shaK : List Nat := (primesFrom 410 2 []).map (fun p => rootBits 3 (p * 2 ^ 192) 67 0 % 2 ^ 64)

/-- The initial hash: the first 64 fraction bits of the square roots of the first 8 primes. -/
def shaIv : List Nat := [2, 3, 5, 7, 11, 13, 17, 19].map (fun p => rootBits 2 (p * 2 ^ 128) 67 0 % 2 ^ 64)

/-- A 64-bit rotation to the right. -/
def rotr64 (x k : Nat) : Nat := x / 2 ^ k + x % 2 ^ k * 2 ^ (64 - k)

/-- The sum of three words under exclusive or. -/
def xor3 (a b c : Nat) : Nat := a ^^^ b ^^^ c

/-- The message schedule of a block, extended by `n` words. -/
def shaSchedule : Nat → List Nat → List Nat
  | 0, w => w
  | n + 1, w =>
    let at' := fun (k : Nat) => w.getD (w.length - k) 0
    let s0 := xor3 (rotr64 (at' 15) 1) (rotr64 (at' 15) 8) (at' 15 / 2 ^ 7)
    let s1 := xor3 (rotr64 (at' 2) 19) (rotr64 (at' 2) 61) (at' 2 / 2 ^ 6)
    shaSchedule n (w ++ [(at' 16 + s0 + at' 7 + s1) % 2 ^ 64])

/-- One round over the eight working words. -/
def shaRound (h : List Nat) (kw : Nat) : List Nat :=
  match h with
  | [a, b, c, d, e, f, g, i] =>
    let s1 := xor3 (rotr64 e 14) (rotr64 e 18) (rotr64 e 41)
    let ch := (e &&& f) ^^^ ((2 ^ 64 - 1 - e) &&& g)
    let t1 := (i + s1 + ch + kw) % 2 ^ 64
    let s0 := xor3 (rotr64 a 28) (rotr64 a 34) (rotr64 a 39)
    let maj := xor3 (a &&& b) (a &&& c) (b &&& c)
    [(t1 + s0 + maj) % 2 ^ 64, a, b, c, (d + t1) % 2 ^ 64, e, f, g]
  | h => h

/-- One block of 128 bytes. -/
def shaBlock (ks : List Nat) (h : List Nat) (blk : List Byte) : List Nat :=
  let w := shaSchedule 64 ((List.range 16).map (fun i => beNat ((blk.drop (8 * i)).take 8)))
  let h' := (ks.zip w).foldl (fun h x => shaRound h (x.1 + x.2)) h
  (h.zip h').map (fun x => (x.1 + x.2) % 2 ^ 64)

/-- The blocks of a padded message. -/
def shaBlocks (ks : List Nat) : Nat → List Byte → List Nat → List Nat
  | 0, _, h => h
  | n + 1, b, h => shaBlocks ks n (b.drop 128) (shaBlock ks h (b.take 128))

/-- SHA-512: 64 bytes. -/
def sha512 (m : List Byte) : List Byte :=
  let z := (128 - (m.length + 17) % 128) % 128
  let p := m ++ [0x80] ++ List.replicate z 0 ++ beBytes 16 (8 * m.length)
  (shaBlocks shaK (p.length / 128) p shaIv).flatMap (beBytes 8)

/-- SHA-512 as a number whose byte 0 is the digest's first byte. -/
def sha512Nat (m : List Byte) : Nat := leNat (sha512 m)

/-! ## RSA (R420, R421) -/

/-- MGF1 with SHA-512: `n` bytes. -/
def mgf1 (seed : List Byte) (n : Nat) : List Byte :=
  ((List.range (ceilDiv n 64)).flatMap (fun i => sha512 (seed ++ beBytes 4 i))).take n

/-- Bytes under exclusive or. -/
def xorBytes (a b : List Byte) : List Byte := (a.zip b).map (fun x => x.1 ^^^ x.2)

/-- The hash of the padded digest and salt of PSS. -/
def pssHash (digest salt : List Byte) : List Byte := sha512 (List.replicate 8 0 ++ digest ++ salt)

/-- R421: a 512-byte RSASSA-PSS signature over a digest verifies under a key (modulus, exponent). -/
def pssVerify (key : Nat × Nat) (digest sig : List Byte) : Bool :=
  let s := beNat sig
  let em := beBytes 512 (modPow key.1 64 s key.2 1)
  let masked := em.take 447
  let h := (em.drop 447).take 64
  let db := xorBytes masked (mgf1 h 447)
  let db := (BitVec.ofNat 8 ((db.headD 0).toNat % 128)) :: db.drop 1
  let salt := db.drop 383
  decide (sig.length = 512 ∧ s < key.1 ∧ (em.headD 0).toNat < 128 ∧ em.getLastD 0 = 0xBC) &&
    db.take 383 == List.replicate 382 0 ++ [1] && h == pssHash digest salt

/-- R421: the RSASSA-PSS signature of a digest with a salt under modulus `n` and private exponent `d`. -/
def pssSign (n d : Nat) (digest salt : List Byte) : List Byte :=
  let h := pssHash digest salt
  let db := xorBytes (List.replicate 382 0 ++ [1] ++ salt) (mgf1 h 447)
  let em := BitVec.ofNat 8 ((db.headD 0).toNat % 128) :: db.drop 1 ++ h ++ [0xBC]
  beBytes 512 (modPow n 4096 (beNat em) d 1)

/-- The hash of the empty label. -/
def oaepLabel : List Byte := sha512 []

/-- R421: RSAES-OAEP of a message of at most 382 bytes under a key, with a 64-byte seed. -/
def oaepEncrypt (key : Nat × Nat) (msg seed : List Byte) : List Byte :=
  let db := oaepLabel ++ List.replicate (447 - 64 - 1 - msg.length) 0 ++ [1] ++ msg
  let db := xorBytes db (mgf1 seed 447)
  let sd := xorBytes seed (mgf1 db 64)
  beBytes 512 (modPow key.1 64 (beNat (0 :: sd ++ db)) key.2 1)

/-- R421: the message of an OAEP cipher text, if it decodes, under modulus `n` and private exponent `d`. -/
def oaepDecrypt (n d : Nat) (c : List Byte) : Option (List Byte) :=
  let em := beBytes 512 (modPow n 4096 (beNat c) d 1)
  let sd := xorBytes ((em.drop 1).take 64) (mgf1 (em.drop 65) 64)
  let db := xorBytes (em.drop 65) (mgf1 sd 447)
  let body := (db.drop 64).dropWhile (fun x => x == 0)
  if decide (c.length = 512 ∧ beNat c < n) && em.headD 1 == 0 && db.take 64 == oaepLabel && body.head? == some 1 then
    some (body.drop 1)
  else none

end Sys2Proof.Machine
end

