-- ==== Sys2Proof/Machine/Aes.lean ====
section
/-!
DEFINITION. Machine/Aes.lean: AES-256 in Galois/Counter Mode, which R299 and R300 name by its standard (PRESUMED from it,
log entry 44).
-/
namespace Sys2Proof.Machine

open Sys2Proof

/-! ## AES-256 -/

/-- Multiplication by x in the field of AES. -/
def xtime (a : Nat) : Nat := if a < 128 then 2 * a else (2 * a) ^^^ 0x11B

/-- The product of two bytes in the field of AES. -/
def gmul : Nat → Nat → Nat → Nat
  | 0, _, _ => 0
  | n + 1, a, b => (if b % 2 = 1 then a else 0) ^^^ gmul n (xtime a) (b / 2)

/-- The powers of the generator 3: the exponential table of the field. -/
def gexp : Nat → Nat → List Nat
  | 0, _ => []
  | n + 1, a => a :: gexp n (a ^^^ xtime a)

/-- The affine step of the S-box. -/
def sboxAffine (b : Nat) : Nat :=
  let rot := fun (k : Nat) => (b * 2 ^ k) % 256 + b / 2 ^ (8 - k)
  b ^^^ rot 1 ^^^ rot 2 ^^^ rot 3 ^^^ rot 4 ^^^ 0x63

/-- The S-box: the inverse in the field and the affine step. -/
def sboxTable : List Nat :=
  let e := gexp 255 1
  (List.range 256).map (fun a => sboxAffine (if a = 0 then 0 else e.getD ((255 - e.findIdx (fun x => x == a)) % 255) 0))

/-- The four bytes of a word substituted. -/
def subWord (t w : List Nat) : List Nat := w.map (fun x => t.getD x 0)

/-- The key schedule: words of four bytes, extended by `n`, with the round constant of the next eighth word. -/
def aesExpand (t : List Nat) : Nat → Nat → List (List Nat) → List (List Nat)
  | 0, _, w => w
  | n + 1, rc, w =>
    let i := w.length
    let p := w.getLastD []
    let q := w.getD (i - 8) []
    let x := if i % 8 = 0 then
        (subWord t (p.drop 1 ++ p.take 1)).zipIdx.map (fun y => if y.2 = 0 then y.1 ^^^ rc else y.1)
      else if i % 8 = 4 then subWord t p else p
    aesExpand t n (if i % 8 = 0 then xtime rc else rc) (w ++ [(q.zip x).map (fun y => y.1 ^^^ y.2)])

/-- The 15 round keys of 16 bytes. -/
def aesKeys (t key : List Nat) : List (List Nat) :=
  let w := aesExpand t 52 1 ((List.range 8).map (fun i => (key.drop (4 * i)).take 4))
  (List.range 15).map (fun r => ((w.drop (4 * r)).take 4).flatten)

/-- The rows of the state shifted: byte 4c + r comes from column c + r. -/
def shiftRows (b : List Nat) : List Nat := (List.range 16).map (fun i => b.getD ((i + 4 * (i % 4)) % 16) 0)

/-- A column mixed. -/
def mixColumn (c : List Nat) : List Nat :=
  (List.range 4).map (fun r =>
    let at' := fun (k : Nat) => c.getD ((r + k) % 4) 0
    xtime (at' 0) ^^^ (xtime (at' 1) ^^^ at' 1) ^^^ at' 2 ^^^ at' 3)

/-- The columns of the state mixed. -/
def mixColumns (b : List Nat) : List Nat := (List.range 4).flatMap (fun c => mixColumn ((b.drop (4 * c)).take 4))

/-- Bytes under exclusive or. -/
def xorNats (a b : List Nat) : List Nat := (a.zip b).map (fun x => x.1 ^^^ x.2)

/-- The rounds after the first key addition. -/
def aesRounds (t : List Nat) : List (List Nat) → List Nat → List Nat
  | [], b => b
  | [k], b => xorNats (shiftRows (subWord t b)) k
  | k :: ks, b => aesRounds t ks (xorNats (mixColumns (shiftRows (subWord t b))) k)

/-- One block of 16 bytes under an expanded key. -/
def aesBlock (t : List Nat) (ks : List (List Nat)) (b : List Nat) : List Nat :=
  match ks with
  | [] => b
  | k :: ks => aesRounds t ks (xorNats b k)

/-! ## GCM -/

/-- The product in the field of GHASH of two blocks as big-endian numbers. -/
def ghashMul : Nat → Nat → Nat → Nat
  | 0, _, _ => 0
  | n + 1, x, y =>
    let v := if y % 2 = 1 then (y / 2) ^^^ (0xE1 * 2 ^ 120) else y / 2
    (if x / 2 ^ n % 2 = 1 then y else 0) ^^^ ghashMul n x v

/-- A block of bytes as a big-endian number. -/
def beNum (b : List Nat) : Nat := b.foldl (fun a x => a * 256 + x) 0

/-- Bytes padded with zeros to whole blocks. -/
def padBlock (b : List Nat) : List Nat := b ++ List.replicate ((16 - b.length % 16) % 16) 0

/-- GHASH over whole blocks. -/
def ghash (h : Nat) : Nat → List Nat → Nat → Nat
  | 0, _, y => y
  | n + 1, b, y => ghash h n (b.drop 16) (ghashMul 128 (y ^^^ beNum (b.take 16)) h)

/-- The bytes of a big-endian number. -/
def numBe (n x : Nat) : List Nat := (List.range n).map (fun i => x / 2 ^ (8 * (n - 1 - i)) % 256)

/-- R299: the first `n` bytes of the AES-256-GCM key stream of a key of 32 bytes and an IV of 12. -/
def gcmStream (key iv : List Byte) (n : Nat) : List Byte :=
  let t := sboxTable
  let ks := aesKeys t (key.map BitVec.toNat)
  (((List.range (ceilDiv n 16)).flatMap (fun i => aesBlock t ks (iv.map BitVec.toNat ++ numBe 4 (i + 2)))).take n).map
    (BitVec.ofNat 8)

/-- R300: the 128-bit tag of authenticated and encrypted bytes. -/
def gcmTag (key iv aad ct : List Byte) : List Byte :=
  let t := sboxTable
  let ks := aesKeys t (key.map BitVec.toNat)
  let h := beNum (aesBlock t ks (List.replicate 16 0))
  let b := padBlock (aad.map BitVec.toNat) ++ padBlock (ct.map BitVec.toNat) ++ numBe 8 (8 * aad.length) ++ numBe 8 (8 * ct.length)
  let y := ghash h (b.length / 16) b 0
  (xorNats (numBe 16 y) (aesBlock t ks (iv.map BitVec.toNat ++ [0, 0, 0, 1]))).map (BitVec.ofNat 8)

end Sys2Proof.Machine
end

