-- ==== Sys2Proof/Machine/Pattern.lean ====
section
/-!
DEFINITION. Machine/Pattern.lean: R198: what one ck of a control word does in the Ladle, and `RUN`.
-/
namespace Sys2Proof.Machine

open Sys2Proof

/-- R149: a Tundish tile's sidecar check by the Ladle at the first read of it in a `RUN`, with one retry. -/
def runTile (c : Nat) (p : PRun) (t : Nat) : PRun :=
  if p.seen.contains t ∨ p.err.isSome then p else
  let (inj, s) := p.s.injFails LDL.INJ_TUN_CRC1 LDL.INJ_TUN_CRC2 c
  let (pl, sd, e, s) := readTile s .tun t
  let p := { p with s := s, seen := t :: p.seen }
  if tileGood pl sd && e != 2 && inj == 0 then p
  else
    let (pl, sd, e, s) := readTile (p.s.bump LDL.CRC_RETRIES 1 c) .tun t
    let p := { p with s := s, retry := true }
    if tileGood pl sd && e != 2 && inj != 2 then p else p.fail stOpCrc

/-- R146, R148, R149, R166: the bytes a generator of a `RUN` reads in a ck, with their checks: the Tundish's tiles by their
sidecars, the cache's words by their check bits. The scalar block is no tile (log entry 100). -/
def runBytes (c : Nat) (i : Iss) (p : PRun) (k : Nat) (pos : Nat) (n : Nat) : List Byte × PRun :=
  let (r, l) := aguRegion i.desc i.desc.loc k
  if l then
    let old := (p.s.ldl c).cache
    let s := modLdl p.s c (fun x => { x with cache := cacheAt p.s c (i.relCk + 32 + p.t) })
    let x := readRegion s r (.cache c) pos n
    let p := { p with s := modLdl x.2.2 c (fun x => { x with cache := old }) }
    (x.1, if x.2.1 = 2 then p.fail stCacheUnc else p)
  else
    let p := if k = 3 then p else (physTiles r pos n).foldl (runTile c) p
    (peekRegion p.s r .tun pos n, p)

/-- The data a generator of a word delivers this ck for a region, if one reads it. -/
def aguRead (c : Nat) (i : Iss) (w : CWord) (k : Nat) (p : PRun) : Option (List Byte) × PRun :=
  match (w.agus.zip p.pos).find? (fun x => x.1.en && !x.1.write && x.1.region == k) with
  | some x => let (b, p) := runBytes c i p k x.2.toNat x.1.width; (some b, p)
  | none => (none, p)

/-- The elements of a byte string in a format of whole bytes. -/
def unpack (f : Fmt) (F : Nat) (b : List Byte) : List Val :=
  let w := max 1 (f.width / 8)
  (List.range (b.length / w)).map (fun e => decodeElem f F (fieldAt b (w * e) w))

/-- R149: bytes written by a generator, with the sidecars of the Tundish tiles they touch. -/
def aguWrite (s : State) (c : Nat) (d : Desc) (r : Region) (l : Bool) (pos : Nat) (f : Fmt) (b : List Byte) : State :=
  let s := writeRegion s r (r.place c l) pos b
  if l then s
  else (physTiles r pos b.length).foldl (fun s t =>
    noteWrite (reseal s t (ldlHdr s c d f d.frac coarseOne f.perTile 0 [])) c .tun (t * 16384) b.length true) s

/-- A source operand of a word: what a generator reads for one of the regions `ks`, or the source register. -/
def wordSrc (c : Nat) (i : Iss) (w : CWord) (ks : List Nat) (reg : Nat) (p : PRun) : List Val × PRun :=
  let x := ks.foldl (fun (a : Option (List Val) × PRun) k =>
    match a.1 with
    | some _ => a
    | none =>
      let y := aguRead c i w k a.2
      (y.1.map (unpack (aguFmt i.desc k) i.desc.frac), y.2)) (none, p)
  let p := x.2
  match x.1 with
  | some v => (v, p)
  | none =>
    let v := regElems p.s c 1 reg (perReg (fmtOf (vTag p.s c reg).1))
    if p.s.armed LDL.INJ_REG_PAR c then (v, { p with s := p.s.disarm LDL.INJ_REG_PAR c }.fail stRegParity) else (v, p)

/-- What a word forms in a ck: result vectors with their formats, each value masked or not; its index result; an empty
reduction. -/
structure WOut where
  vals : List (List Val) := []
  idx : Option Nat := none
  empty : Bool := false
deriving DecidableEq, Repr

/-- R150, R198: the values a Ladle word forms from its sources in one ck. -/
def wordOut (d : Desc) (w : CWord) (sg : List Nat) (a b cc : List Val) (hid sel : Nat → Bool) (n : Nat) : WOut :=
  let bAt := fun (e : Nat) => b.getD (e % max 1 b.length) .nan
  let es := List.range n
  if w.op = ldReduce then
    let r := reduceSet w.sub d.racc (a.zipIdx.map (fun x => if hid x.2 then none else some (x.1, x.2)))
    { vals := [[r.1.1]], idx := if 4 ≤ w.sub then some r.1.2.1 else none, empty := r.2 }
  else if w.op = ldRms ∨ w.op = ldLayer then
    let (o, _) := normSeg (w.op == ldLayer) (max 1 n) (es.map (fun e => if hid e then none else some (a.getD e .nan)))
      bAt (fun e => cc.getD e .nan) (sigma sg 0)
    { vals := [o.map (fun v => v.getD .nan)] }
  else if w.op = ldOpt then
    let m := es.map (fun e => (r32 (((sigma sg 1).mul (bAt e)).add (r32 ((sigma sg 0).mul (a.getD e .nan))).1)).1)
    { vals := [es.map (fun e => (cc.getD e .nan).add
        ((sigma sg 2).mul ((m.getD e .nan).add ((sigma sg 3).mul (cc.getD e .nan)))).neg), m] }
  else if w.op = ldElem then { vals := [es.map (fun e => elemValue w.sub (a.getD e .nan) (bAt e) (cc.getD e .nan) (sel e))] }
  else if w.op = ldFunc then
    let o := es.map (fun e => funcValue w.sub (a.getD e .nan))
    { vals := (List.range (if w.sub = 6 then 2 else 1)).map (fun k => o.map (fun v => v.getD k .nan)) }
  else if w.op = ldZero then { vals := [List.replicate n (.fin false 0)] }
  else { vals := [a] }

/-- One result vector of a word: each element rounded to its format, a masked one the fill, or unwritten under `MKEEP`. -/
def wordRes (i : Iss) (w : CWord) (sg : List Nat) (f : Fmt) (e0 : Nat) (hid : Nat → Bool) (vs : List Val) : List Res :=
  let d := i.desc
  let rnd := fun (e : Nat) => rndOf w.rnd i.key
    { tensor := d.tensor, step := d.step, elem := d.baseElem.toNat + e0 + e, purpose := 3, ordinal := d.aux16 % 2 ^ 12 }
  vs.zipIdx.map (fun x =>
    if w.op ≠ ldReduce ∧ hid x.2 then
      (if d.mkeep then none else some ((convert f d.frac (rnd x.2) (sigma sg 15)).1, {}))
    else some (convert f d.frac (rnd x.2) x.1))

/-- R159: a `MASKGEN` word writes the mask of the next step of its rows to the mask register `DST` names, or the descriptor
ends with `BOUNDS` where a position would pass 16,777,215 (R160). -/
def wordMask (c : Nat) (i : Iss) (w : CWord) (sg : List Nat) (p : PRun) : PRun :=
  let d := i.desc
  let steps := max 1 (ceilDiv d.seg 512)
  let row := p.masks / steps
  let st := p.masks % steps
  if 16777215 < sg.getD 0 0 + row ∨ 16777215 < sg.getD 1 0 + d.seg - 1 then p.fail stBounds
  else
    let v := (List.range 512).foldl (fun v j => if maskBit sg d.seg row st j then v + 2 ^ j else v) 0
    { p with s := setK p.s c (w.dst % 8) v, masks := p.masks + 1 }

/-- R161: the elements an `ACCREAD` word reads of the held half: no half ends the `RUN` with `HALF_NOT_HELD`, and a read past
its last element with `BOUNDS`. -/
def wordHeld (c seq : Nat) (n : Nat) (p : PRun) : List Val × PRun :=
  match heldHalf p.s c with
  | none => ([], p.fail stNotHeld)
  | some (_, wa, ts) =>
    let (v, s) := accUe p.s c seq wa (((heldValues wa ts).drop p.acc).take n)
    let p := { p with s := s, acc := p.acc + v.length, rel := true }
    (v, if v.length < n then p.fail stBounds else p)

/-- The cache accesses of a word in a ck, for R146. -/
def wordAccs (d : Desc) (w : CWord) (pos : List Int) : List (Acc × Nat × Nat) :=
  (w.agus.zip pos).filterMap (fun x =>
    if x.1.en then
      let (r, l) := aguRegion d d.loc x.1.region
      some ({ r := r, loc := l, f := .e5m2, wr := x.1.write, off := x.2.toNat }, 0, x.1.width)
    else none)

/-- The first, second and third source operands of a word, as its operation reads them. -/
def wordOpnds (c : Nat) (i : Iss) (w : CWord) (p : PRun) : (List Val × List Val × List Val) × PRun :=
  let x := if w.op = ldAccread then wordHeld c i.seq (perReg (fmtOf w.rfmt)) p
    else if w.op = ldZero then ([], p) else wordSrc c i w [0] w.srcA p
  let two := w.op = ldElem ∨ w.op = ldRms ∨ w.op = ldLayer ∨ w.op = ldOpt
  let y := if two ∧ ¬ (w.op = ldElem ∧ 6 ≤ w.sub ∧ w.sub ≤ 8) then wordSrc c i w [1, 3] w.srcB x.2 else ([], x.2)
  let z := if (w.op = ldElem ∧ w.sub = 3) ∨ w.op = ldLayer ∨ w.op = ldOpt then wordSrc c i w [2] w.srcC y.2 else ([], y.2)
  ((x.1, y.1, z.1), z.2)

/-- The results of a word go to the registers from `DST` on; the momentum of `OPT` to the second source. -/
def wordToRegs (c : Nat) (d : Desc) (w : CWord) (idx : Bool) (rs : List (Fmt × List Res)) (s : State) : State :=
  rs.zipIdx.foldl (fun s r =>
    let f := r.1.1
    writeRegs s c f (if f = .q32 ∧ idx ∧ r.2 + 1 = rs.length then 0 else d.frac) 1
      (if r.2 = 1 ∧ w.op = ldOpt then w.srcB else w.dst + r.2) (r.1.2.map (fun x => x.map Prod.fst))) s

/-- One result written by the writing generator `a` at its place `x`, in the ck `t`. -/
def wordToMem (c : Nat) (d : Desc) (a : Agu) (x t : Nat) (f : Fmt) (es : List Res) (s : State) : State :=
  let (r, l) := aguRegion d d.loc a.region
  let size := max 1 (f.width / 8)
  let old := peekRegion s r (r.place c l) x a.width
  let bs := ((List.range (a.width / size)).flatMap (fun e =>
    match (es[e]?).join with | some y => leBytes size y.1 | none => slice old (size * e) size))
  let s := aguWrite s c d r l x f bs
  if l then noteLdlW s c { r with base := r.addr x } .e5m2 a.width (a.width, [t]) else s

/-- What a Ladle word does with its operands in one ck: its results go to `DST` and to the writing generators, the k-th of
which takes the k-th result. -/
def wordDone (c : Nat) (i : Iss) (w : CWord) (sg : List Nat) (v : List Val × List Val × List Val) (p : PRun) : PRun :=
  let d := i.desc
  let rf := fmtOf w.rfmt
  let wr := (w.agus.zip p.pos).filter (fun x => x.1.en && x.1.write)
  let size := max 1 (rf.width / 8)
  let a := v.1
  let n := if w.op = ldZero then ((wr.head?.map (fun x => x.1.width)).getD 2048) / size else a.length
  let hid := fun (e : Nat) => w.mask != 15 && !(w.op == ldElem && w.sub == 9) && !bit (kReg p.s c (w.mask % 8)) (e % 512)
  let sel := fun (e : Nat) => bit (kReg p.s c (w.mask % 8)) (e % 512)
  let o := wordOut d w sg a v.2.1 v.2.2 hid sel n
  let e0 := match wr.head? with | some x => x.2.toNat / size | none => p.el
  let rs := o.vals.zipIdx.map (fun x => (if x.2 = 1 ∧ w.op = ldOpt then Fmt.fp32 else rf,
    wordRes i w sg (if x.2 = 1 ∧ w.op = ldOpt then Fmt.fp32 else rf) e0 hid x.1))
  let rs := match o.idx with | some x => rs ++ [(Fmt.q32, [some (x, ({} : Flags))])] | none => rs
  let fl := rs.foldl (fun (f : Flags) r => r.2.zipIdx.foldl (fun (f : Flags) x =>
    if w.op ≠ ldReduce ∧ hid x.2 then f else match x.1 with | some y => f.join y.2 | none => f) f) p.flags
  let fl := a.zipIdx.foldl (fun (f : Flags) x => if hid x.2 then f else f.join x.1.seen) fl
  let toReg := w.op ≠ ldStore ∧ w.op ≠ ldZero
  let s := if toReg then wordToRegs c d w o.idx.isSome rs p.s else p.s
  let s := wr.zipIdx.foldl (fun s x =>
    match rs[min x.2 (rs.length - 1)]? with
    | none => s
    | some (f, es) => wordToMem c d x.1.1 x.1.2.toNat (i.relCk + 32 + p.t) f es s) s
  { p with s := s, el := if toReg ∧ wr.isEmpty ∧ w.op ≠ ldLoad then p.el + n else p.el, flags := fl,
           masked := p.masked + ((List.range n).filter hid).length, empties := p.empties + b2n o.empty }

/-- One ck of a Ladle word: its operands from generators or registers, its operation and its results. -/
def ladleCk (c : Nat) (i : Iss) (w : CWord) (p : PRun) : PRun :=
  let d := i.desc
  let (sa, sl) := scalarAt d
  let sb := peek p.s (if sl then .cache c else .tun) sa 64
  let sg := (List.range 16).map (fun k => fieldAt sb (4 * k) 4)
  let p := { p with conflict := p.conflict + (bankTime (wordAccs d w p.pos) - 1) }
  if w.op = ldMaskgen then wordMask c i w sg p
  else
    let x := wordOpnds c i w p
    if x.2.err.isSome ∧ w.op ≠ ldAccread then x.2 else wordDone c i w sg x.1 x.2

/-- RUN (R198). The pattern `PATTERN_ID` names runs over the regions; it takes the ck its words set and 56. `REL` releases the
held half it has read, unless it ends with an error (R161). -/
def execRun (c : Core) (s : State) : Host.Outcome State Fault Refusal :=
  match ldlHead s c ldRun 0 with
  | none => .next s
  | some i =>
    if i.desc.len0 = 0 then .next s else
    match runPattern s c i i.desc.loc (ladleCk c i) with
    | none => .next s
    | some p =>
      let s := patEnd p.s c i p
      let rel := i.desc.rel && p.rel && p.err.isNone
      let s := match (if rel then heldHalf s c else none) with
        | some (h, _) => releaseHalf (s.upTo (i.relCk + p.t + 56)) c h
        | none => s
      let r : LRep := { errs := if p.own then p.err.toList else [], masked := p.masked, flags := p.flags, empties := p.empties,
                        retry := p.retry, released := rel, time := (p.t, p.conflict, 0) }
      let s := ldlCount s c i r
      .next (finishDesc (dropReq s c 4 i.seq) c .ladle i (p.err.getD stOk) p.flags r.word (max s.ck (i.relCk + p.t + 56)))

end Sys2Proof.Machine
end

