-- ==== Sys2Proof/Machine/Runners.lean ====
section
/-!
DEFINITION. Machine/Runners.lean: chapter 09: the delivery of requests (R231, R234, R240–R245) and the Runner operations
of R238 with their conversions (R239), times (R246), statuses and engine word (R247).
-/
namespace Sys2Proof.Machine

open Sys2Proof

/-! ## Statuses (R247) -/

def stSrcCrc : Nat := 0x60
def stSrcUnc : Nat := 0x61
def stRemoteFail : Nat := 0x62
def stIngotFail : Nat := 0x63
def stRangeConflict : Nat := 0x64
def stLockedRefused : Nat := 0x65

/-- The status of a delivered piece by its outcome. -/
def pieceStatus : Nat → Nat
  | 0 => stOk | 1 => stSrcCrc | 2 => stSrcUnc | 3 => stIngotFail | _ => stRemoteFail

/-- R247: the fault source of a Runner status, where it has one. -/
def runSource (st : Nat) : Option Nat :=
  if st = stSrcUnc then some 2 else if st = stSrcCrc then some 4 else if st = stIngotFail then some 6
  else if st = stRemoteFail then some 5 else if st = stRangeConflict ∨ st = stLockedRefused then some 7 else none

/-! ## Delivery (R231, R234, R240, R241) -/

/-- The Runner descriptor in execution. -/
def runIss (s : State) (c : Nat) : Option Iss := (s.eng c .runners).busy.head?

/-- The bytes of the delivered pieces from place `a` up to place `b`, in order. -/
def gotBytes (q : Requester) (a b : Nat) : List Byte :=
  (List.range (b - a)).flatMap (fun k => ((q.got.find? (fun x => x.1 == a + k)).map (fun x => x.2.payload)).getD [])

/-- The 32-bit indices of an index list's bytes. -/
def indices (b : List Byte) (n : Nat) : List Nat := (List.range n).map (fun i => fieldAt b (4 * i) 4)

/-- R238: the requests of the rows a `GATHER` moves, from place `tag0` on; an index past the region asks for nothing. -/
def rowReqs (r : Region) (idx : List Nat) (tag0 : Nat) : List Req :=
  idx.foldl (fun out v =>
    if v < r.rows then out ++ sectorReqs r (v * r.rowBytes) r.rowBytes (tag0 + out.length) else out) []

/-- R242: a requester asks for more, once. -/
def askNew (s : State) (c eng seq : Nat) (new : List Req) : State :=
  modReq s c eng seq (fun q => { q with
    todo := q.todo ++ new, asked := q.asked ++ new, total := q.total + new.length, indexed := true })

/-- The first `n` requests of a requester have their data. -/
def gotFirst (q : Requester) (n : Nat) : Bool := (List.range n).all (fun k => q.got.any (fun x => x.1 == k))

/-- R242: once a descriptor has its index list or its entry list, it asks for what the list names: the rows of a `GATHER`, the
images of a `BLEND` or an `IMPORT`. -/
def askMore (s : State) (c eng seq : Nat) : State :=
  match findReq s c eng seq with
  | none => s
  | some q =>
    if q.indexed then s else
    match eng with
    | 5 => match runIss s c with
      | some i =>
        if i.seq = seq ∧ i.desc.op = rnGather ∧ i.desc.pattern = 0 ∧ gotFirst q q.total then
          askNew s c 5 seq (if i.desc.rloc 0 then [] else rowReqs i.desc.reg0 (indices (gotBytes q 0 q.total) i.desc.len0) q.total)
        else s
      | none => s
    | 2 => match (s.eng c .assay).busy.find? (fun i => i.seq == seq) with
      | some i => if i.desc.op = 3 ∧ gotFirst q q.total then askNew s c 2 seq (asyImages s c i q.total) else s
      | none => s
    | 3 => match cruIss s c seq with
      | some i =>
        if gotFirst q (sectorReqs i.desc.reg1 0 (entryBytes i.desc * i.desc.len0) 0).length then
          let s := cruListed (askNew s c 3 seq []) c i
          if i.desc.op = 12 then askTiles s c i ((List.range i.desc.len0).flatMap (importTiles s c i)) else s
        else s
      | none => s
    | _ => s

/-- R240: the header of a tile is whole: `VALID` set and `HCRC` matching. -/
def headerGood (side : List Byte) : Bool :=
  (TileHdr.parse side).valid && fieldAt side 0x3C 4 == crc32c (slice side 0 60)

/-- The injections of the check of a tile by an engine: fails once, fails twice. -/
def checkInj (eng : Nat) : Fld × Fld :=
  if eng = 2 then (ASY.INJ_IMG_CRC1, ASY.INJ_IMG_CRC2)
  else if eng = 3 then (CRU.INJ_IMG_CRC1, CRU.INJ_IMG_CRC2)
  else if eng = 4 then (LDL.INJ_TUN_CRC1, LDL.INJ_TUN_CRC2)
  else (RUN.INJ_SRC_CRC1, RUN.INJ_SRC_CRC2)

/-- R231, R240: the check of a tile that core `c` has fetched for an engine: the Runners' check of the header of a HBM tile,
then the check of its consumer. The number of further failures that an injection forces, and whether it is good. The Mould
checks its tiles itself. -/
def checkTile (s : State) (c eng : Nat) (r : Req) (pl sd : List Byte) : Nat × Bool × State :=
  let hdr := eng != 5 && r.type == 1
  let (i, s) := if hdr then s.injFails RUN.INJ_SRC_CRC1 RUN.INJ_SRC_CRC2 c else (0, s)
  let (j, s) := if eng = 1 ∨ !r.check then (0, s) else s.injFails (checkInj eng).1 (checkInj eng).2 c
  (max i j, i == 0 && j == 0 && (!hdr || headerGood sd) && (eng == 1 || !r.check || tileGood pl sd), s)

/-- The data of a request reaches its requester: `st` is the status of the read (0 good, 1 corrected, 2 uncorrectable),
`fail` an Ingot (3) or remote (4) failure. A tile that checks bad is requested once more (R231, R240); `Req.tag` marks a
second copy in bit 36, and in bit 37 one that an injection fails too. -/
def arrive (s : State) (c : Nat) (eng seq : Nat) (r : Req) (pl sd : List Byte) (st fail : Nat) : State :=
  match findReq s c eng seq with
  | none => s
  | some _ =>
    let s := if st = 1 then modReq s c eng seq (fun q => { q with corr := true }) else s
    let put := fun (s : State) (bad : Nat) =>
      if eng = 1 then
        let t : OpTile := { op := r.tag / 2 ^ 35 % 2, j := r.tag % 2 ^ 35, payload := pl, side := sd }
        s.modCore c (fun x => { x with mld := { x.mld with
          inq := x.mld.inq ++ [(seq, t, if bad = 0 then st else if bad = 1 then 5 else bad, decide (2 ^ 36 ≤ r.tag))] } })
      else askMore (modReq s c eng seq (fun q => { q with
        got := q.got ++ [(r.tag % 2 ^ 36, { payload := pl, side := sd, bad := bad, space := spaceOf r.type r.dev r.rtype,
                                            addr := r.addr })],
        first := some (q.first.getD s.ck), last := s.ck })) c eng seq
    if fail ≠ 0 then put s fail
    else if st = 2 then put s 2
    else if !r.tile then put s 0
    else
      let second := decide (2 ^ 36 ≤ r.tag)
      let (inj, good, s) := if second then (0, (checkTile s c eng r pl sd).2.1, s) else checkTile s c eng r pl sd
      if good && !decide (2 ^ 37 ≤ r.tag) then put s 0
      else if second then put s 1
      else
        let again := { r with tag := r.tag + 2 ^ 36 + (if inj = 2 then 2 ^ 37 else 0) }
        let s := if eng = 4 then s.bump LDL.CRC_RETRIES 1 c else if eng = 1 ∨ eng = 5 then s.bump RUN.CRC_RETRIES 1 c else s
        modReq s c eng seq (fun q => { q with todo := again :: q.todo, retry := true })

/-- The oldest request in flight with its data due. -/
def dueFirst (fs : List Flight) : Option Flight :=
  fs.foldl (fun a f =>
    match f.due with
    | none => a
    | some d => match a with
      | some g => if d < g.due.getD 0 then some f else a
      | none => some f) none

/-- The data of a local request: its bytes, sidecar and read status. -/
def localRead (s : State) (r : Req) : List Byte × List Byte × Nat × State :=
  if r.tile then
    if r.type = 0 then readTile s .tun (r.addr / 16384)
    else
      let (pl, sd) := hbmTile s (r.addr / 16384)
      let (_, _, s) := readChunk s .hbm r.addr 16384
      (pl, sd, 0, s)
  else
    let (b, st, s) := readChunk s (if r.type = 0 then .tun else .hbm) r.addr r.len
    (b, [], if r.type = 0 then st else 0, s)

/-- R258: the services of open timing that come before the next delivery to core `c`. -/
def settleHbm : Nat → State → Nat → State
  | 0, s, _ => s
  | n + 1, s, c =>
    if s.locked then s else
    match nextService s with
    | none => s
    | some (pc, x, h) =>
      match dueFirst (s.run c).flight with
      | some f => if ckOfHk s h ≤ f.due.getD 0 then settleHbm n (serveOpen s pc x h) c else s
      | none => if (s.run c).flight.any (fun f => !f.parts.isEmpty) then settleHbm n (serveOpen s pc x h) c else s

/-- R234: what a delivered read leaves of its entry: one it was to fill is filled, or goes with a failed fetch; an
invalidated one goes with its last reader. -/
def leaveEntry (s : State) (f : Flight) (pl sd : List Byte) (good : Bool) : State :=
  match f.cached with
  | none => s
  | some t => sweepGone (if f.fills then fillDone s t (if good then some (pl, sd) else none) else s)

/-- REQUEST_COMPLETE (R241). The data of the oldest local request due is delivered and checked, its slot frees and is
granted again; the next-tile prefetcher follows a demand read of HBM (R244). -/
def execRequestComplete (c : Core) (s : State) : Host.Outcome State Fault Refusal :=
  let s0 := settleHbm (hbmLeft s) s c
  match dueFirst (s0.run c).flight with
  | none => .next s
  | some f =>
    let s1 := s0.upTo (f.due.getD 0)
    let hit := f.cached.isSome && !f.fills
    let (pl, sd, st, s2) := if hit then readTile s1 .tun (f.cached.getD 0) else localRead s1 f.req
    let (pl, s2) := acrossBridge s2 c (if hit then tunDie (f.cached.getD 0 * 16384) else memCasting f.req.type f.req.addr) pl
    let s3 := leaveEntry (landFlight s2 c f) f pl sd true
    let s4 := if hit then modReq s3 c f.eng f.seq (fun q => { q with hit := true }) else s3
    let s5 := arrive s4 c f.eng f.seq f.req pl sd st 0
    let s6 := if f.req.type = 1 ∧ f.req.tile ∧ f.eng ≠ 0 then prefetchNext s5 c (f.req.addr / 16384) else s5
    .next (grantSlots s6 c)

/-- R207, R234, R237: a remote or Ingot read is delivered: at once in open timing, in the boundary window of the next tick in
locked timing. Its requester takes it, which frees its staging tile. -/
def applyPiece (s : State) (c eng seq : Nat) (r : Req) (p : Piece) : State :=
  match (s.run c).flight.find? (fun f => f.eng == eng && f.seq == seq && f.req == r) with
  | none => s
  | some f =>
    let s := match f.stage with | some t => unstageTile s t | none => s
    let s := leaveEntry (landFlight s c f) f p.payload p.side (p.bad == 0)
    grantSlots (arrive s c eng seq r p.payload p.side 0 p.bad) c

/-- A remote or Ingot read's data has come; `stage` is the staging tile it has been placed in (R237). -/
def deliverRead (s : State) (c : Nat) (f : Flight) (p : Piece) (stage : Option Nat) : State :=
  let s := modRun s c (fun x => { x with flight := x.flight.map (fun g => if g = f then { g with done := true, stage := stage } else g) })
  outside s (.piece c f.seq f.eng f.req p) (fun s => applyPiece s c f.eng f.seq f.req p)

/-! ## Running a Runner descriptor (R238, R246, R247) -/

/-- R238: the requests a Runner descriptor makes at its release, for its sources outside the operand cache. -/
def runReqs (d : Desc) : List Req :=
  let o := d.op
  if d.pattern ≠ 0 then
    let a := if d.rloc 0 then [] else sectorReqs d.reg0 0 d.reg0.bytes 0
    a ++ (if d.rloc 1 then [] else sectorReqs d.reg1 0 d.reg1.bytes a.length)
  else if o = rnCopy then
    if d.rloc 0 then [] else if d.tiles then tileReqs d.reg0 d.len0 0 else sectorReqs d.reg0 0 d.len0 0
  else if o = rnGather then (if d.rloc 1 then [] else sectorReqs d.reg1 0 (4 * d.len0) 0)
  else if o = rnScatter then
    let a := if d.rloc 0 then [] else sectorReqs d.reg0 0 (d.len0 * d.reg0.rowBytes) 0
    a ++ (if d.rloc 1 then [] else sectorReqs d.reg1 0 (4 * d.len0) a.length)
  else if o = rnPrefetch then (tileReqs d.reg0 d.len0 0).map (fun r => { r with check := false })
  else if o = rnNcheck then sectorReqs d.reg0 0 d.reg0.bytes 0
  else if o = rnVote then sectorReqs d.reg0 0 4 0
  else if o = rnSeal then
    let a := tileReqs d.reg0 (d.reg0.bytes / 16384) 0
    a ++ sectorReqs d.reg1 0 64 a.length
  else if o = rnRiser then
    let a := tileReqs d.reg0 (d.reg0.bytes / 16384) 0
    a ++ tileReqs d.reg1 (d.reg1.bytes / 16384) a.length
  else if o = rnJappend then sectorReqs d.reg0 0 d.len0 0
  else []

/-- The Runner descriptor in execution, when its operation is `op` and its sources are all delivered. -/
def runHead (s : State) (c op : Nat) : Option (Iss × Requester) :=
  match runIss s c with
  | some i =>
    if i.desc.op = op then
      match findReq s c 5 i.seq with
      | some q =>
        if q.todo.isEmpty && q.got.length == q.total && (op != rnGather || i.desc.pattern != 0 || q.indexed) then some (i, q) else none
      | none => none
    else none
  | none => none

/-- What a Runner descriptor has done so far: the state, the units moved, the status it ends with (OK while it goes on),
and what its engine word reports; the ck of its first unit, and the ck and the bytes of each (R246). -/
structure RProg where
  s : State
  ck0 : Nat := 0
  unit : Nat := 0
  per : Nat := 16384
  moved : Nat := 0
  st : Nat := stOk
  skipped : Nat := 0
  conv : Bool := false
  flags : Flags := {}

/-- R246: L of a descriptor's source region: the latency of its first access. That of HBM in locked timing and of an Ingot
or remote source is what its first access took. -/
def runLat (s : State) (i : Iss) (q : Requester) (type : Nat) (loc : Bool) : Nat :=
  if loc then 0
  else if fixedLat s type then (if type = 0 then 96 + tkCk s 40 else 96 + hkCk s 120)
  else q.first.getD i.relCk - i.relCk

/-- R246, R260: the bytes per ck that the slot tables let core `c` read from HBM: 786,432 bytes a slot of 72 hk. -/
def slotShare (s : State) (c : Nat) : Nat :=
  let n := ((List.range 256).filter (fun e => slotEntry s c e == 1 || slotEntry s c e == 3)).length
  786432 * n / (256 * hkCk s 72)

/-- R246: the bytes per ck the source admits. -/
def srcRate (s : State) (c type : Nat) (loc : Bool) : Nat :=
  if loc then 2048
  else if type = 0 then rdRate s c
  else if type = 1 then
    if s.locked then min (rdRate s c) (slotShare s c) else min (rdRate s c) (48 * 16384 / (96 + hkCk s 184))
  else rdRate s c

/-- R246: c, the ck of one unit. -/
def unitCk (s : State) (c : Nat) (rs : Nat) (loc2 : Bool) : Nat :=
  ceilDiv 16384 (max 1 (min rs (if loc2 then 2048 else wrRate s c)))

/-- R246: how much later the last source data came than it would have come with no other traffic. -/
def waited (s : State) (c : Nat) (i : Iss) (q : Requester) : Nat :=
  let n := (runReqs i.desc).length
  let a := aloneLast c i.relCk (q.asked.take n) [] i.relCk (alone s i.relCk)
  q.last - aloneLast c a (q.asked.drop n) [] a (alone s a)

/-- R246: when a Runner descriptor that has moved `n` units ends: waits at shared resources add to its time. Where L is
itself a measured time, it ends no earlier than 24 ck after its last source data, and a `COLL` no earlier than 24 ck after
its result. -/
def runEndCk (s : State) (c : Nat) (i : Iss) (q : Requester) (lat n unit : Nat) : Nat :=
  let t := i.relCk + 32 + lat + n * unit + 24
  if i.desc.op = rnColl then max t (s.ck + 24)
  else if q.asked.isEmpty then max t s.ck
  else if q.asked.all (fun r => fixedLat s r.type) then t + waited s c i q
  else max t (q.last + 24)

/-- R247: the engine word. -/
def runWord (p : RProg) (q : Requester) : Nat :=
  satN 32 p.moved + satN 16 p.skipped * 2 ^ 32 + b2n q.retry * 2 ^ 48 + b2n q.corr * 2 ^ 49 + b2n p.conv * 2 ^ 50 +
    b2n q.hit * 2 ^ 51

/-- R237, R247: a Runner descriptor has finished: its source is raised, its staged tiles and its requester go. -/
def runFinish (p : RProg) (c : Nat) (i : Iss) (q : Requester) (endCk : Nat) : State :=
  let s := match runSource p.st with
    | some src => raiseFor .run c src p.st i.seq p.s
    | none => p.s
  let s := unstage s (stageOwner c 5 i.seq)
  let s := dropReq s c 5 i.seq
  let s := s.wrapAdd RUN.BUSY_CK (endCk - i.relCk) c
  showRun (finishDesc s c .runners i p.st p.flags (runWord p q) endCk) c

/-! ## Destinations -/

/-- R274: the Ingot Store has too few usable pages for a new write to a region. -/
def spaceGone (s : State) (r : Region) : Bool := r.type == 2 && s.flag ING.STATE_SPACE_LOW

/-- R148: some bytes written by the Runners to the operand cache in ck `t`. A word that the Ladle writes in that ck keeps the
Ladle's value; a Ladle read in that ck takes what the cache held before. -/
def cacheChunk (s : State) (c a t : Nat) (bs : List Byte) : State :=
  let hits := (s.ldl c).ldlW.filter (fun w => w.2.2 == t)
  let old := peek s (.cache c) a bs.length
  let bs := if hits = [] then bs else (bs.zip old).zipIdx.map (fun x =>
    let w := (a + x.2) / 8
    if hits.any (fun h => decide (h.1 / 8 ≤ w ∧ w ≤ (h.1 + h.2.1 - 1) / 8)) then x.1.2 else x.1.1)
  poke (modLdl s c (fun l => { l with runW := l.runW ++ [(a, t, old)] })) (.cache c) a bs

/-- Bytes cut into pieces of `g`. -/
def cutBytes (g : Nat) : Nat → List Byte → List (List Byte)
  | 0, _ => []
  | n + 1, bs => if bs = [] then [] else bs.take g :: cutBytes g n (bs.drop g)

/-- R148, R246: bytes written by the Runners to a piece of an operand-cache region, those of each ck together: `m` is how many
bytes the descriptor has moved before. -/
def runnerCacheWrite (p : RProg) (c a m : Nat) (bs : List Byte) : RProg :=
  let g := max 8 (p.per / max 1 p.unit / 8 * 8)
  { p with s := ((cutBytes g bs.length bs).zipIdx).foldl (fun s x =>
      cacheChunk s c (a + g * x.2) (p.ck0 + (m + g * x.2) * p.unit / p.per) x.1) p.s }

/-- R238, R270: bytes written from byte `off` of a destination region; a Tundish range under the cache ends the
descriptor. -/
def putBytes (p : RProg) (c seq : Nat) (r : Region) (loc : Bool) (off : Nat) (bs : List Byte) : RProg :=
  if p.st ≠ stOk ∨ bs = [] then p
  else if rangeConflict p.s r loc off bs.length then { p with st := stRangeConflict }
  else if loc then
    ((r.chunks (bs.length + 1) off bs.length).foldl (fun (x : RProg × List Byte × Nat) a =>
      (runnerCacheWrite x.1 c a.1 x.2.2 (x.2.1.take a.2), x.2.1.drop a.2, x.2.2 + a.2)) (p, bs, 16 * p.moved)).1
  else if spaceGone p.s r then { p with st := stIngotFail }
  else { p with s := storeRegion p.s c seq r (r.place c false) off bs }

/-- R230, R477: tile `j` of a destination region written with its sidecar. -/
def putTile (p : RProg) (c seq : Nat) (r : Region) (loc : Bool) (j : Nat) (payload side : List Byte) : RProg :=
  if p.st ≠ stOk then p
  else if loc then
    { putBytes { p with moved := 1024 * p.moved } c seq r true (j * 18432) (payload ++ side) with moved := p.moved }
  else if rangeConflict p.s r false (j * 16384) 16384 then { p with st := stRangeConflict }
  else if spaceGone p.s r then { p with st := stIngotFail }
  else { p with s := storeTile p.s c seq (r.place c false) (r.addr (j * 16384) / 16384) payload side }

/-- R246: a Runner descriptor begins to move data from region 0, a unit of 16 KiB at a time. -/
def moveProg (s : State) (c : Nat) (i : Iss) (q : Requester) : RProg :=
  let d := i.desc
  { s := s, ck0 := i.relCk + 32 + runLat s i q d.reg0.type (d.rloc 0),
    unit := unitCk s c (srcRate s c d.reg0.type (d.rloc 0)) (d.rloc 2) }

/-! ## Sources -/

/-- R477: tile image `j` of an operand-cache region, checked, with one retry (R240); an uncorrectable cache word raises
`LDL` source 2 as well (log entry 42). -/
def localTile (s : State) (c : Nat) (r : Region) (j : Nat) : Piece × Bool × State :=
  let pl := peekRegion s r (.cache c) (j * 18432) 16384
  let sd := peekRegion s r (.cache c) (j * 18432 + 16384) 2048
  let (e, s) := cacheStatus s c (r.addr (j * 18432)) 18432
  if e = 2 then ({ payload := pl, side := sd, bad := 2 }, false, raise .ldl c 2 s)
  else
    let (inj, s) := s.injFails RUN.INJ_SRC_CRC1 RUN.INJ_SRC_CRC2 c
    let good := tileGood pl sd
    let again := inj != 0 || !good
    let s := if again then s.bump RUN.CRC_RETRIES 1 c else s
    ({ payload := pl, side := sd, bad := if inj = 2 ∨ !good then 1 else 0 }, again, s)

/-- Tile `j` of the source of a tile-mode descriptor. -/
def srcTile (p : RProg) (c : Nat) (d : Desc) (q : Requester) (j : Nat) : Piece × Requester × RProg :=
  if d.rloc 0 then
    let (x, again, s) := localTile p.s c d.reg0 j
    (x, { q with retry := q.retry || again }, { p with s := s, st := pieceStatus x.bad })
  else
    let x := ((q.got.find? (fun x => x.1 == j)).map Prod.snd).getD { payload := [], side := [], bad := 4 }
    (x, q, { p with st := if rangeConflict p.s d.reg0 false (j * 16384) 16384 then stRangeConflict else pieceStatus x.bad })

/-- Bytes of an operand-cache region, with the status of the read. -/
def localBytes (p : RProg) (c : Nat) (r : Region) (off n : Nat) : List Byte × RProg :=
  let (b, e, s) := readRegion p.s r (.cache c) off n
  if e = 2 then (b, { p with s := raise .ldl c 2 s, st := stSrcUnc }) else (b, { p with s := s })

/-! ## Patterns (R198) -/

/-- R198, R240: what a reading generator of a Runner word delivers in a ck: bytes of a region the Runners have fetched, of the
operand cache, or of region 2 or the scale block as they stand. -/
def runnerRead (c : Nat) (i : Iss) (k pos n : Nat) (p : PRun) : List Byte × PRun :=
  let d := i.desc
  let (r, l) := aguRegion d d.rloc k
  let feeds := !l && decide (k < 2)
  let (b, e, s) := readRegion p.s r (if feeds then r.feed c 5 i.seq false else r.place c l) pos n
  let p := { p with s := if l && e == 2 then raise .ldl c 2 s else s }
  let bad := if feeds then (r.chunks (n + 1) pos n).foldl (fun m x =>
    max m (fedBad (fedPieces s c 5 i.seq (spaceOf r.type r.dev r.rtype)) x.1 x.2)) 0 else if e = 2 then 2 else 0
  if rangeConflict p.s r l pos n then (b, p.fail stRangeConflict)
  else if bad ≠ 0 then (b, p.fail (pieceStatus bad)) else (b, p)

/-- One ck of a Runner word: what the reading generators deliver, in order, goes to the writing ones. -/
def runnerCk (c : Nat) (i : Iss) (w : CWord) (p : PRun) : PRun :=
  let d := i.desc
  let (b, p) := (w.agus.zip p.pos).foldl (fun (x : List Byte × PRun) a =>
    if a.1.en && !a.1.write then
      let (b, p) := runnerRead c i a.1.region a.2.toNat a.1.width x.2
      (x.1 ++ b, p)
    else x) ([], p)
  if p.err.isSome then p else
  let (q, _) := (w.agus.zip p.pos).foldl (fun (x : RProg × List Byte) a =>
    if a.1.en && a.1.write then
      let (r, l) := aguRegion d d.rloc a.1.region
      (putBytes x.1 c i.seq r l a.2.toNat (x.2.take a.1.width), x.2.drop a.1.width)
    else x) (({ s := p.s, ck0 := i.relCk + 32 + p.t } : RProg), b)
  let p := { p with s := q.s, moved := p.moved + b.length / 16 }
  if q.st = stOk then p else p.fail q.st

/-- R198: a Runner descriptor with a pattern: its words move what the reading generators deliver. -/
def runByPattern (s : State) (c : Nat) (i : Iss) (q : Requester) : Host.Outcome State Fault Refusal :=
  match runPattern s c i i.desc.rloc (runnerCk c i) with
  | none => .next s
  | some p =>
    let s' := patEnd p.s c i p
    .next (runFinish { s := s', moved := p.moved, st := p.err.getD stOk } c i q (max s'.ck (i.relCk + p.t + 56)))

/-- A Runner operation carried out on its delivered sources. -/
def runOp (c op : Nat) (s : State) (f : Iss → Requester → Host.Outcome State Fault Refusal) :
    Host.Outcome State Fault Refusal :=
  match runHead s c op with
  | none => .next s
  | some (i, q) => if i.desc.pattern = 0 then f i q else runByPattern s c i q

/-! ## COPY (R238, R239, R479) -/

/-- R475, R479: the header of a tile the Runners write. -/
def runHdr (s : State) (c : Nat) (d : Desc) (h : TileHdr) : TileHdr :=
  { h with valid := true, prodDev := s.self, prodCore := c, prodEngine := 5,
           stepEpoch := if d.stamp then d.len2 else h.stepEpoch }

/-- Tiles `j` … of a tile-mode copy without conversion. -/
def copyTiles (c seq : Nat) (d : Desc) : Nat → Nat → Requester → RProg → Requester × RProg
  | 0, _, q, p => (q, p)
  | n + 1, j, q, p =>
    let (x, q, p) := srcTile p c d q j
    if p.st ≠ stOk then (q, p)
    else
      let h := runHdr p.s c d (TileHdr.parse x.side)
      let p := putTile p c seq d.reg2 (d.rloc 2) j x.payload (mkSidecar h x.payload (slice x.side 64 1024))
      if p.st ≠ stOk then (q, p) else copyTiles c seq d n (j + 1) q { p with moved := p.moved + 1 }

/-- An element read for a conversion: its value, and the header and offset it came from. -/
structure SrcElem where
  v : Val
  h : TileHdr
  off : Nat

/-- R239: the elements of the source tiles, in order; a failing tile ends the list with its status. -/
def srcElems (c : Nat) (d : Desc) : Nat → Nat → Requester → RProg → List SrcElem → List SrcElem × Requester × RProg
  | 0, _, q, p, out => (out, q, p)
  | n + 1, j, q, p, out =>
    let (x, q, p) := srcTile p c d q j
    if p.st ≠ stOk then (out, q, p)
    else
      let h := TileHdr.parse x.side
      let f := fmtOf h.fmt
      let es := (List.range (min h.elems f.perTile)).map (fun i => { v := tileVal x.payload x.side i, h := h, off := i : SrcElem })
      srcElems c d n (j + 1) q { p with moved := p.moved + 1 } (out ++ es)

/-- R239: one converted tile from its elements, the first of which has number `e0`. -/
def convTile (s : State) (c : Nat) (i : Iss) (e0 : Nat) (es : List SrcElem) : List Byte × List Byte × Flags :=
  let d := i.desc
  let f := fmtOf d.fmt2
  let x := es.head?.getD { v := .nan, h := {}, off := 0 }
  let co := if f.scaled then (if (fmtOf x.h.fmt).scaled then x.h.coarse else coarseOne) else coarseOne
  let rnd := fun (k : Nat) => rndOf d.rnd0 i.key
    { tensor := d.tensor, step := d.step, elem := d.baseElem.toNat + e0 + k, purpose := 4, ordinal := d.aux16 % 4096 }
  let (bs, fines, g) := encodeTile f (if f.isQ then d.frac else 0) co rnd (es.map SrcElem.v)
  let pl := packPayload f bs
  let h := { runHdr s c d x.h with
    fmt := d.fmt2, frac := if f.isQ then d.frac else 0, coarse := co, elems := es.length, nanSeen := g.nan,
    infSeen := g.inf, sat := decide (0 < g.sat) }
  (pl, mkSidecar h pl fines, g)

/-- Converted tiles `j` … of a copy. -/
def putConv (c : Nat) (i : Iss) : Nat → Nat → List SrcElem → RProg → RProg
  | 0, _, _, p => p
  | n + 1, j, es, p =>
    if es.isEmpty then p else
    let per := (fmtOf i.desc.fmt2).perTile
    let (pl, sd, g) := convTile p.s c i (j * per) (es.take per)
    let p := putTile p c i.seq i.desc.reg2 (i.desc.rloc 2) j pl sd
    if p.st ≠ stOk then p else putConv c i n (j + 1) (es.drop per) { p with flags := p.flags.join g }

/-- R239: a converting copy: the tiles before a failing source tile are converted and written. -/
def copyConv (c : Nat) (i : Iss) (q : Requester) (p : RProg) : Requester × RProg :=
  let d := i.desc
  let (es, q, p) := srcElems c d d.len0 0 q p []
  let per := (fmtOf d.fmt2).perTile
  let es := if p.st = stOk then es else es.take (es.length / per * per)
  let r := putConv c i (ceilDiv es.length per) 0 es { p with st := stOk, conv := true }
  (q, { r with st := if r.st = stOk then p.st else r.st })

/-- Raw pieces copied in order: each delivered piece to its place in region 2. -/
def copyRaw (c seq : Nat) (d : Desc) : List (Nat × Piece) → Nat → RProg → RProg
  | [], _, p => p
  | (_, x) :: xs, off, p =>
    let p := { p with st := if rangeConflict p.s d.reg0 (d.rloc 0) off x.payload.length then stRangeConflict
                            else pieceStatus x.bad }
    if p.st ≠ stOk then p
    else
      let p := putBytes p c seq d.reg2 (d.rloc 2) off x.payload
      if p.st ≠ stOk then p
      else copyRaw c seq d xs (off + x.payload.length) { p with moved := p.moved + x.payload.length / 16 }

/-- The pieces delivered, by place. -/
def inOrder (q : Requester) : List (Nat × Piece) :=
  (List.range q.total).filterMap (fun k => q.got.find? (fun x => x.1 == k))

/-- R246: the end of a descriptor that moves `n` units from region 0 to region 2. -/
def moveEnd (s : State) (c : Nat) (i : Iss) (q : Requester) (n : Nat) : Nat :=
  let d := i.desc
  runEndCk s c i q (runLat s i q d.reg0.type (d.rloc 0)) n (unitCk s c (srcRate s c d.reg0.type (d.rloc 0)) (d.rloc 2))

/-- COPY (R238, R239, R479). -/
def execCopy (c : Core) (s : State) : Host.Outcome State Fault Refusal :=
  runOp c rnCopy s (fun i q =>
    let d := i.desc
    let p0 := moveProg s c i q
    let (q, p) :=
      if d.tiles then (if d.converts then copyConv c i q p0 else copyTiles c i.seq d d.len0 0 q p0)
      else if d.rloc 0 then
        let (b, p) := localBytes p0 c d.reg0 0 d.len0
        let p := if p.st = stOk then putBytes p c i.seq d.reg2 (d.rloc 2) 0 b else p
        (q, if p.st = stOk then { p with moved := d.len0 / 16 } else p)
      else (q, copyRaw c i.seq d (inOrder q) 0 p0)
    .next (runFinish p c i q (moveEnd p.s c i q (if d.tiles then p.moved else ceilDiv (p.moved * 16) 16384))))

/-! ## FILL (R226, R238) -/

/-- `n` bytes of a 32-bit pattern. -/
def patBytes (v n : Nat) : List Byte := (List.range n).map (fun k => BitVec.ofNat 8 (v / 2 ^ (8 * (k % 4))))

/-- R174: the pieces of a region's first `n` bytes, rows that follow one another at once joined up to the end of a tile. -/
def wholeChunks (r : Region) (n : Nat) : List (Nat × Nat) :=
  ((r.chunks (n + 1) 0 n).foldl (fun (l : List (Nat × Nat)) x =>
    match l with
    | (a, k) :: t => if a + k = x.1 ∧ x.1 % 16384 ≠ 0 then (a, k + x.2) :: t else x :: l
    | [] => [x]) []).reverse

/-- R238, R268: one piece of a `FILL`: the pattern, and for a whole tile a zeroed sidecar; a whole Ingot tile filled with
0 is unmapped. -/
def fillChunk (c : Nat) (i : Iss) (p : RProg) (off a n : Nat) : RProg :=
  let d := i.desc
  let whole := decide (a % 16384 = 0 ∧ n = 16384) && !d.rloc 2
  if p.st ≠ stOk then p
  else if whole && d.reg2.type == 2 && d.len1 == 0 then
    { p with s := unmapTile { p.s with ing := { p.s.ing with
                writes := p.s.ing.writes.filter (fun w => !(w.core == c && w.seq == i.seq && w.tile == a / 16384)) } } (a / 16384),
             moved := p.moved + 1024 }
  else if whole && (d.reg2.type != 1 || decide (a / 16384 < p.s.reg HBM.TILEWIN)) then
    if rangeConflict p.s d.reg2 false off n then { p with st := stRangeConflict }
    else if spaceGone p.s d.reg2 then { p with st := stIngotFail }
    else { p with s := storeTile p.s c i.seq (d.reg2.place c false) (a / 16384) (patBytes d.len1 n) (zeros 2048),
                  moved := p.moved + 1024 }
  else
    let p := putBytes p c i.seq d.reg2 (d.rloc 2) off (patBytes d.len1 n)
    if p.st ≠ stOk then p else { p with moved := p.moved + n / 16 }

/-- FILL (R238). -/
def execFill (c : Core) (s : State) : Host.Outcome State Fault Refusal :=
  runOp c rnFill s (fun i q =>
    let d := i.desc
    if d.all then .next s else
    let unit := ceilDiv 16384 (if d.rloc 2 then 2048 else max 1 (wrRate s c))
    let (p, _) := (wholeChunks d.reg2 d.len0).foldl (fun (x : RProg × Nat) a =>
      (fillChunk c i x.1 x.2 a.1 a.2, x.2 + a.2)) ({ s := s, ck0 := i.relCk + 32, unit := unit }, 0)
    .next (runFinish p c i q (runEndCk p.s c i q 0 (ceilDiv (p.moved * 16) 16384) unit)))

/-- FILL_ALL (R226, R246). A `FILL` with `ALL` set: every payload and sidecar line of both dies, or `LOCKED_REFUSED`. -/
def execFillAll (c : Core) (s : State) : Host.Outcome State Fault Refusal :=
  runOp c rnFill s (fun i q =>
    if !i.desc.all then .next s
    else if s.locked then .next (runFinish { s := s, st := stLockedRefused } c i q (max s.ck (i.relCk + 56)))
    else
      let s1 := { s with tun := { s.tun with bytes := [], side := [], badWords := [] } }
      let s1 := (s1.setFld TUN.STATE_FILLING 0 0).setFld TUN.STATE_FILLING 0 1
      .next (runFinish { s := s1, moved := 2 ^ 27 } c i q (max s.ck (i.relCk + 56 + ceilDiv (147456 * s.ckPerUs) 1500))))

/-! ## GATHER and SCATTER (R238) -/

/-- The index list of a descriptor: from the operand cache, or delivered from place `t` on. -/
def indexList (p : RProg) (c : Nat) (d : Desc) (q : Requester) (t u : Nat) : List Nat × RProg :=
  if d.rloc 1 then
    let (b, p) := localBytes p c d.reg1 0 (4 * d.len0)
    (indices b d.len0, p)
  else
    let bad := (q.got.filter (fun x => decide (t ≤ x.1 ∧ x.1 < u) && x.2.bad != 0)).head?
    let p := if rangeConflict p.s d.reg1 false 0 (4 * d.len0) then { p with st := stRangeConflict } else p
    (indices (gotBytes q t u) d.len0, match bad with | some x => { p with st := pieceStatus x.2.bad } | none => p)

/-- How many sector requests a list of bytes of a region takes. -/
def reqCount (r : Region) (off n : Nat) : Nat := (sectorReqs r off n 0).length

/-- The bytes of a row delivered in the requests from place `t`, and the first failure among them. -/
def rowGot (q : Requester) (t n : Nat) : List Byte × Nat :=
  (gotBytes q t (t + n),
   ((q.got.filter (fun x => decide (t ≤ x.1 ∧ x.1 < t + n) && x.2.bad != 0)).head?.map (fun x => pieceStatus x.2.bad)).getD stOk)

/-- Rows `k` … of a `GATHER`: row `idx[k]` of region 0, or zeros, to row `k` of region 2. -/
def gatherRows (c : Nat) (i : Iss) (q : Requester) : List Nat → Nat → Nat → RProg → RProg
  | [], _, _, p => p
  | v :: vs, k, t, p =>
    let d := i.desc
    let n := d.reg0.rowBytes
    if d.reg0.rows ≤ v then
      let p := putBytes p c i.seq d.reg2 (d.rloc 2) (k * n) (zeros n)
      if p.st ≠ stOk then p else gatherRows c i q vs (k + 1) t { p with skipped := p.skipped + 1 }
    else
      let (b, p, used) :=
        if d.rloc 0 then let (b, p) := localBytes p c d.reg0 (v * n) n; (b, p, 0)
        else
          let m := reqCount d.reg0 (v * n) n
          let (b, st) := rowGot q t m
          (b, { p with st := if rangeConflict p.s d.reg0 false (v * n) n then stRangeConflict else st }, m)
      if p.st ≠ stOk then p
      else
        let p := putBytes p c i.seq d.reg2 (d.rloc 2) (k * n) b
        if p.st ≠ stOk then p else gatherRows c i q vs (k + 1) (t + used) { p with moved := p.moved + n / 16 }

/-- R246: the ck of a unit of a `GATHER` or `SCATTER`, which count 32-byte sectors in place of tiles. -/
def sectorCk (s : State) (c : Nat) (i : Iss) : Nat :=
  let d := i.desc
  let w := if d.rloc 2 then 2048 else wrRate s c
  ceilDiv 32 (max 1 (min (srcRate s c d.reg0.type (d.rloc 0)) w))

/-- R246: the end of a `GATHER` or `SCATTER` that moves `n` sectors. -/
def sectorEnd (s : State) (c : Nat) (i : Iss) (q : Requester) (n : Nat) : Nat :=
  runEndCk s c i q (runLat s i q i.desc.reg0.type (i.desc.rloc 0)) n (sectorCk s c i)

/-- R246: a `GATHER` or `SCATTER` begins to move data. -/
def sectorProg (s : State) (c : Nat) (i : Iss) (q : Requester) : RProg :=
  { s := s, ck0 := i.relCk + 32 + runLat s i q i.desc.reg0.type (i.desc.rloc 0), unit := sectorCk s c i, per := 32 }

/-- GATHER (R238). -/
def execGather (c : Core) (s : State) : Host.Outcome State Fault Refusal :=
  runOp c rnGather s (fun i q =>
    let d := i.desc
    let t := if d.rloc 1 then 0 else reqCount d.reg1 0 (4 * d.len0)
    let (idx, p) := indexList (sectorProg s c i q) c d q 0 t
    let p := if p.st = stOk then gatherRows c i q idx 0 t p else p
    .next (runFinish p c i q (sectorEnd p.s c i q (ceilDiv (p.moved * 16) 32))))

/-- Rows `k` … of a `SCATTER`, in list order: row `k` of region 0 to row `idx[k]` of region 2. -/
def scatterRows (c : Nat) (i : Iss) (rows : List Byte) : List Nat → Nat → RProg → RProg
  | [], _, p => p
  | v :: vs, k, p =>
    let d := i.desc
    let n := d.reg0.rowBytes
    if d.reg2.rows ≤ v then scatterRows c i rows vs (k + 1) { p with skipped := p.skipped + 1 }
    else
      let p := putBytes p c i.seq d.reg2 (d.rloc 2) (v * n) (slice rows (k * n) n)
      if p.st ≠ stOk then p else scatterRows c i rows vs (k + 1) { p with moved := p.moved + n / 16 }

/-- SCATTER (R238). Rows before a failing source piece are written. -/
def execScatter (c : Core) (s : State) : Host.Outcome State Fault Refusal :=
  runOp c rnScatter s (fun i q =>
    let d := i.desc
    let n := d.reg0.rowBytes
    let t := if d.rloc 0 then 0 else reqCount d.reg0 0 (d.len0 * n)
    let u := t + (if d.rloc 1 then 0 else reqCount d.reg1 0 (4 * d.len0))
    let (idx, p) := indexList (sectorProg s c i q) c d q t u
    if p.st ≠ stOk then .next (runFinish p c i q (sectorEnd p.s c i q 0)) else
    let (rows, p) := if d.rloc 0 then localBytes p c d.reg0 0 (d.len0 * n) else (gotBytes q 0 t, p)
    let bad := (inOrder q).find? (fun x => decide (x.1 < t) && x.2.bad != 0)
    let bad := if rangeConflict p.s d.reg0 (d.rloc 0) 0 (d.len0 * n) then some stRangeConflict
      else bad.map (fun x => pieceStatus x.2.bad)
    let good := match bad with
      | none => d.len0
      | some st => if st = stRangeConflict then 0
        else (gotBytes q 0 (((inOrder q).find? (fun x => x.2.bad != 0)).map Prod.fst |>.getD 0)).length / max 1 n
    let p := if p.st = stOk then scatterRows c i rows (idx.take good) 0 p else p
    let p := { p with st := if p.st = stOk then bad.getD stOk else p.st }
    .next (runFinish p c i q (sectorEnd p.s c i q (ceilDiv (p.moved * 16) 32))))

/-! ## PREFETCH and INVAL (R234, R236) -/

/-- PREFETCH (R234, R238). Its requests allocated and filled their entries as they were delivered. -/
def execPrefetch (c : Core) (s : State) : Host.Outcome State Fault Refusal :=
  runOp c rnPrefetch s (fun i q =>
    let bad := (inOrder q).find? (fun x => x.2.bad != 0)
    let p : RProg := { s := s, moved := (q.got.filter (fun x => x.2.bad == 0)).length,
                       st := (bad.map (fun x => pieceStatus x.2.bad)).getD stOk }
    .next (runFinish p c i q (moveEnd s c i q p.moved)))

/-- INVAL (R236). The entries of region 0's source tiles go. -/
def execInval (c : Core) (s : State) : Host.Outcome State Fault Refusal :=
  runOp c rnInval s (fun i q =>
    let d := i.desc
    let dev := if d.reg0.type = 3 then s.fld SPR.RDEV_DEST c d.reg0.dev + d.reg0.rtype * 2 ^ 17 else 0
    let s1 := (List.range d.len0).foldl (fun s j => invalidate s d.reg0.type dev (d.reg0.addr (j * 16384) / 16384)) s
    .next (runFinish { s := s1, moved := d.len0 } c i q (runEndCk s1 c i q 0 0 0)))

end Sys2Proof.Machine
end

