-- ==== Sys2Proof/Machine/Link.lean ====
section
/-!
DEFINITION. Machine/Link.lean: chapter 12: flits and packets (R285, R286), sequence numbers, acknowledgement and replay
(R288–R291), encryption frames (R299–R301), credits and arbitration (R302–R306), lanes (R292–R294), port states (R295,
R296), a port that leaves service (R298) and quench sets (R307).
-/
namespace Sys2Proof.Machine

open Sys2Proof

/-! ## Ports -/

/-- R295: the codes of `STATE.PORT`. -/
def ptOff : Nat := 0
def ptEmpty : Nat := 1
def ptTraining : Nat := 2
def ptUp : Nat := 3
def ptActive : Nat := 4
def ptRetraining : Nat := 5
def ptFailed : Nat := 6
def ptPeerQuenched : Nat := 7

/-- The state of a port. -/
def State.port' (s : State) (p : Nat) : Nat := s.fld AVL.STATE_PORT p

/-- A port beyond its registers. -/
def State.link (s : State) (p : Nat) : PortLink := s.ports.toList.getD p {}

/-- Element `i` of a vector of four, and it set. -/
def vget {α : Type} (d : α) (v : Vector α 4) (i : Nat) : α := v.toList.getD i d
def vset {α : Type} (v : Vector α 4) (i : Nat) (x : α) : Vector α 4 := v.mapIdx (fun j y => if j = i then x else y)

/-- R302: the receive buffer of each class, in flits, which is also the credit a trained transmitter starts with. -/
def tcBuffer : Nat → Nat | 0 => 64 | 1 => 1536 | 2 => 1536 | _ => 1024

/-! ## Flits and packets (R285, R286) -/

/-- R285: the flit kinds. -/
def fkIdle : Nat := 0x0
def fkHead : Nat := 0x1
def fkBody : Nat := 0x2
def fkTag : Nat := 0x3
def fkCtrl : Nat := 0x4
def fkTrain : Nat := 0xC
def fkQuench : Nat := 0xF

/-- R285: bytes 0x00–0x0B of a flit. -/
def Flit.header (f : Flit) : List Byte :=
  leBytes 4 (f.seq % 2 ^ 24 + f.kind % 16 * 2 ^ 24 + f.tc % 4 * 2 ^ 28 + b2n f.key * 2 ^ 30) ++
  leBytes 4 (f.ack % 2 ^ 24 + b2n f.ackValid * 2 ^ 24 + b2n f.nak * 2 ^ 25) ++
  (List.range 4).map (fun i => BitVec.ofNat 8 (f.cred.getD i 0))

/-- R285: the 256 bytes of a flit, its `LCRC` last. -/
def Flit.bytes (f : Flit) : List Byte :=
  let b := f.header ++ slice f.payload 0 240
  b ++ leBytes 4 (crc32 b)

/-- R285: a received flit taken apart, and whether its `LCRC` is good. -/
def Flit.parse (b : List Byte) : Flit × Bool :=
  let w0 := fieldAt b 0 4
  let w1 := fieldAt b 4 4
  ({ seq := bits w0 0 24, kind := bits w0 24 4, tc := bits w0 28 2, key := bit w0 30,
     ack := bits w1 0 24, ackValid := bit w1 24, nak := bit w1 25,
     cred := (List.range 4).map (fun i => fieldAt b (8 + i) 1), payload := slice b 12 240 },
   fieldAt b 252 4 == crc32 (slice b 0 252))

/-- R286: the packet header. -/
def Packet.header (m : Packet) : List Byte :=
  leBytes 4 (m.dest % 2 ^ 17 + b2n m.dhost * 2 ^ 17) ++ leBytes 4 (m.src % 2 ^ 17 + b2n m.shost * 2 ^ 17) ++
  leBytes 4 (m.len % 128 + m.mkind % 256 * 2 ^ 8 + m.fstamp % 2 ^ 16 * 2 ^ 16) ++ leBytes 4 m.word

/-- R286: a packet from its class and the payload bytes of its flits. -/
def Packet.parse (tc : Nat) (b : List Byte) : Packet :=
  let d := fieldAt b 0 4
  let r := fieldAt b 4 4
  let w := fieldAt b 8 4
  { tc := tc, dest := bits d 0 17, dhost := bit d 17, src := bits r 0 17, shost := bit r 17, len := bits w 0 7,
    mkind := bits w 8 8, fstamp := bits w 16 16, word := fieldAt b 12 4, body := b.drop 16 }

/-- R286: the flits of a packet. -/
def packetFlits (m : Packet) (pk : Nat) (own : Bool) (ahead : Nat) (half : Option Bool) : List QFlit :=
  let b := m.header ++ m.body
  (List.range m.len).map (fun i =>
    { kind := if i = 0 then fkHead else fkBody, tc := m.tc, payload := slice b (240 * i) 240, pk := pk, own := own,
      mkind := m.mkind, tag := m.word % 2 ^ 16, ahead := ahead + i, half := half })

/-- A packet enters the transmit queue of its class at a port, to use a half of the receive buffer (R318); `TC0_QMAX` keeps
the deepest TC0 queue. -/
def enqueue (s : State) (p : Nat) (m : Packet) (own : Bool) (half : Option Bool := none) : State :=
  let q := vget [] (s.link p).q m.tc
  let fs := packetFlits m s.pkNo own q.length half
  let s := modLink { s with pkNo := s.pkNo + 1 } p (fun l => { l with q := vset l.q m.tc (q ++ fs) })
  if m.tc = 0 then s.setReg AVL.TC0_QMAX (max (s.reg AVL.TC0_QMAX p) (min 255 (q.length + fs.length))) p else s

/-! ## Requests that fail (R298, R314) -/

/-- A remote request of this device ends with `REMOTE_FAIL` (R247); one of the Steward with a result code. -/
def failRemote (s : State) (r : RemReq) (code : Nat) : State :=
  let s := { s with remote := s.remote.erase r }
  if 4 ≤ r.core then { s with stwRsp := s.stwRsp ++ [(r.seq, code, [])] }
  else if r.write then pumpWrites 64 (touchFin (failFin s r.core r.seq stRemoteFail) r.core r.seq s.ck) r.core
  else
    match (s.run r.core).flight.find? (fun f => f.eng == r.eng && f.seq == r.seq && f.req == r.req && !f.done) with
    | some f => deliverRead s r.core f { payload := zeros r.req.len, side := if r.req.tile then zeros 2048 else [], bad := 4 } none
    | none => s

/-- The remote request with a tag. -/
def findRemote (s : State) (tag : Nat) : Option RemReq := s.remote.find? (fun r => r.tag == tag)

/-! ## Leaving service (R298, R433) -/

/-- Numbers without repeats. -/
def uniq (l : List Nat) : List Nat := l.foldl (fun a x => if a.contains x then a else a ++ [x]) []

/-- PORT_DOWN (R298): packets in reassembly are discarded; unacknowledged packets of this device fail, others are lost;
replay buffer, credits and keys are cleared. -/
def portDown (s : State) (p : Nat) : State :=
  let l := s.link p
  let fs := l.replay.map RFlit.src ++ l.q.toList.flatten
  let mine := (uniq ((fs.filter (fun f => f.own && (f.mkind == 0x01 || f.mkind == 0x03))).map QFlit.tag))
  let lost := (uniq ((fs.filter (fun f => !f.own && (f.kind == fkHead || f.kind == fkBody))).map QFlit.pk)).length
  let s := eraseKeys (modLink s p (fun l => { ex := l.ex, reEqCk := l.reEqCk })) p
  let s := s.bump AVL.LOST_PKTS lost p
  mine.foldl (fun s t => match findRemote s t with
    | some r => failRemote s r 0xFF
    | none => s) s

/-- The port is in service, or is being retrained out of it. -/
def inService (s : State) (p : Nat) : Bool :=
  s.port' p == ptUp || s.port' p == ptActive || s.port' p == ptRetraining

/-- The port was `ACTIVE` before any retraining. -/
def wasActive (s : State) (p : Nat) : Bool :=
  s.port' p == ptActive || (s.port' p == ptRetraining && (s.link p).prev == ptActive)

/-- A port leaves service for another state; source 6 when it was `ACTIVE`. -/
def leavePort (s : State) (p new : Nat) : State :=
  let act := wasActive s p
  let s := if inService s p then portDown s p else s
  let s := s.setFld AVL.STATE_PORT new p
  if act && new != ptPeerQuenched then raise .avl p 6 s else s

/-- R291, R294, R296: a short retraining starts; a lane replacement in progress is abandoned (R308). -/
def startRetrain (s : State) (p : Nat) : State :=
  if s.port' p = ptUp ∨ s.port' p = ptActive then
    let s := modLink s p (fun l => { l with prev := s.port' p, rxRep := none, txRep := none })
    raise .avl p 5 ((s.setFld AVL.STATE_PORT ptRetraining p).bump AVL.RETRAINS 1 p)
  else s

/-- R289: a protocol error. -/
def protoError (s : State) (p : Nat) : State := startRetrain (s.bump AVL.PROTO_ERR 1 p) p

/-! ## Encryption frames (R299–R301) -/

/-- R299: a direction's traffic is encrypted. -/
def encOn (s : State) (p : Nat) : Bool := s.flag AVL.STATE_ENC_ON p

/-- R300: the IV of a frame whose first flit has number `seq`. -/
def gcmIv (seq wraps salt : Nat) : Nat := seq % 2 ^ 24 + wraps % 2 ^ 32 * 2 ^ 24 + salt % 2 ^ 40 * 2 ^ 56

/-- R299: the payloads of a frame that are encrypted, in order. -/
def frameData (fs : List Flit) : List Byte :=
  (fs.filter (fun f => f.kind == fkHead || f.kind == fkBody)).flatMap (fun f => slice f.payload 0 240)

/-- R299: what a frame authenticates without encrypting: the header of every sequenced flit and the whole of each `CTRL`
flit. -/
def frameAuth (fs : List Flit) : List Byte :=
  fs.flatMap (fun f => if f.kind = fkCtrl then f.header ++ slice f.payload 0 240 else f.header)

/-- R299: bytes encrypted or decrypted with the key stream of a frame from its byte `off`. -/
def gcmXor (key iv off : Nat) (b : List Byte) : List Byte :=
  xorBytes b ((gcmStream (leBytes 32 key) (leBytes 12 iv) (off + b.length)).drop off)

/-- The tag of a frame. -/
def gcmFrameTag (key iv : Nat) (fs : List Flit) : Nat :=
  leNat (gcmTag (leBytes 32 key) (leBytes 12 iv) (frameAuth fs) (frameData fs))

/-! ## Transmission (R288, R290, R303) -/

/-- The header fields every flit carries: the latest acknowledgement, a `NAK` that is due, and credits to return. -/
def stampFlit (s : State) (p : Nat) (f : Flit) : Flit × State :=
  let l := s.link p
  let cr := l.ret.toList.map (fun n => min n 255)
  let f := { f with ack := (l.exp + 2 ^ 24 - 1) % 2 ^ 24, ackValid := true, nak := l.nakDue, cred := cr }
  (f, modLink s p (fun l => { l with nakDue := false, ret := l.ret.map (fun n => n - min n 255) }))

/-- A flit is driven on the port. -/
def drive (s : State) (p : Nat) (f : Flit) : State :=
  (modLink s p (fun l => { l with tx := some f })).wrapAdd AVL.TX_FLITS 1 p

/-- R301: at a frame's start the transmitter switches to a newer key in the unused slot. -/
def keySwitch (s : State) (p : Nat) : State :=
  let l := s.link p
  if l.frm = [] ∧ l.newKey then
    let s := modLink s p (fun l => { l with newKey := false, eraseAt := some (2 ^ 24) })
    ((s.setFld AVL.KEY_STATE_TX_SLOT (1 - s.fld AVL.KEY_STATE_TX_SLOT p) p).setReg AVL.TX_WRAPS 0 p).setFld
      AVL.KEY_STATE_KEY_AGE 0 p
  else s

/-- The transmit key and salt in use. -/
def txKey (s : State) (p : Nat) : Nat × Nat := vget (0, 0) (s.link p).keys (s.fld AVL.KEY_STATE_TX_SLOT p)

/-- R288: a sequenced flit is numbered, encrypted where the direction is, kept in the replay buffer and driven. -/
def sendSeq (s : State) (p : Nat) (q : QFlit) : State :=
  let enc := encOn s p
  let s := if enc then keySwitch s p else s
  let l := s.link p
  let (f, s) := stampFlit s p { seq := l.seq, kind := q.kind, tc := q.tc, payload := slice q.payload 0 240,
                                key := enc && s.fld AVL.KEY_STATE_TX_SLOT p == 1 }
  let first := (l.frm.map Flit.seq).headD l.seq
  let wraps := s.reg AVL.TX_WRAPS p - (if l.seq < first then 1 else 0)
  let (key, salt) := txKey s p
  let iv := gcmIv first wraps salt
  let f := if enc ∧ (q.kind = fkHead ∨ q.kind = fkBody) then
      { f with payload := gcmXor key iv (frameData l.frm).length f.payload } else f
  let f := if q.kind = fkTag then { f with payload := slice (leBytes 16 (gcmFrameTag key iv l.frm)) 0 240 } else f
  let frm := if !enc || q.kind == fkTag then [] else l.frm ++ [f]
  let closed := enc && decide (q.kind ≠ fkTag) && (decide (15 ≤ frm.length) || (q.tc == 0 && q.kind != fkCtrl))
  let next := (l.seq + 1) % 2 ^ 24
  let s := if next = 0 then s.setReg AVL.TX_WRAPS (min (2 ^ 32 - 1) (s.reg AVL.TX_WRAPS p + 1)) p else s
  let s := modLink s p (fun l => { l with
    seq := next, replay := l.replay ++ [{ flit := f, src := q }], frm := frm, tagDue := closed,
    progCk := if l.replay.isEmpty then s.ck else l.progCk,
    eraseAt := if q.kind = fkTag ∧ l.eraseAt = some (2 ^ 24) then some f.seq else l.eraseAt })
  drive s p f

/-- R296, R433: the port may send `HEAD` and `BODY` flits of a class: every class while `ACTIVE`; while `UP`, TC0 link
management, and the recovery reads of R461 that have been queued there; with `ENC_EN` only under a valid transmit key. -/
def mayCarry (s : State) (p c : Nat) : Bool :=
  (s.port' p == ptActive || (s.port' p == ptUp && (c == 0 || c == 2))) && (!s.flag AVL.CTRL_ENC_EN p || encOn s p)

/-- R318: the half of a receive buffer has room for a flit. -/
def halfRoom (l : PortLink) (c : Nat) (h : Option Bool) : Bool :=
  h.isNone || decide (((vget [] l.halves c).filter (· == h)).length < tcBuffer c / 2)

/-- R286, R318: the class's queue as it is sent from: between packets, a packet whose half is full lets the first packet of the
other half go before it. -/
def sendQueue (l : PortLink) (c : Nat) : List QFlit :=
  let q := vget [] l.q c
  match q with
  | [] => []
  | f :: _ =>
    if halfRoom l c f.half || f.kind != fkHead then q
    else match q.find? (fun g => halfRoom l c g.half) with
    | none => q
    | some g => q.filter (fun x => x.pk == g.pk) ++ q.filter (fun x => x.pk != g.pk)

/-- R302, R318: a flit of the class waits and may be sent. -/
def canSend (s : State) (p c : Nat) : Bool :=
  let l := s.link p
  (sendQueue l c).head?.any (fun f => halfRoom l c f.half) && decide (0 < vget 0 l.credit c) && mayCarry s p c

/-- R303: the weight of a class in the round robin. -/
def tcWeight (s : State) (p c : Nat) : Nat := if c = 0 then 1 else bits (s.reg AVL.TC_WEIGHT p) (8 * (c - 1)) 8

/-- R303: the class the weighted round robin serves, and its state after. -/
def wrrPick (s : State) (p : Nat) : Option (Nat × (Nat × Nat)) :=
  let (c0, left) := (s.link p).wrr
  if 0 < left ∧ canSend s p c0 then some (c0, (c0, left - 1))
  else ((List.range 4).map (fun k => (c0 + 1 + k) % 4)).findSome? (fun c =>
    if canSend s p c && decide (0 < tcWeight s p c) then some (c, (c, tcWeight s p c - 1)) else none)

/-- A flit of a class is sent; a TC0 flit sent outside the bound's conditions counts, and raises source 9 (R306). -/
def sendClass (s : State) (p c : Nat) (share : Bool) : State :=
  match sendQueue (s.link p) c with
  | [] => s
  | f :: fs =>
    let s := modLink s p (fun l => { l with
      q := vset l.q c fs, credit := vset l.credit c (vget 0 l.credit c - 1),
      halves := vset l.halves c (vget [] l.halves c ++ [f.half]),
      share := if c = 0 then l.share - 1 else l.share })
    let s := sendSeq s p f
    if c = 0 ∧ (¬ share ∨ 8 < f.ahead) then raise .avl p 9 (s.bump AVL.TC0_UNBOUNDED 1 p) else s

/-- R395: the payload of the quench set this device sends. -/
def quenchPayload (s : State) : List Byte :=
  leBytes 4 (s.self + s.reg STW.Q_CAUSE % 16 * 2 ^ 17) ++ leBytes 4 (s.reg STW.Q_COUNT) ++ leBytes 8 (s.reg STW.Q_NONCE) ++
    leBytes 6 (s.reg STW.Q_FRAME) ++ zeros 218

/-- FLIT_TRANSMIT (R303, R307, R399). At a flit boundary the next flit is chosen: a quench set; a flit due for replay; a
`TAG` or `CTRL` flit; TC0 within its share; the weighted round robin; and `IDLE`. A port in `PEER_QUENCHED` sends only a
`QUENCH_EXIT`, unsequenced. -/
def execFlitTransmit (p : Port) (s : State) : Host.Outcome State Fault Refusal :=
  let st := s.port' p
  if s.quenched then
    if st = ptOff ∨ st = ptEmpty ∨ st = ptFailed then .next s
    else .next (drive s p { kind := fkQuench, payload := quenchPayload s })
  else if st = ptPeerQuenched then
    match vget [] (s.link p).q 0 with
    | [] => .next s
    | f :: fs =>
      .next (drive (modLink s p (fun l => { l with q := vset l.q 0 fs })) p { kind := f.kind, payload := f.payload })
  else if !s.pageOn .avl p || (st != ptUp && st != ptActive) then .next s
  else
    let s := modLink s p (fun l =>
      if 15 ≤ l.slots then { l with slots := 0, share := min 16 (l.share + 1) } else { l with slots := l.slots + 1 })
    let l := s.link p
    match l.rp.bind (fun i => l.replay[i]?.map (fun r => (i, r))) with
    | some (i, r) =>
      if s.fld AVL.CTRL_REPLAY_MAX p ≤ r.sends then .next (startRetrain s p)
      else
        let s := modLink s p (fun l => { l with
          replay := setNth l.replay i { r with sends := r.sends + 1 },
          rp := if i + 1 < l.replay.length then some (i + 1) else none })
        .next (drive s p r.flit)
    | none =>
      let full := decide (4096 ≤ l.replay.length)
      if !full && l.tagDue then .next (sendSeq s p { kind := fkTag, tc := 0, payload := [] })
      else match (if full then [] else l.ctrl) with
      | b :: bs => .next (sendSeq (modLink s p (fun l => { l with ctrl := bs })) p { kind := fkCtrl, tc := 0, payload := b })
      | [] =>
        if !full && decide (1 ≤ l.share) && canSend s p 0 then .next (sendClass s p 0 true)
        else match (if full then none else wrrPick s p) with
        | some (c, w) => .next (sendClass (modLink s p (fun l => { l with wrr := w })) p c false)
        | none =>
          if !full && !l.frm.isEmpty then .next (sendSeq s p { kind := fkTag, tc := 0, payload := [] })
          else
            let (f, s) := stampFlit s p { kind := fkIdle, payload := zeros 240 }
            .next (drive s p f)

/-! ## Reception (R287, R289, R301) -/

/-- R289: a `NAK` for the expected number is sent, unless one is outstanding. -/
def askNak (s : State) (p : Nat) : State :=
  modLink s p (fun l => if l.nakCk.isSome then l else { l with nakDue := true, nakCk := some s.ck })

/-- R288, R302: what any good flit brings: acknowledgements, credits, and a request for replay. -/
def takeAck (s : State) (p : Nat) (f : Flit) : State :=
  let l := s.link p
  let k := if f.ackValid then
      match findIdx' (fun (r : RFlit) => r.flit.seq == f.ack) l.replay 0 with
      | some (i, _) => i + 1
      | none => 0
    else 0
  let erased := l.eraseAt.any (fun n => (l.replay.take k).any (fun r => r.flit.seq == n))
  let s := modLink s p (fun l => { l with
    replay := l.replay.drop k,
    rp := l.rp.bind (fun i => if k < l.replay.length then some (i - k) else none),
    progCk := if 0 < k then s.ck else l.progCk,
    nakIn := l.nakIn || f.nak,
    credit := Vector.ofFn (fun (i : Fin 4) => min (tcBuffer i) (vget 0 l.credit i + f.cred.getD i 0)),
    halves := Vector.ofFn (fun (i : Fin 4) => (vget [] l.halves i).drop (f.cred.getD i 0)),
    eraseAt := if erased then none else l.eraseAt })
  if erased then
    let old := 1 - s.fld AVL.KEY_STATE_TX_SLOT p
    let s := modLink s p (fun l => { l with keys := vset l.keys old (0, 0) })
    s.setFld (if old = 0 then AVL.KEY_STATE_TX0 else AVL.KEY_STATE_TX1) 0 p
  else s

/-- R312: messages a device that is their destination only takes off the link: `EVENT`, `UNREACH`, `QUENCH_NOTE`. -/
def sinkKind (k : Nat) : Bool := k == 0x15 || k == 0x16 || k == 0x17

/-- The buffer of a consumed packet returns its credits (R302). -/
def freeFlits (s : State) (p : Nat) (m : Packet) : State :=
  if p < 24 then modLink s p (fun l => { l with ret := vset l.ret m.tc (vget 0 l.ret m.tc + m.len) }) else s

/-- A packet has arrived whole. -/
def landPacket (s : State) (p : Nat) (m : Packet) : State :=
  if sinkKind m.mkind && !m.dhost && m.dest == s.self && s.flag ROUT.SELF_VALID then freeFlits s p m
  else { s with inbox := s.inbox ++ [(p, m)] }

/-- R286: a `HEAD` or `BODY` flit joins the packet of its class. -/
def takeData (s : State) (p : Nat) (f : Flit) : State :=
  let l := s.link p
  if f.kind = fkHead then
    let n := fieldAt f.payload 8 1 % 128
    if (vget none l.asm f.tc).isSome || n == 0 || decide (80 < n) then protoError s p
    else if n = 1 then landPacket s p (Packet.parse f.tc f.payload)
    else modLink s p (fun l => { l with asm := vset l.asm f.tc (some (f.payload, n - 1)) })
  else match vget none l.asm f.tc with
  | none => protoError s p
  | some (b, n) =>
    if n ≤ 1 then landPacket (modLink s p (fun l => { l with asm := vset l.asm f.tc none })) p (Packet.parse f.tc (b ++ f.payload))
    else modLink s p (fun l => { l with asm := vset l.asm f.tc (some (b ++ f.payload, n - 1)) })

/-- R431: a `CTRL` flit is one fragment of a link message: its type, its index and whether it is the last. -/
def takeCtrl (s : State) (p : Nat) (f : Flit) : State :=
  let h := fieldAt f.payload 0 4
  modLink s p (fun l =>
    let b := (if bits h 8 8 = 0 then [] else l.frag) ++ slice f.payload 4 232
    if bit h 16 then { l with frag := [], msgs := l.msgs ++ [(bits h 0 8, b)] } else { l with frag := b })

/-- An accepted flit is delivered. -/
def deliverFlit (s : State) (p : Nat) (f : Flit) : State :=
  if f.kind = fkCtrl then takeCtrl s p f
  else if f.kind = fkHead ∨ f.kind = fkBody then takeData s p f
  else s

/-- R301: the frame that a `TAG` closes is verified: its flits are decrypted and delivered, or it is discarded with a `NAK`
for its first flit; a frame that fails twice fails the port. The first frame under another slot's key starts its count of
wraps. -/
def closeFrame (s : State) (p : Nat) (tag : Flit) : State :=
  let l := s.link p
  let slot := b2n tag.key
  let (key, salt) := vget (0, 0) l.keys (2 + slot)
  let fs := l.rfrm
  let first := (fs.map Flit.seq).headD tag.seq
  let wrapped := b2n (decide (l.exp < first))
  let before := if slot = l.rxSlot then l.rxWraps - wrapped else 0
  let iv := gcmIv first before salt
  let inj := s.armed AVL.INJ_AUTH p
  let s := if inj then s.disarm AVL.INJ_AUTH p else s
  let s := modLink s p (fun l => { l with rfrm := [] })
  if !inj && fieldAt tag.payload 0 16 == gcmFrameTag key iv fs then
    let s := modLink s p (fun l => { l with rfail := none, rxSlot := slot, rxWraps := before + wrapped })
    (fs.foldl (fun (x : State × Nat) f =>
      if f.kind = fkHead ∨ f.kind = fkBody then
        (deliverFlit x.1 p { f with payload := gcmXor key iv x.2 (slice f.payload 0 240) }, x.2 + 240)
      else (deliverFlit x.1 p f, x.2)) (s, 0)).1
  else if l.rfail = some first then
    let s := s.bump AVL.AUTH_FAIL 1 p
    leavePort (raise .avl p 8 s) p ptFailed
  else
    askNak (modLink s p (fun l => { l with exp := first, rfail := some first, nakCk := none, rxWraps := l.rxWraps - wrapped })) p

/-- R289: a good sequenced flit is accepted, discarded with a `NAK`, taken as a duplicate, or a protocol error. -/
def takeSeq (s : State) (p : Nat) (f : Flit) : State :=
  let l := s.link p
  let d := (f.seq + 2 ^ 24 - l.exp) % 2 ^ 24
  if d = 0 then
    let s := modLink s p (fun l => { l with
      exp := (l.exp + 1) % 2 ^ 24, nakCk := none, nakDue := false,
      rxWraps := if l.exp + 1 = 2 ^ 24 then l.rxWraps + 1 else l.rxWraps })
    if encOn s p then
      if f.kind = fkTag then closeFrame s p f else modLink s p (fun l => { l with rfrm := l.rfrm ++ [f] })
    else if f.kind = fkTag then protoError s p
    else deliverFlit s p f
  else if d ≤ 4095 then askNak s p
  else if 2 ^ 24 - 4096 ≤ d then s
  else protoError s p

/-- R396: this device has not yet noted a quench of device `dev` with count `n`. -/
def isNoted (s : State) (dev n : Nat) : Bool := s.noted.contains (dev, n)

/-- R307, R396: a good quench set: the port enters `PEER_QUENCHED`, and the event host is told once for each quenched device
and count. -/
def takeQuenchSet (s : State) (p : Nat) (dev cause count nonce frame : Nat) : State :=
  if s.port' p = ptPeerQuenched then s
  else
    let s := raise .avl p 7 (leavePort s p ptPeerQuenched)
    if s.flag ROUT.EVT_HOST_EN && !isNoted s dev count then
      sendMsg { s with noted := s.noted ++ [(dev, count)] } 0 0x17 (s.fld ROUT.EVT_HOST_HOST) true (dev + cause * 2 ^ 17)
        (leBytes 4 count ++ leBytes 8 nonce ++ leBytes 6 frame ++ leBytes 1 p)
    else s

/-- R399: what a quenched device takes from a port: a packet of kind `QUENCH_EXIT` whose flits check good. -/
def takeInQuench (s : State) (p : Nat) (f : Flit) : State :=
  if f.kind = fkHead then
    let n := fieldAt f.payload 8 1 % 128
    if fieldAt f.payload 9 1 ≠ 0x18 ∨ n ≠ 3 then s
    else modLink s p (fun l => { l with asm := vset l.asm 0 (some (f.payload, 2)) })
  else if f.kind = fkBody then
    match vget none (s.link p).asm 0 with
    | none => s
    | some (b, n) =>
      if n ≤ 1 then
        let s := modLink s p (fun l => { l with asm := vset l.asm 0 none })
        { s with inbox := s.inbox ++ [(p, Packet.parse 0 (b ++ f.payload))] }
      else modLink s p (fun l => { l with asm := vset l.asm 0 (some (b ++ f.payload, n - 1)) })
  else s

/-- FLIT_RECEIVE (R287, R289, R301, R302). The 256 bytes of a flit arrive; `uncorr` says that it overlaps an uncorrectable
codeword. -/
def execFlitReceive (p : Port) (raw : BitVec 2048) (uncorr : Bool) (s : State) : Host.Outcome State Fault Refusal :=
  let (f, good) := Flit.parse (leBytes 256 raw.toNat)
  let st := s.port' p
  if s.quenched then .next (if good && !uncorr then takeInQuench s p f else s)
  else if !s.pageOn .avl p || !(st == ptUp || st == ptActive) then .next s
  else
    let injU := s.armed AVL.INJ_UNCORR p
    let seqd := f.kind == fkHead || f.kind == fkBody || f.kind == fkTag || f.kind == fkCtrl
    let injL := s.armed AVL.INJ_LCRC p && seqd && !injU
    let s := if injU then s.disarm AVL.INJ_UNCORR p else if injL then s.disarm AVL.INJ_LCRC p else s
    if uncorr || injU then .next (askNak (s.bump AVL.FEC_UNCORR_CW 1 p) p)
    else if !good || injL then .next (askNak (s.bump AVL.CRC_ERR 1 p) p)
    else
      let s := s.wrapAdd AVL.RX_FLITS 1 p
      if f.kind = fkQuench then
        let b := f.payload
        .next (takeQuenchSet s p (fieldAt b 0 4 % 2 ^ 17) (bits (fieldAt b 0 4) 17 4) (fieldAt b 4 4) (fieldAt b 8 8)
          (fieldAt b 16 6))
      else if f.kind = fkTrain then .next s
      else if f.kind = fkIdle then .next (takeAck s p f)
      else if seqd then .next (takeSeq (takeAck s p f) p f)
      else .next (protoError s p)

/-- QUENCH_SET_RECEIVE (R307). A good quench set arrives at a port. -/
def execQuenchSetReceive (p : Port) (q : QSet) (s : State) : Host.Outcome State Fault Refusal :=
  if s.quenched || !s.pageOn .avl p || !inService s p then .next s
  else .next (takeQuenchSet s p q.dev.toNat q.cause.toNat q.count.toNat q.nonce.toNat q.frame.toNat)

/-! ## Replay and timeouts (R289–R291) -/

/-- LINK_REPLAY (R290). After a `NAK`, every unacknowledged flit is due again, in order; a word of the replay buffer may
read as corrected (1) or uncorrectable (2), which fails the port (R291). -/
def execLinkReplay (p : Port) (e : Fin 3) (s : State) : Host.Outcome State Fault Refusal :=
  let l := s.link p
  if !l.nakIn || !inService s p || s.quenched then .next s
  else
    let s := modLink s p (fun l => { l with nakIn := false })
    if e.val = 2 then .next (leavePort (raise .avl p 2 s) p ptFailed)
    else
      let s := if e.val = 1 then raise .avl p 1 s else s
      if l.replay.isEmpty then .next s
      else .next ((modLink s p (fun l => { l with rp := some 0 })).bump AVL.REPLAYS 1 p)

/-- NAK_TIMEOUT (R289). A `NAK` outstanding for 2 µs is sent again. -/
def execNakTimeout (p : Port) (s : State) : Host.Outcome State Fault Refusal :=
  match (s.link p).nakCk with
  | none => .next s
  | some t =>
    if !inService s p || s.quenched then .next s
    else
      let s := s.upTo (t + 2 * s.ckPerUs)
      .next (modLink s p (fun l => { l with nakDue := true, nakCk := some s.ck }))

/-- ACK_TIMEOUT (R291, R309). Unacknowledged flits have made no progress for `ACK_TIMEOUT`: common source 3, and the port
retrains. -/
def execAckTimeout (p : Port) (s : State) : Host.Outcome State Fault Refusal :=
  let l := s.link p
  if l.replay.isEmpty || !(s.port' p == ptUp || s.port' p == ptActive) || s.quenched then .next s
  else
    let s := s.upTo (l.progCk + ceilDiv (s.reg AVL.ACK_TIMEOUT p * s.ckPerUs) 10)
    .next (startRetrain (raise .avl p 3 s) p)

/-! ## Lanes (R292–R294) -/

/-- The physical lane of a logical lane in a lane map. -/
def lanePhys (m i : Nat) : Nat := bits m (3 * i) 3

/-- The physical lane that a map leaves out. -/
def laneSpare (m : Nat) : Nat := ((List.range 5).find? (fun x => (List.range 4).all (fun i => lanePhys m i != x))).getD 4

/-- R431: the payload of a one-flit link message (the lane messages' types are the model's, log entry 45). -/
def ctrlMsg (type : Nat) (b : List Byte) : List Byte := slice (leBytes 4 (type + 2 ^ 16) ++ b) 0 240
def ctLaneRequest : Nat := 0x01
def ctLaneSwitch : Nat := 0x02

/-- LANE_WINDOW (R292–R294). A window of 2^20 codewords ends: the corrected symbols of each physical receive lane and the
corrected codewords are shown; a lane over the threshold is replaced by the spare, or makes the port retrain. -/
def execLaneWindow (p : Port) (sym : List Nat) (corr : Nat) (s : State) : Host.Outcome State Fault Refusal :=
  if !(s.port' p == ptUp || s.port' p == ptActive) || s.quenched then .next s
  else
    let inj := s.armed AVL.INJ_LANE_BAD p
    let s := if inj then s.disarm AVL.INJ_LANE_BAD p else s
    let th := s.reg AVL.LANE_THRESH p
    let m := s.fld AVL.LANE_MAP_RX p
    let at' := fun (x : Nat) => if inj && x == lanePhys m 0 then max (sym.getD x 0) (th + 1) else sym.getD x 0
    let s := (List.range 5).foldl (fun s x => s.setReg AVL.LANE_SYM (min (2 ^ 32 - 1) (at' x)) p x) s
    let s := s.wrapAdd AVL.FEC_CORR_CW corr p
    let l := s.link p
    let excess := (List.range 4).filter (fun i => decide (th < at' (lanePhys m i)) && l.rxRep.map Prod.fst != some i)
    let used := s.flag AVL.STATE_SPARE_USED_RX p
    let standby := fun (s : State) =>
      if !used then s
      else if at' (laneSpare m) ≤ th then
        if 16 ≤ l.good + 1 then (modLink s p (fun l => { l with good := 0 })).setFld AVL.STATE_SPARE_USED_RX 0 p
        else modLink s p (fun l => { l with good := l.good + 1 })
      else modLink s p (fun l => { l with good := 0 })
    match excess with
    | [] => .next (standby s)
    | i :: more =>
      if used || l.rxRep.isSome || !more.isEmpty then .next (startRetrain s p)
      else if s.flag AVL.CTRL_AUTO_LANE p then
        .next (modLink s p (fun l => { l with
          rxRep := some (i, false), ctrl := l.ctrl ++ [ctrlMsg ctLaneRequest (leBytes 1 i)] }))
      else .next s

/-- The oldest link message of a type, taken. -/
def takeMsg (s : State) (p type : Nat) : Option (List Byte × State) :=
  ((s.link p).msgs.find? (fun m => m.1 == type)).map (fun m =>
    (m.2, modLink s p (fun l => { l with msgs := l.msgs.erase m })))

/-- LANE_REQUEST (R292). A lane request from the peer: its data is sent on the spare too, where the spare is free. -/
def execLaneRequest (p : Port) (s : State) : Host.Outcome State Fault Refusal :=
  match takeMsg s p ctLaneRequest with
  | none => .next s
  | some (b, s) =>
    if s.flag AVL.STATE_SPARE_USED_TX p then .next s
    else .next (modLink s p (fun l => { l with txRep := some (fieldAt b 0 1 % 4) }))

/-- SPARE_EQUALISATION_DONE (R292). The receiver has equalised the spare, and names a codeword for the switch. -/
def execSpareEqualisationDone (p : Port) (s : State) : Host.Outcome State Fault Refusal :=
  match (s.link p).rxRep with
  | some (i, false) =>
    let (n, s) := s.draw
    .next (modLink s p (fun l => { l with
      rxRep := some (i, true), ctrl := l.ctrl ++ [ctrlMsg ctLaneSwitch (leBytes 1 i ++ leBytes 8 n)] }))
  | _ => .next s

/-- LANE_SWITCH (R292). At the named codeword the lane moves to the spare: in the receive direction when this end asked for
it, else in the transmit direction when the peer named it. -/
def execLaneSwitch (p : Port) (s : State) : Host.Outcome State Fault Refusal :=
  match (s.link p).rxRep with
  | some (i, true) =>
    let m := s.fld AVL.LANE_MAP_RX p
    let s := s.setFld AVL.LANE_MAP_RX (setBits m (3 * i) 3 (laneSpare m)) p
    let s := (modLink s p (fun l => { l with rxRep := none, good := 0 })).setFld AVL.STATE_SPARE_USED_RX 1 p
    .next (jnlRetire (raise .avl p 4 (s.bump AVL.LANE_SWAPS 1 p)) 2 (8 * p + i))
  | _ =>
    match takeMsg s p ctLaneSwitch with
    | none => .next s
    | some (_, s) =>
      match (s.link p).txRep with
      | none => .next s
      | some i =>
        let m := s.fld AVL.LANE_MAP_TX p
        let s := s.setFld AVL.LANE_MAP_TX (setBits m (3 * i) 3 (laneSpare m)) p
        let s := (modLink s p (fun l => { l with txRep := none })).setFld AVL.STATE_SPARE_USED_TX 1 p
        .next (raise .avl p 4 (s.bump AVL.LANE_SWAPS 1 p))

/-- RE_EQ (R293). Every `RE_EQ_PERIOD` seconds an active lane is moved to the spare, re-equalised and moved back, which
leaves the map as it was; while the spare carries a replaced lane, that is skipped and counted. -/
def execReEq (p : Port) (s : State) : Host.Outcome State Fault Refusal :=
  let l := s.link p
  let per := s.reg AVL.RE_EQ_PERIOD p
  if !s.flag AVL.CTRL_RE_EQ_EN p || per == 0 || !(s.port' p == ptUp || s.port' p == ptActive) || s.quenched then .next s
  else
    let s := s.upTo (l.reEqCk + per * 1000000 * s.ckPerUs)
    let s := modLink s p (fun l => { l with reEqCk := s.ck })
    .next (if s.flag AVL.STATE_SPARE_USED_RX p || l.rxRep.isSome then s.bump AVL.RE_EQ_SKIPPED 1 p else s)

/-! ## Presence and training (R295, R296) -/

/-- PRESENCE_ASSERT (R295, R296). A cable has been present for 10 ms: an enabled port starts full training. -/
def execPresenceAssert (p : Port) (s : State) : Host.Outcome State Fault Refusal :=
  if s.flag AVL.STATE_PRESENT p then .next s
  else
    let s := s.upTo (s.ck + 10000 * s.ckPerUs)
    let s := s.setFld AVL.STATE_PRESENT 1 p
    let s := if s.flag AVL.CTRL_EN p && s.pageOn .avl p && !s.quenched then s.setFld AVL.STATE_PORT ptTraining p else s
    .next (raise .avl p 11 s)

/-- PRESENCE_DEASSERT (R296). The cable is gone: the port goes to `EMPTY` at once. -/
def execPresenceDeassert (p : Port) (s : State) : Host.Outcome State Fault Refusal :=
  if !s.flag AVL.STATE_PRESENT p then .next s
  else
    let s := s.setFld AVL.STATE_PRESENT 0 p
    let d := s.fld STW.SVC_STATE_DRAIN
    let s := if d = 1 ∨ d = 2 then s.setFld STW.SVC_STATE_EARLY 1 else s
    let s := if s.flag AVL.CTRL_EN p then leavePort s p ptEmpty else s
    .next (raise .avl p 11 s)

/-- The lanes of a direction after training: the lowest four that pass, and whether a fifth is left as the spare. -/
def trainedMap (good : Nat) : Nat × Bool :=
  let ls := (List.range 5).filter (fun i => bit good i)
  (((ls.take 4).zipIdx).foldl (fun m (x, i) => m + x * 2 ^ (3 * i)) 0, decide (5 ≤ ls.length))

/-- R283: four of the five lanes of a direction pass. -/
def lanesOk (good : Nat) : Bool := decide (4 ≤ ((List.range 5).filter (fun i => bit good i)).length)

/-- A direction's lane map after training. -/
def setLanes (s : State) (p rx tx : Nat) : State :=
  let (a, fa) := trainedMap rx
  let (b, fb) := trainedMap tx
  let s := (s.setFld AVL.LANE_MAP_RX a p).setFld AVL.LANE_MAP_TX b p
  (s.setFld AVL.STATE_SPARE_USED_RX (b2n !fa) p).setFld AVL.STATE_SPARE_USED_TX (b2n !fb) p

/-- A freshly trained link: numbers from 0, and the credits of the peer's buffers. -/
def freshLink (s : State) (p : Nat) : State :=
  modLink s p (fun l => { ex := none, reEqCk := s.ck, progCk := s.ck, prev := l.prev, credit := Vector.ofFn (fun (i : Fin 4) => tcBuffer i) })

/-- TRAINING_COMPLETE (R296). Full training ends: with the peer's word of `PEER` and the lanes that pass in each direction
(`UP` if four of five do), or failed. -/
def execTrainingComplete (p : Port) (peer : Option (BitVec 23)) (rx tx : BitVec 5) (s : State) :
    Host.Outcome State Fault Refusal :=
  if s.port' p ≠ ptTraining ∨ s.quenched then .next s
  else
    let s := portDown s p
    match peer with
    | some w =>
      if lanesOk rx.toNat && lanesOk tx.toNat then
        let s := freshLink (setLanes s p rx.toNat tx.toNat) p
        .next ((s.setReg AVL.PEER (w.toNat + 2 ^ 23) p).setFld AVL.STATE_PORT ptUp p)
      else .next (s.setFld AVL.STATE_PORT ptFailed p)
    | none => .next (s.setFld AVL.STATE_PORT ptFailed p)

/-- AVL_CTRL_RETRAIN (R296). -/
def execAvlCtrlRetrain (p : Port) (s : State) : Host.Outcome State Fault Refusal :=
  if s.quenched then .next s else .next (startRetrain s p)

/-- SHORT_RETRAIN_COMPLETE (R296). A short retraining ends: with the same peer the port resumes and replays from the first
unacknowledged flit; with another it discards its state and is `UP`; failed, full training follows. -/
def execShortRetrainComplete (p : Port) (peer : Option (BitVec 23)) (rx tx : BitVec 5) (s : State) :
    Host.Outcome State Fault Refusal :=
  if s.port' p ≠ ptRetraining ∨ s.quenched then .next s
  else match peer with
  | none => .next (eraseKeys (s.setFld AVL.STATE_PORT ptTraining p) p)
  | some w =>
    if !(lanesOk rx.toNat && lanesOk tx.toNat) then .next (eraseKeys (s.setFld AVL.STATE_PORT ptTraining p) p)
    else if s.reg AVL.PEER p = w.toNat + 2 ^ 23 then
      let s := setLanes s p rx.toNat tx.toNat
      let s := modLink s p (fun l => { l with
        rp := if l.replay.isEmpty then none else some 0, progCk := s.ck, nakCk := none, nakDue := false, nakIn := false })
      .next (s.setFld AVL.STATE_PORT (s.link p).prev p)
    else
      let s := freshLink (setLanes (portDown s p) p rx.toNat tx.toNat) p
      .next ((s.setReg AVL.PEER (w.toNat + 2 ^ 23) p).setFld AVL.STATE_PORT ptUp p)

end Sys2Proof.Machine
end

