-- ==== Sys2Proof/Machine/Route.lean ====
section
/-!
DEFINITION. Machine/Route.lean: chapter 13 up to its collectives: which way a packet goes (R316–R322), ports entering
service (R320), and the messages of remote memory and tokens at their destination (R312–R315, R461).
-/
namespace Sys2Proof.Machine

open Sys2Proof

/-! ## The topology (R310, R316, R317) -/

/-- R310: the member, the flask and the torus coordinate along a dimension of a device. -/
def devMember (d : Nat) : Nat := d % 8
def devFlask (d : Nat) : Nat := d / 8 % 2 ^ 14
def dimLo : Nat → Nat | 0 => 0 | 1 => 3 | 2 => 6 | _ => 10
def dimW (k : Nat) : Nat := if k < 2 then 3 else 4
def devCoord (d k : Nat) : Nat := bits (devFlask d) (dimLo k) (dimW k)

/-- A device moved to another coordinate along a dimension. -/
def setCoord (d k v : Nat) : Nat := devMember d + setBits (devFlask d) (dimLo k) (dimW k) v * 8

/-- `ROUT.DIMS`: the size of a dimension. -/
def dimSize (s : State) : Nat → Nat
  | 0 => s.fld ROUT.DIMS_D0 | 1 => s.fld ROUT.DIMS_D1 | 2 => s.fld ROUT.DIMS_D2 | _ => s.fld ROUT.DIMS_D3

/-- R316: the low and the high dimension of a member's pair. -/
def lowDim (m : Nat) : Nat := m % 2
def highDim (m : Nat) : Nat := m % 2 + 2

/-- R317: one hop of a route: to a flask peer, or along a dimension in a sense (`true`: +). -/
inductive Hop where
  | peer (member : Nat)
  | torus (dim : Nat) (plus : Bool)
deriving DecidableEq, Repr

/-- R317: the sense of a step from coordinate `a` to `b` of a dimension of size `n`. -/
def stepPlus (n a b : Nat) : Bool := decide ((b + n - a % n) % n ≤ n / 2)

/-- R317: the next hop from device `cur` to device `dest`; `none` at the destination. -/
def nextHop (s : State) (cur dest : Nat) : Option Hop :=
  let m := devMember cur
  let off := fun k => devCoord cur k != devCoord dest k
  if off (lowDim m) then some (.torus (lowDim m) (stepPlus (dimSize s (lowDim m)) (devCoord cur (lowDim m)) (devCoord dest (lowDim m))))
  else if off (highDim m) then
    some (.torus (highDim m) (stepPlus (dimSize s (highDim m)) (devCoord cur (highDim m)) (devCoord dest (highDim m))))
  else if devFlask cur ≠ devFlask dest then
    some (.peer (if devMember dest % 2 ≠ m % 2 then devMember dest else m ^^^ 1))
  else if devMember dest ≠ m then some (.peer (devMember dest))
  else none

/-- The device a hop leads to. -/
def hopTo (s : State) (cur : Nat) : Hop → Nat
  | .peer j => devFlask cur * 8 + j
  | .torus k plus =>
    let n := max 1 (dimSize s k)
    setCoord cur k ((devCoord cur k + (if plus then 1 else n - 1)) % n)

/-- R321: the last device before `dest` on the route to it. -/
def lastBefore (s : State) : Nat → Nat → Nat → Option Nat
  | 0, _, _ => none
  | fuel + 1, cur, dest =>
    match nextHop s cur dest with
    | none => none
    | some h =>
      let n := hopTo s cur h
      if n = dest then some cur else lastBefore s fuel n dest

/-- R316: the ports of a hop from member `m`; the bridge member gives up its port 23 (R324). -/
def hopPorts (s : State) (m : Nat) (h : Hop) : List Nat :=
  let ps := match h with
    | .peer j => let k := if j < m then j else j - 1; [2 * k, 2 * k + 1]
    | .torus k plus =>
      if k = lowDim m then (if plus then [14, 15] else [16, 17]) else (if plus then [18, 19, 20] else [21, 22, 23])
  if s.flag ROUT.BRIDGE_EN && s.fld ROUT.BRIDGE_MEMBER == m then ps.filter (fun p => p != 23) else ps

/-- This device is the bridge of its flask. -/
def isBridge (s : State) : Bool := s.flag ROUT.BRIDGE_EN && s.fld ROUT.BRIDGE_MEMBER == devMember s.self

/-- R316, R320: the peer a port expects: a host (`none`) or a device. -/
def expectedPeer (s : State) (p : Nat) : Option Nat :=
  let m := devMember s.self
  if p = 23 ∧ isBridge s then none
  else if p < 14 then
    let k := p / 2
    some (devFlask s.self * 8 + (if k < m then k else k + 1))
  else
    let h : Hop := if p < 16 then .torus (lowDim m) true else if p < 18 then .torus (lowDim m) false
      else if p < 21 then .torus (highDim m) true else .torus (highDim m) false
    some (hopTo s s.self h)

/-- PORT_ACTIVATE (R320). At a tick an enabled, trained port whose peer is the expected one enters `ACTIVE`; one whose peer
differs stays `UP` and is reported. -/
def execPortActivate (p : Port) (s : State) : Host.Outcome State Fault Refusal :=
  if s.port' p ≠ ptUp ∨ ¬ bit (s.reg ROUT.PORT_EN) p ∨ s.quenched ∨ ¬ s.flag ROUT.SELF_VALID then .next s
  else
    let host := s.flag AVL.PEER_HOST p
    let right := match expectedPeer s p with
      | none => host
      | some d => !host && s.fld AVL.PEER_ID p == d
    if right && s.flag AVL.PEER_VALID p then
      .next ((s.setFld AVL.STATE_PORT ptActive p).setReg ROUT.MISCABLED (setBits (s.reg ROUT.MISCABLED) p 1 0))
    else .next (raise .rout 0 5 (s.setReg ROUT.MISCABLED (setBits (s.reg ROUT.MISCABLED) p 1 1)))

/-! ## The way out (R317, R319, R322) -/

/-- R319: the exception entry that overrides the rule for a destination. -/
def exception (s : State) (dest : Nat) : Option Nat :=
  ((List.range 256).find? (fun e => s.flag ROUT.EXC_VALID 0 e &&
    (s.fld ROUT.EXC_MATCH 0 e &&& s.fld ROUT.EXC_MASK 0 e) == (dest &&& s.fld ROUT.EXC_MASK 0 e))).map
    (fun e => s.fld ROUT.EXC_PORT 0 e)

/-- The port may take a packet: it is `ACTIVE`; a `QUENCH_EXIT` also enters a port whose peer, its target, is quenched
(R399). -/
def takesPacket (s : State) (m : Packet) (dest p : Nat) : Bool :=
  s.port' p == ptActive || (m.mkind == 0x18 && s.port' p == ptPeerQuenched && s.fld AVL.PEER_ID p == dest)

/-- Where a packet goes from here. -/
inductive Way where
  /-- To a port. -/
  | out (p : Nat)
  /-- This device is its destination. -/
  | here
  /-- Its port group is lost (R319). -/
  | lost
  /-- It is for a host whose entry is not valid (R322). -/
  | noHost
deriving DecidableEq, Repr

/-- R317, R319: the way to a device. -/
def wayTo (s : State) (m : Packet) (dest : Nat) : Way :=
  match exception s dest with
  | some p => if takesPacket s m dest p then .out p else .lost
  | none =>
    match nextHop s s.self dest with
    | none => .here
    | some h =>
      let ps := (hopPorts s (devMember s.self) h).filter (takesPacket s m dest)
      match ps[dest % max 1 ps.length]? with
      | some p => .out p
      | none => .lost

/-- R322: the way of a packet. -/
def way (s : State) (m : Packet) : Way :=
  if m.dhost then
    let h := m.dest % 1024
    if !s.flag ROUT.HOSTS_VALID 0 h then .noHost
    else if s.fld ROUT.HOSTS_DEV 0 h = s.self then (if s.port' 23 = ptActive ∧ isBridge s then .out 23 else .lost)
    else wayTo s m (s.fld ROUT.HOSTS_DEV 0 h)
  else if m.dest = s.self then .here
  else wayTo s m m.dest

/-- R316: a port of the torus, with its dimension and sense. -/
def torusPort (s : State) (p : Nat) : Option (Nat × Bool) :=
  let m := devMember s.self
  if p < 14 ∨ 24 ≤ p ∨ (p = 23 ∧ isBridge s) then none
  else if p < 16 then some (lowDim m, true) else if p < 18 then some (lowDim m, false)
  else if p < 21 then some (highDim m, true) else some (highDim m, false)

/-- R318: the half a packet uses behind a port: on the torus the upper one from the dateline of its dimension on, where it began
at its source's coordinate, and for a packet that follows an exception. -/
def packetHalf (s : State) (p : Nat) (m : Packet) : Option Bool :=
  (torusPort s p).map (fun (k, plus) =>
    let dest := if m.dhost then s.fld ROUT.HOSTS_DEV 0 (m.dest % 1024) else m.dest
    let src := if m.shost then s.fld ROUT.HOSTS_DEV 0 (m.src % 1024) else m.src
    let a := devCoord src k
    let b := devCoord (hopTo s s.self (.torus k plus)) k
    (exception s dest).isSome || (if plus then decide (b < a) else decide (a < b)))

/-- R286: a message in answer to another, with the frame of the request. -/
def answerTo (s : State) (m : Packet) (tc mkind word : Nat) (body : List Byte) : Packet :=
  { tc := tc, mkind := mkind, dest := m.src, dhost := m.shost, src := s.self, len := flitsFor body.length,
    fstamp := m.fstamp, word := word, body := body }

/-- The answer to a message sent. -/
def reply (s : State) (m : Packet) (tc mkind word : Nat) (body : List Byte) : State :=
  { s with transit := s.transit ++ [answerTo s m tc mkind word body] }

/-- R313: an `ERR_RSP` with a code. -/
def errRsp (s : State) (m : Packet) (code : Nat) : State := reply s m 2 0x05 (m.word % 2 ^ 16 + code * 2 ^ 16) []

/-- UNREACH (R319): a packet whose port group is lost: a request is answered with code 3, anything else is counted; each
unreachable destination is reported once per frame to the source and the event host. -/
def dropUnreachable (s : State) (m : Packet) : State :=
  let s := raise .rout 0 4 s
  let s := if m.mkind = 0x01 ∨ m.mkind = 0x03 ∨ m.mkind = 0x06 ∨ m.mkind = 0x07 then errRsp s m 3 else s.bump ROUT.UNREACH_COUNT
  if s.unreach.contains m.dest then s
  else
    let s := { s with unreach := s.unreach ++ [m.dest] }
    let s := if m.src = s.self ∧ ¬ m.shost then s else sendMsg s 0 0x16 m.src m.shost m.dest (leBytes 4 s.self)
    if s.flag ROUT.EVT_HOST_EN then sendMsg s 0 0x16 (s.fld ROUT.EVT_HOST_HOST) true m.dest (leBytes 4 s.self) else s

/-- A packet moved on: to its port, or to this device, or dropped. -/
def moveOn (s : State) (m : Packet) (own : Bool) : State :=
  let inj := s.armed ROUT.INJ_UNREACH
  let s := if inj then s.disarm ROUT.INJ_UNREACH else s
  match (if inj then .lost else way s m) with
  | .out p => enqueue s p m own (packetHalf s p m)
  | .here => landPacket s 24 m
  | .lost => dropUnreachable s m
  | .noHost => s.bump ROUT.UNREACH_COUNT

/-- R304: the TC0 regulator brought up to date. -/
def tc0Fill (s : State) : State :=
  let (l, t) := s.tc0
  { s with tc0 := (min (s.fld AVL.TC0_REG_BURST * s.ckPerUs) (l + s.fld AVL.TC0_REG_RATE * (s.ck - t)), s.ck) }

/-- R304: the packet of this device that goes next: of those ready, the first that the TC0 regulator does not hold, else the
first, when the regulator lets it go. -/
def nextOwn (s : State) : Option (Packet × State) :=
  let s := tc0Fill s
  let u := s.ckPerUs
  let ready := s.transit.filter (fun m => decide (m.notBefore ≤ s.ck))
  let fits := fun (m : Packet) => m.tc != 0 || decide (m.len * u ≤ s.tc0.1)
  let go := fun (s : State) (m : Packet) =>
    let s := { s with transit := s.transit.erase m }
    (m, if m.tc = 0 then { s with tc0 := (s.tc0.1 - m.len * u, s.tc0.2) } else s)
  match ready.find? fits with
  | some m => some (go s m)
  | none =>
    match ready with
    | [] => none
    | m :: _ =>
      if s.fld AVL.TC0_REG_RATE = 0 ∨ s.fld AVL.TC0_REG_BURST < m.len then none
      else
        let s := s.bump AVL.TC0_HELD
        some (go (tc0Fill (s.upTo (s.ck + ceilDiv (m.len * u - s.tc0.1) (s.fld AVL.TC0_REG_RATE)))) m)

/-- R258: the services of open timing that come before an answer to a memory request is ready. -/
def settleAnswers : Nat → State → State
  | 0, s => s
  | n + 1, s =>
    if s.locked || !s.acc.hq.any (fun q => q.answer.isSome) then s
    else match nextService s with
    | none => s
    | some (pc, x, h) =>
      if s.transit.any (fun m => decide (m.notBefore ≤ ckOfHk s h)) then s else settleAnswers n (serveOpen s pc x h)

/-- When the first packet of this device is ready. -/
def firstReady (s : State) : Option Nat := (s.transit.map Packet.notBefore).min?

/-- A packet is for this device. -/
def forMe (s : State) (m : Packet) : Bool := !m.dhost && m.dest == s.self

/-- PACKET_ROUTE (R317). The next packet of this device that is ready, or else the oldest received packet for another
destination, moves on; with none of either the block waits for the answer to a memory request that is ready first. -/
def execPacketRoute (s : State) : Host.Outcome State Fault Refusal :=
  if s.quenched then .next s
  else match nextOwn s with
  | some (m, s) => .next (moveOn s m true)
  | none =>
    match s.inbox.find? (fun x => !forMe s x.2 && s.port' x.1 == ptActive) with
    | some (p, m) => .next (moveOn (freeFlits { s with inbox := s.inbox.erase (p, m) } p m) m false)
    | none =>
      let s' := settleAnswers (hbmLeft s) s
      match (firstReady s').bind (fun t => nextOwn (s'.upTo t)) with
      | some (m, s) => .next (moveOn s m true)
      | none => .next s

/-! ## Messages taken (R312) -/

/-- R312: the class of a message kind, where it is listed. -/
def kindClass (k : Nat) : Option Nat :=
  if 0x01 ≤ k ∧ k ≤ 0x08 then some 2
  else if 0x10 ≤ k ∧ k ≤ 0x18 then some 0
  else if k = 0x20 then some 1 else if k = 0x21 then some 0 else if k = 0x30 then some 3 else none

/-- The oldest message of a kind for this device, taken off its port with its credits returned. -/
def takeKind (s : State) (k : Nat) : Option (Nat × Packet × State) :=
  (s.inbox.find? (fun x => x.2.mkind == k && forMe s x.2 && kindClass k == some x.2.tc)).map (fun x =>
    (x.1, x.2, freeFlits { s with inbox := s.inbox.erase x } x.1 x.2))

/-- R218: a stamped arrival in locked timing, in a later frame than its stamp's, is late. -/
def lateCheck (s : State) (fstamp : Nat) : State :=
  if s.locked then
    let inj := s.armed PWR.FRM_INJ_LATE
    let s := if inj then s.disarm PWR.FRM_INJ_LATE else s
    if inj || fstamp % 2 ^ 16 != s.frame % 2 ^ 16 then raise .pwr 0 17 (s.bump PWR.LATE_COUNT) else s
  else s

/-- BAD_MSG (R312). A packet for this device whose kind is not listed, or whose class differs, is dropped. -/
def execBadMsg (s : State) : Host.Outcome State Fault Refusal :=
  match s.inbox.find? (fun x => forMe s x.2 && kindClass x.2.mkind != some x.2.tc) with
  | some (p, m) => .next (raise .rout 0 7 ((freeFlits { s with inbox := s.inbox.erase (p, m) } p m).bump ROUT.BAD_MSG))
  | none => .next s

/-- TOKEN (R180). A token message signals a counter of a core: at once in open timing, at the next tick in locked timing. -/
def execToken (s : State) : Host.Outcome State Fault Refusal :=
  if s.quenched then .next s
  else match takeKind s 0x10 with
  | none => .next s
  | some (_, m, s) =>
    let s := lateCheck s m.fstamp
    let c := bits m.word 12 2
    let t := bits m.word 0 12
    .next (outside s (.signal c t) (fun s => applySignal s c t s.ck))

/-! ## Remote memory at its target (R313, R461) -/

/-- The fields of a request. -/
def rqRtype (m : Packet) : Nat := bits m.word 16 2
def rqTile (m : Packet) : Bool := bit m.word 18
def rqAddr (m : Packet) : Nat := fieldAt m.body 0 6
def rqLen (m : Packet) : Nat := fieldAt m.body 6 4
def rqData (m : Packet) : List Byte := slice m.body 10 (rqLen m)

/-- R313: the access lies in the memory of its type, and a tile of HBM in the tile window. -/
def rqInside (s : State) (rt : Nat) (tile : Bool) (a n : Nat) : Bool :=
  let size := if rt = 0 then 2 ^ 31 else if rt = 1 then 864000000000 else 0
  if tile then decide (a % 16384 = 0 ∧ a + 16384 ≤ size) && (rt != 1 || decide (a / 16384 < s.reg HBM.TILEWIN))
  else decide (a + n ≤ size)

/-- R313: a read's shape: a tile, or 32 to 2,048 bytes of sectors within one tile. -/
def rdShape (tile : Bool) (a n : Nat) : Bool :=
  if tile then true
  else decide (32 ≤ n ∧ n ≤ 2048 ∧ a % 32 = 0 ∧ n % 32 = 0) && a / 16384 == (a + n - 1) / 16384

/-- The data of a read of this device's memory. -/
def serveRead (s : State) (rt : Nat) (tile : Bool) (a n : Nat) : List Byte × State :=
  let pl : Place := if rt = 0 then .tun else .hbm
  if tile then let (p, d, _, s) := readTile s pl (a / 16384); (p ++ d, s)
  else let (b, _, s) := readChunk s pl a n; (b, s)

/-- R461: a recovery read on an `UP` port: the reply goes back on the port of arrival. -/
def serveRecovery (s : State) (p : Nat) (m : Packet) : State :=
  let win := s.reg STW.RECOV_WIN
  let base := bits win 0 48
  let n := if rqTile m then 18432 else rqLen m
  let ok := bit win 50 && decide (rqAddr m + n ≤ s.reg STW.RECOV_LEN)
  let mk := fun (k word : Nat) (body : List Byte) =>
    ({ tc := 2, mkind := k, dest := m.src, dhost := m.shost, src := s.self, len := flitsFor body.length, fstamp := m.fstamp,
       word := word, body := body } : Packet)
  if ok then
    let pl : Place := if bits win 48 2 = 0 then .tun else .hbm
    let (b, _, s) := readChunks s pl (({ base := base + rqAddr m, rowBytes := n, rows := 1 } : Region).chunks (n + 1) 0 n)
    enqueue s p (mk 0x02 (m.word % 2 ^ 16) b) true
  else enqueue s p (mk 0x05 (m.word % 2 ^ 16 + 2 * 2 ^ 16) []) true

/-- The fabric as an owner of traffic (R20): the ports of a casting reach its memories without a crossing (log entry 106). -/
def fabricOwner (p : Nat) : Owner := { o := 4, cast := if 12 ≤ p ∧ p < 24 then 1 else 0 }

/-- RD_REQ (R313). -/
def execRdReq (s : State) : Host.Outcome State Fault Refusal :=
  if s.quenched then .next s
  else match takeKind s 0x01 with
  | none => .next s
  | some (p, m, s) =>
    if p < 24 ∧ s.port' p = ptUp then .next (serveRecovery s p m)
    else
      let rt := rqRtype m
      let n := rqLen m
      let tile := rqTile m
      if rqInside s rt tile (rqAddr m) n && rdShape tile (rqAddr m) n then
        let (b, s) := serveRead s rt tile (rqAddr m) n
        .next (otherAccess s (fabricOwner p) (if rt = 0 then .tun else .hbm) false tile (rqAddr m) (if tile then 16384 else n) s.ck
          (some (answerTo s m 2 0x02 (m.word % 2 ^ 16) b)))
      else .next (errRsp s m 1)

/-- R232: bytes of the Tundish lie in the landing zone. -/
def inLanding (s : State) (a n : Nat) : Bool :=
  n == 0 || ((quota s 4).has (a / 16384) && (quota s 4).has ((a + n - 1) / 16384))

/-- WR (R313, R232). A write is checked and carried out, or refused whole. -/
def execWr (s : State) : Host.Outcome State Fault Refusal :=
  if s.quenched then .next s
  else match takeKind s 0x03 with
  | none => .next s
  | some (p, m, s) =>
    let s := lateCheck s m.fstamp
    let rt := rqRtype m
    let a := rqAddr m
    let n := if rqTile m then 16384 else rqLen m
    let d := rqData m
    if !rqInside s rt (rqTile m) a n || decide (18432 < rqLen m) then .next (errRsp s m 1)
    else if rt = 0 ∧ ¬ inLanding s a n then .next (errRsp (raise .tun 0 8 (s.bump TUN.LAND_REFUSED)) m 2)
    else
      let pl : Place := if rt = 0 then .tun else .hbm
      let s := if rqTile m then writeTile s pl (a / 16384) (slice d 0 16384) (slice d 16384 2048)
        else writeChunks s pl (({ base := a, rowBytes := n, rows := 1 } : Region).chunks (n + 1) 0 n) d
      .next (otherAccess s (fabricOwner p) pl true (rqTile m) a n s.ck (some (answerTo s m 2 0x04 (m.word % 2 ^ 16) [])))

/-! ## Responses (R314, R315) -/

/-- The request that a response from a device answers. -/
def answered (s : State) (m : Packet) (write : Bool) : Option RemReq :=
  s.remote.find? (fun r => r.tag == m.word % 2 ^ 16 && r.dest == m.src && !m.shost && r.write == write)

/-- A response for which no request waits (R314). -/
def lateRsp (s : State) : State := s.bump ROUT.LATE_RSP

/-- An injected error takes the place of the next remote response of a core (`RUN.INJ.REMOTE_ERR`). -/
def injRemote (s : State) (r : RemReq) : Bool × State :=
  if r.core < 4 ∧ s.armed RUN.INJ_REMOTE_ERR r.core then (true, s.disarm RUN.INJ_REMOTE_ERR r.core) else (false, s)

/-- RD_RSP (R314). The response completes its request and frees its slot; a late one is dropped. -/
def execRdRsp (s : State) : Host.Outcome State Fault Refusal :=
  match takeKind s 0x02 with
  | none => .next s
  | some (_, m, s) =>
    match answered s m false with
    | none => .next (lateRsp s)
    | some r =>
      let (inj, s) := injRemote (lateCheck s m.fstamp) r
      if inj then .next (failRemote s r 0xFE)
      else
        let s := { s with remote := s.remote.erase r }
        if 4 ≤ r.core then .next { s with stwRsp := s.stwRsp ++ [(r.seq, 0, slice m.body (r.req.addr % 32) r.req.len)] }
        else match (s.run r.core).flight.find? (fun f => f.eng == r.eng && f.seq == r.seq && f.req == r.req && !f.done) with
        | none => .next s
        | some f =>
          let a := if r.req.tile then r.req.addr else r.req.addr / 32 * 32
          let pc : Piece := if r.req.tile then
              { payload := slice m.body 0 16384, side := slice m.body 16384 2048, bad := 0 }
            else { payload := slice m.body (r.req.addr - a) r.req.len, side := [], bad := 0 }
          .next (grantSlots (deliverRead s r.core f pc none) r.core)

/-- WR_ACK (R315). The write is acknowledged; the descriptor's remote signals may follow once its last write is. -/
def execWrAck (s : State) : Host.Outcome State Fault Refusal :=
  match takeKind s 0x04 with
  | none => .next s
  | some (_, m, s) =>
    match answered s m true with
    | none => .next (lateRsp s)
    | some r =>
      let (inj, s) := injRemote s r
      if inj then .next (failRemote s r 0xFE)
      else
        let s := { s with remote := s.remote.erase r }
        if 4 ≤ r.core then .next { s with stwRsp := s.stwRsp ++ [(r.seq, 0, [])] }
        else .next (grantSlots (pumpWrites 64 (touchFin s r.core r.seq s.ck) r.core) r.core)

/-- ERR_RSP (R313). The request completes with `REMOTE_FAIL`. -/
def execErrRsp (s : State) : Host.Outcome State Fault Refusal :=
  match takeKind s 0x05 with
  | none => .next s
  | some (_, m, s) =>
    match s.remote.find? (fun r => r.tag == m.word % 2 ^ 16) with
    | none => .next (lateRsp s)
    | some r =>
      let (_, s) := injRemote s r
      .next (failRemote s r (bits m.word 16 8))

/-- REG_RSP (R325). A register response reaches the Steward, whose request it answers. -/
def execRegRsp (s : State) : Host.Outcome State Fault Refusal :=
  match takeKind s 0x08 with
  | none => .next s
  | some (_, m, s) =>
    match s.remote.find? (fun r => r.tag == m.word % 2 ^ 16 && decide (4 ≤ r.core)) with
    | none => .next (lateRsp s)
    | some r => .next { s with remote := s.remote.erase r, stwRsp := s.stwRsp ++ [(r.seq, bits m.word 16 8, slice m.body 0 8)] }

/-- The request that times out first. -/
def firstDeadline : List RemReq → Option RemReq
  | [] => none
  | r :: rs => match firstDeadline rs with
    | none => some r
    | some q => if q.deadline < r.deadline then some q else some r

/-- E2E_TIMEOUT (R314). A request without a response ends with `REMOTE_FAIL`. -/
def execE2eTimeout (s : State) : Host.Outcome State Fault Refusal :=
  match firstDeadline s.remote with
  | none => .next s
  | some r => .next (failRemote (raise .rout 0 6 ((s.upTo r.deadline).bump ROUT.E2E_LOST)) r 0xFD)

end Sys2Proof.Machine
end

