-- ==== Sys2Proof/Machine/Ingot.lean ====
section
/-!
DEFINITION. Machine/Ingot.lean: the Ingot Store's own events: page reads and their retries (R266, R269), page programs
(R270, R276), retired blocks, garbage collection and wear levelling (R273, R274), retired and failed targets (R277,
R278), and the patrol (R279).
-/
namespace Sys2Proof.Machine

open Sys2Proof

/-! ## Moving and retiring (R273, R274, R277) -/

/-- Valid pages rewritten to fresh pages, each with its map update; a page that no retry decodes moves as it reads. -/
def relocate (s : State) (keys : List Nat) : State :=
  keys.foldl (fun s k =>
    let area := k / 2 ^ 40
    let tile := k % 2 ^ 40
    let dead := (mapped s area tile).any (fun p => s.ing.dead.contains p)
    match programOwn s area tile with
    | none => s
    | some s =>
      if dead then { s with ing := { s.ing with dead := ((mapped s area tile).toList ++ s.ing.dead) } } else s) s

/-- R274: usable space below the area sizes' need is shown, and raises source 9 when it comes about. -/
def spaceCheck (s : State) : State :=
  if spaceShort s (usablePages s) && !s.flag ING.STATE_SPACE_LOW then raise .ing 0 9 (s.setFld ING.STATE_SPACE_LOW 1) else s

/-- R274, R275: a block is retired: its valid pages are rewritten, source 6 is raised, and the budget is recomputed. -/
def retireBlk (s : State) (k : Nat) : State :=
  let s := setFblk s k { fblk s k with st := 3 }
  let s := relocate s (blkTiles s k)
  let s := jnlRetire (raise .ing 0 6 (s.bump ING.RETIRED_BLOCKS)) 4 k
  spaceCheck (wbRecompute s)

/-- R273, R274: a block is erased: its P/E count rises and it is free, or it is retired when the erase fails or the count
reaches twice the rated endurance. -/
def eraseBlk (s : State) (k : Nat) (fails : Bool) : State :=
  let pe := min 16777215 ((fblk s k).pe + 1)
  let s := s.wrapAdd INGCH.ERASES 1 (blkTgt k / 4)
  let s := s.setReg ING.PE_MAX (max (s.reg ING.PE_MAX) pe)
  let s := setFblk s k { pe := pe, used := 0, st := 0 }
  let s := { s with ing := { s.ing with dead := s.ing.dead.filter (fun p => pageBlk p != k) } }
  if fails || decide (2 * s.reg ING.PE_RATED ≤ pe) then retireBlk s k else s

/-- R273: the block with the fewest valid pages, ties to the lower P/E count, then to the lower number. -/
def fewestValid (s : State) : List Nat → Option Nat
  | [] => none
  | k :: ks =>
    match fewestValid s ks with
    | none => some k
    | some j =>
      let a := (blkTiles s k).length
      let b := (blkTiles s j).length
      if b < a ∨ (b = a ∧ (fblk s j).pe < (fblk s k).pe) then some j else some k

/-- The Ingot Store may start a flash operation (R280). -/
def ingRuns (s : State) : Bool := s.pageOn .ing && !s.quenched

/-- GARBAGE_COLLECT (R273). When a target's free blocks are below `GC_LOW` per cent of its blocks, the full block with the
fewest valid pages is collected: they are rewritten, and it is erased (`fails`: its erase fails). -/
def execGarbageCollect (tg : Fin 64) (fails : Bool) (s : State) : Host.Outcome State Fault Refusal :=
  if ingRuns s && tgtUsable s tg && decide ((blksIn s tg 0).length * 100 < s.fld ING.CTRL_GC_LOW * tgtBlocks s tg) then
    match fewestValid s (blksIn s tg 2) with
    | some k => .next (eraseBlk (relocate s (blkTiles s k)) k fails)
    | none => .next s
  else .next s

/-- WEAR_LEVEL (R273). When the highest P/E count of a target exceeds the lowest of its blocks that hold data by more than
`WL_SPREAD`, that block's data is moved and the block is erased. -/
def execWearLevel (tg : Fin 64) (fails : Bool) (s : State) : Host.Outcome State Fault Refusal :=
  let full := (blksIn s tg 2).filter (fun k => !(blkTiles s k).isEmpty)
  match lowestPe s full with
  | some k =>
    let top := (tgtKeys s tg).foldl (fun n j => max n (fblk s j).pe) 0
    if ingRuns s && tgtUsable s tg && decide ((fblk s k).pe + s.fld INGCH.CH_CTRL_WL_SPREAD (tg / 4) < top) then
      .next (eraseBlk (relocate s (blkTiles s k)) k fails)
    else .next s
  | none => .next s

/-! ## Reads (R266, R269) -/

/-- R266: a page of channel `ch` is read; `r` is how many retries each of its four codewords needs. The greatest number
of retries made, whether the read failed, and the counts and sources that follow. -/
def decodePage (s : State) (ch : Nat) (dead : Bool) (r : List Nat) : Nat × Bool × State :=
  let lim := s.fld ING.CTRL_RETRY_MAX
  let once := s.armed ING.INJ_RETRY
  let never := s.armed ING.INJ_READ_FAIL
  let s := if never then s.disarm ING.INJ_READ_FAIL else if once then s.disarm ING.INJ_RETRY else s
  let r := (List.range 4).map (fun i => r.getD i 0)
  let r := if never || dead then setNth r 0 (lim + 1) else if once then setNth r 0 (max 1 (r.getD 0 0)) else r
  let s := s.wrapAdd INGCH.RD_PAGES 1 ch
  let s := r.foldl (fun s n =>
    if lim < n then raise .ingch ch 2 (s.bump INGCH.CW_FAILED 1 ch)
    else if 0 < n then raise .ingch ch 1 (s.bump INGCH.CW_RETRIED 1 ch) else s) s
  let top := min lim (r.foldl max 0)
  let fail := r.any (fun n => decide (lim < n))
  let s := if r.any (fun n => decide (0 < n)) then s.bump ING.RETRY_READS else s
  (top, fail, if fail then s.bump ING.READ_FAILS else s)

/-- R266: a page that decoded only after `RELOC_AT` or more retries is rewritten, exempt from the budget. -/
def relocRead (s : State) (area tile retries : Nat) : State :=
  if s.fld ING.CTRL_RELOC_AT ≠ 0 ∧ s.fld ING.CTRL_RELOC_AT ≤ retries then relocate s [mapKey area tile] else s

/-- The piece of a tile's data that a request delivers: the whole tile with its sidecar, or its bytes. -/
def cutPiece (r : Req) (pl sd : List Byte) (bad : Nat) : Piece :=
  if r.tile then { payload := pl, side := sd, bad := bad }
  else { payload := slice pl (r.addr % 16384) r.len, side := [], bad := bad }

/-- R234, R237: the place of the data of an Ingot read in user 5's range: in staging mode the lowest free tile, for which it
waits; in the other modes it needs none. -/
def stagePlace (s : State) : Option (Option Nat) :=
  if (quota s 5).mode = 3 then (stageFree s).map some else some none

/-- INGOT_READ_COMPLETE (R269). The oldest Ingot read of core `c` finishes decoding; `r` says how many retries each codeword
needed. Its data is staged and delivered, or reported failed. -/
def execIngotReadComplete (c : Core) (r : List Nat) (s : State) : Host.Outcome State Fault Refusal :=
  match (s.run c).flight.find? (fun f =>
    f.req.kind == 2 && f.due.isNone && !f.done && (f.cached.isNone || f.fills)) with
  | none => .next s
  | some f =>
    if !s.pageOn .ing || s.quenched then .next s else
    match stagePlace s with
    | none => .next s
    | some place =>
      let tile := f.req.addr / 16384
      let (hit, s) := mapAccess s 0 tile
      let us := fun (n : Nat) => n * s.ckPerUs
      let put := fun (cast : Nat) (s : State) (t : Nat) (pl sd : List Byte) (bad : Nat) =>
        let s := s.upTo t
        let s := match place with
          | some x =>
            otherAccess (stageTileFor s (stageOwner c f.eng f.seq) x pl sd) { o := 5, cast := cast } .tun true true (x * 16384)
              16384 s.ck none
          | none => s
        deliverRead (lateCheck s f.frame) c f (cutPiece f.req pl sd bad) place
      let (page, pl, sd) := f.old.getD
        (mapped s 0 tile, readBytes s.ing.bytes (tile * 16384) 16384, readBytes s.ing.side (tile * 2048) 2048)
      match page with
      | none => .next (put 0 (s.bump ING.UNMAPPED_READS) (f.arr + us 14) (zeros 16384) (zeros 2048) 0)
      | some p =>
        let tg := pageTgt p
        let base := f.arr + us (tgtTR s tg + 14 + (if hit then 0 else tgtTR s tg + 8))
        if tgtFailed s tg || s.fld INGCH.CH_STATE_STATE (tg / 4) == 3 then .next (put (tg / 32) s base pl sd 3)
        else
          let (n, fail, s) := decodePage s (tg / 4) (s.ing.dead.contains p) r
          let s := if fail || f.old.isSome then s else relocRead s 0 tile n
          .next (put (tg / 32) s (base + us (n * (tgtTR s tg + 7))) pl sd (if fail then 3 else 0))

/-- PATROL_READ (R279). The patrol reads a valid page, at most one of a channel in a ms, and decodes it with retries; a page that fails keeps its mapping, and
its data is lost. -/
def execPatrolRead (area : Fin 7) (tile : Nat) (r : List Nat) (s : State) : Host.Outcome State Fault Refusal :=
  match mapped s area tile with
  | none => .next s
  | some p =>
    if s.flag ING.CTRL_PATROL_EN && ingRuns s && !tgtFailed s (pageTgt p) then
      let ch := pageTgt p / 4
      let s := s.upTo (sget 0 s.ing.patrols ch + 1000 * s.ckPerUs)
      let s := { s with ing := { s.ing with patrols := sset 0 s.ing.patrols ch s.ck } }
      let (n, fail, s) := decodePage s ch (s.ing.dead.contains p) r
      if fail then .next { s with ing := { s.ing with dead := if s.ing.dead.contains p then s.ing.dead else p :: s.ing.dead } }
      else .next (relocRead s area tile n)
    else .next s

/-! ## Programs (R270, R276) -/

/-- R276: the writes the budget holds: those to areas 0 and 1 that a Runner, the Riser export or a bulk copy makes. -/
def budgeted (w : IngWrite) : Bool := decide (w.area ≤ 1)

/-- R276: a write waits for the budget; the first wait raises source 7. -/
def holdWrite (s : State) : State :=
  let s := { s with ing := { s.ing with held := true } }
  if s.flag ING.STATE_WB_HELD then s else raise .ing 0 7 (s.setFld ING.STATE_WB_HELD 1)

/-- R276: the write budget's word on a write: in the Endurance profile it holds one while the bucket is at or below 0. -/
def budgetHolds (s : State) (w : IngWrite) : Bool × State :=
  if !budgeted w then (false, s)
  else
    let inj := s.armed ING.INJ_WB_EMPTY
    let s := if inj then s.disarm ING.INJ_WB_EMPTY else s
    if inj || decide (bucket s ≤ 0) then
      if s.endurance then (true, holdWrite s) else (false, { s with ing := { s.ing with held := true } })
    else (false, s.setFld ING.STATE_WB_HELD 0)

/-- INGOT_PROGRAM_START (R270). The oldest write that has not started takes a page, once user 5's range has room for it and
the write budget allows it. -/
def execIngotProgramStart (s : State) : Host.Outcome State Fault Refusal :=
  match s.ing.writes.find? (fun w => w.page.isNone) with
  | none => .next s
  | some w =>
    if !ingRuns s || (decide (w.core < 4) && (stagePlace s).isNone) then .next s
    else
      let (held, s) := budgetHolds s w
      if held then .next s
      else match (nextTarget s).bind (takePage s) with
        | none => .next s
        | some (p, s) =>
          let w' := { w with page := some p, startCk := s.ck }
          .next { s with ing := { s.ing with writes := s.ing.writes.map (fun x => if x = w then w' else x) } }

/-- R270, R271: a tile's write is complete: its map update is entered and its contents are those the write carries. -/
def landWrite (s : State) (w : IngWrite) (p : Nat) : State :=
  let s := if w.area = 0 then keepOld s w.tile else s
  let s := setMap s w.area w.tile p
  let s := { s with ing := { s.ing with dead := s.ing.dead.filter (fun x => x != p) } }
  let s := if w.area = 0 then invalidate (setIngTile s w.tile w.payload w.side) 2 0 w.tile else s
  let s := { s with ing := { s.ing with writes := s.ing.writes.erase w } }
  if w.core < 4 then
    let s := touchFin s w.core w.seq s.ck
    if s.locked ∧ ¬ s.ing.writes.any (fun x => x.core == w.core && x.seq == w.seq) then
      { s with ext := s.ext ++ [.written w.core w.seq] }
    else s
  else s

/-- INGOT_PROGRAM_COMPLETE (R270, R274). The oldest program ends, tPROG after it started. One that fails retires its block,
and the write is programmed into another page. A program in flight at a quench completes (R280). -/
def execIngotProgramComplete (fails : Bool) (s : State) : Host.Outcome State Fault Refusal :=
  match s.ing.writes.find? (fun w => w.page.isSome) with
  | none => .next s
  | some w =>
    let p := w.page.getD 0
    let s := s.upTo (w.startCk + tgtTProg s (pageTgt p) * s.ckPerUs)
    let inj := s.armed ING.INJ_PROG_FAIL
    let s := if inj then s.disarm ING.INJ_PROG_FAIL else s
    if fails || inj || tgtFailed s (pageTgt p) then
      let again := { w with page := none, startCk := 0 }
      let s := { s with ing := { s.ing with writes := s.ing.writes.map (fun x => if x = w then again else x) } }
      if tgtFailed s (pageTgt p) then .next s
      else
        let s := retireBlk s (pageBlk p)
        match (if s.quenched then none else (nextTarget s).bind (takePage s)) with
        | none => .next s
        | some (p, s) =>
          .next { s with ing := { s.ing with writes := s.ing.writes.map (fun x =>
            if x = again then { w with page := some p, startCk := s.ck } else x) } }
    else .next (landWrite s w p)

/-! ## The tail limit (R372) -/

/-- R372: the pages that the usable targets program at once, counting planes, and their largest tPROG in µs. -/
def planePages (s : State) : Nat :=
  (List.range 64).foldl (fun n tg =>
    if tgtUsable s tg then n + s.fld INGCH.TGT_GEOM_LUNS (tg / 4) (tg % 4) * s.fld INGCH.TGT_GEOM_PLANES (tg / 4) (tg % 4) else n) 0
def largestTProg (s : State) : Nat := (List.range 64).foldl (fun n tg => if tgtUsable s tg then max n (tgtTProg s tg) else n) 0

/-- R372: `JNL_TAIL_MAX` set from the usable targets. -/
def setTailMax (s : State) : State :=
  let t := largestTProg s
  s.setReg ING.JNL_TAIL_MAX (if t = 0 then 0 else min 6144 (planePages s * (5000 / t - 2)))

/-! ## Targets (R277, R278) -/

/-- RETIRE_REQ (R277). A target number with `GO` starts the retirement of the target, or is refused. -/
def execRetireReq (tg : Fin 64) (s : State) : Host.Outcome State Fault Refusal :=
  let s := s.setFld ING.RETIRE_REQ_TARGET tg
  let rest := usablePages s - ((tgtKeys s tg).filter (fun k => (fblk s k).st != 3)).length * s.ing.ppb
  if s.ing.retiring.isSome || !tgtUsable s tg || spaceShort s rest then
    .next (raise .ing 0 8 (s.setFld ING.RETIRE_REQ_REFUSED 1))
  else
    let s := { s with ing := { s.ing with retiring := some tg } }
    let s := (s.setFld ING.RETIRE_REQ_REFUSED 0).setFld ING.STATE_RETIRING 1
    .next (s.setReg ING.RETIRE_PROGRESS (tgtTiles s tg).length)

/-- TARGET_RETIRE_DONE (R277). Every valid page of the retiring target has been copied, exempt from the budget; the target
is fenced, shown as the one that may be replaced (R450), and source 8 is raised. -/
def execTargetRetireDone (s : State) : Host.Outcome State Fault Refusal :=
  match s.ing.retiring with
  | none => .next s
  | some tg =>
    if !ingRuns s then .next s
    else
      let s := relocate s (tgtTiles s tg)
      let left := (tgtTiles s tg).length
      let s := s.setReg ING.RETIRE_PROGRESS left
      if left ≠ 0 then .next s
      else
        let s := { s with ing := { s.ing with retiring := none } }
        let r := s.fld INGCH.CH_STATE_TGT_RETIRED (tg / 4)
        let s := s.setFld INGCH.CH_STATE_TGT_RETIRED (setBits r (tg % 4) 1 1) (tg / 4)
        let s := showRemove (s.setFld STW.SVC_TGT_TGT tg)
        .next (jnlRetire (setTailMax (raise .ing 0 8 (s.setFld ING.STATE_RETIRING 0))) 5 tg)

/-- R278: a target is failed: its pages are lost. -/
def failTarget (s : State) (tg : Nat) : State :=
  let ch := tg / 4
  let s := s.setFld INGCH.CH_STATE_TGT_FAILED (setBits (s.fld INGCH.CH_STATE_TGT_FAILED ch) (tg % 4) 1 1) ch
  let s := s.bump ING.LOST_TILES (tgtTiles s tg).length
  let s := if (tgtTiles s tg).any (fun k => k / 2 ^ 40 == 2) then { s with jnl := { s.jnl with snapDue := true } } else s
  let s := if s.ing.retiring = some tg then
      { s with ing := { s.ing with retiring := none } }.setFld ING.STATE_RETIRING 0 else s
  setTailMax (raise .ing 0 5 s)

/-- TARGET_COMMAND_TIMEOUT (R278). A target in service has not answered a command for 100 ms, or, with `zq`, has failed its
ZQ calibration twice. -/
def execTargetCommandTimeout (tg : Fin 64) (zq : Bool) (s : State) : Host.Outcome State Fault Refusal :=
  if tgtUsable s tg && s.pageState .ing = pgOn then
    let s := if zq then s else raise .ingch (tg / 4) 3 (s.upTo (s.ck + 100000 * s.ckPerUs))
    .next (failTarget s tg)
  else .next s

end Sys2Proof.Machine
end

