-- ==== Sys2Proof/Machine/Groups.lean ====
section
/-!
DEFINITION. Machine/Groups.lean: chapter 13: the group table's entries (R326), who holds which element of a collective's
vector, and the tree over member positions (R327).
-/
namespace Sys2Proof.Machine

open Sys2Proof

/-- R326: a group entry, its 64 bytes taken apart. -/
structure GEnt where
  valid : Bool
  kind : Nat
  op : Nat
  comb : Nat
  rfmt : Nat
  epoch : Nat
  n : Nat
  pos : Nat
  cores : Nat
  root : Nat
  mlist : Nat
  slist : Nat

/-- The fields of an entry's 512 bits. -/
def GEnt.parse (x : Nat) : GEnt :=
  { valid := bit x 0, kind := bits x 1 2, op := bits x 3 3, comb := bits x 6 2, rfmt := bits x 8 4,
    epoch := bits x 16 16, n := bits x 32 16, pos := bits x 48 16, cores := bits x 64 4, root := bits x 80 16,
    mlist := bits x 96 48, slist := bits x 144 48 }

/-- The active entry of a group. -/
def gent (s : State) (g : Nat) : GEnt := GEnt.parse (sget 0 s.col.grp g)

/-- R326: the operation of a group. -/
def groupOp (s : State) (g : Nat) : Nat := (gent s g).op

/-- A reserved code stands in an entry (log entry 46). -/
def GEnt.reserved (e : GEnt) : Bool :=
  !e.valid || e.kind == 3 || decide (5 < e.op) || e.comb == 3 || !(e.rfmt == 0 || e.rfmt == 14) || e.n == 0 ||
    decide (e.n ≤ e.pos)

/-- R326: the reduction format. -/
def GEnt.fmt (e : GEnt) : Fmt := if e.rfmt = 14 then .wa64 else .fp32

/-- R326: a 32-bit word of a list in the Tundish. -/
def listWord (s : State) (a j : Nat) : Nat := fieldAt (peek s .tun (a + 4 * j) 4) 0 4

/-- R326: the device of member `j`. -/
def GEnt.dev (s : State) (e : GEnt) (j : Nat) : Nat := listWord s e.mlist j % 2 ^ 17

/-- R326: the member position of a device. -/
def GEnt.posOf (s : State) (e : GEnt) (d : Nat) : Option Nat := (List.range e.n).find? (fun j => e.dev s j == d)

/-- R326: the shard lengths of the members; without an `SLIST` every one is `LEN0`. -/
def GEnt.lens (s : State) (e : GEnt) (len0 : Nat) : List Nat :=
  (List.range e.n).map (fun j => if e.slist = 0 then len0 else listWord s e.slist j)

/-- R326: where member `j`'s shard begins. -/
def shardOff (ls : List Nat) (j : Nat) : Nat := (ls.take j).foldl (· + ·) 0

/-- R326: the length of the vector of a collective. -/
def GEnt.vec (e : GEnt) (ls : List Nat) : Nat :=
  if e.op = 0 ∨ e.op = 4 then ls.foldl max 0
  else if e.op = 3 then ls.getD e.root 0
  else shardOff ls ls.length

/-- R326: member `j` has a value for element `x`: in a reduce-scatter it contributes the whole vector, in a broadcast only
the root contributes. -/
def GEnt.present (e : GEnt) (ls : List Nat) (j x : Nat) : Bool :=
  if e.op = 0 ∨ e.op = 4 then decide (x < ls.getD j 0)
  else if e.op = 1 then decide (x < e.vec ls)
  else if e.op = 3 then j == e.root && decide (x < e.vec ls)
  else decide (shardOff ls j ≤ x ∧ x < shardOff ls j + ls.getD j 0)

/-- R326: the elements region 0 holds: what this device contributes. -/
def GEnt.inputs (e : GEnt) (ls : List Nat) : Nat :=
  if e.op = 5 then 0
  else if e.op = 1 then e.vec ls
  else if e.op = 3 then (if e.pos = e.root then e.vec ls else 0)
  else ls.getD e.pos 0

/-- R326: the elements of the vector that region 2 receives: first and count. -/
def GEnt.outputs (e : GEnt) (ls : List Nat) : Nat × Nat :=
  if e.op = 1 then (shardOff ls e.pos, ls.getD e.pos 0)
  else if e.op = 5 ∨ (e.op = 4 ∧ e.pos ≠ e.root) then (0, 0)
  else (0, e.vec ls)

/-- The members that this device receives partials from, each with the positions its partial covers (R327, R328): the
member before it in a chain, the right children in the tree of R155. -/
def GEnt.sources (e : GEnt) : List (Nat × Nat × Nat) :=
  if e.kind = 2 then
    (((List.range 15).map (fun j => 2 ^ j)).filter (fun w => e.pos % (2 * w) == 0 && decide (e.pos + w < e.n))).map
      (fun w => (e.pos + w, e.pos + w, min e.n (e.pos + 2 * w)))
  else if e.pos = 0 then [] else [(e.pos - 1, 0, e.pos)]

/-- The tree parent of a position other than 0: its lowest set bit cleared. -/
def treeParent (p : Nat) : Nat := p - ((List.range 15).map (fun j => 2 ^ j)).foldl (fun a w => if a = 0 ∧ p % (2 * w) ≠ 0 then w else a) 0

/-- The last ⊕ of a collective is this member's. -/
def GEnt.top (e : GEnt) : Bool := if e.kind = 2 then e.pos == 0 else e.pos + 1 == e.n

/-- Where a member other than the top one sends its partials. -/
def GEnt.next (e : GEnt) : Nat := if e.kind = 2 then treeParent e.pos else e.pos + 1

/-- R328: whom a result chunk goes to from here: along the ring, down the tree, or straight to the root of a reduce. -/
def GEnt.down (e : GEnt) : List Nat :=
  if e.op = 4 then (if e.top && e.root != e.pos then [e.root] else [])
  else if e.kind = 2 then e.sources.map Prod.fst
  else
    let t := (e.pos + 1) % e.n
    if t + 1 = e.n ∨ t = e.pos then [] else [t]

/-- R328: whom this device receives results from. -/
def GEnt.upFrom (e : GEnt) : Option Nat :=
  if e.top then none
  else if e.op = 4 then (if e.root = e.pos then some (if e.kind = 2 then 0 else e.n - 1) else none)
  else if e.kind = 2 then some (treeParent e.pos)
  else some (if e.pos = 0 then e.n - 1 else e.pos - 1)

/-- R212–R214: `PORTABLE` with an order core count of 3: core 2 runs slices 2 and 3. -/
def portable3 (s : State) : Bool := s.flag SPR.ORDER_PORTABLE && !s.active 3

/-- The cores whose `COLL` a collective waits for (R326). -/
def collCores (e : GEnt) (c : Nat) : List Nat :=
  let named := (List.range 4).filter (fun k => bit e.cores k)
  if 1 < named.length then named else [c]

/-- R214: the partials that a core's input holds: core 2 has two where it runs slices 2 and 3, one after the other, each from a
whole tile (log entry 104). -/
def collSlices (s : State) (e : GEnt) (c : Nat) : Nat :=
  if portable3 s ∧ c = 2 ∧ 1 < (collCores e c).length then 2 else 1

/-- The tiles of region 0 that one partial takes. -/
def GEnt.inTiles (e : GEnt) (ls : List Nat) (d : Desc) : Nat := ceilDiv (e.inputs ls) (fmtOf d.fmt0).perTile

/-- The bytes of region 0 that a core's partials take. -/
def collInBytes (s : State) (e : GEnt) (ls : List Nat) (c : Nat) (d : Desc) : Nat :=
  (collSlices s e c - 1) * e.inTiles ls d * 16384 + elemBytes (fmtOf d.fmt0) (e.inputs ls)

/-- The tiles a `COLL` reads (R326). -/
def collReqs (s : State) (c : Nat) (d : Desc) : List Req :=
  let e := gent s (d.param % 1024)
  if e.reserved then [] else tileReqs d.reg0 (collSlices s e c * e.inTiles (e.lens s d.len0) d) 0

end Sys2Proof.Machine
end

