-- ==== Sys2Proof/Machine/SprueOps.lean ====
section
/-!
DEFINITION. Machine/SprueOps.lean: the Sprue operations that read memory (R185, R187, R196, R197): `LOOP`, `PTEST` and
`PATLOAD`.
-/
namespace Sys2Proof.Machine

open Sys2Proof

/-- R187: a Sprue operation whose first `n` bytes of region 0 come as answers asks for them once its waits are satisfied and its
consumes applied; the state in which it runs, once it has them. Its requests are those of engine number 6. -/
def sprueAsked (s : State) (c op n : Nat) (used : Desc → Bool) : State ⊕ State :=
  match sprueReady s c op with
  | none => .inl s
  | some (i, t) =>
    let d := i.desc
    if !used d || !sprueAsks t d then .inr s
    else if (findReq t c 6 i.seq).isSome then (if fedAll t c 6 i.seq then .inr s else .inl s)
    else
      let t := (consume t c d).modSpr c (fun p => { p with cur := some { i with desc := { d with waits := [] } } })
      let t := modRun t c (fun r => { r with requesters := r.requesters.filter (fun q => q.eng != 6) })
      .inl (grantSlots (addReq t c (newReq 6 i.seq (sectorReqs d.reg0 0 (min n d.reg0.bytes) 0))) c)

/-- The first `n` bytes of region 0 of a Sprue operation. -/
def sprueBytes (s : State) (c : Nat) (i : Iss) (n : Nat) : List Byte × State :=
  let r := i.desc.reg0
  let n := min n r.bytes
  if sprueAsks s i.desc then
    (peekRegion s r (r.feed c 6 i.seq false) 0 n, s)
  else let (b, _, s) := readRegion s r (r.place c false) 0 n; (b, s)

/-- The 32-bit word at the start of region 0; one whose read failed is a free value (log entry 101). -/
def firstWord (s : State) (c : Nat) (i : Iss) : Nat × State :=
  let bad := (findReq s c 6 i.seq).any (fun q => q.got.any (fun x => x.2.bad != 0))
  let (b, s) := sprueBytes s c i 4
  let s := dropReq s c 6 i.seq
  if bad then
    let (v, s) := s.draw; (v % 2 ^ 32, s)
  else (leNat b, s)

/-- R187: the issue time of a Sprue operation that has read a word. -/
def wordTime (s : State) (d : Desc) : Nat := 1 + (if sprueAsks s d then 0 else wordLatency s d.reg0.type)

/-- LOOP (R185). The count is `LEN0`, or the word at the start of region 0, read once. -/
def execLoop (c : Core) (s : State) : Host.Outcome State Fault Refusal :=
  match sprueAsked s c 1 4 (fun d => bit d.param 0) with
  | .inl s => .next s
  | .inr s =>
    runSprue c 1 s (fun i s =>
      let d := i.desc
      let (n, t, s) := if bit d.param 0 then let (v, s') := firstWord s c i; (v, wordTime s d, s') else (d.len0, 1, s)
      if n = 0 then (s, stOk, t, 1 + d.len1) else (enterLoop s c n d.len1, stOk, t, 1))

/-- PTEST (R187). `PRED[bit]` = ((w AND `LEN1`) = `LEN2`). -/
def execPtest (c : Core) (s : State) : Host.Outcome State Fault Refusal :=
  match sprueAsked s c 3 4 (fun _ => true) with
  | .inl s => .next s
  | .inr s =>
    runSprue c 3 s (fun i s =>
      let d := i.desc
      let t := wordTime s d
      let (w, s) := firstWord s c i
      let r := b2n (w &&& d.len1 == d.len2)
      (s.setReg SPR.PRED (setBits (s.reg SPR.PRED c) (d.param % 64) 1 r) c, stOk, t, 1))

/-- R197, R428: a load of an image while signatures are required: it is one that Trust has just verified, which the Steward then
issues the `PATLOAD` for (log entry 102). -/
def signedOk (s : State) (c : Nat) (b : List Byte) : Bool :=
  !s.flag SPR.PAT_CTRL_REQ_SIGNED c || s.tru.patImg == some b

/-- PATLOAD (R196, R197). A user pattern is loaded into a slot that is not in use; a bad image, or an unsigned load
where signing is required, ends it and raises source 9. -/
def execPatload (c : Core) (s : State) : Host.Outcome State Fault Refusal :=
  match sprueReady s c 6 with
  | none => .next s
  | some (i, _) =>
    let id := i.desc.param % 1024
    let slot := bits i.desc.param 10 6
    if (patIds s c slot).any (patInUse s c) || patInUse s c id then .next s
    else match sprueAsked s c 6 (0x20 + 32 * 256) (fun _ => true) with
    | .inl s => .next s
    | .inr s =>
      runSprue c 6 s (fun i s =>
        let d := i.desc
        let bad := (findReq s c 6 i.seq).any (fun q => q.got.any (fun x => x.2.bad != 0))
        let words := fieldAt (sprueBytes s c i 32).1 2 1 + 1
        let (b, s') := sprueBytes s c i (0x20 + 32 * words)
        let s' := dropReq s' c 6 i.seq
        let t := (if sprueAsks s d then 0 else wordLatency s' d.reg0.type) + words + 64
        if !signedOk s c b then (raiseFor .spr c 9 stPatUnsigned i.seq s', stPatUnsigned, t, 1)
        else if patImageOk id b && !bad then (patStore (patUnmap s' c id) c id slot b, stOk, t, 1)
        else (raiseFor .spr c 9 stPatternBad i.seq s', stPatternBad, t, 1))

end Sys2Proof.Machine
end

