-- ==== Sys2Proof/Machine/Release.lean ====
section
/-!
DEFINITION. Machine/Release.lean: releasing queued descriptors to their engines (R171, R172, R184, R243), and the common
source 3 that watches a block's progress.
-/
namespace Sys2Proof.Machine

open Sys2Proof

/-! ## What a release needs (R69, R92, R129, R171) -/

/-- The page of an engine queue. -/
def enginePage : EngQ → PageKind
  | .mould => .mld | .assay => .asy | .cruLow => .cru | .cruHigh => .cru | .ladle => .ldl | .runners => .run

/-- R69: the Mould accepts a descriptor when none is in execution, or when the last stream of every one that is has
started; an abandoned `MATMUL`, which starts no more streams, does not hold it while it still drains (log entry 103). -/
def mouldAccepts (s : State) (c : Nat) : Bool :=
  (s.eng c .mould).busy.all (fun i =>
    (s.mld c).jobs.any (fun j => j.iss.seq == i.seq && (j.allStarted || j.abandoned)))

/-- R92: the capture space a tapped `MATMUL` must find free. -/
def tapSpace (s : State) (c : Nat) (i : Iss) : Nat :=
  if i.desc.tap then (((pairs s c).find? (fun p => p.mat == some i.seq)).map Pair.space).getD 0 else 0

/-- The engine accepts a descriptor of its queue. -/
def accepts (s : State) (c : Nat) (q : EngQ) (i : Iss) : Bool :=
  s.pageOn (enginePage q) c &&
  match q with
  | .mould => mouldAccepts s c && decide (tapSpace s c i ≤ s.reg ASY.CAPTURE_FREE c)
  | .cruLow => (s.eng c q).busy.isEmpty && (s.cru c).lo.isNone
  | .cruHigh => (s.eng c q).busy.isEmpty && (s.cru c).hi.isNone
  | _ => (s.eng c q).busy.isEmpty

/-- When an engine that takes one descriptor at a time has finished those it took: what it has finished may end later than
now. The Mould takes its next descriptor while one still streams (R69). -/
def engineFree (s : State) (c : Nat) (q : EngQ) : Nat :=
  if q = .mould then s.ck else (s.eng c q).fin.foldl (fun t f => max t f.finCk) s.ck

/-- R172: a descriptor whose length or count is 0, and which is therefore a no-op. -/
def isNoop (d : Desc) : Bool :=
  match d.engine with
  | 1 => d.op == 1 && mouldEmpty d
  | 2 => (d.op == 2 || d.op == 3 || d.op == 4) && d.len0 == 0
  | 3 => d.len0 == 0
  | 4 => d.len0 == 0 && !(d.op == ldAccread && d.rel)
  | 5 => d.len0 == 0 && ((decide (1 ≤ d.op ∧ d.op ≤ 6) && !(d.op == rnFill && d.all)) || d.op == rnJappend || d.op == rnColl)
  | _ => false

/-! ## Release -/

/-- R92: the capture space of a tapped `MATMUL` is taken, and the time it waited for it counted. -/
def takeCapture (s : State) (c : Nat) (i : Iss) : State :=
  let n := tapSpace s c i
  if n = 0 then s
  else
    let from_ := ((pairs s c).find? (fun p => p.mat == some i.seq)).bind Pair.waitFrom
    let s := s.setReg ASY.CAPTURE_FREE (s.reg ASY.CAPTURE_FREE c - n) c
    match from_ with
    | some t => modPairs (s.wrapAdd ASY.RELEASE_WAIT_CK (s.ck - t) c) c (fun ps => ps.map (fun p =>
        if p.mat = some i.seq then { p with waited := true } else p))
    | none => s

/-- R242: a released descriptor's requester joins those of its core, and asks. -/
def startFeed (s : State) (c eng : Nat) (i : Iss) (rs : List Req) : State :=
  grantSlots (askMore (addReq s c (newReq eng i.seq rs)) c eng i.seq) c

/-- An engine takes a released descriptor. -/
def startEngine (s : State) (c : Nat) (q : EngQ) (i : Iss) : State :=
  let d := i.desc
  match q with
  | .mould => takeCapture (s.setReg MLD.CUR_SEQ i.seq c) c i
  | .assay =>
    let s := (s.setReg ASY.CUR_SEQ i.seq c).setFld ASY.STATE_ENGINE (if d.op = 1 then 1 else if d.op ≤ 3 then 2 else 3) c
    startFeed s c 2 i (asyFeed d)
  | .ladle =>
    startFeed ((s.setReg LDL.CUR_SEQ i.seq c).setReg LDL.STATE (1 + b2n (d.op == ldAccread) * 2) c) c 4 i (ldlFeed d)
  | .runners =>
    let s := s.setReg RUN.CUR_SEQ i.seq c
    let s := if d.op = rnFill ∧ d.all ∧ ¬ s.locked then (s.setFld TUN.STATE_FILLING 1 0).setFld TUN.STATE_FILLING 1 1 else s
    startFeed s c 5 i (if d.op = rnColl then collReqs s c d else runReqs d)
  | _ => startFeed (modCru (cruRelease s c i) c (fun x => { x with progCk := s.ck })) c 3 i (cruFeed d)

/-- R171: the descriptor at the head of a queue is released: its consumes are applied, and the engine takes it; a no-op
(R172) finishes 1 ck later. -/
def release (s : State) (c : Nat) (q : EngQ) (i : Iss) : State :=
  let i := { i with relCk := s.ck }
  let s := modEng s c q (fun e => { e with queue := e.queue.drop 1, run := e.run ++ [i] })
  let s := (consume s c i.desc).modSpr c (fun p => { p with lastProgress := s.ck })
  if isNoop i.desc then finishDesc s c q i stOk {} 0 (s.ck + 1) else startEngine s c q i

/-- R184: a descriptor skipped by its predicate completes SKIPPED: its consumes apply and its engine does nothing. -/
def releaseSkipped (s : State) (c : Nat) (q : EngQ) (i : Iss) : State :=
  let i := { i with relCk := s.ck }
  let s := modEng s c q (fun e => { e with queue := e.queue.drop 1, run := e.run ++ [i] })
  finishDesc (consume s c i.desc) c q i stSkipped {} 0 (s.ck + 1)

/-- R136: a queued descriptor that its deadline overtook ends STALE, never released: no consume applies. -/
def releaseStale (s : State) (c : Nat) (q : EngQ) (i : Iss) : State :=
  let i := { i with relCk := s.ck }
  let s := modEng s c q (fun e => { e with queue := e.queue.drop 1, run := e.run ++ [i] })
  let x : CCtx := { iss := i, staleN := i.desc.len0, abandoned := true }
  finishDesc s c q i stStale {} (cruWord x) (max s.ck (s.cru c).resumeCk)

/-- R92: a `MATMUL` that only the capture store holds back begins to wait. -/
def markTapWait (s : State) (c : Nat) (i : Iss) : State :=
  modPairs s c (fun ps => ps.map (fun p =>
    if p.mat = some i.seq ∧ p.waitFrom.isNone then { p with waitFrom := some s.ck } else p))

/-- The queues of a core. -/
def allQueues : List EngQ := [.mould, .assay, .cruLow, .cruHigh, .ladle, .runners]

/-- R179: the waits of the descriptor at the head of queue `q` still hold in this ck once the heads of the other queues that
were issued before it and can be released in it have taken their consumes, in sequence-number order. -/
def firstCall (s : State) (c : Nat) (q : EngQ) (i : Iss) : Bool :=
  let before := fun (a b : Iss) => decide (0 < (b.seq + 2 ^ 32 - a.seq) % 2 ^ 32 ∧ (b.seq + 2 ^ 32 - a.seq) % 2 ^ 32 < 2 ^ 31)
  let rivals := allQueues.filterMap (fun r =>
    if r = q then none else
    match (s.eng c r).queue with
    | j :: _ =>
      if before j i && !(j.stale && j.desc.onStale) && decide (engineFree s c r = s.ck) &&
          (if j.skip then (s.eng c r).run.isEmpty else accepts s c r j) then some j else none
    | [] => none)
  waitsOk ((rivals.mergeSort before).foldl (fun s j => if waitsOk s c j.desc then consume s c j.desc else s) s) c i.desc

/-- DESC_RELEASE (R171, R179, R184). The head of a queue is released in the first ck in which its waits hold and its engine
accepts it. -/
def execDescRelease (c : Core) (q : EngQ) (s : State) : Host.Outcome State Fault Refusal :=
  match (s.eng c q).queue with
  | [] => .next s
  | i :: _ =>
    if s.quenched || s.idleFrame then .next s
    else if i.stale && i.desc.onStale then
      if (s.eng c q).run.isEmpty then .next (releaseStale s c q i) else .next s
    else
      match (waitsFrom s c i.desc).bind (fun t => waitsFrom (t.upTo (engineFree s c q)) c i.desc) with
      | none => .next s
      | some t =>
        let t := covProgress t c
        if !firstCall t c q i then .next s
        else if i.skip then
          if (s.eng c q).run.isEmpty then .next (releaseSkipped t c q i) else .next s
        else if accepts t c q i then .next (release t c q i)
        else if q = .mould ∧ mouldAccepts s c ∧ s.pageOn .mld c then .next (markTapWait s c i)
        else .next s

/-! ## Progress (R88, R107, R141, R167, R199, R263, R418) -/

/-- R141: when the Crucible last made progress with a descriptor in execution; not while one waits for the tick or the port. -/
def cruProgress (s : State) (c : Nat) : Option Nat :=
  if (((s.eng c .cruHigh).busy ++ (s.eng c .cruLow).busy).isEmpty) || (s.cru c).waitFrom.isSome || (s.port c).cruWait.isSome then none
  else some (max (s.cru c).progCk (((s.cru c).step.map CStep.endCk).getD 0))

/-- R107: when a `COV` whose `MATMUL` has completed last made progress: its release, a row offered or accumulated, the end of the
`MATMUL`. -/
def covWatch (s : State) (c : Nat) : Option Nat :=
  (s.eng c .assay).busy.head?.bind (fun i =>
    ((pairs s c).find? (fun p => p.cov.seq == i.seq)).bind (fun p =>
      let there := fun (e : EngSt) => (e.queue ++ e.run).any (fun j => p.mat == some j.seq)
      let ends := ((s.eng c .mould).fin.filter (fun f => p.mat == some f.iss.seq)).map (fun f => f.finCk)
      if p.mat.isNone || (there (s.eng c .mould) && ends.isEmpty) then none
      else some (ends.foldl max (max (max i.relCk p.accCk) (max p.lastCk ((s.core c).mld.freeCk))))))

/-- R247: when a Runner descriptor in execution last made progress; not while it waits for an Ingot read. -/
def runProgress (s : State) (c : Nat) : Option Nat :=
  (s.eng c .runners).busy.head?.bind (fun i =>
    if (s.run c).flight.any (fun f => f.eng == 5 && f.seq == i.seq && f.req.type == 2) then none
    else some (max i.relCk (((findReq s c 5 i.seq).map Requester.last).getD 0)))

/-- R263: when the oldest request that waits at a controller of stack `k` arrived there. -/
def hbmWatch (s : State) (k : Nat) : Option Nat :=
  ((hbmWaiting s).filter (fun x => x.parts.any (fun pc => pc / 32 == k))).foldl (fun a x =>
    match a with | some t => some (min t x.arr) | none => some x.arr) none

/-- When a `FILL` with `ALL` or a spare copy under way on die `d` began. -/
def tunWatch (s : State) (d : Nat) : Nat :=
  let fill := (List.range 4).foldl (fun n c => ((s.eng c .runners).busy.filter (fun i => i.desc.op == rnFill && i.desc.all)).foldl
    (fun n i => max n i.relCk) n) 0
  match s.tun.copies.toList.getD d none with
  | some x => max fill x.startCk
  | none => fill

/-- A collective under way: when one last made progress. -/
def colWatch (s : State) : Option Nat := if s.col.runs.isEmpty then none else some s.col.progCk

/-- When the block a watch names last made progress, if it has something to make progress with: of an engine its descriptors in
execution, of the Sprue its last issue, release or completion, a copy or fill under way, the oldest request that waits at an
HBM controller (R263), a collective under way, the last input and sensor samples (R418). -/
def watchFrom (s : State) : Watch → Option Nat
  | .spr c =>
    if s.stream c = stRunning ∧ s.reg SPR.RING_HEAD c ≠ s.reg SPR.RING_TAIL c then some (s.core c).spr.lastProgress else none
  | .mld c => mldProgress s c
  | .asy c => covWatch s c
  | .cru c => cruProgress s c
  | .ldl c => (s.eng c .ladle).busy.head?.map (fun i => max i.relCk (((findReq s c 4 i.seq).map Requester.last).getD 0))
  | .run c => runProgress s c
  | .tun d => if s.flag TUN.STATE_FILLING d || s.flag TUN.STATE_COPYING d then some (tunWatch s d) else none
  | .hbm k => hbmWatch s k
  | .col => colWatch s
  | .pwr => some s.pwr.sampleCk

/-- The page, the instance and the time in ck a watch allows without progress. -/
def watchLimit (s : State) : Watch → PageKind × Nat × Nat
  | .spr c => (.spr, c, 2 ^ 26) | .mld c => (.mld, c, 2 ^ 24) | .asy c => (.asy, c, 2 ^ 24) | .cru c => (.cru, c, 2 ^ 24)
  | .ldl c => (.ldl, c, 2 ^ 24) | .run c => (.run, c, 2 ^ 24) | .tun d => (.tun, d, tkCk s (2 ^ 24))
  | .hbm k => (.hbm, k, hkCk s (2 ^ 20)) | .col => (.col, 0, 2 ^ 26) | .pwr => (.pwr, 0, 100 * s.ckPerUs)

/-- NO_PROGRESS_TIMEOUT. A block with work in hand makes no progress for its time; its common source 3 is raised. -/
def execNoProgressTimeout (w : Watch) (s : State) : Host.Outcome State Fault Refusal :=
  match watchFrom s w with
  | none => .next s
  | some t =>
    let (p, i, n) := watchLimit s w
    .next (raise p i 3 (s.upTo (t + n)))

end Sys2Proof.Machine
end

