-- ==== Sys2Proof/Machine/Collective.lean ====
section
/-!
DEFINITION. Machine/Collective.lean: the collectives engine of chapter 13: reductions over the members of a group
(R326–R328), layout epochs (R329, R331) and fences (R330).
-/
namespace Sys2Proof.Machine

open Sys2Proof

/-! ## Collectives in progress -/

/-- The collective of a group, or a fresh one. -/
def collRun (s : State) (g : Nat) : CollRun := (s.col.runs.find? (fun r => r.group == g)).getD { group := g }

/-- A collective put back; `COL.STATE` counts those this device has issued. -/
def putRuns (s : State) (rs : List CollRun) : State :=
  { s with col := { s.col with runs := rs, progCk := s.ck } }.setFld COL.STATE_ACTIVE (rs.filter (fun (r : CollRun) => !r.joined.isEmpty)).length
def putRun (s : State) (r : CollRun) : State := putRuns s (s.col.runs.filter (fun x => x.group != r.group) ++ [r])

/-- R329: a `COLL` on the group still runs on this device. -/
def grpBusy (s : State) (g : Nat) : Bool := !(collRun s g).joined.isEmpty

/-- R331: packets held for an epoch that their entry has now reached may be taken. -/
def releaseHeld (s : State) : State :=
  let now := fun (x : Nat × Packet × Nat) =>
    let e := gent s (bits x.2.1.word 0 10)
    e.valid && e.epoch == bits x.2.1.word 16 16
  { s with inbox := (s.col.held.filter now).map (fun x => (x.1, x.2.1)) ++ s.inbox,
           col := { s.col with held := s.col.held.filter (fun x => !now x) } }

/-- An entry's contents set. -/
def setGroup (s : State) (g x : Nat) : State :=
  releaseHeld { s with col := { s.col with grp := sset 0 s.col.grp g x } }

/-- R330: a pending entry takes its contents and epoch. -/
def applyPending (s : State) (g : Nat) : State :=
  let x := sget 0 s.col.grpNext g
  if x = 0 then s
  else setGroup { s with col := { s.col with grpNext := sset 0 s.col.grpNext g 0, drain := s.col.drain.erase g } } g x

/-- A collective has ended on this device: what came early begins the next, and a pending entry that waits for it
applies. -/
def dropRun (s : State) (r : CollRun) : State :=
  let rest := s.col.runs.filter (fun x => x.group != r.group)
  let s := putRuns s (if r.early.isEmpty ∧ r.fence.isEmpty then rest
    else rest ++ [{ group := r.group, parts := r.early, fence := r.fence }])
  if s.col.drain.contains r.group then applyPending s r.group else s

/-! ## Arithmetic (R213, R327) -/

/-- One ⊕ of a collective on two encodings of its reduction format. -/
def combine (e : GEnt) (rnd : Rnd) (a b : Nat) : Nat × Flags :=
  let x := decodeFloat e.fmt a
  let y := decodeFloat e.fmt b
  if e.comb = 1 then convFloat e.fmt .rne (vmax x y)
  else if e.comb = 2 then convFloat e.fmt .rne (vmin x y)
  else convFloat e.fmt rnd (x.add y)

/-- R327, R157: the value of an element with no present member. -/
def collIdentity (e : GEnt) : Nat := (convFloat e.fmt .rne (redIdentity (if e.comb = 1 then 2 else if e.comb = 2 then 3 else 0)).1).1

/-- R213: the contributions of this device's cores combined in the tree over four leaves, rounded by RNE. -/
def deviceValue (e : GEnt) (vs : List (Option Nat)) : Option Nat × Flags :=
  let f := fun (a b : Nat × Flags) =>
    let (x, g) := combine e .rne a.1 b.1
    (x, (a.2.join b.2).join g)
  match tree f 3 (vs.map (fun o => o.map (fun x => (x, ({} : Flags))))) with
  | some (x, g) => (some x, g)
  | none => (none, {})

/-- R51, R327: the rounding of the ⊕ that adds the values of position `p` to element `x`. -/
def collRnd (i : Iss) (x p : Nat) : Rnd :=
  rndOf i.desc.rnd0 i.key
    { tensor := i.desc.tensor, step := i.desc.step, elem := i.desc.baseElem.toNat + x, purpose := 5, ordinal := p % 4096 }

/-- Elements per 16 KiB chunk. -/
def GEnt.per (e : GEnt) : Nat := e.fmt.perTile

/-- R327: element `x` of this member's partial: its own value and those of the partials it receives, in the chain's or the
tree's order. -/
def collElem (e : GEnt) (i : Iss) (ls : List Nat) (own : Option Nat) (parts : List (Nat × Nat × Nat × Nat)) (x : Nat) :
    Option Nat × Flags :=
  let has := fun (lo hi : Nat) => (List.range (hi - lo)).any (fun k => e.present ls (lo + k) x)
  let got := parts.map (fun (q : Nat × Nat × Nat × Nat) => (q.1, if has q.2.1 q.2.2.1 then some q.2.2.2 else none))
  let add := fun (a : Option Nat × Flags) (b : Option Nat) (p : Nat) =>
    match a.1, b with
    | some u, some v => let (w, g) := combine e (collRnd i x p) u v; (some w, a.2.join g)
    | none, v => (v, a.2)
    | u, none => (u, a.2)
  if e.kind = 2 then got.foldl (fun a q => add a q.2 q.1) (own, {})
  else add ((got.head?.map Prod.snd).join, {}) own e.pos

/-! ## Chunks (R328) -/

/-- R328: a chunk as it travels: its index, then one tile with its sidecar. -/
def chunkBytes (s : State) (e : GEnt) (k : Nat) (es : List Nat) : List Byte :=
  let pl := packPayload e.fmt es
  let h : TileHdr := { fmt := e.fmt.code, elems := es.length, layoutEpoch := e.epoch, prodDev := s.self, prodEngine := 5 }
  leBytes 4 k ++ pl ++ mkSidecar h pl []

/-- A chunk sent to a member. -/
def sendChunk (s : State) (g : Nat) (e : GEnt) (to_ k : Nat) (es : List Nat) : State :=
  sendMsg s 1 0x20 (e.dev s to_) false (g + e.epoch * 2 ^ 16) (chunkBytes s e k es)

/-- The issued `COLL` of the lowest core that has joined. -/
def collIss (s : State) (r : CollRun) : Option Iss :=
  (r.joined.head?).bind (fun j => (runIss s j.1).bind (fun i => if i.seq = j.2.1 then some i else none))

/-- Chunk `k`, once this member's own values and every partial of it are there: combined and sent on; the top member's is the
result. -/
def passChunk (s : State) (r : CollRun) (e : GEnt) (i : Iss) (ls : List Nat) (k : Nat) : State × CollRun :=
  match r.own with
  | none => (s, r)
  | some own =>
    let srcs := e.sources.map (fun q => (q, r.parts.find? (fun p => p.1 == q.1 && p.2.1 == k)))
    if r.up.contains k ∨ srcs.any (fun q => q.2.isNone) then (s, r)
    else
      let n := min e.per (e.vec ls - k * e.per)
      let vs := (List.range n).map (fun x =>
        collElem e i ls ((own[k * e.per + x]?).join)
          (srcs.map (fun q => (q.1.1, q.1.2.1, q.1.2.2, ((q.2.map (fun p => p.2.2)).getD []).getD x 0))) (k * e.per + x))
      let r := { r with up := k :: r.up, flags := vs.foldl (fun a v => a.join v.2) r.flags }
      if e.top then
        let es := vs.map (fun v => v.1.getD (collIdentity e))
        (e.down.foldl (fun s t => sendChunk s r.group e t k es) s, { r with res := (k, es) :: r.res })
      else (sendChunk s r.group e e.next k (vs.map (fun v => v.1.getD 0)), r)

/-- The chunks of a collective. -/
def GEnt.chunks (e : GEnt) (ls : List Nat) : Nat := ceilDiv (e.vec ls) e.per

/-! ## Ending (R326) -/

/-- The joined descriptors of a collective end with a status. -/
def endCollWith (s : State) (r : CollRun) (st : Nat) (fl : Flags) : State :=
  r.joined.foldl (fun s j =>
    match runIss s j.1, findReq s j.1 5 j.2.1 with
    | some i, some q => if i.seq = j.2.1 then runFinish { s := s, st := st, flags := fl } j.1 i q (moveEnd s j.1 i q 0) else s
    | _, _ => s) s

/-- R45, R47, R475: tile `j` of a `COLL`'s output from its result values. -/
def collTile (s : State) (c : Nat) (i : Iss) (e : GEnt) (first j : Nat) (vs : List Val) : List Byte × List Byte × Flags :=
  let d := i.desc
  let f := fmtOf d.fmt2
  let rnd := fun (k : Nat) => rndOf d.rnd0 i.key
    { tensor := d.tensor, step := d.step, elem := d.baseElem.toNat + first + j * f.perTile + k, purpose := 4,
      ordinal := d.aux16 % 4096 }
  let (bs, fines, g) := encodeTile f (if f.isQ then d.frac else 0) coarseOne rnd vs
  let pl := packPayload f bs
  let h : TileHdr :=
    { fmt := d.fmt2, frac := if f.isQ then d.frac else 0, elems := vs.length, nanSeen := g.nan, infSeen := g.inf,
      sat := decide (0 < g.sat), stepEpoch := d.step, layoutEpoch := e.epoch, prodDev := s.self, prodCore := c, prodEngine := 5,
      tensor := d.tensor, baseElem := d.baseElem.toNat + j * f.perTile }
  (pl, mkSidecar h pl fines, g)

/-- Tiles `j` … of an output. -/
def putColl (c : Nat) (i : Iss) (e : GEnt) (first : Nat) : Nat → Nat → List Val → RProg → RProg
  | 0, _, _, p => p
  | n + 1, j, vs, p =>
    if vs.isEmpty then p else
    let per := (fmtOf i.desc.fmt2).perTile
    let (pl, sd, g) := collTile p.s c i e first j (vs.take per)
    let p := putTile p c i.seq i.desc.reg2 false j pl sd
    if p.st ≠ stOk then p
    else putColl c i e first n (j + 1) (vs.drop per) { p with flags := p.flags.join g, moved := p.moved + 1 }

/-- The output of one core of a collective is written and its descriptor completes. -/
def finishCore (r : CollRun) (e : GEnt) (ls : List Nat) (s : State) (j : Nat × Nat × List (Option Nat) × Flags) : State :=
  match runIss s j.1, findReq s j.1 5 j.2.1 with
  | some i, some q =>
    let (first, n) := e.outputs ls
    let all := (List.range (e.chunks ls)).flatMap (fun k =>
      ((r.res.find? (fun x => x.1 == k)).map Prod.snd).getD [])
    let vs := ((all.drop first).take n).map (decodeFloat e.fmt)
    let p : RProg := { s := s, flags := j.2.2.2.join r.flags, conv := decide (0 < n) }
    let p := putColl j.1 i e first (ceilDiv n (fmtOf i.desc.fmt2).perTile) 0 vs p
    runFinish p j.1 i q (moveEnd p.s j.1 i q p.moved)
  | _, _ => s

/-- No part of this device's contribution to any collective waits for transmission or acknowledgement (R288). -/
def collAcked (s : State) : Bool :=
  !s.transit.any (fun m => m.mkind == 0x20 && m.src == s.self) &&
  (List.range 24).all (fun p => !((s.link p).q.toList.flatten ++ (s.link p).replay.map RFlit.src).any
    (fun f => f.own && f.mkind == 0x20))

/-- A collective whose results have all come ends; one without output here ends when its contribution is acknowledged. -/
def tryEndColl (s : State) (r : CollRun) (e : GEnt) (ls : List Nat) : State :=
  let ks := List.range (e.chunks ls)
  let isEnd := if e.op = 4 ∧ e.pos ≠ e.root then ks.all (fun k => r.up.contains k) && collAcked s
    else ks.all (fun k => r.res.any (fun x => x.1 == k))
  if r.own.isSome && isEnd then dropRun ((r.joined.foldl (finishCore r e ls) s).bump COL.COLL_DONE) r
  else putRun s r

/-- Every chunk that can move on does, and the collective ends if it can. -/
def pumpColl (s : State) (r : CollRun) : State :=
  match collIss s r with
  | none => putRun s r
  | some i =>
    let e := gent s r.group
    let ls := e.lens s i.desc.len0
    let (s, r) := (List.range (e.chunks ls)).foldl (fun (x : State × CollRun) k => passChunk x.1 x.2 e i ls k) (s, r)
    tryEndColl s r e ls

/-! ## Issuing a COLL (R326) -/

/-- The elements of the partial of a core's input that begins at tile `first`, rounded once to the reduction format, placed in the vector; the first failing tile's
status, if any. -/
def collInput (p : RProg) (c : Nat) (i : Iss) (q : Requester) (e : GEnt) (ls : List Nat) (first : Nat) :
    List (Option Nat) × RProg :=
  let d := i.desc
  let f := fmtOf d.fmt0
  let n := e.inputs ls
  let (tiles, p) := (List.range (e.inTiles ls d)).foldl (fun (x : List Piece × RProg) j =>
    let (t, _, p) := srcTile x.2 c d q (first + j)
    if x.2.st = stOk then (x.1 ++ [t], p) else x) ([], p)
  let vals := tiles.zipIdx.flatMap (fun (x : Piece × Nat) =>
    let h := TileHdr.parse x.1.side
    (List.range (min f.perTile (n - x.2 * f.perTile))).map (fun k =>
      scaleVal f (fieldAt x.1.side (64 + k / 32) 1) h.coarse (decodeElem f d.frac (elemBits f x.1.payload k))))
  let own := vals.map (fun v => convFloat e.fmt .rne v)
  let at0 := if e.op = 2 then shardOff ls e.pos else 0
  let vec := (List.range (e.vec ls)).map (fun x =>
    if e.present ls e.pos x then (own[x - at0]?).map Prod.fst else none)
  (vec, { p with flags := own.foldl (fun a x => a.join x.2) (vals.foldl (fun a v => a.join v.seen) p.flags) })

/-- The device's contribution once every core has joined: the cores' values by R213, or the slices' (R214). -/
def collOwn (s : State) (e : GEnt) (c : Nat) (r : CollRun) (ls : List Nat) : CollRun :=
  if (collCores e c).all (fun k => r.joined.any (fun j => j.1 == k)) then
    let vs := (List.range (e.vec ls)).map (fun x =>
      deviceValue e ((List.range 4).map (fun k =>
        if (collCores e c).contains k then (r.joined.find? (fun j => j.1 == k)).bind (fun j => (j.2.2.1[x]?).join)
        else if k = 3 ∧ portable3 s ∧ (collCores e c).contains 2 then
          (r.joined.find? (fun j => j.1 == 2)).bind (fun j => (j.2.2.1[e.vec ls + x]?).join)
        else none)))
    { r with own := some (vs.map Prod.fst), flags := vs.foldl (fun a v => a.join v.2) r.flags }
  else r

/-- A `COLL` carried out for core `c`: it joins the collective of its group, or, having joined, ends if it can. -/
def doColl (s : State) (c : Nat) (i : Iss) (q : Requester) : State :=
  let d := i.desc
  let g := d.param % 1024
  let e := gent s g
  let r := collRun s g
  let ls := e.lens s d.len0
  if e.reserved then runFinish { s := s, st := stShape } c i q (moveEnd s c i q 0)
  else if r.joined.any (fun j => j.1 == c) then tryEndColl s r e ls
  else if ls.getD e.pos 0 ≠ d.len0 then
    runFinish { s := raiseFor .col 0 7 stShape i.seq s, st := stShape } c i q (moveEnd s c i q 0)
  else if d.reg0.bytes < collInBytes s e ls c d ∨ d.reg2.bytes < elemBytes (fmtOf d.fmt2) (e.outputs ls).2 then
    runFinish { s := s, st := stBounds } c i q (moveEnd s c i q 0)
  else
    let (vec, p) := (List.range (collSlices s e c)).foldl (fun (x : List (Option Nat) × RProg) k =>
      let (v, p) := collInput x.2 c i q e ls (k * e.inTiles ls d)
      (x.1 ++ v, p)) ([], { s := s })
    if p.st ≠ stOk then runFinish p c i q (moveEnd p.s c i q 0)
    else
      let r := { r with joined := (r.joined ++ [(c, i.seq, vec, p.flags)]).mergeSort (fun a b => decide (a.1 ≤ b.1)) }
      pumpColl p.s (collOwn p.s e c r ls)

/-- A `COLL` of core `c` on a group whose operation is one of `ops`. -/
def collRow (ok : GEnt → Bool) (c : Nat) (s : State) : Host.Outcome State Fault Refusal :=
  match runHead s c rnColl with
  | none => .next s
  | some (i, q) => if ok (gent s (i.desc.param % 1024)) then .next (doColl s c i q) else .next s

/-- COLL_ALL_REDUCE (R327). A `COLL` on an entry that is not valid or holds a reserved code ends here with `SHAPE`. -/
def execCollAllReduce (c : Core) (s : State) : Host.Outcome State Fault Refusal :=
  collRow (fun e => e.reserved || e.op == 0) c s
/-- COLL_REDUCE_SCATTER (R327). -/
def execCollReduceScatter (c : Core) (s : State) : Host.Outcome State Fault Refusal :=
  collRow (fun e => !e.reserved && e.op == 1) c s
/-- COLL_ALL_GATHER (R326). -/
def execCollAllGather (c : Core) (s : State) : Host.Outcome State Fault Refusal :=
  collRow (fun e => !e.reserved && e.op == 2) c s
/-- COLL_BROADCAST (R326). -/
def execCollBroadcast (c : Core) (s : State) : Host.Outcome State Fault Refusal :=
  collRow (fun e => !e.reserved && e.op == 3) c s
/-- COLL_REDUCE_TO_ROOT (R327). -/
def execCollReduceToRoot (c : Core) (s : State) : Host.Outcome State Fault Refusal :=
  collRow (fun e => !e.reserved && e.op == 4) c s

/-! ## Fences (R330) -/

/-- R330: a fence has completed: its descriptors end, and every pending entry whose group is idle applies; the others wait
and are counted. -/
def finishFence (s : State) (r : CollRun) (e : GEnt) : State :=
  let s := endCollWith s r stOk {}
  let s := dropRun (s.bump COL.FENCES) { r with fence := (List.range e.n).foldl (fun l j => l.erase j) r.fence }
  (s.col.grpNext.map Prod.fst).foldl (fun s g =>
    if grpBusy s g then { s with col := { s.col with drain := g :: s.col.drain.erase g } }.bump COL.PEND_BUSY
    else applyPending s g) s

/-- The fence completes when every member's `FENCE` has come. -/
def tryFence (s : State) (r : CollRun) : State :=
  let e := gent s r.group
  if r.own.isSome && (List.range e.n).all (fun j => r.fence.contains j) then finishFence s r e else putRun s r

/-- R330: the epoch a group moves to. -/
def newEpoch (s : State) (g : Nat) : Nat :=
  let x := sget 0 s.col.grpNext g
  if x = 0 then (gent s g).epoch else (GEnt.parse x).epoch

/-- COLL_FENCE (R330). A fence `COLL` of the last core named sends `FENCE` to every other member. -/
def execCollFence (c : Core) (s : State) : Host.Outcome State Fault Refusal :=
  match runHead s c rnColl with
  | none => .next s
  | some (i, _) =>
    let g := i.desc.param % 1024
    let e := gent s g
    let r := collRun s g
    if e.reserved ∨ e.op ≠ 5 ∨ r.joined.any (fun j => j.1 == (c : Nat)) then .next s
    else
      let r := { r with joined := r.joined ++ [((c : Nat), i.seq, [], {})] }
      if (collCores e c).all (fun k => r.joined.any (fun j => j.1 == k)) then
        let s := (List.range e.n).foldl (fun s j =>
          if j = e.pos then s else sendMsg s 0 0x21 (e.dev s j) false (g + newEpoch s g * 2 ^ 16) []) s
        .next (tryFence s { r with own := some [], fence := r.fence ++ [e.pos] })
      else .next (putRun s r)

/-- FENCE (R330). A member has reached its fence. -/
def execFence (s : State) : Host.Outcome State Fault Refusal :=
  if s.quenched then .next s
  else match takeKind s 0x21 with
  | none => .next s
  | some (_, m, s) =>
    let g := bits m.word 0 10
    let e := gent s g
    match e.posOf s m.src with
    | none => .next s
    | some j => .next (tryFence s { collRun s g with fence := (collRun s g).fence ++ [j] })

/-! ## Incoming chunks (R328, R331) -/

/-- R328: a good chunk from a member: a partial of this member's, a result, or the first of the next collective. -/
def landChunk (s : State) (g : Nat) (e : GEnt) (j k : Nat) (es : List Nat) : State :=
  let r := collRun s g
  let r := { r with again := r.again.filter (fun x => !(x.1 == j && x.2.1 == k)) }
  let partialDue := e.sources.any (fun q => q.1 == j) && !r.parts.any (fun x => x.1 == j && x.2.1 == k)
  if partialDue then pumpColl s { r with parts := r.parts ++ [(j, k, es)] }
  else if e.upFrom = some j ∧ ¬ r.res.any (fun x => x.1 == k) then
    let s := e.down.foldl (fun s t => sendChunk s g e t k es) s
    pumpColl s { r with res := (k, es) :: r.res }
  else putRun s { r with early := r.early ++ [(j, k, es)] }

/-- R328: a chunk has failed twice: the collective ends with `REMOTE_FAIL`. -/
def failColl (s : State) (g : Nat) : State :=
  let s := raise .col 0 8 s
  let r := collRun s g
  dropRun (endCollWith s r stRemoteFail {}) { r with early := [] }

/-- A chunk of the present epoch, checked against its CRC-32C; a bad one is asked for once more. -/
def takeChunk (s : State) (g : Nat) (e : GEnt) (j : Nat) (m : Packet) : State :=
  let k := fieldAt m.body 0 4
  let pl := slice m.body 4 16384
  let sd := slice m.body 16388 2048
  let r := collRun s g
  match r.again.find? (fun x => x.1 == j && x.2.1 == k) with
  | some (_, _, forced) =>
    if forced || !tileGood pl sd then failColl s g else landChunk s g e j k ((List.range e.per).map (elemBits e.fmt pl))
  | none =>
    let (inj, s) := s.injFails COL.INJ_CHUNK_CRC1 COL.INJ_CHUNK_CRC2
    if inj ≠ 0 ∨ !tileGood pl sd then putRun s { r with again := r.again ++ [(j, k, inj == 2)] }
    else landChunk s g e j k ((List.range e.per).map (elemBits e.fmt pl))

/-- COLL (R331). The oldest `COLL` packet of this device is accepted, held with its credits withheld, or dropped as
stale. -/
def execColl (s : State) : Host.Outcome State Fault Refusal :=
  if s.quenched then .next s
  else match s.inbox.find? (fun x => x.2.mkind == 0x20 && x.2.tc == 1 && forMe s x.2) with
  | none => .next s
  | some (p, m) =>
    let s := { s with inbox := s.inbox.erase (p, m) }
    let g := bits m.word 0 10
    let e := gent s g
    let d := (bits m.word 16 16 + 2 ^ 16 - e.epoch) % 2 ^ 16
    let inj := s.armed COL.INJ_STALE
    let s := if inj then s.disarm COL.INJ_STALE else s
    if inj ∨ (e.valid ∧ 32768 ≤ d) then .next (raise .col 0 4 ((freeFlits s p m).bump COL.STALE_DROPPED))
    else if ¬ e.valid ∨ d ≠ 0 then .next { s with col := { s.col with held := s.col.held ++ [(p, m, s.frame)] } }
    else
      let s := freeFlits s p m
      match e.posOf s m.src with
      | none => .next s
      | some j => .next (takeChunk s g e j m)

/-- COLL_HOLD_TIMEOUT (R331). The oldest packet held for more than `HOLD_FRAMES` frames is dropped. -/
def execCollHoldTimeout (s : State) : Host.Outcome State Fault Refusal :=
  match s.col.held.find? (fun x => decide (x.2.2 + s.reg COL.HOLD_FRAMES < s.frame)) with
  | none => .next s
  | some x =>
    let s := { s with col := { s.col with held := s.col.held.erase x } }
    .next (raise .col 0 6 ((freeFlits s x.1 x.2.1).bump COL.HELD_DROPPED))

/-! ## The group table (R329) -/

/-- R12, R326: the 512-bit image in `GRP_DATA`, its reserved bits 0. -/
def grpImage (s : State) : Nat :=
  let x := (List.range 16).foldl (fun a k => a + s.reg COL.GRP_DATA 0 k * 2 ^ (32 * k)) 0
  x % 2 ^ 12 + bits x 16 52 * 2 ^ 16 + bits x 80 112 * 2 ^ 80

/-- R329: a command on a busy entry is refused. -/
def grpRefuse (s : State) : State := raise .col 0 5 (s.setFld COL.GRP_STATUS_BUSY 1)

/-- GRP_DEFINE (R329). -/
def execGrpDefine (s : State) : Host.Outcome State Fault Refusal :=
  let g := s.reg COL.GRP_SEL
  if s.pageState .col = pgQuenched then .next s
  else if grpBusy s g then .next (grpRefuse s)
  else
    let s := s.setFld COL.GRP_STATUS_BUSY 0
    if (gent s g).valid then .next { s with col := { s.col with grpNext := sset 0 s.col.grpNext g (grpImage s) } }
    else .next (setGroup s g (grpImage s))

/-- GRP_FREE (R329). -/
def execGrpFree (s : State) : Host.Outcome State Fault Refusal :=
  let g := s.reg COL.GRP_SEL
  if s.pageState .col = pgQuenched then .next s
  else if grpBusy s g then .next (grpRefuse s)
  else
    let s := s.setFld COL.GRP_STATUS_BUSY 0
    .next { s with col := { s.col with
      grp := sset 0 s.col.grp g 0, grpNext := sset 0 s.col.grpNext g 0, drain := s.col.drain.erase g,
      runs := s.col.runs.filter (fun r => r.group != g) } }

end Sys2Proof.Machine
end

