-- ==== Sys2Proof/Machine/Sweep.lean ====
section
/-!
DEFINITION. Machine/Sweep.lean: chapter 14: the norm check (R346), the commit vote (R347–R349), block records and seals
(R352–R355) and the sweep's messages (R358).
-/
namespace Sys2Proof.Machine

open Sys2Proof

/-- R359: the sweep statuses. -/
def stSealBlockBad : Nat := 0x66
def stSealOrder : Nat := 0x67
def stSweepGroup : Nat := 0x68

/-- A state with its sweep changed. -/
def modSweep (s : State) (f : SweepSt → SweepSt) : State := { s with sweep := f s.sweep }

/-- The groups of R334, where the sweep registers name a valid entry that contains this device. -/
def sweepGroup (s : State) (g : Fld) (v : Fld) : Option GEnt :=
  let e := gent s (s.fld g)
  if s.flag v && e.valid && decide (e.pos < e.n) && e.dev s e.pos == s.self then some e else none
def flaskGrp (s : State) : Option GEnt := sweepGroup s COL.SW_FLASK_GRP_G COL.SW_FLASK_GRP_VALID
def laneGrp (s : State) : Option GEnt := sweepGroup s COL.SW_LANE_GRP_G COL.SW_LANE_GRP_VALID
def sealGrp (s : State) : Option GEnt := sweepGroup s COL.SW_SEAL_GRP_G COL.SW_SEAL_GRP_VALID

/-- R347: the lane group as the tree of R155, whatever its `KIND` (R334). -/
def asTree (e : GEnt) : GEnt := { e with kind := 2, op := 0 }

/-- R359: a sweep operation ends with a status; its COL source is raised. -/
def sweepFinish (s : State) (c : Nat) (i : Iss) (q : Requester) (st moved : Nat) : State :=
  let s := if stSealBlockBad ≤ st ∧ st ≤ stSweepGroup then raiseFor .col 0 13 st i.seq s else s
  runFinish { s := s, st := st, moved := moved } c i { q with retry := false, corr := false, hit := false } (moveEnd s c i q moved)

/-- The status of the first piece of a descriptor's sources that failed, in the order of R247. -/
def sourceStatus (q : Requester) : Nat :=
  let bads := (q.got.filter (fun x => x.2.bad != 0)).map (fun x => x.2.bad)
  if bads.contains 2 then stSrcUnc else if bads.contains 1 then stSrcCrc else if bads.contains 3 then stIngotFail
  else if bads.contains 4 then stRemoteFail else stOk

/-! ## The retained gradient (R355) -/

/-- R355: the retained gradient is released: `SW_REL_TOK` is signalled once on each core it names. -/
def releaseGrad (s : State) : State :=
  if s.flag COL.SW_STATE_RETAINED then
    let s := s.setFld COL.SW_STATE_RETAINED 0
    let r := s.reg COL.SW_REL_TOK
    if bit r 16 then
      (List.range 4).foldl (fun s c => if bit r (12 + c) then signalToken s c (bits r 0 12) s.ck else s) s
    else s
  else s

/-- SW_CMD_RELEASE (R355). -/
def execSwCmdRelease (s : State) : Host.Outcome State Fault Refusal :=
  if s.pageState .col = pgQuenched then .next s else .next (releaseGrad s)

/-- SW_CMD_CLEAR_HOLD (R354). -/
def execSwCmdClearHold (s : State) : Host.Outcome State Fault Refusal :=
  if s.pageState .col = pgQuenched then .next s else .next (s.setFld COL.SW_STATE_HELD 0)

/-! ## The norm check (R346) -/

/-- The square root of a positive rational rounded once by RNE to FP32. -/
def sqrtFp32 (q : Rat) : Val :=
  let e := max (floorLog2 q / 2 - 23) (-149)
  let m := rneSqrt (q / pow2 (2 * e))
  let (b, _) := convFloat .fp32 .rne (Val.ofRat (m * pow2 e))
  decodeFloat .fp32 b

/-- R346: the clip factor, as an FP32 encoding: 1.0 when N ≤ c² exactly, else c / √N. -/
def clipFactor (n c : Val) : Nat :=
  let c2 := c.mul c
  if !n.isNan && !c2.isNan && !c2.lt n then coarseOne
  else match n, c with
  | .fin false q, .fin sg r =>
    if q = 0 then Fmt.fp32.nanBits
    else if r = 0 then withSign .fp32 sg 0
    else
      let (b, _) := convFloat .fp32 .rne (sqrtFp32 (r * r / q))
      withSign .fp32 sg b
  | .inf false, .fin sg _ => withSign .fp32 sg 0
  | _, _ => Fmt.fp32.nanBits

/-- R346: an image's tile header carries the required epoch: it passes R231 and its `STEP_EPOCH` is P_E. -/
def imageAt (s : State) (a pe : Nat) : Bool :=
  let t := a / 16384
  let sd := readBytes s.hbm (hbmSideAddr s t) 64
  let h := TileHdr.parse sd
  decide (t < s.reg HBM.TILEWIN) && h.valid && fieldAt sd 0x3C 4 == crc32c (slice sd 0 60) && h.stepEpoch == pe

/-- R346: the verdict word's bits [5:0] from the check block. -/
def verdictBits (s : State) (b : List Byte) : Nat :=
  let n := decodeFloat .wa64 (fieldAt b 0 8)
  let nmax := decodeFloat .wa64 (fieldAt b 8 8)
  let t := fieldAt b 0x14 4 % 2 ^ 16
  let p := fieldAt b 0x1C 4 % 2 ^ 16
  let ent := (List.range t).map (fun k => (decodeFloat .fp32 (fieldAt b (64 + 8 * k) 4), decodeFloat .fp32 (fieldAt b (68 + 8 * k) 4)))
  let img := (List.range p).map (fun k => fieldAt b (64 + 8 * t + 8 * k) 6)
  b2n (n.isNan || n.isInf) + b2n (nmax.lt n) * 2 + b2n (ent.any (fun x => x.1.isNan || x.1.isInf)) * 4 +
    b2n (ent.any (fun x => x.2.lt x.1)) * 8 + b2n (img.any (fun a => !imageAt s a (fieldAt b 0x18 4))) * 16 +
    b2n (s.flag COL.SW_STATE_HELD) * 32

/-- NCHECK (R346). The clip factor goes to region 1, then the verdict word to region 2. -/
def execNcheck (c : Core) (s : State) : Host.Outcome State Fault Refusal :=
  match runHead s c rnNcheck with
  | none => .next s
  | some (i, q) =>
    let b := gotBytes q 0 q.total
    let t := fieldAt b 0x14 4 % 2 ^ 16
    let p := fieldAt b 0x1C 4 % 2 ^ 16
    if sourceStatus q ≠ stOk then .next (sweepFinish s c i q (sourceStatus q) 0)
    else if b.length < 64 + 8 * t + 8 * p then .next (sweepFinish s c i q stBounds 0)
    else
      let v := verdictBits s b
      let sg := clipFactor (decodeFloat .wa64 (fieldAt b 0 8)) (decodeFloat .fp32 (fieldAt b 0x10 4))
      let r := putBytes { s := s } c i.seq i.desc.reg1 false 0 (leBytes 4 sg)
      let r := putBytes r c i.seq i.desc.reg2 false 0 (leBytes 4 (v + b2n (v == 0) * 2 ^ 31))
      .next (sweepFinish r.s c i q r.st p)

/-! ## The commit vote: messages and keys (R347, R349, R358) -/

/-- R358: a `VOTE` message to a member of a group. -/
def sendVote (s : State) (g : Nat) (e : GEnt) (to_ phase : Nat) (pass : Bool) (ke ka verdict : Nat) : State :=
  sendMsg s 0 0x13 (e.dev s to_) false (g + phase * 2 ^ 10 + b2n pass * 2 ^ 13)
    (leBytes 4 ke ++ leBytes 2 ka ++ leBytes 2 e.pos ++ leBytes 4 verdict)

def msgPhase (m : Packet) : Nat := bits m.word 10 3
def msgPass (m : Packet) : Bool := bit m.word 13
def msgE (m : Packet) : Nat := fieldAt m.body 0 4
def msgA (m : Packet) : Nat := fieldAt m.body 4 2
def msgPos (m : Packet) : Nat := fieldAt m.body 6 2

/-- R341: key (E, A) comes after key (E₀, A₀): E modulo 2^32 counts forward, then A. -/
def keyAfter (e a e0 a0 : Nat) : Bool :=
  let d := (e + 2 ^ 32 - e0) % 2 ^ 32
  (d != 0 && decide (d < 2 ^ 31)) || (d == 0 && decide (a0 < a))

/-- The key in progress, or else the last decided, with its decision. -/
def presentKey (s : State) : Option (Nat × Nat × Option Nat) :=
  match s.sweep.vote with
  | some v => some (v.e, v.a, v.word)
  | none => s.sweep.last.map (fun x => (x.1, x.2.1, some x.2.2))

/-! ## Deciding (R347–R349) -/

/-- A decided `VOTE` takes effect: its state and counts, the decision word, and its completion. -/
def finishVote (s : State) (v : VoteSt) (w : Nat) : State :=
  let commit := bit w 0
  let s := modSweep s (fun x => { x with vote := none, last := some (v.e, v.a, w) })
  let s := s.setFld COL.SW_STATE_VOTE (if commit then 2 else 4)
  let s := if commit then
      (if bit w 3 then raise .col 0 10 (s.bump COL.SW_CONVERTS) else s)
    else releaseGrad (raise .col 0 9 (s.bump COL.SW_SKIPS))
  match runIss s v.core, findReq s v.core 5 v.seq with
  | some i, some q =>
    if i.seq = v.seq then
      let p := putBytes { s := s } v.core i.seq i.desc.reg2 false 0 (leBytes 4 w)
      sweepFinish p.s v.core i q p.st 0
    else s
  | _, _ => s

/-- R349: the `VOTE` of the key in progress is decided with word `w`: at once in open timing, in the next boundary window in
locked timing. A device that commits sends its notices, and a decision goes on down the lane tree. -/
def decide' (s : State) (v : VoteSt) (w : Nat) : State :=
  let s := if bit w 0 then
      match flaskGrp s with
      | some e => (List.range e.n).foldl (fun s j =>
          if j = e.pos then s else sendVote s (s.fld COL.SW_FLASK_GRP_G) e j 4 true v.e v.a 0) s
      | none => s
    else s
  let s := if bit w 2 then s else match laneGrp s with
    | some e => (asTree e).sources.foldl (fun s x =>
        sendVote s (s.fld COL.SW_LANE_GRP_G) e x.1 (if bit w 0 then 2 else 3) (bit w 0) v.e v.a 0) s
    | none => s
  if s.locked then modSweep s (fun x => { x with vote := some { v with word := some w } }) else finishVote s v w

/-- R207: the boundary window of a tick completes a decision reached in the frame before. -/
def voteWindow (s : State) : State :=
  match s.sweep.vote with
  | some v => match v.word with
    | some w => finishVote s v w
    | none => s
  | none => s

/-- R347: the flask verdict, once every ballot of the flask is there. -/
def flaskVerdict (s : State) (v : VoteSt) : Option Bool :=
  match flaskGrp s with
  | none => none
  | some e => if (List.range e.n).all (fun j => v.ballots.any (fun b => b.1 == j)) then some (v.ballots.all (fun b => b.2)) else none

/-- R347: the lane stage: a node whose flask verdict and children's verdicts are there sends their AND to its parent; the root
commits before the deadline frame when every verdict is PASS, and aborts at once on any NO. -/
def laneStage (s : State) (v : VoteSt) : State :=
  let keep := fun (v : VoteSt) => modSweep s (fun x => { x with vote := some v })
  match laneGrp s with
  | none => keep v
  | some e =>
    let t := asTree e
    let fv := flaskVerdict s v
    let no := fv == some false || v.lanes.any (fun x => !x.2)
    let full := fv.isSome && t.sources.all (fun x => v.lanes.any (fun l => l.1 == x.1))
    if e.pos = 0 then
      if no then decide' s v 2
      else if full ∧ s.frame < v.deadline then decide' s v 1
      else keep v
    else if full ∧ ¬ v.laneSent then
      modSweep (sendVote s (s.fld COL.SW_LANE_GRP_G) e (treeParent e.pos) 1 (!no) v.e v.a 0)
        (fun x => { x with vote := some { v with laneSent := true } })
    else keep v

/-- R348: a commit or an abort reached from a message of phase 2, 3 or 4. An answer of a peer names the flask group. -/
def onDecision (s : State) (v : VoteSt) (m : Packet) : State :=
  let answered := msgPhase m != 4 && bits m.word 0 10 == s.fld COL.SW_FLASK_GRP_G
  if msgPhase m = 3 then decide' s v (2 + b2n answered * 16)
  else decide' s v (1 + b2n v.provisional * 8 + b2n answered * 16)

/-- A message for the key in progress. -/
def onVote (s : State) (v : VoteSt) (m : Packet) : State :=
  if v.word.isSome then s
  else if msgPhase m = 0 then
    laneStage s { v with ballots := v.ballots.filter (fun b => b.1 != msgPos m) ++ [(msgPos m, msgPass m)] }
  else if msgPhase m = 1 then
    laneStage s { v with lanes := v.lanes.filter (fun b => b.1 != msgPos m) ++ [(msgPos m, msgPass m)] }
  else if msgPhase m ≤ 4 then onDecision s v m
  else s

/-- R349: a device that has decided a key answers every ballot for it with its decision. -/
def answerBallot (s : State) (m : Packet) (w : Nat) : State :=
  match flaskGrp s with
  | some e => sendVote s (s.fld COL.SW_FLASK_GRP_G) e (msgPos m) (if bit w 0 then 2 else 3) (bit w 0) (msgE m) (msgA m) 0
  | none => s

/-- R349: a `VOTE` message: one for the key in progress acts, one for a later key is held, one for an earlier key is dropped,
and a ballot for a decided key is answered. -/
def takeVote (s : State) (m : Packet) : State :=
  let hold := fun (s : State) => modSweep s (fun x =>
    if x.heldVotes.all (fun h => msgE h == msgE m && msgA h == msgA m) then { x with heldVotes := x.heldVotes ++ [m] } else x)
  match presentKey s with
  | none => hold s
  | some (e, a, w) =>
    if e = msgE m ∧ a = msgA m then
      match w, s.sweep.vote with
      | some w, _ => if msgPhase m = 0 then answerBallot s m w else s
      | none, some v => onVote s v m
      | none, none => s
    else if keyAfter (msgE m) (msgA m) e a then hold s
    else s

/-- The oldest `VOTE` message of some phases for this device. -/
def voteRow (ok : Nat → Bool) (s : State) : Host.Outcome State Fault Refusal :=
  if s.quenched then .next s
  else match s.inbox.find? (fun x => x.2.mkind == 0x13 && x.2.tc == 0 && forMe s x.2 && ok (msgPhase x.2)) with
  | none => .next s
  | some x => .next (takeVote (freeFlits { s with inbox := s.inbox.erase x } x.1 x.2) x.2)

/-- VOTE_BALLOT (R347). -/
def execVoteBallot (s : State) : Host.Outcome State Fault Refusal := voteRow (fun p => p == 0) s
/-- VOTE_LANE_VERDICT (R347). -/
def execVoteLaneVerdict (s : State) : Host.Outcome State Fault Refusal := voteRow (fun p => p == 1) s
/-- VOTE_COMMIT_DECISION (R348). -/
def execVoteCommitDecision (s : State) : Host.Outcome State Fault Refusal := voteRow (fun p => p == 2) s
/-- VOTE_ABORT_DECISION (R348). -/
def execVoteAbortDecision (s : State) : Host.Outcome State Fault Refusal := voteRow (fun p => p == 3) s
/-- VOTE_COMMIT_NOTICE (R348). Messages of the reserved phases are taken here and dropped. -/
def execVoteCommitNotice (s : State) : Host.Outcome State Fault Refusal := voteRow (fun p => decide (4 ≤ p)) s

/-- R347: the ballots of a new vote go out, and messages held for its key act; `SW_INJ.BALLOT_DROP` keeps the first ballot
back. -/
def openVote (s : State) (v : VoteSt) (e : GEnt) : State :=
  let others := (List.range e.n).filter (fun j => j != e.pos)
  let drop := s.armed COL.SW_INJ_BALLOT_DROP && !others.isEmpty
  let s := if drop then s.disarm COL.SW_INJ_BALLOT_DROP else s
  let s := (others.drop (b2n drop)).foldl (fun s j =>
    sendVote s (s.fld COL.SW_FLASK_GRP_G) e j 0 (bit v.verdict 31) v.e v.a v.verdict) s
  let held := s.sweep.heldVotes
  let mine := held.filter (fun m => msgE m == v.e && msgA m == v.a)
  let later := held.filter (fun m => keyAfter (msgE m) (msgA m) v.e v.a)
  let s := modSweep s (fun x => { x with heldVotes := later })
  let s := laneStage s { v with ballots := [(e.pos, bit v.verdict 31)] }
  mine.foldl takeVote s

/-- VOTE (R347). A `VOTE` in execution opens the vote of its key; it completes when the key is decided. -/
def execVote (c : Core) (s : State) : Host.Outcome State Fault Refusal :=
  match runHead s c rnVote with
  | none => .next s
  | some (i, q) =>
    if s.sweep.vote.isSome then .next s
    else if sourceStatus q ≠ stOk then .next (sweepFinish s c i q (sourceStatus q) 0)
    else match flaskGrp s, laneGrp s with
    | some e, some _ =>
      let d := i.desc
      let v : VoteSt := { core := c, seq := i.seq, e := d.len0 % 2 ^ 32, a := d.len1 % 2 ^ 16, deadline := i.frame + d.aux16,
                          verdict := leNat (gotBytes q 0 q.total) % 2 ^ 32 }
      let s := (s.setReg COL.SW_EPOCH v.e).setReg COL.SW_ATTEMPT v.a
      let s := (s.setFld COL.SW_STATE_VOTE 1).setFld COL.SW_STATE_RETAINED 1
      .next (openVote s v e)
    | _, _ => .next (sweepFinish s c i q stSweepGroup 0)

/-- VOTE_DEADLINE (R348). The deadline frame has begun with no decision. -/
def execVoteDeadline (s : State) : Host.Outcome State Fault Refusal :=
  match s.sweep.vote with
  | some v =>
    if v.word.isNone ∧ ¬ v.provisional ∧ v.deadline ≤ s.frame then
      .next ((modSweep s (fun x => { x with vote := some { v with provisional := true } })).setFld COL.SW_STATE_VOTE 3)
    else .next s
  | none => .next s

/-- VOTE_GRACE_EXPIRE (R348). `GRACE` frames after the deadline the abort becomes final. -/
def execVoteGraceExpire (s : State) : Host.Outcome State Fault Refusal :=
  match s.sweep.vote with
  | some v =>
    if v.word.isNone ∧ v.provisional ∧ v.deadline + s.fld COL.SW_CTRL_GRACE ≤ s.frame then .next (decide' s v 4) else .next s
  | none => .next s

/-! ## Seals (R352–R354) -/

/-- R344: a block record. -/
def blockRecord (e block bcrc tiles : Nat) : List Byte :=
  withCrc32c (leBytes 4 e ++ leBytes 4 block ++ leBytes 8 bcrc ++ leBytes 4 tiles ++ zeros 40)

/-- R354: the seals of one epoch have all come: the seal held by more than half the members, if any. -/
def majority (vals : List Nat) : Option Nat :=
  vals.find? (fun v => decide (vals.length < 2 * (vals.filter (fun w => w == v)).length))

/-- R367: the `COMMIT` record of an epoch whose seals are equal. -/
def jnlCommit (s : State) (e v : Nat) : State :=
  let sseq := if s.riser.endSeq.1 = e then s.riser.endSeq.2 else 0
  let s := { s with jnl := { s.jnl with commit := (e, v) } }
  jnlAppend s 2 (leBytes 4 e ++ leBytes 2 (s.reg COL.SW_ATTEMPT) ++ leBytes 2 0 ++ leBytes 8 v ++ leBytes 8 sseq)

/-- R354: the seals resolved, once every member's is there. -/
def resolveSeals (s : State) : State :=
  match s.sweep.own, sealGrp s with
  | some (e, _, own), some g =>
    let of := fun (j : Nat) => if j = g.pos then some own else
      ((s.sweep.seals.find? (fun x => x.1 == e && x.2.1 == j)).map (fun x => x.2.2))
    let vals := (List.range g.n).filterMap of
    if vals.length < g.n then s
    else if vals.all (fun v => v == own) then
      let s := if s.fld COL.SW_STATE_SEAL = 2 then s else jnlCommit s e own
      releaseGrad (s.setFld COL.SW_STATE_SEAL 2)
    else
      let s := (s.setFld COL.SW_STATE_SEAL 3).bump COL.SW_MISMATCHES
      let s := match majority vals with
        | some v =>
          let odd := ((List.range g.n).find? (fun j => of j != some v)).getD 0
          s.setReg COL.SW_ODD (odd + 2 ^ 16 + b2n (own != v) * 2 ^ 18)
        | none => s.setReg COL.SW_ODD (2 ^ 17)
      let s := if s.flag COL.SW_CTRL_SEAL_HOLD then s.setFld COL.SW_STATE_HELD 1 else s
      raise .col 0 11 s
  | _, _ => s

/-- R352: `LAST` finalises the device seal and sends it to the replica group; `SW_INJ.SEAL_FLIP` inverts bit 0 of what is
sent. -/
def sendSeal (s : State) (g : GEnt) (e : Nat) : State :=
  let v := crc64Done s.sweep.acc
  let flip := s.armed COL.SW_INJ_SEAL_FLIP && decide (1 < g.n)
  let s := if flip then s.disarm COL.SW_INJ_SEAL_FLIP else s
  let out := if flip then v ^^^ 1 else v
  let s := (s.setReg COL.SW_SEAL v).setFld COL.SW_STATE_SEAL 1
  let s := (List.range g.n).foldl (fun s j =>
    if j = g.pos then s
    else sendMsg s 0 0x14 (g.dev s j) false (s.fld COL.SW_SEAL_GRP_G)
      (leBytes 4 e ++ leBytes 2 g.pos ++ leBytes 2 0 ++ leBytes 8 out)) s
  let keep := fun (y : Nat × Nat × Nat) => y.1 == e || keyAfter y.1 0 e 0
  resolveSeals (modSweep s (fun x => { x with
    own := some (e, s.frame, v), missing := false, seals := x.seals.filter keep }))

/-- SEAL (R352). `FIRST` acts before the checks, and a `SEAL` that fails one folds nothing (log entry 65). -/
def execSeal (c : Core) (s : State) : Host.Outcome State Fault Refusal :=
  match runHead s c rnSeal with
  | none => .next s
  | some (i, q) =>
    let d := i.desc
    let nt := d.reg0.bytes / 16384
    let e := d.len0 % 2 ^ 32
    let pl := gotBytes q 0 nt
    let rec_ := gotBytes q nt q.total
    let bcrc := crc64 pl
    let epoch := fieldAt rec_ 0 4
    let hok := fieldAt rec_ 0x3C 4 == crc32c (slice rec_ 0 60)
    let bad := if hok then epoch == e && fieldAt rec_ 8 8 != bcrc else epoch % 2 == e % 2
    let expect := if bit d.param 0 then 0 else s.reg COL.SW_NEXT_BLOCK
    let grp := (sealGrp s).filter (fun g => decide (g.n ≤ 256))
    let st := if sourceStatus q ≠ stOk then sourceStatus q else if bad then stSealBlockBad
      else if d.len1 ≠ expect then stSealOrder else if grp.isNone then stSweepGroup else stOk
    let s := if bit d.param 0 then (modSweep s (fun x => { x with acc := crc64Init })).setReg COL.SW_NEXT_BLOCK 0 else s
    if st ≠ stOk then .next (sweepFinish s c i q st nt)
    else
      let s := (modSweep s (fun x => { x with acc := crc64Fold x.acc pl })).setReg COL.SW_NEXT_BLOCK (d.len1 + 1)
      let p : RProg := { s := s }
      let p := if hok && epoch == e then p else putBytes p c i.seq d.reg1 false 0 (blockRecord e d.len1 bcrc nt)
      let s := match grp with
        | some g => if bit d.param 1 ∧ p.st = stOk then sendSeal p.s g e else p.s
        | none => p.s
      .next (sweepFinish s c i q p.st nt)

/-- SEAL_MESSAGE (R354). A member's seal is kept, and the seals are resolved when all are there. -/
def execSealMessage (s : State) : Host.Outcome State Fault Refusal :=
  if s.quenched then .next s
  else match takeKind s 0x14 with
  | none => .next s
  | some (_, m, s) =>
    let e := fieldAt m.body 0 4
    let pos := fieldAt m.body 4 2
    let v := fieldAt m.body 8 8
    if bits m.word 0 10 ≠ s.fld COL.SW_SEAL_GRP_G ∨ s.sweep.seals.contains (e, pos, v) then .next s
    else
      let s := modSweep s (fun x => { x with seals := x.seals.filter (fun y => !(y.1 == e && y.2.1 == pos)) ++ [(e, pos, v)] })
      .next (if s.sweep.own.any (fun o => o.1 == e) then resolveSeals s else s)

/-- SEAL_TIMEOUT (R354). A seal is missing `SEAL_FRAMES` frames after this device's own. -/
def execSealTimeout (s : State) : Host.Outcome State Fault Refusal :=
  match s.sweep.own with
  | some (_, f, _) =>
    if s.fld COL.SW_STATE_SEAL = 1 ∧ ¬ s.sweep.missing ∧ f + s.fld COL.SW_CTRL_SEAL_FRAMES < s.frame then
      .next (raise .col 0 12 (modSweep s (fun x => { x with missing := true })))
    else .next s
  | none => .next s

end Sys2Proof.Machine
end

