-- ==== Sys2Proof/Machine/Journal.lean ====
section
/-!
DEFINITION. Machine/Journal.lean: chapter 15: the lifetime counters (R364, R365) and the journal (R367–R370, R372).
-/
namespace Sys2Proof.Machine

open Sys2Proof

/-! ## Lifetime counters (R364, R365) -/

/-- ck per second in the active profile. -/
def ckPerS (s : State) : Nat := s.ckPerUs * 1000000

/-- R364: a lifetime counter as it reads now: its value at the last reset and what has come since. -/
def lifeValue (s : State) (i : Nat) : Nat :=
  let v := s.life.getD i 0
  let sec := s.ck / ckPerS s
  match i with
  | 0 => satN 64 (v + sec)
  | 1 => satN 64 (v + (if s.endurance then 0 else sec))
  | 2 => satN 64 (v + (if s.endurance then sec else 0))
  | 8 => satN 64 (v + s.hotCk / ckPerS s)
  | 10 => s.reg ING.WB_BUCKET
  | 11 => (v + s.reg ING.WB_USED) % 2 ^ 64
  | 12 => (v + s.reg ING.HOST_BYTES) % 2 ^ 64
  | 14 => satN 32 (satN 64 (s.life.getD 0 0 + sec) / 86400)
  | _ => v

/-- The fifteen counters. -/
def lifeValues (s : State) : List Nat := (List.range 15).map (lifeValue s)

/-- The counters as a record's payload. -/
def lifeBytes (vs : List Nat) : List Byte := (List.range 15).flatMap (fun i => leBytes 8 (vs.getD i 0))

/-- R367: a `COUNTERS` record. -/
def jnlCounters (s : State) : State := jnlAppend s 0x0B (lifeBytes (lifeValues s))

/-- R365: the counters are saved into the copy with the lower generation, and a `COUNTERS` record is appended. -/
def lifeSave (s : State) : State :=
  let a := s.lifeImg[0]
  let b := s.lifeImg[1]
  let k := if b.gen < a.gen then 1 else 0
  let img : LifeImg := { ok := true, gen := max a.gen b.gen + 1, seq := s.reg ING.JNL_SEQ, counters := lifeValues s }
  match programOwn s 5 k with
  | none => s
  | some s => jnlCounters { s with lifeImg := s.lifeImg.mapIdx (fun i x => if i = k then img else x), lifeCk := s.ck }

/-- LIFE_SAVE (R365). `SAVE_MIN` minutes after the last save. -/
def execLifeSave (s : State) : Host.Outcome State Fault Refusal :=
  if ingRuns s then .next (lifeSave (s.upTo (s.lifeCk + s.fld ING.LIFE_CTRL_SAVE_MIN * 60 * ckPerS s))) else .next s

/-! ## Programming pages (R368, R369) -/

/-- The journal sequence of the second-newest `SNAPSHOT` among the programmed records, and of the newest. -/
def snapSeqs (s : State) : List Nat :=
  ((s.jnl.pages.flatMap (fun p => if p.2.1 then p.2.2 else [])).filter (fun r => r.type == 1)).map JRec.seq

/-- R369: a page whose records all precede a sequence. -/
def pageBefore (q : Nat) (p : Nat × Bool × List JRec) : Bool := p.2.2.all (fun r => decide (r.seq < q))

/-- R369: area 2 freed: the pages before the second-newest `SNAPSHOT`, or, in a full ring, the oldest before the newest. -/
def freePages (s : State) : State :=
  let q := (snapSeqs s).reverse
  let gone := match q with
    | _ :: b :: _ => s.jnl.pages.filter (pageBefore b)
    | _ => []
  let full := decide (s.reg ING.AREA_TILES 0 2 ≤ s.jnl.pages.length)
  let gone := if gone = [] ∧ full then
      (match q, s.jnl.pages with
       | a :: _, p :: _ => if pageBefore a p then [p] else []
       | _, _ => [])
    else gone
  { s with jnl := { s.jnl with pages := s.jnl.pages.filter (fun p => !gone.contains p) },
           ing := { s.ing with map := gone.foldl (fun m p => sset 0 m (mapKey 2 p.1) 0) s.ing.map } }

/-- R368: the durable appends on a programmed page complete, as Ingot writes do. -/
def durableDone (s : State) (last : Nat) : State :=
  let done := s.jnl.durable.filter (fun d => decide (d.2.2 ≤ last))
  let s := { s with jnl := { s.jnl with durable := s.jnl.durable.filter (fun d => decide (last < d.2.2)) } }
  done.foldl (fun s d =>
    let s := touchFin s d.1 d.2.1 s.ck
    if s.locked then { s with ext := s.ext ++ [.written d.1 d.2.1] } else s) s

/-- R368: the first records of the tail, up to four, are programmed as one page, filled with `PAD` records. `none` where area
2 has no free tile or no page can be programmed. -/
def jnlProgram (s : State) : Option State :=
  if s.reg ING.AREA_TILES 0 2 = 0 ∨ s.jnl.tail = [] then none
  else
    let s := freePages s
    if s.reg ING.AREA_TILES 0 2 ≤ s.jnl.pages.length then none
    else
      let rs := s.jnl.tail.take 4
      let t := s.jnl.nextTile % s.reg ING.AREA_TILES 0 2
      (programOwn s 2 t).map (fun s =>
        let last := (rs.getLast?.map JRec.seq).getD 0
        let j := s.jnl
        let s := { s with jnl := { j with tail := j.tail.drop 4, pages := j.pages ++ [(t, true, rs)], nextTile := t + 1,
                                          syncFrame := s.frame, pagesSinceSnap := j.pagesSinceSnap + 1 } }
        let s := s.setReg ING.JNL_DURABLE last
        let s := s.setReg ING.JNL_TAIL (ceilDiv s.jnl.tail.length 4)
        jnlDrain 4096 (durableDone s last))

/-- JOURNAL_PAGE_PROGRAM (R368). A page whose four records are filled, or on which a durable append waits, is programmed. -/
def execJournalPageProgram (s : State) : Host.Outcome State Fault Refusal :=
  if s.pageState .ing ≠ pgOn ∨ jnlInSram s then .next s
  else if 4 ≤ s.jnl.tail.length ∨ ¬ s.jnl.durable.isEmpty then .next ((jnlProgram s).getD s)
  else .next s

/-- JOURNAL_SYNC (R368). `SYNC_FRAMES` frames after the last program a partly filled page is programmed. -/
def execJournalSync (s : State) : Host.Outcome State Fault Refusal :=
  if s.pageState .ing ≠ pgOn ∨ jnlInSram s then .next s
  else if s.jnl.syncFrame + s.fld ING.JNL_CTRL_SYNC_FRAMES ≤ s.frame then .next ((jnlProgram s).getD s)
  else .next s

/-! ## Snapshots (R369) -/

/-- The generation of the calibration in force. -/
def calGen (s : State) : Nat := max s.cal.images[0].gen s.cal.images[1].gen

/-- R367: what a `SNAPSHOT` carries; the order of its fields is the model's (log entry 47). -/
def snapPayload (s : State) : List Byte :=
  lifeBytes (lifeValues s) ++ leBytes 8 (calGen s) ++
  leBytes 4 s.jnl.commit.1 ++ leBytes 8 s.jnl.commit.2 ++
  leBytes 4 (s.reg ING.RSR_KEY_EPOCH) ++ leBytes 8 (s.riser.keySeq.getD 0) ++ leBytes 8 (s.reg ING.RSR_SEQ) ++
  leBytes 8 (s.reg TUN.SPARE_MAP 0) ++ leBytes 8 (s.reg TUN.SPARE_MAP 1) ++
  leBytes 8 ((List.range 16).foldl (fun m ch => m + s.fld INGCH.CH_STATE_TGT_RETIRED ch * 2 ^ (4 * ch)) 0)

/-- R369: a `SNAPSHOT` is appended. -/
def jnlSnapshot (s : State) : State :=
  let q := s.reg ING.JNL_SEQ
  let s := jnlAppend s 1 (snapPayload s)
  { s with jnl := { s.jnl with pagesSinceSnap := 0, snapDue := false } }.setReg ING.JNL_SNAP_SEQ q

/-- SNAPSHOT_APPEND (R369). After `SNAP_PAGES` pages, or when a target that holds journal pages has failed. -/
def execSnapshotAppend (s : State) : Host.Outcome State Fault Refusal :=
  if s.pageState .ing = pgOn ∧ (s.jnl.snapDue ∨ s.fld ING.JNL_CTRL_SNAP_PAGES ≤ s.jnl.pagesSinceSnap) then
    .next (freePages (jnlSnapshot s))
  else .next s

/-! ## JAPPEND (R368) -/

/-- JAPPEND (R368). A record of the program enters the tail, or waits for room; a `DURABLE` one completes when its page is
programmed. -/
def execJappend (c : Core) (s : State) : Host.Outcome State Fault Refusal :=
  match runHead s c rnJappend with
  | none => .next s
  | some (i, q) =>
    let d := i.desc
    if sourceStatus q ≠ stOk then .next (sweepFinish s c i q (sourceStatus q) 0)
    else if !jnlRoom s then .next (s.setFld ING.JNL_STATE_TAIL_FULL 1)
    else
      let n := s.reg ING.JNL_SEQ
      let s := jnlPush s (d.len1 % 2 ^ 16) ((gotBytes q 0 q.total).take d.len0) (c + 1) 0
      let s := if bit d.param 0 then { s with jnl := { s.jnl with durable := s.jnl.durable ++ [((c : Nat), i.seq, n)] } } else s
      .next (sweepFinish s c i q stOk 0)

/-! ## The power-fail flush (R371) -/

/-- The pages a tail of records takes. -/
def tailPages : Nat → List JRec → List (List JRec)
  | 0, _ => []
  | n + 1, rs => if rs = [] then [] else rs.take 4 :: tailPages n (rs.drop 4)

/-- R371: the tail is programmed, but for its last page where `JNL_INJ.TORN` is set; then the map log. -/
def flushTail (s : State) : State :=
  let ps := tailPages s.jnl.tail.length s.jnl.tail
  let torn := s.armed ING.JNL_INJ_TORN && decide (1 ≤ ps.length)
  let s := if torn then s.disarm ING.JNL_INJ_TORN else s
  let n := ps.length - b2n torn
  let s := (List.range n).foldl (fun s _ => (jnlProgram s).getD s) s
  logFlush { s with jnl := { s.jnl with flushLost := s.jnl.flushLost || !s.jnl.tail.isEmpty, tail := [] } }

/-! ## Replay (R365, R370) -/

/-- The records of a list that run on with consecutive `SEQ`. -/
def runFrom : Nat → List JRec → List JRec
  | _, [] => []
  | q, r :: rs => if r.seq = q then r :: runFrom (q + 1) rs else []

/-- The records from the newest `SNAPSHOT` on; all of them where there is none. -/
def fromSnapshot (rs : List JRec) : List JRec :=
  match (rs.reverse.find? (fun r => r.type == 1)) with
  | some x => rs.dropWhile (fun r => r.seq != x.seq)
  | none => rs

/-- R370: the journal replayed: its last whole run is kept, later records are discarded and counted, and the gap recorded. -/
def jnlReplay (s : State) : State :=
  let all := s.jnl.pages.flatMap (fun p => if p.2.1 && !(((mapped s 2 p.1).map (fun x => s.ing.dead.contains x ||
    tgtFailed s (pageTgt x))).getD true) then p.2.2 else [])
  let tail := fromSnapshot all
  let run := runFrom ((tail.head?.map JRec.seq).getD 0) tail
  let lost := tail.drop run.length
  let l := (run.getLast?.map JRec.seq).getD 0
  let before := all.take (all.length - tail.length)
  let gapBefore := !(runFrom ((before.head?.map JRec.seq).getD 0) (before ++ tail.take 1)).length == before.length + min 1 tail.length
  let next := if run = [] then s.reg ING.JNL_SEQ else l + 1
  let keep := fun (r : JRec) => decide (r.seq < next)
  let pages := (s.jnl.pages.map (fun p => (p.1, p.2.1, p.2.2.filter keep))).filter (fun p => !p.2.2.isEmpty)
  let s := { s with jnl := { s.jnl with pages := pages, tail := [], waiting := [], durable := [] } }
  let s := ((s.setReg ING.JNL_SEQ next).setReg ING.JNL_DURABLE l).bump ING.JNL_DISCARDED lost.length
  let s := (s.setReg ING.JNL_TAIL 0).setReg ING.JNL_SNAP_SEQ ((snapSeqs s).getLast?.getD 0)
  let s := s.setFld ING.JNL_STATE_REPLAYED 1
  let gap := !lost.isEmpty || (gapBefore && !before.isEmpty)
  let s := if gap then raise .ing 0 10 (s.setFld ING.JNL_STATE_GAP_SEEN 1) else s
  if lost.isEmpty then s
  else jnlAppend s 0x0A (leBytes 8 next ++ leBytes 8 ((lost.getLast?.map JRec.seq).getD 0))

/-- R365: the counters at start-up: the valid image with the later generation, then the newest record found by replay if
that is later. -/
def lifeLoad (s : State) : State :=
  let a := s.lifeImg[0]
  let b := s.lifeImg[1]
  let s := if !a.ok && !b.ok then raiseNotify .ing 0 14 s else if a.ok && b.ok then s else raise .ing 0 14 s
  let best := if a.ok ∧ (¬ b.ok ∨ b.gen ≤ a.gen) then some a else if b.ok then some b else none
  let rs := (s.jnl.pages.flatMap (fun p => if p.2.1 then p.2.2 else [])).filter (fun r => r.type == 1 || r.type == 0x0B)
  let newest := rs.getLast?
  let fromRec := fun (r : JRec) => (List.range 15).map (fun i => fieldAt r.payload (8 * i) 8)
  let s := { s with lifeCk := 0 }
  match best, newest with
  | some x, some r => { s with life := if x.seq < r.seq then fromRec r else x.counters }
  | some x, none => { s with life := x.counters }
  | none, some r => { s with life := fromRec r }
  | none, none => { s with life := List.replicate 15 0 }

end Sys2Proof.Machine
end

