-- ==== Sys2Proof/Machine/Cal.lean ====
section
/-!
DEFINITION. Machine/Cal.lean: the calibration overlay of chapter 19 (R443–R446), its images (R366), the slew of rail set
points (R444) and writes of the profile request (R6).
-/
namespace Sys2Proof.Machine

open Sys2Proof

/-! ## Items (R443) -/

/-- An entry of a list of offsets by item, and the list with an entry set or removed. -/
def offGet (l : List (Nat × Int)) (i : Nat) : Option Int := (l.find? (fun x => x.1 == i)).map Prod.snd
def offPut (l : List (Nat × Int)) (i : Nat) (v : Option Int) : List (Nat × Int) :=
  let l := l.filter (fun x => x.1 != i)
  match v with | some v => l ++ [(i, v)] | none => l

/-- R443: the items this stepping defines. -/
def calItems : List Nat := [0, 1] ++ (List.range 10).map (· + 16) ++ (List.range 4).map (· + 32) ++ (List.range 24).map (· + 64)

/-- R443, R408: the published range of an item. -/
def calRange (i : Nat) : Int × Int :=
  if i = 0 then (0, 1) else if i = 1 then (0, 131071)
  else if 16 ≤ i ∧ i < 26 then
    match (i - 16) % 5 with | 0 => (650, 800) | 1 => (750, 900) | 2 => (700, 800) | 3 => (700, 800) | _ => (750, 850)
  else if 32 ≤ i ∧ i < 36 then (-50, 50) else (0, 15)

/-- R443: the factory value of an item. -/
def calFactory (s : State) (i : Nat) : Int := sget 0 s.cal.factory i

/-- R443: clamp(factory + offset, min, max). -/
def calValue (s : State) (i : Nat) (off : Option Int) : Int :=
  max (calRange i).1 (min (calRange i).2 (calFactory s i + off.getD 0))

/-- The effective value in force of an item. -/
def calEffective (s : State) (i : Nat) : Int := calValue s i (offGet s.cal.applied i)

/-- R445: the item's sum as applied lies outside its range. -/
def calClamped (s : State) (i : Nat) : Bool :=
  let x := calFactory s i + (offGet s.cal.target i).getD 0
  decide (x < (calRange i).1 ∨ (calRange i).2 < x)

/-- A change of the calibration beyond its registers. -/
def modCal (s : State) (f : CalSt → CalSt) : State := { s with cal := f s.cal }

/-- R443: the offset applied to an item comes into force. -/
def calForce (s : State) (i : Nat) : State := modCal s (fun c => { c with applied := offPut c.applied i (offGet c.target i) })

/-- R443: junction sensor offsets come into force at the tick. -/
def calAtTick (s : State) : State := [32, 33, 34, 35].foldl calForce s

/-- R408: the rail set point in force in mV: adjustable rails by their item, the others fixed. -/
def railSet (s : State) (rail casting : Nat) : Nat :=
  let item := fun (r : Nat) => sget 0 s.cal.rails (16 + 5 * casting + r)
  match rail with
  | 0 => item 0 | 1 => item 1 | 2 => item 2 | 3 => item 3 | 7 => item 4
  | 4 => 1100 | 5 => 400 | 6 => 1800 | 8 => 1200 | 9 => 1200 | 10 => if casting = 0 then 1800 else 0 | _ => 0

/-- R455: at start-up every adjustable rail starts at its factory set point. -/
def railsStart (s : State) : State :=
  modCal s (fun c => { c with rails := (List.range 10).foldl (fun m i => sset 0 m (16 + i) (calValue s (16 + i) none).toNat) c.rails })

/-! ## Commands (R445) -/

/-- R445: an item's user offset is applied: an out-of-range sum is clamped and reported; a rail takes it at once. -/
def calApplyItem (s : State) (i : Nat) : State :=
  let s := modCal s (fun c => { c with target := offPut c.target i (offGet c.user i) })
  let s := if 16 ≤ i ∧ i < 26 then calForce s i else s
  if calItems.contains i && calClamped s i then raise .cal 0 5 s else s

/-- CAL_APPLY (R445). Every edited item takes effect in its class. -/
def execCalApply (s : State) : Host.Outcome State Fault Refusal :=
  let s := s.cal.edited.foldl calApplyItem s
  .next ((modCal s (fun c => { c with edited := [] })).setFld CAL.CAL_STATE_EDITED 0)

/-- R366: the user image is written: the copy of the lower generation first, then the other, and a `CAL_WRITE` record. -/
def calSave (s : State) : State :=
  if !ingRuns s then s
  else
    let g := calGen s + 1
    let img : CalImg := { ok := true, gen := g, entries := s.cal.user }
    let first := if s.cal.images[1].gen < s.cal.images[0].gen then 1 else 0
    match programOwn s 4 first with
    | none => s
    | some s =>
      let s := modCal s (fun c => { c with images := c.images.mapIdx (fun i x => if i = first then img else x) })
      match programOwn s 4 (1 - first) with
      | none => s
      | some s =>
        let s := modCal s (fun c => { c with images := c.images.map (fun _ => img) })
        jnlAppend ((s.setReg CAL.CAL_GEN g).setFld CAL.CAL_STATE_USER_VALID 1) 6 (leBytes 8 g)

/-- CAL_SAVE (R366, R445). -/
def execCalSave (s : State) : Host.Outcome State Fault Refusal := .next (calSave s)

/-- CAL_CLEAR (R445). The selected item's user offset becomes absent; like any edit it takes effect at `APPLY`. -/
def execCalClear (s : State) : Host.Outcome State Fault Refusal :=
  let i := s.fld CAL.CAL_SEL_I
  if calItems.contains i then
    .next ((modCal s (fun c => { c with
      user := offPut c.user i none, edited := if c.edited.contains i then c.edited else c.edited ++ [i] })).setFld
      CAL.CAL_STATE_EDITED 1)
  else .next s

/-- R445: a write of `CAL_USER`: the selected item's offset is edited. -/
def calUserWrite (s : State) (v : Int) : State :=
  let i := s.fld CAL.CAL_SEL_I
  if calItems.contains i then
    (modCal s (fun c => { c with
      user := offPut c.user i (some v), edited := if c.edited.contains i then c.edited else c.edited ++ [i] })).setFld
      CAL.CAL_STATE_EDITED 1
  else s

/-- R366, R446: the valid copy with the later generation, if one is valid, and both copies made equal to it. -/
def calImage (s : State) : Option CalImg × State :=
  let a := s.cal.images[0]
  let b := s.cal.images[1]
  let s := if a.ok then s else raise .ing 0 13 s
  let s := if b.ok then s else raise .ing 0 13 s
  let best := if a.ok ∧ (¬ b.ok ∨ b.gen ≤ a.gen) then some a else if b.ok then some b else none
  match best with
  | some x => (some x, [0, 1].foldl (fun s k =>
      if s.cal.images.toList[k]? = some x then s
      else match programOwn s 4 k with
        | some s => modCal s (fun c => { c with images := c.images.mapIdx (fun i y => if i = k then x else y) })
        | none => s) s)
  | none => (none, s)

/-- R446: the user offsets of an image taken over: entries of undefined items are kept, ignored and counted. -/
def calTake (s : State) (x : Option CalImg) : State :=
  match x with
  | some x =>
    let s := modCal s (fun c => { c with user := x.entries, edited := [] })
    let s := s.setFld CAL.CAL_STATE_UNKNOWN (min 4095 (x.entries.filter (fun e => !calItems.contains e.1)).length)
    ((s.setReg CAL.CAL_GEN x.gen).setFld CAL.CAL_STATE_USER_VALID 1).setFld CAL.CAL_STATE_EDITED 0
  | none =>
    let s := modCal s (fun c => { c with user := [], edited := [] })
    raise .cal 0 4 ((s.setFld CAL.CAL_STATE_USER_VALID 0).setFld CAL.CAL_STATE_EDITED 0)

/-- CAL_RELOAD (R445). The user image is read back, and every item is applied in its class. -/
def execCalReload (s : State) : Host.Outcome State Fault Refusal :=
  let (x, s) := calImage s
  .next (calItems.foldl calApplyItem (calTake s x))

/-- R366, R443, R455: calibration at start-up: every item is applied and in force. -/
def calLoad (s : State) : State :=
  let (x, s) := calImage s
  let s := calItems.foldl calApplyItem (calTake s x)
  (calItems.filter (fun i => i < 64)).foldl calForce s

/-- RAIL_SLEW_STEP (R444). 10 µs on, every adjustable rail moves 5 mV toward its effective value. -/
def execRailSlewStep (s : State) : Host.Outcome State Fault Refusal :=
  let s := s.upTo (s.ck + 10 * s.ckPerUs)
  .next (modCal s (fun c => { c with rails := (List.range 10).foldl (fun m k =>
    let now := sget 0 m (16 + k)
    let to_ := (calEffective s (16 + k)).toNat
    sset 0 m (16 + k) (if now < to_ then min to_ (now + 5) else max to_ (now - 5))) c.rails }))

/-! ## The profile request (R6) -/

/-- R11: the RWL fields of a page are locked. -/
def rwlLocked (s : State) (p : PageKind) (inst : Nat) : Bool := s.flag (HDR.PAGE_LOCK_RWL p) inst

/-- GRD_PROFILE_REQ_WRITE (R6). The request is stored; after `READY` the user offset of item 0 follows it and the image is
saved. -/
def execGrdProfileReqWrite (v : Bool) (s : State) : Host.Outcome State Fault Refusal :=
  if rwlLocked s .grd 0 then .next s
  else
    let s := s.setFld GRD.GRD_PROFILE_REQ (b2n v)
    if s.flag STW.BOOT_STATE_READY then
      let off := some ((b2n v : Nat) - calFactory s 0)
      .next (calSave (modCal s (fun c => { c with user := offPut c.user 0 off, target := offPut c.target 0 off })))
    else .next s

end Sys2Proof.Machine
end

