-- ==== Sys2Proof/Machine/Kept.lean ====
section
/-!
DEFINITION. Machine/Kept.lean: what each reset level keeps (R14, R462), and what is left when the regulators stop (R373).
-/
namespace Sys2Proof.Machine

open Sys2Proof

/-- R462: the registers that a warm reset holds and a cold reset clears. -/
def coldClears : List Reg :=
  [STW.Q_CAUSE, STW.Q_COUNT, STW.Q_FRAME, STW.Q_NONCE, HBM.STATE, HBM.LOST_CAUSE, TUN.SPARE_MAP, GRD.GRD_PROMOTE]

/-- R14, R387: the bits of a register that a reset leaves as they were. -/
def keptBits (cold : Bool) (r : Reg) : Nat :=
  if cold && (coldClears.contains r || r.off == 0xF8) then 0 else r.held

/-- R14, R462: the registers after a reset: their reset values, but for the bits that are not reset. -/
def keptRegs (cold : Bool) (m : SMap Word) : SMap Word :=
  m.filterMap (fun e =>
    match regAt e.1 with
    | some l => let x := e.2 &&& BitVec.ofNat 64 (keptBits cold l.reg); if x = 0 then none else some (e.1, x)
    | none => none)

/-- R462: the state a warm or cold reset begins from. -/
def resetKeeps (s : State) (cold : Bool) : State :=
  { pending := s.pending
    regs := keptRegs cold s.regs
    fuses := s.fuses
    freeCtr := s.freeCtr
    cores := s.cores.map (fun c => ({ ldl := if cold then {} else { cache := c.ldl.cache, cacheBad := c.ldl.cacheBad } } : CoreSt))
    tun := if cold then {} else { fenced := s.tun.fenced }
    hbm := if cold then [] else s.hbm
    ing := { s.ing with mapc := [], writes := [], log := 0, held := false }
    jnl := { s.jnl with tail := [], waiting := [], durable := [], syncFrame := 0, tripped := false }
    riser := s.riser
    life := s.life
    lifeImg := s.lifeImg
    cal := { rails := s.cal.rails, factory := s.cal.factory, images := s.cal.images }
    tru := { vendor := s.tru.vendor, idPriv := s.tru.idPriv, stored := s.tru.stored, rec3 := s.tru.rec3 }
    pwr := { railFails := s.pwr.railFails }
    svc := if cold then { sbAddr := s.svc.sbAddr }
      else { sbAddr := s.svc.sbAddr, sb := s.svc.sb, jtag := s.svc.jtag, attnHeld := s.svc.attnHeld, selfRef := s.svc.selfRef } }

/-- R373, R463: the regulators have stopped: only what needs no power is left, and a tail not yet programmed is cut. -/
def powerLost (s : State) : State :=
  let cut := s.jnl.flushLost || !s.jnl.tail.isEmpty
  let s := resetKeeps s true
  { s with jnl := { s.jnl with flushLost := cut }, svc := { s.svc with off := true } }

end Sys2Proof.Machine
end

