-- ==== Sys2Proof/Machine/Quench.lean ====
section
/-!
DEFINITION. Machine/Quench.lean: chapter 16: quench entry and the safe state (R392, R393), the fault registers software
clears (R384, R385), header parity (R391) and the control-core watchdog (R401).
-/
namespace Sys2Proof.Machine

open Sys2Proof

/-- QUENCH_ENTRY (R392). One or more causes reach the Quench controller in one ck; codes other than 1–6 name no cause. -/
def execQuenchEntry (q : QCause) (qs : List QCause) (s : State) : Host.Outcome State Fault Refusal :=
  match (q :: qs).filter (fun x => decide (1 ≤ x.code ∧ x.code ≤ 6)) with
  | [] => .next s
  | x :: xs => .next (quench s x xs)

/-- Q_SWREQ (R392). A write of 0x51E4 quenches with cause 6. -/
def execQSwreq (v : BitVec 32) (s : State) : Host.Outcome State Fault Refusal :=
  if v.toNat % 2 ^ 16 = 0x51E4 then .next (quench s ⟨6, 0, 0, 0⟩ []) else .next s

/-- SAFE_STATE_REACHED (R393). 2 µs after entry everything except the flash is in the safe state: every array is COLD, `SAFE`
is set and the `SERVICE` lamp is steady. -/
def execSafeStateReached (s : State) : Host.Outcome State Fault Refusal :=
  if s.quenched && !s.flag STW.Q_STATE_SAFE then
    let s := s.upTo (s.pwr.qCk + 2 * s.ckPerUs)
    let s := (List.range 4).foldl (fun s c => if s.fld MLD.STATE_ARRAY c = 3 then s.setFld MLD.STATE_ARRAY 0 c else s) s
    let s := { s with svc := { s.svc with selfRef := true } }
    .next ((s.setFld STW.Q_STATE_SAFE 1).setFld STW.SVC_LAMP_SERVICE 1)
  else .next s

/-- R280, R393: every program in flight completes and its map update is entered. -/
def landAll (s : State) : State :=
  (s.ing.writes.filter (fun w => w.page.isSome)).foldl (fun s w =>
    let p := w.page.getD 0
    if tgtFailed s (pageTgt p) then s else landWrite (s.upTo (w.startCk + tgtTProg s (pageTgt p) * s.ckPerUs)) w p) s

/-- FLASH_QUIESCED (R393). The flash programs in flight at quench entry have completed; `FLASH_BUSY` clears. -/
def execFlashQuiesced (s : State) : Host.Outcome State Fault Refusal :=
  if s.quenched && s.flag STW.Q_STATE_FLASH_BUSY then .next ((landAll s).setFld STW.Q_STATE_FLASH_BUSY 0) else .next s

/-! ## Fault registers (R384, R385) -/

/-- The page an offset of the register window lies in, its instance and the offset in the page, unless the page is FUSED. -/
def headerAt (s : State) (a : Nat) : Option (PageKind × Nat × Nat) :=
  match pageAt a with
  | some (p, i) => if s.pageState p i = pgFused then none else some (p, i, a - p.base i)
  | none => none

/-- FLT_STATUS_CLEAR (R385). A write of ones to a page's `FLT_STATUS` (or to its high half) clears those bits and nothing
else. -/
def execFltStatusClear (a : BitVec 26) (v : BitVec 64) (s : State) : Host.Outcome State Fault Refusal :=
  match headerAt s a.toNat with
  | some (p, i, o) =>
    let clear := if o = 0x10 then v.toNat else if o = 0x14 then v.toNat % 2 ^ 32 * 2 ^ 32 else 0
    let st := s.reg (HDR.FLT_STATUS p) i
    .next (s.setReg (HDR.FLT_STATUS p) (st - (st &&& clear)) i)
  | none => .next s

/-- FLT_FIRST_CLEAR (R385). Writing 1 to a page's `FLT_FIRST.VALID` clears it, so that the next source raised is captured. -/
def execFltFirstClear (a : BitVec 26) (s : State) : Host.Outcome State Fault Refusal :=
  match headerAt s a.toNat with
  | some (p, i, o) => if o = 0x30 then .next (s.setFld (HDR.FLT_FIRST_VALID p) 0 i) else .next s
  | none => .next s

/-! ## Header parity (R391) -/

/-- R391: a header word of a page is read with a parity error: `ERR` and the word of the first error, and source 0, which
quenches the device. -/
def headerParity (s : State) (p : PageKind) (i word : Nat) : State :=
  let s := if s.flag (HDR.HDR_PARITY_ERR p) i then s
    else (s.setFld (HDR.HDR_PARITY_ERR p) 1 i).setFld (HDR.HDR_PARITY_WORD p) word i
  raise p i 0 (s.disarm (HDR.HDR_PARITY_INJ p) i)

/-- HEADER_PARITY_ERROR (R391). The header word at an offset of the window is found with a parity error. -/
def execHeaderParityError (a : BitVec 26) (s : State) : Host.Outcome State Fault Refusal :=
  match headerAt s a.toNat with
  | some (p, i, o) => if o < 0x100 then .next (headerParity s p i (o / 4)) else .next s
  | none => .next s

/-! ## The watchdog (R401) -/

/-- The watchdog period of a control core begins again. -/
def wdogStart (s : State) (k t : Nat) : State :=
  { s with pwr := { s.pwr with wdogCk := s.pwr.wdogCk.mapIdx (fun i x => if i = k then t else x) } }

/-- WDOG_KICK (R401). A control core writes its index: its missed period is cleared and its period begins again. -/
def execWdogKick (k : Fin 4) (s : State) : Host.Outcome State Fault Refusal :=
  .next (wdogStart (s.setFld STW.WDOG_STATE_MISSED (setBits (s.fld STW.WDOG_STATE_MISSED) k 1 0)) k s.ck)

/-- WDOG_PERIOD_EXPIRE (R401). A watched control core's period passes without a kick: the first miss raises STW source 4,
the second in a row quenches the device with cause 5. -/
def execWdogPeriodExpire (k : Fin 4) (s : State) : Host.Outcome State Fault Refusal :=
  if bit (s.fld STW.WDOG_CTRL_ARMED) k then
    let t := (s.pwr.wdogCk.toList.getD k 0) + s.fld STW.WDOG_CTRL_PERIOD * 1000 * s.ckPerUs
    let s := wdogStart (s.upTo t) k (s.upTo t).ck
    if bit (s.fld STW.WDOG_STATE_MISSED) k then .next (quench s ⟨5, 0, 0, 0⟩ [])
    else .next (raise .stw 0 4 (s.setFld STW.WDOG_STATE_MISSED (setBits (s.fld STW.WDOG_STATE_MISSED) k 1 1)))
  else .next s

end Sys2Proof.Machine
end

