-- ==== Sys2Proof/Machine/Power.lean ====
section
/-!
DEFINITION. Machine/Power.lean: chapter 17 but for what happens at a tick: input samples and over-current (R405, R407), rails
and clocks (R408, R415), junction sensors (R413), stagger grants (R409), pin control (R417); and the power-fail trip and
its flush (R371).
-/
namespace Sys2Proof.Machine

open Sys2Proof

/-- A change of Power & Tick beyond its registers. -/
def modPwr (s : State) (f : PwrSt → PwrSt) : State := { s with pwr := f s.pwr }

/-! ## The power-fail trip (R371, R463) -/

/-- R371: the trip. The device quenches with cause 2, and the `PWR_FAIL` and `COUNTERS` records enter the page kept for them.
A second trip before a reset is ignored; in start-up step 1 the regulators stop, and before step 3 ends nothing is flushed
(R463). -/
def powerFail (s : State) (pin : Bool) (mv : Nat) : State :=
  if s.jnl.tripped then s
  else if s.fld STW.BOOT_STATE_STEP = 1 then powerLost s
  else
    let s := { s with jnl := { s.jnl with tripped := true } }
    let s := quench (lifeAdd s 5 1) ⟨2, 0, 0, 0⟩ []
    if s.fld STW.BOOT_STATE_STEP ≤ 3 then s
    else
      let s := s.setFld ING.JNL_STATE_FLUSHING 1
      let s := jnlPush s 5 (leBytes 4 (b2n pin) ++ leBytes 4 mv ++ leBytes 4 (ceilDiv s.jnl.tail.length 4) ++
        leBytes 8 (s.reg ING.RSR_SEQ)) 0 0
      jnlPush s 0x0B (lifeBytes (lifeValues s)) 0 0

/-- POWER_FAIL_TRIP (R371). The input falls below 38 V, or `PWR_FAIL_N` is asserted. -/
def execPowerFailTrip (pin : Bool) (mv : Nat) (s : State) : Host.Outcome State Fault Refusal :=
  if pin ∨ mv < 38000 then .next (powerFail s pin mv) else .next s

/-- FLUSH_COMPLETE (R371). Programs in flight have completed, the tail and the map log are programmed, and the Steward waits
in the power-down state. -/
def execFlushComplete (s : State) : Host.Outcome State Fault Refusal :=
  if s.flag ING.JNL_STATE_FLUSHING then
    let s := (landAll s).setFld STW.Q_STATE_FLASH_BUSY 0
    let s := (flushTail s).setFld ING.JNL_STATE_FLUSHING 0
    .next { s with svc := { s.svc with flushed := true } }
  else .next s

/-! ## Input samples (R405, R407) -/

/-- R407: how many samples in a row exceed a current. -/
def runOver (n ma lim : Nat) : Nat := if lim < ma then n + 1 else 0

/-- INPUT_SAMPLE (R405, R407). 1 µs after the last sample the input's voltage in mV and current in mA are judged. Above
100 A for more than 1 µs is three samples in a row, above 88 A for more than 10 ms is 10,002. -/
def execInputSample (mv : Nat) (ma : Nat) (s : State) : Host.Outcome State Fault Refusal :=
  let s := s.upTo (s.pwr.sampleCk + s.ckPerUs)
  let inj := s.armed PWR.PWR_INJ_VIN_LOW
  let s := if inj then s.disarm PWR.PWR_INJ_VIN_LOW else s
  let v := if inj then 39000 else mv
  let s := (s.setReg PWR.VIN (min 65535 v)).setReg PWR.IIN (min 65535 (ma / 10))
  let s := (s.setFld PWR.PWR_STATE_IN_LOW (b2n (decide (v < 40000)))).setFld PWR.PWR_STATE_IN_HIGH (b2n (decide (46000 < v)))
  let a := runOver s.pwr.over100 ma 100000
  let b := runOver s.pwr.over88 ma 88000
  let s := modPwr s (fun p => { p with sampleCk := s.ck, over100 := a, over88 := b })
  let s := if v < 38000 then powerFail s false v
    else if v < 40000 then raise .pwr 0 4 s
    else if 50000 < v then raise .pwr 0 6 s
    else if 46000 < v then raise .pwr 0 5 s else s
  .next (if a = 3 ∨ b = 10002 then quench s ⟨3, 0, 0, 0⟩ [] else s)

/-- PHASE_OVER_CURRENT (R407). -/
def execPhaseOverCurrent (s : State) : Host.Outcome State Fault Refusal := .next (quench s ⟨3, 0, 0, 0⟩ [])

/-- RAIL_OUT_OF_REGULATION (R408). A rail of a casting is out of its window for more than 1 µs; `VAUX` is on casting 0
only. -/
def execRailOutOfRegulation (d : Die) (rail : Fin 11) (s : State) : Host.Outcome State Fault Refusal :=
  if (rail : Nat) = 10 ∧ (d : Nat) = 1 then .next s else .next (raise .pwr 0 7 s)

/-- REFCLK_LOSS (R415). -/
def execRefclkLoss (s : State) : Host.Outcome State Fault Refusal :=
  .next (raise .pwr 0 12 (s.setFld PWR.PWR_STATE_REFCLK_OK 0))

/-! ## Junction sensors (R412, R413) -/

/-- R413: the die of a sensor in certificate order. -/
def sensorDie (i : Nat) : Nat := if i < 64 then 0 else if i < 80 then 1 else if i < 144 then 2 else 3

/-- R412: throttling begins. -/
def throttleOn (s : State) : State :=
  if s.flag PWR.THR_CTRL_THROTTLE && !s.locked && !s.flag PWR.PWR_STATE_THROTTLED then
    raise .pwr 0 11 (changeDuty s (fun s => s.setFld PWR.PWR_STATE_THROTTLED 1))
  else s

/-- R412: throttling ends. -/
def throttleOff (s : State) : State := changeDuty s (fun s => s.setFld PWR.PWR_STATE_THROTTLED 0)

/-- The hottest reading and its sensor, of those taken. -/
def hottest (m : SMap Int) : Int × Nat := m.foldl (fun b x => if b.1 < x.2 then (x.2, x.1) else b) (0, 0)

/-- °C of a reading in 0.1 °C, as an 8-bit field shows it. -/
def degrees (t : Int) : Nat := min 255 (t / 10).toNat

/-- R413: what a reading, in 0.1 °C, of a sensor does. -/
def takeReading (s : State) (i : Nat) (t : Int) : State :=
  let again := s.pwr.hotOnce.contains i && decide (1150 ≤ t)
  let s := modPwr s (fun p => { p with
    temps := sset 0 p.temps i t,
    hotOnce := if 1150 ≤ t then (if p.hotOnce.contains i then p.hotOnce else p.hotOnce ++ [i]) else p.hotOnce.filter (· != i) })
  let (m, k) := hottest s.pwr.temps
  let s := ((s.setFld PWR.TJ_NOW (degrees m)).setFld PWR.TJ_MAX (max (s.fld PWR.TJ_MAX) (degrees m))).setFld PWR.TJ_SENSOR k
  let s := s.setFld PWR.PWR_STATE_HOT (b2n (decide (1050 < m)))
  let s := s.setFld PWR.PWR_STATE_TRIPPING (b2n (!s.pwr.hotOnce.isEmpty))
  let s := if 10 * (s.fld PWR.TJ_WARN_T : Int) < t then raise .pwr 0 8 s else s
  let s := if 1050 < t then throttleOn (raise .pwr 0 9 s) else s
  if again then quench (lifeAdd s 9 1) ⟨4, 0, 0, 0⟩ [] else s

/-- SENSOR_READ (R413). A junction sensor is read, in 0.1 °C before its calibration offset (R443). -/
def execSensorRead (sensor : Fin 160) (deci : Int) (s : State) : Host.Outcome State Fault Refusal :=
  if s.armed PWR.PWR_INJ_TRIP && (sensor : Nat) == 0 then
    let s := if s.pwr.trips = 0 then modPwr s (fun p => { p with trips := 1 })
      else modPwr (s.disarm PWR.PWR_INJ_TRIP) (fun p => { p with trips := 0 })
    .next (takeReading s sensor 1160)
  else if s.armed PWR.PWR_INJ_HOT then .next (takeReading (s.disarm PWR.PWR_INJ_HOT) sensor 1060)
  else .next (takeReading s sensor (deci + calEffective s (32 + sensorDie sensor)))

/-! ## Staggered starts (R409) -/

/-- R409: when slot `n` of cycle `k` begins. -/
def slotCk (s : State) (n k : Nat) : Nat := s.frameCk + 12800 * k + 1600 * n

/-- R409: the first slot of a request at or after it, if usable in this frame. -/
def slotFor (s : State) (r : Nat × Nat × Nat) : Option Nat :=
  let n := 2 * r.2.1 + r.1
  let k := ceilDiv (r.2.2 - slotCk s n 0) 12800
  let t := slotCk s n k
  if t + 3200 ≤ s.fitTick then some t else none

/-- R409: the pending request with the earliest slot. -/
def nextStart (s : State) : Option (Nat × (Nat × Nat × Nat)) :=
  s.stag.foldl (fun b r =>
    match slotFor s r, b with
    | some t, some (u, q) => if t < u then some (t, r) else some (u, q)
    | some t, none => some (t, r)
    | none, b => b) none

/-- STAGGER_GRANT (R409). The next pending core start or Mould ramp is granted in its slot: the stream reads RUNNING, or the
array begins to ramp up. -/
def execStaggerGrant (s : State) : Host.Outcome State Fault Refusal :=
  if s.idleFrame || s.quenched then .next s
  else match nextStart s with
  | none => .next s
  | some (t, r) =>
    let s := { s.upTo t with stag := s.stag.erase r }
    let s := (s.bump PWR.GRANTS).setFld PWR.STAG_STATE_LAST (2 * r.2.1 + r.1)
    let c := r.2.1
    if r.1 = 0 then .next (s.modSpr c (fun p => { p with lastProgress := t, lastIssue := t, idleCk := 0, cause := false }) |>.setFld SPR.STATE_STREAM stRunning c)
    else .next (modMld (s.setFld MLD.STATE_ARRAY arUp c) c (fun m => { m with rampCk := t }))

/-! ## The shared land (R417) -/

/-- PIN_CTRL_WRITE (R417). `STROBE_EN` acts at once and `TICK_OUT_EN` from the next tick; a write that first sets both enables
sets `PIN_CONFLICT` and raises source 13; a `TICK_W` of 0 is ignored. -/
def execPinCtrlWrite (v : BitVec 32) (s : State) : Host.Outcome State Fault Refusal :=
  let w := v.toNat
  let was := s.flag PWR.PIN_CTRL_TICK_OUT_EN && s.flag PWR.PIN_CTRL_STROBE_EN
  let s := (s.setFld PWR.PIN_CTRL_TICK_OUT_EN (bits w 0 1)).setFld PWR.PIN_CTRL_STROBE_EN (bits w 1 1)
  let s := if bits w 2 8 = 0 then s else s.setFld PWR.PIN_CTRL_TICK_W (bits w 2 8)
  let s := (s.setFld PWR.PIN_CTRL_STROBE_SRC (bits w 10 2)).setFld PWR.PIN_CTRL_STROBE_CORE (bits w 12 2)
  let s := if bit w 14 then s.setFld PWR.PIN_CTRL_PIN_CONFLICT 0 else s
  if bit w 0 && bit w 1 && !was then .next (raise .pwr 0 13 (s.setFld PWR.PIN_CTRL_PIN_CONFLICT 1)) else .next s

end Sys2Proof.Machine
end

