-- ==== Sys2Proof/Machine/Bridge.lean ====
section
/-!
DEFINITION. Machine/Bridge.lean: chapter 01: the bridge between the castings (R24–R26) and hot-spare promotion (R27–R29).
-/
namespace Sys2Proof.Machine

open Sys2Proof

/-! ## The bridge (R24–R26) -/

/-- BRIDGE_WORD_CORRECTED (R25). -/
def execBridgeWordCorrected (_ : Die) (s : State) : Host.Outcome State Fault Refusal :=
  .next (raise .grd 0 1 (s.bump GRD.GRD_BRIDGE_CORR))

/-- BRIDGE_WORD_UNCORRECTABLE (R25). The word is delivered as received: the data that next comes to a core over that direction
carries it, and the consumer's own check acts on the data (log entry 105). -/
def execBridgeWordUncorrectable (d : Die) (s : State) : Host.Outcome State Fault Refusal :=
  .next (raise .grd 0 2 { s.bump GRD.GRD_BRIDGE_UNCORR with acc := { s.acc with dmg := s.acc.dmg ++ [(d : Nat)] } })

/-- BRIDGE_LOSS (R26). Source 5 is raised. DESIGN CHOICE (log entry 105): `UP` is cleared, whichever of the three losses it is;
the spec states no change of it. -/
def execBridgeLoss (s : State) : Host.Outcome State Fault Refusal :=
  .next (raise .grd 0 5 (s.setFld GRD.GRD_BRIDGE_STATE_UP 0))

/-- R24: every active core owns the same entries in both directions, and all the same number of entries. -/
def schedGood (s : State) : Bool :=
  let cs := (List.range 4).filter s.active
  cs.all (fun c => (List.range 64).all (fun i => (schedOwner s 0 i == c) == (schedOwner s 1 i == c))) &&
    cs.all (fun c => schedEntries s 0 c == schedEntries s 0 (cs.headD 0))

/-- GRD_BSCHED_LOCK_WRITE (R24). Setting the lock is refused while the schedule fails a condition; a lock once set holds until
the next reset. -/
def execGrdBschedLockWrite (v : Bool) (s : State) : Host.Outcome State Fault Refusal :=
  if rwlLocked s .grd 0 ∨ !v ∨ s.flag GRD.GRD_BSCHED_LOCK_LOCK then .next s
  else if schedGood s then .next ((s.setFld GRD.GRD_BSCHED_LOCK_LOCK 1).setFld GRD.GRD_BRIDGE_STATE_SCHED_BAD 0)
  else .next (s.setFld GRD.GRD_BRIDGE_STATE_SCHED_BAD 1)

/-! ## Hot-spare promotion (R27–R29) -/

/-- R28: the descriptors of a core that are queued or in execution, or wait in the Sprue, in program order. -/
def workOf (s : State) (c : Nat) : List Iss :=
  let p := (s.core c).spr
  (p.eng.toList.flatMap (fun e => e.run ++ e.queue) ++ p.cur.toList).mergeSort (fun a b => decide (a.seq ≤ b.seq))

/-- R28 step 1: a descriptor is abandoned: its record and those of its signals that fire on an error. -/
def promoteDrop (s : State) (c : Nat) (i : Iss) : State :=
  let wait := (if i.relCk = 0 then s.ck else i.relCk) - i.issueCk
  let run := if i.relCk = 0 then 0 else s.ck - i.relCk
  fireSigs (writeRecord s c i stCorePromoted {} 0 wait run true) c i.desc stCorePromoted

/-- R28 step 1: the transient work of a core ends. -/
def promoteStop (s : State) (c : Nat) : State :=
  let s := (dropFlights s c).setReg ASY.CAPTURE_FREE ASY.CAPTURE_FREE.reset c
  let s := s.modCore c (fun x => { x with
    spr := { x.spr with window := [], cur := none, curStatus := 0, loops := [], passHead := false,
                        eng := Vector.replicate 6 {} }
    mld := { rampCk := x.mld.rampCk }
    cru := { x.cru with lo := none, hi := none, step := none, waitFrom := none }
    asy := { x.asy with pairs := [], blend := none }
    port := {}
    run := {} })
  let s : State := { s with
    stag := s.stag.filter (fun r => r.2.1 != c)
    remote := s.remote.filter (fun r => r.core != c)
    ing := { s.ing with writes := s.ing.writes.filter (fun w => w.core != c || w.page.isSome) }
    jnl := { s.jnl with durable := s.jnl.durable.filter (fun d => d.1 != c) }
    riser := { s.riser with waits := s.riser.waits.filter (fun w => w.1 != c) }
    sweep := { s.sweep with vote := s.sweep.vote.filter (fun v => v.core != c) }
    col := { s.col with runs := s.col.runs.map (fun (r : CollRun) => { r with joined := r.joined.filter (fun j => j.1 != c) }) } }
  let s := (s.setFld MLD.STATE_HALF0 0 c).setFld MLD.STATE_HALF1 0 c
  let s := ((s.setReg CRU.STATE 0 c).setReg ASY.STATE 0 c).setReg LDL.STATE 0 c
  (showLoops (s.setReg SPR.STATE 0 c) c).setFld SPR.STATE_STREAM stIdle c

/-- PROMOTE_REQUEST (R27, R28). A request to promote away from a core; accepted, its work is abandoned and the copy begins:
147,324,928 bytes at 1,024 bytes per ck. -/
def execPromoteRequest (c : Fin 4) (s : State) : Host.Outcome State Fault Refusal :=
  let s := s.setFld GRD.GRD_PROMOTE_CORE c
  if s.endurance && s.fld GRD.GRD_PROFILE_SPARE_CORE != 7 && decide ((c : Nat) < 3) && s.active c
      && !s.flag GRD.GRD_PROMOTE_BUSY && !s.quenched then
    let work := workOf s c
    let s := (s.setFld GRD.GRD_PROMOTE_REFUSED 0).setFld GRD.GRD_PROMOTE_BUSY 1
    let s := match work with | i :: _ => s.setReg GRD.PROMO_SEQ i.seq | [] => s
    let s := work.foldl (fun s i => promoteDrop s c i) s
    .next (modPwr (promoteStop s c) (fun p => { p with promo := some (c, s.ck + 143872, false) }))
  else .next (raise .grd 0 7 (s.setFld GRD.GRD_PROMOTE_REFUSED 1))

/-- R28 step 3: an uncorrectable word of the resident store poisons the matrix whose buffer holds it. -/
def promotePoison (s : State) (c w : Nat) : State :=
  (s.cru c).mtab.foldl (fun s x =>
    let e := x.2
    if 16 * mtBase e ≤ w ∧ w < 16 * (mtBase e + mtType e * bufUnits (mtKind e) (mtN e)) then setMtabFld s c x.1 31 1 1 else s) s

/-- The elements of two lists without repeats. -/
def union (a b : List Nat) : List Nat := a ++ (b.filter (fun x => !a.contains x)).eraseDups

/-- PROMOTE_COPY_DONE (R28 steps 2, 3). The copy ends; each uncorrectable word, of those scrubbing had found or the copy
finds, is counted and handled by its store. -/
def execPromoteCopyDone (bad : PromoBad) (s : State) : Host.Outcome State Fault Refusal :=
  match s.pwr.promo with
  | some (c, t, false) =>
    let s := s.upTo t
    let cru := union (s.cru c).bad bad.cru
    let cache := union (s.core c).ldl.cacheBad bad.cache
    let pat := union (s.core c).spr.patBad bad.pat
    let s := s.bump GRD.PROMO_POISON (cru.length + bad.ids.eraseDups.length + bad.asy.eraseDups.length + cache.length + pat.length)
    let s := cru.foldl (fun s w => promotePoison s c w) s
    let s := bad.ids.foldl (fun s id => setMtab s c id 0) s
    let s := bad.asy.foldl (fun s u => setTag s c u ((slotTag s c u).1, true)) s
    let s := pat.foldl (fun s w => (patIds s c (w / 256)).foldl (fun s id => patUnmap s c id) s) s
    let s := s.modCore c (fun x => { x with
      cru := { x.cru with bad := cru }, ldl := { x.ldl with cacheBad := cache }, spr := { x.spr with patBad := [] } })
    .next (modPwr s (fun p => { p with promo := some (c, t, true) }))
  | _ => .next s

/-- R142: the Ladle registers of the spare are undefined. -/
def undefLadle (s : State) (c : Nat) : State :=
  let s := (List.range 64).foldl (fun s r => freeV s c r) s
  (List.range 8).foldl (fun s k =>
    let v := (List.range 8).foldl (fun v i => v + (Config.freeValue (s.freeCtr + i)).toNat * 2 ^ (64 * i)) 0
    setK { s with freeCtr := s.freeCtr + 8 } c k v) s

/-- R28 step 2: a register that the copy leaves out reads as the spare's. -/
def takeSpare (s : State) (c : Nat) (r : Reg) : State :=
  (List.range r.count).foldl (fun s k => s.setReg r (s.reg r 3 k) c k) s

/-- R28 step 2: the registers of a core's pages that are not copied: the counters of the SPR page, and at 0x100 and above of the
others those that are neither RW nor RWL. -/
def notCopied : List Reg :=
  [SPR.CPL_LOST, SPR.TOK_DROPPED, SPR.ISSUE_STALL_CK, SPR.SKIPPED, SPR.REJECTED] ++
  (MLD.allRegs ++ ASY.allRegs ++ CRU.allRegs ++ LDL.allRegs ++ RUN.allRegs).filter (fun r => r.rw == 0 && r.rwl == 0)

/-- R28 steps 4, 5: logical number `c` moves to the spare physical core, 3; the failed physical core, `c`, is fenced. Its array
is COLD, its transient stores are empty, and every page of core `c` reads ON. -/
def promoteSwitch (s : State) (c : Nat) : State :=
  let s := (s.setFld GRD.GRD_PROMOTE_FAILED_PHYS c).setFld GRD.GRD_PROMOTE_FENCED 1
  let s := s.setFld GRD.GRD_PROFILE_SPARE_CORE 7
  let s := lifeAdd s 13 1
  let s := jnlRetire s 0 c
  let s := ((s.setFld GRD.GRD_PROMOTE_DONE 1).setFld GRD.GRD_PROMOTE_BUSY 0)
  let s := modPwr s (fun p => { p with promo := none })
  let s := s.modCore c (fun x => { x with mld := {} })
  let s := notCopied.foldl (fun s r => takeSpare s c r) s
  let s := undefLadle (s.setReg MLD.STATE 0 c) c
  let s := [PageKind.spr, .mld, .asy, .cru, .ldl, .run].foldl (fun s p =>
    if s.pageState p c = pgFused then s else (s.setFld (HDR.PAGE_CTRL_EN p) 1 c).setPageState p c pgOn) s
  let s := (s.setReg SPR.RING_HEAD (s.reg SPR.RING_TAIL c) c).setFld SPR.STATE_STREAM stIdle c
  raise .grd 0 6 s

/-- R28 step 4: a promotion whose copy has ended before the tick of this frame is switched. -/
def promoteWindow (s : State) : State :=
  match s.pwr.promo with
  | some (c, t, true) => if t < s.frameCk then promoteSwitch s c else s
  | _ => s

/-- PROMOTE_SWITCH (R28). -/
def execPromoteSwitch (s : State) : Host.Outcome State Fault Refusal := .next (promoteWindow s)

end Sys2Proof.Machine
end

