-- ==== Sys2Proof/Machine/Hbm.lean ====
section
/-!
DEFINITION. Machine/Hbm.lean: the HBM controllers' own events: parity, lost stacks, temperature (R254–R256), and the slot
tables of locked timing (R259–R261).
-/
namespace Sys2Proof.Machine

open Sys2Proof

/-! ## Stacks (R254–R256) -/

/-- R255: a stack is declared lost: `LOST` and its cause are recorded, and source 5 quenches the device. -/
def loseStack (s : State) (k cause chan : Nat) : State :=
  raise .hbm k 5 ((s.setFld HBM.STATE_LOST 1 k).setReg HBM.LOST_CAUSE (cause + chan * 8) k)

/-- HBM_PARITY_ERROR (R254, R255). A stack reports a parity error on channel `ch`; the controller repeats the command
once, and a repetition that fails too (`again`) loses the stack. -/
def execHbmParityError (k : Stack) (ch : Chan) (again : Bool) (s : State) : Host.Outcome State Fault Refusal :=
  if s.pageState .hbm k = pgOn then
    let s := raise .hbm k 4 (s.bump HBM.PARITY_COUNT 1 k)
    .next (if again then loseStack s k 3 ch else s)
  else .next s

/-- HBM_CHANNEL_TIMEOUT (R255). Channel `ch` has not answered a command for 4,096 hk. -/
def execHbmChannelTimeout (k : Stack) (ch : Chan) (s : State) : Host.Outcome State Fault Refusal :=
  if s.pageState .hbm k = pgOn then .next (loseStack (s.upTo (s.ck + hkCk s 4096)) k 4 ch) else .next s

/-- HBM_TEMP_PORT_LOSS (R255). The test port has not been readable for 1 ms, or, with `hot`, it reports a catastrophic
temperature. -/
def execHbmTempPortLoss (k : Stack) (hot : Bool) (s : State) : Host.Outcome State Fault Refusal :=
  if s.pageState .hbm k = pgOn then
    .next (loseStack (if hot then s else s.upTo (s.ck + 1000 * s.ckPerUs)) k 5 0)
  else .next s

/-- The next ck at or after now that ends a period of `us` µs. -/
def nextPeriod (s : State) (us : Nat) : Nat := ceilDiv s.ck (us * s.ckPerUs) * (us * s.ckPerUs)

/-- HBM_TEMP_READ (R256). A stack's temperature in °C is read, every 32 µs. In open timing a reading above 85 °C doubles
the refresh rate and one below 83 °C restores it; `INJ.HOT` makes the reading 90 °C. -/
def execHbmTempRead (k : Stack) (deg : Fin 256) (s : State) : Host.Outcome State Fault Refusal :=
  if s.pageState .hbm k = pgOn then
    let s := s.upTo (nextPeriod s 32)
    let inj := s.armed HBM.INJ_HOT k
    let t := if inj then 90 else deg.val
    let s := if inj then s.disarm HBM.INJ_HOT k else s
    let s := (s.setFld HBM.TEMP_NOW t k).setFld HBM.TEMP_MAX (max t (s.fld HBM.TEMP_MAX k)) k
    if s.locked then .next s
    else if 85 < t ∧ ¬ s.flag HBM.STATE_HOT k then .next (raise .hbm k 6 (s.setFld HBM.STATE_HOT 1 k))
    else if t < 83 then .next (s.setFld HBM.STATE_HOT 0 k)
    else .next s
  else .next s

/-! ## Slots (R259) -/

/-- The partition that owns entry `i`. -/
def slotOwner (s : State) (i : Nat) : Option Nat := (List.range 8).find? (fun p => slotEntry s p i != 0)

/-- The first hk edge at or after ck `t`, in whole ck. -/
def hkEdge (s : State) (t : Nat) : Nat := hkCk s (ceilDiv (t * 1200) s.ckPerUs)

/-- R259: slot `j` of the frame begins and ends. -/
def slotStart (s : State) (j : Nat) : Nat := hkEdge s (s.frameCk + hkCk s ((j + 1) * 72))
def slotStop (s : State) (j : Nat) : Nat := hkEdge s (s.frameCk + hkCk s ((j + 2) * 72))

/-- R259: what one pseudo-channel serves in a slot of a partition's waiting accesses, oldest first: one eighth, or sectors up
to 64 in at most 20 rows. -/
def pcTake (pc : Nat) : List HCand → Nat → Nat → List HCand
  | [], _, _ => []
  | x :: xs, sect, rows =>
    if !x.parts.contains pc then pcTake pc xs sect rows
    else if x.tile then (if rows = 0 then [x] else [])
    else
      let n := sectorsAt false x.write x.addr x.len pc
      if sect + n ≤ 64 ∧ rows + 1 ≤ 20 then x :: pcTake pc xs (sect + n) (rows + 1) else []

/-- R259: the direction an owned entry serves: 1 reads, 2 writes, 3 that of the partition's oldest waiting request. -/
def slotWrites (e : Nat) (ws : List HCand) : Bool :=
  if e = 3 then (ws.head?.map HCand.write).getD false else e == 2

/-- R259: the accesses a slot serves, each with its pseudo-channel. -/
def slotTakes (s : State) (p e start : Nat) : List (Nat × HCand) :=
  let ws := (hbmWaiting s).filter (fun x => x.part == p && decide (x.arr ≤ start))
  let dir := slotWrites e ws
  let ws := ws.filter (fun x => x.write == dir)
  ((ws.flatMap HCand.parts).eraseDups).flatMap (fun pc => (pcTake pc ws 0 0).map (fun x => (pc, x)))

/-- R259: a slot serves. Accesses of the controllers' queue go latest place first, so that those that leave it move none that
is still to be marked. -/
def serveSlot (s : State) (p e start stop : Nat) : State :=
  ((slotTakes s p e start).mergeSort (fun a b => decide (b.2.idx ≤ a.2.idx))).foldl (fun s x => markServed s x.2 x.1 stop stop) s

/-- HBM_SLOT_SERVE (R259). Slot `j` of the frame begins: in locked timing, if it ends by the fitting tick and is no refresh
slot, its owning partition's waiting requests of its direction are served. -/
def execHbmSlotServe (j : Nat) (s : State) : Host.Outcome State Fault Refusal :=
  let i := j % 256
  if s.locked && !s.quenched && decide (j % 16 ≠ 15 ∧ slotStop s j ≤ s.fitTick) && decide (s.ck ≤ slotStart s j) then
    let s' := s.upTo (slotStart s j)
    match slotOwner s i with
    | some p => .next (serveSlot s' p (slotEntry s p i) (slotStart s j) (slotStop s j))
    | none => .next s'
  else .next s

/-! ## The slot tables (R260) -/

/-- R260: the first conflict: an entry with two owners, or an owned refresh entry. -/
def slotConflict (s : State) : Option (Nat × Nat × Nat) :=
  (List.range 256).findSome? (fun i =>
    match (List.range 8).filter (fun p => slotEntry s p i != 0) with
    | a :: b :: _ => some (a, b, i)
    | [a] => if i % 16 = 15 then some (a, a, i) else none
    | [] => none)

/-- SLOT_CTRL_APPLY (R260). -/
def execSlotCtrlApply (s : State) : Host.Outcome State Fault Refusal :=
  if s.pageState .hbm = pgQuenched then .next s else
  match slotConflict s with
  | none => .next ((s.setFld HBM.SLOT_CTRL_VALID 1).setFld HBM.SLOT_CTRL_CONFLICT 0)
  | some (a, b, i) => .next (raise .hbm 0 7 (s.setReg HBM.SLOT_CTRL (4 + a * 8 + b * 2 ^ 6 + i * 2 ^ 9)))

end Sys2Proof.Machine
end

