-- ==== Sys2Proof/Machine/Riser.lean ====
section
/-!
DEFINITION. Machine/Riser.lean: chapter 15: the Riser stream: its records (R375, R376), their export (R377, R379) and what is
dropped (R378, R380).
-/
namespace Sys2Proof.Machine

open Sys2Proof

/-- R378: the status of a `RISER` that found no room. -/
def stRiserDropped : Nat := 0x69

/-- A state with its Riser stream changed. -/
def modRiser (s : State) (f : RiserSt → RiserSt) : State := { s with riser := f s.riser }

/-! ## Coding (R376) -/

/-- The zero bytes a list begins with. -/
def zeroRun : List Byte → Nat
  | [] => 0
  | b :: bs => if b = 0 then zeroRun bs + 1 else 0

/-- R376: literals in runs of at most 128, each preceded by its length less one. -/
def litRuns : Nat → List Byte → List Byte
  | 0, _ => []
  | n + 1, bs =>
    if bs = [] then [] else
    let r := bs.take 128
    BitVec.ofNat 8 (r.length - 1) :: (r ++ litRuns n (bs.drop 128))

/-- R376: the code of a zero run of 3 or more. -/
def zeroCode (n : Nat) : List Byte := if n ≤ 127 then [BitVec.ofNat 8 (0x7F + n)] else 0xFF :: leBytes 4 n

/-- R376: the canonical code of the bytes; `lit` holds the literals met so far, newest first. -/
def riserCode : Nat → List Byte → List Byte → List Byte
  | 0, lit, _ => litRuns lit.length lit.reverse
  | n + 1, lit, bs =>
    match bs with
    | [] => litRuns lit.length lit.reverse
    | b :: t =>
      let z := zeroRun (b :: t)
      if 3 ≤ z then litRuns lit.length lit.reverse ++ zeroCode z ++ riserCode n [] ((b :: t).drop z)
      else riserCode n (b :: lit) t

/-- R376: the bytes a code stands for; `none` where it is cut short. -/
def riserDecode : Nat → List Byte → Option (List Byte)
  | 0, _ => none
  | _ + 1, [] => some []
  | n + 1, c :: t =>
    let v := c.toNat
    if v < 128 then
      if t.length < v + 1 then none else (riserDecode n (t.drop (v + 1))).map (fun r => t.take (v + 1) ++ r)
    else if v < 255 then (riserDecode n t).map (fun r => zeros (v - 127) ++ r)
    else if t.length < 4 then none
    else (riserDecode n (t.drop 4)).map (fun r => zeros (leNat (t.take 4)) ++ r)

/-- R375: a record as it travels: its 32-byte header and its data. -/
def RRec.bytes (r : RRec) : List Byte :=
  let h := leBytes 8 r.sseq ++ leBytes 4 r.epoch ++ leBytes 4 r.block ++ leBytes 4 (r.kind + b2n r.restart * 4) ++
    leBytes 4 r.rawLen ++ leBytes 4 r.data.length
  h ++ leBytes 4 (crc32c (h ++ r.data)) ++ r.data

/-! ## The buffer (R375, R377) -/

/-- The bytes of the buffer in use. -/
def riserUsed (s : State) : Nat := s.riser.buf.foldl (fun n r => n + 32 + r.data.length) 0

def toIngot (s : State) : Bool := s.flag ING.RSR_CTRL_TO_INGOT
def toHost (s : State) : Bool := s.flag ING.RSR_CTRL_TO_HOST

/-- R375: a record that reaches every destination and ends a keyframe step clears `BROKEN`. -/
def riserLeft (s : State) (r : RRec) : State :=
  let s := s.setReg ING.RSR_ACK r.sseq
  let s := modRiser s (fun x => { x with ackFrame := s.frame })
  if r.kind = 2 ∧ r.key then s.setFld ING.RSR_STATE_BROKEN 0 else s

/-- R377: records that every enabled destination has leave the buffer, oldest first. -/
def riserTrim : Nat → State → State
  | 0, s => s
  | n + 1, s =>
    match s.riser.buf with
    | [] => s
    | r :: rs =>
      let has := (!toIngot s || decide (r.sseq < s.riser.ingotTo)) && (!toHost s || decide (r.sseq < s.riser.hostAck))
      if has then riserTrim n (riserLeft (modRiser s (fun x => { x with buf := rs })) r) else s

/-- `RSR_STATE` shows whether the export has records to send. -/
def riserShow (s : State) : State :=
  s.setFld ING.RSR_STATE_BUSY (b2n ((toIngot s || toHost s) && !s.riser.buf.isEmpty))

/-- One record added to the stream. -/
def riserPush (s : State) (e block kind rawLen : Nat) (data : List Byte) (key : Bool) : State :=
  let r : RRec := { sseq := s.reg ING.RSR_SEQ, epoch := e, block := block, kind := kind, restart := s.riser.gap,
                    rawLen := rawLen, data := data, key := key }
  let s := modRiser s (fun x => { x with buf := x.buf ++ [r], gap := false })
  s.setReg ING.RSR_SEQ (r.sseq + 1)

/-! ## RISER (R375, R378) -/

/-- R375: the new master bytes, or their exclusive or with the old. -/
def riserData (key : Bool) (new old : List Byte) : List Byte :=
  if key then new else (new.zip old).map (fun x => x.1 ^^^ x.2)

/-- A `RISER` leaves the list of those that wait. -/
def riserUnwait (s : State) (c : Nat) : State := modRiser s (fun x => { x with waits := x.waits.filter (fun w => w.1 != c) })

/-- RISER (R375). A block's record, and with `LAST` the end record, go into the buffer; without room the descriptor waits. The
rest of a step one of whose records was dropped adds none, so that the first record after the gap belongs to a keyframe step
(R380, log entry 66). -/
def execRiser (c : Core) (s : State) : Host.Outcome State Fault Refusal :=
  match runHead s c rnRiser with
  | none => .next s
  | some (i, q) =>
    let d := i.desc
    let nt := d.reg0.bytes / 16384
    let e := d.len0 % 2 ^ 32
    if sourceStatus q ≠ stOk then .next (sweepFinish s c i q (sourceStatus q) 0)
    else
      let first := bit d.param 1
      let waiting := s.riser.waits.any (fun w => w.1 == (c : Nat))
      let s := if first ∧ ¬ waiting then modRiser s (fun x => { x with
          stepKey := s.flag ING.RSR_STATE_BROKEN, stepAll := true, blocks := 0, stepFrom := s.reg ING.RSR_SEQ,
          skip := false }) else s
      let key := bit d.param 0 || e % max 1 (s.fld ING.RSR_CTRL_KEY_EVERY) == 0 || s.riser.stepKey
      let new := gotBytes q 0 nt
      let raw := riserData key new (gotBytes q nt q.total)
      let none_ := !key && raw.all (fun b => b == 0)
      let data := riserCode (raw.length + 1) [] raw
      let need := (if none_ then 0 else 32 + data.length) + (if bit d.param 2 then 48 else 0)
      if s.riser.skip then .next (sweepFinish s c i q stOk (2 * nt))
      else if s.armed ING.JNL_INJ_RSR_FULL ∨ s.fld ING.RSR_BUF_SIZE * 2 ^ 20 < riserUsed s + need then
        .next (if waiting then s else modRiser s (fun x => { x with waits := x.waits ++ [((c : Nat), s.frame)] }))
      else
        let all := s.riser.stepAll && key
        let s := modRiser (riserUnwait s c) (fun x => { x with stepAll := all, blocks := x.blocks + 1 })
        let s := if none_ then s else riserPush s e d.len1 (if key then 0 else 1) new.length data all
        let s := if bit d.param 2 then
            let q := s.reg ING.RSR_SEQ
            modRiser (riserPush s e 0xFFFFFFFF 2 16 (leBytes 8 (s.reg COL.SW_SEAL) ++ leBytes 8 s.riser.blocks) all)
              (fun x => { x with endSeq := (e, q) })
          else s
        .next (sweepFinish (riserShow (riserTrim 4 s)) c i q stOk (2 * nt))

/-- RISER_WAIT_TIMEOUT (R378). A `RISER` has waited `WAIT_FRAMES` frames: the records of its step not yet delivered are
discarded, and the stream is broken. -/
def execRiserWaitTimeout (s : State) : Host.Outcome State Fault Refusal :=
  match s.riser.waits.find? (fun w => decide (w.2 + s.fld ING.RSR_BUF_WAIT_FRAMES ≤ s.frame)) with
  | none => .next s
  | some (c, _) =>
    let s := riserUnwait s c
    match runHead s c rnRiser with
    | none => .next s
    | some (i, q) =>
      let s := if s.armed ING.JNL_INJ_RSR_FULL then s.disarm ING.JNL_INJ_RSR_FULL else s
      let s := modRiser s (fun x => { x with
        buf := x.buf.filter (fun r => decide (r.sseq < x.stepFrom)), gap := true, stepAll := false, skip := true })
      let s := (s.setFld ING.RSR_STATE_BROKEN 1).bump ING.RSR_DROPPED
      .next (riserShow (sweepFinish (raise .ing 0 11 s) c i q stRiserDropped 0))

/-! ## Export (R377, R379) -/

/-- The tiles a record takes in area 1. -/
def RRec.tiles (r : RRec) : Nat := ceilDiv (32 + r.data.length) 16384

/-- R379: the tiles of area 1 in use, once the records before the newest complete keyframe are freed where they must be. -/
def area1Free (s : State) (n : Nat) : State :=
  let size := s.reg ING.AREA_TILES 0 1
  let used := s.riser.area1.foldl (fun k x => k + x.2.2) 0
  if used + n ≤ size then s
  else
    let old := fun (x : RRec × Nat × Nat) => decide (x.1.sseq < s.riser.keySeq.getD 0)
    let gone := (s.riser.area1.filter old).flatMap (fun x => (List.range x.2.2).map (fun k => (x.2.1 + k) % max 1 size))
    { (modRiser s (fun x => { x with area1 := x.area1.filter (fun y => !old y) })) with
      ing := { s.ing with map := gone.foldl (fun m t => sset 0 m (mapKey 1 t) 0) s.ing.map } }

/-- R379: a record is complete in area 1; the end record of a keyframe step makes it the newest keyframe there. -/
def area1Done (s : State) (r : RRec) : State :=
  let t := s.riser.ring
  let size := max 1 (s.reg ING.AREA_TILES 0 1)
  let s := modRiser s (fun x => { x with area1 := x.area1 ++ [(r, t, r.tiles)], ring := (t + r.tiles) % size,
                                         ingotTo := r.sseq + 1, busy := none })
  if r.kind = 2 ∧ r.key then
    match s.riser.area1.find? (fun x => x.1.epoch == r.epoch && decide (x.1.sseq ≤ r.sseq)) with
    | some x =>
      let s := modRiser s (fun y => { y with keySeq := some x.1.sseq })
      jnlAppend (s.setReg ING.RSR_KEY_EPOCH r.epoch) 9 (leBytes 4 r.epoch ++ leBytes 8 x.2.1)
    | none => s
  else s

/-- R377: the ck that a record takes at a rate in MB/s; 0 is unlimited. -/
def riserCk (s : State) (rate : Nat) (r : RRec) : Nat :=
  if rate = 0 then 0 else ceilDiv ((32 + r.data.length) * s.ckPerUs) rate

/-- The first record that Ingot delivery, or host delivery, has not begun. -/
def nextIngot (s : State) : Option RRec := s.riser.buf.find? (fun r => decide (s.riser.ingotTo ≤ r.sseq))
def nextHost (s : State) : Option RRec := s.riser.buf.find? (fun r => decide (s.riser.hostSent ≤ r.sseq))

/-- R377: Ingot delivery: the record being programmed is delivered once its pages are; the next one begins when area 1 has
room. -/
def exportIngot (s : State) : State :=
  let s := match s.riser.busy with
    | some n =>
      if s.ing.writes.any (fun w => w.area == 1) then s
      else match s.riser.buf.find? (fun r => r.sseq == n) with
        | some r => area1Done s r
        | none => modRiser s (fun x => { x with busy := none, ingotTo := n + 1 })
    | none => s
  if s.riser.busy.isSome ∨ s.jnl.tripped ∨ s.ck < s.riser.ingotCk then s
  else match nextIngot s with
    | none => s
    | some r =>
      let s := area1Free s r.tiles
      let size := s.reg ING.AREA_TILES 0 1
      if size < s.riser.area1.foldl (fun k x => k + x.2.2) 0 + r.tiles then s
      else
        let b := r.bytes
        let ws := (List.range r.tiles).map (fun k =>
          ({ core := 4, seq := r.sseq, area := 1, tile := (s.riser.ring + k) % size, payload := slice b (16384 * k) 16384,
             side := zeros 2048 } : IngWrite))
        let s := s.wrapAdd ING.HOST_BYTES (16384 * r.tiles)
        modRiser { s with ing := { s.ing with writes := s.ing.writes ++ ws } } (fun x => { x with
          busy := some r.sseq, ingotCk := s.ck + riserCk s (bits (s.reg ING.RSR_RATE) 0 16) r })

/-- R377: one record to the host as `BULK` messages of at most 19,176 bytes of it. -/
def sendBulk (s : State) (r : RRec) : State :=
  let b := r.bytes
  let n := ceilDiv b.length 19176
  (List.range n).foldl (fun s k =>
    sendMsg s 3 0x30 (s.fld ING.RSR_CTRL_HOST) true (k % 2 ^ 24 + b2n (k + 1 == n) * 2 ^ 24)
      (leBytes 8 r.sseq ++ (b.drop (19176 * k)).take 19176)) s

/-- R377: host delivery: the next record goes out. -/
def exportHost (s : State) : State :=
  match nextHost s with
  | none => s
  | some r =>
    if s.ck < s.riser.hostCk then s
    else modRiser (sendBulk s r) (fun x => { x with
      hostSent := r.sseq + 1, hostCk := s.ck + riserCk s (bits (s.reg ING.RSR_RATE) 16 16) r })

/-- R377: the first ck at which the rates let a delivery begin. -/
def exportDue (s : State) : Nat :=
  let i := if toIngot s && s.riser.busy.isNone && (nextIngot s).isSome then some s.riser.ingotCk else none
  let h := if toHost s && (nextHost s).isSome then some s.riser.hostCk else none
  match i, h with
  | some a, some b => min a b
  | some a, none => a
  | none, some b => b
  | none, none => 0

/-- RISER_EXPORT (R377). Each destination takes its next record as its rate in `RSR_RATE` allows. -/
def execRiserExport (s : State) : Host.Outcome State Fault Refusal :=
  if !ingRuns s then .next s
  else
    let s := s.upTo (exportDue s)
    let s := if toIngot s then exportIngot s else s
    let s := if toHost s then exportHost s else s
    .next (riserShow (riserTrim s.riser.buf.length s))

/-- BULK (R377). The host acknowledges the records it holds whole. -/
def execBulk (s : State) : Host.Outcome State Fault Refusal :=
  if s.quenched then .next s
  else match takeKind s 0x30 with
  | none => .next s
  | some (_, m, s) =>
    if bit m.word 25 && m.shost && m.src == s.fld ING.RSR_CTRL_HOST then
      let n := fieldAt m.body 0 8 + 1
      let s := if s.riser.hostAck < n then modRiser s (fun x => { x with hostAck := n, ackFrame := s.frame }) else s
      .next (riserShow (riserTrim s.riser.buf.length s))
    else .next s

/-- RISER_RETX (R377). `RSR_ACK` has made no progress for `RETX_FRAMES` frames; the export sends again from the first
unacknowledged record. -/
def execRiserRetx (s : State) : Host.Outcome State Fault Refusal :=
  if toHost s && ingRuns s && decide (s.riser.hostAck < s.riser.hostSent) &&
      decide (s.riser.ackFrame + s.fld ING.RSR_BUF_RETX_FRAMES ≤ s.frame) then
    .next (modRiser s (fun x => { x with hostSent := x.hostAck, ackFrame := s.frame }))
  else .next s

/-- R380: the stream after a reset: the buffered records are lost, and the first record to come opens a keyframe step with
`RESTART` set where records were lost. -/
def riserReset (s : State) (next : Nat) : State :=
  let r : RiserSt := { area1 := s.riser.area1, ring := s.riser.ring, keySeq := s.riser.keySeq, ingotTo := next, hostSent := next,
                       hostAck := next, gap := s.riser.gap || !s.riser.buf.isEmpty, stepKey := true, stepAll := false }
  ({ s with riser := r }.setReg ING.RSR_SEQ next).setReg ING.RSR_STATE 1

end Sys2Proof.Machine
end

