-- ==== Sys2Proof/Machine/Trust.lean ====
section
/-!
DEFINITION. Machine/Trust.lean: chapter 18: modules and their checks (R424–R426), the owner key (R427), user patterns (R428),
attestation (R429, R430), the link exchange (R431–R433) and in-service updates (R434).
-/
namespace Sys2Proof.Machine

open Sys2Proof

/-- A change of Trust beyond its registers. -/
def modTru (s : State) (f : TruSt → TruSt) : State := { s with tru := f s.tru }

/-- R425: the result codes of `TRU_STATUS`. -/
def trOk : Nat := 0
def trFormat : Nat := 1
def trBadKey : Nat := 2
def trBadSig : Nat := 3
def trBadHash : Nat := 4
def trGrade : Nat := 5
def trRollback : Nat := 6
def trPolicy : Nat := 7
def trBusy : Nat := 8
def trRng : Nat := 9

/-! ## The random source (R422) -/

/-- R422: a health test of the random source fails. -/
def rngFail (s : State) : State :=
  raise .tru 0 8 (modTru ((s.bump TRU.RNG_FAILS).setFld TRU.TRU_STATE_RNG_OK 0) (fun t => { t with rngBad := true }))

/-- RNG_HEALTH_FAIL (R422). -/
def execRngHealthFail (s : State) : Host.Outcome State Fault Refusal := .next (rngFail (s.disarm TRU.INJ_RNG))

/-- A command that needs random bits runs the health test first: the state, and whether random bits may be had. -/
def rngReady (s : State) : Bool × State :=
  let s := if s.armed TRU.INJ_RNG then rngFail (s.disarm TRU.INJ_RNG) else s
  (!s.tru.rngBad, s)

/-! ## Keys and identity (R420, R423) -/

/-- R420: the hash of a public key. -/
def keyHash (k : Nat × Nat) : List Byte := sha512 (beBytes 512 k.1 ++ beBytes 4 k.2)

/-- R423: the identity certificate, from the fuses. -/
def certBytes (s : State) : List Byte := (List.range 320).flatMap (fun i => leBytes 4 (s.reg TRU.CERT_WIN 0 i))

/-- R423: the identity key a certificate carries. -/
def certKey (b : List Byte) : Nat × Nat := (beNat (slice b 0x80 512), fieldAt b 0x280 4)

/-- `OWNER_HASH`: the owner hash, or zeros. -/
def ownerHash (s : State) : List Byte := match s.tru.owner with | some k => keyHash k | none => zeros 64

/-- R399, R428: the owner key when one is enrolled, else the vendor key. -/
def ownerOrVendor (s : State) : Nat × Nat := s.tru.owner.getD s.tru.vendor

/-- R421, R404: a signature over bytes verifies; an armed `BAD_SIG` makes the next verification fail. -/
def sigOk (s : State) (key : Nat × Nat) (b sig : List Byte) : Bool × State :=
  if s.armed TRU.INJ_BAD_SIG then (false, s.disarm TRU.INJ_BAD_SIG) else (pssVerify key (sha512 b) sig, s)

/-- The bytes of the buffer at `TRU_BUF`. -/
def truBuf (s : State) : List Byte := peek s .tun (s.fld TRU.TRU_BUF_ADDR) (s.reg TRU.TRU_BUF_LEN)

/-- A command ends with a result. -/
def truResult (s : State) (r : Nat) : State := s.setReg TRU.TRU_STATUS (r + 2 ^ 8)

/-- A write of `TRU_CMD` with an op and `GO`: the page is ON, and the op runs. -/
def truRow (op : Nat) (s : State) (f : State → State) : Host.Outcome State Fault Refusal :=
  if s.pageState .tru = pgOn then .next (f (s.setFld TRU.TRU_CMD_OP op)) else .next s

/-! ## Modules (R424) -/

/-- The grade code of the device. -/
def gradeCode (s : State) : Nat := s.fld GRD.GRD_ID_GRADE

/-- R424: a manifest and its body as a module. -/
def Mod.parse (b : List Byte) : Mod :=
  let w := fieldAt b 4 4
  { block := bits w 0 8, owner := bit w 8, raise := bit w 9, version := fieldAt b 8 4, svn := fieldAt b 0xC 2,
    grades := fieldAt b 0x10 1 % 8, key := (beNat (slice b 0x80 512), fieldAt b 0x280 4),
    meas := sha512Nat (b.take (1280 + fieldAt b 0x14 4)) }

/-- R424 check 1: `FORMAT`, the reserved bytes and `BODY_LEN` are legal, and the body is there. -/
def manifestOk (b : List Byte) : Bool :=
  let z := fun (a n : Nat) => (slice b a n).all (fun x => x == 0)
  decide (1280 ≤ b.length ∧ fieldAt b 0 2 = 1 ∧ fieldAt b 4 4 < 2 ^ 10 ∧ fieldAt b 0x10 1 < 8 ∧
    fieldAt b 0x14 4 ≤ 2 ^ 24 ∧ 1280 + fieldAt b 0x14 4 ≤ b.length) &&
  z 2 2 && z 0xE 2 && z 0x11 3 && z 0x18 0x28 && z 0x284 0x7C

/-- R424 check 2: the signer is the vendor, or the owner for a module of another type than STW and TRU. -/
def signerOk (s : State) (m : Mod) : Bool :=
  if m.owner then decide (3 ≤ m.block) && s.tru.owner.any (fun k => keyHash m.key == keyHash k)
  else keyHash m.key == keyHash s.tru.vendor

/-- R424: the floor of a block type. -/
def floorOf (s : State) (block : Nat) : Nat := sget 0 s.tru.floors block

/-- R424: the checks in order; the result, and the module where it passes. -/
def checkModule (s : State) (b : List Byte) : Nat × Option Mod × State :=
  let m := Mod.parse b
  if !manifestOk b then (trFormat, none, s)
  else if !signerOk s m then (trBadKey, none, s)
  else
    let (ok, s) := sigOk s m.key (b.take 0x300) (slice b 0x300 512)
    if !ok then (trBadSig, none, s)
    else if sha512 (slice b 1280 (fieldAt b 0x14 4)) != slice b 0x40 64 then (trBadHash, none, s)
    else if !bit m.grades (gradeCode s - 1) then (trGrade, none, s)
    else if m.svn < floorOf s m.block then (trRollback, none, s)
    else (trOk, some m, s)

/-- A module's verification has failed (R424, R435). -/
def verifyFailed (s : State) : State := raise .tru 0 4 (s.bump TRU.VERIFY_FAILS)

/-- VERIFY (R424). -/
def execVerify (s : State) : Host.Outcome State Fault Refusal :=
  truRow 2 s (fun s =>
    let (r, _, s) := checkModule s (truBuf s)
    truResult (if r = trOk then s else verifyFailed s) r)

/-! ## The owner key (R427) -/

/-- R425: the trust record is rewritten in area 3. -/
def writeRecord3 (s : State) : State :=
  match programOwn s 3 0 with
  | some s => modTru s (fun t => { t with rec3 := (t.owner, t.floors) })
  | none => s

/-- `TRU_STATE.OWNER` follows the trust record. -/
def showOwner (s : State) : State := s.setFld TRU.TRU_STATE_OWNER (b2n s.tru.owner.isSome)

/-- NONCE (R427). A fresh 32-byte nonce in the buffer. -/
def execNonce (s : State) : Host.Outcome State Fault Refusal :=
  truRow 3 s (fun s =>
    let (ok, s) := rngReady s
    if !ok then truResult s trRng
    else
      let (b, s) := s.drawBytes 32
      truResult (modTru (tunWrite s (s.fld TRU.TRU_BUF_ADDR) b) (fun t => { t with nonce := some b })) trOk)

/-- R427: the identity fields and the nonce that a token carries: `LOT`, `WAFER`, `DIE0` and the 32-byte nonce, packed in this
order (log entry 50). -/
def tokenHead (s : State) (n : List Byte) : List Byte :=
  leBytes 8 (s.reg TRU.ID_LOT) ++ leBytes 4 (s.reg TRU.ID_WAFER % 256) ++ leBytes 4 (s.reg TRU.ID_DIE 0 0) ++ n

/-- R427: a token is refused. -/
def tokenRefused (s : State) (r : Nat) : State := truResult (raise .tru 0 6 s) r

/-- ENROL (R427). The token: its head, the owner modulus and exponent, and a vendor signature over all of these. -/
def execEnrol (s : State) : Host.Outcome State Fault Refusal :=
  truRow 4 s (fun s =>
    let b := truBuf s
    let n := s.tru.nonce
    let s := modTru s (fun t => { t with nonce := none })
    if s.tru.owner.isSome then tokenRefused s trPolicy
    else if b.length ≠ 1076 then tokenRefused s trFormat
    else
      let (ok, s) := sigOk s s.tru.vendor (b.take 564) (b.drop 564)
      if !ok then tokenRefused s trBadSig
      else if n.isNone || b.take 48 != tokenHead s (n.getD []) then tokenRefused s trPolicy
      else
        let k := (beNat (slice b 48 512), beNat (slice b 560 4))
        truResult (writeRecord3 (showOwner (modTru s (fun t => { t with owner := some k })))) trOk)

/-- UNENROL (R427). The token: its head and a signature by the vendor or the enrolled owner; refused while an owner-signed module
is installed or pending. -/
def execUnenrol (s : State) : Host.Outcome State Fault Refusal :=
  truRow 5 s (fun s =>
    let b := truBuf s
    let n := s.tru.nonce
    let s := modTru s (fun t => { t with nonce := none })
    if s.tru.owner.isNone || s.tru.mods.any Mod.owner || s.tru.stored.any Mod.owner || s.tru.upd.any (fun x => x.1.owner) then
      tokenRefused s trPolicy
    else if b.length ≠ 560 then tokenRefused s trFormat
    else
      let (ok, s) := sigOk s s.tru.vendor (b.take 48) (b.drop 48)
      let ok := ok || pssVerify (s.tru.owner.getD (0, 0)) (sha512 (b.take 48)) (b.drop 48)
      if !ok then tokenRefused s trBadSig
      else if n.isNone || b.take 48 != tokenHead s (n.getD []) then tokenRefused s trPolicy
      else truResult (writeRecord3 (showOwner (modTru s (fun t => { t with owner := none })))) trOk)

/-- PATVERIFY (R428). The buffer holds a user pattern's image and a 512-byte signature over its SHA-512. A verified image is the
one the Steward may issue a `PATLOAD` of. -/
def execPatverify (s : State) : Host.Outcome State Fault Refusal :=
  truRow 7 s (fun s =>
    let b := truBuf s
    if b.length < 512 + 32 then truResult s trFormat
    else
      let n := b.length - 512
      let (ok, s) := sigOk s (ownerOrVendor s) (b.take n) (b.drop n)
      if ok then truResult (modTru s (fun t => { t with patImg := some (b.take n) })) trOk
      else truResult (modTru s (fun t => { t with patImg := none })) trBadSig)

/-! ## Attestation (R429, R430) -/

/-- R429: every page of the window in MMIO order, but for the core pages of absent cores. -/
def reportPages (s : State) : List (PageKind × Nat) :=
  let cores := (List.range 4).filter s.present
  let each := fun (p : PageKind) => (List.range p.count).map (fun i => (p, i))
  [PageKind.stw, .tru, .pwr, .grd, .cal].flatMap each ++
  cores.flatMap (fun c => [PageKind.spr, .mld, .asy, .cru, .ldl, .run].map (fun p => (p, c))) ++
  [PageKind.tun, .hbm, .ing, .ingch, .avl, .col, .rout].flatMap each

/-- R439: `PAGE_ID`. -/
def pageId (p : PageKind) (i : Nat) : Nat := p.blockType * 2 ^ 24 + i % 256 * 2 ^ 16 + 1

/-- R429: 80 bytes of one module. -/
def modBytes (s : State) (m : Mod) : List Byte :=
  let pend := s.tru.upd.any (fun x => x.1.block == m.block)
  leBytes 4 (m.block + b2n m.owner * 2 ^ 8 + b2n pend * 2 ^ 9 + m.svn * 2 ^ 16) ++ leBytes 4 m.version ++ zeros 8 ++
    leBytes 64 m.meas

/-- R429: the report over a nonce, without its signature. -/
def reportBody (s : State) (nonce : List Byte) : List Byte :=
  let ms := s.tru.mods
  let ps := reportPages s
  let len := 768 + 80 * ms.length + 8 * ps.length
  leBytes 4 1 ++ leBytes 4 len ++ leBytes 8 nonce.length ++ slice nonce 0 64 ++ leBytes 4 (s.reg GRD.GRD_ID) ++
  leBytes 4 (s.reg GRD.GRD_PROFILE) ++ leBytes 4 (s.reg PWR.FRM_STATE) ++
  leBytes 4 (s.fld STW.INJ_EN_EN + b2n (rwlLocked s .stw 0) * 2) ++ leBytes 8 s.frame ++ leBytes 4 (s.life.getD 3 0) ++
  leBytes 4 (ms.length + ps.length * 2 ^ 8) ++ leBytes 16 (b2n s.tru.owner.isSome + s.fld TRU.TRU_STATE_RECOVERY * 2) ++
  sha512 (certBytes s) ++ ownerHash s ++ ms.flatMap (modBytes s) ++
  ps.flatMap (fun x => leBytes 4 (pageId x.1 x.2) ++ leBytes 4 (s.reg (HDR.PAGE_LOCK x.1) x.2))

/-- R421: bytes signed by the identity key, with a salt from the random source. -/
def idSign (s : State) (b : List Byte) : List Byte × State :=
  let (salt, s) := s.drawBytes 64
  (pssSign (certKey (certBytes s)).1 s.tru.idPriv (sha512 b) salt, s)

/-- R429: the signed report over a nonce. -/
def report (s : State) (nonce : List Byte) : List Byte × State :=
  let b := reportBody s nonce
  let (sig, s) := idSign s b
  (b ++ sig, s)

/-- ATTEST (R430). The nonce, of 16–64 bytes, lies in the buffer; the report is written over it. -/
def execAttest (s : State) : Host.Outcome State Fault Refusal :=
  truRow 1 s (fun s =>
    let n := truBuf s
    let (ok, s) := rngReady s
    if !ok then truResult s trRng
    else if n.length < 16 ∨ 64 < n.length then truResult s trFormat
    else
      let (b, s) := report s n
      truResult (tunWrite s (s.fld TRU.TRU_BUF_ADDR) b) trOk)

/-! ## The link exchange (R431–R433) -/

/-- R431: a link message in fragments of 232 bytes: payloads of `CTRL` flits. -/
def fragments (type : Nat) (b : List Byte) : List (List Byte) :=
  let n := max 1 (ceilDiv b.length 232)
  (List.range n).map (fun i =>
    slice (leBytes 4 (type + i * 2 ^ 8 + (if i + 1 = n then 2 ^ 16 else 0)) ++ slice b (232 * i) 232) 0 240)

/-- A link message queued at a port. -/
def sendLink (s : State) (p type : Nat) (b : List Byte) : State :=
  modLink s p (fun l => { l with ctrl := l.ctrl ++ fragments type b })

/-- R431: the message types. -/
def lkHello : Nat := 0x21
def lkReport : Nat := 0x22
def lkShare : Nat := 0x23
def lkDone : Nat := 0x24

/-- The exchange of a port ends. -/
def exEnd (l : PortLink) : PortLink := { l with ex := none, peerN := none, peerS := none, peerCert := [], peerRep := false }

/-- R431: the port fails and the failure is counted. -/
def linkFailed (s : State) (p : Nat) : State :=
  raise .tru 0 5 (leavePort ((modLink s p exEnd).bump AVL.AUTH_FAIL 1 p) p ptFailed)

/-- R431: the exchange is refused with a result: `DONE` carries it. -/
def linkRefuse (s : State) (p r : Nat) : State :=
  let s := linkFailed s p
  { modLink s p (fun l => { l with ctrl := fragments lkDone (leBytes 4 r) }) with pkNo := s.pkNo }

/-- R431: the port may run an exchange. -/
def linkable (s : State) (p : Nat) : Bool :=
  s.flag AVL.CTRL_ENC_EN p && (s.port' p == ptUp || s.port' p == ptActive) && !s.quenched

/-- R431: an exchange starts at a port: the nonce and the share are drawn and `HELLO` is sent. -/
def startLink (s : State) (p : Nat) : State :=
  let (n, s) := s.drawBytes 32
  let (x, s) := s.drawBytes 32
  let s := modLink s p (fun l => { exEnd l with ex := some (leNat n, leNat x) })
  sendLink s p lkHello (n ++ certBytes s)

/-- LINK (R431). -/
def execLink (p : Port) (s : State) : Host.Outcome State Fault Refusal :=
  truRow 8 (s.setFld TRU.TRU_CMD_ARG p) (fun s =>
    if !linkable s p then truResult s trPolicy
    else
      let (ok, s) := rngReady s
      if ok then truResult (startLink s p) trOk else truResult s trRng)

/-- The oldest link message of a type at a port with an exchange to run. -/
def takeLink (s : State) (p type : Nat) : Option (List Byte × State) :=
  if linkable s p then takeMsg s p type else none

/-- HELLO (R431). The peer's nonce and certificate: this end starts its side if it has not; the certificate verifies under the
vendor key (a host adapter's under the owner key), and the report over the peer's nonce is sent. -/
def execHello (p : Port) (s : State) : Host.Outcome State Fault Refusal :=
  match takeLink s p lkHello with
  | none => .next s
  | some (b, s) =>
    let (ok, s) := rngReady s
    if !ok then .next (linkRefuse s p trRng)
    else
      let s := if (s.link p).ex.isNone then startLink s p else s
      let cert := slice b 32 1280
      let key := if s.flag AVL.PEER_HOST p then s.tru.owner.getD (0, 0) else s.tru.vendor
      let (good, s) := sigOk s key (cert.take 0x300) (slice cert 0x300 512)
      if !good then .next (linkRefuse s p trBadSig)
      else
        let s := modLink s p (fun l => { l with peerN := some (fieldAt b 0 32), peerCert := cert })
        let (r, s) := report s (slice b 0 32)
        .next (sendLink s p lkReport r)

/-- R431: the peer's report passes: its signature, this end's nonce, and `LK_POLICY`. -/
def reportOk (s : State) (p : Nat) (b : List Byte) : Nat × State :=
  let n := fieldAt b 4 4 - 512
  let (ok, s) := sigOk s (certKey (s.link p).peerCert) (b.take n) (slice b n 512)
  if !ok then (trBadSig, s)
  else if some (fieldAt b 0x10 32) ≠ (s.link p).ex.map Prod.fst then (trPolicy, s)
  else if s.flag TRU.LK_POLICY_SAME_OWNER && slice b 0xC0 64 != ownerHash s then (trPolicy, s)
  else if s.flag TRU.LK_POLICY_PEER_INJ_LOCKED && fieldAt b 0x5C 4 % 4 != 2 then (trPolicy, s)
  else (trOk, s)

/-- REPORT (R431). The peer's report is checked; if it passes, the share is sent under the peer's identity key. -/
def execReport (p : Port) (s : State) : Host.Outcome State Fault Refusal :=
  if (s.link p).peerN.isNone then .next s
  else match takeLink s p lkReport with
  | none => .next s
  | some (b, s) =>
    let (r, s) := reportOk s p b
    if r ≠ trOk then .next (linkRefuse s p r)
    else
      let (seed, s) := s.drawBytes 64
      let x := ((s.link p).ex.map Prod.snd).getD 0
      let s := modLink s p (fun l => { l with peerRep := true })
      .next (sendLink s p lkShare (oaepEncrypt (certKey (s.link p).peerCert) (leBytes 32 x) seed))

/-- R432: the digest of a direction: its tag, the shares, the nonces, and each end's ID and port, lo first. -/
def linkDigest (tag : Nat) (lo hi : Nat × Nat × Nat × Nat) : List Byte :=
  let (sl, nl, il, pl) := lo
  let (sh, nh, ih, ph) := hi
  sha512 (leBytes 1 tag ++ leBytes 32 sl ++ leBytes 32 sh ++ leBytes 32 nl ++ leBytes 32 nh ++
    leBytes 4 il ++ leBytes 1 pl ++ leBytes 4 ih ++ leBytes 1 ph)

/-- R301, R432: a key and salt written into the unused slot of each direction; a direction without a key takes it at once. -/
def installKeys (s : State) (p : Nat) (tx rx : Nat × Nat) : State :=
  let ts := s.fld AVL.KEY_STATE_TX_SLOT p
  let valid := fun (i : Nat) => bit (s.reg AVL.KEY_STATE p) (1 + i)
  let first := !valid ts
  let tslot := if first then ts else 1 - ts
  let rs := (s.link p).rxSlot
  let rslot := if valid (2 + rs) then 1 - rs else rs
  let s := modLink s p (fun l => { l with keys := vset (vset l.keys tslot tx) (2 + rslot) rx, newKey := !first })
  let k := setBits (setBits (s.reg AVL.KEY_STATE p) (1 + tslot) 1 1) (3 + rslot) 1 1
  let s := s.setReg AVL.KEY_STATE k p
  let s := if first then (modLink (s.setReg AVL.TX_WRAPS 0 p) p (fun l => { l with rxWraps := 0 })).setFld AVL.STATE_ENC_ON 1 p else s
  s.setReg TRU.LK_STATE (setBits (s.reg TRU.LK_STATE) p 1 1)

/-- SHARE (R432). The peer's share decrypts; the keys of both directions are derived into the unused slots and `DONE` is sent. -/
def execShare (p : Port) (s : State) : Host.Outcome State Fault Refusal :=
  if !(s.link p).peerRep then .next s
  else match takeLink s p lkShare with
  | none => .next s
  | some (b, s) =>
    match oaepDecrypt (certKey (certBytes s)).1 s.tru.idPriv (slice b 0 512), (s.link p).ex, (s.link p).peerN with
    | some x, some (n, sh), some pn =>
      if x.length ≠ 32 then .next (linkRefuse s p trFormat)
      else
        let me := (sh, n, s.self, (p : Nat))
        let peer := (leNat x, pn, s.fld AVL.PEER_ID p, s.fld AVL.PEER_PORT p)
        let mine := s.flag AVL.PEER_HOST p || decide (s.self < s.fld AVL.PEER_ID p)
        let (lo, hi) := if mine then (me, peer) else (peer, me)
        let key := fun (t : Nat) => let d := linkDigest t lo hi; (leNat (d.take 32), leNat (slice d 32 5))
        let s := installKeys s p (key (if mine then 1 else 2)) (key (if mine then 2 else 1))
        .next (sendLink s p lkDone (leBytes 4 trOk))
    | _, _, _ => .next (linkRefuse s p trFormat)

/-- DONE (R431). The peer's result ends the exchange; a refusal fails the port. -/
def execDone (p : Port) (s : State) : Host.Outcome State Fault Refusal :=
  match takeLink s p lkDone with
  | none => .next s
  | some (b, s) => if fieldAt b 0 4 = trOk then .next (modLink s p exEnd) else .next (linkFailed s p)

/-- TX_WRAPS_LIMIT (R301, R433). At 2^31 wraps source 10 asks for a new key, which starts an exchange with `AUTO_ROTATE` set; at
2^32 − 1 the port fails. -/
def execTxWrapsLimit (p : Port) (s : State) : Host.Outcome State Fault Refusal :=
  let n := s.reg AVL.TX_WRAPS p
  if !encOn s p || s.quenched then .next s
  else if 2 ^ 32 - 1 ≤ n then .next (leavePort s p ptFailed)
  else if 2 ^ 31 ≤ n ∧ ¬ s.flag AVL.KEY_STATE_KEY_AGE p then
    let s := raise .avl p 10 (s.setFld AVL.KEY_STATE_KEY_AGE 1 p)
    .next (if s.flag TRU.LK_POLICY_AUTO_ROTATE && linkable s p && !s.tru.rngBad then startLink s p else s)
  else .next s

/-! ## In-service updates (R434) -/

/-- R367: a `MODULE` record. -/
def jnlModule (s : State) (m : Mod) : State :=
  jnlAppend s 7 (leBytes 4 m.block ++ leBytes 4 m.version ++ leBytes 32 (m.meas % 2 ^ 256))

/-- A module takes its place in a list of modules, one per block type. -/
def putMod (ms : List Mod) (m : Mod) : List Mod :=
  if ms.any (fun x => x.block == m.block) then ms.map (fun x => if x.block = m.block then m else x) else ms ++ [m]

/-- R434 step 2: the pages of a module programmed into area 3, its directory entry last. -/
def programModule (s : State) (m : Mod) (bytes : Nat) : Option State :=
  ((List.range (ceilDiv bytes 16384 + 1)).foldl (fun (o : Option State) i =>
    o.bind (fun s => programOwn s 3 (1 + m.block * 1026 + i))) (some s)).map (fun s =>
      modTru s (fun t => { t with stored := putMod t.stored m }))

/-- `TRU_STATE.UPD_PENDING` follows the updates pending. -/
def showUpd (s : State) : State := s.setFld TRU.TRU_STATE_UPD_PENDING (b2n (!s.tru.upd.isEmpty))

/-- UPDATE (R434). The module in the buffer is verified and programmed, and its block type becomes pending; modules of the STW
and TRU types wait for the next warm reset. -/
def execUpdate (s : State) : Host.Outcome State Fault Refusal :=
  truRow 6 s (fun s =>
    let b := truBuf s
    let (r, m, s) := checkModule s b
    match m with
    | none => truResult (verifyFailed s) r
    | some m =>
      if s.tru.upd.any (fun x => x.1.block == m.block) || !ingRuns s then truResult s trBusy
      else match programModule s m b.length with
        | none => truResult s trBusy
        | some s =>
          let s := modTru (jnlModule s m) (fun t => { t with upd := t.upd ++ [(m, s.frame, decide (m.block ≤ 2))] })
          truResult (showUpd s) trOk)

/-- R434: every instance of a block type reads QUIESCED, OFF or FUSED. -/
def typeStill (s : State) (block : Nat) : Bool :=
  PageKind.all.all (fun p => p.blockType != block || (List.range p.count).all (fun i =>
    s.pageState p i == pgQuiesced || s.pageState p i == pgOff || s.pageState p i == pgFused))

/-- R424, R434: a module comes into force, and its floor rises where it asks for that. -/
def forceMod (s : State) (m : Mod) : State :=
  let s := modTru s (fun t => { t with mods := putMod t.mods m })
  if m.raise && decide (floorOf s m.block < m.svn) then
    writeRecord3 (modTru s (fun t => { t with floors := sset 0 t.floors m.block m.svn }))
  else s

/-- R434 step 4: pending modules whose blocks are still come into force. -/
def moduleWindow (s : State) : State :=
  let go := s.tru.upd.filter (fun x => !x.2.2 && decide (x.2.1 < s.frame) && typeStill s x.1.block)
  let s := go.foldl (fun s x => forceMod s x.1) s
  showUpd (modTru s (fun t => { t with upd := t.upd.filter (fun x => !go.contains x) }))

/-- MODULE_UPDATE_ACTIVATE (R434). In the boundary window of a tick. -/
def execModuleUpdateActivate (s : State) : Host.Outcome State Fault Refusal := .next (moduleWindow s)

/-- UPDATE_DEFER_TIMEOUT (R434). An update pending for `UPD_WAIT_FRAMES` frames is left to the next warm reset. -/
def execUpdateDeferTimeout (s : State) : Host.Outcome State Fault Refusal :=
  let late := fun (x : Mod × Nat × Bool) => !x.2.2 && decide (x.2.1 + s.reg TRU.UPD_WAIT_FRAMES ≤ s.frame)
  if s.tru.upd.any late then
    .next (raise .tru 0 7 (modTru s (fun t => { t with upd := t.upd.map (fun x => if late x then (x.1, x.2.1, true) else x) })))
  else .next s

end Sys2Proof.Machine
end

