-- ==== Sys2Proof/Machine/Tundish.lean ====
section
/-!
DEFINITION. Machine/Tundish.lean: the Tundish's banks as the service sees them (R220, R227–R229), the scrubbers of R402,
and the quota set (R232, R233).
-/
namespace Sys2Proof.Machine

open Sys2Proof

/-! ## Banks (R220, R229) -/

/-- A line of a bank of a die: word `w` of payload line `line`, or of sidecar index `line - 65,536`, has this word number
in the address space (`TunSt.badWords`). -/
def bankWord (d bank line w : Nat) : Nat :=
  if line < 65536 then (2 * line + d) * 1024 + (bank + 128 - line % 128) % 128 * 8 + w
  else
    let k := line - 65536
    sideWord (2 * (k / 16 * 128 + (bank + 128 - k % 16) % 128) + d) (k % 16 * 8 + w)

/-- The die, bank, line and word of a word number. -/
def wordBank (x : Nat) : Nat × Nat × Nat × Nat :=
  if x < 2 ^ 27 then
    let t := x / 1024
    (t % 2, (t / 2 + x % 1024 / 8) % 128, t / 2, x % 8)
  else
    let t := (x - 2 ^ 27) / 128
    let j := x % 128 / 8
    (t % 2, (t / 2 + j) % 128, 65536 + t / 2 / 128 * 16 + j, x % 8)

/-- The place of a word of a fenced or spare bank in `TunSt.fenced`. -/
def fencedKey (d bank line w : Nat) : Nat := ((d * 132 + bank) * 73728 + line) * 8 + w

/-- R228: byte i of `SPARE_MAP`: the bank spare 128 + i replaces, if it is in use. -/
def spareOf (s : State) (d i : Nat) : Option Nat :=
  let b := bits (s.reg TUN.SPARE_MAP d) (8 * i) 8
  if bit b 7 then some (b % 128) else none

/-- The bank is replaced by a spare, and therefore fenced. -/
def bankFenced (s : State) (d b : Nat) : Bool := (List.range 4).any (fun i => spareOf s d i == some b)

/-- The copy in progress or finished and not yet mapped. -/
def spareCopy (s : State) (d : Nat) : Option SpareCopy := s.tun.copies.toList.getD d none

/-- The spare copy of a die set. -/
def setCopy (s : State) (d : Nat) (x : Option SpareCopy) : State :=
  { s with tun := { s.tun with copies := s.tun.copies.mapIdx (fun i y => if i = d then x else y) } }

/-- R228: the lowest spare that is not in use. -/
def freeSpare (s : State) (d : Nat) : Option Nat := (List.range 4).find? (fun i => (spareOf s d i).isNone)

/-! ## Scrubbing (R227, R402, R403) -/

/-- The bank a scrub pauses for: the one being copied (R228). -/
def scrubSkips (s : State) (d x : Nat) : Bool :=
  match spareCopy s d with
  | some y => y.done.isNone && (wordBank x).2.1 == y.bank
  | none => false

/-- R227: the ck one pass of the Tundish scrubber needs at its full rate. -/
def scrubFull (s : State) : Nat := tkCk s (73728 * 64)

/-- R227: when the scrubber of a die reads line `line` of every bank: N frames hold a pass, at most one line per 64 tk. -/
def scrubDue (s : State) (d line : Nat) : Nat :=
  let (start, last) := s.tun.scrubCk.toList.getD d (0, 0)
  max (start + line * (s.reg TUN.SCRUB_FRAMES 0 * s.reg PWR.FRM_PERIOD) / 73728) (last + tkCk s 64)

/-- R402: scrubber `i` of `SCRUB_CTRL` at a unit: it comes to another one `gap` ck after the last at the earliest. -/
def scrubPace (s : State) (i unit gap : Nat) : State :=
  let (u, t) := sget (0, 0) s.tun.scrubs i
  if u = unit + 1 then s
  else
    let s := s.upTo (t + gap)
    { s with tun := { s.tun with scrubs := sset (0, 0) s.tun.scrubs i (unit + 1, s.ck) } }

/-- R227: a pass of a die's scrubber ends. When its frames are too few it has run at its full rate and is behind. -/
def scrubEnd (s : State) (d : Nat) : State :=
  let s := s.bump TUN.SCRUB_PASSES 1 d
  let behind := decide (s.reg TUN.SCRUB_FRAMES 0 * s.reg PWR.FRM_PERIOD < scrubFull s)
  let s := s.setFld TUN.STATE_SCRUB_BEHIND (b2n behind) d
  if behind then raise .tun d 6 s else s

/-- R227: the scrubber of a die reads the next line of every bank, when its pace has come to it. Word `a` of the 1,024 words of those lines is found
with status `e`; words already uncorrectable are found so again, and are left as found. -/
def scrubTun (s : State) (d a e : Nat) : State :=
  if s.reg TUN.SCRUB_FRAMES 0 = 0 || s.flag TUN.STATE_FILLING d then s
  else
    let line := s.tun.scrubPos.toList.getD d 0
    let s := s.upTo (scrubDue s d line)
    let from' := if line = 0 then s.ck else (s.tun.scrubCk.toList.getD d (0, 0)).1
    let s := { s with tun := { s.tun with scrubCk := s.tun.scrubCk.mapIdx (fun i y => if i = d then (from', s.ck) else y) } }
    let x := bankWord d (a % 1024 / 8) line (a % 8)
    let s := if e = 2 ∧ ¬ scrubSkips s d x then { s with tun := { s.tun with badWords := sset 0 s.tun.badWords x 3 } } else s
    let bad := (s.tun.badWords.filter (fun w =>
      let b := wordBank w.1
      b.1 == d && b.2.2.1 == line && !scrubSkips s d w.1)).length
    let ue := s.armed TUN.INJ_UE d
    let ce := s.armed TUN.INJ_CE d && !ue
    let nUe := bad + b2n ue
    let nCe := b2n (e == 1 && !scrubSkips s d x) + b2n ce
    let s := (if ue then s.disarm TUN.INJ_UE d else if ce then s.disarm TUN.INJ_CE d else s)
    let s := (List.range nCe).foldl (fun s _ => raise .tun d 1 (s.bump TUN.CORR_COUNT 1 d)) s
    let s := (List.range nUe).foldl (fun s _ => raise .tun d 2 (s.bump TUN.UNCORR_COUNT 1 d)) s
    let next := if line + 1 = 73728 then 0 else line + 1
    let s := { s with tun := { s.tun with scrubPos := s.tun.scrubPos.mapIdx (fun i y => if i = d then next else y) } }
    if next = 0 then scrubEnd s d else s

/-- R403: common source 1 for a corrected word, 2 for an uncorrectable one, of the owning page. -/
def scrubReport (s : State) (p : PageKind) (inst e : Nat) : State :=
  if e = 1 then raise p inst 1 s else if e = 2 then raise p inst 2 s else s

/-- R402: a scrubber of `SCRUB_CTRL` is enabled. -/
def scrubOn (s : State) (i : Nat) : Bool := bit (s.reg STW.SCRUB_CTRL) i

/-- SCRUB_ACCESS (R403). A scrubber reads word `a` of its memory, in a slot that nothing else uses, and finds it with
status `e`: 0 good, 1 corrected, 2 uncorrectable. A word found uncorrectable before is found so again. In quench the
Tundish's and the Steward's scrubbers go on (R394). -/
def execScrubAccess (m : Scrubbed) (a : Nat) (e : Fin 3) (s : State) : Host.Outcome State Fault Refusal :=
  match m with
  | .tun d => .next (scrubTun s d a e)
  | .cache c =>
    if scrubOn s c && !s.quenched then
      let w := a % 2 ^ 22
      let s := scrubPace s c (w / 256) 256
      let e := if (s.core c).ldl.cacheBad.contains w then 2 else e.val
      let s := if e = 2 ∧ ¬ (s.core c).ldl.cacheBad.contains w then
          s.modCore c (fun x => { x with ldl := { x.ldl with cacheBad := w :: x.ldl.cacheBad } }) else s
      .next (scrubReport s .ldl c e)
    else .next s
  | .cru c =>
    if scrubOn s (4 + c) && !s.quenched then
      let w := a % (392192 * 16)
      let s := scrubPace s (4 + c) (w / 16) 256
      let e := if (s.core c).cru.bad.contains w then 2 else e.val
      let s := if e = 2 ∧ ¬ (s.core c).cru.bad.contains w then
          s.modCore c (fun x => { x with cru := { x.cru with bad := w :: x.cru.bad } }) else s
      .next (scrubReport s .cru c e)
    else .next s
  | .pat c =>
    let w := a % 2 ^ 14
    if scrubOn s (8 + c) && !s.quenched && bit (s.reg SPR.PAT_SLOTS c) (w / 256) then
      let s := scrubPace s (8 + c) w 256
      let e := if (s.core c).spr.patBad.contains w then 2 else e.val
      let s := if e = 2 ∧ ¬ (s.core c).spr.patBad.contains w then
          s.modSpr c (fun x => { x with patBad := w :: x.patBad }) else s
      .next (scrubReport s .spr c e)
    else .next s
  | .asy c =>
    if scrubOn s (12 + c) && !s.quenched then
      let u := a % (192 * 4096) / 4096
      let s := scrubPace s (12 + c) u 65536
      let s := if e.val = 2 then
          let s := s.modCore c (fun x => { x with asy := { x.asy with
            tags := sset (0, false) x.asy.tags u ((sget (0, false) x.asy.tags u).1, true) } })
          s.setReg ASY.POISON_UNITS (((s.core c).asy.tags.filter (fun x => x.2.2)).length) c
        else s
      .next (scrubReport s .asy c e)
    else .next s
  | .stw => if scrubOn s 16 then .next (scrubReport (scrubPace s 16 a 64) .stw 0 e) else .next s

/-! ## Spare banks (R228) -/

/-- SPARE_REQ (R228). A bank number with `GO` starts a copy of the bank into the lowest free spare. -/
def execSpareReq (d : Die) (bank : Fin 128) (s : State) : Host.Outcome State Fault Refusal :=
  if s.pageState .tun d = pgQuenched then .next s else
  let s := s.setFld TUN.SPARE_REQ_BANK bank d
  match (spareCopy s d), freeSpare s d with
  | none, some i =>
    let s := s.setFld TUN.SPARE_REQ_REFUSED 0 d
    let s := setCopy s d (some { bank := bank, spare := i, startCk := s.ck })
    .next ((s.setFld TUN.STATE_COPYING 1 d).setReg TUN.SPARE_PROGRESS 0 d)
  | _, _ => .next (raise .tun d 5 (s.setFld TUN.SPARE_REQ_REFUSED 1 d))

/-- SPARE_COPY_DONE (R228). Every line of the bank is in the spare, 4,718,592 tk after the copy started. -/
def execSpareCopyDone (d : Die) (s : State) : Host.Outcome State Fault Refusal :=
  match spareCopy s d with
  | some x =>
    if x.done.isNone then
      let s := s.upTo (x.startCk + tkCk s 4718592)
      let s := setCopy s d (some { x with done := some s.ck })
      .next ((s.setFld TUN.STATE_COPYING 0 d).setReg TUN.SPARE_PROGRESS 73728 d)
    else .next s
  | none => .next s

/-- What a bank holds as it is fenced: the words of the address space that lie in it, with their check bits. -/
def fenceBank (s : State) (d bank : Nat) : SMap Nat :=
  let cells := (s.tun.bytes.map (fun (c : Host.Cell) => c.1 / 16)) ++
    (s.tun.side.map (fun (c : Host.Cell) => 2 ^ 27 + c.1 / 16)) ++ s.tun.badWords.map Prod.fst
  (cells.filter (fun x => (wordBank x).1 == d && (wordBank x).2.1 == bank)).foldl (fun m x =>
    let (_, _, line, w) := wordBank x
    let data := leNat (if x < 2 ^ 27 then readBytes s.tun.bytes (16 * x) 16 else readBytes s.tun.side (16 * (x - 2 ^ 27)) 16)
    sset 0 m (fencedKey d bank line w) (data + sget 0 s.tun.badWords x * 2 ^ 128)) s.tun.fenced

/-- SPARE_MAP_CHANGE (R228, R32). In the boundary window of the first tick after the copy ended, the spare takes the
bank's place, source 4 is raised, and the bank is fenced as it stands. -/
def execSpareMapChange (d : Die) (s : State) : Host.Outcome State Fault Refusal :=
  match spareCopy s d with
  | some x =>
    if x.done.any (fun t => decide (t < s.frameCk)) then
      let keep := (fenceBank s d x.bank).filter (fun e => e.1 / (8 * 73728) != d * 132 + 128 + x.spare)
      let s := { s with tun := { s.tun with fenced := keep } }
      let s := s.setReg TUN.SPARE_MAP (setBits (s.reg TUN.SPARE_MAP d) (8 * x.spare) 8 (128 + x.bank)) d
      .next (jnlRetire (raise .tun d 4 (setCopy s d none)) 1 (128 * d + x.bank))
    else .next s
  | none => .next s

/-! ## The diagnostic window (R229) -/

/-- R224: the columns a SECDED code may give its data bits: those with an odd number of ones, no check bit's own (log entry 43). -/
def oddColumns : List Nat :=
  (List.range 512).filter (fun v => ((List.range 9).filter (bit v)).length % 2 == 1 && (List.range 9).all (fun i => v != 2 ^ i))

/-- `n` different columns out of a list, as the configuration chooses them. -/
def pickColumns : Nat → List Nat → List Nat
  | 0, _ => []
  | n + 1, l =>
    let i := (Config.eccColumn n).toNat % max 1 l.length
    l.getD i 0 :: pickColumns n (l.eraseIdx i)

/-- R224: the column of each data bit. -/
def eccColumns : List Nat := pickColumns 128 oddColumns

/-- R224: the check bits of a 128-bit word. -/
def eccCheck (data : Nat) : Nat :=
  eccColumns.zipIdx.foldl (fun c x => if bit data x.2 then c ^^^ x.1 else c) 0

/-- R224, R229: a stored word decoded: corrected data, and 0 none, 1 corrected, 2 uncorrectable. A syndrome with one bit
is an error in that check bit; one that is a data bit's column is an error in that bit. -/
def eccDecode (data synd : Nat) : Nat × Nat :=
  if synd = 0 then (data, 0)
  else if (List.range 9).any (fun i => synd == 2 ^ i) then (data, 1)
  else match eccColumns.zipIdx.find? (fun x => x.1 == synd) with
    | some x => (data ^^^ 2 ^ x.2, 1)
    | none => (data, 2)

/-- R229: the diagnostic window reaches a fenced bank, or a spare that is not mapped and into which no copy runs, at a
line that exists. -/
def diagOk (s : State) (d bank line : Nat) (side : Bool) : Bool :=
  (if bank < 128 then bankFenced s d bank
   else decide (bank < 132) && (spareOf s d (bank - 128)).isNone && !(spareCopy s d).any (fun x => x.spare == bank - 128)) &&
  (!side || decide (line < 8192))

/-- A diagnostic operation of a TUN page: 1 raw write, 2 raw read, 3 decoded read. -/
def diagRun (s : State) (d op : Nat) : State :=
  if !s.flag TUN.DIAG_CTRL_EN d then s
  else
    let bank := s.fld TUN.DIAG_CTRL_BANK d
    let side := s.flag TUN.DIAG_CTRL_SIDE d
    let l := s.fld TUN.DIAG_LINE_L d
    if !diagOk s d bank l side then s.setReg TUN.DIAG_STATUS 2 d
    else
      let key := fencedKey d bank (if side then 65536 + l else l) (s.fld TUN.DIAG_CTRL_WORD d)
      if op = 1 then
        let data := (List.range 4).foldl (fun n i => n + s.reg TUN.DIAG_DATA d i * 2 ^ (32 * i)) 0
        let x := eccCheck data ^^^ s.reg TUN.DIAG_CHECK d
        let s := { s with tun := { s.tun with fenced := sset 0 s.tun.fenced key (data + x * 2 ^ 128) } }
        s.setReg TUN.DIAG_STATUS 1 d
      else
        let v := sget 0 s.tun.fenced key
        let data := v % 2 ^ 128
        let synd := v / 2 ^ 128
        let put := fun (s : State) (n : Nat) =>
          (List.range 4).foldl (fun s i => s.setReg TUN.DIAG_DATA (bits n (32 * i) 32) d i) s
        if op = 2 then ((put s data).setReg TUN.DIAG_CHECK (eccCheck data ^^^ synd) d).setReg TUN.DIAG_STATUS 1 d
        else
          let (fixed, r) := eccDecode data synd
          (put s fixed).setReg TUN.DIAG_STATUS (1 + synd * 4 + r * 2 ^ 11) d

/-- DIAG_RAW_WRITE (R229): `DIAG_DATA` and `DIAG_CHECK` are stored as given. -/
def execDiagRawWrite (d : Die) (s : State) : Host.Outcome State Fault Refusal :=
  if s.pageState .tun d = pgQuenched then .next s else .next (diagRun (s.setFld TUN.DIAG_CTRL_OP 1 d) d 1)

/-- DIAG_RAW_READ (R229): data and check bits as stored. -/
def execDiagRawRead (d : Die) (s : State) : Host.Outcome State Fault Refusal :=
  if s.pageState .tun d = pgQuenched then .next s else .next (diagRun (s.setFld TUN.DIAG_CTRL_OP 2 d) d 2)

/-- DIAG_DECODED_READ (R229): the corrected data and the syndrome. -/
def execDiagDecodedRead (d : Die) (s : State) : Host.Outcome State Fault Refusal :=
  if s.pageState .tun d = pgQuenched then .next s else .next (diagRun (s.setFld TUN.DIAG_CTRL_OP 3 d) d 3)

/-! ## Quotas (R232, R233) -/

/-- The entry of a user as written; 7 is the pool. -/
def quotaReg (s : State) (u : Nat) : Quota :=
  let v := if u = 7 then s.reg TUN.POOL else s.reg TUN.QUOTA 0 u
  { first := bits v 0 17, count := bits v 17 18, mode := bits v 35 2 }

/-- Two ranges share a tile. -/
def Quota.meets (a b : Quota) : Bool :=
  a.mode != 0 && b.mode != 0 && a.count != 0 && b.count != 0 &&
    decide (a.first < b.first + b.count ∧ b.first < a.first + a.count)

/-- R233: the first conflict of a set: a range past tile 131,071, or two enabled ranges that overlap. -/
def quotaConflict (q : Nat → Quota) : Option (Nat × Nat) :=
  match (List.range 8).find? (fun u => (q u).mode != 0 && decide (131072 < (q u).first + (q u).count)) with
  | some u => some (u, u)
  | none =>
    ((List.range 8).flatMap (fun u => ((List.range 8).filter (fun v => decide (u < v))).map (fun v => (u, v)))).find?
      (fun x => (q x.1).meets (q x.2))

/-- QAPPLY (R233). The set as written is checked; a set that passes waits for the next boundary window. -/
def execQapply (s : State) : Host.Outcome State Fault Refusal :=
  if s.pageState .tun = pgQuenched then .next s else
  let q := quotaReg s
  let pend := s.fld TUN.QSTATUS_PENDING
  match quotaConflict q with
  | some (u, v) => .next (raise .tun 0 7 (s.setReg TUN.QSTATUS (pend + 2 + u * 2 ^ 4 + v * 2 ^ 8)))
  | none =>
    if s.locked && (List.range 8).any (fun u => (q u).mode == 2) then
      .next (raise .tun 0 7 (s.setReg TUN.QSTATUS (pend + 4)))
    else
      .next ({ s with tun := { s.tun with quotaNext := some (Vector.ofFn (fun u => q u.val)), quotaCk := s.ck } }.setReg
        TUN.QSTATUS 1)

/-- QUOTA_SET_APPLY (R233). In the boundary window of the next tick the set takes effect, and cache entries whose tiles
leave every cache range are invalidated. -/
def execQuotaSetApply (s : State) : Host.Outcome State Fault Refusal :=
  match s.tun.quotaNext with
  | some q =>
    if s.tun.quotaCk < s.frameCk then
      let s := { s with tun := { s.tun with quotas := q, quotaNext := none } }
      let s := dropEntries s (fun e => !q.toList.any (fun r => r.mode == 2 && decide (r.first ≤ e.tile ∧ e.tile < r.first + r.count)))
      .next (s.setFld TUN.QSTATUS_PENDING 0)
    else .next s
  | none => .next s

end Sys2Proof.Machine
end

