-- ==== Sys2Proof/Machine/Frames.lean ====
section
/-!
DEFINITION. Machine/Frames.lean: chapter 08: the tick and its boundary window (R32, R200, R207), frame checks (R217), period
and mode changes (R201, R206), idle frames and the power cap (R208, R410–R412), and alignment (R202, R203).
-/
namespace Sys2Proof.Machine

open Sys2Proof

/-- The state an outcome goes on from. -/
def settled (s : State) (o : Host.Outcome State Fault Refusal) : State :=
  match o with
  | .next t => t
  | _ => s

/-- The four cores in turn. -/
def eachCore (s : State) (f : State → Nat → State) : State := (List.range 4).foldl f s

/-- The command falls in the boundary window (R200). -/
def inWindow (s : State) : Bool := decide (s.ck < s.frameCk + 64)

/-! ## Frame checks (R217) -/

/-- R204, R217: the check of core `c`. In locked timing the counter is taken as it stood at the fitting tick: what has been
signalled since is left out. -/
def checkCore (s : State) (c : Nat) : State :=
  if s.flag PWR.FRM_CHK_EN 0 c then
    let inj := s.armed PWR.FRM_INJ_CHK_FAIL
    let s := if inj then s.disarm PWR.FRM_INJ_CHK_FAIL else s
    let id := s.fld PWR.FRM_CHK_TOKEN 0 c
    let due := min 0xFFFF (s.reg PWR.FRM_DUE 0 c + s.fld PWR.FRM_CHK_EXPECT 0 c)
    let m := if inj then 0 else min due (s.token c id - sget 0 (s.core c).spr.late id)
    let s := (spendToken s c id m).setReg PWR.FRM_DUE (due - m) 0 c
    if due - m = 0 then s else raise .pwr 0 16 ((s.setFld PWR.OVR_CORE_CORE c).bump PWR.OVR_COUNT)
  else s

/-- R217: the checks of the frame that ends at ck `t`, once. -/
def frameChecks (s : State) (t : Nat) : State :=
  if s.pwr.checked then s else eachCore (modPwr (s.upTo t) (fun p => { p with checked := true })) checkCore

/-- FRAME_CHECK (R217). The checks of the frame in progress are made at the tick that ends it. -/
def execFrameCheck (s : State) : Host.Outcome State Fault Refusal := .next (frameChecks s s.tickAt)

/-! ## The frame's own conditions (R32) -/

/-- R201: a pending period is due at the tick that has begun the current frame. `FRM_PERIOD_AT` is that frame, or its
distance ahead of the frame before it is 0 or at least 2^47. -/
def periodDue (s : State) : Bool :=
  let ahead := (s.reg PWR.FRM_PERIOD_AT + 2 ^ 48 - s.frame) % 2 ^ 48
  decide (ahead = 0 ∨ 2 ^ 47 ≤ ahead + 1)

/-- R201: the period changes. -/
def periodChange (s : State) : State :=
  if periodDue s then s.setReg PWR.FRM_PERIOD (s.reg PWR.FRM_PERIOD_NEXT) else s

/-- PERIOD_CHANGE (R201). In the boundary window of the tick that begins frame `FRM_PERIOD_AT`. -/
def execPeriodChange (s : State) : Host.Outcome State Fault Refusal := if inWindow s then .next (periodChange s) else .next s

/-- R206: the reasons a mode change is refused: schedule not locked, cache mode, slot tables, a stream running. -/
def modeWhy (s : State) : Nat :=
  b2n (!s.flag GRD.GRD_BSCHED_LOCK_LOCK) +
  b2n (s.tun.quotas.toList.any (fun q => q.mode == 2 && decide (0 < q.count))) * 2 +
  b2n (!s.flag HBM.SLOT_CTRL_VALID) * 4 +
  b2n ((List.range 4).any (fun c => s.stream c != stIdle && s.stream c != stHalted && s.stream c != stStopped)) * 8

/-- R206: a pending change of the timing mode takes effect, or is refused. Locked timing ends throttling (R412). HBM accesses that
wait are served by the rules of the mode in force (R205). -/
def modeChange (s : State) : State :=
  if s.flag PWR.FRM_CTRL_LOCK_REQ = s.locked then s
  else
    let w := modeWhy s
    let st := setBits (s.reg PWR.FRM_STATE) 2 5 0
    if w ≠ 0 then raise .pwr 0 19 (s.setReg PWR.FRM_STATE (setBits st 2 5 (1 + 2 * w)))
    else if s.locked then s.setReg PWR.FRM_STATE (setBits st 0 1 0)
    else throttleOff (s.setReg PWR.FRM_STATE (setBits st 0 1 1))

/-- TIMING_MODE_CHANGE (R206). In the boundary window of a tick. -/
def execTimingModeChange (s : State) : Host.Outcome State Fault Refusal := if inWindow s then .next (modeChange s) else .next s

/-! ## Messages between aligned devices (R202, R208, R321) -/

/-- R321: the `ACTIVE` device neighbours for which this device comes last on the route from `master`. -/
def furtherFrom (s : State) (master : Nat) : List Nat :=
  ((List.range 24).filterMap (fun p => if s.port' p = ptActive then expectedPeer s p else none)).eraseDups.filter
    (fun n => n != master && lastBefore s 64 master n == some s.self)

/-- A message of the master sent on, or sent by the master itself. -/
def sendFrom (s : State) (master mkind : Nat) (body : List Byte) : State :=
  if s.flag ROUT.SELF_VALID && !s.quenched then
    (furtherFrom s master).foldl (fun (s : State) n =>
      let m : Packet := { tc := 0, mkind := mkind, dest := n, src := master, len := flitsFor body.length,
                          fstamp := s.frame % 2 ^ 16, word := 0, body := body }
      { s with transit := s.transit ++ [m] }) s
  else s

/-- R202: the beacon of a master: its frame number, its period and its profile. -/
def beaconSend (s : State) : State :=
  if s.flag PWR.ALIGN_CTRL_MASTER then
    sendFrom s s.self 0x11 (leBytes 6 s.frame ++ leBytes 4 (s.reg PWR.FRM_PERIOD) ++ leBytes 1 (b2n s.endurance))
  else s

/-- R208: a frame is named idle: the device makes it so. -/
def nameIdle (s : State) (f : Nat) : State :=
  (modPwr s (fun p => { p with idleAt := some f })).setFld PWR.FRM_STATE_STRETCH_PENDING 1

/-- R208: the master names the frame two ahead, unless a frame named is not yet reached. -/
def masterNames (s : State) : State :=
  if s.pwr.idleAt.isSome then s
  else
    let f := (s.frame + 2) % 2 ^ 48
    sendFrom (nameIdle s f) s.self 0x12 (leBytes 1 1 ++ leBytes 6 f)

/-- R208, R411: stretch is asked of the master. -/
def askStretch (s : State) : State :=
  if s.pwr.stretchAsked then s
  else
    let s := modPwr s (fun p => { p with stretchAsked := true })
    if s.flag PWR.ALIGN_CTRL_MASTER then masterNames s
    else sendMsg s 0 0x12 (s.fld PWR.ALIGN_CTRL_SRC) false 0 (leBytes 7 0)

/-- STRETCH (R208). A request reaches the master, or the naming of a frame reaches a device, which sends it on. -/
def execStretch (s : State) : Host.Outcome State Fault Refusal :=
  if s.quenched then .next s
  else match takeKind s 0x12 with
  | none => .next s
  | some (_, m, s) =>
    if fieldAt m.body 0 1 = 0 then (if s.flag PWR.ALIGN_CTRL_MASTER then .next (masterNames s) else .next s)
    else .next (nameIdle (sendFrom s m.src 0x12 m.body) (fieldAt m.body 1 6))

/-! ## Idle frames (R208, R411) -/

/-- R208, R411: the current frame is idle. -/
def idleBegins (s : State) : State :=
  let s := modPwr { s with idleFrame := true } (fun p => { p with stretchAsked := false })
  raise .pwr 0 10 (s.bump PWR.IDLE_FRAMES)

/-- R411: the debt has reached `DEBT_MAX` with the cap enabled. -/
def capReached (s : State) : Bool :=
  s.fld PWR.PCAP_CAP_W != 0 && decide (s.fld PWR.PCAP_DEBT_MAX ≤ s.reg PWR.PCAP_DEBT)

/-- R208, R411: the frame that begins is idle when it is the one named, or in open timing when the cap asks for it; in locked
timing the cap asks the master for stretch. -/
def idleFrame (s : State) : State :=
  if s.idleFrame then s
  else
    let named := s.pwr.idleAt == some s.frame
    let s := if named then (modPwr s (fun p => { p with idleAt := none })).setFld PWR.FRM_STATE_STRETCH_PENDING 0 else s
    if named then idleBegins s
    else if capReached s then (if s.locked then askStretch s else idleBegins s)
    else s

/-- IDLE_FRAME (R208). In the boundary window of a tick. -/
def execIdleFrame (s : State) : Host.Outcome State Fault Refusal := if inWindow s then .next (idleFrame s) else .next s

/-! ## The power cap (R410, R412) -/

/-- R410: the debt after a frame of `len` ck that took `e` mJ. -/
def debtAfter (s : State) (e len : Nat) : Nat :=
  if s.fld PWR.PCAP_CAP_W = 0 then 0
  else min (2 ^ 32 - 1) (s.reg PWR.PCAP_DEBT + e - s.fld PWR.PCAP_CAP_W * len / (1000 * s.ckPerUs))

/-- R410: the energy of the frame that ends. -/
def powerCap (s : State) (e len : Nat) : State :=
  let d := debtAfter s e len
  let s := (s.wrapAdd PWR.ENERGY e).setReg PWR.PIN_W (min 65535 (e * 1000 * s.ckPerUs / max 1 len))
  s.setReg PWR.PCAP_DEBT d

/-- R412: throttling begins or ends at a tick. -/
def throttleTick (s : State) : State :=
  if s.flag PWR.PWR_STATE_THROTTLED then
    if !s.flag PWR.THR_CTRL_THROTTLE || (s.reg PWR.PCAP_DEBT == 0 && decide ((hottest s.pwr.temps).1 ≤ 1030)) then throttleOff s
    else s
  else if s.fld PWR.PCAP_CAP_W ≠ 0 ∧ s.fld PWR.PCAP_DEBT_MAX ≤ 2 * s.reg PWR.PCAP_DEBT then throttleOn s else s

/-! ## The write budget (R276) -/

/-- R276: the credit of a frame of `len` ck, with its carry, to at most 30 days' budget; a frame in which a write has waited
or would have counts. -/
def budgetCredit (s : State) (len : Nat) : State :=
  let b := s.reg ING.WB_DAY
  let q := s.ckPerUs * 1000000 * 86400
  let x := b * len + s.ing.carry
  let s : State := { s with ing := { s.ing with carry := x % q } }
  let s := setBucket s (min (30 * b : Int) (bucket s + (x / q : Nat)))
  let s := if s.ing.held || s.flag ING.STATE_WB_HELD then s.bump ING.WB_HOLDS else s
  { s with ing := { s.ing with held := false } }

/-! ## The boundary window (R32) -/

/-- R207: an outside event of the frame before takes effect. -/
def applyExt (s : State) : ExtEvt → State
  | .ringTail c v => applyRingTail s c v
  | .pred c v => s.setReg SPR.PRED v.toNat c
  | .signal c t => applySignal s c t (s.frameCk + 7)
  | .counter c t v => setToken s c t (s.frameCk + 7) v
  | .piece c seq eng r p => applyPiece s c eng seq r p
  | .written _ _ => s

/-- R32, R207: the outside events of the frame before, in the order they arrived, and the decision of a vote (R349). -/
def applyEvents (s : State) : State :=
  voteWindow (s.ext.foldl applyExt { s with ext := [] })

/-- R320: a port at a tick: one no longer enabled falls back to `UP`; one that is enabled may enter `ACTIVE`. A wrong peer
is reported once. -/
def portTick (s : State) (p : Nat) : State :=
  if s.port' p = ptActive ∧ ¬ bit (s.reg ROUT.PORT_EN) p then s.setFld AVL.STATE_PORT ptUp p
  else if h : p < 24 then
    let t := settled s (execPortActivate ⟨p, h⟩ s)
    if t.port' p ≠ ptActive ∧ bit (s.reg ROUT.MISCABLED) p then s else t
  else s

/-- R200, R203: the tick at ck `t`: counters, the trim of the new frame, what begins anew with each frame, and `TICK_OUT`
(R416). -/
def tickCounters (s : State) (t : Nat) : State :=
  let n := match s.pwr.newFrame with | some f => f | none => (s.frame + 1) % 2 ^ 48
  let gone := (s.frame + 1 + 2 ^ 48 - s.pwr.beaconFrame) % 2 ^ 48
  let land := s.flag PWR.PIN_CTRL_TICK_OUT_EN
  let s : State := { s.upTo t with frameCk := t, trim := s.pwr.nextTrim, idleFrame := false, strobes := [], unreach := [] }
  let s := modPwr s (fun p => { p with
    checked := false, nextTrim := 0, newFrame := none, tickLand := land, beaconFrame := (n + 2 ^ 48 - gone) % 2 ^ 48,
    pulses := if land then [(t + 8 * s.ckPerUs / 1000, s.fld PWR.PIN_CTRL_TICK_W)] else [] })
  let s := s.setReg PWR.FRAME_COUNT n
  eachCore s (fun s c =>
    let busy := !((s.eng c .ladle).busy.isEmpty && (s.eng c .runners).busy.isEmpty)
    s.modCore c (fun x => { x with
      mld := { x.mld with slackHit := false, reps := x.mld.reps.filter (fun y => decide (t < y.2.2)) }
      cru := { x.cru with lowUsed := 0, resumeCk := t + 64 }
      spr := { x.spr with late := [] }
      ldl := if busy then x.ldl else { x.ldl with runW := [], ldlW := [] } }))

/-- R170, R208: the ck of an idle frame that ends at ck `t` in which a Sprue descriptor came next are no stop of issue. -/
def idleOver (s : State) (t : Nat) : State :=
  if !s.idleFrame then s else
  eachCore s (fun s c =>
    let p := (s.core c).spr
    let next := match p.cur with
      | some i => some i.issueCk
      | none => if (p.window.head?).any (fun w => w.desc.engine == 0) then some (p.lastIssue + 1) else none
    match next with
    | some f => if streamOn s c then s.modSpr c (fun p => { p with idleCk := p.idleCk + (t - max s.frameCk f) }) else s
    | none => s)

/-- R32: the actions of the boundary window in their order. -/
def boundary (s : State) : State :=
  let s := promoteWindow (idleFrame (throttleTick (modeChange (periodChange s))))
  let s := applyEvents s
  let s := [0, 1].foldl (fun s d => settled s (execSpareMapChange d s)) s
  let s := moduleWindow (settled s (execQuotaSetApply s))
  let s := calAtTick s
  let s := (List.range 24).foldl portTick s
  eachCore s cruDeadline

/-- R364: the ck of a frame with a junction above 100 °C. -/
def hotFrame (s : State) (len : Nat) : State :=
  if (hottest s.pwr.temps).1 > 1000 then { s with hotCk := s.hotCk + len } else s

/-- FRAME_TICK (R200). The tick that ends the current frame, whose input energy was `energy` mJ, and the boundary window of
the next. -/
def execFrameTick (energy : Nat) (s : State) : Host.Outcome State Fault Refusal :=
  let t := s.tickAt
  let s := hbmAdvance (hbmLeft s) t s
  let s := frameChecks (eachCore s (fun s c => settleReplay s c t)) t
  let len := t - s.frameCk
  let s := tickCounters (hotFrame (idleOver s t) len) t
  let s := beaconSend (boundary (budgetCredit (powerCap s energy len) len))
  .next (eachCore (pruneUse s) grantSlots)

/-! ## Alignment (R202, R203) -/

/-- R203: alignment is lost. -/
def unalign (s : State) : State :=
  let was := s.flag PWR.FRM_STATE_ALIGNED
  let s := modPwr (s.setFld PWR.FRM_STATE_ALIGNED 0) (fun p => { p with good := 0 })
  if was && s.locked then raise .pwr 0 18 s else s

/-- The nearest whole number to n / d, ties to even. -/
def roundRat (x : Rat) : Int :=
  let f := (x + 1 / 2).floor
  if x + 1 / 2 = (f : Rat) ∧ f % 2 ≠ 0 then f - 1 else f

/-- R203: the trim in ck for a phase error and a predicted drift in ps: within ±G once aligned, else by any amount within one
frame. -/
def trimFor (s : State) (ps : Int) : Int :=
  let x := roundRat (((ps * s.ckPerUs : Int) : Rat) / 1000000)
  let lim : Int := if s.flag PWR.FRM_STATE_ALIGNED then trimG s else s.reg PWR.FRM_PERIOD - 64
  max (-lim) (min lim x)

/-- R203: a beacon of the same period and profile: the phase error `ps` in ps. -/
def takePhase (s : State) (f : Nat) (ps : Int) : State :=
  let s := modPwr s (fun p => { p with prevErr := p.lastErr, lastErr := ps, good := if ps.natAbs ≤ 8000 then p.good + 1 else 0 })
  let s := if ps.natAbs ≤ 8000 then (if 16 ≤ s.pwr.good then s.setFld PWR.FRM_STATE_ALIGNED 1 else s) else unalign s
  let t := trimFor s (ps + Config.predictedDrift s.pwr.lastErr s.pwr.prevErr)
  let s := modPwr s (fun p => { p with
    nextTrim := t, newFrame := if s.flag PWR.FRM_STATE_ALIGNED then none else some ((f + 1) % 2 ^ 48) })
  let s := s.setFld PWR.ALIGN_ERR_ERR (ofSigned 16 (max (-32768) (min 32767 ps)))
  s.setFld PWR.ALIGN_ERR_TRIM (ofSigned 16 (max (-32768) (min 32767 t)))

/-- BEACON (R202, R203). A beacon of the master is received with its phase error in ps after the path latency of training; it
is sent on, and the alignment follows. -/
def execBeacon (ps : Int) (s : State) : Host.Outcome State Fault Refusal :=
  if s.quenched then .next s
  else match takeKind s 0x11 with
  | none => .next s
  | some (_, m, s) =>
    if s.flag PWR.ALIGN_CTRL_MASTER ∨ m.src ≠ s.fld PWR.ALIGN_CTRL_SRC then .next s
    else
      let s := sendFrom s m.src 0x11 m.body
      let s := modPwr s (fun p => { p with beaconFrame := s.frame })
      let same := fieldAt m.body 6 4 == s.reg PWR.FRM_PERIOD && fieldAt m.body 10 1 == b2n s.endurance
      if same then
        let inj := s.armed PWR.FRM_INJ_ALIGN_LOSS
        let s := if inj then s.disarm PWR.FRM_INJ_ALIGN_LOSS else s
        .next (takePhase (s.setFld PWR.FRM_STATE_PERIOD_MISMATCH 0) (fieldAt m.body 0 6) (if inj then 16000 else ps))
      else .next (unalign (s.setFld PWR.FRM_STATE_PERIOD_MISMATCH 1))

/-- BEACON_TIMEOUT (R203). Four frames pass with no beacon. -/
def execBeaconTimeout (s : State) : Host.Outcome State Fault Refusal :=
  if !s.flag PWR.ALIGN_CTRL_MASTER && decide (4 ≤ (s.frame + 2 ^ 48 - s.pwr.beaconFrame) % 2 ^ 48) then .next (unalign s)
  else .next s

end Sys2Proof.Machine
end

