-- ==== Sys2Proof/Machine/Steward.lean ====
section
/-!
DEFINITION. Machine/Steward.lean: chapter 19: pages and their states (R439, R440), block resets (R111, R193), long operations
(R441, R442), the service button and drains (R450–R453) and JTAG (R449).
-/
namespace Sys2Proof.Machine

open Sys2Proof

/-! ## Pages (R439, R440) -/

/-- What a command on the page of a window offset does; nothing outside every page, or where the page is FUSED. -/
def onPage (s : State) (a : BitVec 26) (f : PageKind → Nat → State) : State :=
  match headerAt s a.toNat with
  | some (p, i, _) => f p i
  | none => s

/-- R440: `EN` written. -/
def pageEnable (s : State) (p : PageKind) (i : Nat) (v : Bool) : State :=
  let st := s.pageState p i
  if st = pgQuenched then s
  else if v then
    let s := s.setFld (HDR.PAGE_CTRL_EN p) 1 i
    if st = pgOff then s.setPageState p i pgOn else s
  else if st = pgQuiesced then (s.setFld (HDR.PAGE_CTRL_EN p) 0 i).setPageState p i pgOff
  else s

/-- R440: `QUIESCE` written. -/
def pageQuiesce (s : State) (p : PageKind) (i : Nat) (v : Bool) : State :=
  let st := s.pageState p i
  if st = pgQuenched then s
  else
    let s := s.setFld (HDR.PAGE_CTRL_QUIESCE p) (b2n v) i
    if !v && st == pgQuiesced then s.setPageState p i pgOn else s

/-- PAGE_ENABLE (R440). `EN` of the page of a window offset is written. -/
def execPageEnable (a : BitVec 26) (v : Bool) (s : State) : Host.Outcome State Fault Refusal :=
  .next (onPage s a (fun p i => pageEnable s p i v))

/-- PAGE_QUIESCE (R440). -/
def execPageQuiesce (a : BitVec 26) (v : Bool) (s : State) : Host.Outcome State Fault Refusal :=
  .next (onPage s a (fun p i => pageQuiesce s p i v))

/-- R440: an engine queue of a core has nothing in execution. -/
def engStill (s : State) (c : Nat) (q : EngQ) : Bool := (s.eng c q).run.isEmpty

/-- A port has nothing to send and nothing unacknowledged. -/
def portStill (s : State) (p : Nat) : Bool :=
  let l := s.ports.toList.getD p {}
  l.replay.isEmpty && l.q.toList.all List.isEmpty && l.ctrl.isEmpty

/-- R440: the operations that the block of a page has started are complete. -/
def blockStill (s : State) (p : PageKind) (i : Nat) : Bool :=
  match p with
  | .mld => engStill s i .mould && (s.mld i).stream.isNone && (s.mld i).drains.isEmpty
  | .asy => engStill s i .assay
  | .cru => engStill s i .cruLow && engStill s i .cruHigh && (s.cru i).step.isNone
  | .ldl => engStill s i .ladle
  | .run => engStill s i .runners && (s.run i).requesters.isEmpty && (s.run i).wq.isEmpty
  | .tun => (spareCopy s i).isNone
  | .hbm => (List.range 4).all (fun c => (s.run c).flight.all (fun f => f.req.type != 1 || hbmStack f.req.addr != i))
  | .ing => s.ing.writes.isEmpty && s.ing.retiring.isNone
  | .ingch => s.ing.writes.all (fun w => w.page.all (fun q => pageTgt q / 4 != i))
  | .avl => portStill s i
  | .col => s.col.runs.isEmpty
  | .rout => s.transit.isEmpty
  | _ => true

/-- PAGE_QUIESCED (R440). A quiescing block has finished what it had started, and its page reads QUIESCED. -/
def execPageQuiesced (a : BitVec 26) (s : State) : Host.Outcome State Fault Refusal :=
  .next (onPage s a (fun p i =>
    if s.flag (HDR.PAGE_CTRL_QUIESCE p) i && s.pageState p i == pgOn && blockStill s p i then s.setPageState p i pgQuiesced
    else s))

/-- PAGE_LOCK_WRITE (R11, R439). Each 1 sets a lock, which holds until the next warm or cold reset. -/
def execPageLockWrite (a : BitVec 26) (v : BitVec 32) (s : State) : Host.Outcome State Fault Refusal :=
  .next (onPage s a (fun p i =>
    if s.pageState p i = pgQuenched then s
    else s.setReg (HDR.PAGE_LOCK p) (s.reg (HDR.PAGE_LOCK p) i ||| v.toNat % 4) i))

/-- R111: a CRU block reset abandons every descriptor and problem in flight; the table, sources and published sets stay. -/
def cruBreset (s : State) (c : Nat) : State :=
  let s := s.modCore c (fun x => { x with
    cru := { x.cru with lo := none, hi := none, step := none, waitFrom := none }, port := {}
    spr := { x.spr with eng := x.spr.eng.mapIdx (fun i e => if i = engIdx .cruLow ∨ i = engIdx .cruHigh then {} else e) } })
  s.setReg CRU.STATE 0 c

/-- R193: an SPR block reset, only while the core's engine pages are still. The queues' `COV`s and tapped `MATMUL`s are gone with
what was captured for them. -/
def sprBreset (s : State) (c : Nat) : State :=
  let s := (s.setReg ASY.CAPTURE_FREE ASY.CAPTURE_FREE.reset c).modCore c (fun x => { x with asy := { x.asy with pairs := [] } })
  let s := s.modSpr c (fun p => { p with
    window := [], cur := none, curStatus := 0, tokens := [], fresh := [], loops := [], eng := Vector.replicate 6 {}, passHead := false,
    idleCk := 0 })
  let s := { s with stag := s.stag.filter (fun r => !(r.1 == 0 && r.2.1 == c)) }
  showLoops (((s.setReg SPR.PRED 0 c).setReg SPR.SEQ 0 c).setReg SPR.STATE 0 c) c

/-- R193: the core's engine pages read QUIESCED, OFF or FUSED. -/
def enginesStill (s : State) (c : Nat) : Bool :=
  [PageKind.mld, .asy, .cru, .ldl, .run].all (fun p =>
    s.pageState p c == pgQuiesced || s.pageState p c == pgOff || s.pageState p c == pgFused)

/-- R440: a block reset: the page then reads OFF with `EN` clear; fault registers and locks stay. -/
def pageBreset (s : State) (p : PageKind) (i : Nat) : State :=
  let off := fun (s : State) => (s.setFld (HDR.PAGE_CTRL_EN p) 0 i).setPageState p i pgOff
  if s.pageState p i = pgQuenched then s
  else match p with
  | .spr => if enginesStill s i then off (sprBreset s i) else s
  | .cru => off (cruBreset s i)
  | .avl =>
    let s := eraseKeys s i
    off (if s.flag AVL.STATE_PRESENT i && s.flag AVL.CTRL_EN i then leavePort s i ptTraining else s)
  | _ => off s

/-- PAGE_BRESET (R440). -/
def execPageBreset (a : BitVec 26) (s : State) : Host.Outcome State Fault Refusal :=
  .next (onPage s a (fun p i => pageBreset s p i))

/-! ## Interrupts (R390, R437) -/

/-- R437: the control core that `IRQ_ROUTE` names for a block type. -/
def irqRoute (s : State) (block : Nat) : Nat := bits (s.reg STW.IRQ_ROUTE 0 (block / 16)) (2 * (block % 16)) 2

/-- R390, R437: the pages whose interrupt is up at control core `k`. -/
def irqPages (s : State) (k : Nat) : List (PageKind × Nat) :=
  (PageKind.all.filter (fun p => irqRoute s p.blockType == k)).flatMap (fun p =>
    ((List.range p.count).filter (fun i => irqLevel s p i)).map (fun i => (p, i)))

/-! ## Long operations (R441, R442) -/

/-- The codes of `LOP_CMD.OP`. -/
def lopCopy : Nat := 1
def lopRcopy : Nat := 2
def lopScrub : Nat := 3
def lopTest : Nat := 4
def lopFormat : Nat := 5

/-- The memory of an address kind. -/
def lopPlace : Nat → Option Place
  | 0 => some .tun | 1 => some .hbm | 2 => some .ing | _ => none

/-- A slot's long operation. -/
def lopOf (s : State) (k : Nat) : Option LopSt := s.lops.toList.getD k none

/-- A slot's long operation changed. -/
def setLop (s : State) (k : Nat) (x : Option LopSt) : State :=
  { s with lops := s.lops.mapIdx (fun i y => if i = k then x else y) }

/-- A slot's state and result. -/
def lopEnd (s : State) (k st res : Nat) : State :=
  let s := setLop { s with stwRsp := s.stwRsp.filter (fun m => m.1 != k) } k none
  s.setReg STW.LOP_STATUS (st + res * 2 ^ 8) 0 k

/-- R442: a source read has failed: the operation ends, and source 9 is raised. -/
def lopFail (s : State) (k : Nat) : State := raise .stw 0 9 (lopEnd s k 4 2)

/-- The ranges of a long operation in this device's memories: kind, address and length. -/
def LopSt.ranges (x : LopSt) : List (Nat × Nat × Nat) :=
  if x.op = lopFormat then [(2, 0, 2 ^ 64)]
  else if x.op = lopCopy then [(x.src.1, x.src.2, x.len), (x.dst.1, x.dst.2, x.len)]
  else [(x.dst.1, x.dst.2, x.len)]

/-- Two ranges share a byte. -/
def overlap (a b : Nat × Nat × Nat) : Bool := a.1 == b.1 && decide (a.2.1 < b.2.1 + b.2.2 ∧ b.2.1 < a.2.1 + a.2.2)

/-- R442: the destination overlaps a range of another running slot. -/
def lopBusy (s : State) (k : Nat) (x : LopSt) : Bool :=
  let d := if x.op = lopFormat then (2, 0, 2 ^ 64) else (x.dst.1, x.dst.2, x.len)
  (List.range 4).any (fun j => j != k && (lopOf s j).any (fun y => y.ranges.any (overlap d)))

/-- A range lies in its memory. -/
def lopInside (s : State) (kind a n : Nat) : Bool :=
  match lopPlace kind with
  | some p => decide (a + n ≤ memBytes s p)
  | none => false

/-- The area sizes in the table at an `ING_FORMAT`'s source (R441). -/
def formatSizes (b : List Byte) : List Nat := (List.range 7).map (fun i => fieldAt b (8 * i) 8)

/-- R441: the operation's operands lie in their memories; an `HBM_SCRUB` or `HBM_TEST` works on HBM. -/
def lopBounds (s : State) (x : LopSt) : Bool :=
  if x.op = lopFormat then lopInside s x.src.1 x.src.2 56
  else lopInside s x.dst.1 x.dst.2 x.len && (x.op != lopCopy || lopInside s x.src.1 x.src.2 x.len) &&
    (decide (x.op ≤ 2) || x.dst.1 == 1)

/-- R442: every core's stream reads IDLE, HALTED or STOPPED. -/
def streamsStill (s : State) : Bool :=
  (List.range 4).all (fun c => s.stream c == stIdle || s.stream c == stHalted || s.stream c == stStopped)

/-- R441, R442: `GO` with an operation: it starts, or is refused with its result. `GO` on a running slot does nothing. -/
def lopGo (s : State) (k op : Nat) : State :=
  let s := s.setFld STW.LOP_CMD_OP op 0 k
  if (lopOf s k).isSome then s
  else
    let x : LopSt := { op := op, len := if op = lopFormat then 56 else s.reg STW.LOP_LEN 0 k,
                       src := (s.fld STW.LOP_SRC_KIND 0 k, s.fld STW.LOP_SRC_ADDR 0 k),
                       dst := (s.fld STW.LOP_DST_KIND 0 k, s.fld STW.LOP_DST_ADDR 0 k),
                       remote := s.fld STW.LOP_REMOTE_DEV 0 k }
    let s := (s.setReg STW.LOP_PROGRESS 0 0 k).setReg STW.LOP_ERRORS 0 0 k
    if !lopBounds s x then lopEnd s k 4 3
    else if lopBusy s k x || (decide (4 ≤ op) && !streamsStill s) then lopEnd s k 4 1
    else (setLop s k (some x)).setReg STW.LOP_STATUS 1 0 k

/-- LOP_COPY (R441). `GO` with operation 1 in a slot. -/
def execLopCopy (k : Fin 4) (s : State) : Host.Outcome State Fault Refusal := .next (lopGo s k lopCopy)

/-- RCOPY (R441). -/
def execRcopy (k : Fin 4) (s : State) : Host.Outcome State Fault Refusal := .next (lopGo s k lopRcopy)

/-- HBM_SCRUB (R441). -/
def execHbmScrub (k : Fin 4) (s : State) : Host.Outcome State Fault Refusal := .next (lopGo s k lopScrub)

/-- HBM_TEST (R441). -/
def execHbmTest (k : Fin 4) (s : State) : Host.Outcome State Fault Refusal := .next (lopGo s k lopTest)

/-- ING_FORMAT (R441). -/
def execIngFormat (k : Fin 4) (s : State) : Host.Outcome State Fault Refusal := .next (lopGo s k lopFormat)

/-- LOP_ABORT (R442). Commands fall between steps, so the operation ends here; what is done stays done. -/
def execLopAbort (k : Fin 4) (s : State) : Host.Outcome State Fault Refusal :=
  if (lopOf s k).isSome then
    .next (lopEnd { s with remote := s.remote.filter (fun r => !(r.core == 4 && r.seq == k)) } k 3 0)
  else .next s

/-- The bytes of a range in its tiles. -/
def lopChunks (a n : Nat) : List (Nat × Nat) :=
  ({ base := a, rowBytes := n, rows := 1 } : Region).chunks (n / 16384 + 2) 0 n

/-- A read of area 0 (R268, R269): an unmapped tile reads as zeros; `r` is how many retries its codewords need. -/
def lopIngRead (s : State) (a n : Nat) (r : List Nat) : List Byte × Bool × State :=
  let tile := a / 16384
  let (_, s) := mapAccess s 0 tile
  match mapped s 0 tile with
  | none => (zeros n, false, s.bump ING.UNMAPPED_READS)
  | some p =>
    if tgtFailed s (pageTgt p) then (readBytes s.ing.bytes a n, true, s)
    else
      let (k, fail, s) := decodePage s (pageTgt p / 4) (s.ing.dead.contains p) r
      (readBytes s.ing.bytes a n, fail, if fail then s else relocRead s 0 tile k)

/-- R257, R272, R441: who a long operation's accesses are: HBM partition 5 when one end of the copy is Ingot area 0, the Steward
otherwise. -/
def lopOwner (k : Nat) (x : LopSt) (p : Place) : Owner :=
  { o := if p = .hbm ∧ x.op = lopCopy ∧ (x.src.1 = 2 ∨ x.dst.1 = 2) then 5 else 6, cast := 0, slot := k }

/-- The accesses of `n` bytes from `a` within one tile of the Tundish or HBM. -/
def lopNote (s : State) (w : Owner) (p : Place) (write : Bool) (a n : Nat) : State :=
  if p = .hbm then (eighths a n).foldl (fun s x => otherAccess s w p write false x.1 x.2 s.ck none) s
  else otherAccess s w p write false a n s.ck none

/-- R234: the Steward's read of a whole HBM tile in user 6's cache mode reads the Tundish copy, which a miss allocates and fills;
every other read is passed through. -/
def lopSource (s : State) (p : Place) (a n : Nat) : Place × Nat × State :=
  if p = .hbm ∧ n = 16384 ∧ (quota s 6).mode = 2 then
    match cacheFind s 1 0 (a / 16384) with
    | some e => if e.fill then (p, a, s) else (.tun, e.tile * 16384, s)
    | none =>
      match allocEntry s 6 1 0 (a / 16384) false with
      | some (t, s) => let (pl, sd) := hbmTile s (a / 16384); (p, a, fillEntry s t pl sd)
      | none => (p, a, s)
  else (p, a, s)

/-- R442: the bytes of a step's source in order, and whether a read failed. -/
def lopRead (s : State) (w : Place → Owner) (kind : Nat) : List (Nat × Nat) → List (List Nat) → List Byte × Bool × State
  | [], _ => ([], false, s)
  | (a, n) :: cs, rs =>
    let (b, bad, s) : List Byte × Bool × State := match lopPlace kind with
      | some .ing => lopIngRead s a n (rs.headD [])
      | some p =>
        let (p, a, s) := lopSource s p a n
        let (b, e, s) := readChunk s p a n
        (b, decide (2 ≤ e), lopNote s (w p) p false a n)
      | none => (zeros n, true, s)
    let (b', bad', s) := lopRead s w kind cs rs.tail
    (b ++ b', bad || bad', s)

/-- A step's bytes stored; writes of area 0 are accepted as a bulk copy's (R270, R272). -/
def lopWrite (s : State) (w : Place → Owner) (k kind : Nat) : List (Nat × Nat) → List Byte → State
  | [], _ => s
  | (a, n) :: cs, bs =>
    let s := match lopPlace kind with
      | some .ing => ingWrite s 4 k (a / 16384) (fun x => (patch x.1 (a % 16384) (bs.take n), x.2))
      | some p => lopNote (poke s p a (bs.take n)) (w p) p true a n
      | none => s
    lopWrite s w k kind cs (bs.drop n)

/-- A slot's accesses of HBM that wait at the controllers. -/
def lopWaits (s : State) (k : Nat) : Bool := s.acc.hq.any (fun q => q.slot == k)

/-- R442: progress after a step; a finished operation is done once its accesses are served and its writes of area 0 are
programmed. -/
def lopAdvance (s : State) (k : Nat) (x : LopSt) (n : Nat) : State :=
  let p := s.reg STW.LOP_PROGRESS 0 k + n
  let s := s.setReg STW.LOP_PROGRESS p 0 k
  if x.len ≤ p ∧ ¬ s.ing.writes.any (fun w => w.core == 4 && w.area == 0 && w.seq == k) ∧ ¬ lopWaits s k then lopEnd s k 2 0 else s

/-- R441: the next step of a `COPY`: at most 64 MiB. A copy into the Ingot Store waits under the write budget. -/
def copyStep (s : State) (k : Nat) (x : LopSt) (r : List (List Nat)) : State :=
  let p := s.reg STW.LOP_PROGRESS 0 k
  let n := min (2 ^ 26) (x.len - p)
  let waits := x.dst.1 == 2 && s.endurance && decide (bucket s ≤ 0) && decide (n ≠ 0)
  if waits then holdWrite s
  else
    let (b, bad, s) := lopRead s (lopOwner k x) x.src.1 (lopChunks (x.src.2 + p) n) r
    if bad then lopFail s k else lopAdvance (lopWrite s (lopOwner k x) k x.dst.1 (lopChunks (x.dst.2 + p) n) b) k x n

/-- R441: the next step of an `RCOPY`: a read of up to 2,048 bytes within one tile is sent, or its response is stored. -/
def rcopyStep (s : State) (k : Nat) (x : LopSt) : State :=
  let p := s.reg STW.LOP_PROGRESS 0 k
  let a := x.src.2 + p
  let n := min (2016 - a % 32) (min (x.len - p) (16384 - a % 16384))
  match x.tag with
  | none =>
    if n = 0 then lopAdvance s k x 0
    else
      let t := freeTag s
      setLop (sendRead s 4 0 k x.remote { kind := 1, type := 3, dev := 0, rtype := x.src.1, addr := a, len := n, tile := false })
        k (some { x with tag := some t })
  | some _ =>
    match s.stwRsp.find? (fun m => m.1 == k) with
    | none => s
    | some m =>
      let s := { s with stwRsp := s.stwRsp.erase m }
      if m.2.1 ≠ 0 then lopFail s k
      else
        let x := { x with tag := none }
        lopAdvance (lopWrite (setLop s k (some x)) (lopOwner k x) k x.dst.1 (lopChunks (x.dst.2 + p) n) m.2.2) k x n

/-- R441: the next step of an `HBM_SCRUB` or `HBM_TEST`; `errs` sectors of it are uncorrectable, or differ in the test, which
leaves them zero. -/
def hbmStep (s : State) (k : Nat) (x : LopSt) (errs : Nat) : State :=
  let p := s.reg STW.LOP_PROGRESS 0 k
  let n := min (2 ^ 26) (x.len - p)
  let cs := lopChunks (x.dst.2 + p) n
  let (found, s) := cs.foldl (fun (acc : Nat × State) c =>
    let (e, s) := hbmStatus acc.2 c.1 c.2
    (acc.1 + b2n (e == 2), lopNote s (lopOwner k x .hbm) .hbm false c.1 c.2)) (errs, s)
  let s := s.setReg STW.LOP_ERRORS (satN 32 (s.reg STW.LOP_ERRORS 0 k + found)) 0 k
  let s := if x.op = lopTest then cs.foldl (fun s c =>
      lopNote (hbmWrite s c.1 (zeros c.2)) (lopOwner k x .hbm) .hbm true c.1 c.2) s else s
  lopAdvance s k x n

/-- R267, R441: the store is erased and its areas take their sizes; what its areas held is gone. -/
def formatStore (s : State) (sizes : List Nat) : State :=
  let s : State := { s with
    ing := { s.ing with bytes := [], side := [], map := [], mapc := [], writes := [], log := 0, dead := [] }
    jnl := { s.jnl with pages := [], nextTile := 0, snapDue := true }
    riser := { s.riser with area1 := [], ring := 0, busy := none, keySeq := none }
    lifeImg := Vector.replicate 2 {}
    cal := { s.cal with images := Vector.replicate 2 {} }
    tru := { s.tru with stored := [], rec3 := (none, []) } }
  let s := dropEntries s (fun e => e.type == 2)
  let s := ((List.range 64).filter (tgtUsable s)).foldl (fun s tg =>
    ((tgtKeys s tg).filter (fun b => (fblk s b).st != 3)).foldl (fun s b => eraseBlk s b false) s) s
  wbRecompute (sizes.zipIdx.foldl (fun s x => s.setReg ING.AREA_TILES x.1 0 x.2) s)

/-- R441: an `ING_FORMAT`, refused where the sizes exceed 15/16 of the usable pages (R267). -/
def formatStep (s : State) (k : Nat) (x : LopSt) (r : List (List Nat)) : State :=
  let (b, bad, s) := lopRead s (lopOwner k x) x.src.1 (lopChunks x.src.2 56) r
  let sizes := formatSizes b
  if bad then lopFail s k
  else if usablePages s * 15 < sizes.foldl (· + ·) 0 * 16 then lopEnd s k 4 3
  else lopAdvance (formatStore s sizes) k x 56

/-- R258: in open timing the HBM accesses of a slot's last step are served, and the time is that of the last. -/
def lopSettle : Nat → State → Nat → State
  | 0, s, _ => s
  | n + 1, s, k =>
    if s.locked || !lopWaits s k then s
    else match nextService s with
    | none => s
    | some (pc, x, h) => lopSettle n ((serveOpen s pc x h).upTo (ckOfHk s h)) k

/-- LOP_STEP (R441). The Steward runs one step of a slot's operation: `r` says how many retries the codewords of each Ingot
page it reads need, `errs` how many sectors an HBM scrub or test finds bad. A step waits
until the HBM accesses of the last one are served (R442: in locked timing in its partition's slots). No step runs in quench. -/
def execLopStep (k : Fin 4) (r : List (List Nat)) (errs : Nat) (s : State) : Host.Outcome State Fault Refusal :=
  if s.quenched then .next s
  else match lopOf s k with
  | none => .next s
  | some x =>
    let s := lopSettle (hbmLeft s) s k
    if lopWaits s k then .next s
    else if x.op = lopCopy then .next (copyStep s k x r)
    else if x.op = lopRcopy then .next (rcopyStep s k x)
    else if x.op = lopFormat then .next (formatStep s k x r)
    else .next (hbmStep s k x errs)

/-! ## Drains (R450–R453) -/

/-- The codes of `SVC_STATE.DRAIN`. -/
def drNone : Nat := 0
def drRequested : Nat := 1
def drQuiescing : Nat := 2
def drSafe : Nat := 3

/-- R451: the drain state changes, and the lamp with it. -/
def setDrain (s : State) (d : Nat) : State := showRemove (s.setFld STW.SVC_STATE_DRAIN d)

/-- R451: a drain is requested. No drain starts in quench. -/
def drainReq (s : State) : State :=
  if s.fld STW.SVC_STATE_DRAIN = drNone ∧ ¬ s.quenched then
    let s := setDrain s drRequested
    raise .stw 0 6 { s with svc := { s.svc with noteCk := s.ck } }
  else s

/-- R451: a requested drain is taken back. -/
def drainCancel (s : State) : State :=
  if s.fld STW.SVC_STATE_DRAIN = drRequested then setDrain s drNone else s

/-- R452: the pages a drain quiesces. -/
def PageKind.drains (p : PageKind) : Bool :=
  !(p == .stw || p == .tru || p == .pwr || p == .grd || p == .cal || p == .ing || p == .ingch)

/-- R452 steps 1 to 3. -/
def drainGo (s : State) : State :=
  if s.fld STW.SVC_STATE_DRAIN = drRequested ∧ ¬ s.quenched then
    let s := setDrain s drQuiescing
    let s := { s with svc := { s.svc with drainCk := s.ck } }
    let s := (List.finRange 4).foldl (fun s c => settled s (execSprCtrlRun c false s)) s
    let s := (PageKind.all.filter PageKind.drains).foldl (fun s p =>
      (List.range p.count).foldl (fun s i => if s.pageState p i = pgFused then s else pageQuiesce s p i true) s) s
    s.setReg ROUT.PORT_EN 0
  else s

/-- DRAIN_REQ (R451). -/
def execDrainReq (s : State) : Host.Outcome State Fault Refusal := .next (drainReq s)

/-- DRAIN_CANCEL (R451). -/
def execDrainCancel (s : State) : Host.Outcome State Fault Refusal := .next (drainCancel s)

/-- DRAIN_GO (R452). -/
def execDrainGo (s : State) : Host.Outcome State Fault Refusal := .next (drainGo s)

/-- R453: a press in quench lights `SAFE_REMOVE` once the device is safe and the flash is quiet. -/
def quenchPress (s : State) : State :=
  if s.flag STW.Q_STATE_SAFE && !s.flag STW.Q_STATE_FLASH_BUSY then setDrain s drSafe else s

/-- R451: a press. -/
def takePress (s : State) : State :=
  let d := s.fld STW.SVC_STATE_DRAIN
  if d = drSafe then s.bump STW.SVC_PRESSES
  else if s.quenched then quenchPress s
  else if d = drNone then drainReq s
  else if d = drRequested then drainCancel s
  else s.bump STW.SVC_PRESSES

/-- R451: a long press forces a requested drain. -/
def takeLongPress (s : State) : State :=
  let d := s.fld STW.SVC_STATE_DRAIN
  if d = drSafe then s.bump STW.SVC_PRESSES
  else if s.quenched then quenchPress s
  else if d = drRequested then drainGo (raise .stw 0 7 (s.setFld STW.SVC_STATE_FORCED 1))
  else if d = drQuiescing then s.bump STW.SVC_PRESSES
  else s

/-- R463: a press before `READY` is held. -/
def pressed (s : State) (long : Bool) : State :=
  if !s.flag STW.BOOT_STATE_READY && !s.quenched then { s with svc := { s.svc with attnHeld := s.svc.attnHeld ++ [long] } }
  else if long then takeLongPress s else takePress s

/-- R463: at `READY` the presses held are taken. -/
def takeHeld (s : State) : State :=
  s.svc.attnHeld.foldl (fun s long => if long then takeLongPress s else takePress s) { s with svc := { s.svc with attnHeld := [] } }

/-- ATTN_PRESS (R450). A press is taken at release. -/
def execAttnPress (s : State) : Host.Outcome State Fault Refusal := .next (pressed (s.setFld STW.SVC_STATE_ATTN 0) false)

/-- ATTN_LONG_PRESS (R450). A long press is taken once 5 s have passed, with the button still held. -/
def execAttnLongPress (s : State) : Host.Outcome State Fault Refusal := .next (pressed (s.setFld STW.SVC_STATE_ATTN 1) true)

/-- DRAIN_RENOTIFY (R451). `RENOTIFY` seconds after the last notice the `EVENT` is sent again. -/
def execDrainRenotify (s : State) : Host.Outcome State Fault Refusal :=
  if s.fld STW.SVC_STATE_DRAIN = drRequested then
    let s := s.upTo (s.svc.noteCk + s.fld STW.DRAIN_CTRL_RENOTIFY * ckPerS s)
    let s := { s with svc := { s.svc with noteCk := s.ck } }
    .next (if bit (s.reg (HDR.FLT_EVT_EN .stw)) 6 then sendEvent s .stw 0 6 else s)
  else .next s

/-- R452: every page the drain quiesces is still, and no port is `ACTIVE`. -/
def drainDone (s : State) : Bool :=
  PageKind.all.all (fun p => !p.drains || (List.range p.count).all (fun i => s.pageState p i != pgOn)) &&
    (List.range 24).all (fun p => s.port' p != ptActive)

/-- DRAIN_SAFE (R452 steps 4, 5). The blocks are still; the tail is programmed with a `SNAPSHOT` before it, the counters are
saved, every stack is in self-refresh, and the drain is `SAFE`. -/
def execDrainSafe (s : State) : Host.Outcome State Fault Refusal :=
  if s.fld STW.SVC_STATE_DRAIN = drQuiescing ∧ ¬ s.quenched ∧ drainDone s then
    let s := lifeSave (flushTail (jnlSnapshot s))
    .next (setDrain { s with svc := { s.svc with selfRef := true } } drSafe)
  else .next s

/-- DRAIN_LIMIT_EXPIRE (R452). `DRAIN_LIMIT` ms after the start of `QUIESCING` the device quenches with cause 6, and source 8 is
raised. -/
def execDrainLimitExpire (s : State) : Host.Outcome State Fault Refusal :=
  if s.fld STW.SVC_STATE_DRAIN = drQuiescing ∧ ¬ s.quenched then
    let s := s.upTo (s.svc.drainCk + s.fld STW.DRAIN_CTRL_DRAIN_LIMIT * 1000 * s.ckPerUs)
    .next (raise .stw 0 8 (quench s ⟨6, 0, 0, 0⟩ []))
  else .next s

/-! ## JTAG (R449) -/

/-- A change of the JTAG port. -/
def modJtag (s : State) (f : JtagSt → JtagSt) : State := { s with svc := { s.svc with jtag := f s.svc.jtag } }

/-- R449: the bypass register, one bit that captures 0, is selected; the lands are not driven from boundary scan. -/
def jtagBypass (s : State) : State := modJtag s (fun j => { j with sel := 0, dr := 0, drive := false })

/-- BYPASS (R449). -/
def execBypass (s : State) : Host.Outcome State Fault Refusal := .next (jtagBypass s)

/-- IDCODE (R449). -/
def execIdcode (s : State) : Host.Outcome State Fault Refusal :=
  let code := s.fld GRD.GRD_ID_STEP_DIGIT * 2 ^ 28 + 0x0C09 * 2 ^ 12 + 0x2A7 * 2 + 1
  .next (modJtag s (fun j => { j with sel := 1, dr := code, drive := false }))

/-- SAMPLE_PRELOAD (R449). The levels of the signal lands are captured and their next levels are loaded. -/
def execSamplePreload (lands pre : BitVec 400) (s : State) : Host.Outcome State Fault Refusal :=
  .next (modJtag s (fun j => { j with sel := 2, dr := lands.toNat, preload := pre.toNat, drive := false }))

/-- EXTEST (R449). While `DBG_EN` is set the lands are driven from what was preloaded; otherwise as `BYPASS`. -/
def execExtest (lands : BitVec 400) (s : State) : Host.Outcome State Fault Refusal :=
  if s.flag STW.DBG_EN_EN then .next (modJtag s (fun j => { j with sel := 2, dr := lands.toNat, drive := true }))
  else .next (jtagBypass s)

/-- CC_DEBUG (R449). While `DBG_EN` is set, control cores are halted (or let go) and inspected; what an inspection reads is a
free value. Otherwise as `BYPASS`. -/
def execCcDebug (halt : BitVec 4) (s : State) : Host.Outcome State Fault Refusal :=
  if s.flag STW.DBG_EN_EN then
    let live := s.fld STW.CC_STATE_RUNNING ||| s.fld STW.CC_STATE_HALTED
    let h := live &&& halt.toNat
    let (x, s) := ((s.setFld STW.CC_STATE_HALTED h).setFld STW.CC_STATE_RUNNING (live - h)).draw
    .next (modJtag s (fun j => { j with sel := 3, dr := x, drive := false }))
  else .next (jtagBypass s)

end Sys2Proof.Machine
end

