-- ==== Sys2Proof/Machine/Reset.lean ====
section
/-!
DEFINITION. Machine/Reset.lean: chapter 20: the nine start-up steps (R455–R459), the recovery boot (R460), the resets that run
them (R454, R463), and the way out of quench (R398–R400).
-/
namespace Sys2Proof.Machine

open Sys2Proof

/-! ## Pages in start-up (R440, R456) -/

/-- R1, R2: the block of a page is fused off, or its core is absent, in this part. -/
def fusedOff (s : State) (p : PageKind) (i : Nat) : Bool :=
  (p.ofCore && !s.present i) ||
  (match p with
   | .mld => !s.flag GRD.GRD_ENGINES_MOULD
   | .asy => !s.flag GRD.GRD_ENGINES_ASSAY
   | .cru => !s.flag GRD.GRD_ENGINES_CRUCIBLE
   | .ldl => !s.flag GRD.GRD_ENGINES_LADLE
   | .run => !s.flag GRD.GRD_ENGINES_RUNNERS
   | _ => false)

/-- Every page in turn. -/
def eachPage (s : State) (ps : List PageKind) (f : State → PageKind → Nat → State) : State :=
  ps.foldl (fun s p => (List.range p.count).foldl (fun s i => f s p i) s) s

/-- R440: at a reset every page that is not FUSED reads OFF. -/
def fuseShadows (s : State) : State :=
  eachPage s PageKind.all (fun s p i => if fusedOff s p i then s.setPageState p i pgFused else s)

/-- R456: the Steward sets `EN` of the pages of some kinds. -/
def enablePages (s : State) (ps : List PageKind) : State :=
  eachPage s ps (fun s p i => if s.pageState p i = pgFused then s else pageEnable s p i true)

/-! ## Steps 1 to 3 -/

/-- R455: the PLLs but ck's are locked. -/
def clocksOn (s : State) : State := s.setReg PWR.CLK_STATE (setBits (s.reg PWR.CLK_STATE) 1 5 0x1F)

/-- Step 1: rails at their factory set points, clocks, and the straps of the sideband address. Without power the regulators
stop; a rail or over-current fault is counted for the one retry (R463). -/
def bootStep1 (e : BootEnv) (s : State) : State × Bool :=
  if !e.inputOk then (powerLost s, false)
  else if !e.powerOk then
    (powerLost (modPwr s (fun p => { p with railFails := p.railFails + 1 })), false)
  else
    let s := clocksOn (railsStart (modPwr s (fun p => { p with railFails := 0 })))
    ({ s with svc := { s.svc with sbAddr := 0x50 + e.straps % 8 } }, true)

/-- R25, R26: the built-in test of the bridge maps a spare for each failed group; with more than four failed in a direction
the device cannot run. -/
def bridgeTest (s : State) (fail : Nat × Nat) : State :=
  let s := (s.setFld GRD.GRD_BRIDGE_STATE_SPARE_01 (min 4 fail.1)).setFld GRD.GRD_BRIDGE_STATE_SPARE_10 (min 4 fail.2)
  let s := s.setFld GRD.GRD_BRIDGE_STATE_UP (b2n (decide (fail.1 ≤ 4 ∧ fail.2 ≤ 4)))
  let s := if fail.1 = 0 ∧ fail.2 = 0 then s else raise .grd 0 4 s
  if fail.1 ≤ 4 ∧ fail.2 ≤ 4 then s else raise .grd 0 5 s

/-- Step 2: the fuse shadows, the bridge test, the watchdog and Trust's random source. -/
def bootStep2 (e : BootEnv) (s : State) : State × Bool :=
  let s := fuseShadows (clocksOn s)
  let s := (s.setFld STW.STW_STATE_ROM_DONE 1).setFld TRU.TRU_STATE_RNG_OK 1
  let s := (List.range 4).foldl (fun s k => wdogStart s k s.ck) s
  let s := bridgeTest s e.bridgeFail
  (enablePages s [.stw, .tru, .pwr, .grd, .cal], true)

/-- R264, R265: one channel is trained: its rate, its targets and what their parameter pages report. -/
def trainChannel (e : BootEnv) (s : State) (ch : Nat) : State :=
  let rate := e.rates.getD ch 0
  let t := e.targets.getD ch (0, 0)
  let (luns, planes, blocks, tR, tProg, _, _) := e.geom
  let s := s.setReg INGCH.CH_RATE rate ch
  let s := s.setFld INGCH.CH_STATE_STATE (if rate = 0 then 3 else if rate = 3600 then 1 else 2) ch
  let s := (s.setFld INGCH.CH_STATE_TGT_PRESENT t.1 ch).setFld INGCH.CH_STATE_TGT_REJECT t.2 ch
  let s := (List.range 4).foldl (fun s i =>
    if bit t.1 i && !bit t.2 i then
      s.setReg INGCH.TGT_GEOM (luns % 16 + planes % 16 * 2 ^ 4 + blocks % 2 ^ 24 * 2 ^ 8 + tR % 2 ^ 12 * 2 ^ 32 +
        tProg % 2 ^ 12 * 2 ^ 44) ch i
    else s) s
  if rate = 0 then ((List.range 4).filter (fun i => bit t.1 i)).foldl (fun s i => failTarget s (4 * ch + i)) s
  else if rate < 3600 then raise .ingch ch 4 s else s

/-- Step 3: the Ingot channels; the map is then at hand. -/
def bootStep3 (e : BootEnv) (s : State) : State × Bool :=
  let (_, _, _, _, _, ppb, pe) := e.geom
  let s := (List.range 16).foldl (trainChannel e) s
  let s := { s with ing := { s.ing with ppb := ppb } }.setReg ING.PE_RATED pe
  let s := (s.setFld ING.STATE_READY 1).setFld ING.STATE_RETIRING (b2n s.ing.retiring.isSome)
  (enablePages s [.ing, .ingch], true)

/-! ## Ports (R296, R431) -/

/-- R296: the full training of one port with cable present, with the peer it meets. -/
def trainPort (e : BootEnv) (s : State) (p : Nat) : State :=
  let s := s.setFld AVL.STATE_PRESENT (b2n (bit e.cables p)) p
  if s.port' p = ptUp ∨ s.quenched then s
  else if !s.flag AVL.CTRL_EN p then s
  else if !bit e.cables p then s.setFld AVL.STATE_PORT ptEmpty p
  else match e.peers.find? (fun x => x.1 == p) with
    | some x =>
      let s := freshLink (setLanes s p 31 31) p
      (s.setReg AVL.PEER (setBits (x.2 % 2 ^ 24) 23 1 1) p).setFld AVL.STATE_PORT ptUp p
    | none => s.setFld AVL.STATE_PORT ptFailed p

/-- Step 8: every enabled port with a cable, but for those already `UP`. -/
def bootStep8 (e : BootEnv) (s : State) : State × Bool :=
  ((List.range 24).foldl (trainPort e) (enablePages s [.avl]), true)

/-- R431: the exchange of a port in step 9: its outcome, and the keys it leaves, which depend on what the peer drew. -/
def linkPort (e : BootEnv) (s : State) (p : Nat) : State :=
  if s.port' p ≠ ptUp ∨ ¬ s.flag AVL.CTRL_ENC_EN p then s
  else if bit e.linked p then
    let (tx, s) := s.drawBytes 37
    let (rx, s) := s.drawBytes 37
    installKeys s p (leNat (tx.take 32), leNat (tx.drop 32)) (leNat (rx.take 32), leNat (rx.drop 32))
  else linkFailed s p

/-- Step 9: link keys, and the `MODULE` records of the modules loaded. -/
def bootStep9 (e : BootEnv) (s : State) : State × Bool :=
  let s := (List.range 24).foldl (linkPort e) s
  (s.tru.mods.foldl jnlModule s, true)

/-! ## Step 4: modules (R424–R426, R460) -/

/-- The block types that need a module: those with a page that is not FUSED, in the order the loader takes them. -/
def neededBlocks (s : State) : List Nat :=
  (PageKind.all.filter (fun p => (List.range p.count).any (fun i => s.pageState p i != pgFused))).map PageKind.blockType

/-- R278: a page of a module in area 3 lies on a target that cannot be read. -/
def moduleLost (s : State) (block : Nat) : Bool :=
  s.ing.map.any (fun x =>
    let t := x.1 % 2 ^ 40
    x.1 / 2 ^ 40 == 3 && decide (1 + block * 1026 ≤ t ∧ t < 1 + (block + 1) * 1026) &&
      (s.ing.dead.contains (x.2 - 1) || !tgtUsable s (pageTgt (x.2 - 1))))

/-- R424: a module of area 3 that can be read passes its checks; `bad` lists those whose signature or hash fails. -/
def moduleGood (s : State) (bad : List Nat) (m : Mod) : Bool :=
  !bad.contains m.block && signerOk s m && bit m.grades (gradeCode s - 1) && decide (floorOf s m.block ≤ m.svn)

/-- R425: the trust record taken over, or no owner and floors of 0. -/
def loadRecord (s : State) (absent : Bool) : State :=
  let (o, f) := if absent then (none, []) else s.tru.rec3
  showOwner (modTru s (fun t => { t with owner := o, floors := f }))

/-- R460 steps 2 to 5: the modules that a peer's directory lists for the block types wanted, programmed into area 3 where that
can be done. -/
def recoverModules (e : BootEnv) (s : State) (want : List Nat) : State :=
  match e.recovery with
  | none => s
  | some (p, _, ms) =>
    if s.port' p ≠ ptUp then s
    else
      let s := (((s.setFld STW.RECOV_SRC_ID (s.fld AVL.PEER_ID p)).setFld STW.RECOV_SRC_HOST (s.fld AVL.PEER_HOST p)).setFld
        STW.RECOV_SRC_PORT p).setFld STW.RECOV_SRC_VALID 1
      (ms.filter (fun m => want.contains m.block && decide (floorOf s m.block ≤ m.svn))).foldl (fun s m =>
        let x : Mod := { block := m.block, owner := m.owner, raise := m.raise, version := m.version, svn := m.svn,
                         grades := m.grades, key := if m.owner then s.tru.owner.getD (0, 0) else s.tru.vendor, meas := m.meas }
        let s := (programModule s x m.len).getD s
        forceMod s x) s

/-- R460: the recovery boot for the block types of `want`. -/
def recoveryBoot (e : BootEnv) (s : State) (want : List Nat) : State :=
  let s := raise .stw 0 13 ((s.setFld STW.STW_STATE_RECOVERY 1).setFld TRU.TRU_STATE_RECOVERY 1)
  let s := (bootStep8 e (s.setFld STW.BOOT_STATE_RECOV_FETCH 1)).1
  (recoverModules e s want).setFld STW.BOOT_STATE_RECOV_FETCH 0

/-- Step 4: the modules of area 3, and a recovery boot for what fails; a block type left without a module stops the boot.
`noArea3`: area 3 is treated as absent. -/
def bootStep4 (e : BootEnv) (noArea3 : Bool) (s : State) : State × Bool :=
  let absent := noArea3 || e.noArea3
  let s := loadRecord s (absent || e.badRecord)
  let need := neededBlocks s
  let here := if absent then [] else s.tru.stored.filter (fun m => need.contains m.block && !moduleLost s m.block)
  let good := here.filter (moduleGood s e.badModules)
  let s := (here.filter (fun m => !good.contains m)).foldl (fun s _ => verifyFailed s) s
  let s := good.foldl forceMod s
  let want := need.filter (fun b => !good.any (fun m => m.block == b))
  let s := if want.isEmpty && !absent then s else recoveryBoot e s want
  if need.all (fun b => s.tru.mods.any (fun m => m.block == b)) then
    ((s.setFld STW.STW_STATE_BOOTED 1).setFld STW.CC_STATE_RUNNING 0xF, true)
  else (raise .stw 0 12 s, false)

/-! ## Step 5: stored state (R365, R366, R370, R456) -/

/-- The newest programmed record of some types. -/
def newestRec (s : State) (ts : List Nat) : Option JRec :=
  ((s.jnl.pages.flatMap (fun p => if p.2.1 then p.2.2 else [])).filter (fun r => ts.contains r.type)).getLast?

/-- R370 step 3: what the replayed records say of retired targets (a `SNAPSHOT`, and `RETIRE` records after it). -/
def retiredFrom (s : State) : Nat :=
  let rs := s.jnl.pages.flatMap (fun p => if p.2.1 then p.2.2 else [])
  (fromSnapshot rs).foldl (fun m r =>
    if r.type = 1 then fieldAt r.payload 176 8
    else if r.type = 8 ∧ fieldAt r.payload 0 4 = 5 then setBits m (fieldAt r.payload 4 4) 1 1 else m) 0

/-- R370 step 3: the last committed epoch and its seal. -/
def commitFrom (s : State) : Nat × Nat :=
  match newestRec s [1, 2] with
  | some r => if r.type = 1 then (fieldAt r.payload 128 4, fieldAt r.payload 132 8) else (fieldAt r.payload 0 4, fieldAt r.payload 8 8)
  | none => (0, 0)

/-- R380: the next `SSEQ`: the registers hold it through a warm reset, the journal's newest record through a power loss. -/
def nextSseq (s : State) (cold : Bool) : Nat :=
  if cold then
    match newestRec s [1, 5] with
    | some r => if r.type = 1 then fieldAt r.payload 152 8 else fieldAt r.payload 12 8
    | none => s.reg ING.RSR_SEQ
  else s.reg ING.RSR_SEQ

/-- A copy of an image cannot be read: it has no page, or its page cannot be. -/
def copyLost (s : State) (area k : Nat) : Bool :=
  match mapped s area k with
  | some p => s.ing.dead.contains p || !tgtUsable s (pageTgt p)
  | none => true

/-- R370: the journal replayed; the records kept in the Steward SRAM since step 2 follow it. -/
def bootReplay (e : BootEnv) (s : State) : State :=
  let early := s.jnl.tail
  let s := jnlReplay s
  let s := setTailMax { s with jnl := { s.jnl with commit := commitFrom s } }
  let r := retiredFrom s
  let s := (List.range 16).foldl (fun s ch => s.setFld INGCH.CH_STATE_TGT_RETIRED (bits r (4 * ch) 4) ch) s
  let s := early.foldl (fun s r => jnlAppend s r.type r.payload r.actor r.host) s
  let s := if s.jnl.flushLost then
      let s := raise .ing 0 12 { s with jnl := { s.jnl with flushLost := false } }
      lifeAdd s 6 1
    else s
  let s := (List.range (min 4 e.bridgeFail.1)).foldl (fun s i => jnlRetire s 3 i) s
  (List.range (min 4 e.bridgeFail.2)).foldl (fun s i => jnlRetire s 3 (4 + i)) s

/-- R364, R365: the lifetime counters: a power loss loads them, a warm reset keeps them (R462); either is counted. -/
def bootLife (e : BootEnv) (cold : Bool) (s : State) : State :=
  let lost := fun (k : Nat) => copyLost s 5 k || (if k = 0 then e.lostLife.1 else e.lostLife.2)
  let s := { s with lifeImg := s.lifeImg.mapIdx (fun k x => { x with ok := x.ok && !lost k }) }
  let kept := s.life
  let s := lifeLoad s
  let s := if cold then s.setReg ING.WB_BUCKET (s.life.getD 10 0) else { s with life := kept }
  wbRecompute (lifeAdd s (if cold then 3 else 4) 1)

/-- R366, R443: user calibration loaded and applied. `calBad`: `JNL_INJ.CAL_BAD` was set (R404). -/
def bootCal (e : BootEnv) (calBad : Bool) (s : State) : State :=
  let lost := fun (k : Nat) => copyLost s 4 k || (if k = 0 then e.lostCal.1 || calBad else e.lostCal.2)
  calLoad (modCal s (fun c => { c with images := c.images.mapIdx (fun k x => { x with ok := x.ok && !lost k }) }))

/-- R29: after a power loss a core is fenced again from the newest `RETIRE` record of class core. -/
def bootFence (cold : Bool) (s : State) : State :=
  if cold then
    match ((s.jnl.pages.flatMap (fun p => if p.2.1 then p.2.2 else [])).filter (fun r =>
        r.type == 8 && fieldAt r.payload 0 4 == 0)).getLast? with
    | some r => (s.setFld GRD.GRD_PROMOTE_FENCED 1).setFld GRD.GRD_PROMOTE_FAILED_PHYS (fieldAt r.payload 4 4)
    | none => s
  else s

/-- R6, R310, R456: the profile, the device ID, and ck's lock: the counters start from 0. -/
def bootProfile (s : State) : State :=
  let req := (calEffective s 0).toNat
  let fenced := s.flag GRD.GRD_PROMOTE_FENCED
  let end_ := decide (req = 1) || fenced
  let s := (s.setFld GRD.GRD_PROFILE_REQ req).setFld GRD.GRD_PROFILE_ACTIVE (b2n end_)
  let s := s.setFld GRD.GRD_PROFILE_SPARE_CORE (if end_ && s.present 3 && !fenced then 3 else 7)
  let s := s.setReg PWR.SLICE_MAP (if s.active 3 then 0xE4 else 0xA4)
  let s := s.setReg PWR.PCAP (if end_ then 0x01F408FC else 0x01F40C1C)
  let s := s.setReg ING.RSR_RATE (if end_ then 0x10000400 else 0x10001000)
  let s := (s.setFld ROUT.SELF_ID (calEffective s 1).toNat).setFld ROUT.SELF_VALID (b2n (offGet s.cal.user 1).isSome)
  s.setFld PWR.CLK_STATE_CK 1

/-- Step 5. -/
def bootStep5 (e : BootEnv) (cold calBad : Bool) (s : State) : State × Bool :=
  let s := bootCal e calBad (bootLife e cold (bootReplay e s))
  let s := bootProfile (bootFence cold s)
  let s := jnlSnapshot (riserReset s (nextSseq s cold))
  (enablePages s [.col, .rout], true)

/-! ## Steps 6 and 7 -/

/-- R248, R249, R255: one stack is trained, or found lost. -/
def trainStack (e : BootEnv) (s : State) (k : Nat) : State :=
  if s.flag HBM.STATE_LOST k then raise .hbm k 5 s
  else match e.lostStacks.find? (fun x => x.1 == k) with
    | some x => loseStack s k x.2.1 x.2.2
    | none =>
      let r := e.laneRepairs.getD k (0, 0)
      ((s.setFld HBM.STATE_TRAINED 1 k).setFld HBM.LANES_REPAIRED r.1 k).setFld HBM.LANES_MASK r.2 k

/-- Step 6. -/
def bootStep6 (e : BootEnv) (s : State) : State × Bool :=
  let s := (List.range 12).foldl (trainStack e) { s with svc := { s.svc with selfRef := false } }
  (if s.quenched then s else enablePages s [.hbm], true)

/-- Step 7: the stores are filled, and the pages of the Tundish and of every active core come up. `zero`: the cores whose Ladle
cache is zeroed (R147). -/
def bootStep7 (zero : Nat → Bool) (s : State) : State × Bool :=
  let s := (List.range 4).foldl (fun s c =>
    if zero c then s.modCore c (fun x => { x with ldl := { x.ldl with cache := [], cacheBad := [] } }) else s) s
  let s := { s with tun := { s.tun with bytes := [], side := [], badWords := [] } }
  let s := enablePages s [.tun]
  (eachPage s [.spr, .mld, .asy, .cru, .ldl, .run] (fun s p c =>
    if s.active c && s.pageState p c != pgFused then pageEnable s p c true else s), true)

/-! ## The sequence (R455–R458) -/

/-- R455: the maximum of a step in ms; above 64 GiB the journal area lengthens step 5. -/
def stepMax (s : State) (n : Nat) : Nat :=
  let more := if n = 5 then 21 * (ceilDiv (s.reg ING.AREA_TILES 0 2) 65536 - 64) else 0
  [0, 20, 50, 400, 1500, 1500, 4000, 1, 2000, 500].getD n 0 + more

/-- R200, R456: time passes after ck has locked: the ticks of start-up count, and credit the write budget. -/
def bootTime (s : State) (ms : Nat) : State :=
  let t := s.ck + ms * 1000 * s.ckPerUs
  let n := (t - s.frameCk) / max 1 (s.reg PWR.FRM_PERIOD)
  let len := n * s.reg PWR.FRM_PERIOD
  let s := { s with ck := t, frameCk := s.frameCk + len }
  budgetCredit (s.setReg PWR.FRAME_COUNT ((s.frame + n) % 2 ^ 48)) len

/-- R458: a step past its maximum sets its bit in `BOOT_OVER` and raises source 12. -/
def stepOver (s : State) (n : Nat) : State := raise .stw 0 12 (s.setReg STW.BOOT_OVER (setBits (s.reg STW.BOOT_OVER) (n - 1) 1 1))

/-- A step ends: its duration is recorded. -/
def stepDone (e : BootEnv) (s : State) (n : Nat) : State :=
  let ms := e.ms.getD (n - 1) 0
  let s := s.setReg STW.BOOT_MS (satN 16 ms) 0 (n - 1)
  let s := if 6 ≤ n then bootTime s ms else s
  if stepMax s n < ms then stepOver s n else s

/-- R457: `READY`. -/
def bootReady (s : State) : State :=
  let s := (s.setFld STW.BOOT_STATE_STEP 10).setFld STW.BOOT_STATE_READY 1
  takeHeld (raise .stw 0 11 (jnlDrain 4096 s))

/-- R455: the steps in order; a step that stops, or a quench (R463), leaves `STEP` at it. -/
def bootRun (e : BootEnv) : List (Nat × (State → State × Bool)) → State → State
  | [], s => bootReady s
  | (n, f) :: rest, s =>
    let (s, ok) := f (s.setFld STW.BOOT_STATE_STEP n)
    if !ok || s.quenched then s else bootRun e rest (stepDone e s n)

/-- The steps from step 2 on. -/
def bootSteps (e : BootEnv) (cold noArea3 calBad : Bool) (zero : Nat → Bool) : List (Nat × (State → State × Bool)) :=
  [(2, bootStep2 e), (3, bootStep3 e), (4, bootStep4 e noArea3), (5, bootStep5 e cold calBad), (6, bootStep6 e),
   (7, bootStep7 zero), (8, bootStep8 e), (9, bootStep9 e)]

/-- R142: the Ladle registers of every core are undefined after a reset. -/
def ladlesUndefined (s : State) : State := (List.range 4).foldl undefLadle s

/-- A cold reset: all nine steps. -/
def coldBoot (s : State) (e : BootEnv) : State :=
  let s := powerLost s
  let s := ladlesUndefined { s with svc := { s.svc with off := false } }
  bootRun e ((1, bootStep1 e) :: bootSteps e true false false (fun _ => true)) s

/-- A warm reset, from step 2: programs in flight complete, the tail and the map log are programmed (R270, R398), and the
counters are kept. `action1`: the recovery boot was asked for (R460). -/
def warmBoot (s : State) (e : BootEnv) (cause : Nat) (action1 : Bool) : State :=
  let early := !s.flag STW.BOOT_STATE_READY && decide (s.fld STW.BOOT_STATE_STEP ≤ 3)
  let s := if early then s else flushTail (landAll s)
  let calBad := s.armed ING.JNL_INJ_CAL_BAD
  let zero := fun (c : Nat) => s.flag LDL.CTRL_ZERO_ON_RESET c
  let s := { s with life := lifeValues s }
  let s := (resetKeeps s false).setReg STW.BOOT_CAUSE cause
  bootRun e (bootSteps e false action1 calBad zero) (ladlesUndefined s)

/-! ## Commands -/

/-- COLD_RESET (R454). The input has been lost and has come back. -/
def execColdReset (e : BootEnv) (s : State) : Host.Outcome State Fault Refusal :=
  .next (coldBoot { s with pwr := { s.pwr with railFails := 0 } } e)

/-- RST_CMD (R454). A write to `RST_CMD`; before `READY` it restarts the sequence at step 2. -/
def execRstCmd (v : BitVec 16) (e : BootEnv) (s : State) : Host.Outcome State Fault Refusal :=
  if v.toNat = 0x7A3C ∧ ¬ s.svc.off then .next (warmBoot s e 1 false) else .next s

/-- INPUT_RECOVERY (R454). After a completed power-fail flush the input has come back: a warm reset. -/
def execInputRecovery (e : BootEnv) (s : State) : Host.Outcome State Fault Refusal :=
  if s.svc.flushed then .next (warmBoot s e 4 false) else .next s

/-- BOOT_STEP_OVERTIME (R458). The step in progress passes its maximum. -/
def execBootStepOvertime (step : Fin 9) (s : State) : Host.Outcome State Fault Refusal :=
  let n := (step : Nat) + 1
  if s.fld STW.BOOT_STATE_STEP = n ∧ ¬ bit (s.reg STW.BOOT_OVER) (n - 1) ∧ ¬ s.quenched then .next (stepOver s n) else .next s

/-- REGULATORS_STOP (R373). -/
def execRegulatorsStop (s : State) : Host.Outcome State Fault Refusal := .next (powerLost s)

/-- REGULATOR_RETRY (R463). One second after the first rail or over-current fault of step 1 the regulators start again; after
a second fault they stay off. -/
def execRegulatorRetry (e : BootEnv) (s : State) : Host.Outcome State Fault Refusal :=
  if s.svc.off ∧ s.pwr.railFails = 1 then .next (coldBoot s e) else .next s

/-- R399: the bytes a `QUENCH_EXIT` signs: its body before the signature, and the message-field word. -/
def exitSigned (m : Packet) : List Byte := slice m.body 0 24 ++ leBytes 4 m.word

/-- QUENCH_EXIT (R398–R400). An exit that is signed for this device, this quench and its nonce warm-resets it, with action 1
into a recovery boot; any other is refused. -/
def execQuenchExit (e : BootEnv) (s : State) : Host.Outcome State Fault Refusal :=
  match takeKind s 0x18 with
  | none => .next s
  | some (_, m, s) =>
    let (ok, s) := sigOk s (ownerOrVendor s) (exitSigned m) (slice m.body 24 512)
    let good := ok && s.quenched && fieldAt m.body 0 8 % 2 ^ 17 == s.self && fieldAt m.body 8 8 == s.reg STW.Q_COUNT &&
      fieldAt m.body 16 8 == s.reg STW.Q_NONCE
    if good then .next (warmBoot s e (if bit m.word 0 then 3 else 2) (bit m.word 0))
    else .next (raise .stw 0 5 (s.bump STW.Q_EXIT_REFUSED))

end Sys2Proof.Machine
end

