-- ==== Sys2Proof/Machine/RegWrite.lean ====
section
/-!
DEFINITION. Machine/RegWrite.lean: accesses to the register window (R10–R14, R438–R440): the views that reads compute, the
writes that act, and every way such an access arrives: a register access on the device, a register message (R325), the sideband
(R447, R448).
-/
namespace Sys2Proof.Machine

open Sys2Proof

/-! ## Views: registers that a read computes -/

/-- A bit of a Boolean at a place. -/
def atBit (b : Bool) (i : Nat) : Nat := b2n b * 2 ^ i

/-- A signed value as 32 bits. -/
def int32 (x : Int) : Nat := (x % 2 ^ 32).toNat

/-- R439: `PAGE_CAPS`: `PRESENT` of a block that is not fused off, `FUSED`, and the highest source the page defines. -/
def pageCaps (s : State) (p : PageKind) (i : Nat) : Nat :=
  let f := s.pageState p i == pgFused
  atBit (!f) 0 + atBit f 1 + (p.sources.foldl (fun m x => max m x.1) 0) * 2 ^ 8

/-- R310: the device IDs in the torus. -/
def devices (s : State) : List Nat :=
  let d := fun k => List.range (dimSize s k)
  (d 0).flatMap (fun a => (d 1).flatMap (fun b => (d 2).flatMap (fun c => (d 3).flatMap (fun e =>
    (List.range 8).map (fun m => m + 8 * (a + 8 * b + 64 * c + 1024 * e))))))

/-- R317: the hops of the route from a device to another. -/
def hopCount (s : State) : Nat → Nat → Nat → Nat
  | 0, _, _ => 0
  | fuel + 1, cur, dest =>
    match nextHop s cur dest with
    | none => 0
    | some h => 1 + hopCount s fuel (hopTo s cur h) dest

/-- R317: the hops to a device, over the exception that overrides its first hop. -/
def routeLen (s : State) (dest : Nat) : Nat :=
  match exception s dest with
  | some p =>
    match expectedPeer s p with
    | some d => 1 + hopCount s 64 d dest
    | none => 0
  | none => hopCount s 64 s.self dest

/-- R317: `MAX_HOPS`: the longest route in force from this device. -/
def maxHops (s : State) : Nat :=
  if s.flag ROUT.SELF_VALID then (devices s).foldl (fun m d => max m (routeLen s d)) 0 else 0

/-- R70, R71: the slabs enabled. -/
def slabsOn (s : State) (c : Nat) : Nat :=
  let n := (s.ck - (s.mld c).rampCk) / 64
  let a := array s c
  if a = arWarm then 16 else if a = arUp then min 16 (n + 1) else if a = arDown then 15 - min 15 n else 0

/-- `MLD.STATE` as it reads now. -/
def mldState (s : State) (c : Nat) : Nat :=
  let v := setBits (s.reg MLD.STATE c) 8 5 (slabsOn s c)
  setBits v 7 1 (b2n ((s.mld c).reps.any (fun x => decide (x.2.1 ≤ s.ck ∧ s.ck < x.2.2))))

/-- R409: one bit per slot with a request. -/
def stagPend (s : State) : Nat :=
  (List.range 8).foldl (fun v n => v + atBit (s.stag.any (fun r => 2 * r.2.1 + r.1 == n)) n) 0

/-- `CAL_ITEM` of the selected item. -/
def calItemView (s : State) : Nat :=
  let i := s.fld CAL.CAL_SEL_I
  if calItems.contains i then
    let pend := s.cal.edited.contains i || offGet s.cal.target i != offGet s.cal.applied i
    1 + atBit (offGet s.cal.user i).isSome 1 + atBit (calClamped s i) 2 + atBit pend 3
  else 0

/-- A calibration view of the selected item; 0 where the item is not defined. -/
def calView (s : State) (f : Nat → Int) : Nat :=
  let i := s.fld CAL.CAL_SEL_I
  if calItems.contains i then int32 (f i) else 0

/-- The module in the slot selected by `MEAS_SEL`. -/
def measMod (s : State) : Option Mod := s.tru.mods[s.fld TRU.MEAS_SEL_I]?

/-- The module registers of the selected slot. -/
def measView (s : State) (r : Reg) (k : Nat) : Nat :=
  match measMod s with
  | none => 0
  | some m =>
    if r.off = TRU.MEAS_INFO.off then
      m.block % 2 ^ 8 + 2 ^ 8 + atBit m.owner 9 + atBit (s.tru.upd.any (fun x => x.1.block == m.block)) 10 + m.svn % 2 ^ 16 * 2 ^ 16
    else if r.off = TRU.MEAS_VER.off then m.version % 2 ^ 32
    else if r.off = TRU.MEAS_FLOOR.off then floorOf s m.block % 2 ^ 16
    else bits m.meas (32 * k) 32

/-- The 256-bit word selected by `PAT_RD_ADDR`: of the ROM or of the pattern store. -/
def patWordView (s : State) (c : Nat) : Nat :=
  let a := s.fld SPR.PAT_RD_ADDR_ADDR c
  if s.flag SPR.PAT_RD_ADDR_ROM c then (Config.romWord a).toNat else sget 0 (s.core c).spr.pat a

/-- `GRP_STATUS` of the entry `GRP_SEL`. -/
def grpStatusView (s : State) : Nat :=
  let g := s.reg COL.GRP_SEL
  s.fld COL.GRP_STATUS_BUSY + atBit (sget 0 s.col.grpNext g != 0) 1 + atBit (gent s g).valid 2

/-- The whole value of a register as a read finds it. -/
def viewReg (s : State) (l : RegLoc) : Nat :=
  let r := l.reg
  let i := l.inst
  let k := l.idx
  let o := r.off
  if o < 0x100 then
    if o = 0 then pageId r.page i else if o = 4 then pageCaps s r.page i else s.reg r i k
  else match r.page with
  | .tru =>
    if TRU.MEAS_INFO.off ≤ o ∧ o ≤ TRU.MEAS_DATA.off then measView s r k
    else if o = TRU.OWNER_HASH.off then leNat (slice (ownerHash s) (4 * k) 4)
    else s.reg r i k
  | .pwr =>
    if o = PWR.TICK_COUNT.off then s.ck % 2 ^ 64
    else if o = PWR.SLACK_USED.off then slackUsed s k s.ck
    else if o = PWR.STAG_STATE.off then s.fld PWR.STAG_STATE_LAST * 2 ^ 8 + stagPend s
    else if o = PWR.RAIL_SET.off then railSet s (s.fld PWR.RAIL_SEL_RAIL) (s.fld PWR.RAIL_SEL_CASTING)
    else s.reg r i k
  | .grd => if o = GRD.GRD_LIFE.off then lifeValue s 14 else s.reg r i k
  | .cal =>
    if o = CAL.CAL_FACTORY.off then calView s (calFactory s)
    else if o = CAL.CAL_USER.off then calView s (fun i => (offGet s.cal.user i).getD 0)
    else if o = CAL.CAL_EFFECTIVE.off then calView s (calEffective s)
    else if o = CAL.CAL_MIN.off then calView s (fun i => (calRange i).1)
    else if o = CAL.CAL_MAX.off then calView s (fun i => (calRange i).2)
    else if o = CAL.CAL_ITEM.off then calItemView s
    else s.reg r i k
  | .spr =>
    if o = SPR.TOK_DATA.off then s.token i (s.fld SPR.TOK_ADDR_A i)
    else if o = SPR.ENGINES.off then s.reg GRD.GRD_ENGINES
    else if o = SPR.ORDER.off then s.reg SPR.ORDER 0
    else if o = SPR.PAT_RD_DATA.off then bits (patWordView s i) (32 * k) 32
    else s.reg r i k
  | .mld => if o = MLD.STATE.off then mldState s i else s.reg r i k
  | .cru => if o = CRU.MTAB_DATA.off then bits (mtab s i (s.fld CRU.MTAB_ADDR_ID i)) (64 * s.fld CRU.MTAB_ADDR_WORD i) 64
            else s.reg r i k
  | .ldl => if o = LDL.VTAG.off then let (f, e) := vTag s i (s.fld LDL.VTAG_SEL_V i); f % 16 + e % 32 * 16 else s.reg r i k
  | .ing => if o = ING.LIFE_DATA.off then lifeValue s (s.fld ING.LIFE_SEL_I) else s.reg r i k
  | .col =>
    if o = COL.GRP_DATA.off then bits (sget 0 s.col.grp (s.reg COL.GRP_SEL)) (32 * k) 32
    else if o = COL.GRP_STATUS.off then grpStatusView s
    else s.reg r i k
  | .rout => if o = ROUT.MAX_HOPS.off then maxHops s else s.reg r i k
  | _ => s.reg r i k

/-! ## Reads (R13) -/

/-- Registers at 0x200 and above of a TUN, HBM or AVL page that chapters 09, 10 and 12 give once: every instance reads those of
instance 0. -/
def sharedReg (p : PageKind) (o : Nat) : Bool := (p == .tun || p == .hbm || p == .avl) && decide (0x200 ≤ o)

/-- R438–R440: the register that a 32-bit access reaches: none outside every page, in a page without the register, in the pages
of an absent core, or in a FUSED page past its first registers. -/
def accessAt (s : State) (a : Nat) : Option RegLoc :=
  match regAt a with
  | none => none
  | some l =>
    let p := l.reg.page
    if p.ofCore && !s.present l.inst then none
    else if s.pageState p l.inst == pgFused && !(l.reg.off == 0 || l.reg.off == 4 || l.reg.off == 0xC) then none
    else if sharedReg p l.reg.off then some { l with inst := 0 }
    else some l

/-- R391: an armed injection makes the next read of a header word find a parity error. -/
def headerCheck (s : State) (l : RegLoc) (a : Nat) : State :=
  let p := l.reg.page
  if l.reg.off < 0x100 ∧ s.armed (HDR.HDR_PARITY_INJ p) l.inst then headerParity s p l.inst ((a - p.base l.inst) / 4) else s

/-- R408: `RAIL_DATA` shows what the regulators measure, a free value. -/
def isRailData (l : RegLoc) : Bool := l.reg.page == .pwr && l.reg.off == PWR.RAIL_DATA.off

/-- The value of a register, and the state after its read. -/
def readLoc (s : State) (l : RegLoc) (a : Nat) : Nat × State :=
  if isRailData l then let (v, s) := s.draw; (v % 2 ^ 32, s) else (viewReg s l, headerCheck s l a)

/-- R13: the low half whose read latches: of a 64-bit register or of `FLT_FIRST_FRAME`. `FLT_SEV`, a 128-bit register, has
no latch. -/
def latches (l : RegLoc) : Bool :=
  (l.reg.wide && !l.high && l.reg.off != 0x20) || (l.reg.off == 0x34 && l.idx == 0)

/-- A latched high half put in place of any earlier one. -/
def latch (s : State) (a v : Nat) : State := { s with hiLatch := (a, v) :: s.hiLatch.filter (fun x => x.1 != a) }

/-- R13: a 32-bit read. -/
def read32 (s : State) (a : Nat) : Nat × State :=
  if a % 4 ≠ 0 then (0, s)
  else match s.hiLatch.find? (fun x => x.1 == a) with
  | some (_, v) => (v, { s with hiLatch := s.hiLatch.filter (fun x => x.1 != a) })
  | none =>
    match accessAt s a with
    | none => (0, s)
    | some l =>
      let (v, s') := readLoc s l a
      if l.high then (v / 2 ^ 32 % 2 ^ 32, s')
      else if latches l then
        let hi := if l.reg.wide then v / 2 ^ 32 % 2 ^ 32 else s.reg l.reg l.inst 1
        (v % 2 ^ 32, latch s' (a + 4) hi)
      else (v % 2 ^ 32, s')

/-- R13: a 64-bit read: of a 64-bit register at once, of two 32-bit registers in ascending order. -/
def read64 (s : State) (a : Nat) : Nat × State :=
  if a % 8 ≠ 0 then (0, s)
  else match accessAt s a with
  | some l =>
    if l.reg.wide ∧ ¬ l.high then readLoc s l a
    else
      let (x, s) := read32 s a
      let (y, s) := read32 s (a + 4)
      (x + y * 2 ^ 32, s)
  | none =>
    let (y, s) := read32 s (a + 4)
    (y * 2 ^ 32, s)

/-! ## Writes that store (R10–R12) -/

/-- A number with the bits of `m` taken from `x`. -/
def mergeBits (old x m : Nat) : Nat := (old - (old &&& m)) + (x &&& m)

/-- R404: the injection registers. -/
def injRegs (p : PageKind) : List Reg :=
  match p with
  | .tru => [TRU.INJ] | .pwr => [PWR.PWR_INJ, PWR.FRM_INJ] | .spr => [SPR.INJ] | .mld => [MLD.INJ] | .asy => [ASY.INJ]
  | .cru => [CRU.INJ] | .ldl => [LDL.INJ] | .run => [RUN.INJ] | .tun => [TUN.INJ] | .hbm => [HBM.INJ]
  | .ing => [ING.INJ, ING.JNL_INJ] | .avl => [AVL.INJ] | .col => [COL.INJ, COL.SW_INJ] | .rout => [ROUT.INJ] | _ => []

/-- A register is an injection register. -/
def isInj (r : Reg) : Bool := r.off == 0xF8 || (injRegs r.page).any (fun q => q.off == r.off)

/-- R10–R12, R384, R386: the bits of a register that a write stores now. -/
def storeMask (s : State) (l : RegLoc) : Nat :=
  let r := l.reg
  let p := r.page
  if r.off = 0x20 then (if s.flag (HDR.PAGE_LOCK_SEV p) l.inst then 0 else sevMask p l.idx)
  else if r.off = 0x18 ∨ r.off = 0x80 then p.sourceMask
  else r.rw ||| (if rwlLocked s p l.inst then 0 else r.rwl)

/-- R10: a write of `x` under a byte-lane mask to a register of which the write is only stored or ignored. -/
def plainWrite (s : State) (l : RegLoc) (x mask : Nat) : State :=
  let r := l.reg
  if r.fuse || (isInj r && !s.flag STW.INJ_EN_EN) then s
  else
    let v := mergeBits (s.reg r l.inst l.idx) x (storeMask s l &&& mask)
    let v := v - (v &&& (x &&& r.w1c &&& mask))
    s.setReg r (v ||| (x &&& r.w1s &&& mask)) l.inst l.idx

/-- As `plainWrite`, with a field left as it is where its new value is not allowed. -/
def keepUnless (s : State) (f : Fld) (ok : Nat → Bool) (l : RegLoc) (x mask : Nat) : State :=
  let v := bits (mergeBits (s.reg l.reg l.inst l.idx) x mask) f.lo f.w
  plainWrite s l x (if ok v then mask else mask - (mask &&& ((2 ^ f.w - 1) * 2 ^ f.lo)))

/-! ## Writes that act -/

/-- R440: `PAGE_CTRL`: `EN` is judged against the page's state before the write, then `QUIESCE`, then `BRESET`. -/
def writePageCtrl (s : State) (p : PageKind) (i x : Nat) : State :=
  let s := pageEnable s p i (bit x 0)
  let s := pageQuiesce s p i (bit x 2)
  if bit x 1 then pageBreset s p i else s

/-- A header register that acts; `a` is its offset in the window. -/
def writeHdr (s : State) (l : RegLoc) (x mask a : Nat) : State :=
  let p := l.reg.page
  let o := l.reg.off
  if o = 0x08 then writePageCtrl s p l.inst x
  else if o = 0x10 then settled s (execFltStatusClear (BitVec.ofNat 26 a) (BitVec.ofNat 64 (x &&& mask)) s)
  else if o = 0x30 then (if bit x 31 then settled s (execFltFirstClear (BitVec.ofNat 26 a) s) else s)
  else if o = 0xFC then settled s (execPageLockWrite (BitVec.ofNat 26 a) (BitVec.ofNat 32 x) s)
  else plainWrite s l x mask

/-- R441, R442: `LOP_CMD` of slot `k`. -/
def writeLopCmd (s : State) (k x : Nat) : State :=
  let s := if bit x 5 then settled s (execLopAbort (Fin.ofNat 4 k) s) else s
  let op := bits x 0 4
  if bit x 4 ∧ 1 ≤ op ∧ op ≤ 5 then lopGo s k op else s.setFld STW.LOP_CMD_OP op 0 k

/-- R451, R452: `SVC_CMD`. -/
def writeSvcCmd (s : State) (x : Nat) : State :=
  let s := if bit x 0 then drainReq s else s
  let s := if bit x 1 then drainGo s else s
  if bit x 2 then drainCancel s else s

/-- R401: `WDOG_CTRL`: the period of a core newly watched begins. -/
def writeWdogCtrl (s : State) (l : RegLoc) (x mask : Nat) : State :=
  let was := s.fld STW.WDOG_CTRL_ARMED
  let s := keepUnless s STW.WDOG_CTRL_PERIOD (fun v => v != 0) l x mask
  (List.range 4).foldl (fun s k => if bit (s.fld STW.WDOG_CTRL_ARMED) k && !bit was k then wdogStart s k s.ck else s) s

/-- An STW register at 0x100 or above; `rst` carries out a write of `RST_CMD`. -/
def writeStw (rst : BitVec 16 → State → State) (s : State) (l : RegLoc) (x mask : Nat) : State :=
  let o := l.reg.off
  if o = STW.RST_CMD.off then rst (BitVec.ofNat 16 x) s
  else if o = STW.Q_SWREQ.off then settled s (execQSwreq (BitVec.ofNat 32 x) s)
  else if o = STW.WDOG_KICK.off then settled s (execWdogKick (Fin.ofNat 4 x) s)
  else if o = STW.WDOG_CTRL.off then writeWdogCtrl s l x mask
  else if o = STW.LOP_CMD.off then writeLopCmd s l.idx x
  else if o = STW.SVC_CMD.off then writeSvcCmd s x
  else if o = STW.SVC_LAMP.off then
    plainWrite s l x (if s.flag STW.Q_STATE_SAFE then 0x3 else mask)
  else if o = STW.DRAIN_CTRL.off then keepUnless s STW.DRAIN_CTRL_DRAIN_LIMIT (fun v => v != 0) l x mask
  else plainWrite s l x mask

/-- R421–R435: `TRU_CMD`: with `GO`, the op named runs; an op that names none does nothing. -/
def writeTruCmd (s : State) (l : RegLoc) (x mask : Nat) : State :=
  let s := plainWrite s l (x % 2 ^ 31) mask
  let arg := s.fld TRU.TRU_CMD_ARG
  if bit x 31 then
    match s.fld TRU.TRU_CMD_OP with
    | 1 => settled s (execAttest s)
    | 2 => settled s (execVerify s)
    | 3 => settled s (execNonce s)
    | 4 => settled s (execEnrol s)
    | 5 => settled s (execUnenrol s)
    | 6 => settled s (execUpdate s)
    | 7 => settled s (execPatverify s)
    | 8 => if h : arg < 24 then settled s (execLink ⟨arg, h⟩ s) else settled s (truRow 8 s (fun s => truResult s trPolicy))
    | _ => s
  else s

/-- A TRU register at 0x100 or above. -/
def writeTru (s : State) (l : RegLoc) (x mask : Nat) : State :=
  let o := l.reg.off
  if o = TRU.TRU_CMD.off then writeTruCmd s l x mask
  else if o = TRU.UPD_WAIT_FRAMES.off then (if x % 2 ^ 16 = 0 then s else plainWrite s l x mask)
  else plainWrite s l x mask

/-- A PWR register at 0x100 or above. -/
def writePwr (s : State) (l : RegLoc) (x mask : Nat) : State :=
  let o := l.reg.off
  if o = PWR.THR_CTRL.off then changeDuty s (fun s => keepUnless s PWR.THR_CTRL_THR_DUTY (fun v => v != 0) l x mask)
  else if o = PWR.TJ_WARN.off then keepUnless s PWR.TJ_WARN_T (fun v => decide (60 ≤ v ∧ v ≤ 110)) l x mask
  else if o = PWR.PIN_CTRL.off then settled s (execPinCtrlWrite (BitVec.ofNat 32 x) s)
  else if o = PWR.FRM_PERIOD_NEXT.off then
    (if 24000 ≤ x % 2 ^ 26 ∧ x % 2 ^ 26 ≤ 40000000 then plainWrite s l x mask else s)
  else plainWrite s l x mask

/-- A GRD register at 0x100 or above. -/
def writeGrd (s : State) (l : RegLoc) (x mask : Nat) : State :=
  let o := l.reg.off
  if o = GRD.GRD_PROFILE.off then settled s (execGrdProfileReqWrite (bit x 0) s)
  else if o = GRD.GRD_BSCHED_LOCK.off then settled s (execGrdBschedLockWrite (bit x 0) s)
  else if o = GRD.GRD_BSCHED_01.off ∨ o = GRD.GRD_BSCHED_10.off then
    (if s.flag GRD.GRD_BSCHED_LOCK_LOCK then s else plainWrite s l x mask)
  else if o = GRD.GRD_PROMOTE.off then
    (if bit x 2 then settled s (execPromoteRequest (Fin.ofNat 4 x) s) else s.setFld GRD.GRD_PROMOTE_CORE (bits x 0 2))
  else plainWrite s l x mask

/-- A CAL register at 0x100 or above: `CAL_CMD`'s bits act in ascending order. -/
def writeCal (s : State) (l : RegLoc) (x mask : Nat) : State :=
  let o := l.reg.off
  if o = CAL.CAL_USER.off then calUserWrite s (BitVec.ofNat 32 x).toInt
  else if o = CAL.CAL_CMD.off then
    let s := if bit x 0 then settled s (execCalApply s) else s
    let s := if bit x 1 then settled s (execCalSave s) else s
    let s := if bit x 2 then settled s (execCalReload s) else s
    if bit x 3 then settled s (execCalClear s) else s
  else plainWrite s l x mask

/-- R170: every stream reads IDLE, HALTED or STOPPED, so that `ORDER` may change. -/
def orderFree (s : State) : Bool := streamsStill s

/-- An SPR register at 0x100 or above. -/
def writeSpr (s : State) (l : RegLoc) (x mask : Nat) : State :=
  let o := l.reg.off
  let c : Core := Fin.ofNat 4 l.inst
  if o = SPR.CTRL.off then
    let s := s.setFld SPR.CTRL_RESUME_MODE (bits x 2 1) c
    let s := settled s (execSprCtrlRun c (bit x 0) s)
    if bit x 1 then settled s (execSprCtrlResume c (bit x 2) s) else s
  else if o = SPR.RING_BASE.off then (if s.stream c = stIdle then plainWrite s l x mask else s)
  else if o = SPR.RING_TAIL.off then settled s (execRingTailWrite c (BitVec.ofNat 16 x) s)
  else if o = SPR.PRED.off then settled s (execPredWrite c (BitVec.ofNat 64 (mergeBits (s.reg SPR.PRED c) x mask)) s)
  else if o = SPR.TOK_DATA.off then settled s (execTokData c (BitVec.ofNat 16 x) s)
  else if o = SPR.TOK_SIGNAL.off then settled s (execTokSignal c (BitVec.ofNat 12 x) s)
  else if o = SPR.ORDER.off then (if l.inst = 0 ∧ orderFree s then plainWrite s l x mask else s)
  else if o = SPR.TOK_LIMIT.off then (if 1 ≤ x % 2 ^ 13 ∧ x % 2 ^ 13 ≤ 4096 then plainWrite s l x mask else s)
  else plainWrite s l x mask

/-- A register at 0x100 or above of an engine page. -/
def writeEngine (s : State) (l : RegLoc) (x mask : Nat) : State :=
  let o := l.reg.off
  match l.reg.page with
  | .mld => if o = MLD.CTRL.off then keepUnless s MLD.CTRL_REPLAY_K (fun v => v != 0) l x mask else plainWrite s l x mask
  | .asy =>
    if o = ASY.CTRL.off then plainWrite s l (x - (x &&& 0x8000)) mask
    else if o = ASY.NS_UPDATES.off then settled s (execAsyNsUpdatesWrite (Fin.ofNat 4 l.inst) (BitVec.ofNat 32 x) s)
    else plainWrite s l x mask
  | .cru =>
    if o = CRU.CTRL.off then keepUnless s CRU.CTRL_STEP_MAX (fun v => decide (4 ≤ v ∧ v ≤ 16)) l x mask else plainWrite s l x mask
  | .run =>
    if o = RUN.CTRL.off then keepUnless s RUN.CTRL_PC_CAP (fun v => decide (1 ≤ v ∧ v ≤ 48)) l x mask else plainWrite s l x mask
  | _ => plainWrite s l x mask

/-- R228, R229, R233, R244: a TUN register at 0x100 or above. `PGA` has entries for pages 0 to 411,987; the rest are reserved. -/
def writeTun (s : State) (l : RegLoc) (x mask : Nat) : State :=
  let o := l.reg.off
  let d : Die := Fin.ofNat 2 l.inst
  if o = TUN.SPARE_REQ.off then
    (if bit x 7 then settled s (execSpareReq d (Fin.ofNat 128 x) s) else s.setFld TUN.SPARE_REQ_BANK (bits x 0 7) d)
  else if o = TUN.DIAG_CTRL.off then
    let s := plainWrite s l x mask
    let op := s.fld TUN.DIAG_CTRL_OP d
    if op = 0 then s else diagRun s d op
  else if o = TUN.QAPPLY.off then (if bit x 0 then settled s (execQapply s) else s)
  else if o = TUN.PGA.off then
    plainWrite s l x (mask &&& (if l.idx < 25749 then 2 ^ 32 - 1 else if l.idx = 25749 then 0xFF else 0))
  else plainWrite s l x mask

/-- R258: the token buckets of partition `p` brought up to date, before its rate or burst changes. -/
def settleBuckets (s : State) (p : Nat) : State :=
  let s := hbmAdvance (hbmLeft s) s.ck s
  let h := hkUp s s.ck
  (List.range 12).foldl (fun s k =>
    { s with acc := { s.acc with bucket := sset (0, 0) s.acc.bucket (8 * k + p) (bucketAt s k p h, h) } }) s

/-- R252, R258, R260: an HBM register at 0x100 or above. -/
def writeHbm (s : State) (l : RegLoc) (x mask : Nat) : State :=
  let o := l.reg.off
  if o = HBM.TILEWIN.off then (if x % 2 ^ 26 ≤ 46875000 then plainWrite s l x mask else s)
  else if o = HBM.SLOT_TABLE.off then
    (if s.locked then s else (plainWrite s l x mask).setFld HBM.SLOT_CTRL_VALID 0)
  else if o = HBM.PART_REG.off then plainWrite (settleBuckets s l.idx) l x mask
  else if o = HBM.SLOT_CTRL.off then (if bit x 1 then settled s (execSlotCtrlApply s) else s)
  else plainWrite s l x mask

/-- An ING register at 0x100 or above. -/
def writeIng (s : State) (l : RegLoc) (x mask : Nat) : State :=
  let o := l.reg.off
  if o = ING.CTRL.off then keepUnless s ING.CTRL_PATROL_DAYS (fun v => v != 0) l x mask
  else if o = ING.RETIRE_REQ.off then
    (if bit x 6 then settled s (execRetireReq (Fin.ofNat 64 x) s) else s.setFld ING.RETIRE_REQ_TARGET (bits x 0 6))
  else if o = ING.RSR_CTRL.off then keepUnless s ING.RSR_CTRL_KEY_EVERY (fun v => v != 0) l x mask
  else plainWrite s l x mask

/-- R296: `AVL.CTRL`: `EN` cleared takes the port out of service, `EN` set trains it where a cable is present. -/
def writeAvl (s : State) (l : RegLoc) (x mask : Nat) : State :=
  let p := l.inst
  if l.reg.off = AVL.CTRL.off then
    let was := s.flag AVL.CTRL_EN p
    let s := keepUnless s AVL.CTRL_REPLAY_MAX (fun v => decide (2 ≤ v)) l x (mask &&& 0xFF)
    let now := s.flag AVL.CTRL_EN p
    let s := if was && !now then leavePort s p ptOff
      else if now && !was then s.setFld AVL.STATE_PORT (if s.flag AVL.STATE_PRESENT p then ptTraining else ptEmpty) p
      else s
    if h : bit x 8 = true ∧ p < 24 then settled s (execAvlCtrlRetrain ⟨p, h.2⟩ s) else s
  else plainWrite s l x mask

/-- A COL register at 0x100 or above. -/
def writeCol (s : State) (l : RegLoc) (x mask : Nat) : State :=
  let o := l.reg.off
  if o = COL.GRP_CMD.off then
    let s := if bit x 0 then settled s (execGrpDefine s) else s
    if bit x 1 then settled s (execGrpFree s) else s
  else if o = COL.SW_CMD.off then
    let s := if bit x 0 then settled s (execSwCmdRelease s) else s
    if bit x 1 then settled s (execSwCmdClearHold s) else s
  else if o = COL.SW_CTRL.off then
    let x := if bits x 8 8 = 0 then setBits x 8 8 (s.fld COL.SW_CTRL_GRACE) else x
    let x := if bits x 16 8 = 0 then setBits x 16 8 (s.fld COL.SW_CTRL_SEAL_FRAMES) else x
    plainWrite s l x mask
  else plainWrite s l x mask

/-- R319: `EXC_USED` counted again. -/
def excUsed (s : State) : State :=
  s.setReg ROUT.EXC_USED ((List.range 256).filter (fun e => s.flag ROUT.EXC_VALID 0 e)).length

/-- R17, R319: a ROUT register at 0x100 or above. -/
def writeRout (s : State) (l : RegLoc) (x mask : Nat) : State :=
  if l.reg.off = ROUT.EXC.off then excUsed (plainWrite s l x mask) else plainWrite s l x mask

/-- R319: an offset that would be a 257th exception entry. -/
def pastExc (a : Nat) : Bool :=
  let o := ROUT.EXC.addr 0 256
  decide (o ≤ a ∧ a < o + 8)

/-- A write under a byte-lane mask to the register at a place (R10). A QUENCHED page takes only the clears of its fault
registers (R394). -/
def writeLoc (rst : BitVec 16 → State → State) (s : State) (l : RegLoc) (x mask a : Nat) : State :=
  let p := l.reg.page
  let o := l.reg.off
  if s.pageState p l.inst = pgFused then s
  else if s.pageState p l.inst = pgQuenched ∧ o ≠ 0x10 ∧ o ≠ 0x30 then s
  else if o < 0x100 then writeHdr s l x mask a
  else match p with
  | .stw => writeStw rst s l x mask
  | .tru => writeTru s l x mask
  | .pwr => writePwr s l x mask
  | .grd => writeGrd s l x mask
  | .cal => writeCal s l x mask
  | .spr => writeSpr s l x mask
  | .mld | .asy | .cru | .ldl | .run => writeEngine s l x mask
  | .tun => writeTun s l x mask
  | .hbm => writeHbm s l x mask
  | .ing => writeIng s l x mask
  | .ingch => plainWrite s l x mask
  | .avl => writeAvl s l x mask
  | .col => writeCol s l x mask
  | .rout => writeRout s l x mask

/-- The register a write reaches: as for a read, but a write to a shared register through another instance is ignored. -/
def writeAt (s : State) (a : Nat) : Option RegLoc :=
  match regAt a, accessAt s a with
  | some l, some m => if l.inst = m.inst then some m else none
  | _, _ => none

/-- R13: a 32-bit write; one to a half of a 64-bit register leaves the other half. -/
def write32 (rst : BitVec 16 → State → State) (s : State) (a v : Nat) : State :=
  if a % 4 ≠ 0 then s
  else if pastExc a then raise .rout 0 4 (s.setFld ROUT.EXC_STATUS_EXC_FULL 1)
  else match writeAt s a with
  | none => s
  | some l =>
    if l.high then writeLoc rst s l (v % 2 ^ 32 * 2 ^ 32) (2 ^ 64 - 2 ^ 32) (a - 4)
    else writeLoc rst s l (v % 2 ^ 32) (2 ^ 32 - 1) a

/-- R13: a 64-bit write: of a 64-bit register at once, of two 32-bit registers in ascending order. -/
def write64 (rst : BitVec 16 → State → State) (s : State) (a v : Nat) : State :=
  if a % 8 ≠ 0 then s
  else if pastExc a then raise .rout 0 4 (s.setFld ROUT.EXC_STATUS_EXC_FULL 1)
  else match writeAt s a with
  | some l =>
    if l.reg.wide ∧ ¬ l.high then writeLoc rst s l (v % 2 ^ 64) (2 ^ 64 - 1) a
    else write32 rst (write32 rst s a v) (a + 4) (v / 2 ^ 32)
  | none => write32 rst s (a + 4) (v / 2 ^ 32)

/-- A write of either width. -/
def writeWin (rst : BitVec 16 → State → State) (s : State) (a v : Nat) (wide : Bool) : State :=
  if wide then write64 rst s a v else write32 rst s a v

/-- A write of `RST_CMD` under the outcomes of the start-up it may begin. -/
def rstWrite (e : BootEnv) (v : BitVec 16) (s : State) : State := settled s (execRstCmd v e s)

/-! ## The commands -/

/-- REGISTER_WRITE (R10). A write to an offset of the register window, of 32 or 64 bits. -/
def execRegisterWrite (a : BitVec 26) (v : BitVec 64) (wide : Bool) (e : BootEnv) (s : State) :
    Host.Outcome State Fault Refusal :=
  .next (writeWin (rstWrite e) s a.toNat v.toNat wide)

/-- ROUT_TABLE_WRITE (R17). A write to the ROUT page, which both halves of the table take before it completes. -/
def execRoutTableWrite (a : BitVec 26) (v : BitVec 64) (wide : Bool) (s : State) : Host.Outcome State Fault Refusal :=
  if (pageAt a.toNat).any (fun x => x.1 == .rout) then .next (writeWin (fun _ s => s) s a.toNat v.toNat wide) else .next s

/-- R325: a register message comes from a host whose entry is valid with `ACL` set. -/
def regAllowed (s : State) (m : Packet) : Bool :=
  m.shost && s.flag ROUT.HOSTS_VALID 0 (m.src % 1024) && s.flag ROUT.HOSTS_ACL 0 (m.src % 1024)

/-- R325: a register message refused. -/
def regRefuse (s : State) (m : Packet) : State := errRsp (raise .rout 0 7 s) m 4

/-- REG_RD (R312, R325). -/
def execRegRd (s : State) : Host.Outcome State Fault Refusal :=
  if s.quenched then .next s
  else match takeKind s 0x06 with
  | none => .next s
  | some (_, m, s) =>
    if regAllowed s m then
      let a := bits (fieldAt m.body 0 8) 0 26
      let (v, s) := if bit (fieldAt m.body 0 8) 32 then read64 s a else read32 s a
      .next (reply s m 2 0x08 (m.word % 2 ^ 16) (leBytes 8 v))
    else .next (regRefuse s m)

/-- REG_WR (R312, R325). -/
def execRegWr (e : BootEnv) (s : State) : Host.Outcome State Fault Refusal :=
  if s.quenched then .next s
  else match takeKind s 0x07 with
  | none => .next s
  | some (_, m, s) =>
    if regAllowed s m then
      let h := fieldAt m.body 0 8
      let s := writeWin (rstWrite e) s (bits h 0 26) (fieldAt m.body 8 8) (bit h 32)
      .next (reply s m 2 0x08 (m.word % 2 ^ 16) [])
    else .next (regRefuse s m)

/-! ## The sideband (R447, R448) -/

/-- A sideband access answered with a status and data. -/
def sbAnswer (s : State) (status data : Nat) : State := { s with svc := { s.svc with sb := some (status, data) } }

/-- R447: a refused sideband access is counted and raises STW source 10. -/
def sbRefuse (s : State) (status : Nat) : State := raise .stw 0 10 (sbAnswer (s.bump STW.SB_REFUSED) status 0)

/-- A sideband read: an offset with any of bits 31:26 set is answered with status 1. -/
def sbRead (s : State) (a : BitVec 32) (wide : Bool) : State :=
  if 2 ^ 26 ≤ a.toNat then sbRefuse s 1
  else
    let (v, s) := if wide then read64 s a.toNat else read32 s a.toNat
    sbAnswer s 0 v

/-- R448: the offsets that `SB_POLICY.RO` leaves writable. -/
def sbOpen (a : Nat) : Bool := a == STW.Q_SWREQ.addr 0 0 || a == STW.SVC_CMD.addr 0 0 || a == STW.SVC_LAMP.addr 0 0

/-- A sideband write. -/
def sbWrite (s : State) (a : BitVec 32) (v : Nat) (wide : Bool) (e : BootEnv) : State :=
  if 2 ^ 26 ≤ a.toNat then sbRefuse s 1
  else if s.flag STW.SB_POLICY_RO && !sbOpen a.toNat then sbRefuse s 2
  else sbAnswer (writeWin (rstWrite e) s a.toNat v wide) 0 0

/-- SIDEBAND_READ32 (R447). -/
def execSidebandRead32 (a : BitVec 32) (s : State) : Host.Outcome State Fault Refusal := .next (sbRead s a false)

/-- SIDEBAND_WRITE32 (R447, R448). -/
def execSidebandWrite32 (a v : BitVec 32) (e : BootEnv) (s : State) : Host.Outcome State Fault Refusal :=
  .next (sbWrite s a v.toNat false e)

/-- SIDEBAND_READ64 (R447). -/
def execSidebandRead64 (a : BitVec 32) (s : State) : Host.Outcome State Fault Refusal := .next (sbRead s a true)

/-- SIDEBAND_WRITE64 (R447, R448). -/
def execSidebandWrite64 (a : BitVec 32) (v : BitVec 64) (e : BootEnv) (s : State) : Host.Outcome State Fault Refusal :=
  .next (sbWrite s a v.toNat true e)

end Sys2Proof.Machine
end

