-- ==== Sys2Proof/Machine/Inject.lean ====
section
/-!
DEFINITION. Machine/Inject.lean: fault injection (R404): one command per injection bit, which arms the event.
-/
namespace Sys2Proof.Machine

open Sys2Proof

/-- R404, R394: an injection bit set by software: only while `INJ_EN.EN` is set, in a page that is neither FUSED nor
QUENCHED. -/
def arm (s : State) (p : PageKind) (f : Fld) (inst : Nat := 0) : State :=
  if s.flag STW.INJ_EN_EN && s.pageState p inst != pgFused && s.pageState p inst != pgQuenched then s.setFld f 1 inst else s

/-- MLD_INJ_ACC_OVF (R404): arms a forced accumulator overflow in the next round. -/
def execMldInjAccOvf (c : Core) (s : State) : Host.Outcome State Fault Refusal := .next (arm s .mld MLD.INJ_ACC_OVF c)

/-- MLD_INJ_OPND_CRC1 (R404): arms a single failure of the next operand CRC check. -/
def execMldInjOpndCrc1 (c : Core) (s : State) : Host.Outcome State Fault Refusal := .next (arm s .mld MLD.INJ_OPND_CRC1 c)

/-- MLD_INJ_OPND_CRC2 (R404): arms a double failure of the next operand CRC check. -/
def execMldInjOpndCrc2 (c : Core) (s : State) : Host.Outcome State Fault Refusal := .next (arm s .mld MLD.INJ_OPND_CRC2 c)

/-- MLD_INJ_ACC_UE (R404): arms an uncorrectable error on the next accumulator word read. -/
def execMldInjAccUe (c : Core) (s : State) : Host.Outcome State Fault Refusal := .next (arm s .mld MLD.INJ_ACC_UE c)

/-- MLD_INJ_STAT_PAR (R404): arms a parity failure on the next stationary load. -/
def execMldInjStatPar (c : Core) (s : State) : Host.Outcome State Fault Refusal := .next (arm s .mld MLD.INJ_STAT_PAR c)

/-- ASY_INJ_CAP_UE (R404): arms an uncorrectable error on the next capture word read. -/
def execAsyInjCapUe (c : Core) (s : State) : Host.Outcome State Fault Refusal := .next (arm s .asy ASY.INJ_CAP_UE c)

/-- ASY_INJ_IMG_CRC1 (R404): arms a single failure of the next image CRC check. -/
def execAsyInjImgCrc1 (c : Core) (s : State) : Host.Outcome State Fault Refusal := .next (arm s .asy ASY.INJ_IMG_CRC1 c)

/-- ASY_INJ_IMG_CRC2 (R404): arms a double failure of the next image CRC check. -/
def execAsyInjImgCrc2 (c : Core) (s : State) : Host.Outcome State Fault Refusal := .next (arm s .asy ASY.INJ_IMG_CRC2 c)

/-- ASY_INJ_BLK_NF (R404): arms the next blended block to be treated as non-finite. -/
def execAsyInjBlkNf (c : Core) (s : State) : Host.Outcome State Fault Refusal := .next (arm s .asy ASY.INJ_BLK_NF c)

/-- CRU_INJ_STORE_UE (R404): arms an uncorrectable error on the next resident-store word read. -/
def execCruInjStoreUe (c : Core) (s : State) : Host.Outcome State Fault Refusal := .next (arm s .cru CRU.INJ_STORE_UE c)

/-- CRU_INJ_PIVOT (R404): arms the next pivot to be replaced by τ. -/
def execCruInjPivot (c : Core) (s : State) : Host.Outcome State Fault Refusal := .next (arm s .cru CRU.INJ_PIVOT c)

/-- CRU_INJ_IMG_CRC1 (R404): arms a single failure of the next Crucible image CRC check. -/
def execCruInjImgCrc1 (c : Core) (s : State) : Host.Outcome State Fault Refusal := .next (arm s .cru CRU.INJ_IMG_CRC1 c)

/-- CRU_INJ_IMG_CRC2 (R404): arms a double failure of the next Crucible image CRC check. -/
def execCruInjImgCrc2 (c : Core) (s : State) : Host.Outcome State Fault Refusal := .next (arm s .cru CRU.INJ_IMG_CRC2 c)

/-- CRU_INJ_SAT (R404): arms a saturation of the next result entry written. -/
def execCruInjSat (c : Core) (s : State) : Host.Outcome State Fault Refusal := .next (arm s .cru CRU.INJ_SAT c)

/-- LDL_INJ_CACHE_UE (R404): arms an uncorrectable error on the next operand-cache word read. -/
def execLdlInjCacheUe (c : Core) (s : State) : Host.Outcome State Fault Refusal := .next (arm s .ldl LDL.INJ_CACHE_UE c)

/-- LDL_INJ_TUN_CRC1 (R404): arms a single failure of the next Tundish tile CRC check. -/
def execLdlInjTunCrc1 (c : Core) (s : State) : Host.Outcome State Fault Refusal := .next (arm s .ldl LDL.INJ_TUN_CRC1 c)

/-- LDL_INJ_TUN_CRC2 (R404): arms a double failure of the next Tundish tile CRC check. -/
def execLdlInjTunCrc2 (c : Core) (s : State) : Host.Outcome State Fault Refusal := .next (arm s .ldl LDL.INJ_TUN_CRC2 c)

/-- LDL_INJ_REG_PAR (R404): arms a parity failure on the next register read. -/
def execLdlInjRegPar (c : Core) (s : State) : Host.Outcome State Fault Refusal := .next (arm s .ldl LDL.INJ_REG_PAR c)

/-- SPR_INJ_DESC_CRC1 (R404): arms a single failure of the next descriptor CRC check. -/
def execSprInjDescCrc1 (c : Core) (s : State) : Host.Outcome State Fault Refusal := .next (arm s .spr SPR.INJ_DESC_CRC1 c)

/-- SPR_INJ_DESC_CRC2 (R404): arms a double failure of the next descriptor CRC check. -/
def execSprInjDescCrc2 (c : Core) (s : State) : Host.Outcome State Fault Refusal := .next (arm s .spr SPR.INJ_DESC_CRC2 c)

/-- SPR_INJ_PAT_UE (R404): arms an uncorrectable error on the next pattern-store word read. -/
def execSprInjPatUe (c : Core) (s : State) : Host.Outcome State Fault Refusal := .next (arm s .spr SPR.INJ_PAT_UE c)

/-- FRM_INJ_CHK_FAIL (R404): arms the next armed frame check to find its counter at 0. -/
def execFrmInjChkFail (s : State) : Host.Outcome State Fault Refusal := .next (arm s .pwr PWR.FRM_INJ_CHK_FAIL)

/-- FRM_INJ_LATE (R404): arms the next stamped arrival to be treated as late. -/
def execFrmInjLate (s : State) : Host.Outcome State Fault Refusal := .next (arm s .pwr PWR.FRM_INJ_LATE)

/-- FRM_INJ_ALIGN_LOSS (R404): arms the next beacon to be treated as 16 ns in error. -/
def execFrmInjAlignLoss (s : State) : Host.Outcome State Fault Refusal := .next (arm s .pwr PWR.FRM_INJ_ALIGN_LOSS)

/-- TUN_INJ_CE (R404): arms a corrected error on the next bank word read. -/
def execTunInjCe (d : Die) (s : State) : Host.Outcome State Fault Refusal := .next (arm s .tun TUN.INJ_CE d)

/-- TUN_INJ_UE (R404): arms an uncorrectable error on the next bank word read. -/
def execTunInjUe (d : Die) (s : State) : Host.Outcome State Fault Refusal := .next (arm s .tun TUN.INJ_UE d)

/-- TUN_INJ_SIDECAR (R404): arms an inverted HCRC on the next sidecar header written. -/
def execTunInjSidecar (d : Die) (s : State) : Host.Outcome State Fault Refusal := .next (arm s .tun TUN.INJ_SIDECAR d)

/-- RUN_INJ_SRC_CRC1 (R404): arms a single failure of the next Runner source check. -/
def execRunInjSrcCrc1 (c : Core) (s : State) : Host.Outcome State Fault Refusal := .next (arm s .run RUN.INJ_SRC_CRC1 c)

/-- RUN_INJ_SRC_CRC2 (R404): arms a double failure of the next Runner source check. -/
def execRunInjSrcCrc2 (c : Core) (s : State) : Host.Outcome State Fault Refusal := .next (arm s .run RUN.INJ_SRC_CRC2 c)

/-- RUN_INJ_REMOTE_ERR (R404): arms an error response on the next remote response. -/
def execRunInjRemoteErr (c : Core) (s : State) : Host.Outcome State Fault Refusal := .next (arm s .run RUN.INJ_REMOTE_ERR c)

/-- HBM_INJ_CE (R404): arms a corrected error report on the next sector read. -/
def execHbmInjCe (k : Stack) (s : State) : Host.Outcome State Fault Refusal := .next (arm s .hbm HBM.INJ_CE k)

/-- HBM_INJ_UE (R404): arms an uncorrectable error report on the next sector read. -/
def execHbmInjUe (k : Stack) (s : State) : Host.Outcome State Fault Refusal := .next (arm s .hbm HBM.INJ_UE k)

/-- HBM_INJ_PAR1 (R404): arms a single parity failure of the next write command. -/
def execHbmInjPar1 (k : Stack) (s : State) : Host.Outcome State Fault Refusal := .next (arm s .hbm HBM.INJ_PAR1 k)

/-- HBM_INJ_HOT (R404): arms the next stack temperature reading to be 90 °C. -/
def execHbmInjHot (k : Stack) (s : State) : Host.Outcome State Fault Refusal := .next (arm s .hbm HBM.INJ_HOT k)

/-- ING_INJ_RETRY (R404): arms one decoding failure on the next page read. -/
def execIngInjRetry (s : State) : Host.Outcome State Fault Refusal := .next (arm s .ing ING.INJ_RETRY)

/-- ING_INJ_READ_FAIL (R404): arms the next page read to fail every retry. -/
def execIngInjReadFail (s : State) : Host.Outcome State Fault Refusal := .next (arm s .ing ING.INJ_READ_FAIL)

/-- ING_INJ_PROG_FAIL (R404): arms the next program to fail and retire its block. -/
def execIngInjProgFail (s : State) : Host.Outcome State Fault Refusal := .next (arm s .ing ING.INJ_PROG_FAIL)

/-- ING_INJ_WB_EMPTY (R404): arms the write budget bucket to be treated as 0 at the next write. -/
def execIngInjWbEmpty (s : State) : Host.Outcome State Fault Refusal := .next (arm s .ing ING.INJ_WB_EMPTY)

/-- AVL_INJ_LCRC (R404): arms an LCRC failure on the next received sequenced flit. -/
def execAvlInjLcrc (p : Port) (s : State) : Host.Outcome State Fault Refusal := .next (arm s .avl AVL.INJ_LCRC p)

/-- AVL_INJ_UNCORR (R404): arms the next received codeword to be uncorrectable. -/
def execAvlInjUncorr (p : Port) (s : State) : Host.Outcome State Fault Refusal := .next (arm s .avl AVL.INJ_UNCORR p)

/-- AVL_INJ_LANE_BAD (R404): arms receive lane 0's next window to exceed LANE_THRESH. -/
def execAvlInjLaneBad (p : Port) (s : State) : Host.Outcome State Fault Refusal := .next (arm s .avl AVL.INJ_LANE_BAD p)

/-- AVL_INJ_AUTH (R404): arms a tag failure on the next received frame. -/
def execAvlInjAuth (p : Port) (s : State) : Host.Outcome State Fault Refusal := .next (arm s .avl AVL.INJ_AUTH p)

/-- ROUT_INJ_UNREACH (R404): arms the next forwarded packet to be treated as unreachable. -/
def execRoutInjUnreach (s : State) : Host.Outcome State Fault Refusal := .next (arm s .rout ROUT.INJ_UNREACH)

/-- ROUT_INJ_TIMEOUT (R404): arms the next remote request to time out. -/
def execRoutInjTimeout (s : State) : Host.Outcome State Fault Refusal := .next (arm s .rout ROUT.INJ_TIMEOUT)

/-- COL_INJ_STALE (R404): arms the next COLL packet to be treated as stale. -/
def execColInjStale (s : State) : Host.Outcome State Fault Refusal := .next (arm s .col COL.INJ_STALE)

/-- COL_INJ_CHUNK_CRC1 (R404): arms a single failure of the next chunk CRC check. -/
def execColInjChunkCrc1 (s : State) : Host.Outcome State Fault Refusal := .next (arm s .col COL.INJ_CHUNK_CRC1)

/-- COL_INJ_CHUNK_CRC2 (R404): arms a double failure of the next chunk CRC check. -/
def execColInjChunkCrc2 (s : State) : Host.Outcome State Fault Refusal := .next (arm s .col COL.INJ_CHUNK_CRC2)

/-- SW_INJ_SEAL_FLIP (R404): arms bit 0 of the next seal sent to be inverted. -/
def execSwInjSealFlip (s : State) : Host.Outcome State Fault Refusal := .next (arm s .col COL.SW_INJ_SEAL_FLIP)

/-- SW_INJ_BALLOT_DROP (R404): arms the next ballot of this device to be dropped. -/
def execSwInjBallotDrop (s : State) : Host.Outcome State Fault Refusal := .next (arm s .col COL.SW_INJ_BALLOT_DROP)

/-- JNL_INJ_TORN (R404): arms the next flush to leave its last tail page unprogrammed. -/
def execJnlInjTorn (s : State) : Host.Outcome State Fault Refusal := .next (arm s .ing ING.JNL_INJ_TORN)

/-- JNL_INJ_RSR_FULL (R404): arms the next RISER to find the buffer full for WAIT_FRAMES frames. -/
def execJnlInjRsrFull (s : State) : Host.Outcome State Fault Refusal := .next (arm s .ing ING.JNL_INJ_RSR_FULL)

/-- JNL_INJ_CAL_BAD (R404): arms the next start-up to find calibration copy 0 invalid. -/
def execJnlInjCalBad (s : State) : Host.Outcome State Fault Refusal := .next (arm s .ing ING.JNL_INJ_CAL_BAD)

/-- PWR_INJ_VIN_LOW (R404): arms the next input sample to read 39,000 mV. -/
def execPwrInjVinLow (s : State) : Host.Outcome State Fault Refusal := .next (arm s .pwr PWR.PWR_INJ_VIN_LOW)

/-- PWR_INJ_HOT (R404): arms the next junction sensor reading to be 106 °C. -/
def execPwrInjHot (s : State) : Host.Outcome State Fault Refusal := .next (arm s .pwr PWR.PWR_INJ_HOT)

/-- PWR_INJ_TRIP (R404): arms the next two readings of sensor 0 to be 116 °C. -/
def execPwrInjTrip (s : State) : Host.Outcome State Fault Refusal := .next (arm s .pwr PWR.PWR_INJ_TRIP)

/-- TRU_INJ_BAD_SIG (R404): arms the next verification to fail with BAD_SIG. -/
def execTruInjBadSig (s : State) : Host.Outcome State Fault Refusal := .next (arm s .tru TRU.INJ_BAD_SIG)

/-- TRU_INJ_RNG (R404): arms the next random-source health test to fail. -/
def execTruInjRng (s : State) : Host.Outcome State Fault Refusal := .next (arm s .tru TRU.INJ_RNG)

/-- HDR_PARITY_INJ (R391, R404). The next read of a header word of the page of an offset finds a parity error. -/
def execHdrParityInj (a : BitVec 26) (s : State) : Host.Outcome State Fault Refusal :=
  .next (onPage s a (fun p i => arm s p (HDR.HDR_PARITY_INJ p) i))

end Sys2Proof.Machine
end

