-- ==== Sys2Proof/Machine/Dispatch.lean ====
section
/-!
DEFINITION. Machine/Dispatch.lean: one arm per command: a direct call of its meaning.
-/
namespace Sys2Proof.Machine

open Sys2Proof

/-- The effect of one command on everything but the queue. -/
def exec (i : Instr) (s : State) : Host.Outcome State Fault Refusal :=
  match i with
  | .coldReset e => Sys2Proof.Machine.execColdReset e s
  | .rstCmd v e => Sys2Proof.Machine.execRstCmd v e s
  | .inputRecovery e => Sys2Proof.Machine.execInputRecovery e s
  | .bootStepOvertime step => Sys2Proof.Machine.execBootStepOvertime step s
  | .regulatorRetry e => Sys2Proof.Machine.execRegulatorRetry e s
  | .powerFailTrip pin mv => Sys2Proof.Machine.execPowerFailTrip pin mv s
  | .flushComplete => Sys2Proof.Machine.execFlushComplete s
  | .inputSample mv ma => Sys2Proof.Machine.execInputSample mv ma s
  | .railOutOfRegulation d rail => Sys2Proof.Machine.execRailOutOfRegulation d rail s
  | .sensorRead sensor deci => Sys2Proof.Machine.execSensorRead sensor deci s
  | .refclkLoss => Sys2Proof.Machine.execRefclkLoss s
  | .staggerGrant => Sys2Proof.Machine.execStaggerGrant s
  | .pinCtrlWrite v => Sys2Proof.Machine.execPinCtrlWrite v s
  | .frameTick energy => Sys2Proof.Machine.execFrameTick energy s
  | .periodChange => Sys2Proof.Machine.execPeriodChange s
  | .timingModeChange => Sys2Proof.Machine.execTimingModeChange s
  | .idleFrame => Sys2Proof.Machine.execIdleFrame s
  | .frameCheck => Sys2Proof.Machine.execFrameCheck s
  | .slackExceeded c => Sys2Proof.Machine.execSlackExceeded c s
  | .replayBudgetExceeded c => Sys2Proof.Machine.execReplayBudgetExceeded c s
  | .beacon ps => Sys2Proof.Machine.execBeacon ps s
  | .beaconTimeout => Sys2Proof.Machine.execBeaconTimeout s
  | .stretch => Sys2Proof.Machine.execStretch s
  | .grdProfileReqWrite v => Sys2Proof.Machine.execGrdProfileReqWrite v s
  | .grdBschedLockWrite v => Sys2Proof.Machine.execGrdBschedLockWrite v s
  | .bridgeWordCorrected d => Sys2Proof.Machine.execBridgeWordCorrected d s
  | .bridgeWordUncorrectable d => Sys2Proof.Machine.execBridgeWordUncorrectable d s
  | .bridgeLoss => Sys2Proof.Machine.execBridgeLoss s
  | .promoteRequest c => Sys2Proof.Machine.execPromoteRequest c s
  | .promoteCopyDone bad => Sys2Proof.Machine.execPromoteCopyDone bad s
  | .promoteSwitch => Sys2Proof.Machine.execPromoteSwitch s
  | .matmul c => Sys2Proof.Machine.execMatmul c s
  | .rampUp c => Sys2Proof.Machine.execRampUp c s
  | .rampDown c => Sys2Proof.Machine.execRampDown c s
  | .mldLoadStart c => Sys2Proof.Machine.execMldLoadStart c s
  | .mldLoadEnd c => Sys2Proof.Machine.execMldLoadEnd c s
  | .mldStreamStart c => Sys2Proof.Machine.execMldStreamStart c s
  | .mldStreamEnd c => Sys2Proof.Machine.execMldStreamEnd c s
  | .accOverflowMark c => Sys2Proof.Machine.execAccOverflowMark c s
  | .mldRoundComplete c => Sys2Proof.Machine.execMldRoundComplete c s
  | .mldDrainStart c => Sys2Proof.Machine.execMldDrainStart c s
  | .mldDrainEnd c => Sys2Proof.Machine.execMldDrainEnd c s
  | .mldOperandTileArrive c => Sys2Proof.Machine.execMldOperandTileArrive c s
  | .mldArrayWarm c => Sys2Proof.Machine.execMldArrayWarm c s
  | .mldIdleGateExpire c => Sys2Proof.Machine.execMldIdleGateExpire c s
  | .mldArrayCold c => Sys2Proof.Machine.execMldArrayCold c s
  | .cov c => Sys2Proof.Machine.execCov c s
  | .asyExport c => Sys2Proof.Machine.execAsyExport c s
  | .blend c => Sys2Proof.Machine.execBlend c s
  | .sqnorm c => Sys2Proof.Machine.execSqnorm c s
  | .noise c => Sys2Proof.Machine.execNoise c s
  | .asyNsUpdatesWrite c v => Sys2Proof.Machine.execAsyNsUpdatesWrite c v s
  | .storePortGrant c => Sys2Proof.Machine.execStorePortGrant c s
  | .chol c => Sys2Proof.Machine.execChol c s
  | .ldl c => Sys2Proof.Machine.execLdl c s
  | .trsm c => Sys2Proof.Machine.execTrsm c s
  | .inv c => Sys2Proof.Machine.execInv c s
  | .iroot c => Sys2Proof.Machine.execIroot c s
  | .root c => Sys2Proof.Machine.execRoot c s
  | .orth c => Sys2Proof.Machine.execOrth c s
  | .damp c => Sys2Proof.Machine.execDamp c s
  | .ema c => Sys2Proof.Machine.execEma c s
  | .delta c => Sys2Proof.Machine.execDelta c s
  | .rescale c => Sys2Proof.Machine.execRescale c s
  | .import c => Sys2Proof.Machine.execImport c s
  | .cruExport c => Sys2Proof.Machine.execCruExport c s
  | .define c => Sys2Proof.Machine.execDefine c s
  | .cruStepStart c => Sys2Proof.Machine.execCruStepStart c s
  | .cruStepEnd c => Sys2Proof.Machine.execCruStepEnd c s
  | .cruResume c => Sys2Proof.Machine.execCruResume c s
  | .cruDeadline c => Sys2Proof.Machine.execCruDeadline c s
  | .load c => Sys2Proof.Machine.execLoad c s
  | .store c => Sys2Proof.Machine.execStore c s
  | .zero c => Sys2Proof.Machine.execZero c s
  | .elemAdd c => Sys2Proof.Machine.execElemAdd c s
  | .elemSub c => Sys2Proof.Machine.execElemSub c s
  | .elemMul c => Sys2Proof.Machine.execElemMul c s
  | .elemFma c => Sys2Proof.Machine.execElemFma c s
  | .elemMax c => Sys2Proof.Machine.execElemMax c s
  | .elemMin c => Sys2Proof.Machine.execElemMin c s
  | .elemAbs c => Sys2Proof.Machine.execElemAbs c s
  | .elemNeg c => Sys2Proof.Machine.execElemNeg c s
  | .elemCvt c => Sys2Proof.Machine.execElemCvt c s
  | .elemSel c => Sys2Proof.Machine.execElemSel c s
  | .exp2 c => Sys2Proof.Machine.execExp2 c s
  | .log2 c => Sys2Proof.Machine.execLog2 c s
  | .rcp c => Sys2Proof.Machine.execRcp c s
  | .rsqrt c => Sys2Proof.Machine.execRsqrt c s
  | .tanh c => Sys2Proof.Machine.execTanh c s
  | .erf c => Sys2Proof.Machine.execErf c s
  | .sincos c => Sys2Proof.Machine.execSincos c s
  | .reduceSum c => Sys2Proof.Machine.execReduceSum c s
  | .reduceProd c => Sys2Proof.Machine.execReduceProd c s
  | .reduceMax c => Sys2Proof.Machine.execReduceMax c s
  | .reduceMin c => Sys2Proof.Machine.execReduceMin c s
  | .argmax c => Sys2Proof.Machine.execArgmax c s
  | .argmin c => Sys2Proof.Machine.execArgmin c s
  | .maskgen c => Sys2Proof.Machine.execMaskgen c s
  | .accread c => Sys2Proof.Machine.execAccread c s
  | .rmsnorm c => Sys2Proof.Machine.execRmsnorm c s
  | .layernorm c => Sys2Proof.Machine.execLayernorm c s
  | .opt c => Sys2Proof.Machine.execOpt c s
  | .run c => Sys2Proof.Machine.execRun c s
  | .ringTailWrite c v => Sys2Proof.Machine.execRingTailWrite c v s
  | .descFetch c => Sys2Proof.Machine.execDescFetch c s
  | .descIssue c => Sys2Proof.Machine.execDescIssue c s
  | .descRelease c q => Sys2Proof.Machine.execDescRelease c q s
  | .descComplete c q => Sys2Proof.Machine.execDescComplete c q s
  | .tokenSignalDeliver c => Sys2Proof.Machine.execTokenSignalDeliver c s
  | .tokSignal c t => Sys2Proof.Machine.execTokSignal c t s
  | .tokData c v => Sys2Proof.Machine.execTokData c v s
  | .predWrite c v => Sys2Proof.Machine.execPredWrite c v s
  | .nop c => Sys2Proof.Machine.execNop c s
  | .loop c => Sys2Proof.Machine.execLoop c s
  | .pset c => Sys2Proof.Machine.execPset c s
  | .ptest c => Sys2Proof.Machine.execPtest c s
  | .seed c => Sys2Proof.Machine.execSeed c s
  | .tokset c => Sys2Proof.Machine.execTokset c s
  | .patload c => Sys2Proof.Machine.execPatload c s
  | .patfree c => Sys2Proof.Machine.execPatfree c s
  | .stop c => Sys2Proof.Machine.execStop c s
  | .sprCtrlRun c v => Sys2Proof.Machine.execSprCtrlRun c v s
  | .sprCtrlResume c mode => Sys2Proof.Machine.execSprCtrlResume c mode s
  | .noProgressTimeout w => Sys2Proof.Machine.execNoProgressTimeout w s
  | .copy c => Sys2Proof.Machine.execCopy c s
  | .fill c => Sys2Proof.Machine.execFill c s
  | .fillAll c => Sys2Proof.Machine.execFillAll c s
  | .gather c => Sys2Proof.Machine.execGather c s
  | .scatter c => Sys2Proof.Machine.execScatter c s
  | .prefetch c => Sys2Proof.Machine.execPrefetch c s
  | .inval c => Sys2Proof.Machine.execInval c s
  | .requestComplete c => Sys2Proof.Machine.execRequestComplete c s
  | .scrubAccess m a e => Sys2Proof.Machine.execScrubAccess m a e s
  | .spareReq d bank => Sys2Proof.Machine.execSpareReq d bank s
  | .spareCopyDone d => Sys2Proof.Machine.execSpareCopyDone d s
  | .spareMapChange d => Sys2Proof.Machine.execSpareMapChange d s
  | .diagRawWrite d => Sys2Proof.Machine.execDiagRawWrite d s
  | .diagRawRead d => Sys2Proof.Machine.execDiagRawRead d s
  | .diagDecodedRead d => Sys2Proof.Machine.execDiagDecodedRead d s
  | .qapply => Sys2Proof.Machine.execQapply s
  | .quotaSetApply => Sys2Proof.Machine.execQuotaSetApply s
  | .hbmParityError k ch again => Sys2Proof.Machine.execHbmParityError k ch again s
  | .hbmChannelTimeout k ch => Sys2Proof.Machine.execHbmChannelTimeout k ch s
  | .hbmTempRead k deg => Sys2Proof.Machine.execHbmTempRead k deg s
  | .hbmTempPortLoss k hot => Sys2Proof.Machine.execHbmTempPortLoss k hot s
  | .hbmSlotServe j => Sys2Proof.Machine.execHbmSlotServe j s
  | .slotCtrlApply => Sys2Proof.Machine.execSlotCtrlApply s
  | .ingotReadComplete c r => Sys2Proof.Machine.execIngotReadComplete c r s
  | .ingotProgramStart => Sys2Proof.Machine.execIngotProgramStart s
  | .ingotProgramComplete fails => Sys2Proof.Machine.execIngotProgramComplete fails s
  | .garbageCollect tg fails => Sys2Proof.Machine.execGarbageCollect tg fails s
  | .wearLevel tg fails => Sys2Proof.Machine.execWearLevel tg fails s
  | .retireReq tg => Sys2Proof.Machine.execRetireReq tg s
  | .targetRetireDone => Sys2Proof.Machine.execTargetRetireDone s
  | .targetCommandTimeout tg zq => Sys2Proof.Machine.execTargetCommandTimeout tg zq s
  | .patrolRead area tile r => Sys2Proof.Machine.execPatrolRead area tile r s
  | .flitReceive p raw uncorr => Sys2Proof.Machine.execFlitReceive p raw uncorr s
  | .flitTransmit p => Sys2Proof.Machine.execFlitTransmit p s
  | .linkReplay p e => Sys2Proof.Machine.execLinkReplay p e s
  | .nakTimeout p => Sys2Proof.Machine.execNakTimeout p s
  | .ackTimeout p => Sys2Proof.Machine.execAckTimeout p s
  | .laneWindow p sym corr => Sys2Proof.Machine.execLaneWindow p sym corr s
  | .laneRequest p => Sys2Proof.Machine.execLaneRequest p s
  | .laneSwitch p => Sys2Proof.Machine.execLaneSwitch p s
  | .reEq p => Sys2Proof.Machine.execReEq p s
  | .presenceAssert p => Sys2Proof.Machine.execPresenceAssert p s
  | .presenceDeassert p => Sys2Proof.Machine.execPresenceDeassert p s
  | .trainingComplete p peer rx tx => Sys2Proof.Machine.execTrainingComplete p peer rx tx s
  | .avlCtrlRetrain p => Sys2Proof.Machine.execAvlCtrlRetrain p s
  | .shortRetrainComplete p peer rx tx => Sys2Proof.Machine.execShortRetrainComplete p peer rx tx s
  | .portActivate p => Sys2Proof.Machine.execPortActivate p s
  | .txWrapsLimit p => Sys2Proof.Machine.execTxWrapsLimit p s
  | .quenchSetReceive p q => Sys2Proof.Machine.execQuenchSetReceive p q s
  | .rdReq => Sys2Proof.Machine.execRdReq s
  | .rdRsp => Sys2Proof.Machine.execRdRsp s
  | .wr => Sys2Proof.Machine.execWr s
  | .wrAck => Sys2Proof.Machine.execWrAck s
  | .errRsp => Sys2Proof.Machine.execErrRsp s
  | .regRd => Sys2Proof.Machine.execRegRd s
  | .regWr e => Sys2Proof.Machine.execRegWr e s
  | .regRsp => Sys2Proof.Machine.execRegRsp s
  | .token => Sys2Proof.Machine.execToken s
  | .badMsg => Sys2Proof.Machine.execBadMsg s
  | .packetRoute => Sys2Proof.Machine.execPacketRoute s
  | .e2eTimeout => Sys2Proof.Machine.execE2eTimeout s
  | .routTableWrite a v wide => Sys2Proof.Machine.execRoutTableWrite a v wide s
  | .collAllReduce c => Sys2Proof.Machine.execCollAllReduce c s
  | .collReduceScatter c => Sys2Proof.Machine.execCollReduceScatter c s
  | .collAllGather c => Sys2Proof.Machine.execCollAllGather c s
  | .collBroadcast c => Sys2Proof.Machine.execCollBroadcast c s
  | .collReduceToRoot c => Sys2Proof.Machine.execCollReduceToRoot c s
  | .collFence c => Sys2Proof.Machine.execCollFence c s
  | .coll => Sys2Proof.Machine.execColl s
  | .fence => Sys2Proof.Machine.execFence s
  | .collHoldTimeout => Sys2Proof.Machine.execCollHoldTimeout s
  | .grpDefine => Sys2Proof.Machine.execGrpDefine s
  | .grpFree => Sys2Proof.Machine.execGrpFree s
  | .ncheck c => Sys2Proof.Machine.execNcheck c s
  | .vote c => Sys2Proof.Machine.execVote c s
  | .voteBallot => Sys2Proof.Machine.execVoteBallot s
  | .voteLaneVerdict => Sys2Proof.Machine.execVoteLaneVerdict s
  | .voteCommitDecision => Sys2Proof.Machine.execVoteCommitDecision s
  | .voteAbortDecision => Sys2Proof.Machine.execVoteAbortDecision s
  | .voteCommitNotice => Sys2Proof.Machine.execVoteCommitNotice s
  | .voteDeadline => Sys2Proof.Machine.execVoteDeadline s
  | .voteGraceExpire => Sys2Proof.Machine.execVoteGraceExpire s
  | .seal c => Sys2Proof.Machine.execSeal c s
  | .sealMessage => Sys2Proof.Machine.execSealMessage s
  | .sealTimeout => Sys2Proof.Machine.execSealTimeout s
  | .swCmdRelease => Sys2Proof.Machine.execSwCmdRelease s
  | .swCmdClearHold => Sys2Proof.Machine.execSwCmdClearHold s
  | .riser c => Sys2Proof.Machine.execRiser c s
  | .riserExport => Sys2Proof.Machine.execRiserExport s
  | .bulk => Sys2Proof.Machine.execBulk s
  | .riserRetx => Sys2Proof.Machine.execRiserRetx s
  | .riserWaitTimeout => Sys2Proof.Machine.execRiserWaitTimeout s
  | .jappend c => Sys2Proof.Machine.execJappend c s
  | .journalSync => Sys2Proof.Machine.execJournalSync s
  | .journalPageProgram => Sys2Proof.Machine.execJournalPageProgram s
  | .snapshotAppend => Sys2Proof.Machine.execSnapshotAppend s
  | .lifeSave => Sys2Proof.Machine.execLifeSave s
  | .quenchEntry q qs => Sys2Proof.Machine.execQuenchEntry q qs s
  | .safeStateReached => Sys2Proof.Machine.execSafeStateReached s
  | .flashQuiesced => Sys2Proof.Machine.execFlashQuiesced s
  | .quenchExit e => Sys2Proof.Machine.execQuenchExit e s
  | .qSwreq v => Sys2Proof.Machine.execQSwreq v s
  | .fltStatusClear a v => Sys2Proof.Machine.execFltStatusClear a v s
  | .fltFirstClear a => Sys2Proof.Machine.execFltFirstClear a s
  | .headerParityError a => Sys2Proof.Machine.execHeaderParityError a s
  | .wdogKick k => Sys2Proof.Machine.execWdogKick k s
  | .wdogPeriodExpire k => Sys2Proof.Machine.execWdogPeriodExpire k s
  | .attest => Sys2Proof.Machine.execAttest s
  | .verify => Sys2Proof.Machine.execVerify s
  | .nonce => Sys2Proof.Machine.execNonce s
  | .enrol => Sys2Proof.Machine.execEnrol s
  | .unenrol => Sys2Proof.Machine.execUnenrol s
  | .update => Sys2Proof.Machine.execUpdate s
  | .patverify => Sys2Proof.Machine.execPatverify s
  | .link p => Sys2Proof.Machine.execLink p s
  | .hello p => Sys2Proof.Machine.execHello p s
  | .report p => Sys2Proof.Machine.execReport p s
  | .share p => Sys2Proof.Machine.execShare p s
  | .done p => Sys2Proof.Machine.execDone p s
  | .rngHealthFail => Sys2Proof.Machine.execRngHealthFail s
  | .moduleUpdateActivate => Sys2Proof.Machine.execModuleUpdateActivate s
  | .updateDeferTimeout => Sys2Proof.Machine.execUpdateDeferTimeout s
  | .pageEnable a v => Sys2Proof.Machine.execPageEnable a v s
  | .pageQuiesce a v => Sys2Proof.Machine.execPageQuiesce a v s
  | .pageQuiesced a => Sys2Proof.Machine.execPageQuiesced a s
  | .pageBreset a => Sys2Proof.Machine.execPageBreset a s
  | .pageLockWrite a v => Sys2Proof.Machine.execPageLockWrite a v s
  | .lopCopy k => Sys2Proof.Machine.execLopCopy k s
  | .rcopy k => Sys2Proof.Machine.execRcopy k s
  | .hbmScrub k => Sys2Proof.Machine.execHbmScrub k s
  | .hbmTest k => Sys2Proof.Machine.execHbmTest k s
  | .ingFormat k => Sys2Proof.Machine.execIngFormat k s
  | .lopAbort k => Sys2Proof.Machine.execLopAbort k s
  | .lopStep k r errs => Sys2Proof.Machine.execLopStep k r errs s
  | .calApply => Sys2Proof.Machine.execCalApply s
  | .calSave => Sys2Proof.Machine.execCalSave s
  | .calReload => Sys2Proof.Machine.execCalReload s
  | .calClear => Sys2Proof.Machine.execCalClear s
  | .railSlewStep => Sys2Proof.Machine.execRailSlewStep s
  | .sidebandRead32 a => Sys2Proof.Machine.execSidebandRead32 a s
  | .sidebandWrite32 a v e => Sys2Proof.Machine.execSidebandWrite32 a v e s
  | .sidebandRead64 a => Sys2Proof.Machine.execSidebandRead64 a s
  | .sidebandWrite64 a v e => Sys2Proof.Machine.execSidebandWrite64 a v e s
  | .bypass => Sys2Proof.Machine.execBypass s
  | .idcode => Sys2Proof.Machine.execIdcode s
  | .samplePreload lands pre => Sys2Proof.Machine.execSamplePreload lands pre s
  | .extest lands => Sys2Proof.Machine.execExtest lands s
  | .ccDebug halt => Sys2Proof.Machine.execCcDebug halt s
  | .attnPress => Sys2Proof.Machine.execAttnPress s
  | .attnLongPress => Sys2Proof.Machine.execAttnLongPress s
  | .drainReq => Sys2Proof.Machine.execDrainReq s
  | .drainGo => Sys2Proof.Machine.execDrainGo s
  | .drainCancel => Sys2Proof.Machine.execDrainCancel s
  | .drainRenotify => Sys2Proof.Machine.execDrainRenotify s
  | .drainSafe => Sys2Proof.Machine.execDrainSafe s
  | .drainLimitExpire => Sys2Proof.Machine.execDrainLimitExpire s
  | .registerWrite a v wide e => Sys2Proof.Machine.execRegisterWrite a v wide e s
  | .mldInjAccOvf c => Sys2Proof.Machine.execMldInjAccOvf c s
  | .mldInjOpndCrc1 c => Sys2Proof.Machine.execMldInjOpndCrc1 c s
  | .mldInjOpndCrc2 c => Sys2Proof.Machine.execMldInjOpndCrc2 c s
  | .mldInjAccUe c => Sys2Proof.Machine.execMldInjAccUe c s
  | .mldInjStatPar c => Sys2Proof.Machine.execMldInjStatPar c s
  | .asyInjCapUe c => Sys2Proof.Machine.execAsyInjCapUe c s
  | .asyInjImgCrc1 c => Sys2Proof.Machine.execAsyInjImgCrc1 c s
  | .asyInjImgCrc2 c => Sys2Proof.Machine.execAsyInjImgCrc2 c s
  | .asyInjBlkNf c => Sys2Proof.Machine.execAsyInjBlkNf c s
  | .cruInjStoreUe c => Sys2Proof.Machine.execCruInjStoreUe c s
  | .cruInjPivot c => Sys2Proof.Machine.execCruInjPivot c s
  | .cruInjImgCrc1 c => Sys2Proof.Machine.execCruInjImgCrc1 c s
  | .cruInjImgCrc2 c => Sys2Proof.Machine.execCruInjImgCrc2 c s
  | .cruInjSat c => Sys2Proof.Machine.execCruInjSat c s
  | .ldlInjCacheUe c => Sys2Proof.Machine.execLdlInjCacheUe c s
  | .ldlInjTunCrc1 c => Sys2Proof.Machine.execLdlInjTunCrc1 c s
  | .ldlInjTunCrc2 c => Sys2Proof.Machine.execLdlInjTunCrc2 c s
  | .ldlInjRegPar c => Sys2Proof.Machine.execLdlInjRegPar c s
  | .sprInjDescCrc1 c => Sys2Proof.Machine.execSprInjDescCrc1 c s
  | .sprInjDescCrc2 c => Sys2Proof.Machine.execSprInjDescCrc2 c s
  | .sprInjPatUe c => Sys2Proof.Machine.execSprInjPatUe c s
  | .frmInjChkFail => Sys2Proof.Machine.execFrmInjChkFail s
  | .frmInjLate => Sys2Proof.Machine.execFrmInjLate s
  | .frmInjAlignLoss => Sys2Proof.Machine.execFrmInjAlignLoss s
  | .tunInjCe d => Sys2Proof.Machine.execTunInjCe d s
  | .tunInjUe d => Sys2Proof.Machine.execTunInjUe d s
  | .tunInjSidecar d => Sys2Proof.Machine.execTunInjSidecar d s
  | .runInjSrcCrc1 c => Sys2Proof.Machine.execRunInjSrcCrc1 c s
  | .runInjSrcCrc2 c => Sys2Proof.Machine.execRunInjSrcCrc2 c s
  | .runInjRemoteErr c => Sys2Proof.Machine.execRunInjRemoteErr c s
  | .hbmInjCe k => Sys2Proof.Machine.execHbmInjCe k s
  | .hbmInjUe k => Sys2Proof.Machine.execHbmInjUe k s
  | .hbmInjPar1 k => Sys2Proof.Machine.execHbmInjPar1 k s
  | .hbmInjHot k => Sys2Proof.Machine.execHbmInjHot k s
  | .ingInjRetry => Sys2Proof.Machine.execIngInjRetry s
  | .ingInjReadFail => Sys2Proof.Machine.execIngInjReadFail s
  | .ingInjProgFail => Sys2Proof.Machine.execIngInjProgFail s
  | .ingInjWbEmpty => Sys2Proof.Machine.execIngInjWbEmpty s
  | .avlInjLcrc p => Sys2Proof.Machine.execAvlInjLcrc p s
  | .avlInjUncorr p => Sys2Proof.Machine.execAvlInjUncorr p s
  | .avlInjLaneBad p => Sys2Proof.Machine.execAvlInjLaneBad p s
  | .avlInjAuth p => Sys2Proof.Machine.execAvlInjAuth p s
  | .routInjUnreach => Sys2Proof.Machine.execRoutInjUnreach s
  | .routInjTimeout => Sys2Proof.Machine.execRoutInjTimeout s
  | .colInjStale => Sys2Proof.Machine.execColInjStale s
  | .colInjChunkCrc1 => Sys2Proof.Machine.execColInjChunkCrc1 s
  | .colInjChunkCrc2 => Sys2Proof.Machine.execColInjChunkCrc2 s
  | .swInjSealFlip => Sys2Proof.Machine.execSwInjSealFlip s
  | .swInjBallotDrop => Sys2Proof.Machine.execSwInjBallotDrop s
  | .jnlInjTorn => Sys2Proof.Machine.execJnlInjTorn s
  | .jnlInjRsrFull => Sys2Proof.Machine.execJnlInjRsrFull s
  | .jnlInjCalBad => Sys2Proof.Machine.execJnlInjCalBad s
  | .pwrInjVinLow => Sys2Proof.Machine.execPwrInjVinLow s
  | .pwrInjHot => Sys2Proof.Machine.execPwrInjHot s
  | .pwrInjTrip => Sys2Proof.Machine.execPwrInjTrip s
  | .truInjBadSig => Sys2Proof.Machine.execTruInjBadSig s
  | .truInjRng => Sys2Proof.Machine.execTruInjRng s
  | .hdrParityInj a => Sys2Proof.Machine.execHdrParityInj a s
  | .regulatorsStop => Sys2Proof.Machine.execRegulatorsStop s
  | .phaseOverCurrent => Sys2Proof.Machine.execPhaseOverCurrent s
  | .spareEqualisationDone p => Sys2Proof.Machine.execSpareEqualisationDone p s

end Sys2Proof.Machine
end

