-- ==== Sys2Proof/Safety.lean ====
section
/-!
DEFINITION. Safety.lean: what counts as a sound state, in the terms the statements use: the register file, the fuses and every
byte memory are in their one canonical form.
-/
namespace Sys2Proof.Machine

open Sys2Proof

/-- A state whose sparse registers and byte memories are canonical: keys strictly rising, no entry equal to what an unlisted one
reads as. Then equal contents are equal data. -/
structure State.Sound (s : State) : Prop where
  regs : swf 0 s.regs = true
  fuses : swf 0 s.fuses = true
  tunBytes : Memory.wf s.tun.bytes = true
  tunSide : Memory.wf s.tun.side = true
  hbm : Memory.wf s.hbm = true
  ingBytes : Memory.wf s.ing.bytes = true
  ingSide : Memory.wf s.ing.side = true
  caches : ∀ x ∈ s.cores.toList, Memory.wf x.ldl.cache = true

/-- A step is safe when it answers a next state: no fault and no refusal. -/
def Safe (o : Host.Outcome State Fault Refusal) : Prop := ∃ t, o = .next t

end Sys2Proof.Machine
end

