-- ==== Sys2Proof/WellFormed.lean ====
section
/-!
DEFINITION. WellFormed.lean: what a command's operands must be beyond their types: readings within the range that the spec
gives the register or message they come from, and lists of the lengths the hardware has.
-/
namespace Sys2Proof

/-- What a reset meets outside the block: sixteen channels (R265), twelve stacks (R249), nine steps (R455), peers and cables among
the 24 ports, codes of `LOST_CAUSE` (R255), three straps (R447), eight data groups of a bridge direction with a spare (R25). -/
def BootEnv.wf (e : BootEnv) : Bool :=
  e.rates.length == 16 && e.rates.all (fun r => decide (r ≤ 3600)) &&
  e.targets.length == 16 && e.targets.all (fun t => decide (t.1 < 16) && decide (t.2 < 16)) &&
  e.laneRepairs.length == 12 && e.laneRepairs.all (fun t => decide (t.2 < 65536)) &&
  e.ms.length == 9 &&
  e.badModules.all (fun b => decide (b < 16)) &&
  e.lostStacks.all (fun x => decide (x.1 < 12) && decide (1 ≤ x.2.1) && decide (x.2.1 ≤ 5) && decide (x.2.2 < 16)) &&
  decide (e.cables < 2 ^ 24) && decide (e.linked < 2 ^ 24) && decide (e.straps < 8) &&
  e.peers.all (fun x => decide (x.1 < 24) && decide (x.2 < 2 ^ 23)) &&
  (match e.recovery with | some (p, w, _) => decide (p < 24) && decide (w < 2 ^ 23) | none => true)

/-- R392: the codes of a quench cause; for a fault (cause 1) the source is one of the 64 of its page. -/
def QCause.wf (q : QCause) : Bool := decide (1 ≤ q.code) && decide (q.code ≤ 6) && decide (q.src < 64)

/-- R28: the words of a store that a promotion's copy names lie in it. -/
def PromoBad.wf (b : PromoBad) : Bool :=
  b.cru.all (fun w => decide (w < 6291456)) && b.ids.all (fun i => decide (i < 4096)) &&
  b.asy.all (fun u => decide (u < 192)) && b.cache.all (fun w => decide (w < 4194304)) &&
  b.pat.all (fun w => decide (w < 16384))

/-- A command whose operands are ones that the hardware can meet. -/
def Instr.wf : Instr → Bool
  | .coldReset e | .rstCmd _ e | .inputRecovery e | .regulatorRetry e | .quenchExit e => e.wf
  | .sidebandWrite32 _ _ e | .sidebandWrite64 _ _ e | .registerWrite _ _ _ e | .regWr e => e.wf
  | .quenchEntry q qs => q.wf && qs.all QCause.wf
  | .promoteCopyDone b => b.wf
  | .laneWindow _ sym _ => sym.length == 5
  | .bootStepOvertime .. | .powerFailTrip .. | .flushComplete .. | .inputSample .. | .railOutOfRegulation ..
  | .sensorRead .. | .refclkLoss .. | .staggerGrant .. | .pinCtrlWrite .. | .frameTick .. | .periodChange ..
  | .timingModeChange .. | .idleFrame .. | .frameCheck .. | .slackExceeded .. | .replayBudgetExceeded .. | .beacon ..
  | .beaconTimeout .. | .stretch .. | .grdProfileReqWrite .. | .grdBschedLockWrite .. | .bridgeWordCorrected ..
  | .bridgeWordUncorrectable .. | .bridgeLoss .. | .promoteRequest .. | .promoteSwitch .. | .matmul .. | .rampUp ..
  | .rampDown .. | .mldLoadStart .. | .mldLoadEnd .. | .mldStreamStart .. | .mldStreamEnd .. | .accOverflowMark ..
  | .mldRoundComplete .. | .mldDrainStart .. | .mldDrainEnd .. | .mldOperandTileArrive .. | .mldArrayWarm ..
  | .mldIdleGateExpire .. | .mldArrayCold .. | .cov .. | .asyExport .. | .blend .. | .sqnorm .. | .noise ..
  | .asyNsUpdatesWrite .. | .storePortGrant .. | .chol .. | .ldl .. | .trsm .. | .inv .. | .iroot .. | .root ..
  | .orth .. | .damp .. | .ema .. | .delta .. | .rescale .. | .import .. | .cruExport .. | .define ..
  | .cruStepStart .. | .cruStepEnd .. | .cruResume .. | .cruDeadline .. | .load .. | .store .. | .zero ..
  | .elemAdd .. | .elemSub .. | .elemMul .. | .elemFma .. | .elemMax .. | .elemMin .. | .elemAbs .. | .elemNeg ..
  | .elemCvt .. | .elemSel .. | .exp2 .. | .log2 .. | .rcp .. | .rsqrt .. | .tanh .. | .erf .. | .sincos ..
  | .reduceSum .. | .reduceProd .. | .reduceMax .. | .reduceMin .. | .argmax .. | .argmin .. | .maskgen ..
  | .accread .. | .rmsnorm .. | .layernorm .. | .opt .. | .run .. | .ringTailWrite .. | .descFetch .. | .descIssue ..
  | .descRelease .. | .descComplete .. | .tokenSignalDeliver .. | .tokSignal .. | .tokData .. | .predWrite ..
  | .nop .. | .loop .. | .pset .. | .ptest .. | .seed .. | .tokset .. | .patload .. | .patfree .. | .stop ..
  | .sprCtrlRun .. | .sprCtrlResume .. | .noProgressTimeout .. | .copy .. | .fill .. | .fillAll .. | .gather ..
  | .scatter .. | .prefetch .. | .inval .. | .requestComplete .. | .scrubAccess .. | .spareReq .. | .spareCopyDone ..
  | .spareMapChange .. | .diagRawWrite .. | .diagRawRead .. | .diagDecodedRead .. | .qapply .. | .quotaSetApply ..
  | .hbmParityError .. | .hbmChannelTimeout .. | .hbmTempRead .. | .hbmTempPortLoss .. | .hbmSlotServe ..
  | .slotCtrlApply .. | .ingotReadComplete .. | .ingotProgramStart .. | .ingotProgramComplete .. | .garbageCollect ..
  | .wearLevel .. | .retireReq .. | .targetRetireDone .. | .targetCommandTimeout .. | .patrolRead ..
  | .flitReceive .. | .flitTransmit .. | .linkReplay .. | .nakTimeout .. | .ackTimeout .. | .laneRequest ..
  | .laneSwitch .. | .reEq .. | .presenceAssert .. | .presenceDeassert .. | .trainingComplete .. | .avlCtrlRetrain ..
  | .shortRetrainComplete .. | .portActivate .. | .txWrapsLimit .. | .quenchSetReceive .. | .rdReq .. | .rdRsp ..
  | .wr .. | .wrAck .. | .errRsp .. | .regRd .. | .regRsp .. | .token .. | .badMsg .. | .packetRoute ..
  | .e2eTimeout .. | .routTableWrite .. | .collAllReduce .. | .collReduceScatter .. | .collAllGather ..
  | .collBroadcast .. | .collReduceToRoot .. | .collFence .. | .coll .. | .fence .. | .collHoldTimeout ..
  | .grpDefine .. | .grpFree .. | .ncheck .. | .vote .. | .voteBallot .. | .voteLaneVerdict ..
  | .voteCommitDecision .. | .voteAbortDecision .. | .voteCommitNotice .. | .voteDeadline .. | .voteGraceExpire ..
  | .seal .. | .sealMessage .. | .sealTimeout .. | .swCmdRelease .. | .swCmdClearHold .. | .riser ..
  | .riserExport .. | .bulk .. | .riserRetx .. | .riserWaitTimeout .. | .jappend .. | .journalSync ..
  | .journalPageProgram .. | .snapshotAppend .. | .lifeSave .. | .safeStateReached .. | .flashQuiesced ..
  | .qSwreq .. | .fltStatusClear .. | .fltFirstClear .. | .headerParityError .. | .wdogKick .. | .wdogPeriodExpire ..
  | .attest .. | .verify .. | .nonce .. | .enrol .. | .unenrol .. | .update .. | .patverify .. | .link .. | .hello ..
  | .report .. | .share .. | .done .. | .rngHealthFail .. | .moduleUpdateActivate .. | .updateDeferTimeout ..
  | .pageEnable .. | .pageQuiesce .. | .pageQuiesced .. | .pageBreset .. | .pageLockWrite .. | .lopCopy ..
  | .rcopy .. | .hbmScrub .. | .hbmTest .. | .ingFormat .. | .lopAbort .. | .lopStep .. | .calApply .. | .calSave ..
  | .calReload .. | .calClear .. | .railSlewStep .. | .sidebandRead32 .. | .sidebandRead64 .. | .bypass ..
  | .idcode .. | .samplePreload .. | .extest .. | .ccDebug .. | .attnPress .. | .attnLongPress .. | .drainReq ..
  | .drainGo .. | .drainCancel .. | .drainRenotify .. | .drainSafe .. | .drainLimitExpire .. | .mldInjAccOvf ..
  | .mldInjOpndCrc1 .. | .mldInjOpndCrc2 .. | .mldInjAccUe .. | .mldInjStatPar .. | .asyInjCapUe ..
  | .asyInjImgCrc1 .. | .asyInjImgCrc2 .. | .asyInjBlkNf .. | .cruInjStoreUe .. | .cruInjPivot .. | .cruInjImgCrc1 ..
  | .cruInjImgCrc2 .. | .cruInjSat .. | .ldlInjCacheUe .. | .ldlInjTunCrc1 .. | .ldlInjTunCrc2 .. | .ldlInjRegPar ..
  | .sprInjDescCrc1 .. | .sprInjDescCrc2 .. | .sprInjPatUe .. | .frmInjChkFail .. | .frmInjLate ..
  | .frmInjAlignLoss .. | .tunInjCe .. | .tunInjUe .. | .tunInjSidecar .. | .runInjSrcCrc1 .. | .runInjSrcCrc2 ..
  | .runInjRemoteErr .. | .hbmInjCe .. | .hbmInjUe .. | .hbmInjPar1 .. | .hbmInjHot .. | .ingInjRetry ..
  | .ingInjReadFail .. | .ingInjProgFail .. | .ingInjWbEmpty .. | .avlInjLcrc .. | .avlInjUncorr ..
  | .avlInjLaneBad .. | .avlInjAuth .. | .routInjUnreach .. | .routInjTimeout .. | .colInjStale ..
  | .colInjChunkCrc1 .. | .colInjChunkCrc2 .. | .swInjSealFlip .. | .swInjBallotDrop .. | .jnlInjTorn ..
  | .jnlInjRsrFull .. | .jnlInjCalBad .. | .pwrInjVinLow .. | .pwrInjHot .. | .pwrInjTrip .. | .truInjBadSig ..
  | .truInjRng .. | .hdrParityInj .. | .regulatorsStop .. | .phaseOverCurrent .. | .spareEqualisationDone .. => true

end Sys2Proof
end

