-- ==== Sys2Proof/Certificates/Slice0/Obligations.lean ====
section
/-!
DEFINITION. Certificates/Slice0/Obligations.lean: the statements for the provers. Each is a proposition over every state of the
block; each docstring names the rule of spec/ it formalises or says which choice of the model it rests on.
-/

open Sys2Proof Sys2Proof.Machine

/-- A step carries out the command at the front of the queue, on the state with the rest of the queue. The queue is the model's
(log entry 1); the commands are the steps that 95_what_each_step_holds.md lists. -/
def Obligations.StepRunsFrontCommand : Prop :=
  ∀ (s : State) (c : Instr) (rest : List Instr), s.pending = c :: rest → step s = exec c { s with pending := rest }

/-- With no command waiting the block idles (the model's choice, log entry 1). -/
def Obligations.EmptyQueueIdles : Prop := ∀ s : State, s.pending = [] → step s = .next s

/-- State.reset is in canonical form and its queue is empty. -/
def Obligations.ResetIsSound : Prop := State.reset.Sound ∧ State.reset.pending = []

/-- Every step keeps the register file, the fuses and every byte memory in canonical form. -/
def Obligations.StepKeepsSound : Prop := ∀ s t : State, s.Sound → step s = .next t → t.Sound

/-- No command changes a fuse, and none adds to or takes from the queue beyond the command that is carried out. -/
def Obligations.StepKeepsFuses : Prop :=
  ∀ s t : State, step s = .next t → t.fuses = s.fuses ∧ t.pending = s.pending.tail

/-- Every command completes in every state: no fault and no refusal. -/
def Obligations.EveryCommandCompletes : Prop :=
  (∀ (i : Instr) (s : State), Safe (exec i s)) ∧ ∀ s : State, Safe (step s)

/-- A register that is not fuse-backed holds the value last stored, cut to its width, and every register at another offset, every
fuse-backed register and everything beside the registers stay as they were. -/
def Obligations.RegisterHoldsWhatIsStored : Prop :=
  ∀ (s : State) (r : Reg) (v inst i : Nat), s.Sound → r.fuse = false →
    (s.setReg r v inst i).reg r inst i = v % 2 ^ r.width ∧
    (∀ (q : Reg) (inst' i' : Nat), q.addr inst' i' ≠ r.addr inst i →
      (s.setReg r v inst i).reg q inst' i' = s.reg q inst' i') ∧
    ({ s.setReg r v inst i with regs := s.regs } : State) = s

/-- Bytes written from an address read back, every byte outside reads as before, and the canonical form is kept. -/
def Obligations.MemoryHoldsWhatIsWritten : Prop :=
  ∀ (m : Mem) (a : Nat) (bs : List Byte), Memory.wf m = true →
    readBytes (writeBytes m a bs) a bs.length = bs ∧
    (∀ b, b < a ∨ a + bs.length ≤ b → readBytes (writeBytes m a bs) b 1 = readBytes m b 1) ∧
    Memory.wf (writeBytes m a bs) = true

/-- The commands of the frame clock complete. What a tick does in order: HBM accesses in the slots before it are served (R257),
replay time and frame checks settle at the tick (R216,
R217), the counters advance (R200), the power cap takes the frame's energy (R410), the boundary window runs (R32), and beacons and
stagger slots follow. The division of the window into commands is the model's (log entry 39). -/
def Obligations.FrameCommandsComplete : Prop :=
  (∀ (energy : Nat) (s : State), exec (.frameTick energy) s =
    (let t := s.tickAt
     let s0 := hbmAdvance (hbmLeft s) t s
     let s1 := frameChecks (eachCore s0 (fun s c => settleReplay s c t)) t
     let n := t - s1.frameCk
     let s2 := tickCounters (hotFrame (idleOver s1 t) n) t
     let s3 := beaconSend (boundary (budgetCredit (powerCap s2 energy n) n))
     .next (eachCore (pruneUse s3) grantSlots))) ∧
  (∀ s : State, exec .frameCheck s = .next (frameChecks s s.tickAt)) ∧
  (∀ s : State, inWindow s = true →
    exec .periodChange s = .next (periodChange s) ∧ exec .timingModeChange s = .next (modeChange s) ∧
    exec .idleFrame s = .next (idleFrame s)) ∧
  (∀ (s t : State) (p : Nat) (m : Packet) (ps : Int), s.quenched = false → takeKind s 0x11 = some (p, m, t) →
    t.flag PWR.ALIGN_CTRL_MASTER = false → m.src = t.fld PWR.ALIGN_CTRL_SRC →
    (let u := modPwr (sendFrom t m.src 0x11 m.body) (fun p => { p with beaconFrame := (sendFrom t m.src 0x11 m.body).frame })
     u.armed PWR.FRM_INJ_ALIGN_LOSS = false →
     (fieldAt m.body 6 4 == u.reg PWR.FRM_PERIOD && fieldAt m.body 10 1 == b2n u.endurance) = true →
      exec (.beacon ps) s = .next (takePhase (u.setFld PWR.FRM_STATE_PERIOD_MISMATCH 0) (fieldAt m.body 0 6) ps))) ∧
  (∀ s : State, s.flag PWR.ALIGN_CTRL_MASTER = false → 4 ≤ (s.frame + 2 ^ 48 - s.pwr.beaconFrame) % 2 ^ 48 →
    exec .beaconTimeout s = .next (unalign s)) ∧
  (∀ (s t : State) (p : Nat) (m : Packet), s.quenched = false → takeKind s 0x12 = some (p, m, t) →
    (fieldAt m.body 0 1 ≠ 0 → exec .stretch s = .next (nameIdle (sendFrom t m.src 0x12 m.body) (fieldAt m.body 1 6))) ∧
    (fieldAt m.body 0 1 = 0 → t.flag PWR.ALIGN_CTRL_MASTER = true → exec .stretch s = .next (masterNames t)))

/-- The commands of power, clock and temperature complete: a trip starts the flush (R371), its end leaves the device flushed,
a sample inside the range shows the voltage and the current and clears the flags (R405), an over-current quenches (R407), a rail
or the clock raises its source (R408, R415), a sensor is read with its calibration (R413), a stagger slot starts a stream or a
ramp (R409), the regulators stop (R373). -/
def Obligations.PowerCommandsComplete : Prop :=
  (∀ (pin : Bool) (mv : Nat) (s : State), pin = true ∨ mv < 38000 →
    exec (.powerFailTrip pin mv) s = .next (powerFail s pin mv)) ∧
  (∀ s : State, s.flag ING.JNL_STATE_FLUSHING = true → exec .flushComplete s =
    (let t := (flushTail ((landAll s).setFld STW.Q_STATE_FLASH_BUSY 0)).setFld ING.JNL_STATE_FLUSHING 0
     .next { t with svc := { t.svc with flushed := true } })) ∧
  (∀ (mv ma : Nat) (s : State), 40000 ≤ mv → mv ≤ 46000 → ma ≤ 88000 →
    (s.upTo (s.pwr.sampleCk + s.ckPerUs)).armed PWR.PWR_INJ_VIN_LOW = false → exec (.inputSample mv ma) s =
      (let u := s.upTo (s.pwr.sampleCk + s.ckPerUs)
       let t := ((((u.setReg PWR.VIN mv).setReg PWR.IIN (min 65535 (ma / 10))).setFld PWR.PWR_STATE_IN_LOW 0).setFld
         PWR.PWR_STATE_IN_HIGH 0)
       .next (modPwr t (fun p => { p with sampleCk := u.ck, over100 := 0, over88 := 0 })))) ∧
  (∀ s : State, exec .phaseOverCurrent s = .next (quench s ⟨3, 0, 0, 0⟩ [])) ∧
  (∀ (d : Die) (rail : Fin 11) (s : State), (rail : Nat) ≠ 10 ∨ (d : Nat) ≠ 1 →
    exec (.railOutOfRegulation d rail) s = .next (raise .pwr 0 7 s)) ∧
  (∀ s : State, exec .refclkLoss s = .next (raise .pwr 0 12 (s.setFld PWR.PWR_STATE_REFCLK_OK 0))) ∧
  (∀ (i : Fin 160) (deci : Int) (s : State), s.armed PWR.PWR_INJ_TRIP = false → s.armed PWR.PWR_INJ_HOT = false →
    exec (.sensorRead i deci) s = .next (takeReading s i (deci + calEffective s (32 + sensorDie i)))) ∧
  (∀ (s : State) (t c k : Nat), s.idleFrame = false → s.quenched = false → nextStart s = some (t, 0, c, k) →
    exec .staggerGrant s =
      (let u := ((({ s.upTo t with stag := s.stag.erase (0, c, k) } : State).bump PWR.GRANTS).setFld PWR.STAG_STATE_LAST (2 * c))
       .next ((u.modSpr c (fun p => { p with lastProgress := t, lastIssue := t, idleCk := 0, cause := false })).setFld SPR.STATE_STREAM stRunning c))) ∧
  (∀ s : State, exec .regulatorsStop s = .next (powerLost s)) ∧
  (∀ (e : BootEnv) (s : State), s.svc.flushed = true → exec (.inputRecovery e) s = .next (warmBoot s e 4 false))

/-- The commands of the Quench controller and the watchdog complete: causes enter quench (R392), the safe state is shown 2 µs
later (R393), a header word that fails parity is handled (R391), a kick clears the missed period and starts the next, a first miss
raises STW source 4, a second quenches with cause 5 (R401); `PIN_CTRL` takes its fields (R417). -/
def Obligations.QuenchCommandsComplete : Prop :=
  (∀ (q : QCause) (qs : List QCause) (s : State), q.wf = true → qs.all QCause.wf = true →
    exec (.quenchEntry q qs) s = .next (quench s q qs)) ∧
  (∀ (v : BitVec 32) (s : State), v.toNat % 2 ^ 16 = 0x51E4 → exec (.qSwreq v) s = .next (quench s ⟨6, 0, 0, 0⟩ [])) ∧
  (∀ s : State, s.quenched = true → s.flag STW.Q_STATE_SAFE = false → exec .safeStateReached s =
    (let u := s.upTo (s.pwr.qCk + 2 * s.ckPerUs)
     let v := (List.range 4).foldl (fun s c => if s.fld MLD.STATE_ARRAY c = 3 then s.setFld MLD.STATE_ARRAY 0 c else s) u
     .next ((({ v with svc := { v.svc with selfRef := true } } : State).setFld STW.Q_STATE_SAFE 1).setFld STW.SVC_LAMP_SERVICE 1))) ∧
  (∀ s : State, s.quenched = true → s.flag STW.Q_STATE_FLASH_BUSY = true →
    exec .flashQuiesced s = .next ((landAll s).setFld STW.Q_STATE_FLASH_BUSY 0)) ∧
  (∀ (a : BitVec 26) (s : State) (p : PageKind) (i o : Nat), headerAt s a.toNat = some (p, i, o) → o < 0x100 →
    exec (.headerParityError a) s = .next (headerParity s p i (o / 4))) ∧
  (∀ (k : Fin 4) (s : State), exec (.wdogKick k) s =
    .next (wdogStart (s.setFld STW.WDOG_STATE_MISSED (setBits (s.fld STW.WDOG_STATE_MISSED) k 1 0)) k s.ck)) ∧
  (∀ (k : Fin 4) (s : State), bit (s.fld STW.WDOG_CTRL_ARMED) k = true →
    (let u := s.upTo (s.pwr.wdogCk.toList.getD k 0 + s.fld STW.WDOG_CTRL_PERIOD * 1000 * s.ckPerUs)
     let w := wdogStart u k u.ck
     exec (.wdogPeriodExpire k) s = .next (
       if bit (w.fld STW.WDOG_STATE_MISSED) k then quench w ⟨5, 0, 0, 0⟩ []
       else raise .stw 0 4 (w.setFld STW.WDOG_STATE_MISSED (setBits (w.fld STW.WDOG_STATE_MISSED) k 1 1))))) ∧
  (∀ (v : BitVec 32) (s : State), bits v.toNat 2 8 ≠ 0 → bit v.toNat 14 = false → (bit v.toNat 0 && bit v.toNat 1) = false →
    exec (.pinCtrlWrite v) s = .next ((((((s.setFld PWR.PIN_CTRL_TICK_OUT_EN (bits v.toNat 0 1)).setFld PWR.PIN_CTRL_STROBE_EN
      (bits v.toNat 1 1)).setFld PWR.PIN_CTRL_TICK_W (bits v.toNat 2 8)).setFld PWR.PIN_CTRL_STROBE_SRC
      (bits v.toNat 10 2)).setFld PWR.PIN_CTRL_STROBE_CORE (bits v.toNat 12 2))))

/-- The Sprue's own operations complete (R187). With the waits satisfied in `t` and the consumes made in `u`: `NOP` does
nothing, `LOOP` enters its loop or passes over its body (R185), `PSET` sets the masked predicate bits and `PTEST` one of them
(R183, R184), `SEED` sets the job seed (R188), `TOKSET` the counters (R179), `PATLOAD` stores a good image, `PATFREE` frees a user
pattern (R196), `STOP` stops the stream and raises source 10. A word that comes as an answer (a remote or Ingot one, or HBM in locked
timing; log entry 101) is asked for first, and the operation runs once it is there. -/
def Obligations.SprueOperationsComplete : Prop :=
  ∀ (c : Core) (s t : State) (i : Iss),
    (let u := consume (t.modSpr c (fun p => { p with cur := none })) c i.desc
     let d := i.desc
     let asks := sprueAsks t d = true ∧ (findReq t c 6 i.seq).isNone = true
     let fed := sprueAsks t d = false ∨ ((findReq t c 6 i.seq).isSome = true ∧ fedAll t c 6 i.seq = true)
     let asked := fun n =>
       let v := (consume t c d).modSpr c (fun p => { p with cur := some { i with desc := { d with waits := [] } } })
       let v := modRun v c (fun r => { r with requesters := r.requesters.filter (fun q => q.eng != 6) })
       grantSlots (addReq v c (newReq 6 i.seq (sectorReqs d.reg0 0 (min n d.reg0.bytes) 0))) c
     (sprueReady s c 0 = some (i, t) → exec (.nop c) s = .next (sprueEnd u c i stOk 1 1)) ∧
     (sprueReady s c 1 = some (i, t) → bit d.param 0 = false → exec (.loop c) s = .next
       (if d.len0 = 0 then sprueEnd u c i stOk 1 (1 + d.len1) else sprueEnd (enterLoop u c d.len0 d.len1) c i stOk 1 1)) ∧
     (sprueReady s c 2 = some (i, t) → exec (.pset c) s = .next (sprueEnd (u.setReg SPR.PRED
       ((BitVec.ofNat 64 (u.reg SPR.PRED c) &&& ~~~(BitVec.ofNat 64 (d.len0 + d.len1 * 2 ^ 32))) |||
         (BitVec.ofNat 64 d.w38 &&& BitVec.ofNat 64 (d.len0 + d.len1 * 2 ^ 32))).toNat c) c i stOk 1 1)) ∧
     (sprueReady s c 1 = some (i, t) → bit d.param 0 = true → fed → exec (.loop c) s =
       (let w := firstWord u c i
        .next (if w.1 = 0 then sprueEnd w.2 c i stOk (wordTime u d) (1 + d.len1)
          else sprueEnd (enterLoop w.2 c w.1 d.len1) c i stOk (wordTime u d) 1))) ∧
     (sprueReady s c 1 = some (i, t) → bit d.param 0 = true → asks → exec (.loop c) s = .next (asked 4)) ∧
     (sprueReady s c 3 = some (i, t) → fed → exec (.ptest c) s =
       (let w := (firstWord u c i).1
        let v := (firstWord u c i).2
        .next (sprueEnd (v.setReg SPR.PRED (setBits (v.reg SPR.PRED c) (d.param % 64) 1 (b2n (w &&& d.len1 == d.len2))) c) c i stOk
          (wordTime u d) 1))) ∧
     (sprueReady s c 3 = some (i, t) → asks → exec (.ptest c) s = .next (asked 4)) ∧
     (sprueReady s c 4 = some (i, t) → exec (.seed c) s = .next (sprueEnd (u.setReg SPR.JOB_SEED d.w38 c) c i stOk 1 1)) ∧
     (sprueReady s c 5 = some (i, t) → exec (.tokset c) s = .next (sprueEnd
       ((List.range d.len1).foldl (fun s k => setToken s c (d.len0 % 4096 + k) s.ck (d.len2 % 2 ^ 16)) u) c i stOk
         (max 1 (ceilDiv d.len1 64)) 1)) ∧
     (sprueReady s c 6 = some (i, t) → (patIds s c (bits d.param 10 6)).any (patInUse s c) = false →
       patInUse s c (d.param % 1024) = false →
       (fed → (findReq u c 6 i.seq).any (fun q => q.got.any (fun x => x.2.bad != 0)) = false →
        (let n := fieldAt (sprueBytes u c i 32).1 2 1 + 1
         let r := sprueBytes u c i (0x20 + 32 * n)
         let v := dropReq r.2 c 6 i.seq
         signedOk u c r.1 = true → patImageOk (d.param % 1024) r.1 = true →
         exec (.patload c) s = .next (sprueEnd
           (patStore (patUnmap v c (d.param % 1024)) c (d.param % 1024) (bits d.param 10 6) r.1) c i stOk
           ((if sprueAsks u d then 0 else wordLatency v d.reg0.type) + n + 64) 1))) ∧
       (asks → exec (.patload c) s = .next (asked (0x20 + 32 * 256)))) ∧
     (sprueReady s c 7 = some (i, t) → patInUse s c (d.param % 1024) = false → exec (.patfree c) s = .next
       (sprueEnd (if 256 ≤ d.param % 1024 then patUnmap u c (d.param % 1024) else u) c i stOk 1 1)) ∧
     (sprueReady s c 8 = some (i, t) → exec (.stop c) s = .next (sprueEnd
       (raise .spr c 10 ((u.setFld SPR.STATE_STREAM stStopped c).setFld SPR.CTRL_RUN 0 c)) c i stOk 1 1)))

/-- The commands of a descriptor stream complete: a group of descriptors enters the window (R169), the window's head issues
(R170), a queue's head is released and completes (R172), the host's writes act at once in open timing (R168, R179, R180, R183), a
signal in transit is delivered, the stream starts, stops and resumes (R189, R190), and a block without progress raises source 3. -/
def Obligations.SprueStreamCommandsComplete : Prop :=
  (∀ (c : Core) (s : State),
    (let w := (s.core c).spr.window
     let a := (s.reg SPR.RING_HEAD c + w.length) % ringSize s c
     let n := min 8 (ringDist s c a (s.reg SPR.RING_TAIL c))
     ∀ (e : WinEnt) (w' : List WinEnt), streamOn s c = true → w.length + 8 ≤ 64 → 0 < n →
     ((fetchGroup s c n a).core c).spr.window = e :: w' → e.bad = false →
     exec (.descFetch c) s = .next (fetchGroup s c n a))) ∧
  (∀ (c : Core) (s : State) (e : WinEnt) (w : List WinEnt), streamOn s c = true → (s.core c).spr.cur = none →
    (s.idleFrame = false ∨ (e.desc.engine ≠ 0 ∧ (s.core c).spr.passHead = false)) →
    (s.core c).spr.window = e :: w → e.bad = false → (s.core c).spr.passHead || !issueHeld s c e.desc →
    exec (.descIssue c) s = .next (issueHead (s.setFld SPR.STATE_Q_FULL 0 c) c e)) ∧
  (∀ (c : Core) (q : EngQ) (s t : State) (i : Iss) (r : List Iss), (s.eng c q).queue = i :: r → s.quenched = false →
    s.idleFrame = false → (i.stale && i.desc.onStale) = false → (waitsFrom s c i.desc).bind (fun u => waitsFrom (u.upTo (engineFree s c q)) c i.desc) = some t → i.skip = false →
    firstCall (covProgress t c) c q i = true → accepts (covProgress t c) c q i = true →
    exec (.descRelease c q) s = .next (release (covProgress t c) c q i)) ∧
  (∀ (c : Core) (q : EngQ) (s : State) (i : Iss) (r : List Iss) (f : Fin'), (s.eng c q).run = i :: r →
    (s.eng c q).fin.find? (fun f => f.iss.seq == i.seq) = some f → writesDone s c i = true →
    exec (.descComplete c q) s = .next (complete
      (modEng s c q (fun e => { e with run := r, fin := e.fin.filter (fun f => f.iss.seq != i.seq) })) c f)) ∧
  (∀ (c : Core) (s : State), s.pageState .spr c ≠ pgQuenched → s.locked = false →
    (∀ v, exec (.ringTailWrite c v) s = .next (applyRingTail s c v.toNat)) ∧
    (∀ t, exec (.tokSignal c t) s = .next (applySignal s c t.toNat s.ck)) ∧
    (∀ v, exec (.tokData c v) s = .next (setToken s c (s.fld SPR.TOK_ADDR_A c) s.ck v.toNat)) ∧
    (∀ v, exec (.predWrite c v) s = .next (s.setReg SPR.PRED v.toNat c))) ∧
  (∀ (c : Core) (s : State) (t id : Nat) (r : List (Nat × Nat)), (s.core c).spr.sigDue = (t, id) :: r →
    exec (.tokenSignalDeliver c) s = .next
      (signalToken ((s.modSpr c (fun p => { p with sigDue := r })).upTo t) c id (max s.ck t))) ∧
  (∀ (c : Core) (s : State), s.stream c ≠ stQuenched → s.pageOn .spr c = true →
    (s.stream c = stIdle ∨ s.stream c = stStopped) → ringOk s c = true → exec (.sprCtrlRun c true) s = .next
      (askStart ((s.setFld SPR.CTRL_RUN 1 c).modSpr c (fun p => { p with window := [], passHead := false })) c)) ∧
  (∀ (c : Core) (m : Bool) (s : State), s.pageState .spr c ≠ pgQuenched →
    (let u := s.setFld SPR.CTRL_RESUME_MODE (b2n m) c
     u.stream c = stHalted →
     (let v := u.modSpr c (fun p => { p with window := [], cur := none, curStatus := 0, passHead := m })
      exec (.sprCtrlResume c m) s = .next (if v.flag SPR.CTRL_RUN c then askStart v c else v.setFld SPR.STATE_STREAM stIdle c)))) ∧
  (∀ (w : Watch) (s : State) (t : Nat), watchFrom s w = some t → exec (.noProgressTimeout w) s = .next
    (raise (watchLimit s w).1 (watchLimit s w).2.1 3 (s.upTo (t + (watchLimit s w).2.2))))

/-- The commands of the Mould's array complete (R65, R70, R71): a released `MATMUL` becomes a job and asks for the array and its
operands, its rows supplied by the built-in sequencing or by a Mould-feed pattern (R198); a ramp descriptor completes once the array is where it asks for; a ramp ends 1,024 ck after its grant; a descriptor
past its replay budget, or a core past its slack, is settled (R79, R216). -/
def Obligations.MouldArrayCommandsComplete : Prop :=
  (∀ (c : Core) (s : State) (i : Iss),
    (s.eng c .mould).busy.find? (fun i => i.desc.op == 1 && (findJob s c i.seq).isNone) = some i →
    (i.desc.pattern = 0 → exec (.matmul c) s = .next (startJob s c { iss := i })) ∧
    (∀ p : PRun, i.desc.pattern ≠ 0 → runPattern s c i (fun _ => false) feedCk = some p → p.err = none →
      exec (.matmul c) s = .next (startJob (patEnd p.s c i p) c { iss := i, feed := p.feed }))) ∧
  (∀ (c : Core) (s : State) (i : Iss), mouldHead s c = some i → i.desc.op = 2 → exec (.rampUp c) s = .next
    (if array s c = arWarm then finishDesc s c .mould i stOk {} 0 (max s.ck i.relCk) else wantRamp s c)) ∧
  (∀ (c : Core) (s : State) (i : Iss), mouldHead s c = some i → i.desc.op = 3 →
    (array s c = arCold → exec (.rampDown c) s = .next (finishDesc s c .mould i stOk {} 0 (max s.ck i.relCk))) ∧
    (array s c = arWarm → (s.mld c).stream = none → exec (.rampDown c) s = .next (startDown (s.upTo (s.mld c).freeCk) c))) ∧
  (∀ (c : Core) (s : State), array s c = arUp → exec (.mldArrayWarm c) s = .next
    (modMld ((s.upTo ((s.mld c).rampCk + 1024)).setFld MLD.STATE_ARRAY arWarm c) c
      (fun m => { m with idleFrom := ((s.upTo ((s.mld c).rampCk + 1024)).mld c).rampCk + 1024 }))) ∧
  (∀ (c : Core) (s : State), array s c = arDown →
    (let t := (s.upTo ((s.mld c).rampCk + 1024)).setFld MLD.STATE_ARRAY arCold c
     mouldHead t c = none → exec (.mldArrayCold c) s = .next t)) ∧
  (∀ (c : Core) (s : State), array s c = arWarm → s.flag MLD.CTRL_RAMP_HOLD c = false → (s.eng c .mould).queue = [] →
    mouldHead s c = none → (s.mld c).stream = none → exec (.mldIdleGateExpire c) s = .next
      (startDown (s.upTo ((s.mld c).idleFrom + s.fld MLD.CTRL_IDLE_GATE c * 256)) c)) ∧
  (∀ (c : Core) (s : State) (q t : Nat) (r : List (Nat × Nat)), (s.mld c).budgetDue = (q, t) :: r →
    exec (.replayBudgetExceeded c) s = .next (settleReplay (s.upTo t) c t)) ∧
  (∀ (c : Core) (s : State) (t q : Nat), slackDue s c = some (t, q) →
    exec (.slackExceeded c) s = .next (settleReplay (s.upTo t) c t))

/-- The commands of a Mould stream complete: a good operand tile is staged, a corrected word of it reported, and an uncorrectable
one ends the descriptor (R82, R83); a B set is loaded in 528 ck behind the previous stream's start, and one that passes its parity
check is ready (R69, R84); a stream starts once its load has ended and its half is free, and no mark is due before; a stream that
ends makes the marks due by then, and the marked tiles are replayed (R75); a mark is made F ck after its row (R74). -/
def Obligations.MouldStreamCommandsComplete : Prop :=
  (∀ (c : Core) (s : State) (seq e : Nat) (t : OpTile) (r : List (Nat × OpTile × Nat × Bool)) (j : MJob),
    (s.mld c).inq = (seq, t, e, false) :: r →
    (let u := modMld s c (fun m => { m with inq := r })
     findJob u c seq = some j →
     (e = 2 → exec (.mldOperandTileArrive c) s = .next (operandFails u c seq stOpUnc 2)) ∧
     (let v := if e = 1 then raiseFor .mld c 1 0 seq (modJob u c seq (fun j => { j with eccCorr := true })) else u
      e ≤ 1 → v.injFails MLD.INJ_OPND_CRC1 MLD.INJ_OPND_CRC2 c = (0, v) → tileGood t.payload t.side = true →
      exec (.mldOperandTileArrive c) s = .next (stageTile v c j t)))) ∧
  (∀ (c : Core) (s : State) (j : MJob) (x : MSet), nextJob s c = some j → j.nextSet = some x → (s.mld c).load = none →
    j.failed = false → setPresent j x 1 = true → exec (.mldLoadStart c) s =
      (let t0 := max j.iss.relCk (s.mld c).lastStart
       let u := (s.upTo t0).wrapAdd MLD.OPND_STALL_CK ((s.upTo t0).ck - t0) c
       .next (modMld u c (fun m => { m with
         load := some { seq := j.iss.seq, round := j.round, set := j.set, startCk := u.ck, endCk := u.ck + 528 } })))) ∧
  (∀ (c : Core) (s : State) (l : MLoad), (s.mld c).load = some l → l.done = false →
    (s.upTo l.endCk).armed MLD.INJ_STAT_PAR c = false → exec (.mldLoadEnd c) s =
      .next (modMld (s.upTo l.endCk) c (fun m => { m with load := some { l with done := true } }))) ∧
  (∀ (c : Core) (s : State) (j : MJob) (x : MSet), nextJob s c = some j → j.nextSet = some x → canStream s c j x = true →
    (let h := nextHalf s c
     let floor := max (s.mld c).freeCk j.iss.relCk
     let t := max (max floor (((s.mld c).load.map MLoad.endCk).getD 0))
       (if j.set = 0 then (if h = 0 then (s.mld c).halfFree.1 else (s.mld c).halfFree.2) else 0)
     (∀ m, firstMark s c = some m → t ≤ m.1) →
     exec (.mldStreamStart c) s = .next (startStream c (s.upTo t) j x h floor))) ∧
  (∀ (c : Core) (s : State) (seq b e : Nat), (s.mld c).stream = some (seq, b, e) →
    (let u := settleReplay (s.upTo e) c e
     let u := modMld u c (fun m => { m with stream := none, freeCk := e, idleFrom := e })
     let u := modJob u c seq (fun j => { j with live := j.live.map (fun r =>
       if r.endCk.isNone && decide (r.round < j.round) then { r with endCk := some e } else r) })
     let u := match findJob u c seq with
       | some j => if j.replayEn then u else consumeTiles u c seq
       | none => u
     let qs := (u.mld c).jobs.map (fun j => j.iss.seq)
     let u := qs.foldl (fun s q => makeMarks s c q e) u
     let u := qs.foldl (fun s q => if (findJob s c q).any MJob.failed then abandonJob s c q else s) u
     exec (.mldStreamEnd c) s = .next (qs.foldl (fun s q => replayAll 64 s c q (max e (s.mld c).freeCk)) u))) ∧
  (∀ (c : Core) (s : State) (t seq : Nat), firstMark s c = some (t, seq) →
    (∀ q b e, (s.mld c).stream = some (q, b, e) → t ≤ e →
      exec (.accOverflowMark c) s = .next (makeMarks (s.upTo t) c seq t)) ∧
    ((s.mld c).stream = none → exec (.accOverflowMark c) s =
      .next (replayAll 64 (makeMarks (s.upTo t) c seq t) c seq (max t ((makeMarks (s.upTo t) c seq t).mld c).freeCk))))

/-- The commands of a round complete: F = 80 ck after its last stream a round with no mark left completes, and its half waits for
its drain or, under `DRAIN_HOLD`, is held with its shifts shown (R66, R67, R77); the drain of the oldest round that waits starts
once the one before has ended and takes D ck (R68); at its end the round's tiles are converted and written, its half is free, and a
descriptor with nothing left ends (R67). -/
def Obligations.MouldDrainCommandsComplete : Prop :=
  (∀ (c : Core) (s : State) (j : MJob) (r : MRound) (rest : List MRound),
    (s.mld c).jobs.find? MJob.roundReady = some j → j.live = r :: rest →
    (let t := r.endCk.getD 0 + 80
     let u := settleReplay (s.upTo t) c (s.upTo t).ck
     let u := modJob u c j.iss.seq (fun k => { k with
       live := rest, rounds := k.rounds + 1, streamed := r.round + 1 == j.geo.rounds,
       undrained := k.undrained + (if k.d.drainHold then 0 else 1) })
     let u := if j.replayEn then consumeTiles u c j.iss.seq else u
     let u := if ((u.mld c).jobs.flatMap MJob.live).isEmpty then u.setFld MLD.STATE_ACTIVE_HALF (1 - r.half) c else u
     (j.d.drainHold = false → exec (.mldRoundComplete c) s = .next (modMld (setHalf u c r.half 2) c (fun m => { m with
       drains := m.drains ++ [{ seq := j.iss.seq, half := r.half, tiles := r.tiles, ready := t }] }))) ∧
     (j.d.drainHold = true → exec (.mldRoundComplete c) s =
       (let h := some (if bit j.d.param 22 then 1 else 0, r.tiles)
        .next (mouldTryFinish (modMld (writeShifts (holdHalf u c r.half) c r.half r.tiles) c (fun m => { m with
          held := if r.half = 0 then (h, m.held.2) else (m.held.1, h) })) c j.iss.seq))))) ∧
  (∀ (c : Core) (s : State) (x : MDrain) (rest : List MDrain) (j : MJob), (s.mld c).drains = x :: rest → x.endCk = none →
    findJob s c x.seq = some j →
    (let u := s.upTo (max x.ready (s.mld c).drainFree)
     u.armed MLD.INJ_ACC_UE c = false → exec (.mldDrainStart c) s = .next (modMld u c (fun m => { m with
       drains := { x with endCk := some (u.ck + drainTime u c j.d x.tiles), skip := none } :: rest,
       drainFree := u.ck + drainTime u c j.d x.tiles })))) ∧
  (∀ (c : Core) (s : State) (x : MDrain) (rest : List MDrain) (j : MJob) (e : Nat), (s.mld c).drains = x :: rest →
    x.endCk = some e → findJob s c x.seq = some j → exec (.mldDrainEnd c) s = .next (mouldTryFinish
      (modJob (freeHalf (modMld (writeRound (s.upTo e) c j (x.tiles.filter (fun t => some t.idx != x.skip))) c
        (fun m => { m with drains := rest })) c x.half) c x.seq (fun j => { j with undrained := j.undrained - 1 })) c x.seq))

/-- The Assay's commands complete: a `COV` accumulates the rows captured so far and ends 64 ck after the last row, with its count
(R92, R95, R97), or at once where no row comes; an `EXPORT` writes its images and clears what it is asked to (R98), a `BLEND` granted
the port does its next entry (R99, R133), `SQNORM` writes its sum (R103), `NOISE` updates the estimates, or rejects a record with
bad counts with source 6 (R104). -/
def Obligations.AssayCommandsComplete : Prop :=
  (∀ (c : Core) (s : State) (i : Iss) (p : Pair), asyHead s c 1 = some i →
    (s.asy c).pairs.find? (fun p => p.cov.seq == i.seq) = some p →
    (p.noRows = true → exec (.cov c) s = .next (asyFinish (covDrop s c p) c i (if p.past then stBounds else stOk) {}
      (asyWord 0 0 0 false false p.waited) 0 (max s.ck i.relCk))) ∧
    (p.noRows = false → s.armed ASY.INJ_CAP_UE c = false →
      (p.full = false → exec (.cov c) s = .next (covProgress s c)) ∧
      (let u := covTake c i.seq (s.ck + 2 ^ 64) i p.rows.length s
       ∀ q : Pair, p.full = true → (u.asy c).pairs.find? (fun p => p.cov.seq == i.seq) = some q →
         exec (.cov c) s = .next (asyFinish (covDrop (u.upTo q.accCk) c q) c i stOk q.flags
           (asyWord ((p.rows.filter (fun r => r.2.1 == 0)).length) 0 0 false false p.waited)
           (q.rows.foldl (fun n r => n + rowCost i.desc.blk q.kLen r.2.1) 64)
           (max (max q.accCk q.lastCk) i.relCk + 64))))) ∧
  (∀ (c : Core) (s : State) (i : Iss), asyHead s c 2 = some i →
    (let d := i.desc
     let b := d.blk
     let r := (List.range d.len0).foldl (fun (x : State × Flags) j =>
       let u := d.slotBase + j * blkUnits b
       let img := blockImage x.1 c u b
       let s := writeImage x.1 c i.seq d.reg2 (j * (b * b / 4096)) (asyHdr x.1 c b) img
       (if bit d.param 25 then clearUnits s c u (blkUnits b) else s,
        img.foldl (fun (a : Flags) e => a.join (decodeFloat .fp32 e).seen) x.2)) (s, {})
     let t := ceilDiv (d.len0 * (b * b / 4096) * 16384) (wrRate r.1 c) + 64
     exec (.asyExport c) s = .next (asyFinish r.1 c i stOk r.2 (asyWord 0 0 0 false false false) t (max r.1.ck i.relCk + t)))) ∧
  (∀ (c : Core) (s : State) (i : Iss), asyHead s c 3 = some i →
    (let p := s.port c
     let t := if p.lastAsy && p.asyWait.isNone then max s.ck p.busyUntil else s.ck
     let u := portNow (modPort { s with ck := t } c (fun q =>
       if q.asyGrant then q else { q with asyWait := some (q.asyWait.getD t) })) c
     (u.port c).asyGrant = true → exec (.blend c) s = .next
       (blendStep (modPort u c (fun q => { q with asyGrant := false })) c i (((s.asy c).blend).getD { seq := i.seq })))) ∧
  (∀ (c : Core) (s : State) (i : Iss), asyHead s c 4 = some i →
    (let d := i.desc
     let f := fmtOf d.fmt0
     let g := if bit d.param 26 then ASY.NS_GLOBAL else ASY.NS_LOCAL
     let r := (List.range (ceilDiv d.len0 f.perTile)).foldl (fun (x : Nat × Flags) k =>
       let q := peekTile s (d.reg0.feed c 2 i.seq false) (d.reg0.addr (k * 16384) / 16384)
       ((List.range (min f.perTile (d.len0 - k * f.perTile))).map (fun j =>
         scaleVal f (fieldAt q.2 (64 + j / 32) 1) (if f.scaled then fieldAt q.2 8 4 else coarseOne)
           (decodeElem f 0 (elemBits f q.1 j)))).foldl (addSquare f) x) (if bit d.param 25 then 0 else s.reg g c, {})
     let u := s.setReg g r.1 c
     let v := if d.reg2.bytes = 0 then u else storeRegion u c i.seq d.reg2 (d.reg2.place c false) 0 (leBytes 8 r.1)
     let t := ceilDiv d.len0 128 + 64
     exec (.sqnorm c) s = .next (asyFinish v c i stOk r.2 (asyWord d.len0 0 0 false false false) t (engineEnd v c 2 i t)))) ∧
  (∀ (c : Core) (s : State) (i : Iss), asyHead s c 5 = some i →
    (let r := readRegion s i.desc.reg0 (i.desc.reg0.feed c 2 i.seq false) 0 32
     let u := r.2.2
     let v := fun k => decodeFloat .wa64 (fieldAt r.1 (8 * k) 8)
     let good := (v 0).isFin && (v 1).isFin && posInt (v 2) && posInt (v 3) && (v 2).lt (v 3)
     let seen := (List.range 4).foldl (fun (a : Flags) k => a.join (v k).seen) {}
     (good = false → exec (.noise c) s = .next (asyFinish (raiseFor .asy c 6 stBadCount i.seq u) c i stBadCount seen
       (asyWord 0 0 0 false false false) 1 (engineEnd u c 2 i 1))) ∧
     (good = true → u.flag ASY.CTRL_NS_FREEZE c = true → ∃ fl, exec (.noise c) s = .next
       (asyFinish (u.setReg ASY.NS_UPDATES (satN 32 (u.reg ASY.NS_UPDATES c + 1)) c) c i stOk fl
         (asyWord 0 0 0 false false false) 1 (engineEnd u c 2 i 1))) ∧
     (good = true → u.flag ASY.CTRL_NS_FREEZE c = false → ∃ (w : State) (fl : Flags) (st : Nat), (st = stOk ∨ st = stNoiseInvalid) ∧
       exec (.noise c) s = .next (asyFinish w c i st fl (asyWord 0 0 0 false false false) 1 (engineEnd u c 2 i 1))))) ∧
  (∀ (c : Core) (v : BitVec 32) (s : State), s.pageState .asy c ≠ pgQuenched →
    exec (.asyNsUpdatesWrite c v) s = .next (s.setReg ASY.NS_UPDATES v.toNat c)) ∧
  (∀ (c : Core) (s : State), exec (.storePortGrant c) s = .next (portNow (s.upTo (s.port c).busyUntil) c))

/-- The Crucible's solves complete (R117 to R123): the problems in hand are computed from their snapshots, their results and statuses
wait in the scratch context for publication, and the step is applied. -/
def Obligations.CrucibleSolvesComplete : Prop :=
  ∀ (c : Core) (s : State) (st : CStep) (x : CCtx),
    (let u := catchReads s c
     (u.cru c).step = some st → ctxOf u c st.hi = some x → st.applied = false → st.accs.any (fun a => a.snap.isSome) = false →
     (∀ k ∈ [(Instr.chol c, opChol), (.ldl c, opLdl), (.inv c, opInv), (.iroot c, opIroot), (.root c, opRoot), (.orth c, opOrth)],
       x.iss.desc.op = k.2 → u.armed CRU.INJ_PIVOT c = false → ∀ p : CProb, x.group = [p] → p.skip = false →
       (let r := computeProb x.iss.desc false (mtKind (mtab u c p.srcId)) p
        let v := modCtx (u.bump CRU.SAT_COUNT r.sat c) c st.hi (fun y => { y with flags := y.flags.join (satFlags r.sat) })
        exec k.1 s = .next (modStep (modCtx v c st.hi (fun y => { y with group := [{ p with
          result := some r.w, shift := r.shift, dshift := r.dshift, st := solvedBits x.iss.desc r }] })) c
            (fun z => { z with applied := true })))) ∧
     (x.iss.desc.op = opTrsm →
       x.group.all (fun p => p.skip || tilesFed u c x.iss.seq x.iss.desc.reg0
         (elemTiles (fmtOf x.iss.desc.fmt0) (p.idx * (x.iss.desc.cruN * x.iss.desc.rhs)) (x.iss.desc.cruN * x.iss.desc.rhs))) = true →
       exec (.trsm c) s = .next (modStep (x.group.foldl (fun s p =>
         if p.skip || (ctxOf s c st.hi).any CCtx.ended then s else trsmProb s c st.hi x.iss p) u) c
           (fun z => { z with applied := true }))))

/-- The Crucible's direct operations complete (R124 to R126): the next item of the step is carried out on the matrices its list entry
names, once its access to the store has begun (R133), and the step's other items follow. -/
def Obligations.CrucibleDirectOperationsComplete : Prop :=
  ∀ (c : Core) (s : State) (st z : CStep) (x y : CCtx), (s.cru c).step = some st → ctxOf s c st.hi = some y →
    (let u := if st.done + st.accs.length < st.quanta.length then s
       else portNow (s.upTo ((st.accs.head?.map (fun a => st.startCk + st.waited + a.off)).getD s.ck)) c
     (u.cru c).step = some z → ctxOf u c z.hi = some x → z.applied = false → z.done + z.accs.length < z.quanta.length →
     tilesFed u c x.iss.seq x.iss.desc.reg0 (importTiles u c x.iss (x.next + z.done)) = true →
     ∀ k ∈ [(Instr.damp c, 8), (.ema c, 9), (.delta c, 10), (.rescale c, 11), (.import c, 12), (.cruExport c, 13), (.define c, 14)],
       y.iss.desc.op = k.2 → x.iss.desc.op = k.2 →
       exec k.1 s = .next (runItems st.quanta.length (itemNext u c z x) c k.2))

/-- The Crucible's steps complete (R130, R131, R136): the high class goes first; a step that has been applied and has made its
accesses ends, its busy ck count and its results are published (R135); work that waited for the tick resumes 64 ck after it; the
deadlines of both classes and of the queued descriptors are judged. -/
def Obligations.CrucibleStepCommandsComplete : Prop :=
  (∀ (c : Core) (s : State), (s.cru c).step = none → s.pageOn .cru c = true → s.idleFrame = false →
    (s.cru c).resumeCk ≤ s.ck →
    (let h := ensureQuanta s c true
     let l := ensureQuanta s c false
     (nextStep h c true ≠ [] → exec (.cruStepStart c) s = .next (startStep (endWait h c s.ck) c true (nextStep h c true))) ∧
     (nextStep h c true = [] → nextStep l c false ≠ [] → exec (.cruStepStart c) s = .next
       (startStep (if classWaits h c true then beginWait l c else endWait l c s.ck) c false (nextStep l c false))))) ∧
  (∀ (c : Core) (s : State) (st z : CStep), (s.cru c).step = some st → st.applied = true →
    (let u := portNow (s.upTo st.endCk) c
     (u.cru c).step = some z → z.accs = [] → exec (.cruStepEnd c) s = .next
       (stepFinish (u.upTo (stepEnd u c z)) c { z with endCk := stepEnd u c z }))) ∧
  (∀ (c : Core) (s : State) (w : Nat),
    (let u := s.upTo (s.cru c).resumeCk
     (u.cru c).waitFrom = some w → w < (u.cru c).resumeCk → exec (.cruResume c) s = .next
       (showCru (modCru (u.wrapAdd CRU.FIT_WAIT_CK (u.ck - w) c) c (fun x => { x with waitFrom := none })) c))) ∧
  (∀ (c : Core) (s : State), exec (.cruDeadline c) s = .next
    (queueDeadline (queueDeadline (ctxDeadline (ctxDeadline s c false) c true) c .cruLow) c .cruHigh))

/-- The Ladle's element-wise operations complete (R147, R150, R151, R153): once its sources are read, each element of the result is
the exact value below of the elements of its sources a, b and (for a fused product) the old result c, converted to the result's
format; a masked element takes the fill σ15, or with `MKEEP` keeps what it holds. A result in a scaled format goes to whole
tiles with their scales (R477). -/
def Obligations.LadleElementOperationsComplete : Prop :=
  ∀ (c : Core) (s : State) (i : Iss), i.desc.len0 ≠ 0 →
    ∀ k ∈ ([(.load c, ldLoad, 0, false, fun v _ => v), (.store c, ldStore, 0, false, fun v _ => v),
        (.zero c, ldZero, 0, false, fun _ _ => [.fin false 0]),
        (.elemAdd c, ldElem, 0, false, fun v _ => [(v.getD 0 .nan).add (v.getD 1 .nan)]),
        (.elemSub c, ldElem, 1, false, fun v _ => [(v.getD 0 .nan).add (v.getD 1 .nan).neg]),
        (.elemMul c, ldElem, 2, false, fun v _ => [(v.getD 0 .nan).mul (v.getD 1 .nan)]),
        (.elemFma c, ldElem, 3, true, fun v _ => [((v.getD 0 .nan).mul (v.getD 1 .nan)).add (v.getD 2 .nan)]),
        (.elemMax c, ldElem, 4, false, fun v _ => [vmax (v.getD 0 .nan) (v.getD 1 .nan)]),
        (.elemMin c, ldElem, 5, false, fun v _ => [vmin (v.getD 0 .nan) (v.getD 1 .nan)]),
        (.elemAbs c, ldElem, 6, false, fun v _ => [(v.getD 0 .nan).abs]),
        (.elemNeg c, ldElem, 7, false, fun v _ => [(v.getD 0 .nan).neg]),
        (.elemCvt c, ldElem, 8, false, fun v _ => [v.getD 0 .nan]),
        (.elemSel c, ldElem, 9, false, fun v b => [if b then v.getD 0 .nan else v.getD 1 .nan])] :
          List (Instr × Nat × Nat × Bool × (List Val → Bool → List Val))),
      ldlHead s c k.2.1 k.2.2.1 = some i →
      (let d := i.desc
       let n := d.len0
       let f := fmtOf d.fmt2
       let w := if readsScalars d then readScalars s c i else ([], none, s)
       let srcs := List.range (ldlSources d) ++ (if k.2.2.2.1 then [2] else [])
       let step := stepSize d (f :: srcs.map (opndFmt w.2.2 c d))
       let steps := stepsAt i step (stepList w.2.2 c ((List.range (ldlSources d)).flatMap (fun k => opndAcc d k false) ++
         (if k.2.2.2.1 then opndAcc d 2 false else []) ++ tailAcc d f (elemBytes f 0)) n step 1 0)
       let r := srcs.foldl (fun (x : List LRead × State) k =>
         let y := readOpnd x.2 c i k 0 n steps; (x.1 ++ [y.1], y.2)) ([], w.2.2)
       let t := r.2
       let hid := masked t c d
       let out := fun (e : Nat) => k.2.2.2.2 (r.1.map (fun x => x.vals.getD e .nan)) (bit (kReg t c d.msel) (e % 512))
       w.2.1 = none → r.1.all (fun x => x.bad.isNone) = true →
       ∃ p : LRep, p.errs = [] ∧ p.released = false ∧ p.masked = ((List.range n).filter hid).length ∧
        p.retry = (r.1.any (fun x => x.retry) || fedRetry t c 4 i.seq) ∧
        (f.scaled = false → exec k.1 s = .next (ldlFinish (scramble (deliver t c i f ((List.range n).map (fun e =>
          if hid e then (if d.mkeep then none else some (fillRes i w.1 f e, {}))
          else some (convert f d.frac (ldlRnd i 3 (d.aux16 % 2 ^ 12) e) ((out e).getD 0 .nan)))) steps) c (resRegs d n) []) c i p)) ∧
        (∀ (reg : Region) (loc : Bool) (code : Nat), f.scaled = true → ldlOpnd d 2 = .mem reg loc code →
          exec k.1 s = .next (ldlFinish (scramble (storeScaled t c d reg loc f (fun e => ldlRnd i 3 (d.aux16 % 2 ^ 12) e)
            ((List.range n).map (fun e => if hid e then sigma w.1 15 else (out e).headD .nan)) hid).1 c [] []) c i p)))

/-- The Ladle's functions complete (R158): each element of the result is the function of the source's element, converted to the
result's format; the cosines of `SINCOS` follow its sines. -/
def Obligations.LadleFunctionsComplete : Prop :=
  ∀ (c : Core) (s : State) (i : Iss), i.desc.len0 ≠ 0 → (fmtOf i.desc.fmt2).scaled = false →
    ∀ k ∈ [(Instr.exp2 c, 0, 1, 2), (.log2 c, 1, 1, 3), (.rcp c, 2, 1, 2), (.rsqrt c, 3, 1, 2), (.tanh c, 4, 1, 5), (.erf c, 5, 1, 4),
        (.sincos c, 6, 2, 3)],
      ldlHead s c ldFunc k.2.1 = some i →
      (let d := i.desc
       let n := d.len0
       let outs := k.2.2.1
       let f := fmtOf d.fmt2
       let w := if readsScalars d then readScalars s c i else ([], none, s)
       let srcs := List.range (ldlSources d)
       let step := stepSize d (f :: srcs.map (opndFmt w.2.2 c d))
       let steps := stepsAt i step (stepList w.2.2 c (srcs.flatMap (fun k => opndAcc d k false) ++
         (List.range outs).flatMap (fun o => tailAcc d f (elemBytes f (o * n)))) n step k.2.2.2 0)
       let r := srcs.foldl (fun (x : List LRead × State) k =>
         let y := readOpnd x.2 c i k 0 n steps; (x.1 ++ [y.1], y.2)) ([], w.2.2)
       let t := r.2
       let hid := masked t c d
       let out := fun (e : Nat) => funcValue k.2.1 ((r.1.map (fun x => x.vals.getD e .nan)).getD 0 .nan)
       w.2.1 = none → r.1.all (fun x => x.bad.isNone) = true →
       ∃ p : LRep, p.errs = [] ∧ p.released = false ∧ p.masked = ((List.range n).filter hid).length ∧
        p.retry = (r.1.any (fun x => x.retry) || fedRetry t c 4 i.seq) ∧
        exec k.1 s = .next (ldlFinish (scramble (deliver t c i f ((List.range outs).flatMap (fun o => (List.range n).map (fun e =>
          if hid e then (if d.mkeep then none else some (fillRes i w.1 f (o * n + e), {}))
          else some (convert f d.frac (ldlRnd i 3 (d.aux16 % 2 ^ 12) (o * n + e)) ((out e).getD o .nan))))) steps) c
            (resRegs d (outs * n)) []) c i p))

/-- REDUCE_SUM, REDUCE_PROD, REDUCE_MAX, REDUCE_MIN, ARGMAX and ARGMIN complete (R154 to R157): the unmasked elements of each set
are reduced over a tree in the accumulator's format, the root is converted to the result's format, and indices follow for the
last two. -/
def Obligations.LadleReductionsComplete : Prop :=
  ∀ (c : Core) (s : State) (i : Iss), i.desc.len0 ≠ 0 →
    ∀ k ∈ [(Instr.reduceSum c, 0), (.reduceProd c, 1), (.reduceMax c, 2), (.reduceMin c, 3), (.argmax c, 4), (.argmin c, 5)],
      ldlHead s c ldReduce k.2 = some i →
      (let d := i.desc
       let n := d.len0
       let f := fmtOf d.fmt2
       let src := opndFmt s c d 0
       let step := stepSize d [src, f]
       let tail := if k.2 < 4 then [] else tailAcc d .q32 (ceilDiv (elemBytes f (ldlResCount d)) 16 * 16)
       let steps := stepsAt i step
         (stepList s c (opndAcc d 0 false) n step 1 0 (opndAcc d 2 true ++ tail) (redDone d (perReg src) n step))
       let r := (readOpnd s c i 0 0 n steps).1
       let t := (readOpnd s c i 0 0 n steps).2
       r.bad = none →
       (let hid := masked t c d
        let roots := (redSets d (perReg src) n).map (fun es => reduceSet k.2 d.racc
          (es.zipIdx.map (fun x => if hid x.1 then none
            else some (r.vals.getD x.1 .nan, if d.axis = 1 then x.1 % (8 * perReg src) / perReg src else x.2))))
        let rs := roots.map (fun r => (convert f d.frac .rne r.1.1, r))
        let u := deliver t c i f (rs.map (fun x => some (x.1.1, if x.2.2 then {} else x.1.2))) steps
        ∃ (v : State) (p : LRep) (keep : List Nat),
          exec k.1 s = .next (ldlFinish (scramble v c keep []) c i p) ∧ (k.2 < 4 → v = u) ∧
          (∀ r w, ¬ k.2 < 4 → ldlOpnd d 2 = .regs r w →
            v = writeRegs u c .q32 0 64 (r + ceilDiv roots.length (perReg f)) ((roots.map (fun r => r.1.2.1)).map some)) ∧
          (∀ r loc w, ¬ k.2 < 4 → ldlOpnd d 2 = .mem r loc w →
            v = writeTail u c d r loc .q32 (ceilDiv (elemBytes f roots.length) 16 * 16)
              ((roots.map (fun r => r.1.2.1)).flatMap (leBytes 4)) ((roots.map (fun r => r.1.2.1)).map (fun x => some (x, {})))) ∧
          p.errs = [] ∧ p.empties = (roots.filter (fun r => r.2)).length ∧ p.masked = ((List.range n).filter hid).length ∧
          p.retry = (r.retry || fedRetry t c 4 i.seq)))

/-- The Ladle's other operations complete: `MASKGEN` writes its masks from the scalar block (R159), `ACCREAD` delivers the held
half's values, or ends with `HALF_NOT_HELD` (R31, R161), a norm delivers each segment's values (R162), `OPT` writes momentum and
master (R163), and both report what their operands' reads met; a pattern runs to its end (R197). -/
def Obligations.LadleOtherOperationsComplete : Prop :=
  (∀ (c : Core) (s t : State) (i : Iss) (w : List Nat), ldlHead s c ldMaskgen 0 = some i → i.desc.len0 ≠ 0 →
    readScalars s c i = (w, none, t) → w.getD 0 0 + i.desc.len0 - 1 ≤ 16777215 → w.getD 1 0 + i.desc.seg - 1 ≤ 16777215 →
    (let d := i.desc
     let n := d.len0 * ceilDiv d.seg 512
     let u := (List.range n).foldl (fun s k => setK s c (d.kdst + k) ((List.range 512).foldl
       (fun v j => if maskBit w d.seg (k / ceilDiv d.seg 512) (k % ceilDiv d.seg 512) j then v + 2 ^ j else v) 0)) t
     exec (.maskgen c) s = .next (ldlFinish (scramble u c [] ((List.range n).map (· + d.kdst))) c i { time := (n, 0, 0) }))) ∧
  (∀ (c : Core) (s : State) (i : Iss), ldlHead s c ldAccread 0 = some i →
    (heldHalf s c = none → exec (.accread c) s = .next (ldlFinish (scramble s c (resRegs i.desc i.desc.len0) []) c i { errs := [0x52] })) ∧
    (∀ (h wa : Nat) (ts : List MTile), heldHalf s c = some (h, wa, ts) → readsScalars i.desc = false →
      i.desc.len0 ≤ (heldValues wa ts).length → i.desc.len0 ≠ 0 →
      (let d := i.desc
       let u := s.setFld LDL.STATE_ACCREAD 1 c
       let hid := masked u c d
       let f := fmtOf d.fmt2
       let step := stepSize d [f, if wa = 1 then .wa64 else .fp32]
       let l := stepList u c (opndAcc d 2 true) d.len0 step 1 512
       let rs : List Res := ((heldValues wa ts).take d.len0).zipIdx.map (fun x =>
         if hid x.2 then (if d.mkeep then none else some (fillRes i [] f x.2, {}))
         else
           let r := convert f d.frac (ldlRnd i 3 (d.aux16 % 2 ^ 12) x.2) x.1
           some (r.1, r.2.join x.1.seen))
       let v := scramble (deliver u c i f rs (stepsAt i step l)) c (resRegs d d.len0) []
       u.armed MLD.INJ_ACC_UE c = false → ∃ p : LRep, exec (.accread c) s = .next (ldlFinish
           (if d.rel then releaseHalf (v.upTo (i.relCk + (stepsTime l).1 + 56)) c h else v) c i p) ∧
         p.errs = [] ∧ p.released = d.rel ∧ p.masked = ((List.range d.len0).filter hid).length))) ∧
  (∀ (c : Core) (s : State) (i : Iss), i.desc.len0 ≠ 0 →
    ∀ k ∈ [(Instr.rmsnorm c, ldRms), (.layernorm c, ldLayer)], ldlHead s c k.2 0 = some i →
      (let d := i.desc
       let n := d.len0
       let f := fmtOf d.fmt2
       let w := readScalars s c i
       let step := stepSize d [f, opndFmt w.2.2 c d 0, opndFmt w.2.2 c d 1]
       let steps := stepsAt i step (stepList w.2.2 c (opndAcc d 0 false ++ opndAcc d 0 false ++ opndAcc d 1 false ++ opndAcc d 2 true) n step 2 0)
       let x := readOpnd w.2.2 c i 0 0 n steps
       let g := readOpnd x.2 c i 1 0 (opndCount d 1) steps
       let t := g.2
       let hid := masked t c d
       let bads := x.1.bad.toList ++ (g.1.bad.map (fun (b : Nat × Nat) => (0, b.2))).toList ++ (w.2.1.map (fun (st : Nat) => (0, st))).toList
       let m := cutAt n d.seg bads
       let out := (List.range (ceilDiv m d.seg)).flatMap (fun k =>
         let idx := (List.range (min d.seg (m - k * d.seg))).map (· + k * d.seg)
         (normSeg (i.desc.op == ldLayer) d.seg (idx.map (fun e => if hid e then none else some (x.1.vals.getD e .nan)))
           (fun j => g.1.vals.getD j .nan) (fun j => g.1.vals.getD (d.seg + j) .nan) (sigma w.1 0)).1)
       let rs : List Res := out.zipIdx.map (fun o => match o.1 with
         | none => if d.mkeep then none else some (fillRes i w.1 f o.2, {})
         | some v => some (convert f d.frac (ldlRnd i 3 (d.aux16 % 2 ^ 12) o.2) v))
       ∃ p : LRep, exec k.1 s = .next (ldlFinish (scramble (deliver t c i f rs steps) c (resRegs d n) []) c i p) ∧
         p.errs = bads.map Prod.snd ∧ p.masked = ((List.range m).filter hid).length ∧
         p.retry = (x.1.retry || g.1.retry || fedRetry (scramble (deliver t c i f rs steps) c (resRegs d n) []) c 4 i.seq))) ∧
  (∀ (c : Core) (s : State) (i : Iss), ldlHead s c ldOpt 0 = some i → i.desc.len0 ≠ 0 →
    (let d := i.desc
     let n := d.len0
     let f := fmtOf d.fmt2
     let w := readScalars s c i
     let copy := copyFmt w.1
     let step := stepSize d ([f, opndFmt w.2.2 c d 0, opndFmt w.2.2 c d 1] ++ copy.toList)
     let steps := stepsAt i step (stepList w.2.2 c (opndAcc d 0 false ++ opndAcc d 1 false ++ opndAcc d 2 false ++ opndAcc d 1 true ++
       opndAcc d 2 true ++ (copy.toList.flatMap (fun cf => tailAcc d cf (elemBytes f n)))) n step 1 0)
     let x := readOpnd w.2.2 c i 0 0 n steps
     let y := readOpnd x.2 c i 1 0 n steps
     let z := readOpnd y.2 c i 2 0 n steps
     let t := z.2
     let hid := masked t c d
     w.2.1 = none → x.1.bad = none → y.1.bad = none → z.1.bad = none →
     (let m1 := fun (e : Nat) => r32 (((sigma w.1 1).mul (y.1.vals.getD e .nan)).add (r32 ((sigma w.1 0).mul (x.1.vals.getD e .nan))).1)
      let w1 := fun (e : Nat) => convert f d.frac (ldlRnd i 3 (d.aux16 % 2 ^ 12) e)
        ((z.1.vals.getD e .nan).add ((sigma w.1 2).mul ((m1 e).1.add ((sigma w.1 3).mul (z.1.vals.getD e .nan)))).neg)
      let mRes : List Res := (List.range n).map (fun e =>
        if hid e then (if d.mkeep then none else some ((convFloat .fp32 .rne (sigma w.1 15)).1, {}))
        else some (convFloat .fp32 .rne (m1 e).1))
      let wRes : List Res := (List.range n).map (fun e =>
        if hid e then (if d.mkeep then none else some (fillRes i w.1 f e, {})) else some (w1 e))
      let v := match ldlOpnd d 1 with
        | .regs r _ => writeRegs t c .fp32 0 64 r (mRes.map (fun x => x.map Prod.fst))
        | .mem r loc _ => if loc then noteLdlW (writeMem t c d r loc .fp32 0 mRes) c r .fp32 n steps else writeMem t c d r loc .fp32 0 mRes
      let v := deliver v c i f wRes steps
      ∃ (u : State) (keep : List Nat) (p : LRep), exec (.opt c) s = .next (ldlFinish (scramble u c keep []) c i p) ∧
        (copy = none → u = v) ∧
        (∀ cf, copy = some cf → u = putCopy v c i f cf ((List.range n).map (fun e =>
          if hid e && d.mkeep then none
          else
            let q := convert cf d.frac (ldlRnd i 6 0 e) (decodeElem f d.frac (if hid e then fillRes i w.1 f e else (w1 e).1))
            some (q.1, if hid e then {} else q.2)))) ∧
        p.errs = [] ∧ p.masked = ((List.range n).filter hid).length))) ∧
  (∀ (c : Core) (s : State) (i : Iss) (p : PRun), ldlHead s c ldRun 0 = some i → i.desc.len0 ≠ 0 →
    runPattern s c i i.desc.loc (ladleCk c i) = some p → exec (.run c) s =
      (let u := patEnd p.s c i p
       let rel := i.desc.rel && p.rel && p.err.isNone
       let u := match (if rel then heldHalf u c else none) with
         | some (h, _) => releaseHalf (u.upTo (i.relCk + p.t + 56)) c h
         | none => u
       let r : LRep := { errs := if p.own then p.err.toList else [], masked := p.masked, flags := p.flags, empties := p.empties,
                         retry := p.retry, released := rel, time := (p.t, p.conflict, 0) }
       let u := ldlCount u c i r
       .next (finishDesc (dropReq u c 4 i.seq) c .ladle i (p.err.getD stOk) p.flags r.word (max u.ck (i.relCk + p.t + 56)))))

/-- The Runners' moves complete (R238, R239): tiles are copied as they are or converted, sectors and raw bytes copied, a value filled in,
rows gathered and scattered, entries allocated and invalidated; the earliest request due is delivered from its cache entry or
from its memory (R235, R243). -/
def Obligations.RunnerMovesComplete : Prop :=
  (∀ (c : Core) (s : State) (i : Iss) (q : Requester), i.desc.pattern = 0 →
    (let d := i.desc
     (runHead s c rnCopy = some (i, q) → d.tiles = true → exec (.copy c) s =
       (let x := if d.converts then copyConv c i q (moveProg s c i q) else copyTiles c i.seq d d.len0 0 q (moveProg s c i q)
        .next (runFinish x.2 c i x.1 (moveEnd x.2.s c i x.1 x.2.moved)))) ∧
     (runHead s c rnCopy = some (i, q) → d.tiles = false → d.rloc 0 = false → exec (.copy c) s =
       (let p := copyRaw c i.seq d (inOrder q) 0 (moveProg s c i q)
        .next (runFinish p c i q (moveEnd p.s c i q (ceilDiv (p.moved * 16) 16384))))) ∧
     (runHead s c rnFill = some (i, q) → d.all = false → exec (.fill c) s =
       (let unit := ceilDiv 16384 (if d.rloc 2 then 2048 else max 1 (wrRate s c))
        let x := (wholeChunks d.reg2 d.len0).foldl (fun (x : RProg × Nat) a =>
          (fillChunk c i x.1 x.2 a.1 a.2, x.2 + a.2)) ({ s := s, ck0 := i.relCk + 32, unit := unit }, 0)
        .next (runFinish x.1 c i q (runEndCk x.1.s c i q 0 (ceilDiv (x.1.moved * 16) 16384) unit)))) ∧
     (runHead s c rnFill = some (i, q) → d.all = true → s.locked = false → exec (.fillAll c) s =
       (let u : State := { s with tun := { s.tun with bytes := [], side := [], badWords := [] } }
        .next (runFinish { s := (u.setFld TUN.STATE_FILLING 0 0).setFld TUN.STATE_FILLING 0 1, moved := 2 ^ 27 } c i q
          (max s.ck (i.relCk + 56 + ceilDiv (147456 * s.ckPerUs) 1500))))) ∧
     (runHead s c rnCopy = some (i, q) → d.tiles = false → d.rloc 0 = true → exec (.copy c) s =
       (let b := localBytes (moveProg s c i q) c d.reg0 0 d.len0
        let p := if b.2.st = stOk then putBytes b.2 c i.seq d.reg2 (d.rloc 2) 0 b.1 else b.2
        let p := if p.st = stOk then { p with moved := d.len0 / 16 } else p
        .next (runFinish p c i q (moveEnd p.s c i q (ceilDiv (p.moved * 16) 16384))))) ∧
     (runHead s c rnGather = some (i, q) → exec (.gather c) s =
       (let t := if d.rloc 1 then 0 else reqCount d.reg1 0 (4 * d.len0)
        let x := indexList (sectorProg s c i q) c d q 0 t
        let p := if x.2.st = stOk then gatherRows c i q x.1 0 t x.2 else x.2
        .next (runFinish p c i q (sectorEnd p.s c i q (ceilDiv (p.moved * 16) 32))))) ∧
     (runHead s c rnScatter = some (i, q) →
       (let n := d.reg0.rowBytes
        let t := if d.rloc 0 then 0 else reqCount d.reg0 0 (d.len0 * n)
        let x := indexList (sectorProg s c i q) c d q t (t + (if d.rloc 1 then 0 else reqCount d.reg1 0 (4 * d.len0)))
        let y := if d.rloc 0 then localBytes x.2 c d.reg0 0 (d.len0 * n) else (gotBytes q 0 t, x.2)
        x.2.st = stOk → y.2.st = stOk → rangeConflict y.2.s d.reg0 (d.rloc 0) 0 (d.len0 * n) = false →
        (inOrder q).find? (fun x => decide (x.1 < t) && x.2.bad != 0) = none → exec (.scatter c) s =
        (let p := scatterRows c i y.1 (x.1.take d.len0) 0 y.2
         .next (runFinish p c i q (sectorEnd p.s c i q (ceilDiv (p.moved * 16) 32)))))) ∧
     (runHead s c rnPrefetch = some (i, q) → (inOrder q).find? (fun x => x.2.bad != 0) = none → exec (.prefetch c) s =
       (let n := (q.got.filter (fun x => x.2.bad == 0)).length
        .next (runFinish { s := s, moved := n, st := stOk } c i q (moveEnd s c i q n)))) ∧
     (runHead s c rnInval = some (i, q) → exec (.inval c) s =
       (let dev := if d.reg0.type = 3 then s.fld SPR.RDEV_DEST c d.reg0.dev + d.reg0.rtype * 2 ^ 17 else 0
        let u := (List.range d.len0).foldl (fun s j => invalidate s d.reg0.type dev (d.reg0.addr (j * 16384) / 16384)) s
        .next (runFinish { s := u, moved := d.len0 } c i q (runEndCk u c i q 0 0 0)))))) ∧
  (∀ (c : Core) (s : State) (f : Flight),
    (let s0 := settleHbm (hbmLeft s) s c
     dueFirst (s0.run c).flight = some f →
     (let s1 := s0.upTo (f.due.getD 0)
      let hit := f.cached.isSome && !f.fills
      let r := if hit then readTile s1 .tun (f.cached.getD 0) else localRead s1 f.req
      let b := acrossBridge r.2.2.2 c (if hit then tunDie (f.cached.getD 0 * 16384) else memCasting f.req.type f.req.addr) r.1
      let u := leaveEntry (landFlight b.2 c f) f b.1 r.2.1 true
      let u := if hit then modReq u c f.eng f.seq (fun q => { q with hit := true }) else u
      let u := arrive u c f.eng f.seq f.req b.1 r.2.1 r.2.2.1 0
      exec (.requestComplete c) s = .next (grantSlots
        (if f.req.type = 1 ∧ f.req.tile ∧ f.eng ≠ 0 then prefetchNext u c (f.req.addr / 16384) else u) c))))

/-- The commands that keep state over years complete: a record enters the tail with the next sequence number (R368), full pages and
the synchronous flush are programmed, a snapshot is appended (R369), the lifetime counters are saved (R365), a Riser block enters
the buffer, waits, or is dropped (R375 to R377), and the stream goes on to the flash and the host (R378, R380). -/
def Obligations.JournalAndRiserCommandsComplete : Prop :=
  (∀ (c : Core) (s : State) (i : Iss) (q : Requester), runHead s c rnJappend = some (i, q) → sourceStatus q = stOk →
    jnlRoom s = true → bit i.desc.param 0 = false → exec (.jappend c) s = .next (sweepFinish
      (jnlPush s (i.desc.len1 % 2 ^ 16) ((gotBytes q 0 q.total).take i.desc.len0) (c + 1) 0) c i q stOk 0)) ∧
  (∀ s : State, s.pageState .ing = pgOn → jnlInSram s = false →
    (4 ≤ s.jnl.tail.length → exec .journalPageProgram s = .next ((jnlProgram s).getD s)) ∧
    (s.jnl.syncFrame + s.fld ING.JNL_CTRL_SYNC_FRAMES ≤ s.frame → exec .journalSync s = .next ((jnlProgram s).getD s))) ∧
  (∀ s : State, s.pageState .ing = pgOn → s.fld ING.JNL_CTRL_SNAP_PAGES ≤ s.jnl.pagesSinceSnap →
    exec .snapshotAppend s = .next (freePages (jnlSnapshot s))) ∧
  (∀ s : State, ingRuns s = true → exec .lifeSave s =
    .next (lifeSave (s.upTo (s.lifeCk + s.fld ING.LIFE_CTRL_SAVE_MIN * 60 * ckPerS s)))) ∧
  (∀ (c : Core) (s : State) (i : Iss) (q : Requester), runHead s c rnRiser = some (i, q) → sourceStatus q = stOk →
    s.armed ING.JNL_INJ_RSR_FULL = false →
    (let d := i.desc
     let nt := d.reg0.bytes / 16384
     let e := d.len0 % 2 ^ 32
     let u := if bit d.param 1 ∧ ¬ s.riser.waits.any (fun w => w.1 == (c : Nat)) then modRiser s (fun x => { x with
         stepKey := s.flag ING.RSR_STATE_BROKEN, stepAll := true, blocks := 0, stepFrom := s.reg ING.RSR_SEQ, skip := false })
       else s
     let key := bit d.param 0 || e % max 1 (u.fld ING.RSR_CTRL_KEY_EVERY) == 0 || u.riser.stepKey
     let new := gotBytes q 0 nt
     let raw := riserData key new (gotBytes q nt q.total)
     let same := !key && raw.all (fun b => b == 0)
     let data := riserCode (raw.length + 1) [] raw
     (u.riser.skip = true → exec (.riser c) s = .next (sweepFinish u c i q stOk (2 * nt))) ∧
     (u.riser.skip = false →
      riserUsed u + ((if same then 0 else 32 + data.length) + (if bit d.param 2 then 48 else 0)) ≤ u.fld ING.RSR_BUF_SIZE * 2 ^ 20 →
      exec (.riser c) s =
      (let all := u.riser.stepAll && key
       let v := modRiser (riserUnwait u c) (fun x => { x with stepAll := all, blocks := x.blocks + 1 })
       let v := if same then v else riserPush v e d.len1 (if key then 0 else 1) new.length data all
       let v := if bit d.param 2 then
           modRiser (riserPush v e 0xFFFFFFFF 2 16 (leBytes 8 (v.reg COL.SW_SEAL) ++ leBytes 8 v.riser.blocks) all)
             (fun x => { x with endSeq := (e, v.reg ING.RSR_SEQ) })
         else v
       .next (sweepFinish (riserShow (riserTrim 4 v)) c i q stOk (2 * nt)))))) ∧
  (∀ (s : State) (c f : Nat) (i : Iss) (q : Requester),
    s.riser.waits.find? (fun w => decide (w.2 + s.fld ING.RSR_BUF_WAIT_FRAMES ≤ s.frame)) = some (c, f) →
    (let u := riserUnwait s c
     runHead u c rnRiser = some (i, q) → u.armed ING.JNL_INJ_RSR_FULL = false → exec .riserWaitTimeout s =
      (let v := modRiser u (fun x => { x with 
         buf := x.buf.filter (fun r => decide (r.sseq < x.stepFrom)), gap := true, stepAll := false, skip := true })
       .next (riserShow (sweepFinish (raise .ing 0 11 ((v.setFld ING.RSR_STATE_BROKEN 1).bump ING.RSR_DROPPED)) c i q
         stRiserDropped 0))))) ∧
  (∀ s : State, ingRuns s = true → exec .riserExport s =
    (let u := s.upTo (exportDue s)
     let u := if toIngot u then exportIngot u else u
     let v := if toHost u then exportHost u else u
     .next (riserShow (riserTrim v.riser.buf.length v)))) ∧
  (∀ s : State, toHost s = true → ingRuns s = true → s.riser.hostAck < s.riser.hostSent →
    s.riser.ackFrame + s.fld ING.RSR_BUF_RETX_FRAMES ≤ s.frame →
    exec .riserRetx s = .next (modRiser s (fun x => { x with hostSent := x.hostAck, ackFrame := s.frame }))) ∧
  (∀ (s t : State) (p : Nat) (m : Packet), s.quenched = false → takeKind s 0x30 = some (p, m, t) →
    bit m.word 25 = true → m.shost = true → m.src = t.fld ING.RSR_CTRL_HOST → t.riser.hostAck < fieldAt m.body 0 8 + 1 →
    exec .bulk s =
      (let u := modRiser t (fun x => { x with hostAck := fieldAt m.body 0 8 + 1, ackFrame := t.frame })
       .next (riserShow (riserTrim u.riser.buf.length u))))

/-- The collectives' commands complete (R326 to R332). -/
def Obligations.CollectiveCommandsComplete : Prop :=
  (∀ (c : Core) (s : State) (i : Iss) (q : Requester), runHead s c rnColl = some (i, q) →
    (let e := gent s (i.desc.param % 1024)
     (e.op = 0 → exec (.collAllReduce c) s = .next (doColl s c i q)) ∧
     (e.reserved = false → e.op = 1 → exec (.collReduceScatter c) s = .next (doColl s c i q)) ∧
     (e.reserved = false → e.op = 2 → exec (.collAllGather c) s = .next (doColl s c i q)) ∧
     (e.reserved = false → e.op = 3 → exec (.collBroadcast c) s = .next (doColl s c i q)) ∧
     (e.reserved = false → e.op = 4 → exec (.collReduceToRoot c) s = .next (doColl s c i q)) ∧
     (let r := collRun s (i.desc.param % 1024)
      let r' := { r with joined := r.joined ++ [((c : Nat), i.seq, [], ({} : Flags))] }
      e.reserved = false → e.op = 5 → r.joined.any (fun j => j.1 == (c : Nat)) = false →
      (collCores e c).all (fun k => r'.joined.any (fun j => j.1 == k)) = true → exec (.collFence c) s = .next
        (tryFence ((List.range e.n).foldl (fun s j => if j = e.pos then s else sendMsg s 0 0x21 (e.dev s j) false
          (i.desc.param % 1024 + newEpoch s (i.desc.param % 1024) * 2 ^ 16) []) s)
          { r' with own := some [], fence := r'.fence ++ [e.pos] })))) ∧
  (∀ (s t : State) (p j : Nat) (m : Packet), s.quenched = false → takeKind s 0x21 = some (p, m, t) →
    (gent t (bits m.word 0 10)).posOf t m.src = some j → exec .fence s = .next (tryFence t
      { collRun t (bits m.word 0 10) with fence := (collRun t (bits m.word 0 10)).fence ++ [j] })) ∧
  (∀ (s : State) (p j : Nat) (m : Packet), s.quenched = false →
    s.inbox.find? (fun x => x.2.mkind == 0x20 && x.2.tc == 1 && forMe s x.2) = some (p, m) →
    (let u : State := { s with inbox := s.inbox.erase (p, m) }
     let e := gent u (bits m.word 0 10)
     u.armed COL.INJ_STALE = false → e.valid = true → (bits m.word 16 16 + 2 ^ 16 - e.epoch) % 2 ^ 16 = 0 →
     e.posOf (freeFlits u p m) m.src = some j →
     exec .coll s = .next (takeChunk (freeFlits u p m) (bits m.word 0 10) e j m))) ∧
  (∀ (s : State) (x : Nat × Packet × Nat), s.col.held.find? (fun x => decide (x.2.2 + s.reg COL.HOLD_FRAMES < s.frame)) = some x →
    exec .collHoldTimeout s = .next (raise .col 0 6 ((freeFlits
      { s with col := { s.col with held := s.col.held.erase x } } x.1 x.2.1).bump COL.HELD_DROPPED))) ∧
  (∀ s : State, s.pageState .col ≠ pgQuenched → grpBusy s (s.reg COL.GRP_SEL) = false →
    (let g := s.reg COL.GRP_SEL
     let u := s.setFld COL.GRP_STATUS_BUSY 0
     exec .grpDefine s = .next (if (gent u g).valid then
       { u with col := { u.col with grpNext := sset 0 u.col.grpNext g (grpImage u) } } else setGroup u g (grpImage u)) ∧
     exec .grpFree s = .next { u with col := { u.col with
       grp := sset 0 u.col.grp g 0, grpNext := sset 0 u.col.grpNext g 0, drain := u.col.drain.erase g,
       runs := u.col.runs.filter (fun r => r.group != g) } }))

/-- The sweep's commands complete (R345 to R358). -/
def Obligations.SweepCommandsComplete : Prop :=
  (∀ s : State, s.pageState .col ≠ pgQuenched → exec .swCmdRelease s = .next (releaseGrad s) ∧
    exec .swCmdClearHold s = .next (s.setFld COL.SW_STATE_HELD 0)) ∧
  (∀ (c : Core) (s : State) (i : Iss) (q : Requester), runHead s c rnNcheck = some (i, q) → sourceStatus q = stOk →
    (let b := gotBytes q 0 q.total
     64 + 8 * (fieldAt b 0x14 4 % 2 ^ 16) + 8 * (fieldAt b 0x1C 4 % 2 ^ 16) ≤ b.length →
     (let v := verdictBits s b
      let r := putBytes { s := s } c i.seq i.desc.reg1 false 0
        (leBytes 4 (clipFactor (decodeFloat .wa64 (fieldAt b 0 8)) (decodeFloat .fp32 (fieldAt b 0x10 4))))
      let r := putBytes r c i.seq i.desc.reg2 false 0 (leBytes 4 (v + b2n (v == 0) * 2 ^ 31))
      exec (.ncheck c) s = .next (sweepFinish r.s c i q r.st (fieldAt b 0x1C 4 % 2 ^ 16))))) ∧
  (∀ (c : Core) (s : State) (i : Iss) (q : Requester) (e l : GEnt), runHead s c rnVote = some (i, q) → s.sweep.vote = none →
    sourceStatus q = stOk → flaskGrp s = some e → laneGrp s = some l →
    (let v : VoteSt := {
       core := c, seq := i.seq, e := i.desc.len0 % 2 ^ 32, a := i.desc.len1 % 2 ^ 16,
       deadline := i.frame + i.desc.aux16, verdict := leNat (gotBytes q 0 q.total) % 2 ^ 32 }
     exec (.vote c) s = .next (openVote ((((s.setReg COL.SW_EPOCH v.e).setReg COL.SW_ATTEMPT v.a).setFld COL.SW_STATE_VOTE 1).setFld
       COL.SW_STATE_RETAINED 1) v e))) ∧
  (∀ (s : State) (x : Nat × Packet), s.quenched = false →
    (let found := fun (ok : Nat → Bool) =>
       s.inbox.find? (fun x => x.2.mkind == 0x13 && x.2.tc == 0 && forMe s x.2 && ok (msgPhase x.2)) = some x
     let t := takeVote (freeFlits { s with inbox := s.inbox.erase x } x.1 x.2) x.2
     (found (fun p => p == 0) → exec .voteBallot s = .next t) ∧
     (found (fun p => p == 1) → exec .voteLaneVerdict s = .next t) ∧
     (found (fun p => p == 2) → exec .voteCommitDecision s = .next t) ∧
     (found (fun p => p == 3) → exec .voteAbortDecision s = .next t) ∧
     (found (fun p => decide (4 ≤ p)) → exec .voteCommitNotice s = .next t))) ∧
  (∀ (s : State) (v : VoteSt), s.sweep.vote = some v → v.word = none →
    (v.provisional = false → v.deadline ≤ s.frame → exec .voteDeadline s = .next
      ((modSweep s (fun x => { x with vote := some { v with provisional := true } })).setFld COL.SW_STATE_VOTE 3)) ∧
    (v.provisional = true → v.deadline + s.fld COL.SW_CTRL_GRACE ≤ s.frame →
      exec .voteGraceExpire s = .next (decide' s v 4))) ∧
  (∀ (c : Core) (s : State) (i : Iss) (q : Requester) (g : GEnt), runHead s c rnSeal = some (i, q) → sourceStatus q = stOk →
    bit i.desc.param 0 = true → bit i.desc.param 1 = false → i.desc.len1 = 0 →
    (sealGrp s).filter (fun g => decide (g.n ≤ 256)) = some g →
    (let nt := i.desc.reg0.bytes / 16384
     let e := i.desc.len0 % 2 ^ 32
     let pl := gotBytes q 0 nt
     let rec_ := gotBytes q nt q.total
     fieldAt rec_ 0x3C 4 = crc32c (slice rec_ 0 60) → fieldAt rec_ 0 4 = e → fieldAt rec_ 8 8 = crc64 pl →
     exec (.seal c) s =
      (let u := (modSweep s (fun x => { x with acc := crc64Init })).setReg COL.SW_NEXT_BLOCK 0
       .next (sweepFinish ((modSweep u (fun x => { x with acc := crc64Fold x.acc pl })).setReg COL.SW_NEXT_BLOCK 1) c i q stOk nt)))) ∧
  (∀ (s t : State) (p : Nat) (m : Packet), s.quenched = false → takeKind s 0x14 = some (p, m, t) →
    (let k := (fieldAt m.body 0 4, fieldAt m.body 4 2, fieldAt m.body 8 8)
     bits m.word 0 10 = t.fld COL.SW_SEAL_GRP_G → t.sweep.seals.contains k = false → exec .sealMessage s =
      (let u := modSweep t (fun x => { x with seals := x.seals.filter (fun y => !(y.1 == k.1 && y.2.1 == k.2.1)) ++ [k] })
       .next (if u.sweep.own.any (fun o => o.1 == k.1) then resolveSeals u else u)))) ∧
  (∀ (s : State) (a f b : Nat), s.sweep.own = some (a, f, b) → s.fld COL.SW_STATE_SEAL = 1 → s.sweep.missing = false →
    f + s.fld COL.SW_CTRL_SEAL_FRAMES < s.frame → exec .sealTimeout s =
      .next (raise .col 0 12 (modSweep s (fun x => { x with missing := true }))))

/-- The commands of routing complete (R311 to R322): a port with the right peer becomes ACTIVE, a packet moves on, a malformed one
is dropped with source 7, remote reads and writes are served and answered, responses end their request, and a request without a
response fails at its deadline with source 6. -/
def Obligations.RoutingCommandsComplete : Prop :=
  (∀ (p : Port) (s : State), s.port' p = ptUp → bit (s.reg ROUT.PORT_EN) p = true → s.quenched = false →
    s.flag ROUT.SELF_VALID = true → s.flag AVL.PEER_VALID p = true →
    (match expectedPeer s p with
      | none => s.flag AVL.PEER_HOST p
      | some d => !s.flag AVL.PEER_HOST p && s.fld AVL.PEER_ID p == d) = true →
    exec (.portActivate p) s = .next
      ((s.setFld AVL.STATE_PORT ptActive p).setReg ROUT.MISCABLED (setBits (s.reg ROUT.MISCABLED) p 1 0))) ∧
  (∀ (s t : State) (m : Packet), s.quenched = false → nextOwn s = some (m, t) → exec .packetRoute s = .next (moveOn t m true)) ∧
  (∀ (s : State) (p : Nat) (m : Packet), s.inbox.find? (fun x => forMe s x.2 && kindClass x.2.mkind != some x.2.tc) = some (p, m) →
    exec .badMsg s = .next (raise .rout 0 7 ((freeFlits { s with inbox := s.inbox.erase (p, m) } p m).bump ROUT.BAD_MSG))) ∧
  (∀ (s t : State) (p : Nat) (m : Packet), s.quenched = false → takeKind s 0x10 = some (p, m, t) →
    (let u := lateCheck t m.fstamp
     u.locked = false → exec .token s = .next (applySignal u (bits m.word 12 2) (bits m.word 0 12) u.ck))) ∧
  (∀ (s t : State) (p : Nat) (m : Packet), s.quenched = false → takeKind s 0x01 = some (p, m, t) →
    ¬ (p < 24 ∧ t.port' p = ptUp) →
    rqInside t (rqRtype m) (rqTile m) (rqAddr m) (rqLen m) = true → rdShape (rqTile m) (rqAddr m) (rqLen m) = true →
    exec .rdReq s =
      (let r := serveRead t (rqRtype m) (rqTile m) (rqAddr m) (rqLen m)
       .next (otherAccess r.2 (fabricOwner p) (if rqRtype m = 0 then .tun else .hbm) false (rqTile m) (rqAddr m)
         (if rqTile m then 16384 else rqLen m) r.2.ck (some (answerTo r.2 m 2 0x02 (m.word % 2 ^ 16) r.1))))) ∧
  (∀ (s t : State) (p : Nat) (m : Packet), s.quenched = false → takeKind s 0x03 = some (p, m, t) →
    (let u := lateCheck t m.fstamp
     let n := if rqTile m then 16384 else rqLen m
     rqInside u (rqRtype m) (rqTile m) (rqAddr m) n = true → rqLen m ≤ 18432 →
     (rqRtype m = 0 → inLanding u (rqAddr m) n = true) → exec .wr s =
      (let pl : Place := if rqRtype m = 0 then .tun else .hbm
       let v := if rqTile m then writeTile u pl (rqAddr m / 16384) (slice (rqData m) 0 16384) (slice (rqData m) 16384 2048)
         else writeChunks u pl (({ base := rqAddr m, rowBytes := n, rows := 1 } : Region).chunks (n + 1) 0 n) (rqData m)
       .next (otherAccess v (fabricOwner p) pl true (rqTile m) (rqAddr m) n v.ck
         (some (answerTo v m 2 0x04 (m.word % 2 ^ 16) [])))))) ∧
  (∀ (s t : State) (p : Nat) (m : Packet) (r : RemReq), takeKind s 0x02 = some (p, m, t) → answered t m false = some r →
    (let u := (injRemote (lateCheck t m.fstamp) r).2
     let v : State := { u with remote := u.remote.erase r }
     (injRemote (lateCheck t m.fstamp) r).1 = false →
     (4 ≤ r.core → exec .rdRsp s = .next
       { v with stwRsp := v.stwRsp ++ [(r.seq, 0, slice m.body (r.req.addr % 32) r.req.len)] }) ∧
     (∀ f, r.core < 4 → (v.run r.core).flight.find? (fun f => f.eng == r.eng && f.seq == r.seq && f.req == r.req && !f.done) = some f →
       exec .rdRsp s = .next (grantSlots (deliverRead v r.core f
         (if r.req.tile then { payload := slice m.body 0 16384, side := slice m.body 16384 2048, bad := 0 }
          else { payload := slice m.body (r.req.addr - r.req.addr / 32 * 32) r.req.len, side := [], bad := 0 }) none) r.core)))) ∧
  (∀ (s t : State) (p : Nat) (m : Packet) (r : RemReq), takeKind s 0x04 = some (p, m, t) → answered t m true = some r →
    (let u := (injRemote t r).2
     (injRemote t r).1 = false → r.core < 4 → exec .wrAck s =
      (let v : State := { u with remote := u.remote.erase r }
       .next (grantSlots (pumpWrites 64 (touchFin v r.core r.seq v.ck) r.core) r.core)))) ∧
  (∀ (s t : State) (p : Nat) (m : Packet) (r : RemReq), takeKind s 0x05 = some (p, m, t) →
    t.remote.find? (fun r => r.tag == m.word % 2 ^ 16) = some r →
    exec .errRsp s = .next (failRemote (injRemote t r).2 r (bits m.word 16 8))) ∧
  (∀ (s t : State) (p : Nat) (m : Packet) (r : RemReq), takeKind s 0x08 = some (p, m, t) →
    t.remote.find? (fun r => r.tag == m.word % 2 ^ 16 && decide (4 ≤ r.core)) = some r → exec .regRsp s = .next
      { t with remote := t.remote.erase r, stwRsp := t.stwRsp ++ [(r.seq, bits m.word 16 8, slice m.body 0 8)] }) ∧
  (∀ (s : State) (r : RemReq), firstDeadline s.remote = some r → exec .e2eTimeout s =
    .next (failRemote (raise .rout 0 6 ((s.upTo r.deadline).bump ROUT.E2E_LOST)) r 0xFD))

/-- The commands of a port's flits complete (R285 to R291, R395). -/
def Obligations.LinkFlitCommandsComplete : Prop :=
  (∀ (p : Port) (s : State), s.quenched = true → s.port' p ≠ ptOff → s.port' p ≠ ptEmpty → s.port' p ≠ ptFailed →
    exec (.flitTransmit p) s = .next (drive s p { kind := fkQuench, payload := quenchPayload s })) ∧
  (∀ (p : Port) (b : List Byte) (bs : List (List Byte)) (s : State), s.quenched = false → s.port' p = ptUp → s.pageOn .avl p = true →
    (let u := modLink s p (fun l =>
       if 15 ≤ l.slots then { l with slots := 0, share := min 16 (l.share + 1) } else { l with slots := l.slots + 1 })
     (u.link p).rp = none → (u.link p).replay.length < 4096 → (u.link p).tagDue = false → (u.link p).ctrl = b :: bs →
     exec (.flitTransmit p) s = .next (sendSeq (modLink u p (fun l => { l with ctrl := bs })) p
       { kind := fkCtrl, tc := 0, payload := b }))) ∧
  (∀ (p : Port) (raw : BitVec 2048) (s : State) (f : Flit), s.quenched = false → s.pageOn .avl p = true →
    s.port' p = ptUp ∨ s.port' p = ptActive → s.armed AVL.INJ_UNCORR p = false → s.armed AVL.INJ_LCRC p = false →
    (Flit.parse (leBytes 256 raw.toNat) = (f, true) → f.kind = fkIdle →
      exec (.flitReceive p raw false) s = .next (takeAck (s.wrapAdd AVL.RX_FLITS 1 p) p f)) ∧
    (Flit.parse (leBytes 256 raw.toNat) = (f, true) → f.kind = fkCtrl →
      exec (.flitReceive p raw false) s =
        .next (takeSeq (takeAck (s.wrapAdd AVL.RX_FLITS 1 p) p f) p f)) ∧
    (Flit.parse (leBytes 256 raw.toNat) = (f, false) →
      exec (.flitReceive p raw false) s = .next (askNak (s.bump AVL.CRC_ERR 1 p) p)) ∧
    exec (.flitReceive p raw true) s = .next (askNak (s.bump AVL.FEC_UNCORR_CW 1 p) p)) ∧
  (∀ (p : Port) (q : QSet) (s : State), s.quenched = false → s.pageOn .avl p = true → inService s p = true →
    exec (.quenchSetReceive p q) s =
      .next (takeQuenchSet s p q.dev.toNat q.cause.toNat q.count.toNat q.nonce.toNat q.frame.toNat)) ∧
  (∀ (p : Port) (s : State), (s.link p).nakIn = true → inService s p = true → s.quenched = false →
    (let u := modLink s p (fun l => { l with nakIn := false })
     ((s.link p).replay ≠ [] → exec (.linkReplay p 0) s =
       .next ((modLink u p (fun l => { l with rp := some 0 })).bump AVL.REPLAYS 1 p)) ∧
     exec (.linkReplay p 2) s = .next (leavePort (raise .avl p 2 u) p ptFailed))) ∧
  (∀ (p : Port) (s : State) (t : Nat), (s.link p).nakCk = some t → inService s p = true → s.quenched = false →
    exec (.nakTimeout p) s = .next (modLink (s.upTo (t + 2 * s.ckPerUs)) p (fun l => { l with
      nakDue := true, nakCk := some (s.upTo (t + 2 * s.ckPerUs)).ck }))) ∧
  (∀ (p : Port) (s : State), (s.link p).replay ≠ [] → s.port' p = ptUp ∨ s.port' p = ptActive → s.quenched = false →
    exec (.ackTimeout p) s = .next (startRetrain (raise .avl p 3
      (s.upTo ((s.link p).progCk + ceilDiv (s.reg AVL.ACK_TIMEOUT p * s.ckPerUs) 10))) p))

/-- The commands of lanes, presence and training complete (R292 to R298). -/
def Obligations.LinkLaneAndTrainingCommandsComplete : Prop :=
  (∀ (p : Port) (s t : State) (b : List Byte), takeMsg s p ctLaneRequest = some (b, t) → t.flag AVL.STATE_SPARE_USED_TX p = false →
    exec (.laneRequest p) s = .next (modLink t p (fun l => { l with txRep := some (fieldAt b 0 1 % 4) }))) ∧
  (∀ (p : Port) (s : State) (i : Nat), (s.link p).rxRep = some (i, false) → exec (.spareEqualisationDone p) s =
    .next (modLink s.draw.2 p (fun l => { l with
      rxRep := some (i, true), ctrl := l.ctrl ++ [ctrlMsg ctLaneSwitch (leBytes 1 i ++ leBytes 8 s.draw.1)] }))) ∧
  (∀ (p : Port) (s : State) (i : Nat), (s.link p).rxRep = some (i, true) → exec (.laneSwitch p) s =
    (let m := s.fld AVL.LANE_MAP_RX p
     let u := s.setFld AVL.LANE_MAP_RX (setBits m (3 * i) 3 (laneSpare m)) p
     let u := (modLink u p (fun l => { l with rxRep := none, good := 0 })).setFld AVL.STATE_SPARE_USED_RX 1 p
     .next (jnlRetire (raise .avl p 4 (u.bump AVL.LANE_SWAPS 1 p)) 2 (8 * p + i)))) ∧
  (∀ (p : Port) (sym : List Nat) (corr : Nat) (s : State), s.port' p = ptUp ∨ s.port' p = ptActive → s.quenched = false →
    s.armed AVL.INJ_LANE_BAD p = false → (∀ x, sym.getD x 0 ≤ s.reg AVL.LANE_THRESH p) →
    (let u := ((List.range 5).foldl (fun s x => s.setReg AVL.LANE_SYM (min (2 ^ 32 - 1) (sym.getD x 0)) p x) s).wrapAdd
       AVL.FEC_CORR_CW corr p
     u.flag AVL.STATE_SPARE_USED_RX p = false → exec (.laneWindow p sym corr) s = .next u)) ∧
  (∀ (p : Port) (s : State), s.flag AVL.CTRL_RE_EQ_EN p = true → s.reg AVL.RE_EQ_PERIOD p ≠ 0 →
    s.port' p = ptUp ∨ s.port' p = ptActive → s.quenched = false → exec (.reEq p) s =
    (let u := s.upTo ((s.link p).reEqCk + s.reg AVL.RE_EQ_PERIOD p * 1000000 * s.ckPerUs)
     let v := modLink u p (fun l => { l with reEqCk := u.ck })
     .next (if v.flag AVL.STATE_SPARE_USED_RX p || (s.link p).rxRep.isSome then v.bump AVL.RE_EQ_SKIPPED 1 p else v))) ∧
  (∀ (p : Port) (s : State), s.flag AVL.STATE_PRESENT p = false → exec (.presenceAssert p) s =
    (let u := (s.upTo (s.ck + 10000 * s.ckPerUs)).setFld AVL.STATE_PRESENT 1 p
     .next (raise .avl p 11 (if u.flag AVL.CTRL_EN p && u.pageOn .avl p && !u.quenched then
       u.setFld AVL.STATE_PORT ptTraining p else u)))) ∧
  (∀ (p : Port) (s : State), s.flag AVL.STATE_PRESENT p = true → exec (.presenceDeassert p) s =
    (let u := s.setFld AVL.STATE_PRESENT 0 p
     let v := if u.fld STW.SVC_STATE_DRAIN = 1 ∨ u.fld STW.SVC_STATE_DRAIN = 2 then u.setFld STW.SVC_STATE_EARLY 1 else u
     .next (raise .avl p 11 (if v.flag AVL.CTRL_EN p then leavePort v p ptEmpty else v)))) ∧
  (∀ (p : Port) (w : BitVec 23) (rx tx : BitVec 5) (s : State), s.quenched = false → lanesOk rx.toNat = true →
    lanesOk tx.toNat = true →
    (s.port' p = ptTraining → exec (.trainingComplete p (some w) rx tx) s = .next
      (((freshLink (setLanes (portDown s p) p rx.toNat tx.toNat) p).setReg AVL.PEER (w.toNat + 2 ^ 23) p).setFld
        AVL.STATE_PORT ptUp p)) ∧
    (s.port' p = ptRetraining → s.reg AVL.PEER p = w.toNat + 2 ^ 23 → exec (.shortRetrainComplete p (some w) rx tx) s =
      (let u := setLanes s p rx.toNat tx.toNat
       let v := modLink u p (fun l => { l with
         rp := if l.replay.isEmpty then none else some 0, progCk := u.ck, nakCk := none, nakDue := false, nakIn := false })
       .next (v.setFld AVL.STATE_PORT (v.link p).prev p)))) ∧
  (∀ (p : Port) (s : State), s.quenched = false → exec (.avlCtrlRetrain p) s = .next (startRetrain s p))

/-- The Ingot Store's commands complete (R266 to R280). -/
def Obligations.IngotCommandsComplete : Prop :=
  (∀ (tg : Fin 64) (fails : Bool) (s : State) (k : Nat), ingRuns s = true → tgtUsable s tg = true →
    (blksIn s tg 0).length * 100 < s.fld ING.CTRL_GC_LOW * tgtBlocks s tg → fewestValid s (blksIn s tg 2) = some k →
    exec (.garbageCollect tg fails) s = .next (eraseBlk (relocate s (blkTiles s k)) k fails)) ∧
  (∀ (tg : Fin 64) (fails : Bool) (s : State) (k : Nat), ingRuns s = true → tgtUsable s tg = true →
    lowestPe s ((blksIn s tg 2).filter (fun k => !(blkTiles s k).isEmpty)) = some k →
    (fblk s k).pe + s.fld INGCH.CH_CTRL_WL_SPREAD (tg / 4) < (tgtKeys s tg).foldl (fun n j => max n (fblk s j).pe) 0 →
    exec (.wearLevel tg fails) s = .next (eraseBlk (relocate s (blkTiles s k)) k fails)) ∧
  (∀ (c : Core) (r : List Nat) (s : State) (f : Flight) (pl : Option Nat),
    (s.run c).flight.find? (fun f => f.req.kind == 2 && f.due.isNone && !f.done && (f.cached.isNone || f.fills)) = some f →
    s.pageOn .ing = true → s.quenched = false → stagePlace s = some pl → f.old = none →
    (let u := (mapAccess s 0 (f.req.addr / 16384)).2
     mapped u 0 (f.req.addr / 16384) = none → exec (.ingotReadComplete c r) s =
      (let v := (u.bump ING.UNMAPPED_READS).upTo (f.arr + 14 * u.ckPerUs)
       let w := match pl with
         | some x => otherAccess (stageTileFor v (stageOwner c f.eng f.seq) x (zeros 16384) (zeros 2048)) { o := 5, cast := 0 }
             .tun true true (x * 16384) 16384 v.ck none
         | none => v
       .next (deliverRead (lateCheck w f.frame) c f (cutPiece f.req (zeros 16384) (zeros 2048) 0) pl)))) ∧
  (∀ (area : Fin 7) (tile : Nat) (r : List Nat) (s : State) (p n : Nat) (t : State), mapped s area tile = some p →
    s.flag ING.CTRL_PATROL_EN = true → ingRuns s = true → tgtFailed s (pageTgt p) = false →
    (let u := s.upTo (sget 0 s.ing.patrols (pageTgt p / 4) + 1000 * s.ckPerUs)
     let u : State := { u with ing := { u.ing with patrols := sset 0 u.ing.patrols (pageTgt p / 4) u.ck } }
     decodePage u (pageTgt p / 4) (u.ing.dead.contains p) r = (n, false, t)) →
    exec (.patrolRead area tile r) s = .next (relocRead t area tile n)) ∧
  (∀ (s t u : State) (w : IngWrite) (p : Nat), s.ing.writes.find? (fun w => w.page.isNone) = some w → ingRuns s = true →
    (decide (w.core < 4) && (stagePlace s).isNone) = false → budgetHolds s w = (false, t) →
    (nextTarget t).bind (takePage t) = some (p, u) → exec .ingotProgramStart s = .next { u with ing := { u.ing with
      writes := u.ing.writes.map (fun x => if x = w then { w with page := some p, startCk := u.ck } else x) } }) ∧
  (∀ (s : State) (w : IngWrite) (p : Nat), s.ing.writes.find? (fun w => w.page.isSome) = some w → w.page = some p →
    (let u := s.upTo (w.startCk + tgtTProg s (pageTgt p) * s.ckPerUs)
     u.armed ING.INJ_PROG_FAIL = false → tgtFailed u (pageTgt p) = false →
     exec (.ingotProgramComplete false) s = .next (landWrite u w p))) ∧
  (∀ (tg : Fin 64) (s : State),
    (let u := s.setFld ING.RETIRE_REQ_TARGET tg
     let rest := usablePages u - ((tgtKeys u tg).filter (fun k => (fblk u k).st != 3)).length * u.ing.ppb
     (u.ing.retiring = none → tgtUsable u tg = true → spaceShort u rest = false → exec (.retireReq tg) s =
       (let v := (({ u with ing := { u.ing with retiring := some tg } } : State).setFld ING.RETIRE_REQ_REFUSED 0).setFld
          ING.STATE_RETIRING 1
        .next (v.setReg ING.RETIRE_PROGRESS (tgtTiles v tg).length))) ∧
     (u.ing.retiring.isSome = true → exec (.retireReq tg) s =
       .next (raise .ing 0 8 (u.setFld ING.RETIRE_REQ_REFUSED 1))))) ∧
  (∀ (s : State) (tg : Nat), s.ing.retiring = some tg → ingRuns s = true →
    (let u := relocate s (tgtTiles s tg)
     (tgtTiles u tg).length ≠ 0 → exec .targetRetireDone s = .next (u.setReg ING.RETIRE_PROGRESS (tgtTiles u tg).length))) ∧
  (∀ (s : State) (tg : Nat), s.ing.retiring = some tg → ingRuns s = true →
    (let u := (relocate s (tgtTiles s tg)).setReg ING.RETIRE_PROGRESS 0
     (tgtTiles (relocate s (tgtTiles s tg)) tg).length = 0 → exec .targetRetireDone s =
       (let v : State := { u with ing := { u.ing with retiring := none } }
        let w := v.setFld INGCH.CH_STATE_TGT_RETIRED (setBits (v.fld INGCH.CH_STATE_TGT_RETIRED (tg / 4)) (tg % 4) 1 1) (tg / 4)
        .next (jnlRetire (setTailMax (raise .ing 0 8 ((showRemove (w.setFld STW.SVC_TGT_TGT tg)).setFld ING.STATE_RETIRING 0)))
          5 tg)))) ∧
  (∀ (tg : Fin 64) (s : State), tgtUsable s tg = true → s.pageState .ing = pgOn →
    exec (.targetCommandTimeout tg false) s =
      .next (failTarget (raise .ingch (tg / 4) 3 (s.upTo (s.ck + 100000 * s.ckPerUs))) tg))

/-- The commands of the HBM stacks complete (R254 to R260). -/
def Obligations.HbmCommandsComplete : Prop :=
  (∀ (k : Stack) (ch : Chan) (s : State), s.pageState .hbm k = pgOn →
    exec (.hbmParityError k ch false) s = .next (raise .hbm k 4 (s.bump HBM.PARITY_COUNT 1 k)) ∧
    exec (.hbmParityError k ch true) s = .next (loseStack (raise .hbm k 4 (s.bump HBM.PARITY_COUNT 1 k)) k 3 ch) ∧
    exec (.hbmChannelTimeout k ch) s = .next (loseStack (s.upTo (s.ck + hkCk s 4096)) k 4 ch) ∧
    exec (.hbmTempPortLoss k true) s = .next (loseStack s k 5 0) ∧
    exec (.hbmTempPortLoss k false) s = .next (loseStack (s.upTo (s.ck + 1000 * s.ckPerUs)) k 5 0)) ∧
  (∀ (k : Stack) (deg : Fin 256) (s : State), s.pageState .hbm k = pgOn →
    (let u := s.upTo (nextPeriod s 32)
     let v := (u.setFld HBM.TEMP_NOW deg.val k).setFld HBM.TEMP_MAX (max deg.val (u.fld HBM.TEMP_MAX k)) k
     u.armed HBM.INJ_HOT k = false → v.locked = false →
     (85 < deg.val → v.flag HBM.STATE_HOT k = false →
       exec (.hbmTempRead k deg) s = .next (raise .hbm k 6 (v.setFld HBM.STATE_HOT 1 k))) ∧
     (deg.val < 83 → exec (.hbmTempRead k deg) s = .next (v.setFld HBM.STATE_HOT 0 k)))) ∧
  (∀ (j p : Nat) (s : State), s.locked = true → s.quenched = false → j % 16 ≠ 15 → slotStop s j ≤ s.fitTick →
    s.ck ≤ slotStart s j → slotOwner s (j % 256) = some p →
    exec (.hbmSlotServe j) s = .next (serveSlot (s.upTo (slotStart s j)) p (slotEntry s p (j % 256)) (slotStart s j) (slotStop s j))) ∧
  (∀ s : State, s.pageState .hbm ≠ pgQuenched →
    (slotConflict s = none →
      exec .slotCtrlApply s = .next ((s.setFld HBM.SLOT_CTRL_VALID 1).setFld HBM.SLOT_CTRL_CONFLICT 0)) ∧
    (∀ a b i, slotConflict s = some (a, b, i) → exec .slotCtrlApply s =
      .next (raise .hbm 0 7 (s.setReg HBM.SLOT_CTRL (4 + a * 8 + b * 2 ^ 6 + i * 2 ^ 9)))))

/-- The commands of the Tundish and the scrubbers complete (R226 to R233, R402). -/
def Obligations.TundishCommandsComplete : Prop :=
  (∀ (a : Nat) (e : Fin 3) (s : State), (∀ d : Die, exec (.scrubAccess (.tun d) a e) s = .next (scrubTun s d a e)) ∧
    (scrubOn s 16 = true → exec (.scrubAccess .stw a e) s = .next (scrubReport (scrubPace s 16 a 64) .stw 0 e)) ∧
    (∀ c : Core, s.quenched = false → e.val ≠ 2 →
      (let u := scrubPace s c (a % 2 ^ 22 / 256) 256
       scrubOn s c = true → (u.core c).ldl.cacheBad.contains (a % 2 ^ 22) = false →
        exec (.scrubAccess (.cache c) a e) s = .next (scrubReport u .ldl c e)) ∧
      (let u := scrubPace s (4 + c) (a % (392192 * 16) / 16) 256
       scrubOn s (4 + c) = true → (u.core c).cru.bad.contains (a % (392192 * 16)) = false →
        exec (.scrubAccess (.cru c) a e) s = .next (scrubReport u .cru c e)) ∧
      (let u := scrubPace s (8 + c) (a % 2 ^ 14) 256
       scrubOn s (8 + c) = true → bit (s.reg SPR.PAT_SLOTS c) (a % 2 ^ 14 / 256) = true →
        (u.core c).spr.patBad.contains (a % 2 ^ 14) = false →
        exec (.scrubAccess (.pat c) a e) s = .next (scrubReport u .spr c e)) ∧
      (scrubOn s (12 + c) = true → exec (.scrubAccess (.asy c) a e) s =
        .next (scrubReport (scrubPace s (12 + c) (a % (192 * 4096) / 4096) 65536) .asy c e)))) ∧
  (∀ (d : Die) (bank : Fin 128) (s : State), s.pageState .tun d ≠ pgQuenched →
    (let u := s.setFld TUN.SPARE_REQ_BANK bank d
     ∀ i, spareCopy u d = none → freeSpare u d = some i → exec (.spareReq d bank) s =
      (let v := u.setFld TUN.SPARE_REQ_REFUSED 0 d
       .next (((setCopy v d (some { bank := bank, spare := i, startCk := v.ck })).setFld TUN.STATE_COPYING 1 d).setReg
         TUN.SPARE_PROGRESS 0 d)))) ∧
  (∀ (d : Die) (s : State) (x : SpareCopy), spareCopy s d = some x →
    (x.done = none → exec (.spareCopyDone d) s =
      (let u := s.upTo (x.startCk + tkCk s 4718592)
       .next (((setCopy u d (some { x with done := some u.ck })).setFld TUN.STATE_COPYING 0 d).setReg TUN.SPARE_PROGRESS 73728 d))) ∧
    (∀ t, x.done = some t → t < s.frameCk → exec (.spareMapChange d) s =
      (let keep := (fenceBank s d x.bank).filter (fun e => e.1 / (8 * 73728) != d * 132 + 128 + x.spare)
       let u : State := { s with tun := { s.tun with fenced := keep } }
       let v := u.setReg TUN.SPARE_MAP (setBits (u.reg TUN.SPARE_MAP d) (8 * x.spare) 8 (128 + x.bank)) d
       .next (jnlRetire (raise .tun d 4 (setCopy v d none)) 1 (128 * d + x.bank))))) ∧
  (∀ (d : Die) (s : State), s.pageState .tun d ≠ pgQuenched →
    exec (.diagRawWrite d) s = .next (diagRun (s.setFld TUN.DIAG_CTRL_OP 1 d) d 1) ∧
    exec (.diagRawRead d) s = .next (diagRun (s.setFld TUN.DIAG_CTRL_OP 2 d) d 2) ∧
    exec (.diagDecodedRead d) s = .next (diagRun (s.setFld TUN.DIAG_CTRL_OP 3 d) d 3)) ∧
  (∀ s : State, s.pageState .tun ≠ pgQuenched → quotaConflict (quotaReg s) = none →
    (s.locked && (List.range 8).any (fun u => (quotaReg s u).mode == 2)) = false → exec .qapply s =
      .next (({ s with tun := { s.tun with quotaNext := some (Vector.ofFn (fun u => quotaReg s u.val)), quotaCk := s.ck } } :
        State).setReg TUN.QSTATUS 1)) ∧
  (∀ (s : State) (q : Vector Quota 8), s.tun.quotaNext = some q → s.tun.quotaCk < s.frameCk →
    exec .quotaSetApply s =
      (let u : State := { s with tun := { s.tun with quotas := q, quotaNext := none } }
       .next ((dropEntries u (fun e => !q.toList.any (fun r =>
         r.mode == 2 && decide (r.first ≤ e.tile ∧ e.tile < r.first + r.count)))).setFld TUN.QSTATUS_PENDING 0)))

/-- The commands of calibration complete (R443 to R446, R6). -/
def Obligations.CalibrationCommandsComplete : Prop :=
  (∀ s : State, exec .calApply s = .next ((modCal (s.cal.edited.foldl calApplyItem s) (fun c => { c with edited := [] })).setFld
    CAL.CAL_STATE_EDITED 0)) ∧
  (∀ s : State, exec .calSave s = .next (calSave s)) ∧
  (∀ s : State, exec .calReload s = .next (calItems.foldl calApplyItem (calTake (calImage s).2 (calImage s).1))) ∧
  (∀ s : State, calItems.contains (s.fld CAL.CAL_SEL_I) = true → exec .calClear s = .next ((modCal s (fun c => { c with
    user := offPut c.user (s.fld CAL.CAL_SEL_I) none,
    edited := if c.edited.contains (s.fld CAL.CAL_SEL_I) then c.edited else c.edited ++ [s.fld CAL.CAL_SEL_I] })).setFld
    CAL.CAL_STATE_EDITED 1)) ∧
  (∀ s : State, exec .railSlewStep s =
    (let u := s.upTo (s.ck + 10 * s.ckPerUs)
     .next (modCal u (fun c => { c with rails := (List.range 10).foldl (fun m k =>
       let now := sget 0 m (16 + k)
       let goal := (calEffective u (16 + k)).toNat
       sset 0 m (16 + k) (if now < goal then min goal (now + 5) else max goal (now - 5))) c.rails })))) ∧
  (∀ (v : Bool) (s : State), rwlLocked s .grd 0 = false →
    (let u := s.setFld GRD.GRD_PROFILE_REQ (b2n v)
     exec (.grdProfileReqWrite v) s = .next (if u.flag STW.BOOT_STATE_READY then
       calSave (modCal u (fun c => { c with
         user := offPut c.user 0 (some ((b2n v : Nat) - calFactory u 0)),
         target := offPut c.target 0 (some ((b2n v : Nat) - calFactory u 0)) })) else u)))

/-- The commands of the bridge and of promotion complete: words corrected and not (R25), the loss of the bridge (R26), the lock of
the schedule and its refusal (R24), a promotion's request, copy and switch (R27, R28). -/
def Obligations.BridgeAndPromotionCommandsComplete : Prop :=
  (∀ (d : Die) (s : State), exec (.bridgeWordCorrected d) s = .next (raise .grd 0 1 (s.bump GRD.GRD_BRIDGE_CORR)) ∧
    exec (.bridgeWordUncorrectable d) s = .next (raise .grd 0 2
      { s.bump GRD.GRD_BRIDGE_UNCORR with acc := { s.acc with dmg := s.acc.dmg ++ [(d : Nat)] } })) ∧
  (∀ s : State, exec .bridgeLoss s = .next (raise .grd 0 5 (s.setFld GRD.GRD_BRIDGE_STATE_UP 0))) ∧
  (∀ s : State, rwlLocked s .grd 0 = false → s.flag GRD.GRD_BSCHED_LOCK_LOCK = false →
    (schedGood s = true → exec (.grdBschedLockWrite true) s =
      .next ((s.setFld GRD.GRD_BSCHED_LOCK_LOCK 1).setFld GRD.GRD_BRIDGE_STATE_SCHED_BAD 0)) ∧
    (schedGood s = false → exec (.grdBschedLockWrite true) s = .next (s.setFld GRD.GRD_BRIDGE_STATE_SCHED_BAD 1))) ∧
  (∀ (c : Fin 4) (s : State) (i : Iss) (is : List Iss),
    (let u := s.setFld GRD.GRD_PROMOTE_CORE c
     let v := (((u.setFld GRD.GRD_PROMOTE_REFUSED 0).setFld GRD.GRD_PROMOTE_BUSY 1).setReg GRD.PROMO_SEQ i.seq)
     u.endurance = true → u.fld GRD.GRD_PROFILE_SPARE_CORE ≠ 7 → (c : Nat) < 3 → u.active c = true →
     u.flag GRD.GRD_PROMOTE_BUSY = false → u.quenched = false → workOf u c = i :: is →
     (let w := (i :: is).foldl (fun s i => promoteDrop s c i) v
      exec (.promoteRequest c) s =
        .next (modPwr (promoteStop w c) (fun p => { p with promo := some ((c : Nat), w.ck + 143872, false) }))))) ∧
  (∀ (s : State) (c t : Nat) (bad : PromoBad), s.pwr.promo = some (c, t, false) → exec (.promoteCopyDone bad) s =
    (let u := s.upTo t
     let cru := union (u.cru c).bad bad.cru
     let cache := union (u.core c).ldl.cacheBad bad.cache
     let pat := union (u.core c).spr.patBad bad.pat
     let u := u.bump GRD.PROMO_POISON (cru.length + bad.ids.eraseDups.length + bad.asy.eraseDups.length + cache.length + pat.length)
     let u := cru.foldl (fun s w => promotePoison s c w) u
     let u := bad.ids.foldl (fun s id => setMtab s c id 0) u
     let u := bad.asy.foldl (fun s k => setTag s c k ((slotTag s c k).1, true)) u
     let u := pat.foldl (fun s w => (patIds s c (w / 256)).foldl (fun s id => patUnmap s c id) s) u
     .next (modPwr (u.modCore c (fun x => { x with
       cru := { x.cru with bad := cru }, ldl := { x.ldl with cacheBad := cache }, spr := { x.spr with patBad := [] } }))
       (fun p => { p with promo := some (c, t, true) })))) ∧
  (∀ (s : State) (c t : Nat), s.pwr.promo = some (c, t, true) → t < s.frameCk →
    exec .promoteSwitch s = .next (promoteSwitch s c))

/-- The resets complete: a cold reset and the retry of the regulators run all nine steps (R454, R455), `RST_CMD` a warm reset
(R454), a step over its maximum is marked (R458). -/
def Obligations.ResetCommandsComplete : Prop :=
  (∀ (e : BootEnv) (s : State), exec (.coldReset e) s =
    (let u := powerLost { s with pwr := { s.pwr with railFails := 0 } }
     let v := ladlesUndefined { u with svc := { u.svc with off := false } }
     .next (bootRun e ((1, bootStep1 e) :: bootSteps e true false false (fun _ => true)) v))) ∧
  (∀ (e : BootEnv) (s : State), s.svc.off = false → exec (.rstCmd 0x7A3C e) s = .next (warmBoot s e 1 false)) ∧
  (∀ (v : BitVec 16) (e : BootEnv) (s : State), v ≠ 0x7A3C → exec (.rstCmd v e) s = .next s) ∧
  (∀ (e : BootEnv) (s : State), s.svc.off = true → s.pwr.railFails = 1 → exec (.regulatorRetry e) s = .next (coldBoot s e)) ∧
  (∀ (k : Fin 9) (s : State), s.fld STW.BOOT_STATE_STEP = (k : Nat) + 1 → bit (s.reg STW.BOOT_OVER) k = false → s.quenched = false →
    exec (.bootStepOvertime k) s = .next (raise .stw 0 12 (s.setReg STW.BOOT_OVER (setBits (s.reg STW.BOOT_OVER) k 1 1))))

/-- The commands of `TRU_CMD` complete, each with its op shown, its effect, and its result in `TRU_STATUS` (R421 to R434). -/
def Obligations.TrustCommandsComplete : Prop :=
  ∀ s : State, s.pageState .tru = pgOn →
  (let o := fun (n : Nat) => s.setFld TRU.TRU_CMD_OP n
   (∀ (r : Nat) (m : Option Mod) (u : State), checkModule (o 2) (truBuf (o 2)) = (r, m, u) →
     exec .verify s = .next ((if r = trOk then u else raise .tru 0 4 (u.bump TRU.VERIFY_FAILS)).setReg TRU.TRU_STATUS (r + 2 ^ 8))) ∧
   (∀ (u v : State) (b : List Byte), rngReady (o 3) = (true, u) → u.drawBytes 32 = (b, v) → exec .nonce s =
     .next ((modTru (tunWrite v (v.fld TRU.TRU_BUF_ADDR) b) (fun t => { t with nonce := some b })).setReg TRU.TRU_STATUS (2 ^ 8))) ∧
   (∀ u : State, (rngReady (o 3) = (false, u) → exec .nonce s = .next (u.setReg TRU.TRU_STATUS (9 + 2 ^ 8))) ∧
     (rngReady (o 1) = (false, u) → exec .attest s = .next (u.setReg TRU.TRU_STATUS (9 + 2 ^ 8)))) ∧
   (∀ (n : List Byte) (u : State), (o 4).tru.nonce = some n → (o 4).tru.owner = none →
     (let b := truBuf (o 4)
      let v := modTru (o 4) (fun t => { t with nonce := none })
      b.length = 1076 → sigOk v v.tru.vendor (b.take 564) (b.drop 564) = (true, u) → b.take 48 = tokenHead u n →
      exec .enrol s = .next ((writeRecord3 (showOwner (modTru u (fun t => { t with
        owner := some (beNat (slice b 48 512), beNat (slice b 560 4)) })))).setReg TRU.TRU_STATUS (2 ^ 8)))) ∧
   (∀ k : Nat × Nat, (o 4).tru.owner = some k → exec .enrol s =
     .next ((raise .tru 0 6 (modTru (o 4) (fun t => { t with nonce := none }))).setReg TRU.TRU_STATUS (7 + 2 ^ 8))) ∧
   (∀ (n : List Byte) (u : State) (k : Nat × Nat), (o 5).tru.nonce = some n → (o 5).tru.owner = some k →
     (o 5).tru.mods = [] → (o 5).tru.stored = [] → (o 5).tru.upd = [] →
     (let b := truBuf (o 5)
      let v := modTru (o 5) (fun t => { t with nonce := none })
      b.length = 560 → sigOk v v.tru.vendor (b.take 48) (b.drop 48) = (true, u) → b.take 48 = tokenHead u n →
      exec .unenrol s =
        .next ((writeRecord3 (showOwner (modTru u (fun t => { t with owner := none })))).setReg TRU.TRU_STATUS (2 ^ 8)))) ∧
   (∀ (ok : Bool) (u : State),
     (let b := truBuf (o 7)
      544 ≤ b.length → sigOk (o 7) (ownerOrVendor (o 7)) (b.take (b.length - 512)) (b.drop (b.length - 512)) = (ok, u) →
      exec .patverify s = .next ((modTru u (fun t => { t with
        patImg := if ok then some (b.take (b.length - 512)) else none })).setReg TRU.TRU_STATUS ((if ok then 0 else 3) + 2 ^ 8)))) ∧
   (∀ (u v : State) (b : List Byte), 16 ≤ (truBuf (o 1)).length → (truBuf (o 1)).length ≤ 64 → rngReady (o 1) = (true, u) →
     report u (truBuf (o 1)) = (b, v) →
     exec .attest s = .next ((tunWrite v (v.fld TRU.TRU_BUF_ADDR) b).setReg TRU.TRU_STATUS (2 ^ 8))) ∧
   (∀ (m : Mod) (u v : State), checkModule (o 6) (truBuf (o 6)) = (trOk, some m, u) →
     u.tru.upd.any (fun x => x.1.block == m.block) = false → ingRuns u = true →
     programModule u m (truBuf (o 6)).length = some v → exec .update s =
       (let w := modTru (jnlModule v m) (fun t => { t with upd := t.upd ++ [(m, v.frame, decide (m.block ≤ 2))] })
        .next ((w.setFld TRU.TRU_STATE_UPD_PENDING (b2n (!w.tru.upd.isEmpty))).setReg TRU.TRU_STATUS (2 ^ 8)))))

/-- The link exchange completes message by message (R431, R432); key age (R301, R433), the random source (R422) and pending
updates (R434). -/
def Obligations.LinkExchangeCommandsComplete : Prop :=
  (∀ (p : Port) (s t : State),
    (let u := (s.setFld TRU.TRU_CMD_ARG p).setFld TRU.TRU_CMD_OP 8
     (s.setFld TRU.TRU_CMD_ARG p).pageState .tru = pgOn → linkable u p = true →
     (rngReady u = (true, t) → exec (.link p) s = .next ((startLink t p).setReg TRU.TRU_STATUS (2 ^ 8))) ∧
     (rngReady u = (false, t) → exec (.link p) s = .next (t.setReg TRU.TRU_STATUS (9 + 2 ^ 8))))) ∧
  (∀ (p : Port) (s t u v w : State) (b r : List Byte), linkable s p = true → takeMsg s p lkHello = some (b, t) →
    rngReady t = (true, u) → (u.link p).ex.isSome = true → u.flag AVL.PEER_HOST p = false →
    (let cert := slice b 32 1280
     sigOk u u.tru.vendor (cert.take 0x300) (slice cert 0x300 512) = (true, v) →
     report (modLink v p (fun l => { l with peerN := some (fieldAt b 0 32), peerCert := cert })) (slice b 0 32) = (r, w) →
     exec (.hello p) s = .next (modLink w p (fun l => { l with ctrl := l.ctrl ++ fragments lkReport r })))) ∧
  (∀ (p : Port) (s t u v : State) (b seed : List Byte) (n x : Nat), (s.link p).peerN.isSome = true → linkable s p = true →
    takeMsg s p lkReport = some (b, t) → reportOk t p b = (trOk, u) → u.drawBytes 64 = (seed, v) → (v.link p).ex = some (n, x) →
    (let w := modLink v p (fun l => { l with peerRep := true })
     exec (.report p) s = .next (sendLink w p lkShare (oaepEncrypt (certKey (w.link p).peerCert) (leBytes 32 x) seed)))) ∧
  (∀ (p : Port) (s t : State) (b x : List Byte) (n sh pn : Nat), (s.link p).peerRep = true → linkable s p = true →
    takeMsg s p lkShare = some (b, t) → oaepDecrypt (certKey (certBytes t)).1 t.tru.idPriv (slice b 0 512) = some x →
    x.length = 32 → (t.link p).ex = some (n, sh) → (t.link p).peerN = some pn → t.flag AVL.PEER_HOST p = true →
    (let d := fun (g : Nat) => linkDigest g (sh, n, t.self, (p : Nat)) (leNat x, pn, t.fld AVL.PEER_ID p, t.fld AVL.PEER_PORT p)
     let k := fun (g : Nat) => (leNat ((d g).take 32), leNat (slice (d g) 32 5))
     exec (.share p) s = .next (sendLink (installKeys t p (k 1) (k 2)) p lkDone (leBytes 4 0)))) ∧
  (∀ (p : Port) (s t : State) (b : List Byte), linkable s p = true → takeMsg s p lkDone = some (b, t) →
    (fieldAt b 0 4 = 0 → exec (.done p) s = .next (modLink t p exEnd)) ∧
    (fieldAt b 0 4 ≠ 0 → exec (.done p) s =
      .next (raise .tru 0 5 (leavePort ((modLink t p exEnd).bump AVL.AUTH_FAIL 1 p) p ptFailed)))) ∧
  (∀ (p : Port) (s : State), encOn s p = true → s.quenched = false →
    (2 ^ 32 - 1 ≤ s.reg AVL.TX_WRAPS p → exec (.txWrapsLimit p) s = .next (leavePort s p ptFailed)) ∧
    (2 ^ 31 ≤ s.reg AVL.TX_WRAPS p → s.reg AVL.TX_WRAPS p < 2 ^ 32 - 1 → s.flag AVL.KEY_STATE_KEY_AGE p = false →
      (let u := raise .avl p 10 (s.setFld AVL.KEY_STATE_KEY_AGE 1 p)
       exec (.txWrapsLimit p) s =
         .next (if u.flag TRU.LK_POLICY_AUTO_ROTATE && linkable u p && !u.tru.rngBad then startLink u p else u)))) ∧
  (∀ s : State, exec .rngHealthFail s =
    .next (raise .tru 0 8 (modTru (((s.disarm TRU.INJ_RNG).bump TRU.RNG_FAILS).setFld TRU.TRU_STATE_RNG_OK 0)
      (fun t => { t with rngBad := true })))) ∧
  (∀ s : State, exec .moduleUpdateActivate s = .next (moduleWindow s)) ∧
  (∀ (s : State) (m : Mod) (f : Nat), s.tru.upd = [(m, f, false)] → f + s.reg TRU.UPD_WAIT_FRAMES ≤ s.frame →
    exec .updateDeferTimeout s = .next (raise .tru 0 7 (modTru s (fun t => { t with upd := [(m, f, true)] }))))

/-- Page states, locks and block resets (R11, R440), and the JTAG port (R449). -/
def Obligations.PageAndJtagCommandsComplete : Prop :=
  (∀ (a : BitVec 26) (s : State) (p : PageKind) (i o : Nat), headerAt s a.toNat = some (p, i, o) → s.pageState p i ≠ pgQuenched →
    (s.pageState p i = pgOff → exec (.pageEnable a true) s = .next ((s.setFld (HDR.PAGE_CTRL_EN p) 1 i).setPageState p i pgOn)) ∧
    (s.pageState p i ≠ pgOff → exec (.pageEnable a true) s = .next (s.setFld (HDR.PAGE_CTRL_EN p) 1 i)) ∧
    (s.pageState p i = pgQuiesced →
      exec (.pageEnable a false) s = .next ((s.setFld (HDR.PAGE_CTRL_EN p) 0 i).setPageState p i pgOff)) ∧
    (s.pageState p i ≠ pgQuiesced → exec (.pageEnable a false) s = .next s) ∧
    exec (.pageQuiesce a true) s = .next (s.setFld (HDR.PAGE_CTRL_QUIESCE p) 1 i) ∧
    (s.pageState p i = pgQuiesced →
      exec (.pageQuiesce a false) s = .next ((s.setFld (HDR.PAGE_CTRL_QUIESCE p) 0 i).setPageState p i pgOn)) ∧
    (s.flag (HDR.PAGE_CTRL_QUIESCE p) i = true → s.pageState p i = pgOn → blockStill s p i = true →
      exec (.pageQuiesced a) s = .next (s.setPageState p i pgQuiesced)) ∧
    (∀ v : BitVec 32, exec (.pageLockWrite a v) s =
      .next (s.setReg (HDR.PAGE_LOCK p) (s.reg (HDR.PAGE_LOCK p) i ||| v.toNat % 4) i)) ∧
    (p ≠ .spr → p ≠ .cru → p ≠ .avl →
      exec (.pageBreset a) s = .next ((s.setFld (HDR.PAGE_CTRL_EN p) 0 i).setPageState p i pgOff))) ∧
  (∀ s : State,
    (let bypass := modJtag s (fun j => { j with sel := 0, dr := 0, drive := false })
     exec .bypass s = .next bypass ∧
     exec .idcode s = .next (modJtag s (fun j => { j with
       sel := 1, dr := s.fld GRD.GRD_ID_STEP_DIGIT * 2 ^ 28 + 0x0C09 * 2 ^ 12 + 0x2A7 * 2 + 1, drive := false })) ∧
     (∀ lands pre : BitVec 400, exec (.samplePreload lands pre) s =
       .next (modJtag s (fun j => { j with sel := 2, dr := lands.toNat, preload := pre.toNat, drive := false }))) ∧
     (∀ lands : BitVec 400,
       (s.flag STW.DBG_EN_EN = true →
         exec (.extest lands) s = .next (modJtag s (fun j => { j with sel := 2, dr := lands.toNat, drive := true }))) ∧
       (s.flag STW.DBG_EN_EN = false → exec (.extest lands) s = .next bypass)) ∧
     (∀ halt : BitVec 4, (s.flag STW.DBG_EN_EN = false → exec (.ccDebug halt) s = .next bypass) ∧
       (s.flag STW.DBG_EN_EN = true → exec (.ccDebug halt) s =
         (let live := s.fld STW.CC_STATE_RUNNING ||| s.fld STW.CC_STATE_HALTED
          let h := live &&& halt.toNat
          let u := ((s.setFld STW.CC_STATE_HALTED h).setFld STW.CC_STATE_RUNNING (live - h)).draw
          .next (modJtag u.2 (fun j => { j with sel := 3, dr := u.1, drive := false })))))))

/-- The long operations complete: start, refusal and abort (R442), and a step of each operation (R441). -/
def Obligations.LongOperationCommandsComplete : Prop :=
  (∀ (k : Fin 4) (s : State),
    ∀ q ∈ [(Instr.lopCopy k, 1), (.rcopy k, 2), (.hbmScrub k, 3), (.hbmTest k, 4), (.ingFormat k, 5)],
    (let u := s.setFld STW.LOP_CMD_OP q.2 0 k
     let x : LopSt := {
       op := q.2, len := if q.2 = 5 then 56 else u.reg STW.LOP_LEN 0 k,
       src := (u.fld STW.LOP_SRC_KIND 0 k, u.fld STW.LOP_SRC_ADDR 0 k),
       dst := (u.fld STW.LOP_DST_KIND 0 k, u.fld STW.LOP_DST_ADDR 0 k),
       remote := u.fld STW.LOP_REMOTE_DEV 0 k }
     let v := (u.setReg STW.LOP_PROGRESS 0 0 k).setReg STW.LOP_ERRORS 0 0 k
     lopOf u k = none →
     (lopBounds v x = true → lopBusy v k x = false → q.2 < 4 ∨ streamsStill v = true →
       exec q.1 s = .next ((setLop v k (some x)).setReg STW.LOP_STATUS 1 0 k)) ∧
     (lopBounds v x = true → lopBusy v k x = true ∨ (4 ≤ q.2 ∧ streamsStill v = false) → exec q.1 s = .next (lopEnd v k 4 1)) ∧
     (lopBounds v x = false → exec q.1 s = .next (lopEnd v k 4 3)))) ∧
  (∀ (k : Fin 4) (s : State) (x : LopSt), lopOf s k = some x →
    exec (.lopAbort k) s = .next (lopEnd { s with remote := s.remote.filter (fun r => !(r.core == 4 && r.seq == k)) } k 3 0) ∧
    (∀ (r : List (List Nat)) (errs : Nat), s.quenched = false →
      (let t := lopSettle (hbmLeft s) s k
       (lopWaits t k = true → exec (.lopStep k r errs) s = .next t) ∧
       (lopWaits t k = false →
        (x.op = 1 → exec (.lopStep k r errs) s = .next (copyStep t k x r)) ∧
        (x.op = 2 → exec (.lopStep k r errs) s = .next (rcopyStep t k x)) ∧
        (x.op = 3 ∨ x.op = 4 → exec (.lopStep k r errs) s = .next (hbmStep t k x errs)) ∧
        (x.op = 5 → exec (.lopStep k r errs) s = .next (formatStep t k x r))))))

/-- Presses and drains complete (R450 to R453). -/
def Obligations.DrainCommandsComplete : Prop :=
  (∀ s : State, s.quenched = false →
    (s.fld STW.SVC_STATE_DRAIN = 0 → exec .drainReq s =
      (let u := setDrain s 1
       .next (raise .stw 0 6 { u with svc := { u.svc with noteCk := u.ck } }))) ∧
    (s.fld STW.SVC_STATE_DRAIN = 1 → exec .drainCancel s = .next (setDrain s 0)) ∧
    (s.fld STW.SVC_STATE_DRAIN = 1 → exec .drainGo s =
      (let u := setDrain s 2
       let u : State := { u with svc := { u.svc with drainCk := u.ck } }
       let u := (List.finRange 4).foldl (fun s c => settled s (execSprCtrlRun c false s)) u
       let u := (PageKind.all.filter PageKind.drains).foldl (fun s p =>
         (List.range p.count).foldl (fun s i => if s.pageState p i = pgFused then s else pageQuiesce s p i true) s) u
       .next (u.setReg ROUT.PORT_EN 0))) ∧
    (s.fld STW.SVC_STATE_DRAIN = 2 → drainDone s = true → exec .drainSafe s =
      (let u := lifeSave (flushTail (jnlSnapshot s))
       .next (setDrain { u with svc := { u.svc with selfRef := true } } 3))) ∧
    (s.fld STW.SVC_STATE_DRAIN = 2 → exec .drainLimitExpire s =
      (let u := s.upTo (s.svc.drainCk + s.fld STW.DRAIN_CTRL_DRAIN_LIMIT * 1000 * s.ckPerUs)
       .next (raise .stw 0 8 (quench u ⟨6, 0, 0, 0⟩ []))))) ∧
  (∀ s : State, s.fld STW.SVC_STATE_DRAIN = 1 → exec .drainRenotify s =
    (let u := s.upTo (s.svc.noteCk + s.fld STW.DRAIN_CTRL_RENOTIFY * ckPerS s)
     let v : State := { u with svc := { u.svc with noteCk := u.ck } }
     .next (if bit (v.reg (HDR.FLT_EVT_EN .stw)) 6 then sendEvent v .stw 0 6 else v))) ∧
  (∀ s : State,
    (let u := s.setFld STW.SVC_STATE_ATTN 0
     u.flag STW.BOOT_STATE_READY = true →
     (u.fld STW.SVC_STATE_DRAIN = 3 → exec .attnPress s = .next (u.bump STW.SVC_PRESSES)) ∧
     (u.quenched = false → u.fld STW.SVC_STATE_DRAIN = 0 → exec .attnPress s = .next (drainReq u)) ∧
     (u.quenched = false → u.fld STW.SVC_STATE_DRAIN = 1 → exec .attnPress s = .next (drainCancel u)) ∧
     (u.quenched = false → u.fld STW.SVC_STATE_DRAIN = 2 → exec .attnPress s = .next (u.bump STW.SVC_PRESSES)))) ∧
  (∀ s : State,
    (let u := s.setFld STW.SVC_STATE_ATTN 1
     u.flag STW.BOOT_STATE_READY = true → u.quenched = false → u.fld STW.SVC_STATE_DRAIN = 1 →
     exec .attnLongPress s = .next (drainGo (raise .stw 0 7 (u.setFld STW.SVC_STATE_FORCED 1)))))

/-- Register accesses complete: on the device (R10, R17), by message (R325), over the sideband (R447, R448). -/
def Obligations.RegisterWindowCommandsComplete : Prop :=
  (∀ (a : BitVec 26) (v : BitVec 64) (e : BootEnv) (s : State),
    exec (.registerWrite a v true e) s = .next (write64 (rstWrite e) s a.toNat v.toNat) ∧
    exec (.registerWrite a v false e) s = .next (write32 (rstWrite e) s a.toNat v.toNat)) ∧
  (∀ (a : BitVec 26) (v : BitVec 64) (s : State) (i : Nat), pageAt a.toNat = some (.rout, i) →
    exec (.routTableWrite a v false) s = .next (write32 (fun _ s => s) s a.toNat v.toNat) ∧
    exec (.routTableWrite a v true) s = .next (write64 (fun _ s => s) s a.toNat v.toNat)) ∧
  (∀ (s t : State) (n : Nat) (m : Packet), s.quenched = false → takeKind s 0x06 = some (n, m, t) →
    (let h := fieldAt m.body 0 8
     (m.shost = true → t.flag ROUT.HOSTS_VALID 0 (m.src % 1024) = true → t.flag ROUT.HOSTS_ACL 0 (m.src % 1024) = true →
       bit h 32 = false → exec .regRd s =
         .next (reply (read32 t (bits h 0 26)).2 m 2 0x08 (m.word % 2 ^ 16) (leBytes 8 (read32 t (bits h 0 26)).1))) ∧
     (m.shost = false ∨ t.flag ROUT.HOSTS_VALID 0 (m.src % 1024) = false ∨ t.flag ROUT.HOSTS_ACL 0 (m.src % 1024) = false →
       exec .regRd s = .next (errRsp (raise .rout 0 7 t) m 4)))) ∧
  (∀ (e : BootEnv) (s t : State) (n : Nat) (m : Packet), s.quenched = false → takeKind s 0x07 = some (n, m, t) →
    (let h := fieldAt m.body 0 8
     (m.shost = true → t.flag ROUT.HOSTS_VALID 0 (m.src % 1024) = true → t.flag ROUT.HOSTS_ACL 0 (m.src % 1024) = true →
       bit h 32 = false → exec (.regWr e) s =
         .next (reply (write32 (rstWrite e) t (bits h 0 26) (fieldAt m.body 8 8)) m 2 0x08 (m.word % 2 ^ 16) [])) ∧
     (m.shost = false ∨ t.flag ROUT.HOSTS_VALID 0 (m.src % 1024) = false ∨ t.flag ROUT.HOSTS_ACL 0 (m.src % 1024) = false →
       exec (.regWr e) s = .next (errRsp (raise .rout 0 7 t) m 4)))) ∧
  (∀ (a : BitVec 32) (s : State),
    (let bad := raise .stw 0 10 (sbAnswer (s.bump STW.SB_REFUSED) 1 0)
     (a.toNat < 2 ^ 26 →
       exec (.sidebandRead32 a) s = .next (sbAnswer (read32 s a.toNat).2 0 (read32 s a.toNat).1) ∧
       exec (.sidebandRead64 a) s = .next (sbAnswer (read64 s a.toNat).2 0 (read64 s a.toNat).1)) ∧
     (2 ^ 26 ≤ a.toNat → exec (.sidebandRead32 a) s = .next bad ∧ exec (.sidebandRead64 a) s = .next bad))) ∧
  (∀ (a v : BitVec 32) (w : BitVec 64) (e : BootEnv) (s : State),
    (let bad := fun (n : Nat) => raise .stw 0 10 (sbAnswer (s.bump STW.SB_REFUSED) n 0)
     (a.toNat < 2 ^ 26 → s.flag STW.SB_POLICY_RO = false ∨ sbOpen a.toNat = true →
       exec (.sidebandWrite32 a v e) s = .next (sbAnswer (write32 (rstWrite e) s a.toNat v.toNat) 0 0) ∧
       exec (.sidebandWrite64 a w e) s = .next (sbAnswer (write64 (rstWrite e) s a.toNat w.toNat) 0 0)) ∧
     (a.toNat < 2 ^ 26 → s.flag STW.SB_POLICY_RO = true → sbOpen a.toNat = false →
       exec (.sidebandWrite32 a v e) s = .next (bad 2) ∧ exec (.sidebandWrite64 a w e) s = .next (bad 2)) ∧
     (2 ^ 26 ≤ a.toNat →
       exec (.sidebandWrite32 a v e) s = .next (bad 1) ∧ exec (.sidebandWrite64 a w e) s = .next (bad 1))))

/-- R404: every injection command sets its bit while `INJ_EN.EN` is set, in a page that reads neither FUSED nor QUENCHED, and
does nothing while `INJ_EN.EN` is clear. -/
def Obligations.InjectionArms : Prop :=
  (∀ (c : Core) (s : State), ∀ x ∈ ([
      (Instr.mldInjAccOvf c, PageKind.mld, MLD.INJ_ACC_OVF, (c : Nat)),
      (Instr.mldInjOpndCrc1 c, PageKind.mld, MLD.INJ_OPND_CRC1, (c : Nat)),
      (Instr.mldInjOpndCrc2 c, PageKind.mld, MLD.INJ_OPND_CRC2, (c : Nat)),
      (Instr.mldInjAccUe c, PageKind.mld, MLD.INJ_ACC_UE, (c : Nat)),
      (Instr.mldInjStatPar c, PageKind.mld, MLD.INJ_STAT_PAR, (c : Nat)),
      (Instr.asyInjCapUe c, PageKind.asy, ASY.INJ_CAP_UE, (c : Nat)),
      (Instr.asyInjImgCrc1 c, PageKind.asy, ASY.INJ_IMG_CRC1, (c : Nat)),
      (Instr.asyInjImgCrc2 c, PageKind.asy, ASY.INJ_IMG_CRC2, (c : Nat)),
      (Instr.asyInjBlkNf c, PageKind.asy, ASY.INJ_BLK_NF, (c : Nat)),
      (Instr.cruInjStoreUe c, PageKind.cru, CRU.INJ_STORE_UE, (c : Nat)),
      (Instr.cruInjPivot c, PageKind.cru, CRU.INJ_PIVOT, (c : Nat)),
      (Instr.cruInjImgCrc1 c, PageKind.cru, CRU.INJ_IMG_CRC1, (c : Nat)),
      (Instr.cruInjImgCrc2 c, PageKind.cru, CRU.INJ_IMG_CRC2, (c : Nat)),
      (Instr.cruInjSat c, PageKind.cru, CRU.INJ_SAT, (c : Nat)),
      (Instr.ldlInjCacheUe c, PageKind.ldl, LDL.INJ_CACHE_UE, (c : Nat)),
      (Instr.ldlInjTunCrc1 c, PageKind.ldl, LDL.INJ_TUN_CRC1, (c : Nat)),
      (Instr.ldlInjTunCrc2 c, PageKind.ldl, LDL.INJ_TUN_CRC2, (c : Nat)),
      (Instr.ldlInjRegPar c, PageKind.ldl, LDL.INJ_REG_PAR, (c : Nat)),
      (Instr.sprInjDescCrc1 c, PageKind.spr, SPR.INJ_DESC_CRC1, (c : Nat)),
      (Instr.sprInjDescCrc2 c, PageKind.spr, SPR.INJ_DESC_CRC2, (c : Nat)),
      (Instr.sprInjPatUe c, PageKind.spr, SPR.INJ_PAT_UE, (c : Nat)),
      (Instr.runInjSrcCrc1 c, PageKind.run, RUN.INJ_SRC_CRC1, (c : Nat)),
      (Instr.runInjSrcCrc2 c, PageKind.run, RUN.INJ_SRC_CRC2, (c : Nat)),
      (Instr.runInjRemoteErr c, PageKind.run, RUN.INJ_REMOTE_ERR, (c : Nat))] : List (Instr × PageKind × Fld × Nat)),
      (s.flag STW.INJ_EN_EN = true → s.pageState x.2.1 x.2.2.2 ≠ pgFused → s.pageState x.2.1 x.2.2.2 ≠ pgQuenched →
        exec x.1 s = .next (s.setFld x.2.2.1 1 x.2.2.2)) ∧
      (s.flag STW.INJ_EN_EN = false → exec x.1 s = .next s)) ∧
  (∀ s : State, ∀ x ∈ ([
      (Instr.frmInjChkFail, PageKind.pwr, PWR.FRM_INJ_CHK_FAIL, 0),
      (Instr.frmInjLate, PageKind.pwr, PWR.FRM_INJ_LATE, 0),
      (Instr.frmInjAlignLoss, PageKind.pwr, PWR.FRM_INJ_ALIGN_LOSS, 0),
      (Instr.ingInjRetry, PageKind.ing, ING.INJ_RETRY, 0), (Instr.ingInjReadFail, PageKind.ing, ING.INJ_READ_FAIL, 0),
      (Instr.ingInjProgFail, PageKind.ing, ING.INJ_PROG_FAIL, 0),
      (Instr.ingInjWbEmpty, PageKind.ing, ING.INJ_WB_EMPTY, 0),
      (Instr.routInjUnreach, PageKind.rout, ROUT.INJ_UNREACH, 0),
      (Instr.routInjTimeout, PageKind.rout, ROUT.INJ_TIMEOUT, 0), (Instr.colInjStale, PageKind.col, COL.INJ_STALE, 0),
      (Instr.colInjChunkCrc1, PageKind.col, COL.INJ_CHUNK_CRC1, 0),
      (Instr.colInjChunkCrc2, PageKind.col, COL.INJ_CHUNK_CRC2, 0),
      (Instr.swInjSealFlip, PageKind.col, COL.SW_INJ_SEAL_FLIP, 0),
      (Instr.swInjBallotDrop, PageKind.col, COL.SW_INJ_BALLOT_DROP, 0),
      (Instr.jnlInjTorn, PageKind.ing, ING.JNL_INJ_TORN, 0),
      (Instr.jnlInjRsrFull, PageKind.ing, ING.JNL_INJ_RSR_FULL, 0),
      (Instr.jnlInjCalBad, PageKind.ing, ING.JNL_INJ_CAL_BAD, 0),
      (Instr.pwrInjVinLow, PageKind.pwr, PWR.PWR_INJ_VIN_LOW, 0), (Instr.pwrInjHot, PageKind.pwr, PWR.PWR_INJ_HOT, 0),
      (Instr.pwrInjTrip, PageKind.pwr, PWR.PWR_INJ_TRIP, 0), (Instr.truInjBadSig, PageKind.tru, TRU.INJ_BAD_SIG, 0),
      (Instr.truInjRng, PageKind.tru, TRU.INJ_RNG, 0)] : List (Instr × PageKind × Fld × Nat)),
      (s.flag STW.INJ_EN_EN = true → s.pageState x.2.1 x.2.2.2 ≠ pgFused → s.pageState x.2.1 x.2.2.2 ≠ pgQuenched →
        exec x.1 s = .next (s.setFld x.2.2.1 1 x.2.2.2)) ∧
      (s.flag STW.INJ_EN_EN = false → exec x.1 s = .next s)) ∧
  (∀ (d : Die) (s : State), ∀ x ∈ ([
      (Instr.tunInjCe d, PageKind.tun, TUN.INJ_CE, (d : Nat)), (Instr.tunInjUe d, PageKind.tun, TUN.INJ_UE, (d : Nat)),
      (Instr.tunInjSidecar d, PageKind.tun, TUN.INJ_SIDECAR, (d : Nat))] : List (Instr × PageKind × Fld × Nat)),
      (s.flag STW.INJ_EN_EN = true → s.pageState x.2.1 x.2.2.2 ≠ pgFused → s.pageState x.2.1 x.2.2.2 ≠ pgQuenched →
        exec x.1 s = .next (s.setFld x.2.2.1 1 x.2.2.2)) ∧
      (s.flag STW.INJ_EN_EN = false → exec x.1 s = .next s)) ∧
  (∀ (k : Stack) (s : State), ∀ x ∈ ([
      (Instr.hbmInjCe k, PageKind.hbm, HBM.INJ_CE, (k : Nat)), (Instr.hbmInjUe k, PageKind.hbm, HBM.INJ_UE, (k : Nat)),
      (Instr.hbmInjPar1 k, PageKind.hbm, HBM.INJ_PAR1, (k : Nat)),
      (Instr.hbmInjHot k, PageKind.hbm, HBM.INJ_HOT, (k : Nat))] : List (Instr × PageKind × Fld × Nat)),
      (s.flag STW.INJ_EN_EN = true → s.pageState x.2.1 x.2.2.2 ≠ pgFused → s.pageState x.2.1 x.2.2.2 ≠ pgQuenched →
        exec x.1 s = .next (s.setFld x.2.2.1 1 x.2.2.2)) ∧
      (s.flag STW.INJ_EN_EN = false → exec x.1 s = .next s)) ∧
  (∀ (p : Port) (s : State), ∀ x ∈ ([
      (Instr.avlInjLcrc p, PageKind.avl, AVL.INJ_LCRC, (p : Nat)),
      (Instr.avlInjUncorr p, PageKind.avl, AVL.INJ_UNCORR, (p : Nat)),
      (Instr.avlInjLaneBad p, PageKind.avl, AVL.INJ_LANE_BAD, (p : Nat)),
      (Instr.avlInjAuth p, PageKind.avl, AVL.INJ_AUTH, (p : Nat))] : List (Instr × PageKind × Fld × Nat)),
      (s.flag STW.INJ_EN_EN = true → s.pageState x.2.1 x.2.2.2 ≠ pgFused → s.pageState x.2.1 x.2.2.2 ≠ pgQuenched →
        exec x.1 s = .next (s.setFld x.2.2.1 1 x.2.2.2)) ∧
      (s.flag STW.INJ_EN_EN = false → exec x.1 s = .next s)) ∧
  (∀ (a : BitVec 26) (s : State) (p : PageKind) (i o : Nat), headerAt s a.toNat = some (p, i, o) →
    (s.flag STW.INJ_EN_EN = true → s.pageState p i ≠ pgQuenched →
      exec (.hdrParityInj a) s = .next (s.setFld (HDR.HDR_PARITY_INJ p) 1 i)) ∧
    (s.flag STW.INJ_EN_EN = false → exec (.hdrParityInj a) s = .next s))

/-- R400: `QUENCH_EXIT` acts only when all four conditions hold; any other is counted and raises source 5; the nonce is drawn
afresh at every entry (the draw is a free value, log entry 3: nothing is said of its value). -/
def Obligations.QuenchExitIsVerified : Prop :=
  (∀ (e : BootEnv) (s t u : State) (n : Nat) (m : Packet) (ok : Bool), takeKind s 0x18 = some (n, m, t) →
    sigOk t (ownerOrVendor t) (exitSigned m) (slice m.body 24 512) = (ok, u) →
    (ok = true → u.quenched = true → fieldAt m.body 0 8 % 2 ^ 17 = u.self → fieldAt m.body 8 8 = u.reg STW.Q_COUNT →
      fieldAt m.body 16 8 = u.reg STW.Q_NONCE →
      exec (.quenchExit e) s = .next (warmBoot u e (if bit m.word 0 then 3 else 2) (bit m.word 0))) ∧
    (ok = false ∨ u.quenched = false ∨ fieldAt m.body 0 8 % 2 ^ 17 ≠ u.self ∨ fieldAt m.body 8 8 ≠ u.reg STW.Q_COUNT ∨
      fieldAt m.body 16 8 ≠ u.reg STW.Q_NONCE →
      exec (.quenchExit e) s = .next (raise .stw 0 5 (u.bump STW.Q_EXIT_REFUSED)))) ∧
  (∀ (s : State) (q : QCause) (qs : List QCause), s.Sound → s.quenched = false →
    (quench s q qs).reg STW.Q_NONCE = (Config.freeValue s.freeCtr).toNat)

/-- R448: with `SB_POLICY.RO` set a sideband write is carried out at the offsets of `Q_SWREQ`, `SVC_CMD` and `SVC_LAMP` and
refused at every other. -/
def Obligations.SidebandReadOnly : Prop :=
  ∀ (a v : BitVec 32) (w : BitVec 64) (e : BootEnv) (s : State), a.toNat < 2 ^ 26 → s.flag STW.SB_POLICY_RO = true →
    (a = 0x420 ∨ a = 0x308 ∨ a = 0x304 →
      exec (.sidebandWrite32 a v e) s = .next (sbAnswer (write32 (rstWrite e) s a.toNat v.toNat) 0 0) ∧
      exec (.sidebandWrite64 a w e) s = .next (sbAnswer (write64 (rstWrite e) s a.toNat w.toNat) 0 0)) ∧
    (a ≠ 0x420 → a ≠ 0x308 → a ≠ 0x304 →
      exec (.sidebandWrite32 a v e) s = .next (raise .stw 0 10 (sbAnswer (s.bump STW.SB_REFUSED) 2 0)) ∧
      exec (.sidebandWrite64 a w e) s = .next (raise .stw 0 10 (sbAnswer (s.bump STW.SB_REFUSED) 2 0)))

/-- R13: a 64-bit register is read whole by one access; the read of its low half latches the high half for the next read of it.
`FLT_SEV`, of 128 bits, is no 64-bit register (log entry 6). -/
def Obligations.HalvesReadOneValue : Prop :=
  ∀ (s : State) (a : Nat) (l : RegLoc), a % 8 = 0 → accessAt s a = some l → l.reg.wide = true → l.high = false →
    l.reg.off ≠ 0x20 → isRailData l = false → s.hiLatch.find? (fun x => x.1 == a) = none →
    (read64 s a).1 = viewReg s l ∧
    (read32 s a).1 = viewReg s l % 2 ^ 32 ∧
    ∀ u : State, u.hiLatch = (read32 s a).2.hiLatch →
      (read32 u (a + 4)).1 = viewReg s l / 2 ^ 32 % 2 ^ 32 ∧
      (read32 u (a + 4)).2.hiLatch.find? (fun x => x.1 == a + 4) = none ∧
      ({ (read32 u (a + 4)).2 with hiLatch := u.hiLatch } : State) = u

/-- R10 to R12, bit by bit: what a write that is only stored or ignored does. -/
def Obligations.AccessCodesHold : Prop :=
  ∀ (s : State) (l : RegLoc) (x mask : Nat), s.Sound → 0x100 ≤ l.reg.off → isInj l.reg = false →
    (l.reg.fuse = true → plainWrite s l x mask = s) ∧
    (l.reg.fuse = false →
      (∀ k, k < l.reg.width → bit ((plainWrite s l x mask).reg l.reg l.inst l.idx) k =
        if bit mask k && bit l.reg.w1s k && bit x k then true
        else if bit mask k && bit l.reg.w1c k && bit x k then false
        else if bit mask k && (bit l.reg.rw k || (bit l.reg.rwl k && !rwlLocked s l.reg.page l.inst)) then bit x k
        else bit (s.reg l.reg l.inst l.idx) k) ∧
      (∀ (q : Reg) (i j : Nat), q.addr i j ≠ l.reg.addr l.inst l.idx → (plainWrite s l x mask).reg q i j = s.reg q i j) ∧
      ({ plainWrite s l x mask with regs := s.regs } : State) = s)

/-- The register map drops and confuses no register: each is found at the offset its table gives it, in its page's range (R9,
R438, R439). -/
def Obligations.RegistersLieAtTheirOffsets : Prop :=
  ∀ p ∈ PageKind.all, ∀ i < p.count, ∀ r ∈ p.regs, ∀ j < r.count,
    regAt (r.addr i j) = some { reg := r, inst := i, idx := j, high := false } ∧
    (r.wide = true → regAt (r.addr i j + 4) = some { reg := r, inst := i, idx := j, high := true }) ∧
    p.base i ≤ r.addr i j ∧ r.addr i j < p.base i + p.size

/-- R385: what raising a source records, and that RECORD severity does nothing more (R388). `firstCk` is the model's note of the
ck in which a page's first fault was captured, by which the lowest of the sources of one ck is kept. -/
def Obligations.FaultIsRecorded : Prop :=
  ∀ (s : State) (p : PageKind) (i src : Nat), s.Sound → i < p.count → p.defines src = true → s.severity p i src = .record →
    (let t := raise p i src s
     let first := s.flag (HDR.FLT_FIRST_VALID p) i
     let lower := first && s.flag PWR.CLK_STATE_CK && sget 0 s.firstCk (p.base i) == s.ck + 1 &&
       decide (src < s.reg (HDR.FLT_FIRST p) i % 64)
     t.reg (HDR.FLT_STATUS p) i = s.reg (HDR.FLT_STATUS p) i ||| 2 ^ src ∧
     (src ≤ 15 → t.reg (HDR.FLT_COUNT p) i src = min (s.reg (HDR.FLT_COUNT p) i src + 1) (2 ^ 32 - 1)) ∧
     (first = false ∨ lower = true → t.reg (HDR.FLT_FIRST p) i = src + 2 ^ 31) ∧
     (first = false → t.reg (HDR.FLT_FIRST_FRAME p) i 0 = s.frame % 2 ^ 32 ∧
       t.reg (HDR.FLT_FIRST_FRAME p) i 1 = s.frame / 2 ^ 32 % 2 ^ 16) ∧
     (∀ (q : Reg) (j k : Nat), q.addr j k ≠ (HDR.FLT_STATUS p).addr i 0 →
       (src ≤ 15 → q.addr j k ≠ (HDR.FLT_COUNT p).addr i src) →
       (first = false ∨ lower = true → q.addr j k ≠ (HDR.FLT_FIRST p).addr i 0) →
       (first = false → q.addr j k ≠ (HDR.FLT_FIRST_FRAME p).addr i 0 ∧ q.addr j k ≠ (HDR.FLT_FIRST_FRAME p).addr i 1) →
       t.reg q j k = s.reg q j k) ∧
     ({ t with regs := s.regs, firstCk := s.firstCk } : State) = s)

/-- R385: the two clears, each an equation for the next state: the counts, `FLT_FIRST` and whatever the source did stay. -/
def Obligations.FaultClearsComplete : Prop :=
  ∀ (a : BitVec 26) (v : BitVec 64) (s : State) (p : PageKind) (i o : Nat), headerAt s a.toNat = some (p, i, o) →
    (let st := s.reg (HDR.FLT_STATUS p) i
     (o = 0x10 → exec (.fltStatusClear a v) s = .next (s.setReg (HDR.FLT_STATUS p) (st - (st &&& v.toNat)) i)) ∧
     (o = 0x14 → exec (.fltStatusClear a v) s =
       .next (s.setReg (HDR.FLT_STATUS p) (st - (st &&& (v.toNat % 2 ^ 32 * 2 ^ 32))) i)) ∧
     (o = 0x30 → exec (.fltFirstClear a) s = .next (s.setFld (HDR.FLT_FIRST_VALID p) 0 i)))

/-- R392: the winner among causes of one ck. Pages stand in the order of their offsets, which the block type and the instance
give. -/
def Obligations.FirstCauseWins : Prop :=
  ∀ (q : QCause) (qs : List QCause),
    (let w := firstCause q qs
     w ∈ q :: qs ∧ ∀ x ∈ q :: qs, w.code < x.code ∨ (w.code = x.code ∧ (w.type < x.type ∨ (w.type = x.type ∧
       (w.inst < x.inst ∨ (w.inst = x.inst ∧ w.src ≤ x.src))))))

/-- R392 to R394: what holds when the device has entered quench, and what a later cause does. -/
def Obligations.QuenchStopsTheDevice : Prop :=
  ∀ (s : State) (q : QCause) (qs : List QCause), s.Sound →
    (s.quenched = true → quench s q qs = s.bump STW.Q_LATER (1 + qs.length)) ∧
    (s.quenched = false → s.tru.rngBad = false →
      (let t := quench s q qs
       let w := firstCause q qs
       t.quenched = true ∧
       t.reg STW.Q_CAUSE = (w.code + w.type * 2 ^ 4 + w.inst * 2 ^ 12 + w.src * 2 ^ 20) % 2 ^ 32 ∧
       t.reg STW.Q_COUNT = min (s.reg STW.Q_COUNT + 1) (2 ^ 32 - 1) ∧
       t.reg STW.Q_LATER = qs.length % 2 ^ 32 ∧
       t.reg STW.Q_FRAME = s.frame ∧
       (∀ c, c < 4 → t.stream c = stQuenched ∧ (t.core c).spr.cur = none) ∧
       (∀ p ∈ PageKind.all, ∀ i < p.count, p.quenches = true →
         t.pageState p i = if s.pageState p i = pgFused then pgFused else pgQuenched) ∧
       t.hbm = s.hbm ∧ t.tun.bytes = s.tun.bytes ∧ t.tun.side = s.tun.side ∧ t.tun.badWords = s.tun.badWords ∧
       t.tun.fenced = s.tun.fenced ∧ t.ing.bytes = s.ing.bytes ∧ t.ing.side = s.ing.side ∧ t.fuses = s.fuses))

/-- R178, R179: the effect of a signal on every counter of a core. A change's key orders it by ck, and in one ck the signals before
the set that replaces their result. -/
def Obligations.SignalsCount : Prop :=
  ∀ (s : State) (c id : Nat), c < 4 → swf 0 (s.core c).spr.tokens = true →
    (s.core c).spr.fresh.Pairwise (fun x y => x.key ≤ y.key) →
    (let upTo := fun (u : State) (j : Nat) => tokenWith u c j (fun x => decide (x.key ≤ 2 * s.ck))
     let t := signalToken s c id s.ck
     (upTo s id = 0xFFFF → t = raise .spr c 7 s) ∧
     (upTo s id ≠ 0xFFFF →
       (∀ j, t.token c j = s.token c j) ∧
       (∀ j, upTo t j = if j = id then min 0xFFFF (upTo s j + 1) else upTo s j) ∧
       (t.core c).spr.fresh.filter (fun x => decide (2 * s.ck < x.key)) =
         (s.core c).spr.fresh.filter (fun x => decide (2 * s.ck < x.key)) ∧
       (∀ d j, d < 4 → d ≠ c → t.token d j = s.token d j) ∧ t.regs = s.regs))

/-- R289: the action by the distance of a flit's number from the one expected, on a link without encryption. -/
def Obligations.ReceiverActsByDistance : Prop :=
  ∀ (s : State) (p : Nat) (f : Flit) (k : Nat), p < 24 → encOn s p = false → (s.link p).exp < 2 ^ 24 →
    (let e := (s.link p).exp
     (f.seq = e → f.kind ≠ fkTag → takeSeq s p f = deliverFlit (modLink s p (fun l => { l with
       exp := (l.exp + 1) % 2 ^ 24, nakCk := none, nakDue := false,
       rxWraps := if l.exp + 1 = 2 ^ 24 then l.rxWraps + 1 else l.rxWraps })) p f) ∧
     (1 ≤ k → k ≤ 4095 → f.seq = (e + k) % 2 ^ 24 → takeSeq s p f = askNak s p) ∧
     (1 ≤ k → k ≤ 4096 → f.seq = (e + (2 ^ 24 - k)) % 2 ^ 24 → takeSeq s p f = s) ∧
     (4096 ≤ k → k < 2 ^ 24 - 4096 → f.seq = (e + k) % 2 ^ 24 → takeSeq s p f = startRetrain (s.bump AVL.PROTO_ERR 1 p) p))

/-- R367, R368, R459: what one append does to the journal's tail and its registers. -/
def Obligations.JournalAppends : Prop :=
  ∀ (s : State) (type : Nat) (payload : List Byte) (actor host : Nat), s.Sound →
    (let t := jnlAppend s type payload actor host
     let r : JRec := {
       seq := s.reg ING.JNL_SEQ, type := type, epoch := s.reg COL.SW_EPOCH, frame := s.frame, actor := actor, host := host,
       payload := payload }
     (jnlRoom s = true → t.jnl = { s.jnl with tail := s.jnl.tail ++ [r] } ∧
       t.reg ING.JNL_SEQ = (s.reg ING.JNL_SEQ + 1) % 2 ^ 64 ∧ t.reg ING.JNL_TAIL = ((s.jnl.tail.length + 4) / 4) % 2 ^ 32) ∧
     (jnlRoom s = false → jnlInSram s = true → t = s.bump ING.JNL_DISCARDED) ∧
     (jnlRoom s = false → jnlInSram s = false → t.jnl = { s.jnl with waiting := s.jnl.waiting ++ [{ r with seq := 0 }] } ∧
       t.flag ING.JNL_STATE_TAIL_FULL = true) ∧
     ({ t with jnl := s.jnl, regs := s.regs } : State) = s)

/-- R35, R47, R49: exact values are not moved by rounding, whatever the mode. -/
def Obligations.SmallFormatsRoundTrip : Prop :=
  ∀ f ∈ [Fmt.e5m2, .e4m3, .e3m4, .e2m1], ∀ x < 2 ^ f.width, (decodeFloat f x).isFin = true → ∀ m : Rnd,
    (∀ r, m = .sr r → r < 2 ^ 32) → (convFloat f m (decodeFloat f x)).1 = x ∧
    (convFloat f m (decodeFloat f x)).2.sat = 0
end

