-- ==== Sys2Proof/Laws/Crypto.lean ====
section
/-!
SUPPORT. Laws/Crypto.lean: numbers as bytes and back, the lengths the algorithms give, and that a signature verifies and a
cipher text decrypts under a key whose two exponents undo each other.
-/
namespace Sys2Proof.Machine

open Sys2Proof

/-! ## Numbers as bytes -/

@[simp] theorem leBytes_length (k n : Nat) : (leBytes k n).length = k := by
  induction k generalizing n with
  | zero => rfl
  | succ k ih => simp [leBytes, ih]

@[simp] theorem beBytes_length (k n : Nat) : (beBytes k n).length = k := by simp [beBytes]

theorem leNat_leBytes (k n : Nat) : leNat (leBytes k n) = n % 256 ^ k := by
  induction k generalizing n with
  | zero => simp [leBytes, leNat, Nat.mod_one]
  | succ k ih =>
    have e : 256 ^ (k + 1) = 256 * 256 ^ k := by ring
    rw [leBytes, leNat, ih, e, Nat.mod_mul, BitVec.toNat_ofNat]

theorem leBytes_leNat (b : List Byte) : leBytes b.length (leNat b) = b := by
  induction b with
  | nil => rfl
  | cons x b ih =>
    have h1 : (x.toNat + 256 * leNat b) / 256 = leNat b := by have := x.isLt; omega
    have h2 : BitVec.ofNat 8 (x.toNat + 256 * leNat b) = x := by
      apply BitVec.eq_of_toNat_eq; have := x.isLt; simp; omega
    simp only [List.length_cons, leNat, leBytes, h1, h2, ih]

theorem leNat_lt (b : List Byte) : leNat b < 256 ^ b.length := by
  induction b with
  | nil => simp [leNat]
  | cons x b ih =>
    have := x.isLt
    simp only [leNat, List.length_cons, Nat.pow_succ]
    omega

theorem beNat_eq (b : List Byte) : beNat b = leNat b.reverse := by
  have h : ∀ (b : List Byte) (a : Nat), b.foldl (fun a x => a * 256 + x.toNat) a = a * 256 ^ b.length + leNat b.reverse := by
    intro b
    induction b with
    | nil => simp [leNat]
    | cons x b ih =>
      intro a
      have e : ∀ (c : List Byte), leNat (c ++ [x]) = leNat c + 256 ^ c.length * x.toNat := by
        intro c
        induction c with
        | nil => simp [leNat]
        | cons y c ihc => simp only [List.cons_append, leNat, ihc, List.length_cons, Nat.pow_succ]; ring
      simp only [List.foldl_cons, ih, List.reverse_cons, e, List.length_cons, List.length_reverse, Nat.pow_succ]
      ring
  have := h b 0
  rwa [Nat.zero_mul, Nat.zero_add] at this

theorem beBytes_beNat (b : List Byte) : beBytes b.length (beNat b) = b := by
  rw [beNat_eq, beBytes, ← List.length_reverse, leBytes_leNat, List.reverse_reverse]

theorem beNat_beBytes (k n : Nat) : beNat (beBytes k n) = n % 256 ^ k := by
  rw [beNat_eq, beBytes, List.reverse_reverse, leNat_leBytes]

theorem beNat_lt (b : List Byte) : beNat b < 256 ^ b.length := by
  rw [beNat_eq]; simpa using leNat_lt b.reverse

/-! ## Lengths -/

theorem shaRound_length (h : List Nat) (kw : Nat) (e : h.length = 8) : (shaRound h kw).length = 8 := by
  unfold shaRound; split <;> simp_all

theorem shaBlock_length (ks h : List Nat) (b : List Byte) (e : h.length = 8) : (shaBlock ks h b).length = 8 := by
  have : ∀ (l : List (Nat × Nat)) (h : List Nat), h.length = 8 → (l.foldl (fun h x => shaRound h (x.1 + x.2)) h).length = 8 := by
    intro l
    induction l with
    | nil => exact fun h e => e
    | cons x l ih => exact fun h e => ih _ (shaRound_length h _ e)
  simp [shaBlock, this _ h e, e]

theorem shaBlocks_length (ks : List Nat) (n : Nat) (b : List Byte) (h : List Nat) (e : h.length = 8) :
    (shaBlocks ks n b h).length = 8 := by
  induction n generalizing b h with
  | zero => exact e
  | succ n ih => exact ih _ _ (shaBlock_length ks h _ e)

@[simp] theorem sha512_length (m : List Byte) : (sha512 m).length = 64 := by
  have flat : ∀ l : List Nat, (l.flatMap (beBytes 8)).length = l.length * 8 := by
    intro l
    induction l with
    | nil => rfl
    | cons x l ih => simp only [List.flatMap_cons, List.length_append, ih, beBytes_length, List.length_cons]; omega
  unfold sha512
  rw [flat, shaBlocks_length _ _ _ _ (by rfl)]

@[simp] theorem mgf1_length (seed : List Byte) (n : Nat) : (mgf1 seed n).length = n := by
  have flat : ∀ l : List Nat, (l.flatMap (fun i => sha512 (seed ++ beBytes 4 i))).length = l.length * 64 := by
    intro l
    induction l with
    | nil => rfl
    | cons x l ih => simp only [List.flatMap_cons, List.length_append, ih, sha512_length, List.length_cons]; omega
  have : n ≤ ceilDiv n 64 * 64 := by
    have e : ceilDiv n 64 = (n + 64 - 1) / 64 := by simp [ceilDiv]
    rw [e]; omega
  simp [mgf1, flat, this]

@[simp] theorem xorBytes_length (a b : List Byte) : (xorBytes a b).length = min a.length b.length := by simp [xorBytes]

/-- A mask taken off again. -/
theorem xorBytes_twice (a b : List Byte) (h : a.length ≤ b.length) : xorBytes (xorBytes a b) b = a := by
  induction a generalizing b with
  | nil => rfl
  | cons x a ih =>
    cases b with
    | nil => simp at h
    | cons y b =>
      simp only [xorBytes, List.zip_cons_cons, List.map_cons] at ih ⊢
      rw [ih b (by simpa using h), BitVec.xor_assoc, BitVec.xor_self, BitVec.xor_zero]

/-! ## The two schemes undo themselves -/

/-- The exponents `d` and `e` undo each other on every number below the 4,096-bit modulus `n` (R420, R421). -/
structure KeyPair (n d e : Nat) : Prop where
  low : 128 * 256 ^ 511 ≤ n
  high : n ≤ 256 ^ 512
  power : ∀ x < n, modPow n 4096 x d 1 < n
  undo : ∀ x < n, modPow n 64 (modPow n 4096 x d 1) e 1 = x
  power' : ∀ x < n, modPow n 64 x e 1 < n
  undo' : ∀ x < n, modPow n 4096 (modPow n 64 x e 1) d 1 = x

theorem modPow_zero (n f b acc : Nat) : modPow n f b 0 acc = acc := by
  induction f generalizing b with
  | zero => rfl
  | succ f ih => simp [modPow, ih]

theorem modPow_one (n f b : Nat) (h : b < n) : modPow n (f + 1) b 1 1 = b := by simp [modPow, modPow_zero, Nat.mod_eq_of_lt h]

/-- A key whose exponents are both 1: the pair that the witnesses use. -/
theorem keyPair_one (n : Nat) (l : 128 * 256 ^ 511 ≤ n) (u : n ≤ 256 ^ 512) : KeyPair n 1 1 where
  low := l
  high := u
  power x h := by rwa [modPow_one _ _ _ h]
  undo x h := by rw [modPow_one _ _ _ h, modPow_one _ _ _ h]
  power' x h := by rwa [modPow_one _ _ _ h]
  undo' x h := by rw [modPow_one _ _ _ h, modPow_one _ _ _ h]

theorem beNat_cons (x : Byte) (b : List Byte) : beNat (x :: b) = x.toNat * 256 ^ b.length + beNat b := by
  have e : ∀ (c : List Byte), leNat (c ++ [x]) = leNat c + 256 ^ c.length * x.toNat := by
    intro c
    induction c with
    | nil => simp [leNat]
    | cons y c ihc => simp only [List.cons_append, leNat, ihc, List.length_cons, Nat.pow_succ]; ring
  rw [beNat_eq, beNat_eq, List.reverse_cons, e, List.length_reverse]
  ring

/-- 512 bytes whose first bit is 0 spell a number below the modulus. -/
theorem beNat_below (x : Byte) (b : List Byte) (n : Nat) (hx : x.toNat < 128) (hb : b.length = 511) (hn : 128 * 256 ^ 511 ≤ n) :
    beNat (x :: b) < n := by
  refine Nat.lt_of_lt_of_le ?_ hn
  have h := beNat_lt b
  rw [beNat_cons, hb] at *
  generalize (256 : Nat) ^ 511 = m at *
  have : x.toNat * m ≤ 127 * m := Nat.mul_le_mul_right m (by omega)
  omega

theorem beNat_beBytes_of_lt {k n x : Nat} (hn : n ≤ 256 ^ k) (hx : x < n) : beNat (beBytes k x) = x := by
  rw [beNat_beBytes, Nat.mod_eq_of_lt (Nat.lt_of_lt_of_le hx hn)]

/-- R421: a signature made with one exponent verifies with the other. -/
theorem pssVerify_pssSign {n d e : Nat} (k : KeyPair n d e) (digest salt : List Byte) (hs : salt.length = 64) :
    pssVerify (n, e) digest (pssSign n d digest salt) = true := by
  have hn : n ≤ 256 ^ 512 := k.high
  generalize hh : pssHash digest salt = h
  have lh : h.length = 64 := by rw [← hh]; exact sha512_length _
  generalize hm : mgf1 h 447 = m
  have lm : m.length = 447 := by rw [← hm]; exact mgf1_length _ _
  obtain ⟨m0, m', rfl⟩ : ∃ m0 m', m = m0 :: m' := by cases m with | nil => simp at lm | cons a b => exact ⟨a, b, rfl⟩
  have lm' : m'.length = 446 := by simpa using lm
  obtain ⟨z, hz, lz⟩ : ∃ z : List Byte, List.replicate 382 (0 : Byte) = 0 :: z ∧ z.length = 381 :=
    ⟨List.replicate 381 0, List.replicate_succ, List.length_replicate ..⟩
  generalize ht : z ++ [1] ++ salt = t
  have lt : t.length = 446 := by rw [← ht]; simp [hs, lz]
  have e0 : List.replicate 382 (0 : Byte) ++ [1] ++ salt = 0 :: t := by rw [← ht, hz]; rfl
  have ex : xorBytes (0 :: t) (m0 :: m') = m0 :: xorBytes t m' := by simp [xorBytes]
  generalize hb : (BitVec.ofNat 8 (m0.toNat % 128) : Byte) = b0
  have h0 : b0.toNat < 128 := by rw [← hb]; simp; omega
  have hem : beNat (b0 :: (xorBytes t m' ++ h ++ [0xBC])) < n :=
    beNat_below _ _ _ h0 (by simp [lt, lm', lh]) k.low
  have sg : pssSign n d digest salt = beBytes 512 (modPow n 4096 (beNat (b0 :: (xorBytes t m' ++ h ++ [0xBC]))) d 1) := by
    simp only [pssSign, hh, hm, e0, ex, List.headD_cons, List.drop_succ_cons, List.drop_zero, hb, List.cons_append]
  have em : beBytes 512 (beNat (b0 :: (xorBytes t m' ++ h ++ [0xBC]))) = b0 :: (xorBytes t m' ++ h ++ [0xBC]) := by
    have := beBytes_beNat (b0 :: (xorBytes t m' ++ h ++ [0xBC]))
    simpa [lt, lm', lh] using this
  have d0 : BitVec.ofNat 8 ((b0 ^^^ m0).toNat % 128) = (0 : Byte) := by
    have : ∀ m0 : Byte, BitVec.ofNat 8 ((BitVec.ofNat 8 (m0.toNat % 128) ^^^ m0).toNat % 128) = (0 : Byte) := by decide +kernel
    rw [← hb]; exact this m0
  have take : (b0 :: (xorBytes t m' ++ h ++ [0xBC])).take 447 = b0 :: xorBytes t m' := by
    simp [lt, lm']
  have drp : ((b0 :: (xorBytes t m' ++ h ++ [0xBC])).drop 447).take 64 = h := by
    simp [lt, lm', lh]
  have last : (b0 :: (xorBytes t m' ++ h ++ [0xBC])).getLastD 0 = 0xBC := by
    simp [List.getLastD]
  rw [pssVerify, sg]
  simp only [beNat_beBytes_of_lt hn (k.power _ hem), k.undo _ hem, em, take, drp, last, hm]
  have x2 : xorBytes (b0 :: xorBytes t m') (m0 :: m') = (b0 ^^^ m0) :: t := by
    have := xorBytes_twice t m' (by omega)
    simpa [xorBytes] using this
  have t1 : (0 :: t).take 383 = List.replicate 382 0 ++ [1] := by
    rw [hz, ← ht]; simp [List.take_append, lz, List.take_of_length_le]
  have t2 : (0 :: t).drop 383 = salt := by rw [← ht]; simp [List.drop_append, lz]
  simp only [x2, List.headD_cons, List.drop_succ_cons, List.drop_zero, d0]
  rw [t1]
  have t2' : t.drop 382 = salt := by simpa using t2
  simp only [t2', hh, beBytes_length, k.power _ hem, h0, and_self, decide_true, beq_self_eq_true, Bool.and_self]

/-- R421: a message of at most 382 bytes encrypted with one exponent decrypts with the other. -/
theorem oaepDecrypt_oaepEncrypt {n d e : Nat} (k : KeyPair n d e) (msg seed : List Byte) (hm : msg.length ≤ 382)
    (hs : seed.length = 64) : oaepDecrypt n d (oaepEncrypt (n, e) msg seed) = some msg := by
  have hn : n ≤ 256 ^ 512 := k.high
  have ll : oaepLabel.length = 64 := sha512_length _
  generalize hd : oaepLabel ++ List.replicate (447 - 64 - 1 - msg.length) 0 ++ [1] ++ msg = db
  have ld : db.length = 447 := by rw [← hd]; simp [ll]; omega
  generalize hx : xorBytes db (mgf1 seed 447) = mdb
  have lx : mdb.length = 447 := by rw [← hx]; simp [ld]
  generalize hy : xorBytes seed (mgf1 mdb 64) = ms
  have ly : ms.length = 64 := by rw [← hy]; simp [hs]
  have hem : beNat (0 :: (ms ++ mdb)) < n := beNat_below _ _ _ (by decide) (by simp [lx, ly]) k.low
  have cf : oaepEncrypt (n, e) msg seed = beBytes 512 (modPow n 64 (beNat (0 :: (ms ++ mdb))) e 1) := by
    simp only [oaepEncrypt, hd, hx, hy, List.cons_append]
  have em : beBytes 512 (beNat (0 :: (ms ++ mdb))) = 0 :: (ms ++ mdb) := by
    have := beBytes_beNat (0 :: (ms ++ mdb))
    simpa [lx, ly] using this
  have a1 : ((0 :: (ms ++ mdb)).drop 1).take 64 = ms := by simp [ly]
  have a2 : (0 :: (ms ++ mdb)).drop 65 = mdb := by simp [ly]
  have b1 : xorBytes ms (mgf1 mdb 64) = seed := by rw [← hy]; exact xorBytes_twice _ _ (by simp [hs])
  have b2 : xorBytes mdb (mgf1 seed 447) = db := by rw [← hx]; exact xorBytes_twice _ _ (by simp [ld])
  have c1 : db.take 64 = oaepLabel := by rw [← hd]; simp [ll]
  have c2 : (db.drop 64).dropWhile (fun x => x == 0) = 1 :: msg := by
    have : ∀ j : Nat, (List.replicate j (0 : Byte) ++ ([1] ++ msg)).dropWhile (fun x => x == 0) = 1 :: msg := by
      intro j; induction j with
      | zero => rfl
      | succ j ih => simpa [List.replicate_succ] using ih
    rw [← hd]
    simpa [List.drop_append, ll] using this _
  rw [oaepDecrypt, cf]
  simp only [beNat_beBytes_of_lt hn (k.power' _ hem), k.undo' _ hem, em, a1, a2, b1, b2, c1, c2]
  simp only [beBytes_length, k.power' _ hem]
  simp

end Sys2Proof.Machine
end

