-- ==== Sys2Proof/Laws/Exec.lean ====
section
/-!
SUPPORT. Laws/Exec.lean: one lemma per arm of the dispatch: which meaning a command has.
-/
namespace Sys2Proof.Machine

open Sys2Proof

@[simp] theorem exec_coldReset (e : BootEnv) (s : State) : exec (.coldReset e) s = execColdReset e s := rfl
@[simp] theorem exec_rstCmd (v : BitVec 16) (e : BootEnv) (s : State) : exec (.rstCmd v e) s = execRstCmd v e s := rfl
@[simp] theorem exec_inputRecovery (e : BootEnv) (s : State) : exec (.inputRecovery e) s = execInputRecovery e s := rfl
@[simp] theorem exec_bootStepOvertime (step : Fin 9) (s : State) : exec (.bootStepOvertime step) s = execBootStepOvertime step s := rfl
@[simp] theorem exec_regulatorRetry (e : BootEnv) (s : State) : exec (.regulatorRetry e) s = execRegulatorRetry e s := rfl
@[simp] theorem exec_powerFailTrip (pin : Bool) (mv : Nat) (s : State) : exec (.powerFailTrip pin mv) s = execPowerFailTrip pin mv s := rfl
@[simp] theorem exec_flushComplete (s : State) : exec (.flushComplete) s = execFlushComplete s := rfl
@[simp] theorem exec_inputSample (mv : Nat) (ma : Nat) (s : State) : exec (.inputSample mv ma) s = execInputSample mv ma s := rfl
@[simp] theorem exec_railOutOfRegulation (d : Die) (rail : Fin 11) (s : State) : exec (.railOutOfRegulation d rail) s = execRailOutOfRegulation d rail s := rfl
@[simp] theorem exec_sensorRead (sensor : Fin 160) (deci : Int) (s : State) : exec (.sensorRead sensor deci) s = execSensorRead sensor deci s := rfl
@[simp] theorem exec_refclkLoss (s : State) : exec (.refclkLoss) s = execRefclkLoss s := rfl
@[simp] theorem exec_staggerGrant (s : State) : exec (.staggerGrant) s = execStaggerGrant s := rfl
@[simp] theorem exec_pinCtrlWrite (v : BitVec 32) (s : State) : exec (.pinCtrlWrite v) s = execPinCtrlWrite v s := rfl
@[simp] theorem exec_frameTick (energy : Nat) (s : State) : exec (.frameTick energy) s = execFrameTick energy s := rfl
@[simp] theorem exec_periodChange (s : State) : exec (.periodChange) s = execPeriodChange s := rfl
@[simp] theorem exec_timingModeChange (s : State) : exec (.timingModeChange) s = execTimingModeChange s := rfl
@[simp] theorem exec_idleFrame (s : State) : exec (.idleFrame) s = execIdleFrame s := rfl
@[simp] theorem exec_frameCheck (s : State) : exec (.frameCheck) s = execFrameCheck s := rfl
@[simp] theorem exec_slackExceeded (c : Core) (s : State) : exec (.slackExceeded c) s = execSlackExceeded c s := rfl
@[simp] theorem exec_replayBudgetExceeded (c : Core) (s : State) : exec (.replayBudgetExceeded c) s = execReplayBudgetExceeded c s := rfl
@[simp] theorem exec_beacon (ps : Int) (s : State) : exec (.beacon ps) s = execBeacon ps s := rfl
@[simp] theorem exec_beaconTimeout (s : State) : exec (.beaconTimeout) s = execBeaconTimeout s := rfl
@[simp] theorem exec_stretch (s : State) : exec (.stretch) s = execStretch s := rfl
@[simp] theorem exec_grdProfileReqWrite (v : Bool) (s : State) : exec (.grdProfileReqWrite v) s = execGrdProfileReqWrite v s := rfl
@[simp] theorem exec_grdBschedLockWrite (v : Bool) (s : State) : exec (.grdBschedLockWrite v) s = execGrdBschedLockWrite v s := rfl
@[simp] theorem exec_bridgeWordCorrected (d : Die) (s : State) : exec (.bridgeWordCorrected d) s = execBridgeWordCorrected d s := rfl
@[simp] theorem exec_bridgeWordUncorrectable (d : Die) (s : State) : exec (.bridgeWordUncorrectable d) s = execBridgeWordUncorrectable d s := rfl
@[simp] theorem exec_bridgeLoss (s : State) : exec (.bridgeLoss) s = execBridgeLoss s := rfl
@[simp] theorem exec_promoteRequest (c : Fin 4) (s : State) : exec (.promoteRequest c) s = execPromoteRequest c s := rfl
@[simp] theorem exec_promoteCopyDone (bad : PromoBad) (s : State) : exec (.promoteCopyDone bad) s = execPromoteCopyDone bad s := rfl
@[simp] theorem exec_promoteSwitch (s : State) : exec (.promoteSwitch) s = execPromoteSwitch s := rfl
@[simp] theorem exec_matmul (c : Core) (s : State) : exec (.matmul c) s = execMatmul c s := rfl
@[simp] theorem exec_rampUp (c : Core) (s : State) : exec (.rampUp c) s = execRampUp c s := rfl
@[simp] theorem exec_rampDown (c : Core) (s : State) : exec (.rampDown c) s = execRampDown c s := rfl
@[simp] theorem exec_mldLoadStart (c : Core) (s : State) : exec (.mldLoadStart c) s = execMldLoadStart c s := rfl
@[simp] theorem exec_mldLoadEnd (c : Core) (s : State) : exec (.mldLoadEnd c) s = execMldLoadEnd c s := rfl
@[simp] theorem exec_mldStreamStart (c : Core) (s : State) : exec (.mldStreamStart c) s = execMldStreamStart c s := rfl
@[simp] theorem exec_mldStreamEnd (c : Core) (s : State) : exec (.mldStreamEnd c) s = execMldStreamEnd c s := rfl
@[simp] theorem exec_accOverflowMark (c : Core) (s : State) : exec (.accOverflowMark c) s = execAccOverflowMark c s := rfl
@[simp] theorem exec_mldRoundComplete (c : Core) (s : State) : exec (.mldRoundComplete c) s = execMldRoundComplete c s := rfl
@[simp] theorem exec_mldDrainStart (c : Core) (s : State) : exec (.mldDrainStart c) s = execMldDrainStart c s := rfl
@[simp] theorem exec_mldDrainEnd (c : Core) (s : State) : exec (.mldDrainEnd c) s = execMldDrainEnd c s := rfl
@[simp] theorem exec_mldOperandTileArrive (c : Core) (s : State) : exec (.mldOperandTileArrive c) s = execMldOperandTileArrive c s := rfl
@[simp] theorem exec_mldArrayWarm (c : Core) (s : State) : exec (.mldArrayWarm c) s = execMldArrayWarm c s := rfl
@[simp] theorem exec_mldIdleGateExpire (c : Core) (s : State) : exec (.mldIdleGateExpire c) s = execMldIdleGateExpire c s := rfl
@[simp] theorem exec_mldArrayCold (c : Core) (s : State) : exec (.mldArrayCold c) s = execMldArrayCold c s := rfl
@[simp] theorem exec_cov (c : Core) (s : State) : exec (.cov c) s = execCov c s := rfl
@[simp] theorem exec_asyExport (c : Core) (s : State) : exec (.asyExport c) s = execAsyExport c s := rfl
@[simp] theorem exec_blend (c : Core) (s : State) : exec (.blend c) s = execBlend c s := rfl
@[simp] theorem exec_sqnorm (c : Core) (s : State) : exec (.sqnorm c) s = execSqnorm c s := rfl
@[simp] theorem exec_noise (c : Core) (s : State) : exec (.noise c) s = execNoise c s := rfl
@[simp] theorem exec_asyNsUpdatesWrite (c : Core) (v : BitVec 32) (s : State) : exec (.asyNsUpdatesWrite c v) s = execAsyNsUpdatesWrite c v s := rfl
@[simp] theorem exec_storePortGrant (c : Core) (s : State) : exec (.storePortGrant c) s = execStorePortGrant c s := rfl
@[simp] theorem exec_chol (c : Core) (s : State) : exec (.chol c) s = execChol c s := rfl
@[simp] theorem exec_ldl (c : Core) (s : State) : exec (.ldl c) s = execLdl c s := rfl
@[simp] theorem exec_trsm (c : Core) (s : State) : exec (.trsm c) s = execTrsm c s := rfl
@[simp] theorem exec_inv (c : Core) (s : State) : exec (.inv c) s = execInv c s := rfl
@[simp] theorem exec_iroot (c : Core) (s : State) : exec (.iroot c) s = execIroot c s := rfl
@[simp] theorem exec_root (c : Core) (s : State) : exec (.root c) s = execRoot c s := rfl
@[simp] theorem exec_orth (c : Core) (s : State) : exec (.orth c) s = execOrth c s := rfl
@[simp] theorem exec_damp (c : Core) (s : State) : exec (.damp c) s = execDamp c s := rfl
@[simp] theorem exec_ema (c : Core) (s : State) : exec (.ema c) s = execEma c s := rfl
@[simp] theorem exec_delta (c : Core) (s : State) : exec (.delta c) s = execDelta c s := rfl
@[simp] theorem exec_rescale (c : Core) (s : State) : exec (.rescale c) s = execRescale c s := rfl
@[simp] theorem exec_import (c : Core) (s : State) : exec (.import c) s = execImport c s := rfl
@[simp] theorem exec_cruExport (c : Core) (s : State) : exec (.cruExport c) s = execCruExport c s := rfl
@[simp] theorem exec_define (c : Core) (s : State) : exec (.define c) s = execDefine c s := rfl
@[simp] theorem exec_cruStepStart (c : Core) (s : State) : exec (.cruStepStart c) s = execCruStepStart c s := rfl
@[simp] theorem exec_cruStepEnd (c : Core) (s : State) : exec (.cruStepEnd c) s = execCruStepEnd c s := rfl
@[simp] theorem exec_cruResume (c : Core) (s : State) : exec (.cruResume c) s = execCruResume c s := rfl
@[simp] theorem exec_cruDeadline (c : Core) (s : State) : exec (.cruDeadline c) s = execCruDeadline c s := rfl
@[simp] theorem exec_load (c : Core) (s : State) : exec (.load c) s = execLoad c s := rfl
@[simp] theorem exec_store (c : Core) (s : State) : exec (.store c) s = execStore c s := rfl
@[simp] theorem exec_zero (c : Core) (s : State) : exec (.zero c) s = execZero c s := rfl
@[simp] theorem exec_elemAdd (c : Core) (s : State) : exec (.elemAdd c) s = execElemAdd c s := rfl
@[simp] theorem exec_elemSub (c : Core) (s : State) : exec (.elemSub c) s = execElemSub c s := rfl
@[simp] theorem exec_elemMul (c : Core) (s : State) : exec (.elemMul c) s = execElemMul c s := rfl
@[simp] theorem exec_elemFma (c : Core) (s : State) : exec (.elemFma c) s = execElemFma c s := rfl
@[simp] theorem exec_elemMax (c : Core) (s : State) : exec (.elemMax c) s = execElemMax c s := rfl
@[simp] theorem exec_elemMin (c : Core) (s : State) : exec (.elemMin c) s = execElemMin c s := rfl
@[simp] theorem exec_elemAbs (c : Core) (s : State) : exec (.elemAbs c) s = execElemAbs c s := rfl
@[simp] theorem exec_elemNeg (c : Core) (s : State) : exec (.elemNeg c) s = execElemNeg c s := rfl
@[simp] theorem exec_elemCvt (c : Core) (s : State) : exec (.elemCvt c) s = execElemCvt c s := rfl
@[simp] theorem exec_elemSel (c : Core) (s : State) : exec (.elemSel c) s = execElemSel c s := rfl
@[simp] theorem exec_exp2 (c : Core) (s : State) : exec (.exp2 c) s = execExp2 c s := rfl
@[simp] theorem exec_log2 (c : Core) (s : State) : exec (.log2 c) s = execLog2 c s := rfl
@[simp] theorem exec_rcp (c : Core) (s : State) : exec (.rcp c) s = execRcp c s := rfl
@[simp] theorem exec_rsqrt (c : Core) (s : State) : exec (.rsqrt c) s = execRsqrt c s := rfl
@[simp] theorem exec_tanh (c : Core) (s : State) : exec (.tanh c) s = execTanh c s := rfl
@[simp] theorem exec_erf (c : Core) (s : State) : exec (.erf c) s = execErf c s := rfl
@[simp] theorem exec_sincos (c : Core) (s : State) : exec (.sincos c) s = execSincos c s := rfl
@[simp] theorem exec_reduceSum (c : Core) (s : State) : exec (.reduceSum c) s = execReduceSum c s := rfl
@[simp] theorem exec_reduceProd (c : Core) (s : State) : exec (.reduceProd c) s = execReduceProd c s := rfl
@[simp] theorem exec_reduceMax (c : Core) (s : State) : exec (.reduceMax c) s = execReduceMax c s := rfl
@[simp] theorem exec_reduceMin (c : Core) (s : State) : exec (.reduceMin c) s = execReduceMin c s := rfl
@[simp] theorem exec_argmax (c : Core) (s : State) : exec (.argmax c) s = execArgmax c s := rfl
@[simp] theorem exec_argmin (c : Core) (s : State) : exec (.argmin c) s = execArgmin c s := rfl
@[simp] theorem exec_maskgen (c : Core) (s : State) : exec (.maskgen c) s = execMaskgen c s := rfl
@[simp] theorem exec_accread (c : Core) (s : State) : exec (.accread c) s = execAccread c s := rfl
@[simp] theorem exec_rmsnorm (c : Core) (s : State) : exec (.rmsnorm c) s = execRmsnorm c s := rfl
@[simp] theorem exec_layernorm (c : Core) (s : State) : exec (.layernorm c) s = execLayernorm c s := rfl
@[simp] theorem exec_opt (c : Core) (s : State) : exec (.opt c) s = execOpt c s := rfl
@[simp] theorem exec_run (c : Core) (s : State) : exec (.run c) s = execRun c s := rfl
@[simp] theorem exec_ringTailWrite (c : Core) (v : BitVec 16) (s : State) : exec (.ringTailWrite c v) s = execRingTailWrite c v s := rfl
@[simp] theorem exec_descFetch (c : Core) (s : State) : exec (.descFetch c) s = execDescFetch c s := rfl
@[simp] theorem exec_descIssue (c : Core) (s : State) : exec (.descIssue c) s = execDescIssue c s := rfl
@[simp] theorem exec_descRelease (c : Core) (q : EngQ) (s : State) : exec (.descRelease c q) s = execDescRelease c q s := rfl
@[simp] theorem exec_descComplete (c : Core) (q : EngQ) (s : State) : exec (.descComplete c q) s = execDescComplete c q s := rfl
@[simp] theorem exec_tokenSignalDeliver (c : Core) (s : State) : exec (.tokenSignalDeliver c) s = execTokenSignalDeliver c s := rfl
@[simp] theorem exec_tokSignal (c : Core) (t : BitVec 12) (s : State) : exec (.tokSignal c t) s = execTokSignal c t s := rfl
@[simp] theorem exec_tokData (c : Core) (v : BitVec 16) (s : State) : exec (.tokData c v) s = execTokData c v s := rfl
@[simp] theorem exec_predWrite (c : Core) (v : BitVec 64) (s : State) : exec (.predWrite c v) s = execPredWrite c v s := rfl
@[simp] theorem exec_nop (c : Core) (s : State) : exec (.nop c) s = execNop c s := rfl
@[simp] theorem exec_loop (c : Core) (s : State) : exec (.loop c) s = execLoop c s := rfl
@[simp] theorem exec_pset (c : Core) (s : State) : exec (.pset c) s = execPset c s := rfl
@[simp] theorem exec_ptest (c : Core) (s : State) : exec (.ptest c) s = execPtest c s := rfl
@[simp] theorem exec_seed (c : Core) (s : State) : exec (.seed c) s = execSeed c s := rfl
@[simp] theorem exec_tokset (c : Core) (s : State) : exec (.tokset c) s = execTokset c s := rfl
@[simp] theorem exec_patload (c : Core) (s : State) : exec (.patload c) s = execPatload c s := rfl
@[simp] theorem exec_patfree (c : Core) (s : State) : exec (.patfree c) s = execPatfree c s := rfl
@[simp] theorem exec_stop (c : Core) (s : State) : exec (.stop c) s = execStop c s := rfl
@[simp] theorem exec_sprCtrlRun (c : Core) (v : Bool) (s : State) : exec (.sprCtrlRun c v) s = execSprCtrlRun c v s := rfl
@[simp] theorem exec_sprCtrlResume (c : Core) (mode : Bool) (s : State) : exec (.sprCtrlResume c mode) s = execSprCtrlResume c mode s := rfl
@[simp] theorem exec_noProgressTimeout (w : Watch) (s : State) : exec (.noProgressTimeout w) s = execNoProgressTimeout w s := rfl
@[simp] theorem exec_copy (c : Core) (s : State) : exec (.copy c) s = execCopy c s := rfl
@[simp] theorem exec_fill (c : Core) (s : State) : exec (.fill c) s = execFill c s := rfl
@[simp] theorem exec_fillAll (c : Core) (s : State) : exec (.fillAll c) s = execFillAll c s := rfl
@[simp] theorem exec_gather (c : Core) (s : State) : exec (.gather c) s = execGather c s := rfl
@[simp] theorem exec_scatter (c : Core) (s : State) : exec (.scatter c) s = execScatter c s := rfl
@[simp] theorem exec_prefetch (c : Core) (s : State) : exec (.prefetch c) s = execPrefetch c s := rfl
@[simp] theorem exec_inval (c : Core) (s : State) : exec (.inval c) s = execInval c s := rfl
@[simp] theorem exec_requestComplete (c : Core) (s : State) : exec (.requestComplete c) s = execRequestComplete c s := rfl
@[simp] theorem exec_scrubAccess (m : Scrubbed) (a : Nat) (e : Fin 3) (s : State) : exec (.scrubAccess m a e) s = execScrubAccess m a e s := rfl
@[simp] theorem exec_spareReq (d : Die) (bank : Fin 128) (s : State) : exec (.spareReq d bank) s = execSpareReq d bank s := rfl
@[simp] theorem exec_spareCopyDone (d : Die) (s : State) : exec (.spareCopyDone d) s = execSpareCopyDone d s := rfl
@[simp] theorem exec_spareMapChange (d : Die) (s : State) : exec (.spareMapChange d) s = execSpareMapChange d s := rfl
@[simp] theorem exec_diagRawWrite (d : Die) (s : State) : exec (.diagRawWrite d) s = execDiagRawWrite d s := rfl
@[simp] theorem exec_diagRawRead (d : Die) (s : State) : exec (.diagRawRead d) s = execDiagRawRead d s := rfl
@[simp] theorem exec_diagDecodedRead (d : Die) (s : State) : exec (.diagDecodedRead d) s = execDiagDecodedRead d s := rfl
@[simp] theorem exec_qapply (s : State) : exec (.qapply) s = execQapply s := rfl
@[simp] theorem exec_quotaSetApply (s : State) : exec (.quotaSetApply) s = execQuotaSetApply s := rfl
@[simp] theorem exec_hbmParityError (k : Stack) (ch : Chan) (again : Bool) (s : State) : exec (.hbmParityError k ch again) s = execHbmParityError k ch again s := rfl
@[simp] theorem exec_hbmChannelTimeout (k : Stack) (ch : Chan) (s : State) : exec (.hbmChannelTimeout k ch) s = execHbmChannelTimeout k ch s := rfl
@[simp] theorem exec_hbmTempRead (k : Stack) (deg : Fin 256) (s : State) : exec (.hbmTempRead k deg) s = execHbmTempRead k deg s := rfl
@[simp] theorem exec_hbmTempPortLoss (k : Stack) (hot : Bool) (s : State) : exec (.hbmTempPortLoss k hot) s = execHbmTempPortLoss k hot s := rfl
@[simp] theorem exec_hbmSlotServe (j : Nat) (s : State) : exec (.hbmSlotServe j) s = execHbmSlotServe j s := rfl
@[simp] theorem exec_slotCtrlApply (s : State) : exec (.slotCtrlApply) s = execSlotCtrlApply s := rfl
@[simp] theorem exec_ingotReadComplete (c : Core) (r : List Nat) (s : State) : exec (.ingotReadComplete c r) s = execIngotReadComplete c r s := rfl
@[simp] theorem exec_ingotProgramStart (s : State) : exec (.ingotProgramStart) s = execIngotProgramStart s := rfl
@[simp] theorem exec_ingotProgramComplete (fails : Bool) (s : State) : exec (.ingotProgramComplete fails) s = execIngotProgramComplete fails s := rfl
@[simp] theorem exec_garbageCollect (tg : Fin 64) (fails : Bool) (s : State) : exec (.garbageCollect tg fails) s = execGarbageCollect tg fails s := rfl
@[simp] theorem exec_wearLevel (tg : Fin 64) (fails : Bool) (s : State) : exec (.wearLevel tg fails) s = execWearLevel tg fails s := rfl
@[simp] theorem exec_retireReq (tg : Fin 64) (s : State) : exec (.retireReq tg) s = execRetireReq tg s := rfl
@[simp] theorem exec_targetRetireDone (s : State) : exec (.targetRetireDone) s = execTargetRetireDone s := rfl
@[simp] theorem exec_targetCommandTimeout (tg : Fin 64) (zq : Bool) (s : State) : exec (.targetCommandTimeout tg zq) s = execTargetCommandTimeout tg zq s := rfl
@[simp] theorem exec_patrolRead (area : Fin 7) (tile : Nat) (r : List Nat) (s : State) : exec (.patrolRead area tile r) s = execPatrolRead area tile r s := rfl
@[simp] theorem exec_flitReceive (p : Port) (raw : BitVec 2048) (uncorr : Bool) (s : State) : exec (.flitReceive p raw uncorr) s = execFlitReceive p raw uncorr s := rfl
@[simp] theorem exec_flitTransmit (p : Port) (s : State) : exec (.flitTransmit p) s = execFlitTransmit p s := rfl
@[simp] theorem exec_linkReplay (p : Port) (e : Fin 3) (s : State) : exec (.linkReplay p e) s = execLinkReplay p e s := rfl
@[simp] theorem exec_nakTimeout (p : Port) (s : State) : exec (.nakTimeout p) s = execNakTimeout p s := rfl
@[simp] theorem exec_ackTimeout (p : Port) (s : State) : exec (.ackTimeout p) s = execAckTimeout p s := rfl
@[simp] theorem exec_laneWindow (p : Port) (sym : List Nat) (corr : Nat) (s : State) : exec (.laneWindow p sym corr) s = execLaneWindow p sym corr s := rfl
@[simp] theorem exec_laneRequest (p : Port) (s : State) : exec (.laneRequest p) s = execLaneRequest p s := rfl
@[simp] theorem exec_laneSwitch (p : Port) (s : State) : exec (.laneSwitch p) s = execLaneSwitch p s := rfl
@[simp] theorem exec_reEq (p : Port) (s : State) : exec (.reEq p) s = execReEq p s := rfl
@[simp] theorem exec_presenceAssert (p : Port) (s : State) : exec (.presenceAssert p) s = execPresenceAssert p s := rfl
@[simp] theorem exec_presenceDeassert (p : Port) (s : State) : exec (.presenceDeassert p) s = execPresenceDeassert p s := rfl
@[simp] theorem exec_trainingComplete (p : Port) (peer : Option (BitVec 23)) (rx : BitVec 5) (tx : BitVec 5) (s : State) : exec (.trainingComplete p peer rx tx) s = execTrainingComplete p peer rx tx s := rfl
@[simp] theorem exec_avlCtrlRetrain (p : Port) (s : State) : exec (.avlCtrlRetrain p) s = execAvlCtrlRetrain p s := rfl
@[simp] theorem exec_shortRetrainComplete (p : Port) (peer : Option (BitVec 23)) (rx : BitVec 5) (tx : BitVec 5) (s : State) : exec (.shortRetrainComplete p peer rx tx) s = execShortRetrainComplete p peer rx tx s := rfl
@[simp] theorem exec_portActivate (p : Port) (s : State) : exec (.portActivate p) s = execPortActivate p s := rfl
@[simp] theorem exec_txWrapsLimit (p : Port) (s : State) : exec (.txWrapsLimit p) s = execTxWrapsLimit p s := rfl
@[simp] theorem exec_quenchSetReceive (p : Port) (q : QSet) (s : State) : exec (.quenchSetReceive p q) s = execQuenchSetReceive p q s := rfl
@[simp] theorem exec_rdReq (s : State) : exec (.rdReq) s = execRdReq s := rfl
@[simp] theorem exec_rdRsp (s : State) : exec (.rdRsp) s = execRdRsp s := rfl
@[simp] theorem exec_wr (s : State) : exec (.wr) s = execWr s := rfl
@[simp] theorem exec_wrAck (s : State) : exec (.wrAck) s = execWrAck s := rfl
@[simp] theorem exec_errRsp (s : State) : exec (.errRsp) s = execErrRsp s := rfl
@[simp] theorem exec_regRd (s : State) : exec (.regRd) s = execRegRd s := rfl
@[simp] theorem exec_regWr (e : BootEnv) (s : State) : exec (.regWr e) s = execRegWr e s := rfl
@[simp] theorem exec_regRsp (s : State) : exec (.regRsp) s = execRegRsp s := rfl
@[simp] theorem exec_token (s : State) : exec (.token) s = execToken s := rfl
@[simp] theorem exec_badMsg (s : State) : exec (.badMsg) s = execBadMsg s := rfl
@[simp] theorem exec_packetRoute (s : State) : exec (.packetRoute) s = execPacketRoute s := rfl
@[simp] theorem exec_e2eTimeout (s : State) : exec (.e2eTimeout) s = execE2eTimeout s := rfl
@[simp] theorem exec_routTableWrite (a : BitVec 26) (v : BitVec 64) (wide : Bool) (s : State) : exec (.routTableWrite a v wide) s = execRoutTableWrite a v wide s := rfl
@[simp] theorem exec_collAllReduce (c : Core) (s : State) : exec (.collAllReduce c) s = execCollAllReduce c s := rfl
@[simp] theorem exec_collReduceScatter (c : Core) (s : State) : exec (.collReduceScatter c) s = execCollReduceScatter c s := rfl
@[simp] theorem exec_collAllGather (c : Core) (s : State) : exec (.collAllGather c) s = execCollAllGather c s := rfl
@[simp] theorem exec_collBroadcast (c : Core) (s : State) : exec (.collBroadcast c) s = execCollBroadcast c s := rfl
@[simp] theorem exec_collReduceToRoot (c : Core) (s : State) : exec (.collReduceToRoot c) s = execCollReduceToRoot c s := rfl
@[simp] theorem exec_collFence (c : Core) (s : State) : exec (.collFence c) s = execCollFence c s := rfl
@[simp] theorem exec_coll (s : State) : exec (.coll) s = execColl s := rfl
@[simp] theorem exec_fence (s : State) : exec (.fence) s = execFence s := rfl
@[simp] theorem exec_collHoldTimeout (s : State) : exec (.collHoldTimeout) s = execCollHoldTimeout s := rfl
@[simp] theorem exec_grpDefine (s : State) : exec (.grpDefine) s = execGrpDefine s := rfl
@[simp] theorem exec_grpFree (s : State) : exec (.grpFree) s = execGrpFree s := rfl
@[simp] theorem exec_ncheck (c : Core) (s : State) : exec (.ncheck c) s = execNcheck c s := rfl
@[simp] theorem exec_vote (c : Core) (s : State) : exec (.vote c) s = execVote c s := rfl
@[simp] theorem exec_voteBallot (s : State) : exec (.voteBallot) s = execVoteBallot s := rfl
@[simp] theorem exec_voteLaneVerdict (s : State) : exec (.voteLaneVerdict) s = execVoteLaneVerdict s := rfl
@[simp] theorem exec_voteCommitDecision (s : State) : exec (.voteCommitDecision) s = execVoteCommitDecision s := rfl
@[simp] theorem exec_voteAbortDecision (s : State) : exec (.voteAbortDecision) s = execVoteAbortDecision s := rfl
@[simp] theorem exec_voteCommitNotice (s : State) : exec (.voteCommitNotice) s = execVoteCommitNotice s := rfl
@[simp] theorem exec_voteDeadline (s : State) : exec (.voteDeadline) s = execVoteDeadline s := rfl
@[simp] theorem exec_voteGraceExpire (s : State) : exec (.voteGraceExpire) s = execVoteGraceExpire s := rfl
@[simp] theorem exec_seal (c : Core) (s : State) : exec (.seal c) s = execSeal c s := rfl
@[simp] theorem exec_sealMessage (s : State) : exec (.sealMessage) s = execSealMessage s := rfl
@[simp] theorem exec_sealTimeout (s : State) : exec (.sealTimeout) s = execSealTimeout s := rfl
@[simp] theorem exec_swCmdRelease (s : State) : exec (.swCmdRelease) s = execSwCmdRelease s := rfl
@[simp] theorem exec_swCmdClearHold (s : State) : exec (.swCmdClearHold) s = execSwCmdClearHold s := rfl
@[simp] theorem exec_riser (c : Core) (s : State) : exec (.riser c) s = execRiser c s := rfl
@[simp] theorem exec_riserExport (s : State) : exec (.riserExport) s = execRiserExport s := rfl
@[simp] theorem exec_bulk (s : State) : exec (.bulk) s = execBulk s := rfl
@[simp] theorem exec_riserRetx (s : State) : exec (.riserRetx) s = execRiserRetx s := rfl
@[simp] theorem exec_riserWaitTimeout (s : State) : exec (.riserWaitTimeout) s = execRiserWaitTimeout s := rfl
@[simp] theorem exec_jappend (c : Core) (s : State) : exec (.jappend c) s = execJappend c s := rfl
@[simp] theorem exec_journalSync (s : State) : exec (.journalSync) s = execJournalSync s := rfl
@[simp] theorem exec_journalPageProgram (s : State) : exec (.journalPageProgram) s = execJournalPageProgram s := rfl
@[simp] theorem exec_snapshotAppend (s : State) : exec (.snapshotAppend) s = execSnapshotAppend s := rfl
@[simp] theorem exec_lifeSave (s : State) : exec (.lifeSave) s = execLifeSave s := rfl
@[simp] theorem exec_quenchEntry (q : QCause) (qs : List QCause) (s : State) : exec (.quenchEntry q qs) s = execQuenchEntry q qs s := rfl
@[simp] theorem exec_safeStateReached (s : State) : exec (.safeStateReached) s = execSafeStateReached s := rfl
@[simp] theorem exec_flashQuiesced (s : State) : exec (.flashQuiesced) s = execFlashQuiesced s := rfl
@[simp] theorem exec_quenchExit (e : BootEnv) (s : State) : exec (.quenchExit e) s = execQuenchExit e s := rfl
@[simp] theorem exec_qSwreq (v : BitVec 32) (s : State) : exec (.qSwreq v) s = execQSwreq v s := rfl
@[simp] theorem exec_fltStatusClear (a : BitVec 26) (v : BitVec 64) (s : State) : exec (.fltStatusClear a v) s = execFltStatusClear a v s := rfl
@[simp] theorem exec_fltFirstClear (a : BitVec 26) (s : State) : exec (.fltFirstClear a) s = execFltFirstClear a s := rfl
@[simp] theorem exec_headerParityError (a : BitVec 26) (s : State) : exec (.headerParityError a) s = execHeaderParityError a s := rfl
@[simp] theorem exec_wdogKick (k : Fin 4) (s : State) : exec (.wdogKick k) s = execWdogKick k s := rfl
@[simp] theorem exec_wdogPeriodExpire (k : Fin 4) (s : State) : exec (.wdogPeriodExpire k) s = execWdogPeriodExpire k s := rfl
@[simp] theorem exec_attest (s : State) : exec (.attest) s = execAttest s := rfl
@[simp] theorem exec_verify (s : State) : exec (.verify) s = execVerify s := rfl
@[simp] theorem exec_nonce (s : State) : exec (.nonce) s = execNonce s := rfl
@[simp] theorem exec_enrol (s : State) : exec (.enrol) s = execEnrol s := rfl
@[simp] theorem exec_unenrol (s : State) : exec (.unenrol) s = execUnenrol s := rfl
@[simp] theorem exec_update (s : State) : exec (.update) s = execUpdate s := rfl
@[simp] theorem exec_patverify (s : State) : exec (.patverify) s = execPatverify s := rfl
@[simp] theorem exec_link (p : Port) (s : State) : exec (.link p) s = execLink p s := rfl
@[simp] theorem exec_hello (p : Port) (s : State) : exec (.hello p) s = execHello p s := rfl
@[simp] theorem exec_report (p : Port) (s : State) : exec (.report p) s = execReport p s := rfl
@[simp] theorem exec_share (p : Port) (s : State) : exec (.share p) s = execShare p s := rfl
@[simp] theorem exec_done (p : Port) (s : State) : exec (.done p) s = execDone p s := rfl
@[simp] theorem exec_rngHealthFail (s : State) : exec (.rngHealthFail) s = execRngHealthFail s := rfl
@[simp] theorem exec_moduleUpdateActivate (s : State) : exec (.moduleUpdateActivate) s = execModuleUpdateActivate s := rfl
@[simp] theorem exec_updateDeferTimeout (s : State) : exec (.updateDeferTimeout) s = execUpdateDeferTimeout s := rfl
@[simp] theorem exec_pageEnable (a : BitVec 26) (v : Bool) (s : State) : exec (.pageEnable a v) s = execPageEnable a v s := rfl
@[simp] theorem exec_pageQuiesce (a : BitVec 26) (v : Bool) (s : State) : exec (.pageQuiesce a v) s = execPageQuiesce a v s := rfl
@[simp] theorem exec_pageQuiesced (a : BitVec 26) (s : State) : exec (.pageQuiesced a) s = execPageQuiesced a s := rfl
@[simp] theorem exec_pageBreset (a : BitVec 26) (s : State) : exec (.pageBreset a) s = execPageBreset a s := rfl
@[simp] theorem exec_pageLockWrite (a : BitVec 26) (v : BitVec 32) (s : State) : exec (.pageLockWrite a v) s = execPageLockWrite a v s := rfl
@[simp] theorem exec_lopCopy (k : Fin 4) (s : State) : exec (.lopCopy k) s = execLopCopy k s := rfl
@[simp] theorem exec_rcopy (k : Fin 4) (s : State) : exec (.rcopy k) s = execRcopy k s := rfl
@[simp] theorem exec_hbmScrub (k : Fin 4) (s : State) : exec (.hbmScrub k) s = execHbmScrub k s := rfl
@[simp] theorem exec_hbmTest (k : Fin 4) (s : State) : exec (.hbmTest k) s = execHbmTest k s := rfl
@[simp] theorem exec_ingFormat (k : Fin 4) (s : State) : exec (.ingFormat k) s = execIngFormat k s := rfl
@[simp] theorem exec_lopAbort (k : Fin 4) (s : State) : exec (.lopAbort k) s = execLopAbort k s := rfl
@[simp] theorem exec_lopStep (k : Fin 4) (r : List (List Nat)) (errs : Nat) (s : State) : exec (.lopStep k r errs) s = execLopStep k r errs s := rfl
@[simp] theorem exec_calApply (s : State) : exec (.calApply) s = execCalApply s := rfl
@[simp] theorem exec_calSave (s : State) : exec (.calSave) s = execCalSave s := rfl
@[simp] theorem exec_calReload (s : State) : exec (.calReload) s = execCalReload s := rfl
@[simp] theorem exec_calClear (s : State) : exec (.calClear) s = execCalClear s := rfl
@[simp] theorem exec_railSlewStep (s : State) : exec (.railSlewStep) s = execRailSlewStep s := rfl
@[simp] theorem exec_sidebandRead32 (a : BitVec 32) (s : State) : exec (.sidebandRead32 a) s = execSidebandRead32 a s := rfl
@[simp] theorem exec_sidebandWrite32 (a v : BitVec 32) (e : BootEnv) (s : State) : exec (.sidebandWrite32 a v e) s = execSidebandWrite32 a v e s := rfl
@[simp] theorem exec_sidebandRead64 (a : BitVec 32) (s : State) : exec (.sidebandRead64 a) s = execSidebandRead64 a s := rfl
@[simp] theorem exec_sidebandWrite64 (a : BitVec 32) (v : BitVec 64) (e : BootEnv) (s : State) : exec (.sidebandWrite64 a v e) s = execSidebandWrite64 a v e s := rfl
@[simp] theorem exec_bypass (s : State) : exec (.bypass) s = execBypass s := rfl
@[simp] theorem exec_idcode (s : State) : exec (.idcode) s = execIdcode s := rfl
@[simp] theorem exec_samplePreload (lands pre : BitVec 400) (s : State) : exec (.samplePreload lands pre) s = execSamplePreload lands pre s := rfl
@[simp] theorem exec_extest (lands : BitVec 400) (s : State) : exec (.extest lands) s = execExtest lands s := rfl
@[simp] theorem exec_ccDebug (halt : BitVec 4) (s : State) : exec (.ccDebug halt) s = execCcDebug halt s := rfl
@[simp] theorem exec_attnPress (s : State) : exec (.attnPress) s = execAttnPress s := rfl
@[simp] theorem exec_attnLongPress (s : State) : exec (.attnLongPress) s = execAttnLongPress s := rfl
@[simp] theorem exec_drainReq (s : State) : exec (.drainReq) s = execDrainReq s := rfl
@[simp] theorem exec_drainGo (s : State) : exec (.drainGo) s = execDrainGo s := rfl
@[simp] theorem exec_drainCancel (s : State) : exec (.drainCancel) s = execDrainCancel s := rfl
@[simp] theorem exec_drainRenotify (s : State) : exec (.drainRenotify) s = execDrainRenotify s := rfl
@[simp] theorem exec_drainSafe (s : State) : exec (.drainSafe) s = execDrainSafe s := rfl
@[simp] theorem exec_drainLimitExpire (s : State) : exec (.drainLimitExpire) s = execDrainLimitExpire s := rfl
@[simp] theorem exec_registerWrite (a : BitVec 26) (v : BitVec 64) (wide : Bool) (e : BootEnv) (s : State) : exec (.registerWrite a v wide e) s = execRegisterWrite a v wide e s := rfl
@[simp] theorem exec_mldInjAccOvf (c : Core) (s : State) : exec (.mldInjAccOvf c) s = execMldInjAccOvf c s := rfl
@[simp] theorem exec_mldInjOpndCrc1 (c : Core) (s : State) : exec (.mldInjOpndCrc1 c) s = execMldInjOpndCrc1 c s := rfl
@[simp] theorem exec_mldInjOpndCrc2 (c : Core) (s : State) : exec (.mldInjOpndCrc2 c) s = execMldInjOpndCrc2 c s := rfl
@[simp] theorem exec_mldInjAccUe (c : Core) (s : State) : exec (.mldInjAccUe c) s = execMldInjAccUe c s := rfl
@[simp] theorem exec_mldInjStatPar (c : Core) (s : State) : exec (.mldInjStatPar c) s = execMldInjStatPar c s := rfl
@[simp] theorem exec_asyInjCapUe (c : Core) (s : State) : exec (.asyInjCapUe c) s = execAsyInjCapUe c s := rfl
@[simp] theorem exec_asyInjImgCrc1 (c : Core) (s : State) : exec (.asyInjImgCrc1 c) s = execAsyInjImgCrc1 c s := rfl
@[simp] theorem exec_asyInjImgCrc2 (c : Core) (s : State) : exec (.asyInjImgCrc2 c) s = execAsyInjImgCrc2 c s := rfl
@[simp] theorem exec_asyInjBlkNf (c : Core) (s : State) : exec (.asyInjBlkNf c) s = execAsyInjBlkNf c s := rfl
@[simp] theorem exec_cruInjStoreUe (c : Core) (s : State) : exec (.cruInjStoreUe c) s = execCruInjStoreUe c s := rfl
@[simp] theorem exec_cruInjPivot (c : Core) (s : State) : exec (.cruInjPivot c) s = execCruInjPivot c s := rfl
@[simp] theorem exec_cruInjImgCrc1 (c : Core) (s : State) : exec (.cruInjImgCrc1 c) s = execCruInjImgCrc1 c s := rfl
@[simp] theorem exec_cruInjImgCrc2 (c : Core) (s : State) : exec (.cruInjImgCrc2 c) s = execCruInjImgCrc2 c s := rfl
@[simp] theorem exec_cruInjSat (c : Core) (s : State) : exec (.cruInjSat c) s = execCruInjSat c s := rfl
@[simp] theorem exec_ldlInjCacheUe (c : Core) (s : State) : exec (.ldlInjCacheUe c) s = execLdlInjCacheUe c s := rfl
@[simp] theorem exec_ldlInjTunCrc1 (c : Core) (s : State) : exec (.ldlInjTunCrc1 c) s = execLdlInjTunCrc1 c s := rfl
@[simp] theorem exec_ldlInjTunCrc2 (c : Core) (s : State) : exec (.ldlInjTunCrc2 c) s = execLdlInjTunCrc2 c s := rfl
@[simp] theorem exec_ldlInjRegPar (c : Core) (s : State) : exec (.ldlInjRegPar c) s = execLdlInjRegPar c s := rfl
@[simp] theorem exec_sprInjDescCrc1 (c : Core) (s : State) : exec (.sprInjDescCrc1 c) s = execSprInjDescCrc1 c s := rfl
@[simp] theorem exec_sprInjDescCrc2 (c : Core) (s : State) : exec (.sprInjDescCrc2 c) s = execSprInjDescCrc2 c s := rfl
@[simp] theorem exec_sprInjPatUe (c : Core) (s : State) : exec (.sprInjPatUe c) s = execSprInjPatUe c s := rfl
@[simp] theorem exec_frmInjChkFail (s : State) : exec (.frmInjChkFail) s = execFrmInjChkFail s := rfl
@[simp] theorem exec_frmInjLate (s : State) : exec (.frmInjLate) s = execFrmInjLate s := rfl
@[simp] theorem exec_frmInjAlignLoss (s : State) : exec (.frmInjAlignLoss) s = execFrmInjAlignLoss s := rfl
@[simp] theorem exec_tunInjCe (d : Die) (s : State) : exec (.tunInjCe d) s = execTunInjCe d s := rfl
@[simp] theorem exec_tunInjUe (d : Die) (s : State) : exec (.tunInjUe d) s = execTunInjUe d s := rfl
@[simp] theorem exec_tunInjSidecar (d : Die) (s : State) : exec (.tunInjSidecar d) s = execTunInjSidecar d s := rfl
@[simp] theorem exec_runInjSrcCrc1 (c : Core) (s : State) : exec (.runInjSrcCrc1 c) s = execRunInjSrcCrc1 c s := rfl
@[simp] theorem exec_runInjSrcCrc2 (c : Core) (s : State) : exec (.runInjSrcCrc2 c) s = execRunInjSrcCrc2 c s := rfl
@[simp] theorem exec_runInjRemoteErr (c : Core) (s : State) : exec (.runInjRemoteErr c) s = execRunInjRemoteErr c s := rfl
@[simp] theorem exec_hbmInjCe (k : Stack) (s : State) : exec (.hbmInjCe k) s = execHbmInjCe k s := rfl
@[simp] theorem exec_hbmInjUe (k : Stack) (s : State) : exec (.hbmInjUe k) s = execHbmInjUe k s := rfl
@[simp] theorem exec_hbmInjPar1 (k : Stack) (s : State) : exec (.hbmInjPar1 k) s = execHbmInjPar1 k s := rfl
@[simp] theorem exec_hbmInjHot (k : Stack) (s : State) : exec (.hbmInjHot k) s = execHbmInjHot k s := rfl
@[simp] theorem exec_ingInjRetry (s : State) : exec (.ingInjRetry) s = execIngInjRetry s := rfl
@[simp] theorem exec_ingInjReadFail (s : State) : exec (.ingInjReadFail) s = execIngInjReadFail s := rfl
@[simp] theorem exec_ingInjProgFail (s : State) : exec (.ingInjProgFail) s = execIngInjProgFail s := rfl
@[simp] theorem exec_ingInjWbEmpty (s : State) : exec (.ingInjWbEmpty) s = execIngInjWbEmpty s := rfl
@[simp] theorem exec_avlInjLcrc (p : Port) (s : State) : exec (.avlInjLcrc p) s = execAvlInjLcrc p s := rfl
@[simp] theorem exec_avlInjUncorr (p : Port) (s : State) : exec (.avlInjUncorr p) s = execAvlInjUncorr p s := rfl
@[simp] theorem exec_avlInjLaneBad (p : Port) (s : State) : exec (.avlInjLaneBad p) s = execAvlInjLaneBad p s := rfl
@[simp] theorem exec_avlInjAuth (p : Port) (s : State) : exec (.avlInjAuth p) s = execAvlInjAuth p s := rfl
@[simp] theorem exec_routInjUnreach (s : State) : exec (.routInjUnreach) s = execRoutInjUnreach s := rfl
@[simp] theorem exec_routInjTimeout (s : State) : exec (.routInjTimeout) s = execRoutInjTimeout s := rfl
@[simp] theorem exec_colInjStale (s : State) : exec (.colInjStale) s = execColInjStale s := rfl
@[simp] theorem exec_colInjChunkCrc1 (s : State) : exec (.colInjChunkCrc1) s = execColInjChunkCrc1 s := rfl
@[simp] theorem exec_colInjChunkCrc2 (s : State) : exec (.colInjChunkCrc2) s = execColInjChunkCrc2 s := rfl
@[simp] theorem exec_swInjSealFlip (s : State) : exec (.swInjSealFlip) s = execSwInjSealFlip s := rfl
@[simp] theorem exec_swInjBallotDrop (s : State) : exec (.swInjBallotDrop) s = execSwInjBallotDrop s := rfl
@[simp] theorem exec_jnlInjTorn (s : State) : exec (.jnlInjTorn) s = execJnlInjTorn s := rfl
@[simp] theorem exec_jnlInjRsrFull (s : State) : exec (.jnlInjRsrFull) s = execJnlInjRsrFull s := rfl
@[simp] theorem exec_jnlInjCalBad (s : State) : exec (.jnlInjCalBad) s = execJnlInjCalBad s := rfl
@[simp] theorem exec_pwrInjVinLow (s : State) : exec (.pwrInjVinLow) s = execPwrInjVinLow s := rfl
@[simp] theorem exec_pwrInjHot (s : State) : exec (.pwrInjHot) s = execPwrInjHot s := rfl
@[simp] theorem exec_pwrInjTrip (s : State) : exec (.pwrInjTrip) s = execPwrInjTrip s := rfl
@[simp] theorem exec_truInjBadSig (s : State) : exec (.truInjBadSig) s = execTruInjBadSig s := rfl
@[simp] theorem exec_truInjRng (s : State) : exec (.truInjRng) s = execTruInjRng s := rfl
@[simp] theorem exec_hdrParityInj (a : BitVec 26) (s : State) : exec (.hdrParityInj a) s = execHdrParityInj a s := rfl
@[simp] theorem exec_regulatorsStop (s : State) : exec (.regulatorsStop) s = execRegulatorsStop s := rfl
@[simp] theorem exec_phaseOverCurrent (s : State) : exec (.phaseOverCurrent) s = execPhaseOverCurrent s := rfl
@[simp] theorem exec_spareEqualisationDone (p : Port) (s : State) : exec (.spareEqualisationDone p) s = execSpareEqualisationDone p s := rfl

end Sys2Proof.Machine
end

