-- ==== Sys2Proof/Laws/KeepBase.lean ====
section
/-!
SUPPORT. Laws/KeepBase.lean: canonical maps and memories under the named operations, and what it means that a state keeps the queue, the
fuses and the canonical form of another (Kp), or an outcome does (OKp).
-/
namespace Sys2Proof.Machine

open Sys2Proof

theorem swfFrom_le {α : Type} [DecidableEq α] (d : α) {lo lo' : Nat} (h : lo' ≤ lo) :
    ∀ m : SMap α, swfFrom d lo m = true → swfFrom d lo' m = true
  | [], _ => rfl
  | (k, v) :: m, hm => by
    simp only [swfFrom, Bool.and_eq_true, decide_eq_true_eq] at hm ⊢
    exact ⟨⟨by omega, hm.1.2⟩, hm.2⟩

theorem swfFrom_sset {α : Type} [DecidableEq α] (d : α) (k : Nat) (v : α) :
    ∀ (m : SMap α) (lo : Nat), lo ≤ k → swfFrom d lo m = true → swfFrom d lo (sset d m k v) = true
  | [], lo, hk, _ => by
    unfold sset; split <;> simp_all [swfFrom]
  | (k', v') :: m, lo, hk, hm => by
    simp only [swfFrom, Bool.and_eq_true, decide_eq_true_eq] at hm
    obtain ⟨⟨h1, h2⟩, h3⟩ := hm
    unfold sset
    by_cases e : k = k'
    · subst e
      by_cases hv : v = d
      · simpa [hv] using swfFrom_le d (by omega) m h3
      · simp [hv, swfFrom, h1, h3]
    · by_cases hl : k < k'
      · by_cases hv : v = d
        · simp [e, hl, hv, swfFrom, h1, h2, h3]
        · simp only [e, hl, hv, if_false, if_true, swfFrom, Bool.and_eq_true, decide_eq_true_eq]
          exact ⟨⟨hk, hv⟩, ⟨⟨by omega, h2⟩, h3⟩⟩
      · simp [e, hl, swfFrom, h1, h2, swfFrom_sset d k v m (k' + 1) (by omega) h3]

theorem swf_sset {α : Type} [DecidableEq α] (d : α) (m : SMap α) (k : Nat) (v : α) (h : swf d m = true) :
    swf d (sset d m k v) = true := swfFrom_sset d k v m 0 (Nat.zero_le k) h

theorem swfFrom_filter {α : Type} [DecidableEq α] (d : α) (p : Nat × α → Bool) :
    ∀ (m : SMap α) (lo : Nat), swfFrom d lo m = true → swfFrom d lo (m.filter p) = true
  | [], _, _ => rfl
  | (k, v) :: m, lo, hm => by
    simp only [swfFrom, Bool.and_eq_true, decide_eq_true_eq] at hm
    have ih := swfFrom_filter d p m (k + 1) hm.2
    by_cases hp : p (k, v) = true
    · simp [hp, swfFrom, hm.1.1, hm.1.2, ih]
    · simpa [hp] using swfFrom_le d (by omega) _ ih

theorem swf_filter {α : Type} [DecidableEq α] (d : α) (m : SMap α) (p : Nat × α → Bool) (h : swf d m = true) :
    swf d (m.filter p) = true := swfFrom_filter d p m 0 h

/-- A filter that may change the value stored at a key and never stores the default. -/
theorem swfFrom_filterMap {α : Type} [DecidableEq α] (d : α) (f : Nat × α → Option (Nat × α))
    (hf : ∀ e e', f e = some e' → e'.1 = e.1 ∧ e'.2 ≠ d) :
    ∀ (m : SMap α) (lo : Nat), swfFrom d lo m = true → swfFrom d lo (m.filterMap f) = true
  | [], _, _ => rfl
  | (k, v) :: m, lo, hm => by
    simp only [swfFrom, Bool.and_eq_true, decide_eq_true_eq] at hm
    have ih := swfFrom_filterMap d f hf m (k + 1) hm.2
    rcases e : f (k, v) with _ | ⟨k', v'⟩
    · simpa [e] using swfFrom_le d (by omega) _ ih
    · obtain ⟨rfl, h2⟩ := hf _ _ e
      simpa [e, swfFrom, hm.1.1, h2] using ih

/-! ## byte strings -/

theorem swfFrom_dropWhile (a : Nat) : ∀ (m : Mem) (lo : Nat), swfFrom 0 lo m = true →
    swfFrom 0 (max lo a) (m.dropWhile (fun c => decide (c.1 < a))) = true
  | [], _, _ => rfl
  | (k, v) :: m, lo, hm => by
    simp only [swfFrom, Bool.and_eq_true, decide_eq_true_eq] at hm
    by_cases hk : k < a
    · simp only [List.dropWhile_cons, hk, decide_true, if_true]
      exact swfFrom_le 0 (by omega) _ (swfFrom_dropWhile a m (k + 1) hm.2)
    · simp only [List.dropWhile_cons, hk, decide_false, Bool.false_eq_true, if_false, swfFrom, Bool.and_eq_true,
        decide_eq_true_eq]
      exact ⟨⟨by omega, hm.1.2⟩, hm.2⟩

/-- cells below a bound followed by cells from it on -/
theorem swfFrom_append (b : Nat) : ∀ (m : Mem) (lo : Nat) (n : Mem), lo ≤ b → swfFrom 0 lo m = true → (∀ c ∈ m, c.1 < b) →
    swfFrom 0 b n = true → swfFrom 0 lo (m ++ n) = true
  | [], lo, n, hl, _, _, hn => swfFrom_le 0 hl n hn
  | (k, v) :: m, lo, n, hl, hm, hb, hn => by
    simp only [swfFrom, Bool.and_eq_true, decide_eq_true_eq] at hm
    have hk := hb (k, v) (by simp)
    simp only [List.cons_append, swfFrom, Bool.and_eq_true, decide_eq_true_eq]
    exact ⟨hm.1, swfFrom_append b m (k + 1) n hk hm.2 (fun c hc => hb c (by simp [hc])) hn⟩

theorem swfFrom_takeWhile (p : Host.Cell → Bool) : ∀ (m : Mem) (lo : Nat), swfFrom 0 lo m = true → swfFrom 0 lo (m.takeWhile p) = true
  | [], _, _ => rfl
  | (k, v) :: m, lo, hm => by
    simp only [swfFrom, Bool.and_eq_true, decide_eq_true_eq] at hm
    by_cases hp : p (k, v) = true
    · simp only [List.takeWhile_cons, hp, if_true, swfFrom, Bool.and_eq_true, decide_eq_true_eq]
      exact ⟨hm.1, swfFrom_takeWhile p m (k + 1) hm.2⟩
    · simp [hp, swfFrom]

theorem takeWhile_all {α : Type} (p : α → Bool) : ∀ m : List α, ∀ c ∈ m.takeWhile p, p c = true
  | [], _, h => by simp at h
  | x :: m, c, h => by
    by_cases hp : p x = true
    · simp only [List.takeWhile_cons, hp, if_true, List.mem_cons] at h
      rcases h with rfl | h
      · exact hp
      · exact takeWhile_all p m c h
    · simp [hp] at h

theorem cellsOf_wf : ∀ (bs : List Byte) (a : Nat),
    swfFrom 0 a (cellsOf a bs) = true ∧ ∀ c ∈ cellsOf a bs, c.1 < a + bs.length
  | [], a => ⟨rfl, by simp [cellsOf]⟩
  | b :: bs, a => by
    obtain ⟨h1, h2⟩ := cellsOf_wf bs (a + 1)
    unfold cellsOf
    split
    · exact ⟨swfFrom_le 0 (by omega) _ h1, fun c hc => by have := h2 c hc; simp only [List.length_cons]; omega⟩
    · rename_i hb
      refine ⟨by simp only [swfFrom, Bool.and_eq_true, decide_eq_true_eq]; exact ⟨⟨Nat.le_refl _, hb⟩, h1⟩, ?_⟩
      intro c hc
      rcases List.mem_cons.1 hc with rfl | hc
      · simp
      · have := h2 c hc; simp only [List.length_cons]; omega

theorem writeBytes_wf (m : Mem) (a : Nat) (bs : List Byte) (h : Memory.wf m = true) : Memory.wf (writeBytes m a bs) = true := by
  unfold Memory.wf swf writeBytes at *
  obtain ⟨h1, h2⟩ := cellsOf_wf bs a
  have h3 := swfFrom_dropWhile (a + bs.length) m 0 h
  refine swfFrom_append (a + bs.length) _ 0 _ (Nat.zero_le _) ?_ ?_ (by simpa using h3)
  · exact swfFrom_append a _ 0 _ (Nat.zero_le _) (swfFrom_takeWhile _ m 0 h)
      (fun c hc => by simpa using takeWhile_all _ m c hc) h1
  · intro c hc
    rcases List.mem_append.1 hc with hc | hc
    · have := takeWhile_all _ m c hc
      simp only [decide_eq_true_eq] at this; omega
    · exact h2 c hc


structure Kp (a s : State) : Prop where
  pending : s.pending = a.pending
  fuses : s.fuses = a.fuses
  sound : a.Sound → s.Sound

def OKp (a : State) (o : Host.Outcome State Fault Refusal) : Prop := ∃ t, o = .next t ∧ Kp a t
def MKp (a : State) (o : Option State) : Prop := ∀ t, o = some t → Kp a t

theorem Kp.rfl {s : State} : Kp s s := ⟨(Eq.refl _), (Eq.refl _), id⟩
theorem Kp.trans {a b c : State} (h : Kp a b) (k : Kp b c) : Kp a c :=
  ⟨k.1.trans h.1, k.2.trans h.2, fun x => k.3 (h.3 x)⟩
theorem Kp.ite {a x y : State} {c : Prop} [Decidable c] (h : Kp a x) (k : Kp a y) : Kp a (if c then x else y) := by
  split <;> assumption
theorem Kp.ite2 {α : Type} {a : State} {x y : α × State} {c : Prop} [Decidable c] (h : Kp a x.2) (k : Kp a y.2) : Kp a (if c then x else y).2 := by
  split <;> assumption
theorem OKp.next {a x : State} (h : Kp a x) : OKp a (.next x) := ⟨x, (Eq.refl _), h⟩
theorem OKp.ite {a : State} {x y} {c : Prop} [Decidable c] (h : OKp a x) (k : OKp a y) : OKp a (if c then x else y) := by
  split <;> assumption
theorem MKp.some {a x : State} (h : Kp a x) : MKp a (.some x) := by rintro t ⟨⟩; exact h
theorem MKp.none {a : State} : MKp a .none := by rintro t ⟨⟩
theorem MKp.ite {a : State} {x y} {c : Prop} [Decidable c] (h : MKp a x) (k : MKp a y) : MKp a (if c then x else y) := by
  split <;> assumption

theorem Kp.foldl {α : Type} {a : State} (f : State → α → State) (h : ∀ s x, Kp a s → Kp a (f s x)) (l : List α) (s : State)
    (hs : Kp a s) : Kp a (l.foldl f s) := by
  induction l generalizing s with
  | nil => exact hs
  | cons x l ih => exact ih _ (h _ _ hs)

theorem Kp.getD {a s : State} {o : Option State} (h : ∀ t, o = some t → Kp a t) (hs : Kp a s) : Kp a (o.getD s) := by
  cases o with
  | none => exact hs
  | some t => exact h t (Eq.refl _)

theorem foldl_inv {α β : Type} (P : β → Prop) (f : β → α → β) (h : ∀ b x, P b → P (f b x)) (l : List α) (b : β) (hb : P b) :
    P (l.foldl f b) := by
  induction l generalizing b with
  | nil => exact hb
  | cons x l ih => exact ih _ (h _ _ hb)

theorem Kp.foldl1 {α β : Type} {a : State} (f : State × β → α → State × β) (h : ∀ p x, Kp a p.1 → Kp a (f p x).1) (l : List α) (p : State × β)
    (hs : Kp a p.1) : Kp a (l.foldl f p).1 := by
  induction l generalizing p with
  | nil => exact hs
  | cons x l ih => exact ih _ (h _ _ hs)

theorem Kp.foldl2 {α β : Type} {a : State} (f : β × State → α → β × State) (h : ∀ p x, Kp a p.2 → Kp a (f p x).2) (l : List α) (p : β × State)
    (hs : Kp a p.2) : Kp a (l.foldl f p).2 := by
  induction l generalizing p with
  | nil => exact hs
  | cons x l ih => exact ih _ (h _ _ hs)

theorem Kp.foldl3 {α β : Type} {γ : Type} {a : State} (f : β × γ × State → α → β × γ × State) (h : ∀ p x, Kp a p.2.2 → Kp a (f p x).2.2) (l : List α) (p : β × γ × State)
    (hs : Kp a p.2.2) : Kp a (l.foldl f p).2.2 := by
  induction l generalizing p with
  | nil => exact hs
  | cons x l ih => exact ih _ (h _ _ hs)

theorem Kp.ite33 {α β : Type} {a : State} {x y : α × β × State} {c : Prop} [Decidable c] (h : Kp a x.2.2) (k : Kp a y.2.2) :
    Kp a (if c then x else y).2.2 := by split <;> assumption

theorem Kp.upd2 {a s : State} {v_ck v_frameCk v_trim v_hiLatch v_freeCtr v_tun v_hbm v_acc v_ing v_col v_sweep v_jnl v_riser v_life v_lifeImg v_lifeCk v_hotCk v_cal v_ext v_stag v_remote v_idleFrame v_firstCk v_strobes v_inbox v_transit v_ports v_pkNo v_tc0 v_unreach v_stwRsp v_noted v_pwr v_tru v_lops v_svc} (h : Kp a s)
    (h4 : Memory.wf s.tun.bytes = true → Memory.wf v_tun.bytes = true) (h5 : Memory.wf s.tun.side = true → Memory.wf v_tun.side = true)
    (h6 : Memory.wf s.hbm = true → Memory.wf v_hbm = true)
    (h7 : Memory.wf s.ing.bytes = true → Memory.wf v_ing.bytes = true) (h8 : Memory.wf s.ing.side = true → Memory.wf v_ing.side = true) :
    Kp a (State.mk s.pending v_ck v_frameCk v_trim s.regs s.fuses v_hiLatch v_freeCtr s.cores v_tun v_hbm v_acc v_ing v_col v_sweep v_jnl v_riser v_life v_lifeImg v_lifeCk v_hotCk v_cal v_ext v_stag v_remote v_idleFrame v_firstCk v_strobes v_inbox v_transit v_ports v_pkNo v_tc0 v_unreach v_stwRsp v_noted v_pwr v_tru v_lops v_svc) :=
  ⟨h.1, h.2, fun x => by
    have y := h.3 x
    exact ⟨y.regs, y.fuses, h4 y.tunBytes, h5 y.tunSide, h6 y.hbm, h7 y.ingBytes, h8 y.ingSide, y.caches⟩⟩

theorem Kp.mapCores {a s : State} (h : Kp a s) (f : CoreSt → CoreSt) (hf : ∀ x, (f x).ldl.cache = x.ldl.cache) :
    Kp a { s with cores := s.cores.map f } :=
  ⟨h.1, h.2, fun x => by
    have y := h.3 x
    refine ⟨y.regs, y.fuses, y.tunBytes, y.tunSide, y.hbm, y.ingBytes, y.ingSide, ?_⟩
    intro z hz
    simp only [Vector.toList_map, List.mem_map] at hz
    obtain ⟨w, hw, rfl⟩ := hz
    rw [hf]; exact y.caches w hw⟩

theorem wf_filter (m : Mem) (p : Host.Cell → Bool) (h : Memory.wf m = true) : Memory.wf (m.filter p) = true := swf_filter 0 m p h
theorem wf_nil : Memory.wf [] = true := rfl

end Sys2Proof.Machine
end

