-- ==== Sys2Proof/Laws/Keep01.lean ====
section
/-!
SUPPORT. Laws/Keep01.lean: each function of Machine/Ops, Faults, Operands, IssueChecks
that answers a state keeps the queue, the fuses and the canonical form.
-/
namespace Sys2Proof.Machine

open Sys2Proof

variable {kb : State}

/-! ## Machine/Ops.lean -/

theorem State.setReg_kp {s : State} (r : Reg) (v inst i : Nat) (h : Kp kb s) : Kp kb (s.setReg r v inst i) :=
  ⟨h.1, h.2, fun x => by
    have y := h.3 x
    exact { y with regs := swf_sset 0 _ _ _ y.regs }⟩

theorem State.setFld_kp (s : State) (f : Fld) (v : Nat) (inst : Nat) (i : Nat)
    (h0 : Kp kb s) : Kp kb (State.setFld s f v inst i) := by
  unfold State.setFld; grind (splits := 14) (gen := 60) (ematch := 60) [Option.map_eq_some_iff, Option.bind_eq_some_iff, ← Kp.upd2, ← OKp.next, ← MKp.some, ← Kp.getD, ← Kp.foldl, ← Kp.foldl1, ← Kp.foldl2, ← Kp.foldl3, ← writeBytes_wf, ← wf_filter, wf_nil, ← State.setReg_kp]

theorem State.bump_kp (s : State) (r : Reg) (k : Nat) (inst : Nat) (i : Nat)
    (h0 : Kp kb s) : Kp kb (State.bump s r k inst i) := by
  unfold State.bump; grind (splits := 14) (gen := 60) (ematch := 60) [Option.map_eq_some_iff, Option.bind_eq_some_iff, ← Kp.upd2, ← OKp.next, ← MKp.some, ← Kp.getD, ← Kp.foldl, ← Kp.foldl1, ← Kp.foldl2, ← Kp.foldl3, ← writeBytes_wf, ← wf_filter, wf_nil, ← State.setReg_kp]

theorem State.wrapAdd_kp (s : State) (r : Reg) (k : Nat) (inst : Nat) (i : Nat)
    (h0 : Kp kb s) : Kp kb (State.wrapAdd s r k inst i) := by
  unfold State.wrapAdd; grind (splits := 14) (gen := 60) (ematch := 60) [Option.map_eq_some_iff, Option.bind_eq_some_iff, ← Kp.upd2, ← OKp.next, ← MKp.some, ← Kp.getD, ← Kp.foldl, ← Kp.foldl1, ← Kp.foldl2, ← Kp.foldl3, ← writeBytes_wf, ← wf_filter, wf_nil, ← State.setReg_kp]

theorem State.upTo_kp (s : State) (t : Nat)
    (h0 : Kp kb s) : Kp kb (State.upTo s t) := by
  unfold State.upTo; grind (splits := 14) (gen := 60) (ematch := 60) [Option.map_eq_some_iff, Option.bind_eq_some_iff, ← Kp.upd2, ← OKp.next, ← MKp.some, ← Kp.getD, ← Kp.foldl, ← Kp.foldl1, ← Kp.foldl2, ← Kp.foldl3, ← writeBytes_wf, ← wf_filter, wf_nil]

theorem State.draw_kp (s : State)
    (h0 : Kp kb s) : Kp kb (State.draw s).2 := by
  unfold State.draw; grind (splits := 14) (gen := 60) (ematch := 60) [Option.map_eq_some_iff, Option.bind_eq_some_iff, ← Kp.upd2, ← OKp.next, ← MKp.some, ← Kp.getD, ← Kp.foldl, ← Kp.foldl1, ← Kp.foldl2, ← Kp.foldl3, ← writeBytes_wf, ← wf_filter, wf_nil]

theorem State.drawBytes_kp (s : State) (n : Nat)
    (h0 : Kp kb s) : Kp kb (State.drawBytes s n).2 := by
  unfold State.drawBytes; grind (splits := 14) (gen := 60) (ematch := 60) [Option.map_eq_some_iff, Option.bind_eq_some_iff, ← Kp.upd2, ← OKp.next, ← MKp.some, ← Kp.getD, ← Kp.foldl, ← Kp.foldl1, ← Kp.foldl2, ← Kp.foldl3, ← writeBytes_wf, ← wf_filter, wf_nil]

theorem State.modCore_kp {s : State} (c : Nat) (f : CoreSt → CoreSt) (h : Kp kb s)
    (hf : ∀ x, Memory.wf x.ldl.cache = true → Memory.wf (f x).ldl.cache = true) : Kp kb (s.modCore c f) :=
  ⟨h.1, h.2, fun x => by
    have y := h.3 x
    refine { y with caches := ?_ }
    intro z hz
    have h8 := y.caches
    simp only [State.modCore, Vector.toList_mapIdx, List.mem_mapIdx] at hz
    obtain ⟨i, hi, rfl⟩ := hz
    split
    · exact hf _ (h8 _ (List.getElem_mem _))
    · exact h8 _ (List.getElem_mem _)⟩

theorem State.modSpr_kp (s : State) (c : Nat) (f : SprueSt → SprueSt)
    (h0 : Kp kb s) : Kp kb (State.modSpr s c f) := by
  unfold State.modSpr; grind (splits := 14) (gen := 60) (ematch := 60) [Option.map_eq_some_iff, Option.bind_eq_some_iff, ← Kp.upd2, ← OKp.next, ← MKp.some, ← Kp.getD, ← Kp.foldl, ← Kp.foldl1, ← Kp.foldl2, ← Kp.foldl3, ← writeBytes_wf, ← wf_filter, wf_nil, ← State.modCore_kp]

theorem State.setPageState_kp (s : State) (p : PageKind) (inst : Nat) (v : Nat)
    (h0 : Kp kb s) : Kp kb (State.setPageState s p inst v) := by
  unfold State.setPageState; grind (splits := 14) (gen := 60) (ematch := 60) [Option.map_eq_some_iff, Option.bind_eq_some_iff, ← Kp.upd2, ← OKp.next, ← MKp.some, ← Kp.getD, ← Kp.foldl, ← Kp.foldl1, ← Kp.foldl2, ← Kp.foldl3, ← writeBytes_wf, ← wf_filter, wf_nil, ← State.setFld_kp]

theorem State.disarm_kp (s : State) (f : Fld) (inst : Nat)
    (h0 : Kp kb s) : Kp kb (State.disarm s f inst) := by
  unfold State.disarm; grind (splits := 14) (gen := 60) (ematch := 60) [Option.map_eq_some_iff, Option.bind_eq_some_iff, ← Kp.upd2, ← OKp.next, ← MKp.some, ← Kp.getD, ← Kp.foldl, ← Kp.foldl1, ← Kp.foldl2, ← Kp.foldl3, ← writeBytes_wf, ← wf_filter, wf_nil, ← State.setFld_kp]

theorem State.injFails_kp (s : State) (once : Fld) (twice : Fld) (inst : Nat)
    (h0 : Kp kb s) : Kp kb (State.injFails s once twice inst).2 := by
  unfold State.injFails; grind (splits := 14) (gen := 60) (ematch := 60) [Option.map_eq_some_iff, Option.bind_eq_some_iff, ← Kp.upd2, ← OKp.next, ← MKp.some, ← Kp.getD, ← Kp.foldl, ← Kp.foldl1, ← Kp.foldl2, ← Kp.foldl3, ← writeBytes_wf, ← wf_filter, wf_nil, ← State.disarm_kp]

theorem State.forEach_kp {α : Type} (s : State) (l : List α) (f : State → α → State)
    (h0 : Kp kb s) (h1 : ∀ y0 y1, Kp kb y0 → Kp kb (f y0 y1)) : Kp kb (State.forEach s l f) := by
  unfold State.forEach; grind (splits := 14) (gen := 60) (ematch := 60) [Option.map_eq_some_iff, Option.bind_eq_some_iff, ← Kp.upd2, ← OKp.next, ← MKp.some, ← Kp.getD, ← Kp.foldl, ← Kp.foldl1, ← Kp.foldl2, ← Kp.foldl3, ← writeBytes_wf, ← wf_filter, wf_nil]

/-! ## Machine/Faults.lean -/

theorem sendMsg_kp (s : State) (tc : Nat) (mkind : Nat) (dest : Nat) (dhost : Bool) (word : Nat) (body : List Byte)
    (h0 : Kp kb s) : Kp kb (sendMsg s tc mkind dest dhost word body) := by
  unfold sendMsg; grind (splits := 14) (gen := 60) (ematch := 60) [Option.map_eq_some_iff, Option.bind_eq_some_iff, ← Kp.upd2, ← OKp.next, ← MKp.some, ← Kp.getD, ← Kp.foldl, ← Kp.foldl1, ← Kp.foldl2, ← Kp.foldl3, ← writeBytes_wf, ← wf_filter, wf_nil]

theorem jnlPush_kp (s : State) (type : Nat) (payload : List Byte) (actor : Nat) (host : Nat)
    (h0 : Kp kb s) : Kp kb (jnlPush s type payload actor host) := by
  unfold jnlPush; grind (splits := 14) (gen := 60) (ematch := 60) [Option.map_eq_some_iff, Option.bind_eq_some_iff, ← Kp.upd2, ← OKp.next, ← MKp.some, ← Kp.getD, ← Kp.foldl, ← Kp.foldl1, ← Kp.foldl2, ← Kp.foldl3, ← writeBytes_wf, ← wf_filter, wf_nil, ← State.setReg_kp]

theorem jnlAppend_kp (s : State) (type : Nat) (payload : List Byte) (actor : Nat) (host : Nat)
    (h0 : Kp kb s) : Kp kb (jnlAppend s type payload actor host) := by
  unfold jnlAppend; grind (splits := 14) (gen := 60) (ematch := 60) [Option.map_eq_some_iff, Option.bind_eq_some_iff, ← Kp.upd2, ← OKp.next, ← MKp.some, ← Kp.getD, ← Kp.foldl, ← Kp.foldl1, ← Kp.foldl2, ← Kp.foldl3, ← writeBytes_wf, ← wf_filter, wf_nil, ← State.bump_kp, ← State.setFld_kp, ← jnlPush_kp]

theorem jnlDrain_kp (z0 : Nat) (z1 : State)
    (h0 : Kp kb z1) : Kp kb (jnlDrain z0 z1) := by
  fun_induction jnlDrain z0 z1 <;> grind (splits := 14) (gen := 60) (ematch := 60) [Option.map_eq_some_iff, Option.bind_eq_some_iff, ← Kp.upd2, ← OKp.next, ← MKp.some, ← Kp.getD, ← Kp.foldl, ← Kp.foldl1, ← Kp.foldl2, ← Kp.foldl3, ← writeBytes_wf, ← wf_filter, wf_nil, ← State.setFld_kp, ← jnlPush_kp]

theorem jnlRetire_kp (s : State) (cls : Nat) (index : Nat)
    (h0 : Kp kb s) : Kp kb (jnlRetire s cls index) := by
  unfold jnlRetire; grind (splits := 14) (gen := 60) (ematch := 60) [Option.map_eq_some_iff, Option.bind_eq_some_iff, ← Kp.upd2, ← OKp.next, ← MKp.some, ← Kp.getD, ← Kp.foldl, ← Kp.foldl1, ← Kp.foldl2, ← Kp.foldl3, ← writeBytes_wf, ← wf_filter, wf_nil, ← jnlAppend_kp]

theorem jnlFault_kp (s : State) (payload : List Byte)
    (h0 : Kp kb s) : Kp kb (jnlFault s payload) := by
  unfold jnlFault; grind (splits := 14) (gen := 60) (ematch := 60) [Option.map_eq_some_iff, Option.bind_eq_some_iff, ← Kp.upd2, ← OKp.next, ← MKp.some, ← Kp.getD, ← Kp.foldl, ← Kp.foldl1, ← Kp.foldl2, ← Kp.foldl3, ← writeBytes_wf, ← wf_filter, wf_nil, ← State.bump_kp, ← jnlPush_kp]

theorem lifeAdd_kp (s : State) (i : Nat) (k : Nat)
    (h0 : Kp kb s) : Kp kb (lifeAdd s i k) := by
  unfold lifeAdd; grind (splits := 14) (gen := 60) (ematch := 60) [Option.map_eq_some_iff, Option.bind_eq_some_iff, ← Kp.upd2, ← OKp.next, ← MKp.some, ← Kp.getD, ← Kp.foldl, ← Kp.foldl1, ← Kp.foldl2, ← Kp.foldl3, ← writeBytes_wf, ← wf_filter, wf_nil]

theorem strobe_kp (s : State)
    (h0 : Kp kb s) : Kp kb (strobe s) := by
  unfold strobe; grind (splits := 14) (gen := 60) (ematch := 60) [Option.map_eq_some_iff, Option.bind_eq_some_iff, ← Kp.upd2, ← OKp.next, ← MKp.some, ← Kp.getD, ← Kp.foldl, ← Kp.foldl1, ← Kp.foldl2, ← Kp.foldl3, ← writeBytes_wf, ← wf_filter, wf_nil, ← State.setFld_kp]

theorem recordFault_kp (s : State) (p : PageKind) (inst : Nat) (src : Nat)
    (h0 : Kp kb s) : Kp kb (recordFault s p inst src) := by
  unfold recordFault; grind (splits := 14) (gen := 60) (ematch := 60) [Option.map_eq_some_iff, Option.bind_eq_some_iff, ← Kp.upd2, ← OKp.next, ← MKp.some, ← Kp.getD, ← Kp.foldl, ← Kp.foldl1, ← Kp.foldl2, ← Kp.foldl3, ← writeBytes_wf, ← wf_filter, wf_nil, ← State.bump_kp, ← State.setReg_kp]

theorem unissue_kp (s : State) (c : Nat)
    (h0 : Kp kb s) : Kp kb (unissue s c) := by
  unfold unissue; grind (splits := 14) (gen := 60) (ematch := 60) [Option.map_eq_some_iff, Option.bind_eq_some_iff, ← Kp.upd2, ← OKp.next, ← MKp.some, ← Kp.getD, ← Kp.foldl, ← Kp.foldl1, ← Kp.foldl2, ← Kp.foldl3, ← writeBytes_wf, ← wf_filter, wf_nil, ← State.modSpr_kp, ← State.setFld_kp, ← State.setReg_kp]

theorem haltInfo_kp (s : State) (c : Nat) (status : Nat) (p : PageKind) (inst : Nat)
    (h0 : Kp kb s) : Kp kb (haltInfo s c status p inst) := by
  unfold haltInfo; grind (splits := 14) (gen := 60) (ematch := 60) [Option.map_eq_some_iff, Option.bind_eq_some_iff, ← Kp.upd2, ← OKp.next, ← MKp.some, ← Kp.getD, ← Kp.foldl, ← Kp.foldl1, ← Kp.foldl2, ← Kp.foldl3, ← writeBytes_wf, ← wf_filter, wf_nil, ← State.modSpr_kp, ← State.setReg_kp]

theorem haltStream_kp (s : State) (c : Nat) (status : Nat) (p : PageKind) (inst : Nat) (seq : Nat)
    (h0 : Kp kb s) : Kp kb (haltStream s c status p inst seq) := by
  unfold haltStream; grind (splits := 14) (gen := 60) (ematch := 60) [Option.map_eq_some_iff, Option.bind_eq_some_iff, ← Kp.upd2, ← OKp.next, ← MKp.some, ← Kp.getD, ← Kp.foldl, ← Kp.foldl1, ← Kp.foldl2, ← Kp.foldl3, ← writeBytes_wf, ← wf_filter, wf_nil, ← State.setFld_kp, ← State.setReg_kp, ← haltInfo_kp, ← unissue_kp]

theorem haltFor_kp (s : State) (p : PageKind) (inst : Nat) (status : Nat) (seq : Nat)
    (h0 : Kp kb s) : Kp kb (haltFor s p inst status seq) := by
  unfold haltFor; grind (splits := 14) (gen := 60) (ematch := 60) [Option.map_eq_some_iff, Option.bind_eq_some_iff, ← Kp.upd2, ← OKp.next, ← MKp.some, ← Kp.getD, ← Kp.foldl, ← Kp.foldl1, ← Kp.foldl2, ← Kp.foldl3, ← writeBytes_wf, ← wf_filter, wf_nil, ← haltStream_kp]

theorem sendEvent_kp (s : State) (p : PageKind) (inst : Nat) (src : Nat)
    (h0 : Kp kb s) : Kp kb (sendEvent s p inst src) := by
  unfold sendEvent; grind (splits := 14) (gen := 60) (ematch := 60) [Option.map_eq_some_iff, Option.bind_eq_some_iff, ← Kp.upd2, ← OKp.next, ← MKp.some, ← Kp.getD, ← Kp.foldl, ← Kp.foldl1, ← Kp.foldl2, ← Kp.foldl3, ← writeBytes_wf, ← wf_filter, wf_nil, ← sendMsg_kp]

theorem quenchPages_kp (s : State)
    (h0 : Kp kb s) : Kp kb (quenchPages s) := by
  unfold quenchPages; grind (splits := 14) (gen := 60) (ematch := 60) [Option.map_eq_some_iff, Option.bind_eq_some_iff, ← Kp.upd2, ← OKp.next, ← MKp.some, ← Kp.getD, ← Kp.foldl, ← Kp.foldl1, ← Kp.foldl2, ← Kp.foldl3, ← writeBytes_wf, ← wf_filter, wf_nil, ← State.setPageState_kp]

theorem quenchCores_kp (s : State)
    (h0 : Kp kb s) : Kp kb (quenchCores s) := by
  unfold quenchCores; grind (splits := 14) (gen := 60) (ematch := 60) [Option.map_eq_some_iff, Option.bind_eq_some_iff, ← Kp.upd2, ← OKp.next, ← MKp.some, ← Kp.getD, ← Kp.foldl, ← Kp.foldl1, ← Kp.foldl2, ← Kp.foldl3, ← writeBytes_wf, ← wf_filter, wf_nil, ← State.modCore_kp, ← State.modSpr_kp, ← State.setFld_kp]

theorem modLink_kp (s : State) (p : Nat) (f : PortLink → PortLink)
    (h0 : Kp kb s) : Kp kb (modLink s p f) := by
  unfold modLink; grind (splits := 14) (gen := 60) (ematch := 60) [Option.map_eq_some_iff, Option.bind_eq_some_iff, ← Kp.upd2, ← OKp.next, ← MKp.some, ← Kp.getD, ← Kp.foldl, ← Kp.foldl1, ← Kp.foldl2, ← Kp.foldl3, ← writeBytes_wf, ← wf_filter, wf_nil]

theorem eraseKeys_kp (s : State) (p : Nat)
    (h0 : Kp kb s) : Kp kb (eraseKeys s p) := by
  unfold eraseKeys; grind (splits := 14) (gen := 60) (ematch := 60) [Option.map_eq_some_iff, Option.bind_eq_some_iff, ← Kp.upd2, ← OKp.next, ← MKp.some, ← Kp.getD, ← Kp.foldl, ← Kp.foldl1, ← Kp.foldl2, ← Kp.foldl3, ← writeBytes_wf, ← wf_filter, wf_nil, ← State.setFld_kp, ← State.setReg_kp, ← modLink_kp]

theorem quenchPorts_kp (s : State)
    (h0 : Kp kb s) : Kp kb (quenchPorts s) := by
  unfold quenchPorts; grind (splits := 14) (gen := 60) (ematch := 60) [Option.map_eq_some_iff, Option.bind_eq_some_iff, ← Kp.upd2, ← OKp.next, ← MKp.some, ← Kp.getD, ← Kp.foldl, ← Kp.foldl1, ← Kp.foldl2, ← Kp.foldl3, ← writeBytes_wf, ← wf_filter, wf_nil, ← eraseKeys_kp, ← modLink_kp]

theorem quenchCore_kp (s : State) (c : Nat)
    (h0 : Kp kb s) : Kp kb (quenchCore s c) := by
  unfold quenchCore; grind (splits := 14) (gen := 60) (ematch := 60) [Option.map_eq_some_iff, Option.bind_eq_some_iff, ← Kp.upd2, ← OKp.next, ← MKp.some, ← Kp.getD, ← Kp.foldl, ← Kp.foldl1, ← Kp.foldl2, ← Kp.foldl3, ← writeBytes_wf, ← wf_filter, wf_nil, ← State.modCore_kp, ← State.setFld_kp, ← State.setReg_kp]

theorem quenchBlocks_kp (s : State)
    (h0 : Kp kb s) : Kp kb (quenchBlocks s) := by
  unfold quenchBlocks; grind (splits := 14) (gen := 60) (ematch := 60) [Option.map_eq_some_iff, Option.bind_eq_some_iff, ← Kp.upd2, ← OKp.next, ← MKp.some, ← Kp.getD, ← Kp.foldl, ← Kp.foldl1, ← Kp.foldl2, ← Kp.foldl3, ← writeBytes_wf, ← wf_filter, wf_nil, ← State.setFld_kp, ← quenchCore_kp, ← quenchPorts_kp, ← strobe_kp]

theorem raiseQuenched_kp (p : PageKind) (inst : Nat) (src : Nat) (s : State)
    (h0 : Kp kb s) : Kp kb (raiseQuenched p inst src s) := by
  unfold raiseQuenched; grind (splits := 14) (gen := 60) (ematch := 60) [Option.map_eq_some_iff, Option.bind_eq_some_iff, ← Kp.upd2, ← OKp.next, ← MKp.some, ← Kp.getD, ← Kp.foldl, ← Kp.foldl1, ← Kp.foldl2, ← Kp.foldl3, ← writeBytes_wf, ← wf_filter, wf_nil, ← State.bump_kp, ← jnlFault_kp, ← recordFault_kp, ← sendEvent_kp]

theorem quench_kp (s : State) (q : QCause) (qs : List QCause)
    (h0 : Kp kb s) : Kp kb (quench s q qs) := by
  unfold quench; grind (splits := 14) (gen := 60) (ematch := 60) [Option.map_eq_some_iff, Option.bind_eq_some_iff, ← Kp.upd2, ← OKp.next, ← MKp.some, ← Kp.getD, ← Kp.foldl, ← Kp.foldl1, ← Kp.foldl2, ← Kp.foldl3, ← writeBytes_wf, ← wf_filter, wf_nil, ← State.bump_kp, ← State.draw_kp, ← State.setReg_kp, ← jnlAppend_kp, ← lifeAdd_kp, ← quenchBlocks_kp, ← quenchCores_kp, ← quenchPages_kp, ← raiseQuenched_kp]

theorem raiseNotify_kp (p : PageKind) (inst : Nat) (src : Nat) (s : State)
    (h0 : Kp kb s) : Kp kb (raiseNotify p inst src s) := by
  unfold raiseNotify; grind (splits := 14) (gen := 60) (ematch := 60) [Option.map_eq_some_iff, Option.bind_eq_some_iff, ← Kp.upd2, ← OKp.next, ← MKp.some, ← Kp.getD, ← Kp.foldl, ← Kp.foldl1, ← Kp.foldl2, ← Kp.foldl3, ← writeBytes_wf, ← wf_filter, wf_nil, ← jnlFault_kp, ← recordFault_kp, ← sendEvent_kp]

theorem raiseFor_kp (p : PageKind) (inst : Nat) (src : Nat) (status : Nat) (seq : Nat) (s : State)
    (h0 : Kp kb s) : Kp kb (raiseFor p inst src status seq s) := by
  unfold raiseFor; grind (splits := 14) (gen := 60) (ematch := 60) [Option.map_eq_some_iff, Option.bind_eq_some_iff, ← Kp.upd2, ← OKp.next, ← MKp.some, ← Kp.getD, ← Kp.foldl, ← Kp.foldl1, ← Kp.foldl2, ← Kp.foldl3, ← writeBytes_wf, ← wf_filter, wf_nil, ← haltFor_kp, ← jnlFault_kp, ← quench_kp, ← recordFault_kp, ← sendEvent_kp]

theorem showRemove_kp (s : State)
    (h0 : Kp kb s) : Kp kb (showRemove s) := by
  unfold showRemove; grind (splits := 14) (gen := 60) (ematch := 60) [Option.map_eq_some_iff, Option.bind_eq_some_iff, ← Kp.upd2, ← OKp.next, ← MKp.some, ← Kp.getD, ← Kp.foldl, ← Kp.foldl1, ← Kp.foldl2, ← Kp.foldl3, ← writeBytes_wf, ← wf_filter, wf_nil, ← State.setFld_kp]

theorem raise_kp (p : PageKind) (inst : Nat) (src : Nat) (s : State)
    (h0 : Kp kb s) : Kp kb (raise p inst src s) := by
  unfold raise; grind (splits := 14) (gen := 60) (ematch := 60) [Option.map_eq_some_iff, Option.bind_eq_some_iff, ← Kp.upd2, ← OKp.next, ← MKp.some, ← Kp.getD, ← Kp.foldl, ← Kp.foldl1, ← Kp.foldl2, ← Kp.foldl3, ← writeBytes_wf, ← wf_filter, wf_nil, ← raiseFor_kp]

/-! ## Machine/Operands.lean -/

theorem tunStatus_kp (s : State) (a : Nat) (n : Nat)
    (h0 : Kp kb s) : Kp kb (tunStatus s a n).2 := by
  unfold tunStatus; grind (splits := 14) (gen := 60) (ematch := 60) [Option.map_eq_some_iff, Option.bind_eq_some_iff, ← Kp.upd2, ← OKp.next, ← MKp.some, ← Kp.getD, ← Kp.foldl, ← Kp.foldl1, ← Kp.foldl2, ← Kp.foldl3, ← writeBytes_wf, ← wf_filter, wf_nil, ← State.bump_kp, ← State.disarm_kp, ← raise_kp]

theorem acrossBridge_kp (s : State) (c : Nat) (m : Nat) (bs : List Byte)
    (h0 : Kp kb s) : Kp kb (acrossBridge s c m bs).2 := by
  unfold acrossBridge; grind (splits := 14) (gen := 60) (ematch := 60) [Option.map_eq_some_iff, Option.bind_eq_some_iff, ← Kp.upd2, ← OKp.next, ← MKp.some, ← Kp.getD, ← Kp.foldl, ← Kp.foldl1, ← Kp.foldl2, ← Kp.foldl3, ← writeBytes_wf, ← wf_filter, wf_nil, ← State.drawBytes_kp]

theorem hbmStatus_kp (s : State) (a : Nat) (n : Nat)
    (h0 : Kp kb s) : Kp kb (hbmStatus s a n).2 := by
  unfold hbmStatus; grind (splits := 14) (gen := 60) (ematch := 60) [Option.map_eq_some_iff, Option.bind_eq_some_iff, ← Kp.upd2, ← OKp.next, ← MKp.some, ← Kp.getD, ← Kp.foldl, ← Kp.foldl1, ← Kp.foldl2, ← Kp.foldl3, ← writeBytes_wf, ← wf_filter, wf_nil, ← State.bump_kp, ← State.disarm_kp, ← State.wrapAdd_kp, ← raise_kp]

theorem cacheStatus_kp (s : State) (c : Nat) (a : Nat) (n : Nat)
    (h0 : Kp kb s) : Kp kb (cacheStatus s c a n).2 := by
  unfold cacheStatus; grind (splits := 14) (gen := 60) (ematch := 60) [Option.map_eq_some_iff, Option.bind_eq_some_iff, ← Kp.upd2, ← OKp.next, ← MKp.some, ← Kp.getD, ← Kp.foldl, ← Kp.foldl1, ← Kp.foldl2, ← Kp.foldl3, ← writeBytes_wf, ← wf_filter, wf_nil, ← State.disarm_kp]

theorem readChunk_kp (s : State) (p : Place) (a : Nat) (n : Nat)
    (h0 : Kp kb s) : Kp kb (readChunk s p a n).2.2 := by
  unfold readChunk; grind (splits := 14) (gen := 60) (ematch := 60) [Option.map_eq_some_iff, Option.bind_eq_some_iff, ← Kp.upd2, ← OKp.next, ← MKp.some, ← Kp.getD, ← Kp.foldl, ← Kp.foldl1, ← Kp.foldl2, ← Kp.foldl3, ← writeBytes_wf, ← wf_filter, wf_nil, ← cacheStatus_kp, ← hbmStatus_kp, ← tunStatus_kp]

theorem readChunks_kp (s : State) (p : Place) (z0 : List (Nat × Nat))
    (h0 : Kp kb s) : Kp kb (readChunks s p z0).2.2 := by
  fun_induction readChunks s p z0 <;> grind (splits := 14) (gen := 60) (ematch := 60) [Option.map_eq_some_iff, Option.bind_eq_some_iff, ← Kp.upd2, ← OKp.next, ← MKp.some, ← Kp.getD, ← Kp.foldl, ← Kp.foldl1, ← Kp.foldl2, ← Kp.foldl3, ← writeBytes_wf, ← wf_filter, wf_nil, ← readChunk_kp]

theorem readRegion_kp (s : State) (r : Region) (p : Place) (off : Nat) (n : Nat)
    (h0 : Kp kb s) : Kp kb (readRegion s r p off n).2.2 := by
  unfold readRegion; grind (splits := 14) (gen := 60) (ematch := 60) [Option.map_eq_some_iff, Option.bind_eq_some_iff, ← Kp.upd2, ← OKp.next, ← MKp.some, ← Kp.getD, ← Kp.foldl, ← Kp.foldl1, ← Kp.foldl2, ← Kp.foldl3, ← writeBytes_wf, ← wf_filter, wf_nil, ← readChunks_kp]

theorem setCache_kp (s : State) (l : List CacheEnt)
    (h0 : Kp kb s) : Kp kb (setCache s l) := by
  unfold setCache; grind (splits := 14) (gen := 60) (ematch := 60) [Option.map_eq_some_iff, Option.bind_eq_some_iff, ← Kp.upd2, ← OKp.next, ← MKp.some, ← Kp.getD, ← Kp.foldl, ← Kp.foldl1, ← Kp.foldl2, ← Kp.foldl3, ← writeBytes_wf, ← wf_filter, wf_nil, ← State.setReg_kp]

theorem evictCount_kp (s : State) (e : CacheEnt)
    (h0 : Kp kb s) : Kp kb (evictCount s e) := by
  unfold evictCount; grind (splits := 14) (gen := 60) (ematch := 60) [Option.map_eq_some_iff, Option.bind_eq_some_iff, ← Kp.upd2, ← OKp.next, ← MKp.some, ← Kp.getD, ← Kp.foldl, ← Kp.foldl1, ← Kp.foldl2, ← Kp.foldl3, ← writeBytes_wf, ← wf_filter, wf_nil, ← State.bump_kp]

theorem sweepGone_kp (s : State)
    (h0 : Kp kb s) : Kp kb (sweepGone s) := by
  unfold sweepGone; grind (splits := 14) (gen := 60) (ematch := 60) [Option.map_eq_some_iff, Option.bind_eq_some_iff, ← Kp.upd2, ← OKp.next, ← MKp.some, ← Kp.getD, ← Kp.foldl, ← Kp.foldl1, ← Kp.foldl2, ← Kp.foldl3, ← writeBytes_wf, ← wf_filter, wf_nil, ← setCache_kp]

theorem dropEntries_kp (s : State) (p : CacheEnt → Bool)
    (h0 : Kp kb s) : Kp kb (dropEntries s p) := by
  unfold dropEntries; grind (splits := 14) (gen := 60) (ematch := 60) [Option.map_eq_some_iff, Option.bind_eq_some_iff, ← Kp.upd2, ← OKp.next, ← MKp.some, ← Kp.getD, ← Kp.foldl, ← Kp.foldl1, ← Kp.foldl2, ← Kp.foldl3, ← writeBytes_wf, ← wf_filter, wf_nil, ← evictCount_kp, ← setCache_kp, ← sweepGone_kp]

theorem invalidate_kp (s : State) (type : Nat) (dev : Nat) (tile : Nat)
    (h0 : Kp kb s) : Kp kb (invalidate s type dev tile) := by
  unfold invalidate; grind (splits := 14) (gen := 60) (ematch := 60) [Option.map_eq_some_iff, Option.bind_eq_some_iff, ← Kp.upd2, ← OKp.next, ← MKp.some, ← Kp.getD, ← Kp.foldl, ← Kp.foldl1, ← Kp.foldl2, ← Kp.foldl3, ← writeBytes_wf, ← wf_filter, wf_nil, ← dropEntries_kp]

theorem tunWrite_kp (s : State) (a : Nat) (bs : List Byte)
    (h0 : Kp kb s) : Kp kb (tunWrite s a bs) := by
  unfold tunWrite; grind (splits := 14) (gen := 60) (ematch := 60) [Option.map_eq_some_iff, Option.bind_eq_some_iff, ← Kp.upd2, ← OKp.next, ← MKp.some, ← Kp.getD, ← Kp.foldl, ← Kp.foldl1, ← Kp.foldl2, ← Kp.foldl3, ← writeBytes_wf, ← wf_filter, wf_nil]

theorem hbmWrite_kp (s : State) (a : Nat) (bs : List Byte)
    (h0 : Kp kb s) : Kp kb (hbmWrite s a bs) := by
  unfold hbmWrite; grind (splits := 14) (gen := 60) (ematch := 60) [Option.map_eq_some_iff, Option.bind_eq_some_iff, ← Kp.upd2, ← OKp.next, ← MKp.some, ← Kp.getD, ← Kp.foldl, ← Kp.foldl1, ← Kp.foldl2, ← Kp.foldl3, ← writeBytes_wf, ← wf_filter, wf_nil, ← State.bump_kp, ← State.disarm_kp, ← State.wrapAdd_kp, ← invalidate_kp, ← raise_kp]

theorem cacheWrite_kp (s : State) (c : Nat) (a : Nat) (bs : List Byte)
    (h0 : Kp kb s) : Kp kb (cacheWrite s c a bs) := by
  unfold cacheWrite; grind (splits := 14) (gen := 60) (ematch := 60) [Option.map_eq_some_iff, Option.bind_eq_some_iff, ← Kp.upd2, ← OKp.next, ← MKp.some, ← Kp.getD, ← Kp.foldl, ← Kp.foldl1, ← Kp.foldl2, ← Kp.foldl3, ← writeBytes_wf, ← wf_filter, wf_nil, ← State.modCore_kp]

theorem poke_kp (s : State) (p : Place) (a : Nat) (bs : List Byte)
    (h0 : Kp kb s) : Kp kb (poke s p a bs) := by
  unfold poke; grind (splits := 14) (gen := 60) (ematch := 60) [Option.map_eq_some_iff, Option.bind_eq_some_iff, ← Kp.upd2, ← OKp.next, ← MKp.some, ← Kp.getD, ← Kp.foldl, ← Kp.foldl1, ← Kp.foldl2, ← Kp.foldl3, ← writeBytes_wf, ← wf_filter, wf_nil, ← cacheWrite_kp, ← hbmWrite_kp, ← tunWrite_kp]

theorem writeChunks_kp (s : State) (p : Place) (z0 : List (Nat × Nat)) (z1 : List Byte)
    (h0 : Kp kb s) : Kp kb (writeChunks s p z0 z1) := by
  fun_induction writeChunks s p z0 z1 <;> grind (splits := 14) (gen := 60) (ematch := 60) [Option.map_eq_some_iff, Option.bind_eq_some_iff, ← Kp.upd2, ← OKp.next, ← MKp.some, ← Kp.getD, ← Kp.foldl, ← Kp.foldl1, ← Kp.foldl2, ← Kp.foldl3, ← writeBytes_wf, ← wf_filter, wf_nil, ← poke_kp]

theorem writeRegion_kp (s : State) (r : Region) (p : Place) (off : Nat) (bs : List Byte)
    (h0 : Kp kb s) : Kp kb (writeRegion s r p off bs) := by
  unfold writeRegion; grind (splits := 14) (gen := 60) (ematch := 60) [Option.map_eq_some_iff, Option.bind_eq_some_iff, ← Kp.upd2, ← OKp.next, ← MKp.some, ← Kp.getD, ← Kp.foldl, ← Kp.foldl1, ← Kp.foldl2, ← Kp.foldl3, ← writeBytes_wf, ← wf_filter, wf_nil, ← writeChunks_kp]

theorem readTile_kp (s : State) (p : Place) (t : Nat)
    (h0 : Kp kb s) : Kp kb (readTile s p t).2.2.2 := by
  unfold readTile; grind (splits := 14) (gen := 60) (ematch := 60) [Option.map_eq_some_iff, Option.bind_eq_some_iff, ← Kp.upd2, ← OKp.next, ← MKp.some, ← Kp.getD, ← Kp.foldl, ← Kp.foldl1, ← Kp.foldl2, ← Kp.foldl3, ← writeBytes_wf, ← wf_filter, wf_nil, ← State.bump_kp, ← raise_kp, ← readChunk_kp]

theorem writeSide_kp (s : State) (t : Nat) (side : List Byte)
    (h0 : Kp kb s) : Kp kb (writeSide s t side) := by
  unfold writeSide; grind (splits := 14) (gen := 60) (ematch := 60) [Option.map_eq_some_iff, Option.bind_eq_some_iff, ← Kp.upd2, ← OKp.next, ← MKp.some, ← Kp.getD, ← Kp.foldl, ← Kp.foldl1, ← Kp.foldl2, ← Kp.foldl3, ← writeBytes_wf, ← wf_filter, wf_nil, ← State.disarm_kp]

theorem writeTile_kp (s : State) (p : Place) (t : Nat) (payload : List Byte) (side : List Byte)
    (h0 : Kp kb s) : Kp kb (writeTile s p t payload side) := by
  unfold writeTile; grind (splits := 14) (gen := 60) (ematch := 60) [Option.map_eq_some_iff, Option.bind_eq_some_iff, ← Kp.upd2, ← OKp.next, ← MKp.some, ← Kp.getD, ← Kp.foldl, ← Kp.foldl1, ← Kp.foldl2, ← Kp.foldl3, ← writeBytes_wf, ← wf_filter, wf_nil, ← hbmWrite_kp, ← poke_kp, ← tunWrite_kp, ← writeSide_kp]

/-! ## Machine/IssueChecks.lean -/

theorem modPairs_kp (s : State) (c : Nat) (f : List Pair → List Pair)
    (h0 : Kp kb s) : Kp kb (modPairs s c f) := by
  unfold modPairs; grind (splits := 14) (gen := 60) (ematch := 60) [Option.map_eq_some_iff, Option.bind_eq_some_iff, ← Kp.upd2, ← OKp.next, ← MKp.some, ← Kp.getD, ← Kp.foldl, ← Kp.foldl1, ← Kp.foldl2, ← Kp.foldl3, ← writeBytes_wf, ← wf_filter, wf_nil, ← State.modCore_kp]

theorem notePairing_kp (s : State) (c : Nat) (i : Iss)
    (h0 : Kp kb s) : Kp kb (notePairing s c i) := by
  unfold notePairing; grind (splits := 14) (gen := 60) (ematch := 60) [Option.map_eq_some_iff, Option.bind_eq_some_iff, ← Kp.upd2, ← OKp.next, ← MKp.some, ← Kp.getD, ← Kp.foldl, ← Kp.foldl1, ← Kp.foldl2, ← Kp.foldl3, ← writeBytes_wf, ← wf_filter, wf_nil, ← modPairs_kp]

end Sys2Proof.Machine
end

