-- ==== Sys2Proof/Laws/Keep02.lean ====
section
/-!
SUPPORT. Laws/Keep02.lean: each function of Machine/Sprue, PatRun, Cache, Access, IngotMap
that answers a state keeps the queue, the fuses and the canonical form.
-/
namespace Sys2Proof.Machine

open Sys2Proof

variable {kb : State}

/-! ## Machine/Sprue.lean -/

theorem readSlot_kp (s : State) (c : Nat) (i : Nat)
    (h0 : Kp kb s) : Kp kb (readSlot s c i).2.2 := by
  unfold readSlot; grind (splits := 14) (gen := 60) (ematch := 60) [Option.map_eq_some_iff, Option.bind_eq_some_iff, ← Kp.upd2, ← OKp.next, ← MKp.some, ← Kp.getD, ← Kp.foldl, ← Kp.foldl1, ← Kp.foldl2, ← Kp.foldl3, ← writeBytes_wf, ← wf_filter, wf_nil, ← acrossBridge_kp, ← readChunk_kp]

theorem showLoops_kp (s : State) (c : Nat)
    (h0 : Kp kb s) : Kp kb (showLoops s c) := by
  unfold showLoops; grind (splits := 14) (gen := 60) (ematch := 60) [Option.map_eq_some_iff, Option.bind_eq_some_iff, ← Kp.upd2, ← OKp.next, ← MKp.some, ← Kp.getD, ← Kp.foldl, ← Kp.foldl1, ← Kp.foldl2, ← Kp.foldl3, ← writeBytes_wf, ← wf_filter, wf_nil, ← State.setFld_kp, ← State.setReg_kp]

theorem showFree_kp (s : State) (c : Nat)
    (h0 : Kp kb s) : Kp kb (showFree s c) := by
  unfold showFree; grind (splits := 14) (gen := 60) (ematch := 60) [Option.map_eq_some_iff, Option.bind_eq_some_iff, ← Kp.upd2, ← OKp.next, ← MKp.some, ← Kp.getD, ← Kp.foldl, ← Kp.foldl1, ← Kp.foldl2, ← Kp.foldl3, ← writeBytes_wf, ← wf_filter, wf_nil, ← State.setReg_kp]

theorem advance_kp (s : State) (c : Nat) (n : Nat)
    (h0 : Kp kb s) : Kp kb (advance s c n) := by
  unfold advance; grind (splits := 14) (gen := 60) (ematch := 60) [Option.map_eq_some_iff, Option.bind_eq_some_iff, ← Kp.upd2, ← OKp.next, ← MKp.some, ← Kp.getD, ← Kp.foldl, ← Kp.foldl1, ← Kp.foldl2, ← Kp.foldl3, ← writeBytes_wf, ← wf_filter, wf_nil, ← State.modSpr_kp, ← State.setReg_kp, ← showFree_kp, ← showLoops_kp]

theorem settleTokens_kp (s : State) (c : Nat)
    (h0 : Kp kb s) : Kp kb (settleTokens s c) := by
  unfold settleTokens; grind (splits := 14) (gen := 60) (ematch := 60) [Option.map_eq_some_iff, Option.bind_eq_some_iff, ← Kp.upd2, ← OKp.next, ← MKp.some, ← Kp.getD, ← Kp.foldl, ← Kp.foldl1, ← Kp.foldl2, ← Kp.foldl3, ← writeBytes_wf, ← wf_filter, wf_nil, ← State.modSpr_kp]

theorem putToken_kp (s : State) (c : Nat) (id : Nat) (t : Nat) (val : Option Nat)
    (h0 : Kp kb s) : Kp kb (putToken s c id t val) := by
  unfold putToken; grind (splits := 14) (gen := 60) (ematch := 60) [Option.map_eq_some_iff, Option.bind_eq_some_iff, ← Kp.upd2, ← OKp.next, ← MKp.some, ← Kp.getD, ← Kp.foldl, ← Kp.foldl1, ← Kp.foldl2, ← Kp.foldl3, ← writeBytes_wf, ← wf_filter, wf_nil, ← State.modSpr_kp, ← settleTokens_kp]

theorem setToken_kp (s : State) (c : Nat) (id : Nat) (t : Nat) (v : Nat)
    (h0 : Kp kb s) : Kp kb (setToken s c id t v) := by
  unfold setToken; grind (splits := 14) (gen := 60) (ematch := 60) [Option.map_eq_some_iff, Option.bind_eq_some_iff, ← Kp.upd2, ← OKp.next, ← MKp.some, ← Kp.getD, ← Kp.foldl, ← Kp.foldl1, ← Kp.foldl2, ← Kp.foldl3, ← writeBytes_wf, ← wf_filter, wf_nil, ← putToken_kp]

theorem spendToken_kp (s : State) (c : Nat) (id : Nat) (k : Nat)
    (h0 : Kp kb s) : Kp kb (spendToken s c id k) := by
  unfold spendToken; grind (splits := 14) (gen := 60) (ematch := 60) [Option.map_eq_some_iff, Option.bind_eq_some_iff, ← Kp.upd2, ← OKp.next, ← MKp.some, ← Kp.getD, ← Kp.foldl, ← Kp.foldl1, ← Kp.foldl2, ← Kp.foldl3, ← writeBytes_wf, ← wf_filter, wf_nil, ← State.modSpr_kp, ← settleTokens_kp]

theorem signalToken_kp (s : State) (c : Nat) (id : Nat) (t : Nat)
    (h0 : Kp kb s) : Kp kb (signalToken s c id t) := by
  unfold signalToken; grind (splits := 14) (gen := 60) (ematch := 60) [Option.map_eq_some_iff, Option.bind_eq_some_iff, ← Kp.upd2, ← OKp.next, ← MKp.some, ← Kp.getD, ← Kp.foldl, ← Kp.foldl1, ← Kp.foldl2, ← Kp.foldl3, ← writeBytes_wf, ← wf_filter, wf_nil, ← State.modSpr_kp, ← putToken_kp, ← raise_kp]

theorem consume_kp (s : State) (c : Nat) (d : Desc)
    (h0 : Kp kb s) : Kp kb (consume s c d) := by
  unfold consume; grind (splits := 14) (gen := 60) (ematch := 60) [Option.map_eq_some_iff, Option.bind_eq_some_iff, ← Kp.upd2, ← OKp.next, ← MKp.some, ← Kp.getD, ← Kp.foldl, ← Kp.foldl1, ← Kp.foldl2, ← Kp.foldl3, ← writeBytes_wf, ← wf_filter, wf_nil, ← spendToken_kp]

theorem waitsFrom_kp (s : State) (c : Nat) (d : Desc)
    (h0 : Kp kb s) : ∀ x, (waitsFrom s c d) = some x → Kp kb x := by
  intro t ht; unfold waitsFrom at ht; simp only [Option.map_eq_some_iff] at ht; obtain ⟨x, _, rfl⟩ := ht
  exact State.upTo_kp _ _ h0

theorem fireSig_kp (s : State) (c : Nat) (sg : Sig)
    (h0 : Kp kb s) : Kp kb (fireSig s c sg) := by
  unfold fireSig; grind (splits := 14) (gen := 60) (ematch := 60) [Option.map_eq_some_iff, Option.bind_eq_some_iff, ← Kp.upd2, ← OKp.next, ← MKp.some, ← Kp.getD, ← Kp.foldl, ← Kp.foldl1, ← Kp.foldl2, ← Kp.foldl3, ← writeBytes_wf, ← wf_filter, wf_nil, ← State.modSpr_kp, ← sendMsg_kp, ← signalToken_kp]

theorem fireSigs_kp (s : State) (c : Nat) (d : Desc) (status : Nat)
    (h0 : Kp kb s) : Kp kb (fireSigs s c d status) := by
  unfold fireSigs; grind (splits := 14) (gen := 60) (ematch := 60) [Option.map_eq_some_iff, Option.bind_eq_some_iff, ← Kp.upd2, ← OKp.next, ← MKp.some, ← Kp.getD, ← Kp.foldl, ← Kp.foldl1, ← Kp.foldl2, ← Kp.foldl3, ← writeBytes_wf, ← wf_filter, wf_nil, ← fireSig_kp]

theorem writeRecord_kp (s : State) (c : Nat) (i : Iss) (status : Nat) (fl : Flags) (word : Nat) (wait : Nat) (run : Nat) (irq : Bool)
    (h0 : Kp kb s) : Kp kb (writeRecord s c i status fl word wait run irq) := by
  unfold writeRecord; grind (splits := 14) (gen := 60) (ematch := 60) [Option.map_eq_some_iff, Option.bind_eq_some_iff, ← Kp.upd2, ← OKp.next, ← MKp.some, ← Kp.getD, ← Kp.foldl, ← Kp.foldl1, ← Kp.foldl2, ← Kp.foldl3, ← writeBytes_wf, ← wf_filter, wf_nil, ← State.bump_kp, ← State.setReg_kp, ← raise_kp, ← tunWrite_kp]

theorem strobeSeq_kp (s : State) (c : Nat) (seq : Nat)
    (h0 : Kp kb s) : Kp kb (strobeSeq s c seq) := by
  unfold strobeSeq; grind (splits := 14) (gen := 60) (ematch := 60) [Option.map_eq_some_iff, Option.bind_eq_some_iff, ← Kp.upd2, ← OKp.next, ← MKp.some, ← Kp.getD, ← Kp.foldl, ← Kp.foldl1, ← Kp.foldl2, ← Kp.foldl3, ← writeBytes_wf, ← wf_filter, wf_nil, ← strobe_kp]

theorem fetchOne_kp (s : State) (c : Nat) (slot : Nat)
    (h0 : Kp kb s) : Kp kb (fetchOne s c slot).2 := by
  unfold fetchOne; grind (splits := 14) (gen := 60) (ematch := 60) [Option.map_eq_some_iff, Option.bind_eq_some_iff, ← Kp.upd2, ← OKp.next, ← MKp.some, ← Kp.getD, ← Kp.foldl, ← Kp.foldl1, ← Kp.foldl2, ← Kp.foldl3, ← writeBytes_wf, ← wf_filter, wf_nil, ← State.injFails_kp, ← readSlot_kp]

theorem fetchGroup_kp (s : State) (c : Nat) (z0 : Nat) (z1 : Nat)
    (h0 : Kp kb s) : Kp kb (fetchGroup s c z0 z1) := by
  fun_induction fetchGroup s c z0 z1 <;> grind (splits := 14) (gen := 60) (ematch := 60) [Option.map_eq_some_iff, Option.bind_eq_some_iff, ← Kp.upd2, ← OKp.next, ← MKp.some, ← Kp.getD, ← Kp.foldl, ← Kp.foldl1, ← Kp.foldl2, ← Kp.foldl3, ← writeBytes_wf, ← wf_filter, wf_nil, ← State.modSpr_kp, ← fetchOne_kp]

theorem stamp_kp (s : State) (c : Nat) (d : Desc)
    (h0 : Kp kb s) : Kp kb (stamp s c d).2 := by
  unfold stamp; grind (splits := 14) (gen := 60) (ematch := 60) [Option.map_eq_some_iff, Option.bind_eq_some_iff, ← Kp.upd2, ← OKp.next, ← MKp.some, ← Kp.getD, ← Kp.foldl, ← Kp.foldl1, ← Kp.foldl2, ← Kp.foldl3, ← writeBytes_wf, ← wf_filter, wf_nil, ← State.setReg_kp]

theorem descCrc_kp (s : State) (c : Nat) (d : Desc)
    (h0 : Kp kb s) : Kp kb (descCrc s c d) := by
  unfold descCrc; grind (splits := 14) (gen := 60) (ematch := 60) [Option.map_eq_some_iff, Option.bind_eq_some_iff, ← Kp.upd2, ← OKp.next, ← MKp.some, ← Kp.getD, ← Kp.foldl, ← Kp.foldl1, ← Kp.foldl2, ← Kp.foldl3, ← writeBytes_wf, ← wf_filter, wf_nil, ← State.modSpr_kp, ← haltStream_kp, ← raiseFor_kp, ← stamp_kp, ← writeRecord_kp]

theorem execDescFetch_kp (c : Core) (s : State)
    (h0 : Kp kb s) : OKp kb (execDescFetch c s) := by
  unfold execDescFetch; grind (splits := 14) (gen := 60) (ematch := 60) [Option.map_eq_some_iff, Option.bind_eq_some_iff, ← Kp.upd2, ← OKp.next, ← MKp.some, ← Kp.getD, ← Kp.foldl, ← Kp.foldl1, ← Kp.foldl2, ← Kp.foldl3, ← writeBytes_wf, ← wf_filter, wf_nil, ← descCrc_kp, ← fetchGroup_kp]

theorem modEng_kp (s : State) (c : Nat) (q : EngQ) (f : EngSt → EngSt)
    (h0 : Kp kb s) : Kp kb (modEng s c q f) := by
  unfold modEng; grind (splits := 14) (gen := 60) (ematch := 60) [Option.map_eq_some_iff, Option.bind_eq_some_iff, ← Kp.upd2, ← OKp.next, ← MKp.some, ← Kp.getD, ← Kp.foldl, ← Kp.foldl1, ← Kp.foldl2, ← Kp.foldl3, ← writeBytes_wf, ← wf_filter, wf_nil, ← State.modSpr_kp]

theorem countIssue_kp (s : State) (c : Nat)
    (h0 : Kp kb s) : Kp kb (countIssue s c) := by
  unfold countIssue; grind (splits := 14) (gen := 60) (ematch := 60) [Option.map_eq_some_iff, Option.bind_eq_some_iff, ← Kp.upd2, ← OKp.next, ← MKp.some, ← Kp.getD, ← Kp.foldl, ← Kp.foldl1, ← Kp.foldl2, ← Kp.foldl3, ← writeBytes_wf, ← wf_filter, wf_nil, ← State.modSpr_kp, ← State.wrapAdd_kp]

theorem reject_kp (s : State) (c : Nat) (i : Iss) (status : Nat)
    (h0 : Kp kb s) : Kp kb (reject s c i status) := by
  unfold reject; grind (splits := 14) (gen := 60) (ematch := 60) [Option.map_eq_some_iff, Option.bind_eq_some_iff, ← Kp.upd2, ← OKp.next, ← MKp.some, ← Kp.getD, ← Kp.foldl, ← Kp.foldl1, ← Kp.foldl2, ← Kp.foldl3, ← writeBytes_wf, ← wf_filter, wf_nil, ← State.bump_kp, ← State.modSpr_kp, ← raiseFor_kp, ← writeRecord_kp]

theorem issueHead_kp (s : State) (c : Nat) (e : WinEnt)
    (h0 : Kp kb s) : Kp kb (issueHead s c e) := by
  unfold issueHead; grind (splits := 14) (gen := 60) (ematch := 60) [Option.map_eq_some_iff, Option.bind_eq_some_iff, ← Kp.upd2, ← OKp.next, ← MKp.some, ← Kp.getD, ← Kp.foldl, ← Kp.foldl1, ← Kp.foldl2, ← Kp.foldl3, ← writeBytes_wf, ← wf_filter, wf_nil, ← State.bump_kp, ← State.modSpr_kp, ← State.setFld_kp, ← State.upTo_kp, ← advance_kp, ← countIssue_kp, ← modEng_kp, ← notePairing_kp, ← reject_kp, ← stamp_kp]

theorem curDone_kp (s : State) (c : Nat) (n : Nat)
    (h0 : Kp kb s) : Kp kb (curDone s c n) := by
  unfold curDone; grind (splits := 14) (gen := 60) (ematch := 60) [Option.map_eq_some_iff, Option.bind_eq_some_iff, ← Kp.upd2, ← OKp.next, ← MKp.some, ← Kp.getD, ← Kp.foldl, ← Kp.foldl1, ← Kp.foldl2, ← Kp.foldl3, ← writeBytes_wf, ← wf_filter, wf_nil, ← State.modSpr_kp, ← State.setFld_kp, ← advance_kp]

theorem passCur_kp (s : State) (c : Nat) (i : Iss) (status : Nat)
    (h0 : Kp kb s) : Kp kb (passCur s c i status) := by
  unfold passCur; grind (splits := 14) (gen := 60) (ematch := 60) [Option.map_eq_some_iff, Option.bind_eq_some_iff, ← Kp.upd2, ← OKp.next, ← MKp.some, ← Kp.getD, ← Kp.foldl, ← Kp.foldl1, ← Kp.foldl2, ← Kp.foldl3, ← writeBytes_wf, ← wf_filter, wf_nil, ← State.modSpr_kp, ← consume_kp, ← curDone_kp, ← fireSigs_kp, ← strobeSeq_kp, ← writeRecord_kp]

theorem execDescIssue_kp (c : Core) (s : State)
    (h0 : Kp kb s) : OKp kb (execDescIssue c s) := by
  unfold execDescIssue; grind (splits := 14) (gen := 60) (ematch := 60) [Option.map_eq_some_iff, Option.bind_eq_some_iff, ← Kp.upd2, ← OKp.next, ← MKp.some, ← Kp.getD, ← Kp.foldl, ← Kp.foldl1, ← Kp.foldl2, ← Kp.foldl3, ← writeBytes_wf, ← wf_filter, wf_nil, ← State.setFld_kp, ← descCrc_kp, ← issueHead_kp, ← passCur_kp, waitsFrom_kp]

theorem sprueReady_kp (s : State) (c : Nat) (op : Nat)
    (h0 : Kp kb s) : ∀ xr0 xr1, (sprueReady s c op) = some (xr0, xr1) → Kp kb xr1 := by
  intros; rename_i hx; unfold sprueReady at hx; grind (splits := 14) (gen := 60) (ematch := 60) [Option.map_eq_some_iff, Option.bind_eq_some_iff, ← Kp.upd2, ← OKp.next, ← MKp.some, ← Kp.getD, ← Kp.foldl, ← Kp.foldl1, ← Kp.foldl2, ← Kp.foldl3, ← writeBytes_wf, ← wf_filter, wf_nil, waitsFrom_kp]

theorem sprueEnd_kp (s : State) (c : Nat) (i : Iss) (status : Nat) (t : Nat) (n : Nat)
    (h0 : Kp kb s) : Kp kb (sprueEnd s c i status t n) := by
  unfold sprueEnd; grind (splits := 14) (gen := 60) (ematch := 60) [Option.map_eq_some_iff, Option.bind_eq_some_iff, ← Kp.upd2, ← OKp.next, ← MKp.some, ← Kp.getD, ← Kp.foldl, ← Kp.foldl1, ← Kp.foldl2, ← Kp.foldl3, ← writeBytes_wf, ← wf_filter, wf_nil, ← State.modSpr_kp, ← State.wrapAdd_kp, ← curDone_kp, ← fireSigs_kp, ← strobeSeq_kp, ← writeRecord_kp]

theorem runSprue_kp (c : Nat) (op : Nat) (s : State) (f : Iss → State → State × Nat × Nat × Nat)
    (h0 : Kp kb s) (h1 : ∀ y0 y1, Kp kb y1 → Kp kb (f y0 y1).1) : OKp kb (runSprue c op s f) := by
  unfold runSprue; split
  · exact .next h0
  · rename_i i t e; dsimp only
    exact .next (sprueEnd_kp _ _ _ _ _ _ (h1 _ _ (consume_kp _ _ _ (State.modSpr_kp _ _ _ (sprueReady_kp _ _ _ h0 _ _ e)))))

theorem execNop_kp (c : Core) (s : State)
    (h0 : Kp kb s) : OKp kb (execNop c s) := by
  unfold execNop; grind (splits := 14) (gen := 60) (ematch := 60) [Option.map_eq_some_iff, Option.bind_eq_some_iff, ← Kp.upd2, ← OKp.next, ← MKp.some, ← Kp.getD, ← Kp.foldl, ← Kp.foldl1, ← Kp.foldl2, ← Kp.foldl3, ← writeBytes_wf, ← wf_filter, wf_nil, ← runSprue_kp]

theorem enterLoop_kp (s : State) (c : Nat) (count : Nat) (len : Nat)
    (h0 : Kp kb s) : Kp kb (enterLoop s c count len) := by
  unfold enterLoop; grind (splits := 14) (gen := 60) (ematch := 60) [Option.map_eq_some_iff, Option.bind_eq_some_iff, ← Kp.upd2, ← OKp.next, ← MKp.some, ← Kp.getD, ← Kp.foldl, ← Kp.foldl1, ← Kp.foldl2, ← Kp.foldl3, ← writeBytes_wf, ← wf_filter, wf_nil, ← State.modSpr_kp]

theorem execPset_kp (c : Core) (s : State)
    (h0 : Kp kb s) : OKp kb (execPset c s) := by
  unfold execPset; grind (splits := 14) (gen := 60) (ematch := 60) [Option.map_eq_some_iff, Option.bind_eq_some_iff, ← Kp.upd2, ← OKp.next, ← MKp.some, ← Kp.getD, ← Kp.foldl, ← Kp.foldl1, ← Kp.foldl2, ← Kp.foldl3, ← writeBytes_wf, ← wf_filter, wf_nil, ← State.setReg_kp, ← runSprue_kp]

theorem execSeed_kp (c : Core) (s : State)
    (h0 : Kp kb s) : OKp kb (execSeed c s) := by
  unfold execSeed; grind (splits := 14) (gen := 60) (ematch := 60) [Option.map_eq_some_iff, Option.bind_eq_some_iff, ← Kp.upd2, ← OKp.next, ← MKp.some, ← Kp.getD, ← Kp.foldl, ← Kp.foldl1, ← Kp.foldl2, ← Kp.foldl3, ← writeBytes_wf, ← wf_filter, wf_nil, ← State.setReg_kp, ← runSprue_kp]

theorem execTokset_kp (c : Core) (s : State)
    (h0 : Kp kb s) : OKp kb (execTokset c s) := by
  unfold execTokset; grind (splits := 14) (gen := 60) (ematch := 60) [Option.map_eq_some_iff, Option.bind_eq_some_iff, ← Kp.upd2, ← OKp.next, ← MKp.some, ← Kp.getD, ← Kp.foldl, ← Kp.foldl1, ← Kp.foldl2, ← Kp.foldl3, ← writeBytes_wf, ← wf_filter, wf_nil, ← runSprue_kp, ← setToken_kp]

theorem setPatMap_kp (s : State) (c : Nat) (id : Nat) (b : Nat)
    (h0 : Kp kb s) : Kp kb (setPatMap s c id b) := by
  unfold setPatMap; grind (splits := 14) (gen := 60) (ematch := 60) [Option.map_eq_some_iff, Option.bind_eq_some_iff, ← Kp.upd2, ← OKp.next, ← MKp.some, ← Kp.getD, ← Kp.foldl, ← Kp.foldl1, ← Kp.foldl2, ← Kp.foldl3, ← writeBytes_wf, ← wf_filter, wf_nil, ← State.setReg_kp]

theorem setPatSlot_kp (s : State) (c : Nat) (slot : Nat) (v : Nat)
    (h0 : Kp kb s) : Kp kb (setPatSlot s c slot v) := by
  unfold setPatSlot; grind (splits := 14) (gen := 60) (ematch := 60) [Option.map_eq_some_iff, Option.bind_eq_some_iff, ← Kp.upd2, ← OKp.next, ← MKp.some, ← Kp.getD, ← Kp.foldl, ← Kp.foldl1, ← Kp.foldl2, ← Kp.foldl3, ← writeBytes_wf, ← wf_filter, wf_nil, ← State.setReg_kp]

theorem patUnmap_kp (s : State) (c : Nat) (id : Nat)
    (h0 : Kp kb s) : Kp kb (patUnmap s c id) := by
  unfold patUnmap; grind (splits := 14) (gen := 60) (ematch := 60) [Option.map_eq_some_iff, Option.bind_eq_some_iff, ← Kp.upd2, ← OKp.next, ← MKp.some, ← Kp.getD, ← Kp.foldl, ← Kp.foldl1, ← Kp.foldl2, ← Kp.foldl3, ← writeBytes_wf, ← wf_filter, wf_nil, ← setPatMap_kp, ← setPatSlot_kp]

theorem patStore_kp (s : State) (c : Nat) (id : Nat) (slot : Nat) (b : List Byte)
    (h0 : Kp kb s) : Kp kb (patStore s c id slot b) := by
  unfold patStore; grind (splits := 14) (gen := 60) (ematch := 60) [Option.map_eq_some_iff, Option.bind_eq_some_iff, ← Kp.upd2, ← OKp.next, ← MKp.some, ← Kp.getD, ← Kp.foldl, ← Kp.foldl1, ← Kp.foldl2, ← Kp.foldl3, ← writeBytes_wf, ← wf_filter, wf_nil, ← State.modSpr_kp, ← patUnmap_kp, ← setPatMap_kp, ← setPatSlot_kp]

theorem execPatfree_kp (c : Core) (s : State)
    (h0 : Kp kb s) : OKp kb (execPatfree c s) := by
  unfold execPatfree; grind (splits := 14) (gen := 60) (ematch := 60) [Option.map_eq_some_iff, Option.bind_eq_some_iff, ← Kp.upd2, ← OKp.next, ← MKp.some, ← Kp.getD, ← Kp.foldl, ← Kp.foldl1, ← Kp.foldl2, ← Kp.foldl3, ← writeBytes_wf, ← wf_filter, wf_nil, ← patUnmap_kp, ← runSprue_kp, sprueReady_kp]

theorem execStop_kp (c : Core) (s : State)
    (h0 : Kp kb s) : OKp kb (execStop c s) := by
  unfold execStop; grind (splits := 14) (gen := 60) (ematch := 60) [Option.map_eq_some_iff, Option.bind_eq_some_iff, ← Kp.upd2, ← OKp.next, ← MKp.some, ← Kp.getD, ← Kp.foldl, ← Kp.foldl1, ← Kp.foldl2, ← Kp.foldl3, ← writeBytes_wf, ← wf_filter, wf_nil, ← State.setFld_kp, ← raise_kp, ← runSprue_kp]

theorem applyRingTail_kp (s : State) (c : Nat) (v : Nat)
    (h0 : Kp kb s) : Kp kb (applyRingTail s c v) := by
  unfold applyRingTail; grind (splits := 14) (gen := 60) (ematch := 60) [Option.map_eq_some_iff, Option.bind_eq_some_iff, ← Kp.upd2, ← OKp.next, ← MKp.some, ← Kp.getD, ← Kp.foldl, ← Kp.foldl1, ← Kp.foldl2, ← Kp.foldl3, ← writeBytes_wf, ← wf_filter, wf_nil, ← State.modSpr_kp, ← State.setReg_kp]

theorem applySignal_kp (s : State) (c : Nat) (id : Nat) (t : Nat)
    (h0 : Kp kb s) : Kp kb (applySignal s c id t) := by
  unfold applySignal; grind (splits := 14) (gen := 60) (ematch := 60) [Option.map_eq_some_iff, Option.bind_eq_some_iff, ← Kp.upd2, ← OKp.next, ← MKp.some, ← Kp.getD, ← Kp.foldl, ← Kp.foldl1, ← Kp.foldl2, ← Kp.foldl3, ← writeBytes_wf, ← wf_filter, wf_nil, ← State.bump_kp, ← signalToken_kp]

theorem outside_kp (s : State) (e : ExtEvt) (now : State → State)
    (h0 : Kp kb s) (h1 : ∀ y0, Kp kb y0 → Kp kb (now y0)) : Kp kb (outside s e now) := by
  unfold outside; grind (splits := 14) (gen := 60) (ematch := 60) [Option.map_eq_some_iff, Option.bind_eq_some_iff, ← Kp.upd2, ← OKp.next, ← MKp.some, ← Kp.getD, ← Kp.foldl, ← Kp.foldl1, ← Kp.foldl2, ← Kp.foldl3, ← writeBytes_wf, ← wf_filter, wf_nil]

theorem execRingTailWrite_kp (c : Core) (v : BitVec 16) (s : State)
    (h0 : Kp kb s) : OKp kb (execRingTailWrite c v s) := by
  unfold execRingTailWrite; grind (splits := 14) (gen := 60) (ematch := 60) [Option.map_eq_some_iff, Option.bind_eq_some_iff, ← Kp.upd2, ← OKp.next, ← MKp.some, ← Kp.getD, ← Kp.foldl, ← Kp.foldl1, ← Kp.foldl2, ← Kp.foldl3, ← writeBytes_wf, ← wf_filter, wf_nil, ← applyRingTail_kp, ← outside_kp]

theorem execTokSignal_kp (c : Core) (t : BitVec 12) (s : State)
    (h0 : Kp kb s) : OKp kb (execTokSignal c t s) := by
  unfold execTokSignal; grind (splits := 14) (gen := 60) (ematch := 60) [Option.map_eq_some_iff, Option.bind_eq_some_iff, ← Kp.upd2, ← OKp.next, ← MKp.some, ← Kp.getD, ← Kp.foldl, ← Kp.foldl1, ← Kp.foldl2, ← Kp.foldl3, ← writeBytes_wf, ← wf_filter, wf_nil, ← applySignal_kp, ← outside_kp]

theorem execTokData_kp (c : Core) (v : BitVec 16) (s : State)
    (h0 : Kp kb s) : OKp kb (execTokData c v s) := by
  unfold execTokData; grind (splits := 14) (gen := 60) (ematch := 60) [Option.map_eq_some_iff, Option.bind_eq_some_iff, ← Kp.upd2, ← OKp.next, ← MKp.some, ← Kp.getD, ← Kp.foldl, ← Kp.foldl1, ← Kp.foldl2, ← Kp.foldl3, ← writeBytes_wf, ← wf_filter, wf_nil, ← outside_kp, ← setToken_kp]

theorem execPredWrite_kp (c : Core) (v : BitVec 64) (s : State)
    (h0 : Kp kb s) : OKp kb (execPredWrite c v s) := by
  unfold execPredWrite; grind (splits := 14) (gen := 60) (ematch := 60) [Option.map_eq_some_iff, Option.bind_eq_some_iff, ← Kp.upd2, ← OKp.next, ← MKp.some, ← Kp.getD, ← Kp.foldl, ← Kp.foldl1, ← Kp.foldl2, ← Kp.foldl3, ← writeBytes_wf, ← wf_filter, wf_nil, ← State.setReg_kp, ← outside_kp]

theorem execTokenSignalDeliver_kp (c : Core) (s : State)
    (h0 : Kp kb s) : OKp kb (execTokenSignalDeliver c s) := by
  unfold execTokenSignalDeliver; grind (splits := 14) (gen := 60) (ematch := 60) [Option.map_eq_some_iff, Option.bind_eq_some_iff, ← Kp.upd2, ← OKp.next, ← MKp.some, ← Kp.getD, ← Kp.foldl, ← Kp.foldl1, ← Kp.foldl2, ← Kp.foldl3, ← writeBytes_wf, ← wf_filter, wf_nil, ← State.modSpr_kp, ← State.upTo_kp, ← signalToken_kp]

theorem complete_kp (s : State) (c : Nat) (f : Fin')
    (h0 : Kp kb s) : Kp kb (complete s c f) := by
  unfold complete; grind (splits := 14) (gen := 60) (ematch := 60) [Option.map_eq_some_iff, Option.bind_eq_some_iff, ← Kp.upd2, ← OKp.next, ← MKp.some, ← Kp.getD, ← Kp.foldl, ← Kp.foldl1, ← Kp.foldl2, ← Kp.foldl3, ← writeBytes_wf, ← wf_filter, wf_nil, ← State.modSpr_kp, ← State.upTo_kp, ← fireSigs_kp, ← strobeSeq_kp, ← writeRecord_kp]

theorem execDescComplete_kp (c : Core) (q : EngQ) (s : State)
    (h0 : Kp kb s) : OKp kb (execDescComplete c q s) := by
  unfold execDescComplete; grind (splits := 14) (gen := 60) (ematch := 60) [Option.map_eq_some_iff, Option.bind_eq_some_iff, ← Kp.upd2, ← OKp.next, ← MKp.some, ← Kp.getD, ← Kp.foldl, ← Kp.foldl1, ← Kp.foldl2, ← Kp.foldl3, ← writeBytes_wf, ← wf_filter, wf_nil, ← complete_kp, ← modEng_kp]

theorem finishDesc_kp (s : State) (c : Nat) (q : EngQ) (i : Iss) (status : Nat) (fl : Flags) (word : Nat) (t : Nat)
    (h0 : Kp kb s) : Kp kb (finishDesc s c q i status fl word t) := by
  unfold finishDesc; grind (splits := 14) (gen := 60) (ematch := 60) [Option.map_eq_some_iff, Option.bind_eq_some_iff, ← Kp.upd2, ← OKp.next, ← MKp.some, ← Kp.getD, ← Kp.foldl, ← Kp.foldl1, ← Kp.foldl2, ← Kp.foldl3, ← writeBytes_wf, ← wf_filter, wf_nil, ← modEng_kp]

theorem touchFin_kp (s : State) (c : Nat) (seq : Nat) (t : Nat)
    (h0 : Kp kb s) : Kp kb (touchFin s c seq t) := by
  unfold touchFin; grind (splits := 14) (gen := 60) (ematch := 60) [Option.map_eq_some_iff, Option.bind_eq_some_iff, ← Kp.upd2, ← OKp.next, ← MKp.some, ← Kp.getD, ← Kp.foldl, ← Kp.foldl1, ← Kp.foldl2, ← Kp.foldl3, ← writeBytes_wf, ← wf_filter, wf_nil, ← State.modSpr_kp]

theorem failFin_kp (s : State) (c : Nat) (seq : Nat) (status : Nat)
    (h0 : Kp kb s) : Kp kb (failFin s c seq status) := by
  unfold failFin; grind (splits := 14) (gen := 60) (ematch := 60) [Option.map_eq_some_iff, Option.bind_eq_some_iff, ← Kp.upd2, ← OKp.next, ← MKp.some, ← Kp.getD, ← Kp.foldl, ← Kp.foldl1, ← Kp.foldl2, ← Kp.foldl3, ← writeBytes_wf, ← wf_filter, wf_nil, ← State.modSpr_kp]

theorem askStart_kp (s : State) (c : Nat)
    (h0 : Kp kb s) : Kp kb (askStart s c) := by
  unfold askStart; grind (splits := 14) (gen := 60) (ematch := 60) [Option.map_eq_some_iff, Option.bind_eq_some_iff, ← Kp.upd2, ← OKp.next, ← MKp.some, ← Kp.getD, ← Kp.foldl, ← Kp.foldl1, ← Kp.foldl2, ← Kp.foldl3, ← writeBytes_wf, ← wf_filter, wf_nil]

theorem execSprCtrlRun_kp (c : Core) (v : Bool) (s : State)
    (h0 : Kp kb s) : OKp kb (execSprCtrlRun c v s) := by
  unfold execSprCtrlRun; grind (splits := 14) (gen := 60) (ematch := 60) [Option.map_eq_some_iff, Option.bind_eq_some_iff, ← Kp.upd2, ← OKp.next, ← MKp.some, ← Kp.getD, ← Kp.foldl, ← Kp.foldl1, ← Kp.foldl2, ← Kp.foldl3, ← writeBytes_wf, ← wf_filter, wf_nil, ← State.modSpr_kp, ← State.setFld_kp, ← State.setReg_kp, ← askStart_kp, ← unissue_kp]

theorem execSprCtrlResume_kp (c : Core) (mode : Bool) (s : State)
    (h0 : Kp kb s) : OKp kb (execSprCtrlResume c mode s) := by
  unfold execSprCtrlResume; grind (splits := 14) (gen := 60) (ematch := 60) [Option.map_eq_some_iff, Option.bind_eq_some_iff, ← Kp.upd2, ← OKp.next, ← MKp.some, ← Kp.getD, ← Kp.foldl, ← Kp.foldl1, ← Kp.foldl2, ← Kp.foldl3, ← writeBytes_wf, ← wf_filter, wf_nil, ← State.modSpr_kp, ← State.setFld_kp, ← askStart_kp]

/-! ## Machine/PatRun.lean -/

theorem PRun.fail_kp (p : PRun) (st : Nat)
    (h0 : Kp kb p.s) : Kp kb (PRun.fail p st).s := by
  unfold PRun.fail; grind (splits := 14) (gen := 60) (ematch := 60) [Option.map_eq_some_iff, Option.bind_eq_some_iff, ← Kp.upd2, ← OKp.next, ← MKp.some, ← Kp.getD, ← Kp.foldl, ← Kp.foldl1, ← Kp.foldl2, ← Kp.foldl3, ← writeBytes_wf, ← wf_filter, wf_nil]

theorem wordCks_kp (c : Nat) (d : Desc) (loc : Nat → Bool) (w : CWord) (f : CWord → PRun → PRun) (z0 : Nat) (z1 : PRun)
    (h0 : ∀ y0 y1, Kp kb y1.s → Kp kb (f y0 y1).s) (h1 : Kp kb z1.s) : Kp kb (wordCks c d loc w f z0 z1).s := by
  fun_induction wordCks c d loc w f z0 z1 <;> grind (splits := 14) (gen := 60) (ematch := 60) [Option.map_eq_some_iff, Option.bind_eq_some_iff, ← Kp.upd2, ← OKp.next, ← MKp.some, ← Kp.getD, ← Kp.foldl, ← Kp.foldl1, ← Kp.foldl2, ← Kp.foldl3, ← writeBytes_wf, ← wf_filter, wf_nil]

theorem patLoop_kp (c : Nat) (i : Iss) (loc : Nat → Bool) (f : CWord → PRun → PRun) (z0 : Nat) (z1 : PRun)
    (h0 : ∀ y0 y1, Kp kb y1.s → Kp kb (f y0 y1).s) (h1 : Kp kb z1.s) : ∀ xr, (patLoop c i loc f z0 z1) = some xr → Kp kb xr.s := by
  induction z0 generalizing z1 with
  | zero => intro xr hx; simp [patLoop] at hx
  | succ n ih =>
    intro xr hx
    unfold patLoop at hx
    split at hx
    · cases hx; exact State.disarm_kp _ _ _ h1
    · extract_lets w p at hx
      have k : Kp kb p.s := wordCks_kp _ _ _ _ _ _ _ h0 h1
      clear_value p
      split at hx
      · cases hx; exact k
      · split at hx
        · exact ih _ (by exact k) _ hx
        · exact ih _ (by exact k) _ hx
        · exact ih _ (by exact k) _ hx
        · cases hx; exact k

theorem runPattern_kp (s : State) (c : Nat) (i : Iss) (loc : Nat → Bool) (f : CWord → PRun → PRun)
    (h0 : Kp kb s) (h1 : ∀ y0 y1, Kp kb y1.s → Kp kb (f y0 y1).s) : ∀ xr, (runPattern s c i loc f) = some xr → Kp kb xr.s := by
  exact patLoop_kp _ _ _ _ _ _ h1 h0

theorem patEnd_kp (s : State) (c : Nat) (i : Iss) (p : PRun)
    (h0 : Kp kb s) (h1 : Kp kb p.s) : Kp kb (patEnd s c i p) := by
  unfold patEnd; grind (splits := 14) (gen := 60) (ematch := 60) [Option.map_eq_some_iff, Option.bind_eq_some_iff, ← Kp.upd2, ← OKp.next, ← MKp.some, ← Kp.getD, ← Kp.foldl, ← Kp.foldl1, ← Kp.foldl2, ← Kp.foldl3, ← writeBytes_wf, ← wf_filter, wf_nil, ← patUnmap_kp, ← raiseFor_kp]

theorem feedCk_kp (w : CWord) (p : PRun)
    (h0 : Kp kb p.s) : Kp kb (feedCk w p).s := by
  unfold feedCk; grind (splits := 14) (gen := 60) (ematch := 60) [Option.map_eq_some_iff, Option.bind_eq_some_iff, ← Kp.upd2, ← OKp.next, ← MKp.some, ← Kp.getD, ← Kp.foldl, ← Kp.foldl1, ← Kp.foldl2, ← Kp.foldl3, ← writeBytes_wf, ← wf_filter, wf_nil]

/-! ## Machine/Cache.lean -/

theorem allocEntry_kp (s : State) (x : Nat) (type : Nat) (dev : Nat) (src : Nat) (pf : Bool)
    (h0 : Kp kb s) : ∀ xr0 xr1, (allocEntry s x type dev src pf) = some (xr0, xr1) → Kp kb xr1 := by
  intros; rename_i hx; unfold allocEntry at hx; grind (splits := 14) (gen := 60) (ematch := 60) [Option.map_eq_some_iff, Option.bind_eq_some_iff, ← Kp.upd2, ← OKp.next, ← MKp.some, ← Kp.getD, ← Kp.foldl, ← Kp.foldl1, ← Kp.foldl2, ← Kp.foldl3, ← writeBytes_wf, ← wf_filter, wf_nil, ← evictCount_kp, ← setCache_kp, ← stamp_kp]

theorem fillEntry_kp (s : State) (t : Nat) (pl : List Byte) (sd : List Byte)
    (h0 : Kp kb s) : Kp kb (fillEntry s t pl sd) := by
  unfold fillEntry; grind (splits := 14) (gen := 60) (ematch := 60) [Option.map_eq_some_iff, Option.bind_eq_some_iff, ← Kp.upd2, ← OKp.next, ← MKp.some, ← Kp.getD, ← Kp.foldl, ← Kp.foldl1, ← Kp.foldl2, ← Kp.foldl3, ← writeBytes_wf, ← wf_filter, wf_nil, ← setCache_kp, ← writeTile_kp]

theorem cacheHit_kp (s : State) (c : Nat) (e : CacheEnt)
    (h0 : Kp kb s) : Kp kb (cacheHit s c e) := by
  unfold cacheHit; grind (splits := 14) (gen := 60) (ematch := 60) [Option.map_eq_some_iff, Option.bind_eq_some_iff, ← Kp.upd2, ← OKp.next, ← MKp.some, ← Kp.getD, ← Kp.foldl, ← Kp.foldl1, ← Kp.foldl2, ← Kp.foldl3, ← writeBytes_wf, ← wf_filter, wf_nil, ← State.bump_kp, ← setCache_kp]

theorem stageTileFor_kp (s : State) (owner : Nat) (t : Nat) (pl : List Byte) (sd : List Byte)
    (h0 : Kp kb s) : Kp kb (stageTileFor s owner t pl sd) := by
  unfold stageTileFor; grind (splits := 14) (gen := 60) (ematch := 60) [Option.map_eq_some_iff, Option.bind_eq_some_iff, ← Kp.upd2, ← OKp.next, ← MKp.some, ← Kp.getD, ← Kp.foldl, ← Kp.foldl1, ← Kp.foldl2, ← Kp.foldl3, ← writeBytes_wf, ← wf_filter, wf_nil, ← writeTile_kp]

theorem unstageTile_kp (s : State) (t : Nat)
    (h0 : Kp kb s) : Kp kb (unstageTile s t) := by
  unfold unstageTile; grind (splits := 14) (gen := 60) (ematch := 60) [Option.map_eq_some_iff, Option.bind_eq_some_iff, ← Kp.upd2, ← OKp.next, ← MKp.some, ← Kp.getD, ← Kp.foldl, ← Kp.foldl1, ← Kp.foldl2, ← Kp.foldl3, ← writeBytes_wf, ← wf_filter, wf_nil]

theorem unstage_kp (s : State) (owner : Nat)
    (h0 : Kp kb s) : Kp kb (unstage s owner) := by
  unfold unstage; grind (splits := 14) (gen := 60) (ematch := 60) [Option.map_eq_some_iff, Option.bind_eq_some_iff, ← Kp.upd2, ← OKp.next, ← MKp.some, ← Kp.getD, ← Kp.foldl, ← Kp.foldl1, ← Kp.foldl2, ← Kp.foldl3, ← writeBytes_wf, ← wf_filter, wf_nil]

/-! ## Machine/Access.lean -/

theorem takeUse_kp (s : State) (res : Nat) (t : Nat) (n : Nat)
    (h0 : Kp kb s) : Kp kb (takeUse s res t n) := by
  unfold takeUse; grind (splits := 14) (gen := 60) (ematch := 60) [Option.map_eq_some_iff, Option.bind_eq_some_iff, ← Kp.upd2, ← OKp.next, ← MKp.some, ← Kp.getD, ← Kp.foldl, ← Kp.foldl1, ← Kp.foldl2, ← Kp.foldl3, ← writeBytes_wf, ← wf_filter, wf_nil]

theorem pruneUse_kp (s : State)
    (h0 : Kp kb s) : Kp kb (pruneUse s) := by
  unfold pruneUse; grind (splits := 14) (gen := 60) (ematch := 60) [Option.map_eq_some_iff, Option.bind_eq_some_iff, ← Kp.upd2, ← OKp.next, ← MKp.some, ← Kp.getD, ← Kp.foldl, ← Kp.foldl1, ← Kp.foldl2, ← Kp.foldl3, ← writeBytes_wf, ← wf_filter, wf_nil]

theorem admitLines_kp (o : Nat) (dir : Nat) (z0 : Nat) (z1 : Nat) (z2 : Nat) (z3 : State)
    (h0 : Kp kb z3) : Kp kb (admitLines o dir z0 z1 z2 z3).2 := by
  fun_induction admitLines o dir z0 z1 z2 z3 <;> grind (splits := 14) (gen := 60) (ematch := 60) [Option.map_eq_some_iff, Option.bind_eq_some_iff, ← Kp.upd2, ← OKp.next, ← MKp.some, ← Kp.getD, ← Kp.foldl, ← Kp.foldl1, ← Kp.foldl2, ← Kp.foldl3, ← writeBytes_wf, ← wf_filter, wf_nil, ← takeUse_kp]

theorem bridgeAdmit_kp (s : State) (o : Nat) (dir : Nat) (t : Nat) (n : Nat)
    (h0 : Kp kb s) : Kp kb (bridgeAdmit s o dir t n).2 := by
  unfold bridgeAdmit; grind (splits := 14) (gen := 60) (ematch := 60) [Option.map_eq_some_iff, Option.bind_eq_some_iff, ← Kp.upd2, ← OKp.next, ← MKp.some, ← Kp.getD, ← Kp.foldl, ← Kp.foldl1, ← Kp.foldl2, ← Kp.foldl3, ← writeBytes_wf, ← wf_filter, wf_nil, ← admitLines_kp]

theorem crossIn_kp (s : State) (c : Nat) (far : Bool) (first : Nat) (last : Nat) (n : Nat)
    (h0 : Kp kb s) : Kp kb (crossIn s c far first last n).2 := by
  unfold crossIn; grind (splits := 14) (gen := 60) (ematch := 60) [Option.map_eq_some_iff, Option.bind_eq_some_iff, ← Kp.upd2, ← OKp.next, ← MKp.some, ← Kp.getD, ← Kp.foldl, ← Kp.foldl1, ← Kp.foldl2, ← Kp.foldl3, ← writeBytes_wf, ← wf_filter, wf_nil, ← bridgeAdmit_kp]

theorem crossOther_kp (s : State) (o : Nat) (a : Nat) (b : Nat) (t : Nat) (n : Nat)
    (h0 : Kp kb s) : Kp kb (crossOther s o a b t n).2 := by
  unfold crossOther; grind (splits := 14) (gen := 60) (ematch := 60) [Option.map_eq_some_iff, Option.bind_eq_some_iff, ← Kp.upd2, ← OKp.next, ← MKp.some, ← Kp.getD, ← Kp.foldl, ← Kp.foldl1, ← Kp.foldl2, ← Kp.foldl3, ← writeBytes_wf, ← wf_filter, wf_nil, ← bridgeAdmit_kp]

theorem bankServe_kp (o : Nat) (d : Nat) (b : Nat) (base : Nat) (z0 : Nat) (z1 : Nat) (z2 : State)
    (h0 : Kp kb z2) : Kp kb (bankServe o d b base z0 z1 z2).2 := by
  fun_induction bankServe o d b base z0 z1 z2 <;> grind (splits := 14) (gen := 60) (ematch := 60) [Option.map_eq_some_iff, Option.bind_eq_some_iff, ← Kp.upd2, ← OKp.next, ← MKp.some, ← Kp.getD, ← Kp.foldl, ← Kp.foldl1, ← Kp.foldl2, ← Kp.foldl3, ← writeBytes_wf, ← wf_filter, wf_nil, ← takeUse_kp]

theorem serveLines_kp (o : Nat) (d : Nat) (base : Nat) (z0 : List (Nat × Nat × Nat)) (z1 : Option Nat) (z2 : Nat) (z3 : State)
    (h0 : Kp kb z3) : Kp kb (serveLines o d base z0 z1 z2 z3).2.2 := by
  fun_induction serveLines o d base z0 z1 z2 z3 <;> grind (splits := 14) (gen := 60) (ematch := 60) [Option.map_eq_some_iff, Option.bind_eq_some_iff, ← Kp.upd2, ← OKp.next, ← MKp.some, ← Kp.getD, ← Kp.foldl, ← Kp.foldl1, ← Kp.foldl2, ← Kp.foldl3, ← writeBytes_wf, ← wf_filter, wf_nil, ← bankServe_kp]

theorem tunServe_kp (s : State) (o : Nat) (a : Nat) (n : Nat) (write : Bool) (tile : Bool) (t : Nat)
    (h0 : Kp kb s) : Kp kb (tunServe s o a n write tile t).2.2 := by
  unfold tunServe; grind (splits := 14) (gen := 60) (ematch := 60) [Option.map_eq_some_iff, Option.bind_eq_some_iff, ← Kp.upd2, ← OKp.next, ← MKp.some, ← Kp.getD, ← Kp.foldl, ← Kp.foldl1, ← Kp.foldl2, ← Kp.foldl3, ← writeBytes_wf, ← wf_filter, wf_nil, ← serveLines_kp]

theorem modRun_kp (s : State) (c : Nat) (f : RunSt → RunSt)
    (h0 : Kp kb s) : Kp kb (modRun s c f) := by
  unfold modRun; grind (splits := 14) (gen := 60) (ematch := 60) [Option.map_eq_some_iff, Option.bind_eq_some_iff, ← Kp.upd2, ← OKp.next, ← MKp.some, ← Kp.getD, ← Kp.foldl, ← Kp.foldl1, ← Kp.foldl2, ← Kp.foldl3, ← writeBytes_wf, ← wf_filter, wf_nil, ← State.modCore_kp]

theorem deliverAt_kp (s : State) (c : Nat) (far : Bool) (first : Nat) (last : Nat) (n : Nat)
    (h0 : Kp kb s) : Kp kb (deliverAt s c far first last n).2 := by
  unfold deliverAt; grind (splits := 14) (gen := 60) (ematch := 60) [Option.map_eq_some_iff, Option.bind_eq_some_iff, ← Kp.upd2, ← OKp.next, ← MKp.some, ← Kp.getD, ← Kp.foldl, ← Kp.foldl1, ← Kp.foldl2, ← Kp.foldl3, ← writeBytes_wf, ← wf_filter, wf_nil, ← crossIn_kp, ← modRun_kp]

theorem answerAt_kp (s : State) (answer : Option Packet) (t : Nat)
    (h0 : Kp kb s) : Kp kb (answerAt s answer t) := by
  unfold answerAt; grind (splits := 14) (gen := 60) (ematch := 60) [Option.map_eq_some_iff, Option.bind_eq_some_iff, ← Kp.upd2, ← OKp.next, ← MKp.some, ← Kp.getD, ← Kp.foldl, ← Kp.foldl1, ← Kp.foldl2, ← Kp.foldl3, ← writeBytes_wf, ← wf_filter, wf_nil]

theorem flightServed_kp (s : State) (c : Nat) (idx : Nat) (f : Flight) (pc : Nat) (first : Nat) (stop : Nat)
    (h0 : Kp kb s) : Kp kb (flightServed s c idx f pc first stop) := by
  unfold flightServed; grind (splits := 14) (gen := 60) (ematch := 60) [Option.map_eq_some_iff, Option.bind_eq_some_iff, ← Kp.upd2, ← OKp.next, ← MKp.some, ← Kp.getD, ← Kp.foldl, ← Kp.foldl1, ← Kp.foldl2, ← Kp.foldl3, ← writeBytes_wf, ← wf_filter, wf_nil, ← deliverAt_kp, ← modRun_kp]

theorem queueServed_kp (s : State) (q : HReq) (first : Nat)
    (h0 : Kp kb s) : Kp kb (queueServed s q first) := by
  unfold queueServed; grind (splits := 14) (gen := 60) (ematch := 60) [Option.map_eq_some_iff, Option.bind_eq_some_iff, ← Kp.upd2, ← OKp.next, ← MKp.some, ← Kp.getD, ← Kp.foldl, ← Kp.foldl1, ← Kp.foldl2, ← Kp.foldl3, ← writeBytes_wf, ← wf_filter, wf_nil, ← answerAt_kp, ← crossOther_kp, ← modRun_kp]

theorem markServed_kp (s : State) (x : HCand) (pc : Nat) (first : Nat) (stop : Nat)
    (h0 : Kp kb s) : Kp kb (markServed s x pc first stop) := by
  unfold markServed; grind (splits := 14) (gen := 60) (ematch := 60) [Option.map_eq_some_iff, Option.bind_eq_some_iff, ← Kp.upd2, ← OKp.next, ← MKp.some, ← Kp.getD, ← Kp.foldl, ← Kp.foldl1, ← Kp.foldl2, ← Kp.foldl3, ← writeBytes_wf, ← wf_filter, wf_nil, ← flightServed_kp, ← queueServed_kp]

theorem serveOpen_kp (s : State) (pc : Nat) (x : HCand) (h : Nat)
    (h0 : Kp kb s) : Kp kb (serveOpen s pc x h) := by
  unfold serveOpen; grind (splits := 14) (gen := 60) (ematch := 60) [Option.map_eq_some_iff, Option.bind_eq_some_iff, ← Kp.upd2, ← OKp.next, ← MKp.some, ← Kp.getD, ← Kp.foldl, ← Kp.foldl1, ← Kp.foldl2, ← Kp.foldl3, ← writeBytes_wf, ← wf_filter, wf_nil, ← markServed_kp]

theorem hbmAdvance_kp (z0 : Nat) (z1 : Nat) (z2 : State)
    (h0 : Kp kb z2) : Kp kb (hbmAdvance z0 z1 z2) := by
  fun_induction hbmAdvance z0 z1 z2 <;> grind (splits := 14) (gen := 60) (ematch := 60) [Option.map_eq_some_iff, Option.bind_eq_some_iff, ← Kp.upd2, ← OKp.next, ← MKp.some, ← Kp.getD, ← Kp.foldl, ← Kp.foldl1, ← Kp.foldl2, ← Kp.foldl3, ← writeBytes_wf, ← wf_filter, wf_nil, ← serveOpen_kp]

theorem hbmQueue_kp (s : State) (q : HReq)
    (h0 : Kp kb s) : Kp kb (hbmQueue s q) := by
  unfold hbmQueue; grind (splits := 14) (gen := 60) (ematch := 60) [Option.map_eq_some_iff, Option.bind_eq_some_iff, ← Kp.upd2, ← OKp.next, ← MKp.some, ← Kp.getD, ← Kp.foldl, ← Kp.foldl1, ← Kp.foldl2, ← Kp.foldl3, ← writeBytes_wf, ← wf_filter, wf_nil, ← answerAt_kp]

theorem noteWrite_kp (s : State) (c : Nat) (p : Place) (a : Nat) (n : Nat) (tile : Bool)
    (h0 : Kp kb s) : Kp kb (noteWrite s c p a n tile) := by
  unfold noteWrite; dsimp only; (repeat' split) <;> grind (splits := 14) (gen := 60) (ematch := 60) [Option.map_eq_some_iff, Option.bind_eq_some_iff, ← Kp.upd2, ← OKp.next, ← MKp.some, ← Kp.getD, ← Kp.foldl, ← Kp.foldl1, ← Kp.foldl2, ← Kp.foldl3, ← writeBytes_wf, ← wf_filter, wf_nil, ← bridgeAdmit_kp, ← hbmQueue_kp, ← modRun_kp, ← tunServe_kp]

theorem goThere_kp (s : State) (w : Owner) (write : Bool) (home : Nat) (n : Nat) (t : Nat)
    (h0 : Kp kb s) : Kp kb (goThere s w write home n t).2 := by
  unfold goThere; grind (splits := 14) (gen := 60) (ematch := 60) [Option.map_eq_some_iff, Option.bind_eq_some_iff, ← Kp.upd2, ← OKp.next, ← MKp.some, ← Kp.getD, ← Kp.foldl, ← Kp.foldl1, ← Kp.foldl2, ← Kp.foldl3, ← writeBytes_wf, ← wf_filter, wf_nil, ← crossOther_kp]

theorem otherTun_kp (s : State) (w : Owner) (write : Bool) (tile : Bool) (a : Nat) (n : Nat) (t : Nat) (answer : Option Packet)
    (h0 : Kp kb s) : Kp kb (otherTun s w write tile a n t answer) := by
  unfold otherTun; grind (splits := 14) (gen := 60) (ematch := 60) [Option.map_eq_some_iff, Option.bind_eq_some_iff, ← Kp.upd2, ← OKp.next, ← MKp.some, ← Kp.getD, ← Kp.foldl, ← Kp.foldl1, ← Kp.foldl2, ← Kp.foldl3, ← writeBytes_wf, ← wf_filter, wf_nil, ← answerAt_kp, ← crossOther_kp, ← tunServe_kp]

theorem otherAccess_kp (s : State) (w : Owner) (p : Place) (write : Bool) (tile : Bool) (a : Nat) (n : Nat) (t : Nat) (answer : Option Packet)
    (h0 : Kp kb s) : Kp kb (otherAccess s w p write tile a n t answer) := by
  unfold otherAccess; grind (splits := 14) (gen := 60) (ematch := 60) [Option.map_eq_some_iff, Option.bind_eq_some_iff, ← Kp.upd2, ← OKp.next, ← MKp.some, ← Kp.getD, ← Kp.foldl, ← Kp.foldl1, ← Kp.foldl2, ← Kp.foldl3, ← writeBytes_wf, ← wf_filter, wf_nil, ← goThere_kp, ← hbmQueue_kp, ← otherTun_kp]

/-! ## Machine/IngotMap.lean -/

theorem setFblk_kp (s : State) (k : Nat) (b : FBlk)
    (h0 : Kp kb s) : Kp kb (setFblk s k b) := by
  unfold setFblk; grind (splits := 14) (gen := 60) (ematch := 60) [Option.map_eq_some_iff, Option.bind_eq_some_iff, ← Kp.upd2, ← OKp.next, ← MKp.some, ← Kp.getD, ← Kp.foldl, ← Kp.foldl1, ← Kp.foldl2, ← Kp.foldl3, ← writeBytes_wf, ← wf_filter, wf_nil]

theorem mapAccess_kp (s : State) (area : Nat) (tile : Nat)
    (h0 : Kp kb s) : Kp kb (mapAccess s area tile).2 := by
  unfold mapAccess; grind (splits := 14) (gen := 60) (ematch := 60) [Option.map_eq_some_iff, Option.bind_eq_some_iff, ← Kp.upd2, ← OKp.next, ← MKp.some, ← Kp.getD, ← Kp.foldl, ← Kp.foldl1, ← Kp.foldl2, ← Kp.foldl3, ← writeBytes_wf, ← wf_filter, wf_nil, ← State.bump_kp]

theorem setBucket_kp (s : State) (v : Int)
    (h0 : Kp kb s) : Kp kb (setBucket s v) := by
  unfold setBucket; grind (splits := 14) (gen := 60) (ematch := 60) [Option.map_eq_some_iff, Option.bind_eq_some_iff, ← Kp.upd2, ← OKp.next, ← MKp.some, ← Kp.getD, ← Kp.foldl, ← Kp.foldl1, ← Kp.foldl2, ← Kp.foldl3, ← writeBytes_wf, ← wf_filter, wf_nil, ← State.setReg_kp]

theorem wbRecompute_kp (s : State)
    (h0 : Kp kb s) : Kp kb (wbRecompute s) := by
  unfold wbRecompute; grind (splits := 14) (gen := 60) (ematch := 60) [Option.map_eq_some_iff, Option.bind_eq_some_iff, ← Kp.upd2, ← OKp.next, ← MKp.some, ← Kp.getD, ← Kp.foldl, ← Kp.foldl1, ← Kp.foldl2, ← Kp.foldl3, ← writeBytes_wf, ← wf_filter, wf_nil, ← State.setReg_kp]

theorem wbCharge_kp (s : State)
    (h0 : Kp kb s) : Kp kb (wbCharge s) := by
  unfold wbCharge; grind (splits := 14) (gen := 60) (ematch := 60) [Option.map_eq_some_iff, Option.bind_eq_some_iff, ← Kp.upd2, ← OKp.next, ← MKp.some, ← Kp.getD, ← Kp.foldl, ← Kp.foldl1, ← Kp.foldl2, ← Kp.foldl3, ← writeBytes_wf, ← wf_filter, wf_nil, ← State.wrapAdd_kp, ← setBucket_kp]

theorem takePage_kp (s : State) (tg : Nat)
    (h0 : Kp kb s) : ∀ xr0 xr1, (takePage s tg) = some (xr0, xr1) → Kp kb xr1 := by
  intros; rename_i hx; unfold takePage at hx; grind (splits := 14) (gen := 60) (ematch := 60) [Option.map_eq_some_iff, Option.bind_eq_some_iff, ← Kp.upd2, ← OKp.next, ← MKp.some, ← Kp.getD, ← Kp.foldl, ← Kp.foldl1, ← Kp.foldl2, ← Kp.foldl3, ← writeBytes_wf, ← wf_filter, wf_nil, ← State.wrapAdd_kp, ← setFblk_kp, ← wbCharge_kp]

theorem logUpdate_kp (s : State) (h0 : Kp kb s) : Kp kb (logUpdate s) := by
  unfold logUpdate; dsimp only; split
  · grind [← Kp.upd2]
  · split
    · rename_i e; simp only [Option.bind_eq_some_iff] at e; obtain ⟨g, _, e⟩ := e
      exact takePage_kp _ _ (by grind [← Kp.upd2]) _ _ e
    · grind [← Kp.upd2]

theorem logFlush_kp (s : State) (h0 : Kp kb s) : Kp kb (logFlush s) := by
  unfold logFlush; dsimp only; split
  · exact h0
  · split
    · rename_i e; simp only [Option.bind_eq_some_iff] at e; obtain ⟨g, _, e⟩ := e
      exact takePage_kp _ _ (by grind [← Kp.upd2]) _ _ e
    · grind [← Kp.upd2]

theorem setMap_kp (s : State) (area : Nat) (tile : Nat) (page : Nat)
    (h0 : Kp kb s) : Kp kb (setMap s area tile page) := by
  unfold setMap; grind (splits := 14) (gen := 60) (ematch := 60) [Option.map_eq_some_iff, Option.bind_eq_some_iff, ← Kp.upd2, ← OKp.next, ← MKp.some, ← Kp.getD, ← Kp.foldl, ← Kp.foldl1, ← Kp.foldl2, ← Kp.foldl3, ← writeBytes_wf, ← wf_filter, wf_nil, ← logUpdate_kp]

theorem setIngTile_kp (s : State) (tile : Nat) (payload : List Byte) (side : List Byte)
    (h0 : Kp kb s) : Kp kb (setIngTile s tile payload side) := by
  unfold setIngTile; grind (splits := 14) (gen := 60) (ematch := 60) [Option.map_eq_some_iff, Option.bind_eq_some_iff, ← Kp.upd2, ← OKp.next, ← MKp.some, ← Kp.getD, ← Kp.foldl, ← Kp.foldl1, ← Kp.foldl2, ← Kp.foldl3, ← writeBytes_wf, ← wf_filter, wf_nil]

theorem keepOld_kp (s : State) (tile : Nat) (h0 : Kp kb s) : Kp kb (keepOld s tile) := by
  unfold keepOld; exact Kp.mapCores h0 _ (fun _ => rfl)

theorem unmapTile_kp (s : State) (tile : Nat)
    (h0 : Kp kb s) : Kp kb (unmapTile s tile) := by
  unfold unmapTile; grind (splits := 14) (gen := 60) (ematch := 60) [Option.map_eq_some_iff, Option.bind_eq_some_iff, ← Kp.upd2, ← OKp.next, ← MKp.some, ← Kp.getD, ← Kp.foldl, ← Kp.foldl1, ← Kp.foldl2, ← Kp.foldl3, ← writeBytes_wf, ← wf_filter, wf_nil, ← invalidate_kp, ← keepOld_kp, ← logUpdate_kp, ← setIngTile_kp]

theorem programOwn_kp (s : State) (area : Nat) (tile : Nat)
    (h0 : Kp kb s) : ∀ xr, (programOwn s area tile) = some xr → Kp kb xr := by
  intro xr hx; unfold programOwn at hx
  simp only [Option.map_eq_some_iff, Option.bind_eq_some_iff] at hx
  obtain ⟨x, ⟨g, _, e⟩, rfl⟩ := hx
  exact setMap_kp _ _ _ _ (takePage_kp _ _ h0 _ _ e)

theorem ingWrite_kp (s : State) (c : Nat) (seq : Nat) (tile : Nat) (f : List Byte × List Byte → List Byte × List Byte)
    (h0 : Kp kb s) : Kp kb (ingWrite s c seq tile f) := by
  unfold ingWrite; grind (splits := 14) (gen := 60) (ematch := 60) [Option.map_eq_some_iff, Option.bind_eq_some_iff, ← Kp.upd2, ← OKp.next, ← MKp.some, ← Kp.getD, ← Kp.foldl, ← Kp.foldl1, ← Kp.foldl2, ← Kp.foldl3, ← writeBytes_wf, ← wf_filter, wf_nil]

end Sys2Proof.Machine
end

