-- ==== Sys2Proof/Laws/Keep03.lean ====
section
/-!
SUPPORT. Laws/Keep03.lean: each function of Machine/Remote, Mould, MatStore
that answers a state keeps the queue, the fuses and the canonical form.
-/
namespace Sys2Proof.Machine

open Sys2Proof

variable {kb : State}

/-! ## Machine/Remote.lean -/

theorem showRun_kp (s : State) (c : Nat)
    (h0 : Kp kb s) : Kp kb (showRun s c) := by
  unfold showRun; grind (splits := 14) (gen := 60) (ematch := 60) [Option.map_eq_some_iff, Option.bind_eq_some_iff, ← Kp.upd2, ← OKp.next, ← MKp.some, ← Kp.getD, ← Kp.foldl, ← Kp.foldl1, ← Kp.foldl2, ← Kp.foldl3, ← writeBytes_wf, ← wf_filter, wf_nil, ← State.setReg_kp]

theorem sendRemote_kp (s : State) (rq : RemReq) (mkind : Nat) (word : Nat) (body : List Byte)
    (h0 : Kp kb s) : Kp kb (sendRemote s rq mkind word body) := by
  unfold sendRemote; grind (splits := 14) (gen := 60) (ematch := 60) [Option.map_eq_some_iff, Option.bind_eq_some_iff, ← Kp.upd2, ← OKp.next, ← MKp.some, ← Kp.getD, ← Kp.foldl, ← Kp.foldl1, ← Kp.foldl2, ← Kp.foldl3, ← writeBytes_wf, ← wf_filter, wf_nil, ← State.disarm_kp, ← sendMsg_kp]

theorem sendRead_kp (s : State) (c : Nat) (eng : Nat) (seq : Nat) (dest : Nat) (r : Req)
    (h0 : Kp kb s) : Kp kb (sendRead s c eng seq dest r) := by
  unfold sendRead; grind (splits := 14) (gen := 60) (ematch := 60) [Option.map_eq_some_iff, Option.bind_eq_some_iff, ← Kp.upd2, ← OKp.next, ← MKp.some, ← Kp.getD, ← Kp.foldl, ← Kp.foldl1, ← Kp.foldl2, ← Kp.foldl3, ← writeBytes_wf, ← wf_filter, wf_nil, ← sendRemote_kp]

theorem sendWrite_kp (s : State) (c : Nat) (w : RemWrite)
    (h0 : Kp kb s) : Kp kb (sendWrite s c w) := by
  unfold sendWrite; grind (splits := 14) (gen := 60) (ematch := 60) [Option.map_eq_some_iff, Option.bind_eq_some_iff, ← Kp.upd2, ← OKp.next, ← MKp.some, ← Kp.getD, ← Kp.foldl, ← Kp.foldl1, ← Kp.foldl2, ← Kp.foldl3, ← writeBytes_wf, ← wf_filter, wf_nil, ← sendRemote_kp]

theorem pumpWrites_kp (z0 : Nat) (z1 : State) (z2 : Nat)
    (h0 : Kp kb z1) : Kp kb (pumpWrites z0 z1 z2) := by
  fun_induction pumpWrites z0 z1 z2 <;> grind (splits := 14) (gen := 60) (ematch := 60) [Option.map_eq_some_iff, Option.bind_eq_some_iff, ← Kp.upd2, ← OKp.next, ← MKp.some, ← Kp.getD, ← Kp.foldl, ← Kp.foldl1, ← Kp.foldl2, ← Kp.foldl3, ← writeBytes_wf, ← wf_filter, wf_nil, ← modRun_kp, ← sendWrite_kp]

theorem putRemote_kp (s : State) (c : Nat) (w : RemWrite)
    (h0 : Kp kb s) : Kp kb (putRemote s c w) := by
  unfold putRemote; grind (splits := 14) (gen := 60) (ematch := 60) [Option.map_eq_some_iff, Option.bind_eq_some_iff, ← Kp.upd2, ← OKp.next, ← MKp.some, ← Kp.getD, ← Kp.foldl, ← Kp.foldl1, ← Kp.foldl2, ← Kp.foldl3, ← writeBytes_wf, ← wf_filter, wf_nil, ← modRun_kp, ← pumpWrites_kp]

theorem tunRead_kp (s : State) (c : Nat) (a : Nat) (n : Nat) (tile : Bool)
    (h0 : Kp kb s) : Kp kb (tunRead s c a n tile).2 := by
  unfold tunRead; grind (splits := 14) (gen := 60) (ematch := 60) [Option.map_eq_some_iff, Option.bind_eq_some_iff, ← Kp.upd2, ← OKp.next, ← MKp.some, ← Kp.getD, ← Kp.foldl, ← Kp.foldl1, ← Kp.foldl2, ← Kp.foldl3, ← writeBytes_wf, ← wf_filter, wf_nil, ← deliverAt_kp, ← tunServe_kp]

theorem startAccess_kp (s : State) (c : Nat) (f : Flight)
    (h0 : Kp kb s) : Kp kb (startAccess s c f).2 := by
  unfold startAccess; grind (splits := 14) (gen := 60) (ematch := 60) [Option.map_eq_some_iff, Option.bind_eq_some_iff, ← Kp.upd2, ← OKp.next, ← MKp.some, ← Kp.getD, ← Kp.foldl, ← Kp.foldl1, ← Kp.foldl2, ← Kp.foldl3, ← writeBytes_wf, ← wf_filter, wf_nil, ← sendRead_kp, ← tunRead_kp]

theorem startHit_kp (s : State) (c : Nat) (f : Flight) (t : Nat)
    (h0 : Kp kb s) : Kp kb (startHit s c f t).2 := by
  unfold startHit; grind (splits := 14) (gen := 60) (ematch := 60) [Option.map_eq_some_iff, Option.bind_eq_some_iff, ← Kp.upd2, ← OKp.next, ← MKp.some, ← Kp.getD, ← Kp.foldl, ← Kp.foldl1, ← Kp.foldl2, ← Kp.foldl3, ← writeBytes_wf, ← wf_filter, wf_nil, ← tunRead_kp]

theorem launch_kp (s : State) (c : Nat) (q : Requester) (r : Req)
    (h0 : Kp kb s) : Kp kb (launch s c q r) := by
  unfold launch; grind (splits := 14) (gen := 60) (ematch := 60) [Option.map_eq_some_iff, Option.bind_eq_some_iff, ← Kp.upd2, ← OKp.next, ← MKp.some, ← Kp.getD, ← Kp.foldl, ← Kp.foldl1, ← Kp.foldl2, ← Kp.foldl3, ← writeBytes_wf, ← wf_filter, wf_nil, ← State.bump_kp, allocEntry_kp, ← cacheHit_kp, ← modRun_kp, ← startAccess_kp, ← startHit_kp]

theorem fillDone_kp (s : State) (t : Nat) (data : Option (List Byte × List Byte))
    (h0 : Kp kb s) : Kp kb (fillDone s t data) := by
  unfold fillDone; grind (splits := 14) (gen := 60) (ematch := 60) [Option.map_eq_some_iff, Option.bind_eq_some_iff, ← Kp.upd2, ← OKp.next, ← MKp.some, ← Kp.getD, ← Kp.foldl, ← Kp.foldl1, ← Kp.foldl2, ← Kp.foldl3, ← writeBytes_wf, ← wf_filter, wf_nil, ← fillEntry_kp, ← modRun_kp, ← setCache_kp, ← startAccess_kp, ← startHit_kp]

theorem landFlight_kp (s : State) (c : Nat) (f : Flight)
    (h0 : Kp kb s) : Kp kb (landFlight s c f) := by
  unfold landFlight; grind (splits := 14) (gen := 60) (ematch := 60) [Option.map_eq_some_iff, Option.bind_eq_some_iff, ← Kp.upd2, ← OKp.next, ← MKp.some, ← Kp.getD, ← Kp.foldl, ← Kp.foldl1, ← Kp.foldl2, ← Kp.foldl3, ← writeBytes_wf, ← wf_filter, wf_nil, ← modRun_kp]

theorem dropFlights_kp (s : State) (c : Nat)
    (h0 : Kp kb s) : Kp kb (dropFlights s c) := by
  unfold dropFlights; grind (splits := 14) (gen := 60) (ematch := 60) [Option.map_eq_some_iff, Option.bind_eq_some_iff, ← Kp.upd2, ← OKp.next, ← MKp.some, ← Kp.getD, ← Kp.foldl, ← Kp.foldl1, ← Kp.foldl2, ← Kp.foldl3, ← writeBytes_wf, ← wf_filter, wf_nil, ← fillDone_kp, ← modRun_kp, ← sweepGone_kp]

theorem prefetchNext_kp (s : State) (c : Nat) (t : Nat)
    (h0 : Kp kb s) : Kp kb (prefetchNext s c t) := by
  unfold prefetchNext; grind (splits := 14) (gen := 60) (ematch := 60) [Option.map_eq_some_iff, Option.bind_eq_some_iff, ← Kp.upd2, ← OKp.next, ← MKp.some, ← Kp.getD, ← Kp.foldl, ← Kp.foldl1, ← Kp.foldl2, ← Kp.foldl3, ← writeBytes_wf, ← wf_filter, wf_nil, ← State.bump_kp, allocEntry_kp, ← modRun_kp, ← startAccess_kp]

theorem alone_kp (s : State) (t : Nat) (h0 : Kp kb s) : Kp kb (alone s t) :=
  Kp.mapCores (s := { s with ck := t, acc := {} }) (Kp.upd2 h0 id id id id id) _ (fun _ => rfl)

theorem aloneDue_kp (s : State) (c : Nat) (r : Req)
    (h0 : Kp kb s) : Kp kb (aloneDue s c r).2 := by
  unfold aloneDue; grind (splits := 14) (gen := 60) (ematch := 60) [Option.map_eq_some_iff, Option.bind_eq_some_iff, ← Kp.upd2, ← OKp.next, ← MKp.some, ← Kp.getD, ← Kp.foldl, ← Kp.foldl1, ← Kp.foldl2, ← Kp.foldl3, ← writeBytes_wf, ← wf_filter, wf_nil, ← hbmAdvance_kp, ← modRun_kp, ← startAccess_kp]

theorem grantOne_kp (s : State) (c : Nat)
    (h0 : Kp kb s) : ∀ xr, (grantOne s c) = some xr → Kp kb xr := by
  intros; rename_i hx; unfold grantOne at hx; grind (splits := 14) (gen := 60) (ematch := 60) [Option.map_eq_some_iff, Option.bind_eq_some_iff, ← Kp.upd2, ← OKp.next, ← MKp.some, ← Kp.getD, ← Kp.foldl, ← Kp.foldl1, ← Kp.foldl2, ← Kp.foldl3, ← writeBytes_wf, ← wf_filter, wf_nil, ← State.wrapAdd_kp, ← launch_kp, ← modRun_kp]

theorem grantLoop_kp (z0 : Nat) (z1 : State) (z2 : Nat)
    (h0 : Kp kb z1) : Kp kb (grantLoop z0 z1 z2) := by
  fun_induction grantLoop z0 z1 z2 <;> grind (splits := 14) (gen := 60) (ematch := 60) [Option.map_eq_some_iff, Option.bind_eq_some_iff, ← Kp.upd2, ← OKp.next, ← MKp.some, ← Kp.getD, ← Kp.foldl, ← Kp.foldl1, ← Kp.foldl2, ← Kp.foldl3, ← writeBytes_wf, ← wf_filter, wf_nil, grantOne_kp]

theorem markWaits_kp (s : State) (c : Nat)
    (h0 : Kp kb s) : Kp kb (markWaits s c) := by
  unfold markWaits; grind (splits := 14) (gen := 60) (ematch := 60) [Option.map_eq_some_iff, Option.bind_eq_some_iff, ← Kp.upd2, ← OKp.next, ← MKp.some, ← Kp.getD, ← Kp.foldl, ← Kp.foldl1, ← Kp.foldl2, ← Kp.foldl3, ← writeBytes_wf, ← wf_filter, wf_nil, ← modRun_kp]

theorem grantSlots_kp (s : State) (c : Nat)
    (h0 : Kp kb s) : Kp kb (grantSlots s c) := by
  unfold grantSlots; grind (splits := 14) (gen := 60) (ematch := 60) [Option.map_eq_some_iff, Option.bind_eq_some_iff, ← Kp.upd2, ← OKp.next, ← MKp.some, ← Kp.getD, ← Kp.foldl, ← Kp.foldl1, ← Kp.foldl2, ← Kp.foldl3, ← writeBytes_wf, ← wf_filter, wf_nil, ← grantLoop_kp, ← markWaits_kp, ← showRun_kp]

theorem modReq_kp (s : State) (c : Nat) (eng : Nat) (seq : Nat) (f : Requester → Requester)
    (h0 : Kp kb s) : Kp kb (modReq s c eng seq f) := by
  unfold modReq; grind (splits := 14) (gen := 60) (ematch := 60) [Option.map_eq_some_iff, Option.bind_eq_some_iff, ← Kp.upd2, ← OKp.next, ← MKp.some, ← Kp.getD, ← Kp.foldl, ← Kp.foldl1, ← Kp.foldl2, ← Kp.foldl3, ← writeBytes_wf, ← wf_filter, wf_nil, ← modRun_kp]

theorem addReq_kp (s : State) (c : Nat) (q : Requester)
    (h0 : Kp kb s) : Kp kb (addReq s c q) := by
  unfold addReq; grind (splits := 14) (gen := 60) (ematch := 60) [Option.map_eq_some_iff, Option.bind_eq_some_iff, ← Kp.upd2, ← OKp.next, ← MKp.some, ← Kp.getD, ← Kp.foldl, ← Kp.foldl1, ← Kp.foldl2, ← Kp.foldl3, ← writeBytes_wf, ← wf_filter, wf_nil, ← modRun_kp]

theorem dropReq_kp (s : State) (c : Nat) (eng : Nat) (seq : Nat)
    (h0 : Kp kb s) : Kp kb (dropReq s c eng seq) := by
  unfold dropReq; grind (splits := 14) (gen := 60) (ematch := 60) [Option.map_eq_some_iff, Option.bind_eq_some_iff, ← Kp.upd2, ← OKp.next, ← MKp.some, ← Kp.getD, ← Kp.foldl, ← Kp.foldl1, ← Kp.foldl2, ← Kp.foldl3, ← writeBytes_wf, ← wf_filter, wf_nil, ← modRun_kp]

theorem storeAt_kp (s : State) (c : Nat) (seq : Nat) (p : Place) (a : Nat) (bs : List Byte)
    (h0 : Kp kb s) : Kp kb (storeAt s c seq p a bs) := by
  unfold storeAt; grind (splits := 14) (gen := 60) (ematch := 60) [Option.map_eq_some_iff, Option.bind_eq_some_iff, ← Kp.upd2, ← OKp.next, ← MKp.some, ← Kp.getD, ← Kp.foldl, ← Kp.foldl1, ← Kp.foldl2, ← Kp.foldl3, ← writeBytes_wf, ← wf_filter, wf_nil, ← State.wrapAdd_kp, ← ingWrite_kp, ← noteWrite_kp, ← poke_kp, ← putRemote_kp]

theorem storePieces_kp (c : Nat) (seq : Nat) (p : Place) (z0 : List (Nat × Nat)) (z1 : List Byte) (z2 : State)
    (h0 : Kp kb z2) : Kp kb (storePieces c seq p z0 z1 z2) := by
  fun_induction storePieces c seq p z0 z1 z2 <;> grind (splits := 14) (gen := 60) (ematch := 60) [Option.map_eq_some_iff, Option.bind_eq_some_iff, ← Kp.upd2, ← OKp.next, ← MKp.some, ← Kp.getD, ← Kp.foldl, ← Kp.foldl1, ← Kp.foldl2, ← Kp.foldl3, ← writeBytes_wf, ← wf_filter, wf_nil, ← storeAt_kp]

theorem storeRegion_kp (s : State) (c : Nat) (seq : Nat) (r : Region) (p : Place) (off : Nat) (bs : List Byte)
    (h0 : Kp kb s) : Kp kb (storeRegion s c seq r p off bs) := by
  unfold storeRegion; grind (splits := 14) (gen := 60) (ematch := 60) [Option.map_eq_some_iff, Option.bind_eq_some_iff, ← Kp.upd2, ← OKp.next, ← MKp.some, ← Kp.getD, ← Kp.foldl, ← Kp.foldl1, ← Kp.foldl2, ← Kp.foldl3, ← writeBytes_wf, ← wf_filter, wf_nil, ← storePieces_kp]

theorem storeTile_kp (s : State) (c : Nat) (seq : Nat) (p : Place) (t : Nat) (payload : List Byte) (side : List Byte)
    (h0 : Kp kb s) : Kp kb (storeTile s c seq p t payload side) := by
  unfold storeTile; grind (splits := 14) (gen := 60) (ematch := 60) [Option.map_eq_some_iff, Option.bind_eq_some_iff, ← Kp.upd2, ← OKp.next, ← MKp.some, ← Kp.getD, ← Kp.foldl, ← Kp.foldl1, ← Kp.foldl2, ← Kp.foldl3, ← writeBytes_wf, ← wf_filter, wf_nil, ← State.wrapAdd_kp, ← ingWrite_kp, ← noteWrite_kp, ← putRemote_kp, ← writeTile_kp]

/-! ## Machine/Mould.lean -/

theorem modMld_kp (s : State) (c : Nat) (f : MouldSt → MouldSt)
    (h0 : Kp kb s) : Kp kb (modMld s c f) := by
  unfold modMld; grind (splits := 14) (gen := 60) (ematch := 60) [Option.map_eq_some_iff, Option.bind_eq_some_iff, ← Kp.upd2, ← OKp.next, ← MKp.some, ← Kp.getD, ← Kp.foldl, ← Kp.foldl1, ← Kp.foldl2, ← Kp.foldl3, ← writeBytes_wf, ← wf_filter, wf_nil, ← State.modCore_kp]

theorem modJob_kp (s : State) (c : Nat) (seq : Nat) (f : MJob → MJob)
    (h0 : Kp kb s) : Kp kb (modJob s c seq f) := by
  unfold modJob; grind (splits := 14) (gen := 60) (ematch := 60) [Option.map_eq_some_iff, Option.bind_eq_some_iff, ← Kp.upd2, ← OKp.next, ← MKp.some, ← Kp.getD, ← Kp.foldl, ← Kp.foldl1, ← Kp.foldl2, ← Kp.foldl3, ← writeBytes_wf, ← wf_filter, wf_nil, ← modMld_kp]

theorem setHalf_kp (s : State) (c : Nat) (h : Nat) (v : Nat)
    (h0 : Kp kb s) : Kp kb (setHalf s c h v) := by
  unfold setHalf; grind (splits := 14) (gen := 60) (ematch := 60) [Option.map_eq_some_iff, Option.bind_eq_some_iff, ← Kp.upd2, ← OKp.next, ← MKp.some, ← Kp.getD, ← Kp.foldl, ← Kp.foldl1, ← Kp.foldl2, ← Kp.foldl3, ← writeBytes_wf, ← wf_filter, wf_nil, ← State.setFld_kp]

theorem freeHalf_kp (s : State) (c : Nat) (h : Nat)
    (h0 : Kp kb s) : Kp kb (freeHalf s c h) := by
  unfold freeHalf; grind (splits := 14) (gen := 60) (ematch := 60) [Option.map_eq_some_iff, Option.bind_eq_some_iff, ← Kp.upd2, ← OKp.next, ← MKp.some, ← Kp.getD, ← Kp.foldl, ← Kp.foldl1, ← Kp.foldl2, ← Kp.foldl3, ← writeBytes_wf, ← wf_filter, wf_nil, ← State.setFld_kp, ← modMld_kp, ← setHalf_kp]

theorem changeDuty_kp (s : State) (f : State → State)
    (h0 : Kp kb s) (h1 : ∀ y0, Kp kb y0 → Kp kb (f y0)) : Kp kb (changeDuty s f) := by
  unfold changeDuty; grind (splits := 14) (gen := 60) (ematch := 60) [Option.map_eq_some_iff, Option.bind_eq_some_iff, ← Kp.upd2, ← OKp.next, ← MKp.some, ← Kp.getD, ← Kp.foldl, ← Kp.foldl1, ← Kp.foldl2, ← Kp.foldl3, ← writeBytes_wf, ← wf_filter, wf_nil, ← modMld_kp]

theorem wantRamp_kp (s : State) (c : Nat)
    (h0 : Kp kb s) : Kp kb (wantRamp s c) := by
  unfold wantRamp; grind (splits := 14) (gen := 60) (ematch := 60) [Option.map_eq_some_iff, Option.bind_eq_some_iff, ← Kp.upd2, ← OKp.next, ← MKp.some, ← Kp.getD, ← Kp.foldl, ← Kp.foldl1, ← Kp.foldl2, ← Kp.foldl3, ← writeBytes_wf, ← wf_filter, wf_nil]

theorem startDown_kp (s : State) (c : Nat)
    (h0 : Kp kb s) : Kp kb (startDown s c) := by
  unfold startDown; grind (splits := 14) (gen := 60) (ematch := 60) [Option.map_eq_some_iff, Option.bind_eq_some_iff, ← Kp.upd2, ← OKp.next, ← MKp.some, ← Kp.getD, ← Kp.foldl, ← Kp.foldl1, ← Kp.foldl2, ← Kp.foldl3, ← writeBytes_wf, ← wf_filter, wf_nil, ← State.setFld_kp, ← modMld_kp]

theorem execRampUp_kp (c : Core) (s : State)
    (h0 : Kp kb s) : OKp kb (execRampUp c s) := by
  unfold execRampUp; grind (splits := 14) (gen := 60) (ematch := 60) [Option.map_eq_some_iff, Option.bind_eq_some_iff, ← Kp.upd2, ← OKp.next, ← MKp.some, ← Kp.getD, ← Kp.foldl, ← Kp.foldl1, ← Kp.foldl2, ← Kp.foldl3, ← writeBytes_wf, ← wf_filter, wf_nil, ← finishDesc_kp, ← wantRamp_kp]

theorem execRampDown_kp (c : Core) (s : State)
    (h0 : Kp kb s) : OKp kb (execRampDown c s) := by
  unfold execRampDown; grind (splits := 14) (gen := 60) (ematch := 60) [Option.map_eq_some_iff, Option.bind_eq_some_iff, ← Kp.upd2, ← OKp.next, ← MKp.some, ← Kp.getD, ← Kp.foldl, ← Kp.foldl1, ← Kp.foldl2, ← Kp.foldl3, ← writeBytes_wf, ← wf_filter, wf_nil, ← State.upTo_kp, ← finishDesc_kp, ← startDown_kp]

theorem execMldArrayWarm_kp (c : Core) (s : State)
    (h0 : Kp kb s) : OKp kb (execMldArrayWarm c s) := by
  unfold execMldArrayWarm; grind (splits := 14) (gen := 60) (ematch := 60) [Option.map_eq_some_iff, Option.bind_eq_some_iff, ← Kp.upd2, ← OKp.next, ← MKp.some, ← Kp.getD, ← Kp.foldl, ← Kp.foldl1, ← Kp.foldl2, ← Kp.foldl3, ← writeBytes_wf, ← wf_filter, wf_nil, ← State.setFld_kp, ← State.upTo_kp, ← modMld_kp]

theorem execMldArrayCold_kp (c : Core) (s : State)
    (h0 : Kp kb s) : OKp kb (execMldArrayCold c s) := by
  unfold execMldArrayCold; grind (splits := 14) (gen := 60) (ematch := 60) [Option.map_eq_some_iff, Option.bind_eq_some_iff, ← Kp.upd2, ← OKp.next, ← MKp.some, ← Kp.getD, ← Kp.foldl, ← Kp.foldl1, ← Kp.foldl2, ← Kp.foldl3, ← writeBytes_wf, ← wf_filter, wf_nil, ← State.setFld_kp, ← State.upTo_kp, ← wantRamp_kp]

theorem execMldIdleGateExpire_kp (c : Core) (s : State)
    (h0 : Kp kb s) : OKp kb (execMldIdleGateExpire c s) := by
  unfold execMldIdleGateExpire; grind (splits := 14) (gen := 60) (ematch := 60) [Option.map_eq_some_iff, Option.bind_eq_some_iff, ← Kp.upd2, ← OKp.next, ← MKp.some, ← Kp.getD, ← Kp.foldl, ← Kp.foldl1, ← Kp.foldl2, ← Kp.foldl3, ← writeBytes_wf, ← wf_filter, wf_nil, ← State.upTo_kp, ← startDown_kp]

theorem startJob_kp (s : State) (c : Nat) (j : MJob)
    (h0 : Kp kb s) : Kp kb (startJob s c j) := by
  unfold startJob; grind (splits := 14) (gen := 60) (ematch := 60) [Option.map_eq_some_iff, Option.bind_eq_some_iff, ← Kp.upd2, ← OKp.next, ← MKp.some, ← Kp.getD, ← Kp.foldl, ← Kp.foldl1, ← Kp.foldl2, ← Kp.foldl3, ← writeBytes_wf, ← wf_filter, wf_nil, ← State.setReg_kp, ← addReq_kp, ← grantSlots_kp, ← modMld_kp, ← wantRamp_kp]

theorem execMatmul_kp (c : Core) (s : State)
    (h0 : Kp kb s) : OKp kb (execMatmul c s) := by
  unfold execMatmul; grind (splits := 14) (gen := 60) (ematch := 60) [Option.map_eq_some_iff, Option.bind_eq_some_iff, ← Kp.upd2, ← OKp.next, ← MKp.some, ← Kp.getD, ← Kp.foldl, ← Kp.foldl1, ← Kp.foldl2, ← Kp.foldl3, ← writeBytes_wf, ← wf_filter, wf_nil, ← feedCk_kp, ← finishDesc_kp, ← patEnd_kp, runPattern_kp, ← startJob_kp]

theorem endFeed_kp (s : State) (c : Nat) (seq : Nat)
    (h0 : Kp kb s) : Kp kb (endFeed s c seq) := by
  unfold endFeed; grind (splits := 14) (gen := 60) (ematch := 60) [Option.map_eq_some_iff, Option.bind_eq_some_iff, ← Kp.upd2, ← OKp.next, ← MKp.some, ← Kp.getD, ← Kp.foldl, ← Kp.foldl1, ← Kp.foldl2, ← Kp.foldl3, ← writeBytes_wf, ← wf_filter, wf_nil, ← dropReq_kp, ← grantSlots_kp, ← modMld_kp, ← unstage_kp]

theorem mouldFinish_kp (s : State) (c : Nat) (j : MJob)
    (h0 : Kp kb s) : Kp kb (mouldFinish s c j) := by
  unfold mouldFinish; grind (splits := 14) (gen := 60) (ematch := 60) [Option.map_eq_some_iff, Option.bind_eq_some_iff, ← Kp.upd2, ← OKp.next, ← MKp.some, ← Kp.getD, ← Kp.foldl, ← Kp.foldl1, ← Kp.foldl2, ← Kp.foldl3, ← writeBytes_wf, ← wf_filter, wf_nil, ← endFeed_kp, ← finishDesc_kp, ← modMld_kp]

theorem mouldTryFinish_kp (s : State) (c : Nat) (seq : Nat)
    (h0 : Kp kb s) : Kp kb (mouldTryFinish s c seq) := by
  unfold mouldTryFinish; grind (splits := 14) (gen := 60) (ematch := 60) [Option.map_eq_some_iff, Option.bind_eq_some_iff, ← Kp.upd2, ← OKp.next, ← MKp.some, ← Kp.getD, ← Kp.foldl, ← Kp.foldl1, ← Kp.foldl2, ← Kp.foldl3, ← writeBytes_wf, ← wf_filter, wf_nil, ← mouldFinish_kp]

theorem abandonJob_kp (s : State) (c : Nat) (seq : Nat)
    (h0 : Kp kb s) : Kp kb (abandonJob s c seq) := by
  unfold abandonJob; grind (splits := 14) (gen := 60) (ematch := 60) [Option.map_eq_some_iff, Option.bind_eq_some_iff, ← Kp.upd2, ← OKp.next, ← MKp.some, ← Kp.getD, ← Kp.foldl, ← Kp.foldl1, ← Kp.foldl2, ← Kp.foldl3, ← writeBytes_wf, ← wf_filter, wf_nil, ← State.setFld_kp, ← endFeed_kp, ← freeHalf_kp, ← modJob_kp, ← modMld_kp, ← mouldTryFinish_kp]

theorem operandFails_kp (s : State) (c : Nat) (seq : Nat) (status : Nat) (src : Nat)
    (h0 : Kp kb s) : Kp kb (operandFails s c seq status src) := by
  unfold operandFails; grind (splits := 14) (gen := 60) (ematch := 60) [Option.map_eq_some_iff, Option.bind_eq_some_iff, ← Kp.upd2, ← OKp.next, ← MKp.some, ← Kp.getD, ← Kp.foldl, ← Kp.foldl1, ← Kp.foldl2, ← Kp.foldl3, ← writeBytes_wf, ← wf_filter, wf_nil, ← abandonJob_kp, ← modJob_kp, ← raiseFor_kp]

theorem againTile_kp (s : State) (c : Nat) (job : MJob) (t : OpTile)
    (h0 : Kp kb s) : Kp kb (againTile s c job t) := by
  unfold againTile; grind (splits := 14) (gen := 60) (ematch := 60) [Option.map_eq_some_iff, Option.bind_eq_some_iff, ← Kp.upd2, ← OKp.next, ← MKp.some, ← Kp.getD, ← Kp.foldl, ← Kp.foldl1, ← Kp.foldl2, ← Kp.foldl3, ← writeBytes_wf, ← wf_filter, wf_nil, ← State.bump_kp, ← State.modCore_kp, ← grantSlots_kp, ← modJob_kp]

theorem stageTile_kp (s : State) (c : Nat) (job : MJob) (t : OpTile)
    (h0 : Kp kb s) : Kp kb (stageTile s c job t) := by
  unfold stageTile; grind (splits := 14) (gen := 60) (ematch := 60) [Option.map_eq_some_iff, Option.bind_eq_some_iff, ← Kp.upd2, ← OKp.next, ← MKp.some, ← Kp.getD, ← Kp.foldl, ← Kp.foldl1, ← Kp.foldl2, ← Kp.foldl3, ← writeBytes_wf, ← wf_filter, wf_nil, ← modJob_kp, ← operandFails_kp]

theorem execMldOperandTileArrive_kp (c : Core) (s : State)
    (h0 : Kp kb s) : OKp kb (execMldOperandTileArrive c s) := by
  unfold execMldOperandTileArrive; grind (splits := 14) (gen := 60) (ematch := 60) [Option.map_eq_some_iff, Option.bind_eq_some_iff, ← Kp.upd2, ← OKp.next, ← MKp.some, ← Kp.getD, ← Kp.foldl, ← Kp.foldl1, ← Kp.foldl2, ← Kp.foldl3, ← writeBytes_wf, ← wf_filter, wf_nil, ← State.injFails_kp, ← againTile_kp, ← modJob_kp, ← modMld_kp, ← operandFails_kp, ← raiseFor_kp, ← stageTile_kp]

theorem consumeTiles_kp (s : State) (c : Nat) (seq : Nat)
    (h0 : Kp kb s) : Kp kb (consumeTiles s c seq) := by
  unfold consumeTiles; grind (splits := 14) (gen := 60) (ematch := 60) [Option.map_eq_some_iff, Option.bind_eq_some_iff, ← Kp.upd2, ← OKp.next, ← MKp.some, ← Kp.getD, ← Kp.foldl, ← Kp.foldl1, ← Kp.foldl2, ← Kp.foldl3, ← writeBytes_wf, ← wf_filter, wf_nil, ← grantSlots_kp, ← modJob_kp]

theorem execMldLoadStart_kp (c : Core) (s : State)
    (h0 : Kp kb s) : OKp kb (execMldLoadStart c s) := by
  unfold execMldLoadStart; grind (splits := 14) (gen := 60) (ematch := 60) [Option.map_eq_some_iff, Option.bind_eq_some_iff, ← Kp.upd2, ← OKp.next, ← MKp.some, ← Kp.getD, ← Kp.foldl, ← Kp.foldl1, ← Kp.foldl2, ← Kp.foldl3, ← writeBytes_wf, ← wf_filter, wf_nil, ← State.upTo_kp, ← State.wrapAdd_kp, ← modMld_kp]

theorem execMldLoadEnd_kp (c : Core) (s : State)
    (h0 : Kp kb s) : OKp kb (execMldLoadEnd c s) := by
  unfold execMldLoadEnd; grind (splits := 14) (gen := 60) (ematch := 60) [Option.map_eq_some_iff, Option.bind_eq_some_iff, ← Kp.upd2, ← OKp.next, ← MKp.some, ← Kp.getD, ← Kp.foldl, ← Kp.foldl1, ← Kp.foldl2, ← Kp.foldl3, ← writeBytes_wf, ← wf_filter, wf_nil, ← State.bump_kp, ← State.disarm_kp, ← State.upTo_kp, ← abandonJob_kp, ← modJob_kp, ← modMld_kp, ← raiseFor_kp]

theorem raiseOverrun_kp (s : State) (c : Nat) (seq : Nat)
    (h0 : Kp kb s) : Kp kb (raiseOverrun s c seq) := by
  unfold raiseOverrun; grind (splits := 14) (gen := 60) (ematch := 60) [Option.map_eq_some_iff, Option.bind_eq_some_iff, ← Kp.upd2, ← OKp.next, ← MKp.some, ← Kp.getD, ← Kp.foldl, ← Kp.foldl1, ← Kp.foldl2, ← Kp.foldl3, ← writeBytes_wf, ← wf_filter, wf_nil, ← modJob_kp, ← raiseFor_kp]

theorem settleReplay_kp (s : State) (c : Nat) (t : Nat)
    (h0 : Kp kb s) : Kp kb (settleReplay s c t) := by
  unfold settleReplay; grind (splits := 14) (gen := 60) (ematch := 60) [Option.map_eq_some_iff, Option.bind_eq_some_iff, ← Kp.upd2, ← OKp.next, ← MKp.some, ← Kp.getD, ← Kp.foldl, ← Kp.foldl1, ← Kp.foldl2, ← Kp.foldl3, ← writeBytes_wf, ← wf_filter, wf_nil, ← modMld_kp, ← raiseOverrun_kp]

theorem execReplayBudgetExceeded_kp (c : Core) (s : State)
    (h0 : Kp kb s) : OKp kb (execReplayBudgetExceeded c s) := by
  unfold execReplayBudgetExceeded; grind (splits := 14) (gen := 60) (ematch := 60) [Option.map_eq_some_iff, Option.bind_eq_some_iff, ← Kp.upd2, ← OKp.next, ← MKp.some, ← Kp.getD, ← Kp.foldl, ← Kp.foldl1, ← Kp.foldl2, ← Kp.foldl3, ← writeBytes_wf, ← wf_filter, wf_nil, ← State.upTo_kp, ← settleReplay_kp]

theorem execSlackExceeded_kp (c : Core) (s : State)
    (h0 : Kp kb s) : OKp kb (execSlackExceeded c s) := by
  unfold execSlackExceeded; grind (splits := 14) (gen := 60) (ematch := 60) [Option.map_eq_some_iff, Option.bind_eq_some_iff, ← Kp.upd2, ← OKp.next, ← MKp.some, ← Kp.getD, ← Kp.foldl, ← Kp.foldl1, ← Kp.foldl2, ← Kp.foldl3, ← writeBytes_wf, ← wf_filter, wf_nil, ← State.upTo_kp, ← settleReplay_kp]

theorem unrecover_kp (s : State) (c : Nat) (seq : Nat) (i : Nat)
    (h0 : Kp kb s) : Kp kb (unrecover s c seq i) := by
  unfold unrecover; grind (splits := 14) (gen := 60) (ematch := 60) [Option.map_eq_some_iff, Option.bind_eq_some_iff, ← Kp.upd2, ← OKp.next, ← MKp.some, ← Kp.getD, ← Kp.foldl, ← Kp.foldl1, ← Kp.foldl2, ← Kp.foldl3, ← writeBytes_wf, ← wf_filter, wf_nil, ← State.bump_kp, ← modJob_kp, ← raiseFor_kp]

theorem makeMarks_kp (s : State) (c : Nat) (seq : Nat) (t : Nat)
    (h0 : Kp kb s) : Kp kb (makeMarks s c seq t) := by
  unfold makeMarks; grind (splits := 14) (gen := 60) (ematch := 60) [Option.map_eq_some_iff, Option.bind_eq_some_iff, ← Kp.upd2, ← OKp.next, ← MKp.some, ← Kp.getD, ← Kp.foldl, ← Kp.foldl1, ← Kp.foldl2, ← Kp.foldl3, ← writeBytes_wf, ← wf_filter, wf_nil, ← modJob_kp, ← unrecover_kp]

theorem runReplay_kp (s : State) (c : Nat) (seq : Nat) (r0 : Nat)
    (h0 : Kp kb s) : Kp kb (runReplay s c seq r0) := by
  unfold runReplay; grind (splits := 14) (gen := 60) (ematch := 60) [Option.map_eq_some_iff, Option.bind_eq_some_iff, ← Kp.upd2, ← OKp.next, ← MKp.some, ← Kp.getD, ← Kp.foldl, ← Kp.foldl1, ← Kp.foldl2, ← Kp.foldl3, ← writeBytes_wf, ← wf_filter, wf_nil, ← State.bump_kp, ← State.disarm_kp, ← State.wrapAdd_kp, ← modJob_kp, ← modMld_kp, ← unrecover_kp]

theorem replayAll_kp (z0 : Nat) (z1 : State) (z2 : Nat) (z3 : Nat) (z4 : Nat)
    (h0 : Kp kb z1) : Kp kb (replayAll z0 z1 z2 z3 z4) := by
  fun_induction replayAll z0 z1 z2 z3 z4 <;> grind (splits := 14) (gen := 60) (ematch := 60) [Option.map_eq_some_iff, Option.bind_eq_some_iff, ← Kp.upd2, ← OKp.next, ← MKp.some, ← Kp.getD, ← Kp.foldl, ← Kp.foldl1, ← Kp.foldl2, ← Kp.foldl3, ← writeBytes_wf, ← wf_filter, wf_nil, ← makeMarks_kp, ← runReplay_kp]

theorem execAccOverflowMark_kp (c : Core) (s : State)
    (h0 : Kp kb s) : OKp kb (execAccOverflowMark c s) := by
  unfold execAccOverflowMark; grind (splits := 14) (gen := 60) (ematch := 60) [Option.map_eq_some_iff, Option.bind_eq_some_iff, ← Kp.upd2, ← OKp.next, ← MKp.some, ← Kp.getD, ← Kp.foldl, ← Kp.foldl1, ← Kp.foldl2, ← Kp.foldl3, ← writeBytes_wf, ← wf_filter, wf_nil, ← State.upTo_kp, ← makeMarks_kp, ← replayAll_kp]

theorem tapStream_kp (s : State) (c : Nat) (j : MJob) (r : Nat) (k : Nat) (x : MSet) (ts : List MTile) (startCk : Nat) (endCk : Nat)
    (h0 : Kp kb s) : Kp kb (tapStream s c j r k x ts startCk endCk) := by
  unfold tapStream; grind (splits := 14) (gen := 60) (ematch := 60) [Option.map_eq_some_iff, Option.bind_eq_some_iff, ← Kp.upd2, ← OKp.next, ← MKp.some, ← Kp.getD, ← Kp.foldl, ← Kp.foldl1, ← Kp.foldl2, ← Kp.foldl3, ← writeBytes_wf, ← wf_filter, wf_nil, ← State.modCore_kp]

theorem countStalls_kp (s : State) (c : Nat) (j : MJob) (x : MSet) (floor : Nat)
    (h0 : Kp kb s) : Kp kb (countStalls s c j x floor) := by
  unfold countStalls; grind (splits := 14) (gen := 60) (ematch := 60) [Option.map_eq_some_iff, Option.bind_eq_some_iff, ← Kp.upd2, ← OKp.next, ← MKp.some, ← Kp.getD, ← Kp.foldl, ← Kp.foldl1, ← Kp.foldl2, ← Kp.foldl3, ← writeBytes_wf, ← wf_filter, wf_nil, ← State.wrapAdd_kp]

theorem startStream_kp (c : Core) (s : State) (j : MJob) (x : MSet) (h : Nat) (floor : Nat)
    (h0 : Kp kb s) : Kp kb (startStream c s j x h floor) := by
  unfold startStream; grind (splits := 14) (gen := 60) (ematch := 60) [Option.map_eq_some_iff, Option.bind_eq_some_iff, ← Kp.upd2, ← OKp.next, ← MKp.some, ← Kp.getD, ← Kp.foldl, ← Kp.foldl1, ← Kp.foldl2, ← Kp.foldl3, ← writeBytes_wf, ← wf_filter, wf_nil, ← State.disarm_kp, ← State.setFld_kp, ← State.wrapAdd_kp, ← countStalls_kp, ← grantSlots_kp, ← modJob_kp, ← modMld_kp, ← setHalf_kp, ← settleReplay_kp, ← strobe_kp, ← tapStream_kp]

theorem execMldStreamStart_kp (c : Core) (s : State)
    (h0 : Kp kb s) : OKp kb (execMldStreamStart c s) := by
  unfold execMldStreamStart; grind (splits := 14) (gen := 60) (ematch := 60) [Option.map_eq_some_iff, Option.bind_eq_some_iff, ← Kp.upd2, ← OKp.next, ← MKp.some, ← Kp.getD, ← Kp.foldl, ← Kp.foldl1, ← Kp.foldl2, ← Kp.foldl3, ← writeBytes_wf, ← wf_filter, wf_nil, ← State.upTo_kp, ← startStream_kp]

theorem execMldStreamEnd_kp (c : Core) (s : State)
    (h0 : Kp kb s) : OKp kb (execMldStreamEnd c s) := by
  unfold execMldStreamEnd; grind (splits := 14) (gen := 60) (ematch := 60) [Option.map_eq_some_iff, Option.bind_eq_some_iff, ← Kp.upd2, ← OKp.next, ← MKp.some, ← Kp.getD, ← Kp.foldl, ← Kp.foldl1, ← Kp.foldl2, ← Kp.foldl3, ← writeBytes_wf, ← wf_filter, wf_nil, ← State.upTo_kp, ← abandonJob_kp, ← consumeTiles_kp, ← makeMarks_kp, ← modJob_kp, ← modMld_kp, ← replayAll_kp, ← settleReplay_kp]

theorem writeShifts_kp (s : State) (c : Nat) (h : Nat) (ts : List MTile)
    (h0 : Kp kb s) : Kp kb (writeShifts s c h ts) := by
  unfold writeShifts; grind (splits := 14) (gen := 60) (ematch := 60) [Option.map_eq_some_iff, Option.bind_eq_some_iff, ← Kp.upd2, ← OKp.next, ← MKp.some, ← Kp.getD, ← Kp.foldl, ← Kp.foldl1, ← Kp.foldl2, ← Kp.foldl3, ← writeBytes_wf, ← wf_filter, wf_nil, ← State.setReg_kp]

theorem holdHalf_kp (s : State) (c : Nat) (h : Nat)
    (h0 : Kp kb s) : Kp kb (holdHalf s c h) := by
  unfold holdHalf; grind (splits := 14) (gen := 60) (ematch := 60) [Option.map_eq_some_iff, Option.bind_eq_some_iff, ← Kp.upd2, ← OKp.next, ← MKp.some, ← Kp.getD, ← Kp.foldl, ← Kp.foldl1, ← Kp.foldl2, ← Kp.foldl3, ← writeBytes_wf, ← wf_filter, wf_nil, ← State.setFld_kp, ← setHalf_kp]

theorem execMldRoundComplete_kp (c : Core) (s : State)
    (h0 : Kp kb s) : OKp kb (execMldRoundComplete c s) := by
  unfold execMldRoundComplete; grind (splits := 14) (gen := 60) (ematch := 60) [Option.map_eq_some_iff, Option.bind_eq_some_iff, ← Kp.upd2, ← OKp.next, ← MKp.some, ← Kp.getD, ← Kp.foldl, ← Kp.foldl1, ← Kp.foldl2, ← Kp.foldl3, ← writeBytes_wf, ← wf_filter, wf_nil, ← State.setFld_kp, ← State.upTo_kp, ← consumeTiles_kp, ← holdHalf_kp, ← modJob_kp, ← modMld_kp, ← mouldTryFinish_kp, ← setHalf_kp, ← settleReplay_kp, ← writeShifts_kp]

theorem execMldDrainStart_kp (c : Core) (s : State)
    (h0 : Kp kb s) : OKp kb (execMldDrainStart c s) := by
  unfold execMldDrainStart; grind (splits := 14) (gen := 60) (ematch := 60) [Option.map_eq_some_iff, Option.bind_eq_some_iff, ← Kp.upd2, ← OKp.next, ← MKp.some, ← Kp.getD, ← Kp.foldl, ← Kp.foldl1, ← Kp.foldl2, ← Kp.foldl3, ← writeBytes_wf, ← wf_filter, wf_nil, ← State.disarm_kp, ← State.upTo_kp, ← modJob_kp, ← modMld_kp, ← raiseFor_kp]

theorem writeRound_kp (s : State) (c : Nat) (j : MJob) (ts : List MTile)
    (h0 : Kp kb s) : Kp kb (writeRound s c j ts) := by
  unfold writeRound; grind (splits := 14) (gen := 60) (ematch := 60) [Option.map_eq_some_iff, Option.bind_eq_some_iff, ← Kp.upd2, ← OKp.next, ← MKp.some, ← Kp.getD, ← Kp.foldl, ← Kp.foldl1, ← Kp.foldl2, ← Kp.foldl3, ← writeBytes_wf, ← wf_filter, wf_nil, ← modJob_kp, ← readChunk_kp, ← storeTile_kp]

theorem execMldDrainEnd_kp (c : Core) (s : State)
    (h0 : Kp kb s) : OKp kb (execMldDrainEnd c s) := by
  unfold execMldDrainEnd; grind (splits := 14) (gen := 60) (ematch := 60) [Option.map_eq_some_iff, Option.bind_eq_some_iff, ← Kp.upd2, ← OKp.next, ← MKp.some, ← Kp.getD, ← Kp.foldl, ← Kp.foldl1, ← Kp.foldl2, ← Kp.foldl3, ← writeBytes_wf, ← wf_filter, wf_nil, ← State.upTo_kp, ← freeHalf_kp, ← modJob_kp, ← modMld_kp, ← mouldTryFinish_kp, ← writeRound_kp]

/-! ## Machine/MatStore.lean -/

theorem modCru_kp (s : State) (c : Nat) (f : CruSt → CruSt)
    (h0 : Kp kb s) : Kp kb (modCru s c f) := by
  unfold modCru; grind (splits := 14) (gen := 60) (ematch := 60) [Option.map_eq_some_iff, Option.bind_eq_some_iff, ← Kp.upd2, ← OKp.next, ← MKp.some, ← Kp.getD, ← Kp.foldl, ← Kp.foldl1, ← Kp.foldl2, ← Kp.foldl3, ← writeBytes_wf, ← wf_filter, wf_nil, ← State.modCore_kp]

theorem modPort_kp (s : State) (c : Nat) (f : PortSt → PortSt)
    (h0 : Kp kb s) : Kp kb (modPort s c f) := by
  unfold modPort; grind (splits := 14) (gen := 60) (ematch := 60) [Option.map_eq_some_iff, Option.bind_eq_some_iff, ← Kp.upd2, ← OKp.next, ← MKp.some, ← Kp.getD, ← Kp.foldl, ← Kp.foldl1, ← Kp.foldl2, ← Kp.foldl3, ← writeBytes_wf, ← wf_filter, wf_nil, ← State.modCore_kp]

theorem setMtab_kp (s : State) (c : Nat) (id : Nat) (v : Nat)
    (h0 : Kp kb s) : Kp kb (setMtab s c id v) := by
  unfold setMtab; grind (splits := 14) (gen := 60) (ematch := 60) [Option.map_eq_some_iff, Option.bind_eq_some_iff, ← Kp.upd2, ← OKp.next, ← MKp.some, ← Kp.getD, ← Kp.foldl, ← Kp.foldl1, ← Kp.foldl2, ← Kp.foldl3, ← writeBytes_wf, ← wf_filter, wf_nil, ← modCru_kp]

theorem setMtabFld_kp (s : State) (c : Nat) (id : Nat) (lo : Nat) (w : Nat) (v : Nat)
    (h0 : Kp kb s) : Kp kb (setMtabFld s c id lo w v) := by
  unfold setMtabFld; grind (splits := 14) (gen := 60) (ematch := 60) [Option.map_eq_some_iff, Option.bind_eq_some_iff, ← Kp.upd2, ← OKp.next, ← MKp.some, ← Kp.getD, ← Kp.foldl, ← Kp.foldl1, ← Kp.foldl2, ← Kp.foldl3, ← writeBytes_wf, ← wf_filter, wf_nil, ← setMtab_kp]

theorem setStoreWord_kp (s : State) (c : Nat) (unit : Nat) (i : Nat) (v : Int)
    (h0 : Kp kb s) : Kp kb (setStoreWord s c unit i v) := by
  unfold setStoreWord; grind (splits := 14) (gen := 60) (ematch := 60) [Option.map_eq_some_iff, Option.bind_eq_some_iff, ← Kp.upd2, ← OKp.next, ← MKp.some, ← Kp.getD, ← Kp.foldl, ← Kp.foldl1, ← Kp.foldl2, ← Kp.foldl3, ← writeBytes_wf, ← wf_filter, wf_nil, ← modCru_kp]

theorem cleanBuf_kp (s : State) (c : Nat) (unit : Nat) (n : Nat)
    (h0 : Kp kb s) : Kp kb (cleanBuf s c unit n) := by
  unfold cleanBuf; grind (splits := 14) (gen := 60) (ematch := 60) [Option.map_eq_some_iff, Option.bind_eq_some_iff, ← Kp.upd2, ← OKp.next, ← MKp.some, ← Kp.getD, ← Kp.foldl, ← Kp.foldl1, ← Kp.foldl2, ← Kp.foldl3, ← writeBytes_wf, ← wf_filter, wf_nil, ← modCru_kp]

theorem writeBuf_kp (s : State) (c : Nat) (unit : Nat) (vs : List Int)
    (h0 : Kp kb s) : Kp kb (writeBuf s c unit vs) := by
  unfold writeBuf; grind (splits := 14) (gen := 60) (ematch := 60) [Option.map_eq_some_iff, Option.bind_eq_some_iff, ← Kp.upd2, ← OKp.next, ← MKp.some, ← Kp.getD, ← Kp.foldl, ← Kp.foldl1, ← Kp.foldl2, ← Kp.foldl3, ← writeBytes_wf, ← wf_filter, wf_nil, ← cleanBuf_kp, ← setStoreWord_kp]

theorem modCtx_kp (s : State) (c : Nat) (hi : Bool) (f : CCtx → CCtx)
    (h0 : Kp kb s) : Kp kb (modCtx s c hi f) := by
  unfold modCtx; grind (splits := 14) (gen := 60) (ematch := 60) [Option.map_eq_some_iff, Option.bind_eq_some_iff, ← Kp.upd2, ← OKp.next, ← MKp.some, ← Kp.getD, ← Kp.foldl, ← Kp.foldl1, ← Kp.foldl2, ← Kp.foldl3, ← writeBytes_wf, ← wf_filter, wf_nil, ← modCru_kp]

theorem modStep_kp (s : State) (c : Nat) (f : CStep → CStep)
    (h0 : Kp kb s) : Kp kb (modStep s c f) := by
  unfold modStep; grind (splits := 14) (gen := 60) (ematch := 60) [Option.map_eq_some_iff, Option.bind_eq_some_iff, ← Kp.upd2, ← OKp.next, ← MKp.some, ← Kp.getD, ← Kp.foldl, ← Kp.foldl1, ← Kp.foldl2, ← Kp.foldl3, ← writeBytes_wf, ← wf_filter, wf_nil, ← modCru_kp]

theorem setStWork_kp (s : State) (c : Nat) (id : Nat) (v : Nat)
    (h0 : Kp kb s) : Kp kb (setStWork s c id v) := by
  unfold setStWork; grind (splits := 14) (gen := 60) (ematch := 60) [Option.map_eq_some_iff, Option.bind_eq_some_iff, ← Kp.upd2, ← OKp.next, ← MKp.some, ← Kp.getD, ← Kp.foldl, ← Kp.foldl1, ← Kp.foldl2, ← Kp.foldl3, ← writeBytes_wf, ← wf_filter, wf_nil, ← setMtabFld_kp]

theorem poison_kp (s : State) (c : Nat) (hi : Bool) (seq : Nat) (id : Nat)
    (h0 : Kp kb s) : Kp kb (poison s c hi seq id) := by
  unfold poison; grind (splits := 14) (gen := 60) (ematch := 60) [Option.map_eq_some_iff, Option.bind_eq_some_iff, ← Kp.upd2, ← OKp.next, ← MKp.some, ← Kp.getD, ← Kp.foldl, ← Kp.foldl1, ← Kp.foldl2, ← Kp.foldl3, ← writeBytes_wf, ← wf_filter, wf_nil, ← State.disarm_kp, ← modCtx_kp, ← raiseFor_kp, ← setMtabFld_kp]

theorem cutGroup_kp (s : State) (c : Nat) (hi : Bool)
    (h0 : Kp kb s) : Kp kb (cutGroup s c hi) := by
  unfold cutGroup; grind (splits := 14) (gen := 60) (ematch := 60) [Option.map_eq_some_iff, Option.bind_eq_some_iff, ← Kp.upd2, ← OKp.next, ← MKp.some, ← Kp.getD, ← Kp.foldl, ← Kp.foldl1, ← Kp.foldl2, ← Kp.foldl3, ← writeBytes_wf, ← wf_filter, wf_nil, ← modCtx_kp, ← modStep_kp]

theorem snapOne_kp (s : State) (c : Nat) (hi : Bool) (k : Nat)
    (h0 : Kp kb s) : Kp kb (snapOne s c hi k) := by
  unfold snapOne; grind (splits := 14) (gen := 60) (ematch := 60) [Option.map_eq_some_iff, Option.bind_eq_some_iff, ← Kp.upd2, ← OKp.next, ← MKp.some, ← Kp.getD, ← Kp.foldl, ← Kp.foldl1, ← Kp.foldl2, ← Kp.foldl3, ← writeBytes_wf, ← wf_filter, wf_nil, ← cutGroup_kp, ← modCtx_kp, ← poison_kp, ← setStWork_kp]

theorem grantAsy_kp (s : State) (c : Nat)
    (h0 : Kp kb s) : Kp kb (grantAsy s c) := by
  unfold grantAsy; grind (splits := 14) (gen := 60) (ematch := 60) [Option.map_eq_some_iff, Option.bind_eq_some_iff, ← Kp.upd2, ← OKp.next, ← MKp.some, ← Kp.getD, ← Kp.foldl, ← Kp.foldl1, ← Kp.foldl2, ← Kp.foldl3, ← writeBytes_wf, ← wf_filter, wf_nil, ← modPort_kp]

theorem cruWaits_kp (s : State) (c : Nat) (b : Nat) (t : Nat)
    (h0 : Kp kb s) : Kp kb (cruWaits s c b t) := by
  unfold cruWaits; grind (splits := 14) (gen := 60) (ematch := 60) [Option.map_eq_some_iff, Option.bind_eq_some_iff, ← Kp.upd2, ← OKp.next, ← MKp.some, ← Kp.getD, ← Kp.foldl, ← Kp.foldl1, ← Kp.foldl2, ← Kp.foldl3, ← writeBytes_wf, ← wf_filter, wf_nil, ← modPort_kp]

theorem beginAcc_kp (s : State) (c : Nat) (hi : Bool) (a : CAcc) (b : Nat) (x : Nat)
    (h0 : Kp kb s) : Kp kb (beginAcc s c hi a b x) := by
  unfold beginAcc; grind (splits := 14) (gen := 60) (ematch := 60) [Option.map_eq_some_iff, Option.bind_eq_some_iff, ← Kp.upd2, ← OKp.next, ← MKp.some, ← Kp.getD, ← Kp.foldl, ← Kp.foldl1, ← Kp.foldl2, ← Kp.foldl3, ← writeBytes_wf, ← wf_filter, wf_nil, ← State.wrapAdd_kp, ← modCtx_kp, ← modPort_kp, ← modStep_kp, ← snapOne_kp]

theorem portTo_kp (z0 : Nat) (z1 : Nat) (z2 : State) (z3 : Nat)
    (h0 : Kp kb z2) : Kp kb (portTo z0 z1 z2 z3) := by
  fun_induction portTo z0 z1 z2 z3 <;> grind (splits := 14) (gen := 60) (ematch := 60) [Option.map_eq_some_iff, Option.bind_eq_some_iff, ← Kp.upd2, ← OKp.next, ← MKp.some, ← Kp.getD, ← Kp.foldl, ← Kp.foldl1, ← Kp.foldl2, ← Kp.foldl3, ← writeBytes_wf, ← wf_filter, wf_nil, ← beginAcc_kp, ← cruWaits_kp, ← grantAsy_kp]

theorem portNow_kp (s : State) (c : Nat)
    (h0 : Kp kb s) : Kp kb (portNow s c) := by
  unfold portNow; grind (splits := 14) (gen := 60) (ematch := 60) [Option.map_eq_some_iff, Option.bind_eq_some_iff, ← Kp.upd2, ← OKp.next, ← MKp.some, ← Kp.getD, ← Kp.foldl, ← Kp.foldl1, ← Kp.foldl2, ← Kp.foldl3, ← writeBytes_wf, ← wf_filter, wf_nil, ← portTo_kp]

theorem execStorePortGrant_kp (c : Core) (s : State)
    (h0 : Kp kb s) : OKp kb (execStorePortGrant c s) := by
  unfold execStorePortGrant; grind (splits := 14) (gen := 60) (ematch := 60) [Option.map_eq_some_iff, Option.bind_eq_some_iff, ← Kp.upd2, ← OKp.next, ← MKp.some, ← Kp.getD, ← Kp.foldl, ← Kp.foldl1, ← Kp.foldl2, ← Kp.foldl3, ← writeBytes_wf, ← wf_filter, wf_nil, ← State.upTo_kp, ← portNow_kp]

end Sys2Proof.Machine
end

