-- ==== Sys2Proof/Laws/Keep04.lean ====
section
/-!
SUPPORT. Laws/Keep04.lean: each function of Machine/Assay, Crucible
that answers a state keeps the queue, the fuses and the canonical form.
-/
namespace Sys2Proof.Machine

open Sys2Proof

variable {kb : State}

/-! ## Machine/Assay.lean -/

theorem modAsy_kp (s : State) (c : Nat) (f : AsySt → AsySt)
    (h0 : Kp kb s) : Kp kb (modAsy s c f) := by
  unfold modAsy; grind (splits := 14) (gen := 60) (ematch := 60) [Option.map_eq_some_iff, Option.bind_eq_some_iff, ← Kp.upd2, ← OKp.next, ← MKp.some, ← Kp.getD, ← Kp.foldl, ← Kp.foldl1, ← Kp.foldl2, ← Kp.foldl3, ← writeBytes_wf, ← wf_filter, wf_nil, ← State.modCore_kp]

theorem setTag_kp (s : State) (c : Nat) (u : Nat) (t : Nat × Bool)
    (h0 : Kp kb s) : Kp kb (setTag s c u t) := by
  unfold setTag; grind (splits := 14) (gen := 60) (ematch := 60) [Option.map_eq_some_iff, Option.bind_eq_some_iff, ← Kp.upd2, ← OKp.next, ← MKp.some, ← Kp.getD, ← Kp.foldl, ← Kp.foldl1, ← Kp.foldl2, ← Kp.foldl3, ← writeBytes_wf, ← wf_filter, wf_nil, ← State.setReg_kp, ← modAsy_kp]

theorem clearUnits_kp (s : State) (c : Nat) (u : Nat) (n : Nat)
    (h0 : Kp kb s) : Kp kb (clearUnits s c u n) := by
  unfold clearUnits; grind (splits := 14) (gen := 60) (ematch := 60) [Option.map_eq_some_iff, Option.bind_eq_some_iff, ← Kp.upd2, ← OKp.next, ← MKp.some, ← Kp.getD, ← Kp.foldl, ← Kp.foldl1, ← Kp.foldl2, ← Kp.foldl3, ← writeBytes_wf, ← wf_filter, wf_nil, ← modAsy_kp, ← setTag_kp]

theorem asyFinish_kp (s : State) (c : Nat) (i : Iss) (status : Nat) (fl : Flags) (word : Nat) (work : Nat) (endCk : Nat)
    (h0 : Kp kb s) : Kp kb (asyFinish s c i status fl word work endCk) := by
  unfold asyFinish; grind (splits := 14) (gen := 60) (ematch := 60) [Option.map_eq_some_iff, Option.bind_eq_some_iff, ← Kp.upd2, ← OKp.next, ← MKp.some, ← Kp.getD, ← Kp.foldl, ← Kp.foldl1, ← Kp.foldl2, ← Kp.foldl3, ← writeBytes_wf, ← wf_filter, wf_nil, ← State.setFld_kp, ← State.wrapAdd_kp, ← dropReq_kp, ← finishDesc_kp]

theorem covRow_kp (s : State) (c : Nat) (u : Nat) (b : Nat) (k0 : Nat) (xs : List Nat)
    (h0 : Kp kb s) : Kp kb (covRow s c u b k0 xs).1 := by
  unfold covRow; grind (splits := 14) (gen := 60) (ematch := 60) [Option.map_eq_some_iff, Option.bind_eq_some_iff, ← Kp.upd2, ← OKp.next, ← MKp.some, ← Kp.getD, ← Kp.foldl, ← Kp.foldl1, ← Kp.foldl2, ← Kp.foldl3, ← writeBytes_wf, ← wf_filter, wf_nil, ← modAsy_kp]

theorem modPair_kp (s : State) (c : Nat) (seq : Nat) (f : Pair → Pair)
    (h0 : Kp kb s) : Kp kb (modPair s c seq f) := by
  unfold modPair; grind (splits := 14) (gen := 60) (ematch := 60) [Option.map_eq_some_iff, Option.bind_eq_some_iff, ← Kp.upd2, ← OKp.next, ← MKp.some, ← Kp.getD, ← Kp.foldl, ← Kp.foldl1, ← Kp.foldl2, ← Kp.foldl3, ← writeBytes_wf, ← wf_filter, wf_nil, ← modAsy_kp]

theorem covTake_kp (c : Nat) (seq : Nat) (t : Nat) (i : Iss) (z0 : Nat) (z1 : State)
    (h0 : Kp kb z1) : Kp kb (covTake c seq t i z0 z1) := by
  fun_induction covTake c seq t i z0 z1 <;> grind (splits := 14) (gen := 60) (ematch := 60) [Option.map_eq_some_iff, Option.bind_eq_some_iff, ← Kp.upd2, ← OKp.next, ← MKp.some, ← Kp.getD, ← Kp.foldl, ← Kp.foldl1, ← Kp.foldl2, ← Kp.foldl3, ← writeBytes_wf, ← wf_filter, wf_nil, ← State.setReg_kp, ← covRow_kp, ← modPair_kp, ← poison_kp, ← setTag_kp]

theorem covProgress_kp (s : State) (c : Nat)
    (h0 : Kp kb s) : Kp kb (covProgress s c) := by
  unfold covProgress; grind (splits := 14) (gen := 60) (ematch := 60) [Option.map_eq_some_iff, Option.bind_eq_some_iff, ← Kp.upd2, ← OKp.next, ← MKp.some, ← Kp.getD, ← Kp.foldl, ← Kp.foldl1, ← Kp.foldl2, ← Kp.foldl3, ← writeBytes_wf, ← wf_filter, wf_nil, ← covTake_kp]

theorem covDrop_kp (s : State) (c : Nat) (p : Pair)
    (h0 : Kp kb s) : Kp kb (covDrop s c p) := by
  unfold covDrop; grind (splits := 14) (gen := 60) (ematch := 60) [Option.map_eq_some_iff, Option.bind_eq_some_iff, ← Kp.upd2, ← OKp.next, ← MKp.some, ← Kp.getD, ← Kp.foldl, ← Kp.foldl1, ← Kp.foldl2, ← Kp.foldl3, ← writeBytes_wf, ← wf_filter, wf_nil, ← State.setReg_kp, ← modAsy_kp]

theorem execCov_kp (c : Core) (s : State)
    (h0 : Kp kb s) : OKp kb (execCov c s) := by
  unfold execCov; grind (splits := 14) (gen := 60) (ematch := 60) [Option.map_eq_some_iff, Option.bind_eq_some_iff, ← Kp.upd2, ← OKp.next, ← MKp.some, ← Kp.getD, ← Kp.foldl, ← Kp.foldl1, ← Kp.foldl2, ← Kp.foldl3, ← writeBytes_wf, ← wf_filter, wf_nil, ← State.disarm_kp, ← State.upTo_kp, ← asyFinish_kp, ← covDrop_kp, ← covProgress_kp, ← covTake_kp, ← raiseFor_kp, ← setTag_kp]

theorem writeImage_kp (s : State) (c : Nat) (seq : Nat) (r : Region) (t0 : Nat) (hdr : List Nat → TileHdr) (es : List Nat)
    (h0 : Kp kb s) : Kp kb (writeImage s c seq r t0 hdr es) := by
  unfold writeImage; grind (splits := 14) (gen := 60) (ematch := 60) [Option.map_eq_some_iff, Option.bind_eq_some_iff, ← Kp.upd2, ← OKp.next, ← MKp.some, ← Kp.getD, ← Kp.foldl, ← Kp.foldl1, ← Kp.foldl2, ← Kp.foldl3, ← writeBytes_wf, ← wf_filter, wf_nil, ← storeTile_kp]

theorem execAsyExport_kp (c : Core) (s : State)
    (h0 : Kp kb s) : OKp kb (execAsyExport c s) := by
  unfold execAsyExport; grind (splits := 14) (gen := 60) (ematch := 60) [Option.map_eq_some_iff, Option.bind_eq_some_iff, ← Kp.upd2, ← OKp.next, ← MKp.some, ← Kp.getD, ← Kp.foldl, ← Kp.foldl1, ← Kp.foldl2, ← Kp.foldl3, ← writeBytes_wf, ← wf_filter, wf_nil, ← asyFinish_kp, ← clearUnits_kp, ← writeImage_kp]

theorem blendBlock_kp (s : State) (c : Nat) (e : Nat) (block : List Nat) (n : Nat) (beta : Int) (seed : Bool)
    (h0 : Kp kb s) : Kp kb (blendBlock s c e block n beta seed).2.2 := by
  unfold blendBlock; grind (splits := 14) (gen := 60) (ematch := 60) [Option.map_eq_some_iff, Option.bind_eq_some_iff, ← Kp.upd2, ← OKp.next, ← MKp.some, ← Kp.getD, ← Kp.foldl, ← Kp.foldl1, ← Kp.foldl2, ← Kp.foldl3, ← writeBytes_wf, ← wf_filter, wf_nil, ← setStoreWord_kp]

theorem blendEnd_kp (s : State) (c : Nat) (i : Iss) (b : BlendSt)
    (h0 : Kp kb s) : Kp kb (blendEnd s c i b) := by
  unfold blendEnd; grind (splits := 14) (gen := 60) (ematch := 60) [Option.map_eq_some_iff, Option.bind_eq_some_iff, ← Kp.upd2, ← OKp.next, ← MKp.some, ← Kp.getD, ← Kp.foldl, ← Kp.foldl1, ← Kp.foldl2, ← Kp.foldl3, ← writeBytes_wf, ← wf_filter, wf_nil, ← asyFinish_kp, ← modAsy_kp]

theorem blendWith_kp (s : State) (c : Nat) (i : Iss) (st : BlendSt) (w e n : Nat) (beta : Int) (block : List Nat) (ok : Bool)
    (h0 : Kp kb s) : Kp kb (blendWith s c i st w e n beta block ok) := by
  unfold blendWith; extract_lets d unit fromImg cnt poisoned forced s1 upper nf seen reasons s2; refine Kp.ite ?_ ?_
  · exact blendEnd_kp _ _ _ _ (raiseFor_kp _ _ _ _ _ _ h0)
  · have k1 : Kp kb s1 := State.disarm_kp _ _ _ h0
    have k2 : Kp kb s2 := Kp.ite (raiseFor_kp _ _ _ _ _ _ (State.bump_kp _ _ _ _ _ k1)) k1
    clear_value s2 reasons seen nf upper s1
    grind (splits := 14) (gen := 60) (ematch := 60) [Option.map_eq_some_iff, Option.bind_eq_some_iff, ← Kp.upd2, ← OKp.next, ← MKp.some, ← Kp.getD, ← Kp.foldl, ← Kp.foldl1, ← Kp.foldl2, ← Kp.foldl3, ← writeBytes_wf, ← wf_filter, wf_nil, ← State.bump_kp, ← State.disarm_kp, ← blendBlock_kp, ← blendEnd_kp, ← clearUnits_kp, ← modAsy_kp, ← modPort_kp, ← raiseFor_kp]

theorem blendStep_kp (s : State) (c : Nat) (i : Iss) (st : BlendSt)
    (h0 : Kp kb s) : Kp kb (blendStep s c i st) := by
  unfold blendStep; dsimp only; (repeat' split) <;> (try clear * - h0) <;> grind (splits := 14) (gen := 60) (ematch := 60) [Option.map_eq_some_iff, Option.bind_eq_some_iff, ← Kp.upd2, ← OKp.next, ← MKp.some, ← Kp.getD, ← Kp.foldl, ← Kp.foldl1, ← Kp.foldl2, ← Kp.foldl3, ← writeBytes_wf, ← wf_filter, wf_nil, ← blendEnd_kp, ← blendWith_kp, ← readRegion_kp]

theorem execBlend_kp (c : Core) (s : State)
    (h0 : Kp kb s) : OKp kb (execBlend c s) := by
  unfold execBlend; grind (splits := 14) (gen := 60) (ematch := 60) [Option.map_eq_some_iff, Option.bind_eq_some_iff, ← Kp.upd2, ← OKp.next, ← MKp.some, ← Kp.getD, ← Kp.foldl, ← Kp.foldl1, ← Kp.foldl2, ← Kp.foldl3, ← writeBytes_wf, ← wf_filter, wf_nil, ← blendStep_kp, ← modPort_kp, ← portNow_kp]

theorem execSqnorm_kp (c : Core) (s : State)
    (h0 : Kp kb s) : OKp kb (execSqnorm c s) := by
  unfold execSqnorm; grind (splits := 14) (gen := 60) (ematch := 60) [Option.map_eq_some_iff, Option.bind_eq_some_iff, ← Kp.upd2, ← OKp.next, ← MKp.some, ← Kp.getD, ← Kp.foldl, ← Kp.foldl1, ← Kp.foldl2, ← Kp.foldl3, ← writeBytes_wf, ← wf_filter, wf_nil, ← State.setReg_kp, ← asyFinish_kp, ← storeRegion_kp]

theorem execNoise_kp (c : Core) (s : State)
    (h0 : Kp kb s) : OKp kb (execNoise c s) := by
  unfold execNoise; grind (splits := 14) (gen := 60) (ematch := 60) [Option.map_eq_some_iff, Option.bind_eq_some_iff, ← Kp.upd2, ← OKp.next, ← MKp.some, ← Kp.getD, ← Kp.foldl, ← Kp.foldl1, ← Kp.foldl2, ← Kp.foldl3, ← writeBytes_wf, ← wf_filter, wf_nil, ← State.setFld_kp, ← State.setReg_kp, ← asyFinish_kp, ← raiseFor_kp, ← readRegion_kp]

theorem execAsyNsUpdatesWrite_kp (c : Core) (v : BitVec 32) (s : State)
    (h0 : Kp kb s) : OKp kb (execAsyNsUpdatesWrite c v s) := by
  unfold execAsyNsUpdatesWrite; grind (splits := 14) (gen := 60) (ematch := 60) [Option.map_eq_some_iff, Option.bind_eq_some_iff, ← Kp.upd2, ← OKp.next, ← MKp.some, ← Kp.getD, ← Kp.foldl, ← Kp.foldl1, ← Kp.foldl2, ← Kp.foldl3, ← writeBytes_wf, ← wf_filter, wf_nil, ← State.setReg_kp]

/-! ## Machine/Crucible.lean -/

theorem showCru_kp (s : State) (c : Nat)
    (h0 : Kp kb s) : Kp kb (showCru s c) := by
  unfold showCru; grind (splits := 14) (gen := 60) (ematch := 60) [Option.map_eq_some_iff, Option.bind_eq_some_iff, ← Kp.upd2, ← OKp.next, ← MKp.some, ← Kp.getD, ← Kp.foldl, ← Kp.foldl1, ← Kp.foldl2, ← Kp.foldl3, ← writeBytes_wf, ← wf_filter, wf_nil, ← State.setFld_kp]

theorem cruRelease_kp (s : State) (c : Nat) (i : Iss)
    (h0 : Kp kb s) : Kp kb (cruRelease s c i) := by
  unfold cruRelease; grind (splits := 14) (gen := 60) (ematch := 60) [Option.map_eq_some_iff, Option.bind_eq_some_iff, ← Kp.upd2, ← OKp.next, ← MKp.some, ← Kp.getD, ← Kp.foldl, ← Kp.foldl1, ← Kp.foldl2, ← Kp.foldl3, ← writeBytes_wf, ← wf_filter, wf_nil, ← State.setReg_kp, ← modCru_kp]

theorem cruListed_kp (s : State) (c : Nat) (i : Iss)
    (h0 : Kp kb s) : Kp kb (cruListed s c i) := by
  unfold cruListed; grind (splits := 14) (gen := 60) (ematch := 60) [Option.map_eq_some_iff, Option.bind_eq_some_iff, ← Kp.upd2, ← OKp.next, ← MKp.some, ← Kp.getD, ← Kp.foldl, ← Kp.foldl1, ← Kp.foldl2, ← Kp.foldl3, ← writeBytes_wf, ← wf_filter, wf_nil, ← setStWork_kp]

theorem noteSkip_kp (s : State) (c : Nat) (hi : Bool) (i : Iss) (k : Nat) (res : Nat) (b : Nat)
    (h0 : Kp kb s) : Kp kb (noteSkip s c hi i k res b) := by
  unfold noteSkip; grind (splits := 14) (gen := 60) (ematch := 60) [Option.map_eq_some_iff, Option.bind_eq_some_iff, ← Kp.upd2, ← OKp.next, ← MKp.some, ← Kp.getD, ← Kp.foldl, ← Kp.foldl1, ← Kp.foldl2, ← Kp.foldl3, ← writeBytes_wf, ← wf_filter, wf_nil, ← modCtx_kp, ← raiseFor_kp, ← setStWork_kp]

theorem loadGroup_kp (s : State) (c : Nat) (hi : Bool) (x : CCtx)
    (h0 : Kp kb s) : Kp kb (loadGroup s c hi x) := by
  unfold loadGroup; grind (splits := 14) (gen := 60) (ematch := 60) [Option.map_eq_some_iff, Option.bind_eq_some_iff, ← Kp.upd2, ← OKp.next, ← MKp.some, ← Kp.getD, ← Kp.foldl, ← Kp.foldl1, ← Kp.foldl2, ← Kp.foldl3, ← writeBytes_wf, ← wf_filter, wf_nil, ← modCtx_kp, ← noteSkip_kp]

theorem ensureQuanta_kp (s : State) (c : Nat) (hi : Bool)
    (h0 : Kp kb s) : Kp kb (ensureQuanta s c hi) := by
  unfold ensureQuanta; grind (splits := 14) (gen := 60) (ematch := 60) [Option.map_eq_some_iff, Option.bind_eq_some_iff, ← Kp.upd2, ← OKp.next, ← MKp.some, ← Kp.getD, ← Kp.foldl, ← Kp.foldl1, ← Kp.foldl2, ← Kp.foldl3, ← writeBytes_wf, ← wf_filter, wf_nil, ← loadGroup_kp, ← modCtx_kp]

theorem startStep_kp (s : State) (c : Nat) (hi : Bool) (qs : List (QKind × Nat))
    (h0 : Kp kb s) : Kp kb (startStep s c hi qs) := by
  unfold startStep; grind (splits := 14) (gen := 60) (ematch := 60) [Option.map_eq_some_iff, Option.bind_eq_some_iff, ← Kp.upd2, ← OKp.next, ← MKp.some, ← Kp.getD, ← Kp.foldl, ← Kp.foldl1, ← Kp.foldl2, ← Kp.foldl3, ← writeBytes_wf, ← wf_filter, wf_nil, ← modCru_kp, ← portNow_kp, ← showCru_kp]

theorem beginWait_kp (s : State) (c : Nat)
    (h0 : Kp kb s) : Kp kb (beginWait s c) := by
  unfold beginWait; grind (splits := 14) (gen := 60) (ematch := 60) [Option.map_eq_some_iff, Option.bind_eq_some_iff, ← Kp.upd2, ← OKp.next, ← MKp.some, ← Kp.getD, ← Kp.foldl, ← Kp.foldl1, ← Kp.foldl2, ← Kp.foldl3, ← writeBytes_wf, ← wf_filter, wf_nil, ← modCru_kp]

theorem endWait_kp (s : State) (c : Nat) (t : Nat)
    (h0 : Kp kb s) : Kp kb (endWait s c t) := by
  unfold endWait; grind (splits := 14) (gen := 60) (ematch := 60) [Option.map_eq_some_iff, Option.bind_eq_some_iff, ← Kp.upd2, ← OKp.next, ← MKp.some, ← Kp.getD, ← Kp.foldl, ← Kp.foldl1, ← Kp.foldl2, ← Kp.foldl3, ← writeBytes_wf, ← wf_filter, wf_nil, ← State.wrapAdd_kp, ← modCru_kp]

theorem execCruStepStart_kp (c : Core) (s : State)
    (h0 : Kp kb s) : OKp kb (execCruStepStart c s) := by
  unfold execCruStepStart; grind (splits := 14) (gen := 60) (ematch := 60) [Option.map_eq_some_iff, Option.bind_eq_some_iff, ← Kp.upd2, ← OKp.next, ← MKp.some, ← Kp.getD, ← Kp.foldl, ← Kp.foldl1, ← Kp.foldl2, ← Kp.foldl3, ← writeBytes_wf, ← wf_filter, wf_nil, ← beginWait_kp, ← endWait_kp, ← ensureQuanta_kp, ← showCru_kp, ← startStep_kp]

theorem execCruResume_kp (c : Core) (s : State)
    (h0 : Kp kb s) : OKp kb (execCruResume c s) := by
  unfold execCruResume; grind (splits := 14) (gen := 60) (ematch := 60) [Option.map_eq_some_iff, Option.bind_eq_some_iff, ← Kp.upd2, ← OKp.next, ← MKp.some, ← Kp.getD, ← Kp.foldl, ← Kp.foldl1, ← Kp.foldl2, ← Kp.foldl3, ← writeBytes_wf, ← wf_filter, wf_nil, ← State.upTo_kp, ← endWait_kp, ← showCru_kp]

theorem catchReads_kp (s : State) (c : Nat)
    (h0 : Kp kb s) : Kp kb (catchReads s c) := by
  unfold catchReads; grind (splits := 14) (gen := 60) (ematch := 60) [Option.map_eq_some_iff, Option.bind_eq_some_iff, ← Kp.upd2, ← OKp.next, ← MKp.some, ← Kp.getD, ← Kp.foldl, ← Kp.foldl1, ← Kp.foldl2, ← Kp.foldl3, ← writeBytes_wf, ← wf_filter, wf_nil, ← State.upTo_kp, ← portNow_kp]

theorem runSolve_kp (s : State) (c : Nat) (op : Nat)
    (h0 : Kp kb s) : Kp kb (runSolve s c op) := by
  unfold runSolve; grind (splits := 14) (gen := 60) (ematch := 60) [Option.map_eq_some_iff, Option.bind_eq_some_iff, ← Kp.upd2, ← OKp.next, ← MKp.some, ← Kp.getD, ← Kp.foldl, ← Kp.foldl1, ← Kp.foldl2, ← Kp.foldl3, ← writeBytes_wf, ← wf_filter, wf_nil, ← State.bump_kp, ← State.disarm_kp, ← catchReads_kp, ← modCtx_kp, ← modStep_kp]

theorem execChol_kp (c : Core) (s : State)
    (h0 : Kp kb s) : OKp kb (execChol c s) := by
  unfold execChol; grind (splits := 14) (gen := 60) (ematch := 60) [Option.map_eq_some_iff, Option.bind_eq_some_iff, ← Kp.upd2, ← OKp.next, ← MKp.some, ← Kp.getD, ← Kp.foldl, ← Kp.foldl1, ← Kp.foldl2, ← Kp.foldl3, ← writeBytes_wf, ← wf_filter, wf_nil, ← runSolve_kp]

theorem execLdl_kp (c : Core) (s : State)
    (h0 : Kp kb s) : OKp kb (execLdl c s) := by
  unfold execLdl; grind (splits := 14) (gen := 60) (ematch := 60) [Option.map_eq_some_iff, Option.bind_eq_some_iff, ← Kp.upd2, ← OKp.next, ← MKp.some, ← Kp.getD, ← Kp.foldl, ← Kp.foldl1, ← Kp.foldl2, ← Kp.foldl3, ← writeBytes_wf, ← wf_filter, wf_nil, ← runSolve_kp]

theorem execInv_kp (c : Core) (s : State)
    (h0 : Kp kb s) : OKp kb (execInv c s) := by
  unfold execInv; grind (splits := 14) (gen := 60) (ematch := 60) [Option.map_eq_some_iff, Option.bind_eq_some_iff, ← Kp.upd2, ← OKp.next, ← MKp.some, ← Kp.getD, ← Kp.foldl, ← Kp.foldl1, ← Kp.foldl2, ← Kp.foldl3, ← writeBytes_wf, ← wf_filter, wf_nil, ← runSolve_kp]

theorem execIroot_kp (c : Core) (s : State)
    (h0 : Kp kb s) : OKp kb (execIroot c s) := by
  unfold execIroot; grind (splits := 14) (gen := 60) (ematch := 60) [Option.map_eq_some_iff, Option.bind_eq_some_iff, ← Kp.upd2, ← OKp.next, ← MKp.some, ← Kp.getD, ← Kp.foldl, ← Kp.foldl1, ← Kp.foldl2, ← Kp.foldl3, ← writeBytes_wf, ← wf_filter, wf_nil, ← runSolve_kp]

theorem execRoot_kp (c : Core) (s : State)
    (h0 : Kp kb s) : OKp kb (execRoot c s) := by
  unfold execRoot; grind (splits := 14) (gen := 60) (ematch := 60) [Option.map_eq_some_iff, Option.bind_eq_some_iff, ← Kp.upd2, ← OKp.next, ← MKp.some, ← Kp.getD, ← Kp.foldl, ← Kp.foldl1, ← Kp.foldl2, ← Kp.foldl3, ← writeBytes_wf, ← wf_filter, wf_nil, ← runSolve_kp]

theorem execOrth_kp (c : Core) (s : State)
    (h0 : Kp kb s) : OKp kb (execOrth c s) := by
  unfold execOrth; grind (splits := 14) (gen := 60) (ematch := 60) [Option.map_eq_some_iff, Option.bind_eq_some_iff, ← Kp.upd2, ← OKp.next, ← MKp.some, ← Kp.getD, ← Kp.foldl, ← Kp.foldl1, ← Kp.foldl2, ← Kp.foldl3, ← writeBytes_wf, ← wf_filter, wf_nil, ← runSolve_kp]

theorem patchTile_kp (s : State) (c : Nat) (seq : Nat) (r : Region) (t : Nat) (off : Nat) (bs : List Byte) (hdr : TileHdr → TileHdr)
    (h0 : Kp kb s) : Kp kb (patchTile s c seq r t off bs hdr) := by
  unfold patchTile; grind (splits := 14) (gen := 60) (ematch := 60) [Option.map_eq_some_iff, Option.bind_eq_some_iff, ← Kp.upd2, ← OKp.next, ← MKp.some, ← Kp.getD, ← Kp.foldl, ← Kp.foldl1, ← Kp.foldl2, ← Kp.foldl3, ← writeBytes_wf, ← wf_filter, wf_nil, ← State.wrapAdd_kp, ← ingWrite_kp, ← storeAt_kp, ← storeTile_kp]

theorem writeValues_kp (s : State) (c : Nat) (seq : Nat) (r : Region) (t0 : Nat) (fmt : Nat) (frac : Nat) (rowLen : Nat) (epoch : Nat) (vs : List Val)
    (h0 : Kp kb s) : Kp kb (writeValues s c seq r t0 fmt frac rowLen epoch vs).1 := by
  unfold writeValues; grind (splits := 14) (gen := 60) (ematch := 60) [Option.map_eq_some_iff, Option.bind_eq_some_iff, ← Kp.upd2, ← OKp.next, ← MKp.some, ← Kp.getD, ← Kp.foldl, ← Kp.foldl1, ← Kp.foldl2, ← Kp.foldl3, ← writeBytes_wf, ← wf_filter, wf_nil, ← storeTile_kp]

theorem cruEndWith_kp (s : State) (c : Nat) (hi : Bool) (st : Nat)
    (h0 : Kp kb s) : Kp kb (cruEndWith s c hi st) := by
  unfold cruEndWith; grind (splits := 14) (gen := 60) (ematch := 60) [Option.map_eq_some_iff, Option.bind_eq_some_iff, ← Kp.upd2, ← OKp.next, ← MKp.some, ← Kp.getD, ← Kp.foldl, ← Kp.foldl1, ← Kp.foldl2, ← Kp.foldl3, ← writeBytes_wf, ← wf_filter, wf_nil, ← modCtx_kp]

theorem cruImageBad_kp (s : State) (c : Nat) (hi : Bool) (seq : Nat)
    (h0 : Kp kb s) : Kp kb (cruImageBad s c hi seq) := by
  unfold cruImageBad; grind (splits := 14) (gen := 60) (ematch := 60) [Option.map_eq_some_iff, Option.bind_eq_some_iff, ← Kp.upd2, ← OKp.next, ← MKp.some, ← Kp.getD, ← Kp.foldl, ← Kp.foldl1, ← Kp.foldl2, ← Kp.foldl3, ← writeBytes_wf, ← wf_filter, wf_nil, ← cruEndWith_kp, ← raiseFor_kp]

theorem raiseSat_kp (s : State) (c : Nat) (hi : Bool) (k : Nat)
    (h0 : Kp kb s) : Kp kb (raiseSat s c hi k) := by
  unfold raiseSat; grind (splits := 14) (gen := 60) (ematch := 60) [Option.map_eq_some_iff, Option.bind_eq_some_iff, ← Kp.upd2, ← OKp.next, ← MKp.some, ← Kp.getD, ← Kp.foldl, ← Kp.foldl1, ← Kp.foldl2, ← Kp.foldl3, ← writeBytes_wf, ← wf_filter, wf_nil, ← raiseFor_kp]

theorem countDone_kp (s : State) (c : Nat) (hi : Bool) (k : Nat)
    (h0 : Kp kb s) : Kp kb (countDone s c hi k) := by
  unfold countDone; grind (splits := 14) (gen := 60) (ematch := 60) [Option.map_eq_some_iff, Option.bind_eq_some_iff, ← Kp.upd2, ← OKp.next, ← MKp.some, ← Kp.getD, ← Kp.foldl, ← Kp.foldl1, ← Kp.foldl2, ← Kp.foldl3, ← writeBytes_wf, ← wf_filter, wf_nil, ← State.bump_kp, ← modCtx_kp, ← raiseSat_kp]

theorem writeSolution_kp (s : State) (c : Nat) (i : Iss) (e0 : Nat) (rs : List (Nat × Flags))
    (h0 : Kp kb s) : Kp kb (writeSolution s c i e0 rs) := by
  unfold writeSolution; grind (splits := 14) (gen := 60) (ematch := 60) [Option.map_eq_some_iff, Option.bind_eq_some_iff, ← Kp.upd2, ← OKp.next, ← MKp.some, ← Kp.getD, ← Kp.foldl, ← Kp.foldl1, ← Kp.foldl2, ← Kp.foldl3, ← writeBytes_wf, ← wf_filter, wf_nil, ← patchTile_kp]

theorem trsmProb_kp (s : State) (c : Nat) (hi : Bool) (i : Iss) (p : CProb)
    (h0 : Kp kb s) : Kp kb (trsmProb s c hi i p) := by
  unfold trsmProb; grind (splits := 14) (gen := 60) (ematch := 60) [Option.map_eq_some_iff, Option.bind_eq_some_iff, ← Kp.upd2, ← OKp.next, ← MKp.some, ← Kp.getD, ← Kp.foldl, ← Kp.foldl1, ← Kp.foldl2, ← Kp.foldl3, ← writeBytes_wf, ← wf_filter, wf_nil, ← countDone_kp, ← cruImageBad_kp, ← modCtx_kp, ← writeSolution_kp]

theorem execTrsm_kp (c : Core) (s : State)
    (h0 : Kp kb s) : OKp kb (execTrsm c s) := by
  unfold execTrsm; grind (splits := 14) (gen := 60) (ematch := 60) [Option.map_eq_some_iff, Option.bind_eq_some_iff, ← Kp.upd2, ← OKp.next, ← MKp.some, ← Kp.getD, ← Kp.foldl, ← Kp.foldl1, ← Kp.foldl2, ← Kp.foldl3, ← writeBytes_wf, ← wf_filter, wf_nil, ← catchReads_kp, ← modStep_kp, ← trsmProb_kp]

theorem countSkip_kp (s : State) (c : Nat) (hi : Bool)
    (h0 : Kp kb s) : Kp kb (countSkip s c hi) := by
  unfold countSkip; grind (splits := 14) (gen := 60) (ematch := 60) [Option.map_eq_some_iff, Option.bind_eq_some_iff, ← Kp.upd2, ← OKp.next, ← MKp.some, ← Kp.getD, ← Kp.foldl, ← Kp.foldl1, ← Kp.foldl2, ← Kp.foldl3, ← writeBytes_wf, ← wf_filter, wf_nil, ← modCtx_kp]

theorem storeBad_kp (s : State) (c : Nat) (hi : Bool) (i : Iss) (id : Nat)
    (h0 : Kp kb s) : Kp kb (storeBad s c hi i id) := by
  unfold storeBad; grind (splits := 14) (gen := 60) (ematch := 60) [Option.map_eq_some_iff, Option.bind_eq_some_iff, ← Kp.upd2, ← OKp.next, ← MKp.some, ← Kp.getD, ← Kp.foldl, ← Kp.foldl1, ← Kp.foldl2, ← Kp.foldl3, ← writeBytes_wf, ← wf_filter, wf_nil, ← countSkip_kp, ← poison_kp]

theorem storeChanged_kp (s : State) (c : Nat) (e : Nat) (old : List Int) (new : List Int)
    (h0 : Kp kb s) : Kp kb (storeChanged s c e old new) := by
  unfold storeChanged; grind (splits := 14) (gen := 60) (ematch := 60) [Option.map_eq_some_iff, Option.bind_eq_some_iff, ← Kp.upd2, ← OKp.next, ← MKp.some, ← Kp.getD, ← Kp.foldl, ← Kp.foldl1, ← Kp.foldl2, ← Kp.foldl3, ← writeBytes_wf, ← wf_filter, wf_nil, ← setStoreWord_kp]

theorem dampOne_kp (s : State) (c : Nat) (hi : Bool) (i : Iss) (id : Nat)
    (h0 : Kp kb s) : Kp kb (dampOne s c hi i id) := by
  unfold dampOne; grind (splits := 14) (gen := 60) (ematch := 60) [Option.map_eq_some_iff, Option.bind_eq_some_iff, ← Kp.upd2, ← OKp.next, ← MKp.some, ← Kp.getD, ← Kp.foldl, ← Kp.foldl1, ← Kp.foldl2, ← Kp.foldl3, ← writeBytes_wf, ← wf_filter, wf_nil, ← countDone_kp, ← setStoreWord_kp]

theorem emaOne_kp (s : State) (c : Nat) (hi : Bool) (i : Iss) (a : Nat) (b : Nat)
    (h0 : Kp kb s) : Kp kb (emaOne s c hi i a b) := by
  unfold emaOne; grind (splits := 14) (gen := 60) (ematch := 60) [Option.map_eq_some_iff, Option.bind_eq_some_iff, ← Kp.upd2, ← OKp.next, ← MKp.some, ← Kp.getD, ← Kp.foldl, ← Kp.foldl1, ← Kp.foldl2, ← Kp.foldl3, ← writeBytes_wf, ← wf_filter, wf_nil, ← countDone_kp, ← storeChanged_kp]

theorem rescaleOne_kp (s : State) (c : Nat) (hi : Bool) (i : Iss) (id : Nat)
    (h0 : Kp kb s) : Kp kb (rescaleOne s c hi i id) := by
  unfold rescaleOne; grind (splits := 14) (gen := 60) (ematch := 60) [Option.map_eq_some_iff, Option.bind_eq_some_iff, ← Kp.upd2, ← OKp.next, ← MKp.some, ← Kp.getD, ← Kp.foldl, ← Kp.foldl1, ← Kp.foldl2, ← Kp.foldl3, ← writeBytes_wf, ← wf_filter, wf_nil, ← countDone_kp, ← setMtabFld_kp, ← writeBuf_kp]

theorem deltaOne_kp (s : State) (c : Nat) (hi : Bool) (i : Iss) (k : Nat)
    (h0 : Kp kb s) : Kp kb (deltaOne s c hi i k) := by
  unfold deltaOne; grind (splits := 14) (gen := 60) (ematch := 60) [Option.map_eq_some_iff, Option.bind_eq_some_iff, ← Kp.upd2, ← OKp.next, ← MKp.some, ← Kp.getD, ← Kp.foldl, ← Kp.foldl1, ← Kp.foldl2, ← Kp.foldl3, ← writeBytes_wf, ← wf_filter, wf_nil, ← countDone_kp, ← countSkip_kp, ← setStoreWord_kp, ← storeBad_kp]

theorem importOne_kp (s : State) (c : Nat) (hi : Bool) (i : Iss) (k : Nat) (id : Nat)
    (h0 : Kp kb s) : Kp kb (importOne s c hi i k id) := by
  unfold importOne; grind (splits := 14) (gen := 60) (ematch := 60) [Option.map_eq_some_iff, Option.bind_eq_some_iff, ← Kp.upd2, ← OKp.next, ← MKp.some, ← Kp.getD, ← Kp.foldl, ← Kp.foldl1, ← Kp.foldl2, ← Kp.foldl3, ← writeBytes_wf, ← wf_filter, wf_nil, ← cleanBuf_kp, ← countDone_kp, ← countSkip_kp, ← cruEndWith_kp, ← cruImageBad_kp, ← modCtx_kp, ← setMtabFld_kp, ← setStoreWord_kp]

theorem exportOne_kp (s : State) (c : Nat) (hi : Bool) (i : Iss) (k : Nat) (id : Nat)
    (h0 : Kp kb s) : Kp kb (exportOne s c hi i k id) := by
  unfold exportOne; grind (splits := 14) (gen := 60) (ematch := 60) [Option.map_eq_some_iff, Option.bind_eq_some_iff, ← Kp.upd2, ← OKp.next, ← MKp.some, ← Kp.getD, ← Kp.foldl, ← Kp.foldl1, ← Kp.foldl2, ← Kp.foldl3, ← writeBytes_wf, ← wf_filter, wf_nil, ← countDone_kp, ← cruEndWith_kp, ← modCtx_kp, ← storeBad_kp, ← writeValues_kp]

theorem defineOne_kp (s : State) (c : Nat) (hi : Bool) (i : Iss) (k : Nat)
    (h0 : Kp kb s) : Kp kb (defineOne s c hi i k) := by
  unfold defineOne; grind (splits := 14) (gen := 60) (ematch := 60) [Option.map_eq_some_iff, Option.bind_eq_some_iff, ← Kp.upd2, ← OKp.next, ← MKp.some, ← Kp.getD, ← Kp.foldl, ← Kp.foldl1, ← Kp.foldl2, ← Kp.foldl3, ← writeBytes_wf, ← wf_filter, wf_nil, ← cleanBuf_kp, ← countDone_kp, ← cruEndWith_kp, ← modCru_kp, ← setMtab_kp]

theorem itemOne_kp (s : State) (c : Nat) (hi : Bool) (i : Iss) (k : Nat)
    (h0 : Kp kb s) : Kp kb (itemOne s c hi i k) := by
  unfold itemOne; grind (splits := 14) (gen := 60) (ematch := 60) [Option.map_eq_some_iff, Option.bind_eq_some_iff, ← Kp.upd2, ← OKp.next, ← MKp.some, ← Kp.getD, ← Kp.foldl, ← Kp.foldl1, ← Kp.foldl2, ← Kp.foldl3, ← writeBytes_wf, ← wf_filter, wf_nil, ← countSkip_kp, ← dampOne_kp, ← defineOne_kp, ← deltaOne_kp, ← emaOne_kp, ← exportOne_kp, ← importOne_kp, ← rescaleOne_kp, ← storeBad_kp]

theorem askTiles_kp (s : State) (c : Nat) (i : Iss) (ts : List Nat)
    (h0 : Kp kb s) : Kp kb (askTiles s c i ts) := by
  unfold askTiles; grind (splits := 14) (gen := 60) (ematch := 60) [Option.map_eq_some_iff, Option.bind_eq_some_iff, ← Kp.upd2, ← OKp.next, ← MKp.some, ← Kp.getD, ← Kp.foldl, ← Kp.foldl1, ← Kp.foldl2, ← Kp.foldl3, ← writeBytes_wf, ← wf_filter, wf_nil, ← modReq_kp]

theorem itemNext_kp (s : State) (c : Nat) (st : CStep) (x : CCtx)
    (h0 : Kp kb s) : Kp kb (itemNext s c st x) := by
  unfold itemNext; grind (splits := 14) (gen := 60) (ematch := 60) [Option.map_eq_some_iff, Option.bind_eq_some_iff, ← Kp.upd2, ← OKp.next, ← MKp.some, ← Kp.getD, ← Kp.foldl, ← Kp.foldl1, ← Kp.foldl2, ← Kp.foldl3, ← writeBytes_wf, ← wf_filter, wf_nil, ← itemOne_kp, ← modCru_kp, ← modPort_kp, ← modStep_kp]

theorem runItems_kp (z0 : Nat) (z1 : State) (z2 : Nat) (z3 : Nat)
    (h0 : Kp kb z1) : Kp kb (runItems z0 z1 z2 z3) := by
  fun_induction runItems z0 z1 z2 z3 <;> grind (splits := 14) (gen := 60) (ematch := 60) [Option.map_eq_some_iff, Option.bind_eq_some_iff, ← Kp.upd2, ← OKp.next, ← MKp.some, ← Kp.getD, ← Kp.foldl, ← Kp.foldl1, ← Kp.foldl2, ← Kp.foldl3, ← writeBytes_wf, ← wf_filter, wf_nil, ← State.upTo_kp, ← askTiles_kp, ← grantSlots_kp, ← itemNext_kp, ← portNow_kp]

theorem runDirect_kp (s : State) (c : Nat) (op : Nat)
    (h0 : Kp kb s) : Kp kb (runDirect s c op) := by
  unfold runDirect; grind (splits := 14) (gen := 60) (ematch := 60) [Option.map_eq_some_iff, Option.bind_eq_some_iff, ← Kp.upd2, ← OKp.next, ← MKp.some, ← Kp.getD, ← Kp.foldl, ← Kp.foldl1, ← Kp.foldl2, ← Kp.foldl3, ← writeBytes_wf, ← wf_filter, wf_nil, ← runItems_kp]

theorem execDamp_kp (c : Core) (s : State)
    (h0 : Kp kb s) : OKp kb (execDamp c s) := by
  unfold execDamp; grind (splits := 14) (gen := 60) (ematch := 60) [Option.map_eq_some_iff, Option.bind_eq_some_iff, ← Kp.upd2, ← OKp.next, ← MKp.some, ← Kp.getD, ← Kp.foldl, ← Kp.foldl1, ← Kp.foldl2, ← Kp.foldl3, ← writeBytes_wf, ← wf_filter, wf_nil, ← runDirect_kp]

theorem execEma_kp (c : Core) (s : State)
    (h0 : Kp kb s) : OKp kb (execEma c s) := by
  unfold execEma; grind (splits := 14) (gen := 60) (ematch := 60) [Option.map_eq_some_iff, Option.bind_eq_some_iff, ← Kp.upd2, ← OKp.next, ← MKp.some, ← Kp.getD, ← Kp.foldl, ← Kp.foldl1, ← Kp.foldl2, ← Kp.foldl3, ← writeBytes_wf, ← wf_filter, wf_nil, ← runDirect_kp]

theorem execDelta_kp (c : Core) (s : State)
    (h0 : Kp kb s) : OKp kb (execDelta c s) := by
  unfold execDelta; grind (splits := 14) (gen := 60) (ematch := 60) [Option.map_eq_some_iff, Option.bind_eq_some_iff, ← Kp.upd2, ← OKp.next, ← MKp.some, ← Kp.getD, ← Kp.foldl, ← Kp.foldl1, ← Kp.foldl2, ← Kp.foldl3, ← writeBytes_wf, ← wf_filter, wf_nil, ← runDirect_kp]

theorem execRescale_kp (c : Core) (s : State)
    (h0 : Kp kb s) : OKp kb (execRescale c s) := by
  unfold execRescale; grind (splits := 14) (gen := 60) (ematch := 60) [Option.map_eq_some_iff, Option.bind_eq_some_iff, ← Kp.upd2, ← OKp.next, ← MKp.some, ← Kp.getD, ← Kp.foldl, ← Kp.foldl1, ← Kp.foldl2, ← Kp.foldl3, ← writeBytes_wf, ← wf_filter, wf_nil, ← runDirect_kp]

theorem execImport_kp (c : Core) (s : State)
    (h0 : Kp kb s) : OKp kb (execImport c s) := by
  unfold execImport; grind (splits := 14) (gen := 60) (ematch := 60) [Option.map_eq_some_iff, Option.bind_eq_some_iff, ← Kp.upd2, ← OKp.next, ← MKp.some, ← Kp.getD, ← Kp.foldl, ← Kp.foldl1, ← Kp.foldl2, ← Kp.foldl3, ← writeBytes_wf, ← wf_filter, wf_nil, ← runDirect_kp]

theorem execCruExport_kp (c : Core) (s : State)
    (h0 : Kp kb s) : OKp kb (execCruExport c s) := by
  unfold execCruExport; grind (splits := 14) (gen := 60) (ematch := 60) [Option.map_eq_some_iff, Option.bind_eq_some_iff, ← Kp.upd2, ← OKp.next, ← MKp.some, ← Kp.getD, ← Kp.foldl, ← Kp.foldl1, ← Kp.foldl2, ← Kp.foldl3, ← writeBytes_wf, ← wf_filter, wf_nil, ← runDirect_kp]

theorem execDefine_kp (c : Core) (s : State)
    (h0 : Kp kb s) : OKp kb (execDefine c s) := by
  unfold execDefine; grind (splits := 14) (gen := 60) (ematch := 60) [Option.map_eq_some_iff, Option.bind_eq_some_iff, ← Kp.upd2, ← OKp.next, ← MKp.some, ← Kp.getD, ← Kp.foldl, ← Kp.foldl1, ← Kp.foldl2, ← Kp.foldl3, ← writeBytes_wf, ← wf_filter, wf_nil, ← runDirect_kp]

theorem publish_kp (s : State) (c : Nat) (id : Nat) (epoch : Nat)
    (h0 : Kp kb s) : Kp kb (publish s c id epoch) := by
  unfold publish; grind (splits := 14) (gen := 60) (ematch := 60) [Option.map_eq_some_iff, Option.bind_eq_some_iff, ← Kp.upd2, ← OKp.next, ← MKp.some, ← Kp.getD, ← Kp.foldl, ← Kp.foldl1, ← Kp.foldl2, ← Kp.foldl3, ← writeBytes_wf, ← wf_filter, wf_nil, ← State.bump_kp, ← setMtab_kp]

theorem writeResult_kp (s : State) (c : Nat) (hi : Bool) (i : Iss) (p : CProb)
    (h0 : Kp kb s) : Kp kb (writeResult s c hi i p) := by
  unfold writeResult; grind (splits := 14) (gen := 60) (ematch := 60) [Option.map_eq_some_iff, Option.bind_eq_some_iff, ← Kp.upd2, ← OKp.next, ← MKp.some, ← Kp.getD, ← Kp.foldl, ← Kp.foldl1, ← Kp.foldl2, ← Kp.foldl3, ← writeBytes_wf, ← wf_filter, wf_nil, ← State.bump_kp, ← State.disarm_kp, ← cleanBuf_kp, ← modCtx_kp, ← publish_kp, ← raiseFor_kp, ← setMtabFld_kp, ← setStWork_kp, ← setStoreWord_kp]

theorem cruFinish_kp (s : State) (c : Nat) (hi : Bool) (t : Nat)
    (h0 : Kp kb s) : Kp kb (cruFinish s c hi t) := by
  unfold cruFinish; grind (splits := 14) (gen := 60) (ematch := 60) [Option.map_eq_some_iff, Option.bind_eq_some_iff, ← Kp.upd2, ← OKp.next, ← MKp.some, ← Kp.getD, ← Kp.foldl, ← Kp.foldl1, ← Kp.foldl2, ← Kp.foldl3, ← writeBytes_wf, ← wf_filter, wf_nil, ← dropReq_kp, ← finishDesc_kp, ← modCru_kp, ← showCru_kp]

theorem stepFinish_kp (s : State) (c : Nat) (st : CStep)
    (h0 : Kp kb s) : Kp kb (stepFinish s c st) := by
  unfold stepFinish; grind (splits := 14) (gen := 60) (ematch := 60) [Option.map_eq_some_iff, Option.bind_eq_some_iff, ← Kp.upd2, ← OKp.next, ← MKp.some, ← Kp.getD, ← Kp.foldl, ← Kp.foldl1, ← Kp.foldl2, ← Kp.foldl3, ← writeBytes_wf, ← wf_filter, wf_nil, ← State.wrapAdd_kp, ← cruFinish_kp, ← modCru_kp, ← modCtx_kp, ← raiseFor_kp, ← showCru_kp, ← writeResult_kp]

theorem execCruStepEnd_kp (c : Core) (s : State)
    (h0 : Kp kb s) : OKp kb (execCruStepEnd c s) := by
  unfold execCruStepEnd; grind (splits := 14) (gen := 60) (ematch := 60) [Option.map_eq_some_iff, Option.bind_eq_some_iff, ← Kp.upd2, ← OKp.next, ← MKp.some, ← Kp.getD, ← Kp.foldl, ← Kp.foldl1, ← Kp.foldl2, ← Kp.foldl3, ← writeBytes_wf, ← wf_filter, wf_nil, ← State.upTo_kp, ← portNow_kp, ← stepFinish_kp]

theorem markStale_kp (s : State) (c : Nat) (i : Iss) (gone : Bool) (past : Bool) (k : Nat)
    (h0 : Kp kb s) : Kp kb (markStale s c i gone past k) := by
  unfold markStale; grind (splits := 14) (gen := 60) (ematch := 60) [Option.map_eq_some_iff, Option.bind_eq_some_iff, ← Kp.upd2, ← OKp.next, ← MKp.some, ← Kp.getD, ← Kp.foldl, ← Kp.foldl1, ← Kp.foldl2, ← Kp.foldl3, ← writeBytes_wf, ← wf_filter, wf_nil, ← State.bump_kp, ← raiseFor_kp, ← setStWork_kp]

theorem ctxDeadline_kp (s : State) (c : Nat) (hi : Bool)
    (h0 : Kp kb s) : Kp kb (ctxDeadline s c hi) := by
  unfold ctxDeadline; split
  · exact h0
  · rename_i x _
    extract_lets gone l s1 s2 s3
    have k1 : Kp kb s1 := Kp.foldl _ (fun _ _ h => markStale_kp (h0 := h) ..) _ _ h0
    have k2 : Kp kb s2 := modCtx_kp _ _ _ _ k1
    have k3 : Kp kb s3 := modCtx_kp _ _ _ _ k2
    clear_value s3 s2
    grind (splits := 14) (gen := 60) (ematch := 60) [Option.map_eq_some_iff, Option.bind_eq_some_iff, ← Kp.upd2, ← OKp.next, ← MKp.some, ← Kp.getD, ← Kp.foldl, ← Kp.foldl1, ← Kp.foldl2, ← Kp.foldl3, ← writeBytes_wf, ← wf_filter, wf_nil, ← cruFinish_kp, ← markStale_kp, ← modCtx_kp]

theorem queueDeadline_kp (s : State) (c : Nat) (q : EngQ)
    (h0 : Kp kb s) : Kp kb (queueDeadline s c q) := by
  unfold queueDeadline; grind (splits := 14) (gen := 60) (ematch := 60) [Option.map_eq_some_iff, Option.bind_eq_some_iff, ← Kp.upd2, ← OKp.next, ← MKp.some, ← Kp.getD, ← Kp.foldl, ← Kp.foldl1, ← Kp.foldl2, ← Kp.foldl3, ← writeBytes_wf, ← wf_filter, wf_nil, ← markStale_kp, ← modEng_kp]

theorem cruDeadline_kp (s : State) (c : Nat)
    (h0 : Kp kb s) : Kp kb (cruDeadline s c) := by
  unfold cruDeadline; grind (splits := 14) (gen := 60) (ematch := 60) [Option.map_eq_some_iff, Option.bind_eq_some_iff, ← Kp.upd2, ← OKp.next, ← MKp.some, ← Kp.getD, ← Kp.foldl, ← Kp.foldl1, ← Kp.foldl2, ← Kp.foldl3, ← writeBytes_wf, ← wf_filter, wf_nil, ← ctxDeadline_kp, ← queueDeadline_kp]

theorem execCruDeadline_kp (c : Core) (s : State)
    (h0 : Kp kb s) : OKp kb (execCruDeadline c s) := by
  unfold execCruDeadline; grind (splits := 14) (gen := 60) (ematch := 60) [Option.map_eq_some_iff, Option.bind_eq_some_iff, ← Kp.upd2, ← OKp.next, ← MKp.some, ← Kp.getD, ← Kp.foldl, ← Kp.foldl1, ← Kp.foldl2, ← Kp.foldl3, ← writeBytes_wf, ← wf_filter, wf_nil, ← cruDeadline_kp]

end Sys2Proof.Machine
end

