-- ==== Sys2Proof/Laws/Keep05.lean ====
section
/-!
SUPPORT. Laws/Keep05.lean: each function of Machine/Ladle, Pattern
that answers a state keeps the queue, the fuses and the canonical form.
-/
namespace Sys2Proof.Machine

open Sys2Proof

variable {kb : State}

/-! ## Machine/Ladle.lean -/

theorem modLdl_kp (s : State) (c : Nat) (f : LdlSt → LdlSt) (h0 : Kp kb s)
    (hf : ∀ x, Memory.wf x.cache = true → Memory.wf (f x).cache = true) : Kp kb (modLdl s c f) :=
  State.modCore_kp _ _ h0 (fun x hx => hf x.ldl hx)

theorem State.Sound.cache {s : State} (h : s.Sound) (c : Nat) : Memory.wf (s.ldl c).cache = true := by
  have k := h.caches
  unfold State.ldl State.core
  apply k
  rw [List.getD_eq_getElem?_getD]
  rcases e : s.cores.toList[c]? with _ | x
  · simp
  · exact List.mem_of_getElem? e
theorem setCacheTo_kp (s : State) (c : Nat) (m : Mem) (h0 : Kp kb s) (hm : kb.Sound → Memory.wf m = true) :
    Kp kb (modLdl s c (fun l => { l with cache := m })) :=
  ⟨h0.1, h0.2, fun hk => (modLdl_kp s c _ h0 (fun _ _ => hm hk)).3 hk⟩

theorem setV_kp (s : State) (c : Nat) (r : Nat) (lanes : List Nat) (tag : Nat × Nat)
    (h0 : Kp kb s) : Kp kb (setV s c r lanes tag) := by
  unfold setV; grind (splits := 14) (gen := 60) (ematch := 60) [Option.map_eq_some_iff, Option.bind_eq_some_iff, ← Kp.upd2, ← OKp.next, ← MKp.some, ← Kp.getD, ← Kp.foldl, ← Kp.foldl1, ← Kp.foldl2, ← Kp.foldl3, ← writeBytes_wf, ← wf_filter, wf_nil, ← modLdl_kp]

theorem setK_kp (s : State) (c : Nat) (k : Nat) (v : Nat)
    (h0 : Kp kb s) : Kp kb (setK s c k v) := by
  unfold setK; grind (splits := 14) (gen := 60) (ematch := 60) [Option.map_eq_some_iff, Option.bind_eq_some_iff, ← Kp.upd2, ← OKp.next, ← MKp.some, ← Kp.getD, ← Kp.foldl, ← Kp.foldl1, ← Kp.foldl2, ← Kp.foldl3, ← writeBytes_wf, ← wf_filter, wf_nil, ← modLdl_kp]

theorem writeRegs_kp (s : State) (c : Nat) (f : Fmt) (F : Nat) (z0 : Nat) (z1 : Nat) (z2 : List (Option Nat))
    (h0 : Kp kb s) : Kp kb (writeRegs s c f F z0 z1 z2) := by
  fun_induction writeRegs s c f F z0 z1 z2 <;> grind (splits := 14) (gen := 60) (ematch := 60) [Option.map_eq_some_iff, Option.bind_eq_some_iff, ← Kp.upd2, ← OKp.next, ← MKp.some, ← Kp.getD, ← Kp.foldl, ← Kp.foldl1, ← Kp.foldl2, ← Kp.foldl3, ← writeBytes_wf, ← wf_filter, wf_nil, ← setV_kp]

theorem freeV_kp (s : State) (c : Nat) (r : Nat)
    (h0 : Kp kb s) : Kp kb (freeV s c r) := by
  unfold freeV; grind (splits := 14) (gen := 60) (ematch := 60) [Option.map_eq_some_iff, Option.bind_eq_some_iff, ← Kp.upd2, ← OKp.next, ← MKp.some, ← Kp.getD, ← Kp.foldl, ← Kp.foldl1, ← Kp.foldl2, ← Kp.foldl3, ← writeBytes_wf, ← wf_filter, wf_nil, ← setV_kp]

theorem scramble_kp (s : State) (c : Nat) (keepV : List Nat) (keepK : List Nat)
    (h0 : Kp kb s) : Kp kb (scramble s c keepV keepK) := by
  unfold scramble; grind (splits := 14) (gen := 60) (ematch := 60) [Option.map_eq_some_iff, Option.bind_eq_some_iff, ← Kp.upd2, ← OKp.next, ← MKp.some, ← Kp.getD, ← Kp.foldl, ← Kp.foldl1, ← Kp.foldl2, ← Kp.foldl3, ← writeBytes_wf, ← wf_filter, wf_nil, ← freeV_kp, ← setK_kp]

theorem readMem_kp (s : State) (c : Nat) (seq : Nat) (r : Region) (loc : Bool) (f : Fmt) (F : Nat) (start : Nat) (stop : Nat) (z0 : Nat) (z1 : Nat)
    (h0 : Kp kb s) : Kp kb (readMem s c seq r loc f F start stop z0 z1).2 := by
  fun_induction readMem s c seq r loc f F start stop z0 z1 <;> grind (splits := 14) (gen := 60) (ematch := 60) [Option.map_eq_some_iff, Option.bind_eq_some_iff, ← Kp.upd2, ← OKp.next, ← MKp.some, ← Kp.getD, ← Kp.foldl, ← Kp.foldl1, ← Kp.foldl2, ← Kp.foldl3, ← writeBytes_wf, ← wf_filter, wf_nil, ← State.bump_kp, ← State.disarm_kp, ← readRegion_kp]

theorem cacheAt_wf {s : State} (h : s.Sound) (c t : Nat) : Memory.wf (cacheAt s c t) = true := by
  unfold cacheAt
  induction (s.ldl c).runW with
  | nil => exact h.cache c
  | cons w l ih =>
    simp only [List.foldr_cons]
    split
    · exact writeBytes_wf _ _ _ ih
    · exact ih

theorem readAt_kp (s : State) (c : Nat) (t : Nat) (f : State → LRead × State)
    (h0 : Kp kb s) (h1 : ∀ y0, Kp kb y0 → Kp kb (f y0).2) : Kp kb (readAt s c t f).2 :=
  setCacheTo_kp _ _ _ (h1 _ (setCacheTo_kp _ _ _ h0 (fun hk => cacheAt_wf (h0.3 hk) c t))) (fun hk => (h0.3 hk).cache c)

theorem readSteps_kp (c : Nat) (seq : Nat) (r : Region) (f : Fmt) (F : Nat) (start : Nat) (stop : Nat) (step : Nat) (z0 : List Nat) (z1 : Nat) (z2 : State)
    (h0 : Kp kb z2) : Kp kb (readSteps c seq r f F start stop step z0 z1 z2).2 := by
  fun_induction readSteps c seq r f F start stop step z0 z1 z2 <;> grind (splits := 14) (gen := 60) (ematch := 60) [Option.map_eq_some_iff, Option.bind_eq_some_iff, ← Kp.upd2, ← OKp.next, ← MKp.some, ← Kp.getD, ← Kp.foldl, ← Kp.foldl1, ← Kp.foldl2, ← Kp.foldl3, ← writeBytes_wf, ← wf_filter, wf_nil, ← readAt_kp, ← readMem_kp]

theorem readOpnd_kp (s : State) (c : Nat) (i : Iss) (k : Nat) (start : Nat) (n : Nat) (steps : Nat × List Nat)
    (h0 : Kp kb s) : Kp kb (readOpnd s c i k start n steps).2 := by
  unfold readOpnd; grind (splits := 14) (gen := 60) (ematch := 60) [Option.map_eq_some_iff, Option.bind_eq_some_iff, ← Kp.upd2, ← OKp.next, ← MKp.some, ← Kp.getD, ← Kp.foldl, ← Kp.foldl1, ← Kp.foldl2, ← Kp.foldl3, ← writeBytes_wf, ← wf_filter, wf_nil, ← State.disarm_kp, ← readMem_kp, ← readSteps_kp]

theorem reseal_kp (s : State) (t : Nat) (h : TileHdr)
    (h0 : Kp kb s) : Kp kb (reseal s t h) := by
  unfold reseal; grind (splits := 14) (gen := 60) (ematch := 60) [Option.map_eq_some_iff, Option.bind_eq_some_iff, ← Kp.upd2, ← OKp.next, ← MKp.some, ← Kp.getD, ← Kp.foldl, ← Kp.foldl1, ← Kp.foldl2, ← Kp.foldl3, ← writeBytes_wf, ← wf_filter, wf_nil, ← writeSide_kp]

theorem clearRegion_kp (s : State) (r : Region) (p : Place) (off : Nat) (n : Nat)
    (h0 : Kp kb s) : Kp kb (clearRegion s r p off n) := by
  unfold clearRegion; grind (splits := 14) (gen := 60) (ematch := 60) [Option.map_eq_some_iff, Option.bind_eq_some_iff, ← Kp.upd2, ← OKp.next, ← MKp.some, ← Kp.getD, ← Kp.foldl, ← Kp.foldl1, ← Kp.foldl2, ← Kp.foldl3, ← writeBytes_wf, ← wf_filter, wf_nil, ← poke_kp, ← tunWrite_kp]

theorem pokeElem_kp (s : State) (r : Region) (p : Place) (f : Fmt) (e : Nat) (x : Nat)
    (h0 : Kp kb s) : Kp kb (pokeElem s r p f e x) := by
  unfold pokeElem; grind (splits := 14) (gen := 60) (ematch := 60) [Option.map_eq_some_iff, Option.bind_eq_some_iff, ← Kp.upd2, ← OKp.next, ← MKp.some, ← Kp.getD, ← Kp.foldl, ← Kp.foldl1, ← Kp.foldl2, ← Kp.foldl3, ← writeBytes_wf, ← wf_filter, wf_nil, ← writeRegion_kp]

theorem noteLdlW_kp (s : State) (c : Nat) (r : Region) (f : Fmt) (n : Nat) (steps : Nat × List Nat)
    (h0 : Kp kb s) : Kp kb (noteLdlW s c r f n steps) := by
  unfold noteLdlW; grind (splits := 14) (gen := 60) (ematch := 60) [Option.map_eq_some_iff, Option.bind_eq_some_iff, ← Kp.upd2, ← OKp.next, ← MKp.some, ← Kp.getD, ← Kp.foldl, ← Kp.foldl1, ← Kp.foldl2, ← Kp.foldl3, ← writeBytes_wf, ← wf_filter, wf_nil, ← modLdl_kp]

theorem writeMem_kp (s : State) (c : Nat) (d : Desc) (r : Region) (loc : Bool) (f : Fmt) (F : Nat) (rs : List Res)
    (h0 : Kp kb s) : Kp kb (writeMem s c d r loc f F rs) := by
  unfold writeMem; grind (splits := 14) (gen := 60) (ematch := 60) [Option.map_eq_some_iff, Option.bind_eq_some_iff, ← Kp.upd2, ← OKp.next, ← MKp.some, ← Kp.getD, ← Kp.foldl, ← Kp.foldl1, ← Kp.foldl2, ← Kp.foldl3, ← writeBytes_wf, ← wf_filter, wf_nil, ← clearRegion_kp, ← noteWrite_kp, ← pokeElem_kp, ← reseal_kp]

theorem writeTail_kp (s : State) (c : Nat) (d : Desc) (r : Region) (loc : Bool) (f : Fmt) (off : Nat) (bs : List Byte) (rs : List Res)
    (h0 : Kp kb s) : Kp kb (writeTail s c d r loc f off bs rs) := by
  unfold writeTail; grind (splits := 14) (gen := 60) (ematch := 60) [Option.map_eq_some_iff, Option.bind_eq_some_iff, ← Kp.upd2, ← OKp.next, ← MKp.some, ← Kp.getD, ← Kp.foldl, ← Kp.foldl1, ← Kp.foldl2, ← Kp.foldl3, ← writeBytes_wf, ← wf_filter, wf_nil, ← noteWrite_kp, ← reseal_kp, ← writeRegion_kp]

theorem storeScaled_kp (s : State) (c : Nat) (d : Desc) (r : Region) (loc : Bool) (f : Fmt) (rnd : Nat → Rnd) (vs : List Val) (masked : Nat → Bool)
    (h0 : Kp kb s) : Kp kb (storeScaled s c d r loc f rnd vs masked).1 := by
  unfold storeScaled; grind (splits := 14) (gen := 60) (ematch := 60) [Option.map_eq_some_iff, Option.bind_eq_some_iff, ← Kp.upd2, ← OKp.next, ← MKp.some, ← Kp.getD, ← Kp.foldl, ← Kp.foldl1, ← Kp.foldl2, ← Kp.foldl3, ← writeBytes_wf, ← wf_filter, wf_nil, ← noteWrite_kp, ← writeRegion_kp, ← writeTile_kp]

theorem ldlCount_kp (s : State) (c : Nat) (i : Iss) (r : LRep)
    (h0 : Kp kb s) : Kp kb (ldlCount s c i r) := by
  unfold ldlCount; grind (splits := 14) (gen := 60) (ematch := 60) [Option.map_eq_some_iff, Option.bind_eq_some_iff, ← Kp.upd2, ← OKp.next, ← MKp.some, ← Kp.getD, ← Kp.foldl, ← Kp.foldl1, ← Kp.foldl2, ← Kp.foldl3, ← writeBytes_wf, ← wf_filter, wf_nil, ← State.bump_kp, ← State.setReg_kp, ← State.wrapAdd_kp, ← raiseFor_kp]

theorem ldlFinish_kp (s : State) (c : Nat) (i : Iss) (r : LRep)
    (h0 : Kp kb s) : Kp kb (ldlFinish s c i r) := by
  unfold ldlFinish; grind (splits := 14) (gen := 60) (ematch := 60) [Option.map_eq_some_iff, Option.bind_eq_some_iff, ← Kp.upd2, ← OKp.next, ← MKp.some, ← Kp.getD, ← Kp.foldl, ← Kp.foldl1, ← Kp.foldl2, ← Kp.foldl3, ← writeBytes_wf, ← wf_filter, wf_nil, ← State.wrapAdd_kp, ← dropReq_kp, ← finishDesc_kp, ← ldlCount_kp]

theorem readScalars_kp (s : State) (c : Nat) (i : Iss)
    (h0 : Kp kb s) : Kp kb (readScalars s c i).2.2 := by
  unfold readScalars; grind (splits := 14) (gen := 60) (ematch := 60) [Option.map_eq_some_iff, Option.bind_eq_some_iff, ← Kp.upd2, ← OKp.next, ← MKp.some, ← Kp.getD, ← Kp.foldl, ← Kp.foldl1, ← Kp.foldl2, ← Kp.foldl3, ← writeBytes_wf, ← wf_filter, wf_nil, ← readChunk_kp]

theorem deliver_kp (s : State) (c : Nat) (i : Iss) (f : Fmt) (rs : List Res) (steps : Nat × List Nat)
    (h0 : Kp kb s) : Kp kb (deliver s c i f rs steps) := by
  unfold deliver; grind (splits := 14) (gen := 60) (ematch := 60) [Option.map_eq_some_iff, Option.bind_eq_some_iff, ← Kp.upd2, ← OKp.next, ← MKp.some, ← Kp.getD, ← Kp.foldl, ← Kp.foldl1, ← Kp.foldl2, ← Kp.foldl3, ← writeBytes_wf, ← wf_filter, wf_nil, ← noteLdlW_kp, ← writeMem_kp, ← writeRegs_kp]

theorem elementwise_kp (c : Nat) (s : State) (i : Iss) (old : Bool) (outs : Nat) (cop : Nat) (fn : List Val → Bool → List Val)
    (h0 : Kp kb s) : Kp kb (elementwise c s i old outs cop fn) := by
  unfold elementwise
  have k1 : Kp kb (if readsScalars i.desc then readScalars s c i else ([], none, s)).2.2 :=
    Kp.ite33 (readScalars_kp _ _ _ h0) h0
  extract_lets d n f srcs accs keep
  change Kp kb (if readsScalars d then readScalars s c i else ([], none, s)).2.2 at k1
  generalize (if readsScalars d then readScalars s c i else ([], none, s)) = e at k1 ⊢
  obtain ⟨w, sbad, s1⟩ := e
  dsimp -zeta only
  extract_lets step l steps bads m sel hid vals outV seen rep rs vs s3 fl s4
  have k2 : Kp kb (srcs.foldl (fun (x : List LRead × State) k => (x.1 ++ [(readOpnd x.2 c i k 0 n steps).1], (readOpnd x.2 c i k 0 n steps).2)) ([], s1)).2 :=
    Kp.foldl2 (fun (x : List LRead × State) k => (x.1 ++ [(readOpnd x.2 c i k 0 n steps).1], (readOpnd x.2 c i k 0 n steps).2))
      (fun p k h => readOpnd_kp _ _ _ _ _ _ _ h) srcs ([], s1) k1
  refine ldlFinish_kp _ _ _ _ (scramble_kp _ _ _ _ (Kp.ite ?_ (deliver_kp _ _ _ _ _ _ ?_))) <;>
  · split
    · split
      · exact storeScaled_kp _ _ _ _ _ _ _ _ _ k2
      · exact k2
    · exact k2

theorem runElem_kp (c : Nat) (op : Nat) (sub : Nat) (s : State) (old : Bool) (outs : Nat) (cop : Nat) (fn : List Val → Bool → List Val)
    (h0 : Kp kb s) : OKp kb (runElem c op sub s old outs cop fn) := by
  unfold runElem; grind (splits := 14) (gen := 60) (ematch := 60) [Option.map_eq_some_iff, Option.bind_eq_some_iff, ← Kp.upd2, ← OKp.next, ← MKp.some, ← Kp.getD, ← Kp.foldl, ← Kp.foldl1, ← Kp.foldl2, ← Kp.foldl3, ← writeBytes_wf, ← wf_filter, wf_nil, ← elementwise_kp]

theorem runElemSub_kp (c : Nat) (sub : Nat) (s : State)
    (h0 : Kp kb s) : OKp kb (runElemSub c sub s) := by
  unfold runElemSub; grind (splits := 14) (gen := 60) (ematch := 60) [Option.map_eq_some_iff, Option.bind_eq_some_iff, ← Kp.upd2, ← OKp.next, ← MKp.some, ← Kp.getD, ← Kp.foldl, ← Kp.foldl1, ← Kp.foldl2, ← Kp.foldl3, ← writeBytes_wf, ← wf_filter, wf_nil, ← runElem_kp]

theorem execLoad_kp (c : Core) (s : State)
    (h0 : Kp kb s) : OKp kb (execLoad c s) := by
  unfold execLoad; grind (splits := 14) (gen := 60) (ematch := 60) [Option.map_eq_some_iff, Option.bind_eq_some_iff, ← Kp.upd2, ← OKp.next, ← MKp.some, ← Kp.getD, ← Kp.foldl, ← Kp.foldl1, ← Kp.foldl2, ← Kp.foldl3, ← writeBytes_wf, ← wf_filter, wf_nil, ← runElem_kp]

theorem execStore_kp (c : Core) (s : State)
    (h0 : Kp kb s) : OKp kb (execStore c s) := by
  unfold execStore; grind (splits := 14) (gen := 60) (ematch := 60) [Option.map_eq_some_iff, Option.bind_eq_some_iff, ← Kp.upd2, ← OKp.next, ← MKp.some, ← Kp.getD, ← Kp.foldl, ← Kp.foldl1, ← Kp.foldl2, ← Kp.foldl3, ← writeBytes_wf, ← wf_filter, wf_nil, ← runElem_kp]

theorem execZero_kp (c : Core) (s : State)
    (h0 : Kp kb s) : OKp kb (execZero c s) := by
  unfold execZero; grind (splits := 14) (gen := 60) (ematch := 60) [Option.map_eq_some_iff, Option.bind_eq_some_iff, ← Kp.upd2, ← OKp.next, ← MKp.some, ← Kp.getD, ← Kp.foldl, ← Kp.foldl1, ← Kp.foldl2, ← Kp.foldl3, ← writeBytes_wf, ← wf_filter, wf_nil, ← runElem_kp]

theorem execElemAdd_kp (c : Core) (s : State)
    (h0 : Kp kb s) : OKp kb (execElemAdd c s) := by
  unfold execElemAdd; grind (splits := 14) (gen := 60) (ematch := 60) [Option.map_eq_some_iff, Option.bind_eq_some_iff, ← Kp.upd2, ← OKp.next, ← MKp.some, ← Kp.getD, ← Kp.foldl, ← Kp.foldl1, ← Kp.foldl2, ← Kp.foldl3, ← writeBytes_wf, ← wf_filter, wf_nil, ← runElemSub_kp]

theorem execElemSub_kp (c : Core) (s : State)
    (h0 : Kp kb s) : OKp kb (execElemSub c s) := by
  unfold execElemSub; grind (splits := 14) (gen := 60) (ematch := 60) [Option.map_eq_some_iff, Option.bind_eq_some_iff, ← Kp.upd2, ← OKp.next, ← MKp.some, ← Kp.getD, ← Kp.foldl, ← Kp.foldl1, ← Kp.foldl2, ← Kp.foldl3, ← writeBytes_wf, ← wf_filter, wf_nil, ← runElemSub_kp]

theorem execElemMul_kp (c : Core) (s : State)
    (h0 : Kp kb s) : OKp kb (execElemMul c s) := by
  unfold execElemMul; grind (splits := 14) (gen := 60) (ematch := 60) [Option.map_eq_some_iff, Option.bind_eq_some_iff, ← Kp.upd2, ← OKp.next, ← MKp.some, ← Kp.getD, ← Kp.foldl, ← Kp.foldl1, ← Kp.foldl2, ← Kp.foldl3, ← writeBytes_wf, ← wf_filter, wf_nil, ← runElemSub_kp]

theorem execElemFma_kp (c : Core) (s : State)
    (h0 : Kp kb s) : OKp kb (execElemFma c s) := by
  unfold execElemFma; grind (splits := 14) (gen := 60) (ematch := 60) [Option.map_eq_some_iff, Option.bind_eq_some_iff, ← Kp.upd2, ← OKp.next, ← MKp.some, ← Kp.getD, ← Kp.foldl, ← Kp.foldl1, ← Kp.foldl2, ← Kp.foldl3, ← writeBytes_wf, ← wf_filter, wf_nil, ← runElemSub_kp]

theorem execElemMax_kp (c : Core) (s : State)
    (h0 : Kp kb s) : OKp kb (execElemMax c s) := by
  unfold execElemMax; grind (splits := 14) (gen := 60) (ematch := 60) [Option.map_eq_some_iff, Option.bind_eq_some_iff, ← Kp.upd2, ← OKp.next, ← MKp.some, ← Kp.getD, ← Kp.foldl, ← Kp.foldl1, ← Kp.foldl2, ← Kp.foldl3, ← writeBytes_wf, ← wf_filter, wf_nil, ← runElemSub_kp]

theorem execElemMin_kp (c : Core) (s : State)
    (h0 : Kp kb s) : OKp kb (execElemMin c s) := by
  unfold execElemMin; grind (splits := 14) (gen := 60) (ematch := 60) [Option.map_eq_some_iff, Option.bind_eq_some_iff, ← Kp.upd2, ← OKp.next, ← MKp.some, ← Kp.getD, ← Kp.foldl, ← Kp.foldl1, ← Kp.foldl2, ← Kp.foldl3, ← writeBytes_wf, ← wf_filter, wf_nil, ← runElemSub_kp]

theorem execElemAbs_kp (c : Core) (s : State)
    (h0 : Kp kb s) : OKp kb (execElemAbs c s) := by
  unfold execElemAbs; grind (splits := 14) (gen := 60) (ematch := 60) [Option.map_eq_some_iff, Option.bind_eq_some_iff, ← Kp.upd2, ← OKp.next, ← MKp.some, ← Kp.getD, ← Kp.foldl, ← Kp.foldl1, ← Kp.foldl2, ← Kp.foldl3, ← writeBytes_wf, ← wf_filter, wf_nil, ← runElemSub_kp]

theorem execElemNeg_kp (c : Core) (s : State)
    (h0 : Kp kb s) : OKp kb (execElemNeg c s) := by
  unfold execElemNeg; grind (splits := 14) (gen := 60) (ematch := 60) [Option.map_eq_some_iff, Option.bind_eq_some_iff, ← Kp.upd2, ← OKp.next, ← MKp.some, ← Kp.getD, ← Kp.foldl, ← Kp.foldl1, ← Kp.foldl2, ← Kp.foldl3, ← writeBytes_wf, ← wf_filter, wf_nil, ← runElemSub_kp]

theorem execElemCvt_kp (c : Core) (s : State)
    (h0 : Kp kb s) : OKp kb (execElemCvt c s) := by
  unfold execElemCvt; grind (splits := 14) (gen := 60) (ematch := 60) [Option.map_eq_some_iff, Option.bind_eq_some_iff, ← Kp.upd2, ← OKp.next, ← MKp.some, ← Kp.getD, ← Kp.foldl, ← Kp.foldl1, ← Kp.foldl2, ← Kp.foldl3, ← writeBytes_wf, ← wf_filter, wf_nil, ← runElemSub_kp]

theorem execElemSel_kp (c : Core) (s : State)
    (h0 : Kp kb s) : OKp kb (execElemSel c s) := by
  unfold execElemSel; grind (splits := 14) (gen := 60) (ematch := 60) [Option.map_eq_some_iff, Option.bind_eq_some_iff, ← Kp.upd2, ← OKp.next, ← MKp.some, ← Kp.getD, ← Kp.foldl, ← Kp.foldl1, ← Kp.foldl2, ← Kp.foldl3, ← writeBytes_wf, ← wf_filter, wf_nil, ← runElemSub_kp]

theorem runFunc_kp (c : Nat) (sub : Nat) (cop : Nat) (s : State)
    (h0 : Kp kb s) : OKp kb (runFunc c sub cop s) := by
  unfold runFunc; grind (splits := 14) (gen := 60) (ematch := 60) [Option.map_eq_some_iff, Option.bind_eq_some_iff, ← Kp.upd2, ← OKp.next, ← MKp.some, ← Kp.getD, ← Kp.foldl, ← Kp.foldl1, ← Kp.foldl2, ← Kp.foldl3, ← writeBytes_wf, ← wf_filter, wf_nil, ← runElem_kp]

theorem execExp2_kp (c : Core) (s : State)
    (h0 : Kp kb s) : OKp kb (execExp2 c s) := by
  unfold execExp2; grind (splits := 14) (gen := 60) (ematch := 60) [Option.map_eq_some_iff, Option.bind_eq_some_iff, ← Kp.upd2, ← OKp.next, ← MKp.some, ← Kp.getD, ← Kp.foldl, ← Kp.foldl1, ← Kp.foldl2, ← Kp.foldl3, ← writeBytes_wf, ← wf_filter, wf_nil, ← runFunc_kp]

theorem execLog2_kp (c : Core) (s : State)
    (h0 : Kp kb s) : OKp kb (execLog2 c s) := by
  unfold execLog2; grind (splits := 14) (gen := 60) (ematch := 60) [Option.map_eq_some_iff, Option.bind_eq_some_iff, ← Kp.upd2, ← OKp.next, ← MKp.some, ← Kp.getD, ← Kp.foldl, ← Kp.foldl1, ← Kp.foldl2, ← Kp.foldl3, ← writeBytes_wf, ← wf_filter, wf_nil, ← runFunc_kp]

theorem execRcp_kp (c : Core) (s : State)
    (h0 : Kp kb s) : OKp kb (execRcp c s) := by
  unfold execRcp; grind (splits := 14) (gen := 60) (ematch := 60) [Option.map_eq_some_iff, Option.bind_eq_some_iff, ← Kp.upd2, ← OKp.next, ← MKp.some, ← Kp.getD, ← Kp.foldl, ← Kp.foldl1, ← Kp.foldl2, ← Kp.foldl3, ← writeBytes_wf, ← wf_filter, wf_nil, ← runFunc_kp]

theorem execRsqrt_kp (c : Core) (s : State)
    (h0 : Kp kb s) : OKp kb (execRsqrt c s) := by
  unfold execRsqrt; grind (splits := 14) (gen := 60) (ematch := 60) [Option.map_eq_some_iff, Option.bind_eq_some_iff, ← Kp.upd2, ← OKp.next, ← MKp.some, ← Kp.getD, ← Kp.foldl, ← Kp.foldl1, ← Kp.foldl2, ← Kp.foldl3, ← writeBytes_wf, ← wf_filter, wf_nil, ← runFunc_kp]

theorem execTanh_kp (c : Core) (s : State)
    (h0 : Kp kb s) : OKp kb (execTanh c s) := by
  unfold execTanh; grind (splits := 14) (gen := 60) (ematch := 60) [Option.map_eq_some_iff, Option.bind_eq_some_iff, ← Kp.upd2, ← OKp.next, ← MKp.some, ← Kp.getD, ← Kp.foldl, ← Kp.foldl1, ← Kp.foldl2, ← Kp.foldl3, ← writeBytes_wf, ← wf_filter, wf_nil, ← runFunc_kp]

theorem execErf_kp (c : Core) (s : State)
    (h0 : Kp kb s) : OKp kb (execErf c s) := by
  unfold execErf; grind (splits := 14) (gen := 60) (ematch := 60) [Option.map_eq_some_iff, Option.bind_eq_some_iff, ← Kp.upd2, ← OKp.next, ← MKp.some, ← Kp.getD, ← Kp.foldl, ← Kp.foldl1, ← Kp.foldl2, ← Kp.foldl3, ← writeBytes_wf, ← wf_filter, wf_nil, ← runFunc_kp]

theorem execSincos_kp (c : Core) (s : State)
    (h0 : Kp kb s) : OKp kb (execSincos c s) := by
  unfold execSincos; grind (splits := 14) (gen := 60) (ematch := 60) [Option.map_eq_some_iff, Option.bind_eq_some_iff, ← Kp.upd2, ← OKp.next, ← MKp.some, ← Kp.getD, ← Kp.foldl, ← Kp.foldl1, ← Kp.foldl2, ← Kp.foldl3, ← writeBytes_wf, ← wf_filter, wf_nil, ← runFunc_kp]

theorem runReduce_kp (c : Nat) (sub : Nat) (s : State)
    (h0 : Kp kb s) : OKp kb (runReduce c sub s) := by
  unfold runReduce; grind (splits := 14) (gen := 60) (ematch := 60) [Option.map_eq_some_iff, Option.bind_eq_some_iff, ← Kp.upd2, ← OKp.next, ← MKp.some, ← Kp.getD, ← Kp.foldl, ← Kp.foldl1, ← Kp.foldl2, ← Kp.foldl3, ← writeBytes_wf, ← wf_filter, wf_nil, ← deliver_kp, ← ldlFinish_kp, ← readOpnd_kp, ← scramble_kp, ← writeRegs_kp, ← writeTail_kp]

theorem execReduceSum_kp (c : Core) (s : State)
    (h0 : Kp kb s) : OKp kb (execReduceSum c s) := by
  unfold execReduceSum; grind (splits := 14) (gen := 60) (ematch := 60) [Option.map_eq_some_iff, Option.bind_eq_some_iff, ← Kp.upd2, ← OKp.next, ← MKp.some, ← Kp.getD, ← Kp.foldl, ← Kp.foldl1, ← Kp.foldl2, ← Kp.foldl3, ← writeBytes_wf, ← wf_filter, wf_nil, ← runReduce_kp]

theorem execReduceProd_kp (c : Core) (s : State)
    (h0 : Kp kb s) : OKp kb (execReduceProd c s) := by
  unfold execReduceProd; grind (splits := 14) (gen := 60) (ematch := 60) [Option.map_eq_some_iff, Option.bind_eq_some_iff, ← Kp.upd2, ← OKp.next, ← MKp.some, ← Kp.getD, ← Kp.foldl, ← Kp.foldl1, ← Kp.foldl2, ← Kp.foldl3, ← writeBytes_wf, ← wf_filter, wf_nil, ← runReduce_kp]

theorem execReduceMax_kp (c : Core) (s : State)
    (h0 : Kp kb s) : OKp kb (execReduceMax c s) := by
  unfold execReduceMax; grind (splits := 14) (gen := 60) (ematch := 60) [Option.map_eq_some_iff, Option.bind_eq_some_iff, ← Kp.upd2, ← OKp.next, ← MKp.some, ← Kp.getD, ← Kp.foldl, ← Kp.foldl1, ← Kp.foldl2, ← Kp.foldl3, ← writeBytes_wf, ← wf_filter, wf_nil, ← runReduce_kp]

theorem execReduceMin_kp (c : Core) (s : State)
    (h0 : Kp kb s) : OKp kb (execReduceMin c s) := by
  unfold execReduceMin; grind (splits := 14) (gen := 60) (ematch := 60) [Option.map_eq_some_iff, Option.bind_eq_some_iff, ← Kp.upd2, ← OKp.next, ← MKp.some, ← Kp.getD, ← Kp.foldl, ← Kp.foldl1, ← Kp.foldl2, ← Kp.foldl3, ← writeBytes_wf, ← wf_filter, wf_nil, ← runReduce_kp]

theorem execArgmax_kp (c : Core) (s : State)
    (h0 : Kp kb s) : OKp kb (execArgmax c s) := by
  unfold execArgmax; grind (splits := 14) (gen := 60) (ematch := 60) [Option.map_eq_some_iff, Option.bind_eq_some_iff, ← Kp.upd2, ← OKp.next, ← MKp.some, ← Kp.getD, ← Kp.foldl, ← Kp.foldl1, ← Kp.foldl2, ← Kp.foldl3, ← writeBytes_wf, ← wf_filter, wf_nil, ← runReduce_kp]

theorem execArgmin_kp (c : Core) (s : State)
    (h0 : Kp kb s) : OKp kb (execArgmin c s) := by
  unfold execArgmin; grind (splits := 14) (gen := 60) (ematch := 60) [Option.map_eq_some_iff, Option.bind_eq_some_iff, ← Kp.upd2, ← OKp.next, ← MKp.some, ← Kp.getD, ← Kp.foldl, ← Kp.foldl1, ← Kp.foldl2, ← Kp.foldl3, ← writeBytes_wf, ← wf_filter, wf_nil, ← runReduce_kp]

theorem execMaskgen_kp (c : Core) (s : State)
    (h0 : Kp kb s) : OKp kb (execMaskgen c s) := by
  unfold execMaskgen; split
  · exact .next h0
  · rename_i i _
    extract_lets d
    refine OKp.ite (.next h0) ?_
    have k1 := readScalars_kp (kb := kb) s c i h0
    generalize readScalars s c i = e at k1 ⊢
    obtain ⟨w, sbad, s1⟩ := e
    dsimp -zeta only
    extract_lets steps past errs s2 s3
    refine OKp.ite (.next (ldlFinish_kp _ _ _ _ (scramble_kp _ _ _ _ k1))) (.next (ldlFinish_kp _ _ _ _ (scramble_kp _ _ _ _ ?_)))
    exact Kp.foldl _ (fun _ _ h => setK_kp _ _ _ _ h) _ _ k1

theorem releaseHalf_kp (s : State) (c : Nat) (h : Nat)
    (h0 : Kp kb s) : Kp kb (releaseHalf s c h) := by
  unfold releaseHalf; grind (splits := 14) (gen := 60) (ematch := 60) [Option.map_eq_some_iff, Option.bind_eq_some_iff, ← Kp.upd2, ← OKp.next, ← MKp.some, ← Kp.getD, ← Kp.foldl, ← Kp.foldl1, ← Kp.foldl2, ← Kp.foldl3, ← writeBytes_wf, ← wf_filter, wf_nil, ← freeHalf_kp, ← modMld_kp]

theorem accUe_kp (s : State) (c : Nat) (seq : Nat) (wa : Nat) (vs : List Val)
    (h0 : Kp kb s) : Kp kb (accUe s c seq wa vs).2 := by
  unfold accUe; grind (splits := 14) (gen := 60) (ematch := 60) [Option.map_eq_some_iff, Option.bind_eq_some_iff, ← Kp.upd2, ← OKp.next, ← MKp.some, ← Kp.getD, ← Kp.foldl, ← Kp.foldl1, ← Kp.foldl2, ← Kp.foldl3, ← writeBytes_wf, ← wf_filter, wf_nil, ← State.disarm_kp, ← raiseFor_kp]

theorem execAccread_kp (c : Core) (s : State)
    (h0 : Kp kb s) : OKp kb (execAccread c s) := by
  unfold execAccread; grind (splits := 14) (gen := 60) (ematch := 60) [Option.map_eq_some_iff, Option.bind_eq_some_iff, ← Kp.upd2, ← OKp.next, ← MKp.some, ← Kp.getD, ← Kp.foldl, ← Kp.foldl1, ← Kp.foldl2, ← Kp.foldl3, ← writeBytes_wf, ← wf_filter, wf_nil, ← State.setFld_kp, ← State.upTo_kp, ← accUe_kp, ← deliver_kp, ← ldlFinish_kp, ← readScalars_kp, ← releaseHalf_kp, ← scramble_kp]

theorem runNorm_kp (c : Nat) (op : Nat) (s : State)
    (h0 : Kp kb s) : OKp kb (runNorm c op s) := by
  unfold runNorm; grind (splits := 14) (gen := 60) (ematch := 60) [Option.map_eq_some_iff, Option.bind_eq_some_iff, ← Kp.upd2, ← OKp.next, ← MKp.some, ← Kp.getD, ← Kp.foldl, ← Kp.foldl1, ← Kp.foldl2, ← Kp.foldl3, ← writeBytes_wf, ← wf_filter, wf_nil, ← deliver_kp, ← ldlFinish_kp, ← readOpnd_kp, ← readScalars_kp, ← scramble_kp]

theorem execRmsnorm_kp (c : Core) (s : State)
    (h0 : Kp kb s) : OKp kb (execRmsnorm c s) := by
  unfold execRmsnorm; grind (splits := 14) (gen := 60) (ematch := 60) [Option.map_eq_some_iff, Option.bind_eq_some_iff, ← Kp.upd2, ← OKp.next, ← MKp.some, ← Kp.getD, ← Kp.foldl, ← Kp.foldl1, ← Kp.foldl2, ← Kp.foldl3, ← writeBytes_wf, ← wf_filter, wf_nil, ← runNorm_kp]

theorem execLayernorm_kp (c : Core) (s : State)
    (h0 : Kp kb s) : OKp kb (execLayernorm c s) := by
  unfold execLayernorm; grind (splits := 14) (gen := 60) (ematch := 60) [Option.map_eq_some_iff, Option.bind_eq_some_iff, ← Kp.upd2, ← OKp.next, ← MKp.some, ← Kp.getD, ← Kp.foldl, ← Kp.foldl1, ← Kp.foldl2, ← Kp.foldl3, ← writeBytes_wf, ← wf_filter, wf_nil, ← runNorm_kp]

theorem putCopy_kp (s : State) (c : Nat) (i : Iss) (f : Fmt) (cf : Fmt) (cs : List Res)
    (h0 : Kp kb s) : Kp kb (putCopy s c i f cf cs) := by
  unfold putCopy; grind (splits := 14) (gen := 60) (ematch := 60) [Option.map_eq_some_iff, Option.bind_eq_some_iff, ← Kp.upd2, ← OKp.next, ← MKp.some, ← Kp.getD, ← Kp.foldl, ← Kp.foldl1, ← Kp.foldl2, ← Kp.foldl3, ← writeBytes_wf, ← wf_filter, wf_nil, ← writeRegs_kp, ← writeTail_kp]

theorem execOpt_kp (c : Core) (s : State)
    (h0 : Kp kb s) : OKp kb (execOpt c s) := by
  unfold execOpt; dsimp only; (repeat' split) <;> grind (splits := 14) (gen := 60) (ematch := 60) [Option.map_eq_some_iff, Option.bind_eq_some_iff, ← Kp.upd2, ← OKp.next, ← MKp.some, ← Kp.getD, ← Kp.foldl, ← Kp.foldl1, ← Kp.foldl2, ← Kp.foldl3, ← writeBytes_wf, ← wf_filter, wf_nil, ← deliver_kp, ← ldlFinish_kp, ← noteLdlW_kp, ← putCopy_kp, ← readOpnd_kp, ← readScalars_kp, ← scramble_kp, ← writeMem_kp, ← writeRegs_kp]

/-! ## Machine/Pattern.lean -/

theorem runTile_kp (c : Nat) (p : PRun) (t : Nat)
    (h0 : Kp kb p.s) : Kp kb (runTile c p t).s := by
  unfold runTile; dsimp only; (repeat' split) <;> grind (splits := 8) [← readTile_kp, ← State.bump_kp, ← State.injFails_kp, ← PRun.fail_kp]

theorem runBytes_kp (c : Nat) (i : Iss) (p : PRun) (k : Nat) (pos : Nat) (n : Nat)
    (h0 : Kp kb p.s) : Kp kb (runBytes c i p k pos n).2.s := by
  have hf : ∀ (q : PRun) (b : Prop) [Decidable b] (st : Nat), Kp kb q.s → Kp kb (if b then q.fail st else q).s := by
    intro q b _ st h; split
    · exact PRun.fail_kp _ _ h
    · exact h
  unfold runBytes
  dsimp only
  generalize aguRegion i.desc i.desc.loc k = rl
  split
  · exact hf _ _ _ (setCacheTo_kp _ _ _ (readRegion_kp _ _ _ _ _ (setCacheTo_kp _ _ _ h0 (fun hk => cacheAt_wf (h0.3 hk) c _)))
      (fun hk => (h0.3 hk).cache c))
  · split
    · exact h0
    · exact foldl_inv (fun q : PRun => Kp kb q.s) _ (fun q t hq => runTile_kp _ _ _ hq) _ _ h0

theorem aguRead_kp (c : Nat) (i : Iss) (w : CWord) (k : Nat) (p : PRun)
    (h0 : Kp kb p.s) : Kp kb (aguRead c i w k p).2.s := by
  unfold aguRead; grind (splits := 14) (gen := 60) (ematch := 60) [Option.map_eq_some_iff, Option.bind_eq_some_iff, ← Kp.upd2, ← OKp.next, ← MKp.some, ← Kp.getD, ← Kp.foldl, ← Kp.foldl1, ← Kp.foldl2, ← Kp.foldl3, ← writeBytes_wf, ← wf_filter, wf_nil, ← runBytes_kp]

theorem aguWrite_kp (s : State) (c : Nat) (d : Desc) (r : Region) (l : Bool) (pos : Nat) (f : Fmt) (b : List Byte)
    (h0 : Kp kb s) : Kp kb (aguWrite s c d r l pos f b) := by
  unfold aguWrite; grind (splits := 14) (gen := 60) (ematch := 60) [Option.map_eq_some_iff, Option.bind_eq_some_iff, ← Kp.upd2, ← OKp.next, ← MKp.some, ← Kp.getD, ← Kp.foldl, ← Kp.foldl1, ← Kp.foldl2, ← Kp.foldl3, ← writeBytes_wf, ← wf_filter, wf_nil, ← noteWrite_kp, ← reseal_kp, ← writeRegion_kp]

theorem wordSrc_kp (c : Nat) (i : Iss) (w : CWord) (ks : List Nat) (reg : Nat) (p : PRun)
    (h0 : Kp kb p.s) : Kp kb (wordSrc c i w ks reg p).2.s := by
  unfold wordSrc
  extract_lets x q
  have k : Kp kb q.s := by
    refine foldl_inv (fun a : Option (List Val) × PRun => Kp kb a.2.s) _ (fun a t ha => ?_) _ _ h0
    split
    · exact ha
    · exact aguRead_kp _ _ _ _ _ ha
  clear_value q
  split
  · exact k
  · split
    · exact PRun.fail_kp _ _ (State.disarm_kp _ _ _ k)
    · exact k

theorem wordMask_kp (c : Nat) (i : Iss) (w : CWord) (sg : List Nat) (p : PRun)
    (h0 : Kp kb p.s) : Kp kb (wordMask c i w sg p).s := by
  unfold wordMask; grind (splits := 14) (gen := 60) (ematch := 60) [Option.map_eq_some_iff, Option.bind_eq_some_iff, ← Kp.upd2, ← OKp.next, ← MKp.some, ← Kp.getD, ← Kp.foldl, ← Kp.foldl1, ← Kp.foldl2, ← Kp.foldl3, ← writeBytes_wf, ← wf_filter, wf_nil, ← PRun.fail_kp, ← setK_kp]

theorem wordHeld_kp (c : Nat) (seq : Nat) (n : Nat) (p : PRun)
    (h0 : Kp kb p.s) : Kp kb (wordHeld c seq n p).2.s := by
  unfold wordHeld; grind (splits := 14) (gen := 60) (ematch := 60) [Option.map_eq_some_iff, Option.bind_eq_some_iff, ← Kp.upd2, ← OKp.next, ← MKp.some, ← Kp.getD, ← Kp.foldl, ← Kp.foldl1, ← Kp.foldl2, ← Kp.foldl3, ← writeBytes_wf, ← wf_filter, wf_nil, ← PRun.fail_kp, ← accUe_kp]

theorem wordOpnds_kp (c : Nat) (i : Iss) (w : CWord) (p : PRun)
    (h0 : Kp kb p.s) : Kp kb (wordOpnds c i w p).2.s := by
  unfold wordOpnds
  extract_lets x two y z
  have k1 : Kp kb x.2.s := by
    simp only [x]; split
    · exact wordHeld_kp _ _ _ _ h0
    · split
      · exact h0
      · exact wordSrc_kp _ _ _ _ _ _ h0
  have k2 : Kp kb y.2.s := by
    simp only [y]; split
    · exact wordSrc_kp _ _ _ _ _ _ k1
    · exact k1
  simp only [z]; split
  · exact wordSrc_kp _ _ _ _ _ _ k2
  · exact k2

theorem wordToRegs_kp (c : Nat) (d : Desc) (w : CWord) (idx : Bool) (rs : List (Fmt × List Res)) (s : State)
    (h0 : Kp kb s) : Kp kb (wordToRegs c d w idx rs s) :=
  Kp.foldl _ (fun _ _ h => writeRegs_kp _ _ _ _ _ _ _ h) _ _ h0

theorem wordToMem_kp (c : Nat) (d : Desc) (a : Agu) (x : Nat) (t : Nat) (f : Fmt) (es : List Res) (s : State)
    (h0 : Kp kb s) : Kp kb (wordToMem c d a x t f es s) := by
  unfold wordToMem; grind (splits := 14) (gen := 60) (ematch := 60) [Option.map_eq_some_iff, Option.bind_eq_some_iff, ← Kp.upd2, ← OKp.next, ← MKp.some, ← Kp.getD, ← Kp.foldl, ← Kp.foldl1, ← Kp.foldl2, ← Kp.foldl3, ← writeBytes_wf, ← wf_filter, wf_nil, ← aguWrite_kp, ← noteLdlW_kp]

theorem wordDone_kp (c : Nat) (i : Iss) (w : CWord) (sg : List Nat) (v : List Val × List Val × List Val) (p : PRun)
    (h0 : Kp kb p.s) : Kp kb (wordDone c i w sg v p).s := by
  unfold wordDone
  extract_lets d rf wr size a n hid sel o e0 rs1 rs fl1 fl toReg s1 s2
  have k1 : Kp kb s1 := Kp.ite (wordToRegs_kp _ _ _ _ _ _ h0) h0
  have k2 : Kp kb s2 := by
    refine Kp.foldl _ (fun s x h => ?_) _ _ k1
    split
    · exact h
    · exact wordToMem_kp _ _ _ _ _ _ _ _ h
  exact k2

theorem ladleCk_kp (c : Nat) (i : Iss) (w : CWord) (p : PRun)
    (h0 : Kp kb p.s) : Kp kb (ladleCk c i w p).s := by
  unfold ladleCk
  dsimp only
  split
  · exact wordMask_kp _ _ _ _ _ h0
  · split
    · exact wordOpnds_kp _ _ _ _ h0
    · exact wordDone_kp _ _ _ _ _ _ (wordOpnds_kp _ _ _ _ h0)

theorem execRun_kp (c : Core) (s : State)
    (h0 : Kp kb s) : OKp kb (execRun c s) := by
  unfold execRun; grind (splits := 14) (gen := 60) (ematch := 60) [Option.map_eq_some_iff, Option.bind_eq_some_iff, ← Kp.upd2, ← OKp.next, ← MKp.some, ← Kp.getD, ← Kp.foldl, ← Kp.foldl1, ← Kp.foldl2, ← Kp.foldl3, ← writeBytes_wf, ← wf_filter, wf_nil, ← State.upTo_kp, ← dropReq_kp, ← finishDesc_kp, ← ladleCk_kp, ← ldlCount_kp, ← patEnd_kp, ← releaseHalf_kp, runPattern_kp]

end Sys2Proof.Machine
end

