-- ==== Sys2Proof/Laws/Keep06.lean ====
section
/-!
SUPPORT. Laws/Keep06.lean: each function of Machine/Runners, Link
that answers a state keeps the queue, the fuses and the canonical form.
-/
namespace Sys2Proof.Machine

open Sys2Proof

variable {kb : State}

/-! ## Machine/Runners.lean -/

theorem askNew_kp (s : State) (c : Nat) (eng : Nat) (seq : Nat) (new : List Req)
    (h0 : Kp kb s) : Kp kb (askNew s c eng seq new) := by
  unfold askNew; grind (splits := 14) (gen := 60) (ematch := 60) [Option.map_eq_some_iff, Option.bind_eq_some_iff, ← Kp.upd2, ← OKp.next, ← MKp.some, ← Kp.getD, ← Kp.foldl, ← Kp.foldl1, ← Kp.foldl2, ← Kp.foldl3, ← writeBytes_wf, ← wf_filter, wf_nil, ← modReq_kp]

theorem askMore_kp (s : State) (c : Nat) (eng : Nat) (seq : Nat)
    (h0 : Kp kb s) : Kp kb (askMore s c eng seq) := by
  unfold askMore; grind (splits := 14) (gen := 60) (ematch := 60) [Option.map_eq_some_iff, Option.bind_eq_some_iff, ← Kp.upd2, ← OKp.next, ← MKp.some, ← Kp.getD, ← Kp.foldl, ← Kp.foldl1, ← Kp.foldl2, ← Kp.foldl3, ← writeBytes_wf, ← wf_filter, wf_nil, ← askNew_kp, ← askTiles_kp, ← cruListed_kp]

theorem checkTile_kp (s : State) (c : Nat) (eng : Nat) (r : Req) (pl : List Byte) (sd : List Byte)
    (h0 : Kp kb s) : Kp kb (checkTile s c eng r pl sd).2.2 := by
  unfold checkTile; grind (splits := 14) (gen := 60) (ematch := 60) [Option.map_eq_some_iff, Option.bind_eq_some_iff, ← Kp.upd2, ← OKp.next, ← MKp.some, ← Kp.getD, ← Kp.foldl, ← Kp.foldl1, ← Kp.foldl2, ← Kp.foldl3, ← writeBytes_wf, ← wf_filter, wf_nil, ← State.injFails_kp]

theorem arrive_kp (s : State) (c : Nat) (eng : Nat) (seq : Nat) (r : Req) (pl : List Byte) (sd : List Byte) (st : Nat) (fail : Nat)
    (h0 : Kp kb s) : Kp kb (arrive s c eng seq r pl sd st fail) := by
  unfold arrive; grind (splits := 14) (gen := 60) (ematch := 60) [Option.map_eq_some_iff, Option.bind_eq_some_iff, ← Kp.upd2, ← OKp.next, ← MKp.some, ← Kp.getD, ← Kp.foldl, ← Kp.foldl1, ← Kp.foldl2, ← Kp.foldl3, ← writeBytes_wf, ← wf_filter, wf_nil, ← PRun.fail_kp, ← State.bump_kp, ← State.modCore_kp, ← askMore_kp, ← checkTile_kp, ← modReq_kp]

theorem localRead_kp (s : State) (r : Req)
    (h0 : Kp kb s) : Kp kb (localRead s r).2.2.2 := by
  unfold localRead; grind (splits := 14) (gen := 60) (ematch := 60) [Option.map_eq_some_iff, Option.bind_eq_some_iff, ← Kp.upd2, ← OKp.next, ← MKp.some, ← Kp.getD, ← Kp.foldl, ← Kp.foldl1, ← Kp.foldl2, ← Kp.foldl3, ← writeBytes_wf, ← wf_filter, wf_nil, ← readChunk_kp, ← readTile_kp]

theorem settleHbm_kp (z0 : Nat) (z1 : State) (z2 : Nat)
    (h0 : Kp kb z1) : Kp kb (settleHbm z0 z1 z2) := by
  fun_induction settleHbm z0 z1 z2 <;> grind (splits := 14) (gen := 60) (ematch := 60) [Option.map_eq_some_iff, Option.bind_eq_some_iff, ← Kp.upd2, ← OKp.next, ← MKp.some, ← Kp.getD, ← Kp.foldl, ← Kp.foldl1, ← Kp.foldl2, ← Kp.foldl3, ← writeBytes_wf, ← wf_filter, wf_nil, ← serveOpen_kp]

theorem leaveEntry_kp (s : State) (f : Flight) (pl : List Byte) (sd : List Byte) (good : Bool)
    (h0 : Kp kb s) : Kp kb (leaveEntry s f pl sd good) := by
  unfold leaveEntry; grind (splits := 14) (gen := 60) (ematch := 60) [Option.map_eq_some_iff, Option.bind_eq_some_iff, ← Kp.upd2, ← OKp.next, ← MKp.some, ← Kp.getD, ← Kp.foldl, ← Kp.foldl1, ← Kp.foldl2, ← Kp.foldl3, ← writeBytes_wf, ← wf_filter, wf_nil, ← fillDone_kp, ← sweepGone_kp]

theorem execRequestComplete_kp (c : Core) (s : State)
    (h0 : Kp kb s) : OKp kb (execRequestComplete c s) := by
  unfold execRequestComplete; grind (splits := 14) (gen := 60) (ematch := 60) [Option.map_eq_some_iff, Option.bind_eq_some_iff, ← Kp.upd2, ← OKp.next, ← MKp.some, ← Kp.getD, ← Kp.foldl, ← Kp.foldl1, ← Kp.foldl2, ← Kp.foldl3, ← writeBytes_wf, ← wf_filter, wf_nil, ← State.upTo_kp, ← acrossBridge_kp, ← arrive_kp, ← grantSlots_kp, ← landFlight_kp, ← leaveEntry_kp, ← localRead_kp, ← modReq_kp, ← prefetchNext_kp, ← readTile_kp, ← settleHbm_kp]

theorem applyPiece_kp (s : State) (c : Nat) (eng : Nat) (seq : Nat) (r : Req) (p : Piece)
    (h0 : Kp kb s) : Kp kb (applyPiece s c eng seq r p) := by
  unfold applyPiece; grind (splits := 14) (gen := 60) (ematch := 60) [Option.map_eq_some_iff, Option.bind_eq_some_iff, ← Kp.upd2, ← OKp.next, ← MKp.some, ← Kp.getD, ← Kp.foldl, ← Kp.foldl1, ← Kp.foldl2, ← Kp.foldl3, ← writeBytes_wf, ← wf_filter, wf_nil, ← arrive_kp, ← grantSlots_kp, ← landFlight_kp, ← leaveEntry_kp, ← unstageTile_kp]

theorem deliverRead_kp (s : State) (c : Nat) (f : Flight) (p : Piece) (stage : Option Nat)
    (h0 : Kp kb s) : Kp kb (deliverRead s c f p stage) := by
  unfold deliverRead; grind (splits := 14) (gen := 60) (ematch := 60) [Option.map_eq_some_iff, Option.bind_eq_some_iff, ← Kp.upd2, ← OKp.next, ← MKp.some, ← Kp.getD, ← Kp.foldl, ← Kp.foldl1, ← Kp.foldl2, ← Kp.foldl3, ← writeBytes_wf, ← wf_filter, wf_nil, ← applyPiece_kp, ← modRun_kp, ← outside_kp]

theorem runFinish_kp (p : RProg) (c : Nat) (i : Iss) (q : Requester) (endCk : Nat)
    (h0 : Kp kb p.s) : Kp kb (runFinish p c i q endCk) := by
  unfold runFinish; grind (splits := 14) (gen := 60) (ematch := 60) [Option.map_eq_some_iff, Option.bind_eq_some_iff, ← Kp.upd2, ← OKp.next, ← MKp.some, ← Kp.getD, ← Kp.foldl, ← Kp.foldl1, ← Kp.foldl2, ← Kp.foldl3, ← writeBytes_wf, ← wf_filter, wf_nil, ← State.wrapAdd_kp, ← dropReq_kp, ← finishDesc_kp, ← raiseFor_kp, ← showRun_kp, ← unstage_kp]

theorem cacheChunk_kp (s : State) (c : Nat) (a : Nat) (t : Nat) (bs : List Byte)
    (h0 : Kp kb s) : Kp kb (cacheChunk s c a t bs) := by
  unfold cacheChunk; grind (splits := 14) (gen := 60) (ematch := 60) [Option.map_eq_some_iff, Option.bind_eq_some_iff, ← Kp.upd2, ← OKp.next, ← MKp.some, ← Kp.getD, ← Kp.foldl, ← Kp.foldl1, ← Kp.foldl2, ← Kp.foldl3, ← writeBytes_wf, ← wf_filter, wf_nil, ← modLdl_kp, ← poke_kp]

theorem runnerCacheWrite_kp (p : RProg) (c : Nat) (a : Nat) (m : Nat) (bs : List Byte)
    (h0 : Kp kb p.s) : Kp kb (runnerCacheWrite p c a m bs).s := by
  unfold runnerCacheWrite; grind (splits := 14) (gen := 60) (ematch := 60) [Option.map_eq_some_iff, Option.bind_eq_some_iff, ← Kp.upd2, ← OKp.next, ← MKp.some, ← Kp.getD, ← Kp.foldl, ← Kp.foldl1, ← Kp.foldl2, ← Kp.foldl3, ← writeBytes_wf, ← wf_filter, wf_nil, ← cacheChunk_kp]

theorem putBytes_kp (p : RProg) (c : Nat) (seq : Nat) (r : Region) (loc : Bool) (off : Nat) (bs : List Byte)
    (h0 : Kp kb p.s) : Kp kb (putBytes p c seq r loc off bs).s := by
  unfold putBytes
  split
  · exact h0
  · split
    · exact h0
    · split
      · exact foldl_inv (fun x : RProg × List Byte × Nat => Kp kb x.1.s) _ (fun x a h => runnerCacheWrite_kp _ _ _ _ _ h) _ _ h0
      · split
        · exact h0
        · exact storeRegion_kp _ _ _ _ _ _ _ h0

theorem putTile_kp (p : RProg) (c : Nat) (seq : Nat) (r : Region) (loc : Bool) (j : Nat) (payload : List Byte) (side : List Byte)
    (h0 : Kp kb p.s) : Kp kb (putTile p c seq r loc j payload side).s := by
  unfold putTile; grind (splits := 14) (gen := 60) (ematch := 60) [Option.map_eq_some_iff, Option.bind_eq_some_iff, ← Kp.upd2, ← OKp.next, ← MKp.some, ← Kp.getD, ← Kp.foldl, ← Kp.foldl1, ← Kp.foldl2, ← Kp.foldl3, ← writeBytes_wf, ← wf_filter, wf_nil, ← putBytes_kp, ← storeTile_kp]

theorem moveProg_kp (s : State) (c : Nat) (i : Iss) (q : Requester)
    (h0 : Kp kb s) : Kp kb (moveProg s c i q).s := by
  unfold moveProg; grind (splits := 14) (gen := 60) (ematch := 60) [Option.map_eq_some_iff, Option.bind_eq_some_iff, ← Kp.upd2, ← OKp.next, ← MKp.some, ← Kp.getD, ← Kp.foldl, ← Kp.foldl1, ← Kp.foldl2, ← Kp.foldl3, ← writeBytes_wf, ← wf_filter, wf_nil]

theorem localTile_kp (s : State) (c : Nat) (r : Region) (j : Nat)
    (h0 : Kp kb s) : Kp kb (localTile s c r j).2.2 := by
  unfold localTile; grind (splits := 14) (gen := 60) (ematch := 60) [Option.map_eq_some_iff, Option.bind_eq_some_iff, ← Kp.upd2, ← OKp.next, ← MKp.some, ← Kp.getD, ← Kp.foldl, ← Kp.foldl1, ← Kp.foldl2, ← Kp.foldl3, ← writeBytes_wf, ← wf_filter, wf_nil, ← State.bump_kp, ← State.injFails_kp, ← cacheStatus_kp, ← raise_kp]

theorem srcTile_kp (p : RProg) (c : Nat) (d : Desc) (q : Requester) (j : Nat)
    (h0 : Kp kb p.s) : Kp kb (srcTile p c d q j).2.2.s := by
  unfold srcTile; grind (splits := 14) (gen := 60) (ematch := 60) [Option.map_eq_some_iff, Option.bind_eq_some_iff, ← Kp.upd2, ← OKp.next, ← MKp.some, ← Kp.getD, ← Kp.foldl, ← Kp.foldl1, ← Kp.foldl2, ← Kp.foldl3, ← writeBytes_wf, ← wf_filter, wf_nil, ← localTile_kp]

theorem localBytes_kp (p : RProg) (c : Nat) (r : Region) (off : Nat) (n : Nat)
    (h0 : Kp kb p.s) : Kp kb (localBytes p c r off n).2.s := by
  unfold localBytes; grind (splits := 14) (gen := 60) (ematch := 60) [Option.map_eq_some_iff, Option.bind_eq_some_iff, ← Kp.upd2, ← OKp.next, ← MKp.some, ← Kp.getD, ← Kp.foldl, ← Kp.foldl1, ← Kp.foldl2, ← Kp.foldl3, ← writeBytes_wf, ← wf_filter, wf_nil, ← raise_kp, ← readRegion_kp]

theorem runnerRead_kp (c : Nat) (i : Iss) (k : Nat) (pos : Nat) (n : Nat) (p : PRun)
    (h0 : Kp kb p.s) : Kp kb (runnerRead c i k pos n p).2.s := by
  unfold runnerRead; grind (splits := 14) (gen := 60) (ematch := 60) [Option.map_eq_some_iff, Option.bind_eq_some_iff, ← Kp.upd2, ← OKp.next, ← MKp.some, ← Kp.getD, ← Kp.foldl, ← Kp.foldl1, ← Kp.foldl2, ← Kp.foldl3, ← writeBytes_wf, ← wf_filter, wf_nil, ← PRun.fail_kp, ← raise_kp, ← readRegion_kp]

theorem runnerCk_kp (c : Nat) (i : Iss) (w : CWord) (p : PRun)
    (h0 : Kp kb p.s) : Kp kb (runnerCk c i w p).s := by
  unfold runnerCk
  dsimp only
  have k1 : Kp kb ((w.agus.zip p.pos).foldl (fun (x : List Byte × PRun) a =>
    if a.1.en && !a.1.write then
      (x.1 ++ (runnerRead c i a.1.region a.2.toNat a.1.width x.2).1, (runnerRead c i a.1.region a.2.toNat a.1.width x.2).2)
    else x) ([], p)).2.s := by
    refine foldl_inv (fun x : List Byte × PRun => Kp kb x.2.s) _ (fun x a h => ?_) _ _ h0
    split
    · exact runnerRead_kp _ _ _ _ _ _ h
    · exact h
  revert k1
  generalize List.foldl _ ([], p) (w.agus.zip p.pos) = r
  intro k1
  split
  · exact k1
  · have k2 : Kp kb ((w.agus.zip r.2.pos).foldl (fun (x : RProg × List Byte) a =>
      if a.1.en && a.1.write then
        (putBytes x.1 c i.seq (aguRegion i.desc i.desc.rloc a.1.region).1 (aguRegion i.desc i.desc.rloc a.1.region).2 a.2.toNat
          (x.2.take a.1.width), x.2.drop a.1.width)
      else x) (({ s := r.2.s, ck0 := i.relCk + 32 + r.2.t } : RProg), r.1)).1.s := by
      refine foldl_inv (fun x : RProg × List Byte => Kp kb x.1.s) _ (fun x a h => ?_) _ _ k1
      split
      · exact putBytes_kp _ _ _ _ _ _ _ h
      · exact h
    split
    · exact k2
    · exact PRun.fail_kp _ _ k2

theorem runByPattern_kp (s : State) (c : Nat) (i : Iss) (q : Requester)
    (h0 : Kp kb s) : OKp kb (runByPattern s c i q) := by
  unfold runByPattern; grind (splits := 14) (gen := 60) (ematch := 60) [Option.map_eq_some_iff, Option.bind_eq_some_iff, ← Kp.upd2, ← OKp.next, ← MKp.some, ← Kp.getD, ← Kp.foldl, ← Kp.foldl1, ← Kp.foldl2, ← Kp.foldl3, ← writeBytes_wf, ← wf_filter, wf_nil, ← patEnd_kp, ← runFinish_kp, runPattern_kp, ← runnerCk_kp]

theorem runOp_kp (c : Nat) (op : Nat) (s : State) (f : Iss → Requester → Host.Outcome State Fault Refusal)
    (h0 : Kp kb s) (h1 : ∀ y0 y1, OKp kb (f y0 y1)) : OKp kb (runOp c op s f) := by
  unfold runOp; grind (splits := 14) (gen := 60) (ematch := 60) [Option.map_eq_some_iff, Option.bind_eq_some_iff, ← Kp.upd2, ← OKp.next, ← MKp.some, ← Kp.getD, ← Kp.foldl, ← Kp.foldl1, ← Kp.foldl2, ← Kp.foldl3, ← writeBytes_wf, ← wf_filter, wf_nil, ← runByPattern_kp]

theorem copyTiles_kp (c : Nat) (seq : Nat) (d : Desc) (z0 : Nat) (z1 : Nat) (z2 : Requester) (z3 : RProg)
    (h0 : Kp kb z3.s) : Kp kb (copyTiles c seq d z0 z1 z2 z3).2.s := by
  fun_induction copyTiles c seq d z0 z1 z2 z3 <;> grind (splits := 14) (gen := 60) (ematch := 60) [Option.map_eq_some_iff, Option.bind_eq_some_iff, ← Kp.upd2, ← OKp.next, ← MKp.some, ← Kp.getD, ← Kp.foldl, ← Kp.foldl1, ← Kp.foldl2, ← Kp.foldl3, ← writeBytes_wf, ← wf_filter, wf_nil, ← putTile_kp, ← srcTile_kp]

theorem srcElems_kp (c : Nat) (d : Desc) (z0 : Nat) (z1 : Nat) (z2 : Requester) (z3 : RProg) (z4 : List SrcElem)
    (h0 : Kp kb z3.s) : Kp kb (srcElems c d z0 z1 z2 z3 z4).2.2.s := by
  fun_induction srcElems c d z0 z1 z2 z3 z4 <;> grind (splits := 14) (gen := 60) (ematch := 60) [Option.map_eq_some_iff, Option.bind_eq_some_iff, ← Kp.upd2, ← OKp.next, ← MKp.some, ← Kp.getD, ← Kp.foldl, ← Kp.foldl1, ← Kp.foldl2, ← Kp.foldl3, ← writeBytes_wf, ← wf_filter, wf_nil, ← srcTile_kp]

theorem putConv_kp (c : Nat) (i : Iss) (z0 : Nat) (z1 : Nat) (z2 : List SrcElem) (z3 : RProg)
    (h0 : Kp kb z3.s) : Kp kb (putConv c i z0 z1 z2 z3).s := by
  fun_induction putConv c i z0 z1 z2 z3 <;> grind (splits := 14) (gen := 60) (ematch := 60) [Option.map_eq_some_iff, Option.bind_eq_some_iff, ← Kp.upd2, ← OKp.next, ← MKp.some, ← Kp.getD, ← Kp.foldl, ← Kp.foldl1, ← Kp.foldl2, ← Kp.foldl3, ← writeBytes_wf, ← wf_filter, wf_nil, ← putTile_kp]

theorem copyConv_kp (c : Nat) (i : Iss) (q : Requester) (p : RProg)
    (h0 : Kp kb p.s) : Kp kb (copyConv c i q p).2.s := by
  unfold copyConv; grind (splits := 14) (gen := 60) (ematch := 60) [Option.map_eq_some_iff, Option.bind_eq_some_iff, ← Kp.upd2, ← OKp.next, ← MKp.some, ← Kp.getD, ← Kp.foldl, ← Kp.foldl1, ← Kp.foldl2, ← Kp.foldl3, ← writeBytes_wf, ← wf_filter, wf_nil, ← putConv_kp, ← srcElems_kp]

theorem copyRaw_kp (c : Nat) (seq : Nat) (d : Desc) (z0 : List (Nat × Piece)) (z1 : Nat) (z2 : RProg)
    (h0 : Kp kb z2.s) : Kp kb (copyRaw c seq d z0 z1 z2).s := by
  fun_induction copyRaw c seq d z0 z1 z2 <;> grind (splits := 14) (gen := 60) (ematch := 60) [Option.map_eq_some_iff, Option.bind_eq_some_iff, ← Kp.upd2, ← OKp.next, ← MKp.some, ← Kp.getD, ← Kp.foldl, ← Kp.foldl1, ← Kp.foldl2, ← Kp.foldl3, ← writeBytes_wf, ← wf_filter, wf_nil, ← putBytes_kp]

theorem execCopy_kp (c : Core) (s : State)
    (h0 : Kp kb s) : OKp kb (execCopy c s) := by
  unfold execCopy; grind (splits := 14) (gen := 60) (ematch := 60) [Option.map_eq_some_iff, Option.bind_eq_some_iff, ← Kp.upd2, ← OKp.next, ← MKp.some, ← Kp.getD, ← Kp.foldl, ← Kp.foldl1, ← Kp.foldl2, ← Kp.foldl3, ← writeBytes_wf, ← wf_filter, wf_nil, ← copyConv_kp, ← copyRaw_kp, ← copyTiles_kp, ← localBytes_kp, ← moveProg_kp, ← putBytes_kp, ← runFinish_kp, ← runOp_kp]

theorem fillChunk_kp (c : Nat) (i : Iss) (p : RProg) (off : Nat) (a : Nat) (n : Nat)
    (h0 : Kp kb p.s) : Kp kb (fillChunk c i p off a n).s := by
  unfold fillChunk; grind (splits := 14) (gen := 60) (ematch := 60) [Option.map_eq_some_iff, Option.bind_eq_some_iff, ← Kp.upd2, ← OKp.next, ← MKp.some, ← Kp.getD, ← Kp.foldl, ← Kp.foldl1, ← Kp.foldl2, ← Kp.foldl3, ← writeBytes_wf, ← wf_filter, wf_nil, ← putBytes_kp, ← storeTile_kp, ← unmapTile_kp]

theorem execFill_kp (c : Core) (s : State)
    (h0 : Kp kb s) : OKp kb (execFill c s) := by
  refine runOp_kp _ _ _ _ h0 (fun i q => ?_)
  refine OKp.ite (.next h0) ?_
  exact .next (runFinish_kp _ _ _ _ _ (foldl_inv (fun x : RProg × Nat => Kp kb x.1.s) _
    (fun x a hx => fillChunk_kp _ _ _ _ _ _ hx) _ _ h0))

theorem execFillAll_kp (c : Core) (s : State)
    (h0 : Kp kb s) : OKp kb (execFillAll c s) := by
  unfold execFillAll; grind (splits := 14) (gen := 60) (ematch := 60) [Option.map_eq_some_iff, Option.bind_eq_some_iff, ← Kp.upd2, ← OKp.next, ← MKp.some, ← Kp.getD, ← Kp.foldl, ← Kp.foldl1, ← Kp.foldl2, ← Kp.foldl3, ← writeBytes_wf, ← wf_filter, wf_nil, ← State.setFld_kp, ← runFinish_kp, ← runOp_kp]

theorem indexList_kp (p : RProg) (c : Nat) (d : Desc) (q : Requester) (t : Nat) (u : Nat)
    (h0 : Kp kb p.s) : Kp kb (indexList p c d q t u).2.s := by
  unfold indexList; grind (splits := 14) (gen := 60) (ematch := 60) [Option.map_eq_some_iff, Option.bind_eq_some_iff, ← Kp.upd2, ← OKp.next, ← MKp.some, ← Kp.getD, ← Kp.foldl, ← Kp.foldl1, ← Kp.foldl2, ← Kp.foldl3, ← writeBytes_wf, ← wf_filter, wf_nil, ← localBytes_kp]

theorem gatherRows_kp (c : Nat) (i : Iss) (q : Requester) (z0 : List Nat) (z1 : Nat) (z2 : Nat) (z3 : RProg)
    (h0 : Kp kb z3.s) : Kp kb (gatherRows c i q z0 z1 z2 z3).s := by
  fun_induction gatherRows c i q z0 z1 z2 z3 <;> grind (splits := 14) (gen := 60) (ematch := 60) [Option.map_eq_some_iff, Option.bind_eq_some_iff, ← Kp.upd2, ← OKp.next, ← MKp.some, ← Kp.getD, ← Kp.foldl, ← Kp.foldl1, ← Kp.foldl2, ← Kp.foldl3, ← writeBytes_wf, ← wf_filter, wf_nil, ← localBytes_kp, ← putBytes_kp]

theorem sectorProg_kp (s : State) (c : Nat) (i : Iss) (q : Requester)
    (h0 : Kp kb s) : Kp kb (sectorProg s c i q).s := by
  unfold sectorProg; grind (splits := 14) (gen := 60) (ematch := 60) [Option.map_eq_some_iff, Option.bind_eq_some_iff, ← Kp.upd2, ← OKp.next, ← MKp.some, ← Kp.getD, ← Kp.foldl, ← Kp.foldl1, ← Kp.foldl2, ← Kp.foldl3, ← writeBytes_wf, ← wf_filter, wf_nil]

theorem execGather_kp (c : Core) (s : State)
    (h0 : Kp kb s) : OKp kb (execGather c s) := by
  unfold execGather; grind (splits := 14) (gen := 60) (ematch := 60) [Option.map_eq_some_iff, Option.bind_eq_some_iff, ← Kp.upd2, ← OKp.next, ← MKp.some, ← Kp.getD, ← Kp.foldl, ← Kp.foldl1, ← Kp.foldl2, ← Kp.foldl3, ← writeBytes_wf, ← wf_filter, wf_nil, ← gatherRows_kp, ← indexList_kp, ← runFinish_kp, ← runOp_kp, ← sectorProg_kp]

theorem scatterRows_kp (c : Nat) (i : Iss) (rows : List Byte) (z0 : List Nat) (z1 : Nat) (z2 : RProg)
    (h0 : Kp kb z2.s) : Kp kb (scatterRows c i rows z0 z1 z2).s := by
  fun_induction scatterRows c i rows z0 z1 z2 <;> grind (splits := 14) (gen := 60) (ematch := 60) [Option.map_eq_some_iff, Option.bind_eq_some_iff, ← Kp.upd2, ← OKp.next, ← MKp.some, ← Kp.getD, ← Kp.foldl, ← Kp.foldl1, ← Kp.foldl2, ← Kp.foldl3, ← writeBytes_wf, ← wf_filter, wf_nil, ← putBytes_kp]

theorem execScatter_kp (c : Core) (s : State)
    (h0 : Kp kb s) : OKp kb (execScatter c s) := by
  unfold execScatter; grind (splits := 14) (gen := 60) (ematch := 60) [Option.map_eq_some_iff, Option.bind_eq_some_iff, ← Kp.upd2, ← OKp.next, ← MKp.some, ← Kp.getD, ← Kp.foldl, ← Kp.foldl1, ← Kp.foldl2, ← Kp.foldl3, ← writeBytes_wf, ← wf_filter, wf_nil, ← indexList_kp, ← localBytes_kp, ← runFinish_kp, ← runOp_kp, ← scatterRows_kp, ← sectorProg_kp]

theorem execPrefetch_kp (c : Core) (s : State)
    (h0 : Kp kb s) : OKp kb (execPrefetch c s) := by
  unfold execPrefetch; grind (splits := 14) (gen := 60) (ematch := 60) [Option.map_eq_some_iff, Option.bind_eq_some_iff, ← Kp.upd2, ← OKp.next, ← MKp.some, ← Kp.getD, ← Kp.foldl, ← Kp.foldl1, ← Kp.foldl2, ← Kp.foldl3, ← writeBytes_wf, ← wf_filter, wf_nil, ← runFinish_kp, ← runOp_kp]

theorem execInval_kp (c : Core) (s : State)
    (h0 : Kp kb s) : OKp kb (execInval c s) := by
  unfold execInval; grind (splits := 14) (gen := 60) (ematch := 60) [Option.map_eq_some_iff, Option.bind_eq_some_iff, ← Kp.upd2, ← OKp.next, ← MKp.some, ← Kp.getD, ← Kp.foldl, ← Kp.foldl1, ← Kp.foldl2, ← Kp.foldl3, ← writeBytes_wf, ← wf_filter, wf_nil, ← invalidate_kp, ← runFinish_kp, ← runOp_kp]

/-! ## Machine/Link.lean -/

theorem enqueue_kp (s : State) (p : Nat) (m : Packet) (own : Bool) (half : Option Bool)
    (h0 : Kp kb s) : Kp kb (enqueue s p m own half) := by
  unfold enqueue; grind (splits := 14) (gen := 60) (ematch := 60) [Option.map_eq_some_iff, Option.bind_eq_some_iff, ← Kp.upd2, ← OKp.next, ← MKp.some, ← Kp.getD, ← Kp.foldl, ← Kp.foldl1, ← Kp.foldl2, ← Kp.foldl3, ← writeBytes_wf, ← wf_filter, wf_nil, ← State.setReg_kp, ← modLink_kp]

theorem failRemote_kp (s : State) (r : RemReq) (code : Nat)
    (h0 : Kp kb s) : Kp kb (failRemote s r code) := by
  unfold failRemote; grind (splits := 14) (gen := 60) (ematch := 60) [Option.map_eq_some_iff, Option.bind_eq_some_iff, ← Kp.upd2, ← OKp.next, ← MKp.some, ← Kp.getD, ← Kp.foldl, ← Kp.foldl1, ← Kp.foldl2, ← Kp.foldl3, ← writeBytes_wf, ← wf_filter, wf_nil, ← deliverRead_kp, ← failFin_kp, ← pumpWrites_kp, ← touchFin_kp]

theorem portDown_kp (s : State) (p : Nat)
    (h0 : Kp kb s) : Kp kb (portDown s p) := by
  unfold portDown; grind (splits := 14) (gen := 60) (ematch := 60) [Option.map_eq_some_iff, Option.bind_eq_some_iff, ← Kp.upd2, ← OKp.next, ← MKp.some, ← Kp.getD, ← Kp.foldl, ← Kp.foldl1, ← Kp.foldl2, ← Kp.foldl3, ← writeBytes_wf, ← wf_filter, wf_nil, ← State.bump_kp, ← eraseKeys_kp, ← failRemote_kp, ← modLink_kp]

theorem leavePort_kp (s : State) (p : Nat) (new : Nat)
    (h0 : Kp kb s) : Kp kb (leavePort s p new) := by
  unfold leavePort; grind (splits := 14) (gen := 60) (ematch := 60) [Option.map_eq_some_iff, Option.bind_eq_some_iff, ← Kp.upd2, ← OKp.next, ← MKp.some, ← Kp.getD, ← Kp.foldl, ← Kp.foldl1, ← Kp.foldl2, ← Kp.foldl3, ← writeBytes_wf, ← wf_filter, wf_nil, ← State.setFld_kp, ← portDown_kp, ← raise_kp]

theorem startRetrain_kp (s : State) (p : Nat)
    (h0 : Kp kb s) : Kp kb (startRetrain s p) := by
  unfold startRetrain; grind (splits := 14) (gen := 60) (ematch := 60) [Option.map_eq_some_iff, Option.bind_eq_some_iff, ← Kp.upd2, ← OKp.next, ← MKp.some, ← Kp.getD, ← Kp.foldl, ← Kp.foldl1, ← Kp.foldl2, ← Kp.foldl3, ← writeBytes_wf, ← wf_filter, wf_nil, ← State.bump_kp, ← State.setFld_kp, ← modLink_kp, ← raise_kp]

theorem protoError_kp (s : State) (p : Nat)
    (h0 : Kp kb s) : Kp kb (protoError s p) := by
  unfold protoError; grind (splits := 14) (gen := 60) (ematch := 60) [Option.map_eq_some_iff, Option.bind_eq_some_iff, ← Kp.upd2, ← OKp.next, ← MKp.some, ← Kp.getD, ← Kp.foldl, ← Kp.foldl1, ← Kp.foldl2, ← Kp.foldl3, ← writeBytes_wf, ← wf_filter, wf_nil, ← State.bump_kp, ← startRetrain_kp]

theorem stampFlit_kp (s : State) (p : Nat) (f : Flit)
    (h0 : Kp kb s) : Kp kb (stampFlit s p f).2 := by
  unfold stampFlit; grind (splits := 14) (gen := 60) (ematch := 60) [Option.map_eq_some_iff, Option.bind_eq_some_iff, ← Kp.upd2, ← OKp.next, ← MKp.some, ← Kp.getD, ← Kp.foldl, ← Kp.foldl1, ← Kp.foldl2, ← Kp.foldl3, ← writeBytes_wf, ← wf_filter, wf_nil, ← modLink_kp]

theorem drive_kp (s : State) (p : Nat) (f : Flit)
    (h0 : Kp kb s) : Kp kb (drive s p f) := by
  unfold drive; grind (splits := 14) (gen := 60) (ematch := 60) [Option.map_eq_some_iff, Option.bind_eq_some_iff, ← Kp.upd2, ← OKp.next, ← MKp.some, ← Kp.getD, ← Kp.foldl, ← Kp.foldl1, ← Kp.foldl2, ← Kp.foldl3, ← writeBytes_wf, ← wf_filter, wf_nil, ← State.wrapAdd_kp, ← modLink_kp]

theorem keySwitch_kp (s : State) (p : Nat)
    (h0 : Kp kb s) : Kp kb (keySwitch s p) := by
  unfold keySwitch; grind (splits := 14) (gen := 60) (ematch := 60) [Option.map_eq_some_iff, Option.bind_eq_some_iff, ← Kp.upd2, ← OKp.next, ← MKp.some, ← Kp.getD, ← Kp.foldl, ← Kp.foldl1, ← Kp.foldl2, ← Kp.foldl3, ← writeBytes_wf, ← wf_filter, wf_nil, ← State.setFld_kp, ← State.setReg_kp, ← modLink_kp]

theorem sendSeq_kp (s : State) (p : Nat) (q : QFlit)
    (h0 : Kp kb s) : Kp kb (sendSeq s p q) := by
  unfold sendSeq; grind (splits := 14) (gen := 60) (ematch := 60) [Option.map_eq_some_iff, Option.bind_eq_some_iff, ← Kp.upd2, ← OKp.next, ← MKp.some, ← Kp.getD, ← Kp.foldl, ← Kp.foldl1, ← Kp.foldl2, ← Kp.foldl3, ← writeBytes_wf, ← wf_filter, wf_nil, ← State.setReg_kp, ← drive_kp, ← keySwitch_kp, ← modLink_kp, ← stampFlit_kp]

theorem sendClass_kp (s : State) (p : Nat) (c : Nat) (share : Bool)
    (h0 : Kp kb s) : Kp kb (sendClass s p c share) := by
  unfold sendClass; grind (splits := 14) (gen := 60) (ematch := 60) [Option.map_eq_some_iff, Option.bind_eq_some_iff, ← Kp.upd2, ← OKp.next, ← MKp.some, ← Kp.getD, ← Kp.foldl, ← Kp.foldl1, ← Kp.foldl2, ← Kp.foldl3, ← writeBytes_wf, ← wf_filter, wf_nil, ← State.bump_kp, ← modLink_kp, ← raise_kp, ← sendSeq_kp]

theorem execFlitTransmit_kp (p : Port) (s : State)
    (h0 : Kp kb s) : OKp kb (execFlitTransmit p s) := by
  unfold execFlitTransmit; grind (splits := 14) (gen := 60) (ematch := 60) [Option.map_eq_some_iff, Option.bind_eq_some_iff, ← Kp.upd2, ← OKp.next, ← MKp.some, ← Kp.getD, ← Kp.foldl, ← Kp.foldl1, ← Kp.foldl2, ← Kp.foldl3, ← writeBytes_wf, ← wf_filter, wf_nil, ← drive_kp, ← modLink_kp, ← sendClass_kp, ← sendSeq_kp, ← stampFlit_kp, ← startRetrain_kp]

theorem askNak_kp (s : State) (p : Nat)
    (h0 : Kp kb s) : Kp kb (askNak s p) := by
  unfold askNak; grind (splits := 14) (gen := 60) (ematch := 60) [Option.map_eq_some_iff, Option.bind_eq_some_iff, ← Kp.upd2, ← OKp.next, ← MKp.some, ← Kp.getD, ← Kp.foldl, ← Kp.foldl1, ← Kp.foldl2, ← Kp.foldl3, ← writeBytes_wf, ← wf_filter, wf_nil, ← modLink_kp]

theorem takeAck_kp (s : State) (p : Nat) (f : Flit)
    (h0 : Kp kb s) : Kp kb (takeAck s p f) := by
  unfold takeAck; grind (splits := 14) (gen := 60) (ematch := 60) [Option.map_eq_some_iff, Option.bind_eq_some_iff, ← Kp.upd2, ← OKp.next, ← MKp.some, ← Kp.getD, ← Kp.foldl, ← Kp.foldl1, ← Kp.foldl2, ← Kp.foldl3, ← writeBytes_wf, ← wf_filter, wf_nil, ← State.setFld_kp, ← modLink_kp]

theorem freeFlits_kp (s : State) (p : Nat) (m : Packet)
    (h0 : Kp kb s) : Kp kb (freeFlits s p m) := by
  unfold freeFlits; grind (splits := 14) (gen := 60) (ematch := 60) [Option.map_eq_some_iff, Option.bind_eq_some_iff, ← Kp.upd2, ← OKp.next, ← MKp.some, ← Kp.getD, ← Kp.foldl, ← Kp.foldl1, ← Kp.foldl2, ← Kp.foldl3, ← writeBytes_wf, ← wf_filter, wf_nil, ← modLink_kp]

theorem landPacket_kp (s : State) (p : Nat) (m : Packet)
    (h0 : Kp kb s) : Kp kb (landPacket s p m) := by
  unfold landPacket; grind (splits := 14) (gen := 60) (ematch := 60) [Option.map_eq_some_iff, Option.bind_eq_some_iff, ← Kp.upd2, ← OKp.next, ← MKp.some, ← Kp.getD, ← Kp.foldl, ← Kp.foldl1, ← Kp.foldl2, ← Kp.foldl3, ← writeBytes_wf, ← wf_filter, wf_nil, ← freeFlits_kp]

theorem takeData_kp (s : State) (p : Nat) (f : Flit)
    (h0 : Kp kb s) : Kp kb (takeData s p f) := by
  unfold takeData; grind (splits := 14) (gen := 60) (ematch := 60) [Option.map_eq_some_iff, Option.bind_eq_some_iff, ← Kp.upd2, ← OKp.next, ← MKp.some, ← Kp.getD, ← Kp.foldl, ← Kp.foldl1, ← Kp.foldl2, ← Kp.foldl3, ← writeBytes_wf, ← wf_filter, wf_nil, ← landPacket_kp, ← modLink_kp, ← protoError_kp]

theorem takeCtrl_kp (s : State) (p : Nat) (f : Flit)
    (h0 : Kp kb s) : Kp kb (takeCtrl s p f) := by
  unfold takeCtrl; grind (splits := 14) (gen := 60) (ematch := 60) [Option.map_eq_some_iff, Option.bind_eq_some_iff, ← Kp.upd2, ← OKp.next, ← MKp.some, ← Kp.getD, ← Kp.foldl, ← Kp.foldl1, ← Kp.foldl2, ← Kp.foldl3, ← writeBytes_wf, ← wf_filter, wf_nil, ← modLink_kp]

theorem deliverFlit_kp (s : State) (p : Nat) (f : Flit)
    (h0 : Kp kb s) : Kp kb (deliverFlit s p f) := by
  unfold deliverFlit; grind (splits := 14) (gen := 60) (ematch := 60) [Option.map_eq_some_iff, Option.bind_eq_some_iff, ← Kp.upd2, ← OKp.next, ← MKp.some, ← Kp.getD, ← Kp.foldl, ← Kp.foldl1, ← Kp.foldl2, ← Kp.foldl3, ← writeBytes_wf, ← wf_filter, wf_nil, ← takeCtrl_kp, ← takeData_kp]

theorem closeFrame_kp (s : State) (p : Nat) (tag : Flit)
    (h0 : Kp kb s) : Kp kb (closeFrame s p tag) := by
  unfold closeFrame; grind (splits := 14) (gen := 60) (ematch := 60) [Option.map_eq_some_iff, Option.bind_eq_some_iff, ← Kp.upd2, ← OKp.next, ← MKp.some, ← Kp.getD, ← Kp.foldl, ← Kp.foldl1, ← Kp.foldl2, ← Kp.foldl3, ← writeBytes_wf, ← wf_filter, wf_nil, ← State.bump_kp, ← State.disarm_kp, ← askNak_kp, ← deliverFlit_kp, ← leavePort_kp, ← modLink_kp, ← raise_kp]

theorem takeSeq_kp (s : State) (p : Nat) (f : Flit)
    (h0 : Kp kb s) : Kp kb (takeSeq s p f) := by
  unfold takeSeq; dsimp only; (repeat' split) <;> grind (splits := 14) (gen := 60) (ematch := 60) [Option.map_eq_some_iff, Option.bind_eq_some_iff, ← Kp.upd2, ← OKp.next, ← MKp.some, ← Kp.getD, ← Kp.foldl, ← Kp.foldl1, ← Kp.foldl2, ← Kp.foldl3, ← writeBytes_wf, ← wf_filter, wf_nil, ← askNak_kp, ← closeFrame_kp, ← deliverFlit_kp, ← modLink_kp, ← protoError_kp]

theorem takeQuenchSet_kp (s : State) (p : Nat) (dev : Nat) (cause : Nat) (count : Nat) (nonce : Nat) (frame : Nat)
    (h0 : Kp kb s) : Kp kb (takeQuenchSet s p dev cause count nonce frame) := by
  unfold takeQuenchSet; grind (splits := 14) (gen := 60) (ematch := 60) [Option.map_eq_some_iff, Option.bind_eq_some_iff, ← Kp.upd2, ← OKp.next, ← MKp.some, ← Kp.getD, ← Kp.foldl, ← Kp.foldl1, ← Kp.foldl2, ← Kp.foldl3, ← writeBytes_wf, ← wf_filter, wf_nil, ← leavePort_kp, ← raise_kp, ← sendMsg_kp]

theorem takeInQuench_kp (s : State) (p : Nat) (f : Flit)
    (h0 : Kp kb s) : Kp kb (takeInQuench s p f) := by
  unfold takeInQuench; grind (splits := 14) (gen := 60) (ematch := 60) [Option.map_eq_some_iff, Option.bind_eq_some_iff, ← Kp.upd2, ← OKp.next, ← MKp.some, ← Kp.getD, ← Kp.foldl, ← Kp.foldl1, ← Kp.foldl2, ← Kp.foldl3, ← writeBytes_wf, ← wf_filter, wf_nil, ← modLink_kp]

theorem execFlitReceive_kp (p : Port) (raw : BitVec 2048) (uncorr : Bool) (s : State)
    (h0 : Kp kb s) : OKp kb (execFlitReceive p raw uncorr s) := by
  unfold execFlitReceive; grind (splits := 14) (gen := 60) (ematch := 60) [Option.map_eq_some_iff, Option.bind_eq_some_iff, ← Kp.upd2, ← OKp.next, ← MKp.some, ← Kp.getD, ← Kp.foldl, ← Kp.foldl1, ← Kp.foldl2, ← Kp.foldl3, ← writeBytes_wf, ← wf_filter, wf_nil, ← State.bump_kp, ← State.disarm_kp, ← State.wrapAdd_kp, ← askNak_kp, ← protoError_kp, ← takeAck_kp, ← takeInQuench_kp, ← takeQuenchSet_kp, ← takeSeq_kp]

theorem execQuenchSetReceive_kp (p : Port) (q : QSet) (s : State)
    (h0 : Kp kb s) : OKp kb (execQuenchSetReceive p q s) := by
  unfold execQuenchSetReceive; grind (splits := 14) (gen := 60) (ematch := 60) [Option.map_eq_some_iff, Option.bind_eq_some_iff, ← Kp.upd2, ← OKp.next, ← MKp.some, ← Kp.getD, ← Kp.foldl, ← Kp.foldl1, ← Kp.foldl2, ← Kp.foldl3, ← writeBytes_wf, ← wf_filter, wf_nil, ← takeQuenchSet_kp]

theorem execLinkReplay_kp (p : Port) (e : Fin 3) (s : State)
    (h0 : Kp kb s) : OKp kb (execLinkReplay p e s) := by
  unfold execLinkReplay; grind (splits := 14) (gen := 60) (ematch := 60) [Option.map_eq_some_iff, Option.bind_eq_some_iff, ← Kp.upd2, ← OKp.next, ← MKp.some, ← Kp.getD, ← Kp.foldl, ← Kp.foldl1, ← Kp.foldl2, ← Kp.foldl3, ← writeBytes_wf, ← wf_filter, wf_nil, ← State.bump_kp, ← leavePort_kp, ← modLink_kp, ← raise_kp]

theorem execNakTimeout_kp (p : Port) (s : State)
    (h0 : Kp kb s) : OKp kb (execNakTimeout p s) := by
  unfold execNakTimeout; grind (splits := 14) (gen := 60) (ematch := 60) [Option.map_eq_some_iff, Option.bind_eq_some_iff, ← Kp.upd2, ← OKp.next, ← MKp.some, ← Kp.getD, ← Kp.foldl, ← Kp.foldl1, ← Kp.foldl2, ← Kp.foldl3, ← writeBytes_wf, ← wf_filter, wf_nil, ← State.upTo_kp, ← modLink_kp]

theorem execAckTimeout_kp (p : Port) (s : State)
    (h0 : Kp kb s) : OKp kb (execAckTimeout p s) := by
  unfold execAckTimeout; grind (splits := 14) (gen := 60) (ematch := 60) [Option.map_eq_some_iff, Option.bind_eq_some_iff, ← Kp.upd2, ← OKp.next, ← MKp.some, ← Kp.getD, ← Kp.foldl, ← Kp.foldl1, ← Kp.foldl2, ← Kp.foldl3, ← writeBytes_wf, ← wf_filter, wf_nil, ← State.upTo_kp, ← raise_kp, ← startRetrain_kp]

theorem execLaneWindow_kp (p : Port) (sym : List Nat) (corr : Nat) (s : State)
    (h0 : Kp kb s) : OKp kb (execLaneWindow p sym corr s) := by
  unfold execLaneWindow; grind (splits := 14) (gen := 60) (ematch := 60) [Option.map_eq_some_iff, Option.bind_eq_some_iff, ← Kp.upd2, ← OKp.next, ← MKp.some, ← Kp.getD, ← Kp.foldl, ← Kp.foldl1, ← Kp.foldl2, ← Kp.foldl3, ← writeBytes_wf, ← wf_filter, wf_nil, ← State.disarm_kp, ← State.setFld_kp, ← State.setReg_kp, ← State.wrapAdd_kp, ← modLink_kp, ← startRetrain_kp]

theorem takeMsg_kp (s : State) (p : Nat) (type : Nat)
    (h0 : Kp kb s) : ∀ xr0 xr1, (takeMsg s p type) = some (xr0, xr1) → Kp kb xr1 := by
  intros; rename_i hx; unfold takeMsg at hx; grind (splits := 14) (gen := 60) (ematch := 60) [Option.map_eq_some_iff, Option.bind_eq_some_iff, ← Kp.upd2, ← OKp.next, ← MKp.some, ← Kp.getD, ← Kp.foldl, ← Kp.foldl1, ← Kp.foldl2, ← Kp.foldl3, ← writeBytes_wf, ← wf_filter, wf_nil, ← modLink_kp]

theorem execLaneRequest_kp (p : Port) (s : State)
    (h0 : Kp kb s) : OKp kb (execLaneRequest p s) := by
  unfold execLaneRequest; grind (splits := 14) (gen := 60) (ematch := 60) [Option.map_eq_some_iff, Option.bind_eq_some_iff, ← Kp.upd2, ← OKp.next, ← MKp.some, ← Kp.getD, ← Kp.foldl, ← Kp.foldl1, ← Kp.foldl2, ← Kp.foldl3, ← writeBytes_wf, ← wf_filter, wf_nil, ← modLink_kp, takeMsg_kp]

theorem execSpareEqualisationDone_kp (p : Port) (s : State)
    (h0 : Kp kb s) : OKp kb (execSpareEqualisationDone p s) := by
  unfold execSpareEqualisationDone; grind (splits := 14) (gen := 60) (ematch := 60) [Option.map_eq_some_iff, Option.bind_eq_some_iff, ← Kp.upd2, ← OKp.next, ← MKp.some, ← Kp.getD, ← Kp.foldl, ← Kp.foldl1, ← Kp.foldl2, ← Kp.foldl3, ← writeBytes_wf, ← wf_filter, wf_nil, ← State.draw_kp, ← modLink_kp]

theorem execLaneSwitch_kp (p : Port) (s : State)
    (h0 : Kp kb s) : OKp kb (execLaneSwitch p s) := by
  unfold execLaneSwitch; grind (splits := 14) (gen := 60) (ematch := 60) [Option.map_eq_some_iff, Option.bind_eq_some_iff, ← Kp.upd2, ← OKp.next, ← MKp.some, ← Kp.getD, ← Kp.foldl, ← Kp.foldl1, ← Kp.foldl2, ← Kp.foldl3, ← writeBytes_wf, ← wf_filter, wf_nil, ← State.bump_kp, ← State.setFld_kp, ← jnlRetire_kp, ← modLink_kp, ← raise_kp, takeMsg_kp]

theorem execReEq_kp (p : Port) (s : State)
    (h0 : Kp kb s) : OKp kb (execReEq p s) := by
  unfold execReEq; grind (splits := 14) (gen := 60) (ematch := 60) [Option.map_eq_some_iff, Option.bind_eq_some_iff, ← Kp.upd2, ← OKp.next, ← MKp.some, ← Kp.getD, ← Kp.foldl, ← Kp.foldl1, ← Kp.foldl2, ← Kp.foldl3, ← writeBytes_wf, ← wf_filter, wf_nil, ← State.bump_kp, ← State.upTo_kp, ← modLink_kp]

theorem execPresenceAssert_kp (p : Port) (s : State)
    (h0 : Kp kb s) : OKp kb (execPresenceAssert p s) := by
  unfold execPresenceAssert; grind (splits := 14) (gen := 60) (ematch := 60) [Option.map_eq_some_iff, Option.bind_eq_some_iff, ← Kp.upd2, ← OKp.next, ← MKp.some, ← Kp.getD, ← Kp.foldl, ← Kp.foldl1, ← Kp.foldl2, ← Kp.foldl3, ← writeBytes_wf, ← wf_filter, wf_nil, ← State.setFld_kp, ← State.upTo_kp, ← raise_kp]

theorem execPresenceDeassert_kp (p : Port) (s : State)
    (h0 : Kp kb s) : OKp kb (execPresenceDeassert p s) := by
  unfold execPresenceDeassert; grind (splits := 14) (gen := 60) (ematch := 60) [Option.map_eq_some_iff, Option.bind_eq_some_iff, ← Kp.upd2, ← OKp.next, ← MKp.some, ← Kp.getD, ← Kp.foldl, ← Kp.foldl1, ← Kp.foldl2, ← Kp.foldl3, ← writeBytes_wf, ← wf_filter, wf_nil, ← State.setFld_kp, ← leavePort_kp, ← raise_kp]

theorem setLanes_kp (s : State) (p : Nat) (rx : Nat) (tx : Nat)
    (h0 : Kp kb s) : Kp kb (setLanes s p rx tx) := by
  unfold setLanes; grind (splits := 14) (gen := 60) (ematch := 60) [Option.map_eq_some_iff, Option.bind_eq_some_iff, ← Kp.upd2, ← OKp.next, ← MKp.some, ← Kp.getD, ← Kp.foldl, ← Kp.foldl1, ← Kp.foldl2, ← Kp.foldl3, ← writeBytes_wf, ← wf_filter, wf_nil, ← State.setFld_kp]

theorem freshLink_kp (s : State) (p : Nat)
    (h0 : Kp kb s) : Kp kb (freshLink s p) := by
  unfold freshLink; grind (splits := 14) (gen := 60) (ematch := 60) [Option.map_eq_some_iff, Option.bind_eq_some_iff, ← Kp.upd2, ← OKp.next, ← MKp.some, ← Kp.getD, ← Kp.foldl, ← Kp.foldl1, ← Kp.foldl2, ← Kp.foldl3, ← writeBytes_wf, ← wf_filter, wf_nil, ← modLink_kp]

theorem execTrainingComplete_kp (p : Port) (peer : Option (BitVec 23)) (rx : BitVec 5) (tx : BitVec 5) (s : State)
    (h0 : Kp kb s) : OKp kb (execTrainingComplete p peer rx tx s) := by
  unfold execTrainingComplete; grind (splits := 14) (gen := 60) (ematch := 60) [Option.map_eq_some_iff, Option.bind_eq_some_iff, ← Kp.upd2, ← OKp.next, ← MKp.some, ← Kp.getD, ← Kp.foldl, ← Kp.foldl1, ← Kp.foldl2, ← Kp.foldl3, ← writeBytes_wf, ← wf_filter, wf_nil, ← State.setFld_kp, ← State.setReg_kp, ← freshLink_kp, ← portDown_kp, ← setLanes_kp]

theorem execAvlCtrlRetrain_kp (p : Port) (s : State)
    (h0 : Kp kb s) : OKp kb (execAvlCtrlRetrain p s) := by
  unfold execAvlCtrlRetrain; grind (splits := 14) (gen := 60) (ematch := 60) [Option.map_eq_some_iff, Option.bind_eq_some_iff, ← Kp.upd2, ← OKp.next, ← MKp.some, ← Kp.getD, ← Kp.foldl, ← Kp.foldl1, ← Kp.foldl2, ← Kp.foldl3, ← writeBytes_wf, ← wf_filter, wf_nil, ← startRetrain_kp]

theorem execShortRetrainComplete_kp (p : Port) (peer : Option (BitVec 23)) (rx : BitVec 5) (tx : BitVec 5) (s : State)
    (h0 : Kp kb s) : OKp kb (execShortRetrainComplete p peer rx tx s) := by
  unfold execShortRetrainComplete; grind (splits := 14) (gen := 60) (ematch := 60) [Option.map_eq_some_iff, Option.bind_eq_some_iff, ← Kp.upd2, ← OKp.next, ← MKp.some, ← Kp.getD, ← Kp.foldl, ← Kp.foldl1, ← Kp.foldl2, ← Kp.foldl3, ← writeBytes_wf, ← wf_filter, wf_nil, ← State.setFld_kp, ← State.setReg_kp, ← eraseKeys_kp, ← freshLink_kp, ← modLink_kp, ← portDown_kp, ← setLanes_kp]

end Sys2Proof.Machine
end

