-- ==== Sys2Proof/Laws/Keep07.lean ====
section
/-!
SUPPORT. Laws/Keep07.lean: each function of Machine/Route, Ingot, Groups, SprueOps, Release, Collective
that answers a state keeps the queue, the fuses and the canonical form.
-/
namespace Sys2Proof.Machine

open Sys2Proof

variable {kb : State}

/-! ## Machine/Route.lean -/

theorem execPortActivate_kp (p : Port) (s : State)
    (h0 : Kp kb s) : OKp kb (execPortActivate p s) := by
  unfold execPortActivate; grind (splits := 14) (gen := 60) (ematch := 60) [Option.map_eq_some_iff, Option.bind_eq_some_iff, ← Kp.upd2, ← OKp.next, ← MKp.some, ← Kp.getD, ← Kp.foldl, ← Kp.foldl1, ← Kp.foldl2, ← Kp.foldl3, ← writeBytes_wf, ← wf_filter, wf_nil, ← State.setFld_kp, ← State.setReg_kp, ← raise_kp]

theorem reply_kp (s : State) (m : Packet) (tc : Nat) (mkind : Nat) (word : Nat) (body : List Byte)
    (h0 : Kp kb s) : Kp kb (reply s m tc mkind word body) := by
  unfold reply; grind (splits := 14) (gen := 60) (ematch := 60) [Option.map_eq_some_iff, Option.bind_eq_some_iff, ← Kp.upd2, ← OKp.next, ← MKp.some, ← Kp.getD, ← Kp.foldl, ← Kp.foldl1, ← Kp.foldl2, ← Kp.foldl3, ← writeBytes_wf, ← wf_filter, wf_nil]

theorem errRsp_kp (s : State) (m : Packet) (code : Nat)
    (h0 : Kp kb s) : Kp kb (errRsp s m code) := by
  unfold errRsp; grind (splits := 14) (gen := 60) (ematch := 60) [Option.map_eq_some_iff, Option.bind_eq_some_iff, ← Kp.upd2, ← OKp.next, ← MKp.some, ← Kp.getD, ← Kp.foldl, ← Kp.foldl1, ← Kp.foldl2, ← Kp.foldl3, ← writeBytes_wf, ← wf_filter, wf_nil, ← reply_kp]

theorem dropUnreachable_kp (s : State) (m : Packet)
    (h0 : Kp kb s) : Kp kb (dropUnreachable s m) := by
  unfold dropUnreachable; grind (splits := 14) (gen := 60) (ematch := 60) [Option.map_eq_some_iff, Option.bind_eq_some_iff, ← Kp.upd2, ← OKp.next, ← MKp.some, ← Kp.getD, ← Kp.foldl, ← Kp.foldl1, ← Kp.foldl2, ← Kp.foldl3, ← writeBytes_wf, ← wf_filter, wf_nil, ← State.bump_kp, ← errRsp_kp, ← raise_kp, ← sendMsg_kp]

theorem moveOn_kp (s : State) (m : Packet) (own : Bool)
    (h0 : Kp kb s) : Kp kb (moveOn s m own) := by
  unfold moveOn; grind (splits := 14) (gen := 60) (ematch := 60) [Option.map_eq_some_iff, Option.bind_eq_some_iff, ← Kp.upd2, ← OKp.next, ← MKp.some, ← Kp.getD, ← Kp.foldl, ← Kp.foldl1, ← Kp.foldl2, ← Kp.foldl3, ← writeBytes_wf, ← wf_filter, wf_nil, ← State.bump_kp, ← State.disarm_kp, ← dropUnreachable_kp, ← enqueue_kp, ← landPacket_kp]

theorem tc0Fill_kp (s : State)
    (h0 : Kp kb s) : Kp kb (tc0Fill s) := by
  unfold tc0Fill; grind (splits := 14) (gen := 60) (ematch := 60) [Option.map_eq_some_iff, Option.bind_eq_some_iff, ← Kp.upd2, ← OKp.next, ← MKp.some, ← Kp.getD, ← Kp.foldl, ← Kp.foldl1, ← Kp.foldl2, ← Kp.foldl3, ← writeBytes_wf, ← wf_filter, wf_nil]

theorem nextOwn_kp (s : State)
    (h0 : Kp kb s) : ∀ xr0 xr1, (nextOwn s) = some (xr0, xr1) → Kp kb xr1 := by
  intros; rename_i hx; unfold nextOwn at hx; grind (splits := 14) (gen := 60) (ematch := 60) [Option.map_eq_some_iff, Option.bind_eq_some_iff, ← Kp.upd2, ← OKp.next, ← MKp.some, ← Kp.getD, ← Kp.foldl, ← Kp.foldl1, ← Kp.foldl2, ← Kp.foldl3, ← writeBytes_wf, ← wf_filter, wf_nil, ← State.bump_kp, ← State.upTo_kp, ← tc0Fill_kp]

theorem settleAnswers_kp (z0 : Nat) (z1 : State)
    (h0 : Kp kb z1) : Kp kb (settleAnswers z0 z1) := by
  fun_induction settleAnswers z0 z1 <;> grind (splits := 14) (gen := 60) (ematch := 60) [Option.map_eq_some_iff, Option.bind_eq_some_iff, ← Kp.upd2, ← OKp.next, ← MKp.some, ← Kp.getD, ← Kp.foldl, ← Kp.foldl1, ← Kp.foldl2, ← Kp.foldl3, ← writeBytes_wf, ← wf_filter, wf_nil, ← serveOpen_kp]

theorem execPacketRoute_kp (s : State)
    (h0 : Kp kb s) : OKp kb (execPacketRoute s) := by
  unfold execPacketRoute
  split
  · exact .next h0
  · split
    · rename_i m s1 e
      exact .next (moveOn_kp _ _ _ (nextOwn_kp _ h0 _ _ e))
    · split
      · refine .next (moveOn_kp _ _ _ (freeFlits_kp _ _ _ ?_))
        exact h0.upd2 id id id id id
      · extract_lets s1
        have k1 : Kp kb s1 := settleAnswers_kp _ _ h0
        clear_value s1
        split
        · rename_i m s2 e
          simp only [Option.bind_eq_some_iff] at e
          obtain ⟨t, _, e⟩ := e
          exact .next (moveOn_kp _ _ _ (nextOwn_kp _ (State.upTo_kp _ _ k1) _ _ e))
        · exact .next h0

theorem takeKind_kp (s : State) (k : Nat)
    (h0 : Kp kb s) : ∀ xr0 xr1 xr2, (takeKind s k) = some (xr0, xr1, xr2) → Kp kb xr2 := by
  intros; rename_i hx; unfold takeKind at hx; grind (splits := 14) (gen := 60) (ematch := 60) [Option.map_eq_some_iff, Option.bind_eq_some_iff, ← Kp.upd2, ← OKp.next, ← MKp.some, ← Kp.getD, ← Kp.foldl, ← Kp.foldl1, ← Kp.foldl2, ← Kp.foldl3, ← writeBytes_wf, ← wf_filter, wf_nil, ← freeFlits_kp]

theorem lateCheck_kp (s : State) (fstamp : Nat)
    (h0 : Kp kb s) : Kp kb (lateCheck s fstamp) := by
  unfold lateCheck; grind (splits := 14) (gen := 60) (ematch := 60) [Option.map_eq_some_iff, Option.bind_eq_some_iff, ← Kp.upd2, ← OKp.next, ← MKp.some, ← Kp.getD, ← Kp.foldl, ← Kp.foldl1, ← Kp.foldl2, ← Kp.foldl3, ← writeBytes_wf, ← wf_filter, wf_nil, ← State.bump_kp, ← State.disarm_kp, ← raise_kp]

theorem execBadMsg_kp (s : State)
    (h0 : Kp kb s) : OKp kb (execBadMsg s) := by
  unfold execBadMsg; grind (splits := 14) (gen := 60) (ematch := 60) [Option.map_eq_some_iff, Option.bind_eq_some_iff, ← Kp.upd2, ← OKp.next, ← MKp.some, ← Kp.getD, ← Kp.foldl, ← Kp.foldl1, ← Kp.foldl2, ← Kp.foldl3, ← writeBytes_wf, ← wf_filter, wf_nil, ← State.bump_kp, ← freeFlits_kp, ← raise_kp]

theorem execToken_kp (s : State)
    (h0 : Kp kb s) : OKp kb (execToken s) := by
  unfold execToken; grind (splits := 14) (gen := 60) (ematch := 60) [Option.map_eq_some_iff, Option.bind_eq_some_iff, ← Kp.upd2, ← OKp.next, ← MKp.some, ← Kp.getD, ← Kp.foldl, ← Kp.foldl1, ← Kp.foldl2, ← Kp.foldl3, ← writeBytes_wf, ← wf_filter, wf_nil, ← applySignal_kp, ← lateCheck_kp, ← outside_kp, takeKind_kp]

theorem serveRead_kp (s : State) (rt : Nat) (tile : Bool) (a : Nat) (n : Nat)
    (h0 : Kp kb s) : Kp kb (serveRead s rt tile a n).2 := by
  unfold serveRead; grind (splits := 14) (gen := 60) (ematch := 60) [Option.map_eq_some_iff, Option.bind_eq_some_iff, ← Kp.upd2, ← OKp.next, ← MKp.some, ← Kp.getD, ← Kp.foldl, ← Kp.foldl1, ← Kp.foldl2, ← Kp.foldl3, ← writeBytes_wf, ← wf_filter, wf_nil, ← readChunk_kp, ← readTile_kp]

theorem serveRecovery_kp (s : State) (p : Nat) (m : Packet)
    (h0 : Kp kb s) : Kp kb (serveRecovery s p m) := by
  unfold serveRecovery; grind (splits := 14) (gen := 60) (ematch := 60) [Option.map_eq_some_iff, Option.bind_eq_some_iff, ← Kp.upd2, ← OKp.next, ← MKp.some, ← Kp.getD, ← Kp.foldl, ← Kp.foldl1, ← Kp.foldl2, ← Kp.foldl3, ← writeBytes_wf, ← wf_filter, wf_nil, ← enqueue_kp, ← readChunks_kp]

theorem execRdReq_kp (s : State)
    (h0 : Kp kb s) : OKp kb (execRdReq s) := by
  unfold execRdReq; grind (splits := 14) (gen := 60) (ematch := 60) [Option.map_eq_some_iff, Option.bind_eq_some_iff, ← Kp.upd2, ← OKp.next, ← MKp.some, ← Kp.getD, ← Kp.foldl, ← Kp.foldl1, ← Kp.foldl2, ← Kp.foldl3, ← writeBytes_wf, ← wf_filter, wf_nil, ← errRsp_kp, ← otherAccess_kp, ← serveRead_kp, ← serveRecovery_kp, takeKind_kp]

theorem execWr_kp (s : State)
    (h0 : Kp kb s) : OKp kb (execWr s) := by
  unfold execWr; grind (splits := 14) (gen := 60) (ematch := 60) [Option.map_eq_some_iff, Option.bind_eq_some_iff, ← Kp.upd2, ← OKp.next, ← MKp.some, ← Kp.getD, ← Kp.foldl, ← Kp.foldl1, ← Kp.foldl2, ← Kp.foldl3, ← writeBytes_wf, ← wf_filter, wf_nil, ← State.bump_kp, ← errRsp_kp, ← lateCheck_kp, ← otherAccess_kp, ← raise_kp, takeKind_kp, ← writeChunks_kp, ← writeTile_kp]

theorem lateRsp_kp (s : State)
    (h0 : Kp kb s) : Kp kb (lateRsp s) := by
  unfold lateRsp; grind (splits := 14) (gen := 60) (ematch := 60) [Option.map_eq_some_iff, Option.bind_eq_some_iff, ← Kp.upd2, ← OKp.next, ← MKp.some, ← Kp.getD, ← Kp.foldl, ← Kp.foldl1, ← Kp.foldl2, ← Kp.foldl3, ← writeBytes_wf, ← wf_filter, wf_nil, ← State.bump_kp]

theorem injRemote_kp (s : State) (r : RemReq)
    (h0 : Kp kb s) : Kp kb (injRemote s r).2 := by
  unfold injRemote; grind (splits := 14) (gen := 60) (ematch := 60) [Option.map_eq_some_iff, Option.bind_eq_some_iff, ← Kp.upd2, ← OKp.next, ← MKp.some, ← Kp.getD, ← Kp.foldl, ← Kp.foldl1, ← Kp.foldl2, ← Kp.foldl3, ← writeBytes_wf, ← wf_filter, wf_nil, ← State.disarm_kp]

theorem execRdRsp_kp (s : State)
    (h0 : Kp kb s) : OKp kb (execRdRsp s) := by
  unfold execRdRsp; grind (splits := 14) (gen := 60) (ematch := 60) [Option.map_eq_some_iff, Option.bind_eq_some_iff, ← Kp.upd2, ← OKp.next, ← MKp.some, ← Kp.getD, ← Kp.foldl, ← Kp.foldl1, ← Kp.foldl2, ← Kp.foldl3, ← writeBytes_wf, ← wf_filter, wf_nil, ← deliverRead_kp, ← failRemote_kp, ← grantSlots_kp, ← injRemote_kp, ← lateCheck_kp, ← lateRsp_kp, takeKind_kp]

theorem execWrAck_kp (s : State)
    (h0 : Kp kb s) : OKp kb (execWrAck s) := by
  unfold execWrAck; grind (splits := 14) (gen := 60) (ematch := 60) [Option.map_eq_some_iff, Option.bind_eq_some_iff, ← Kp.upd2, ← OKp.next, ← MKp.some, ← Kp.getD, ← Kp.foldl, ← Kp.foldl1, ← Kp.foldl2, ← Kp.foldl3, ← writeBytes_wf, ← wf_filter, wf_nil, ← failRemote_kp, ← grantSlots_kp, ← injRemote_kp, ← lateRsp_kp, ← pumpWrites_kp, takeKind_kp, ← touchFin_kp]

theorem execErrRsp_kp (s : State)
    (h0 : Kp kb s) : OKp kb (execErrRsp s) := by
  unfold execErrRsp; grind (splits := 14) (gen := 60) (ematch := 60) [Option.map_eq_some_iff, Option.bind_eq_some_iff, ← Kp.upd2, ← OKp.next, ← MKp.some, ← Kp.getD, ← Kp.foldl, ← Kp.foldl1, ← Kp.foldl2, ← Kp.foldl3, ← writeBytes_wf, ← wf_filter, wf_nil, ← failRemote_kp, ← injRemote_kp, ← lateRsp_kp, takeKind_kp]

theorem execRegRsp_kp (s : State)
    (h0 : Kp kb s) : OKp kb (execRegRsp s) := by
  unfold execRegRsp; grind (splits := 14) (gen := 60) (ematch := 60) [Option.map_eq_some_iff, Option.bind_eq_some_iff, ← Kp.upd2, ← OKp.next, ← MKp.some, ← Kp.getD, ← Kp.foldl, ← Kp.foldl1, ← Kp.foldl2, ← Kp.foldl3, ← writeBytes_wf, ← wf_filter, wf_nil, ← lateRsp_kp, takeKind_kp]

theorem execE2eTimeout_kp (s : State)
    (h0 : Kp kb s) : OKp kb (execE2eTimeout s) := by
  unfold execE2eTimeout; grind (splits := 14) (gen := 60) (ematch := 60) [Option.map_eq_some_iff, Option.bind_eq_some_iff, ← Kp.upd2, ← OKp.next, ← MKp.some, ← Kp.getD, ← Kp.foldl, ← Kp.foldl1, ← Kp.foldl2, ← Kp.foldl3, ← writeBytes_wf, ← wf_filter, wf_nil, ← State.bump_kp, ← State.upTo_kp, ← failRemote_kp, ← raise_kp]

/-! ## Machine/Ingot.lean -/

theorem relocate_kp (s : State) (keys : List Nat)
    (h0 : Kp kb s) : Kp kb (relocate s keys) := by
  unfold relocate; grind (splits := 14) (gen := 60) (ematch := 60) [Option.map_eq_some_iff, Option.bind_eq_some_iff, ← Kp.upd2, ← OKp.next, ← MKp.some, ← Kp.getD, ← Kp.foldl, ← Kp.foldl1, ← Kp.foldl2, ← Kp.foldl3, ← writeBytes_wf, ← wf_filter, wf_nil, programOwn_kp]

theorem spaceCheck_kp (s : State)
    (h0 : Kp kb s) : Kp kb (spaceCheck s) := by
  unfold spaceCheck; grind (splits := 14) (gen := 60) (ematch := 60) [Option.map_eq_some_iff, Option.bind_eq_some_iff, ← Kp.upd2, ← OKp.next, ← MKp.some, ← Kp.getD, ← Kp.foldl, ← Kp.foldl1, ← Kp.foldl2, ← Kp.foldl3, ← writeBytes_wf, ← wf_filter, wf_nil, ← State.setFld_kp, ← raise_kp]

theorem retireBlk_kp (s : State) (k : Nat)
    (h0 : Kp kb s) : Kp kb (retireBlk s k) := by
  unfold retireBlk; grind (splits := 14) (gen := 60) (ematch := 60) [Option.map_eq_some_iff, Option.bind_eq_some_iff, ← Kp.upd2, ← OKp.next, ← MKp.some, ← Kp.getD, ← Kp.foldl, ← Kp.foldl1, ← Kp.foldl2, ← Kp.foldl3, ← writeBytes_wf, ← wf_filter, wf_nil, ← State.bump_kp, ← jnlRetire_kp, ← raise_kp, ← relocate_kp, ← setFblk_kp, ← spaceCheck_kp, ← wbRecompute_kp]

theorem eraseBlk_kp (s : State) (k : Nat) (fails : Bool)
    (h0 : Kp kb s) : Kp kb (eraseBlk s k fails) := by
  unfold eraseBlk; grind (splits := 14) (gen := 60) (ematch := 60) [Option.map_eq_some_iff, Option.bind_eq_some_iff, ← Kp.upd2, ← OKp.next, ← MKp.some, ← Kp.getD, ← Kp.foldl, ← Kp.foldl1, ← Kp.foldl2, ← Kp.foldl3, ← writeBytes_wf, ← wf_filter, wf_nil, ← State.setReg_kp, ← State.wrapAdd_kp, ← retireBlk_kp, ← setFblk_kp]

theorem execGarbageCollect_kp (tg : Fin 64) (fails : Bool) (s : State)
    (h0 : Kp kb s) : OKp kb (execGarbageCollect tg fails s) := by
  unfold execGarbageCollect; grind (splits := 14) (gen := 60) (ematch := 60) [Option.map_eq_some_iff, Option.bind_eq_some_iff, ← Kp.upd2, ← OKp.next, ← MKp.some, ← Kp.getD, ← Kp.foldl, ← Kp.foldl1, ← Kp.foldl2, ← Kp.foldl3, ← writeBytes_wf, ← wf_filter, wf_nil, ← eraseBlk_kp, ← relocate_kp]

theorem execWearLevel_kp (tg : Fin 64) (fails : Bool) (s : State)
    (h0 : Kp kb s) : OKp kb (execWearLevel tg fails s) := by
  unfold execWearLevel; grind (splits := 14) (gen := 60) (ematch := 60) [Option.map_eq_some_iff, Option.bind_eq_some_iff, ← Kp.upd2, ← OKp.next, ← MKp.some, ← Kp.getD, ← Kp.foldl, ← Kp.foldl1, ← Kp.foldl2, ← Kp.foldl3, ← writeBytes_wf, ← wf_filter, wf_nil, ← eraseBlk_kp, ← relocate_kp]

theorem decodePage_kp (s : State) (ch : Nat) (dead : Bool) (r : List Nat)
    (h0 : Kp kb s) : Kp kb (decodePage s ch dead r).2.2 := by
  unfold decodePage; grind (splits := 14) (gen := 60) (ematch := 60) [Option.map_eq_some_iff, Option.bind_eq_some_iff, ← Kp.upd2, ← OKp.next, ← MKp.some, ← Kp.getD, ← Kp.foldl, ← Kp.foldl1, ← Kp.foldl2, ← Kp.foldl3, ← writeBytes_wf, ← wf_filter, wf_nil, ← PRun.fail_kp, ← State.bump_kp, ← State.disarm_kp, ← State.wrapAdd_kp, ← raise_kp]

theorem relocRead_kp (s : State) (area : Nat) (tile : Nat) (retries : Nat)
    (h0 : Kp kb s) : Kp kb (relocRead s area tile retries) := by
  unfold relocRead; grind (splits := 14) (gen := 60) (ematch := 60) [Option.map_eq_some_iff, Option.bind_eq_some_iff, ← Kp.upd2, ← OKp.next, ← MKp.some, ← Kp.getD, ← Kp.foldl, ← Kp.foldl1, ← Kp.foldl2, ← Kp.foldl3, ← writeBytes_wf, ← wf_filter, wf_nil, ← relocate_kp]

theorem execIngotReadComplete_kp (c : Core) (r : List Nat) (s : State)
    (h0 : Kp kb s) : OKp kb (execIngotReadComplete c r s) := by
  unfold execIngotReadComplete; grind (splits := 14) (gen := 60) (ematch := 60) [Option.map_eq_some_iff, Option.bind_eq_some_iff, ← Kp.upd2, ← OKp.next, ← MKp.some, ← Kp.getD, ← Kp.foldl, ← Kp.foldl1, ← Kp.foldl2, ← Kp.foldl3, ← writeBytes_wf, ← wf_filter, wf_nil, ← PRun.fail_kp, ← State.bump_kp, ← State.upTo_kp, ← decodePage_kp, ← deliverRead_kp, ← lateCheck_kp, ← mapAccess_kp, ← otherAccess_kp, ← relocRead_kp, ← stageTileFor_kp]

theorem execPatrolRead_kp (area : Fin 7) (tile : Nat) (r : List Nat) (s : State)
    (h0 : Kp kb s) : OKp kb (execPatrolRead area tile r s) := by
  unfold execPatrolRead; grind (splits := 14) (gen := 60) (ematch := 60) [Option.map_eq_some_iff, Option.bind_eq_some_iff, ← Kp.upd2, ← OKp.next, ← MKp.some, ← Kp.getD, ← Kp.foldl, ← Kp.foldl1, ← Kp.foldl2, ← Kp.foldl3, ← writeBytes_wf, ← wf_filter, wf_nil, ← PRun.fail_kp, ← State.upTo_kp, ← decodePage_kp, ← relocRead_kp]

theorem holdWrite_kp (s : State)
    (h0 : Kp kb s) : Kp kb (holdWrite s) := by
  unfold holdWrite; grind (splits := 14) (gen := 60) (ematch := 60) [Option.map_eq_some_iff, Option.bind_eq_some_iff, ← Kp.upd2, ← OKp.next, ← MKp.some, ← Kp.getD, ← Kp.foldl, ← Kp.foldl1, ← Kp.foldl2, ← Kp.foldl3, ← writeBytes_wf, ← wf_filter, wf_nil, ← State.setFld_kp, ← raise_kp]

theorem budgetHolds_kp (s : State) (w : IngWrite)
    (h0 : Kp kb s) : Kp kb (budgetHolds s w).2 := by
  unfold budgetHolds; grind (splits := 14) (gen := 60) (ematch := 60) [Option.map_eq_some_iff, Option.bind_eq_some_iff, ← Kp.upd2, ← OKp.next, ← MKp.some, ← Kp.getD, ← Kp.foldl, ← Kp.foldl1, ← Kp.foldl2, ← Kp.foldl3, ← writeBytes_wf, ← wf_filter, wf_nil, ← State.disarm_kp, ← State.setFld_kp, ← holdWrite_kp]

theorem execIngotProgramStart_kp (s : State)
    (h0 : Kp kb s) : OKp kb (execIngotProgramStart s) := by
  unfold execIngotProgramStart; split
  · exact .next h0
  · rename_i w _
    refine OKp.ite (.next h0) ?_
    have k1 := budgetHolds_kp (kb := kb) s w h0
    revert k1
    generalize budgetHolds s w = e
    intro k1
    obtain ⟨held, s1⟩ := e
    dsimp only
    refine OKp.ite (.next k1) ?_
    split
    · exact .next k1
    · rename_i p s2 e
      simp only [Option.bind_eq_some_iff] at e
      obtain ⟨g, _, e⟩ := e
      have k2 : Kp kb s2 := takePage_kp _ _ k1 _ _ e
      exact .next (k2.upd2 id id id id id)

theorem landWrite_kp (s : State) (w : IngWrite) (p : Nat)
    (h0 : Kp kb s) : Kp kb (landWrite s w p) := by
  unfold landWrite; grind (splits := 14) (gen := 60) (ematch := 60) [Option.map_eq_some_iff, Option.bind_eq_some_iff, ← Kp.upd2, ← OKp.next, ← MKp.some, ← Kp.getD, ← Kp.foldl, ← Kp.foldl1, ← Kp.foldl2, ← Kp.foldl3, ← writeBytes_wf, ← wf_filter, wf_nil, ← invalidate_kp, ← keepOld_kp, ← setIngTile_kp, ← setMap_kp, ← touchFin_kp]

theorem execIngotProgramComplete_kp (fails : Bool) (s : State)
    (h0 : Kp kb s) : OKp kb (execIngotProgramComplete fails s) := by
  unfold execIngotProgramComplete; split
  · exact .next h0
  · rename_i w _
    extract_lets p s1 inj s2 again src s3 s4
    have k1 : Kp kb s1 := State.upTo_kp _ _ h0
    have k2 : Kp kb s2 := Kp.ite (State.disarm_kp _ _ _ k1) k1
    have k3 : Kp kb s3 := k2.upd2 id id id id id
    have k4 : Kp kb s4 := retireBlk_kp _ _ k3
    clear_value s4 s3
    refine OKp.ite (OKp.ite (.next k3) ?_) (.next (landWrite_kp _ _ _ k2))
    split
    · exact .next k4
    · rename_i p' s5 e
      split at e
      · cases e
      · simp only [Option.bind_eq_some_iff] at e
        obtain ⟨g, _, e⟩ := e
        have k5 : Kp kb s5 := takePage_kp _ _ k4 _ _ e
        exact .next (k5.upd2 id id id id id)

theorem setTailMax_kp (s : State)
    (h0 : Kp kb s) : Kp kb (setTailMax s) := by
  unfold setTailMax; grind (splits := 14) (gen := 60) (ematch := 60) [Option.map_eq_some_iff, Option.bind_eq_some_iff, ← Kp.upd2, ← OKp.next, ← MKp.some, ← Kp.getD, ← Kp.foldl, ← Kp.foldl1, ← Kp.foldl2, ← Kp.foldl3, ← writeBytes_wf, ← wf_filter, wf_nil, ← State.setReg_kp]

theorem execRetireReq_kp (tg : Fin 64) (s : State)
    (h0 : Kp kb s) : OKp kb (execRetireReq tg s) := by
  unfold execRetireReq; grind (splits := 14) (gen := 60) (ematch := 60) [Option.map_eq_some_iff, Option.bind_eq_some_iff, ← Kp.upd2, ← OKp.next, ← MKp.some, ← Kp.getD, ← Kp.foldl, ← Kp.foldl1, ← Kp.foldl2, ← Kp.foldl3, ← writeBytes_wf, ← wf_filter, wf_nil, ← State.setFld_kp, ← State.setReg_kp, ← raise_kp]

theorem execTargetRetireDone_kp (s : State)
    (h0 : Kp kb s) : OKp kb (execTargetRetireDone s) := by
  unfold execTargetRetireDone; grind (splits := 14) (gen := 60) (ematch := 60) [Option.map_eq_some_iff, Option.bind_eq_some_iff, ← Kp.upd2, ← OKp.next, ← MKp.some, ← Kp.getD, ← Kp.foldl, ← Kp.foldl1, ← Kp.foldl2, ← Kp.foldl3, ← writeBytes_wf, ← wf_filter, wf_nil, ← State.setFld_kp, ← State.setReg_kp, ← jnlRetire_kp, ← raise_kp, ← relocate_kp, ← setTailMax_kp, ← showRemove_kp]

theorem failTarget_kp (s : State) (tg : Nat)
    (h0 : Kp kb s) : Kp kb (failTarget s tg) := by
  unfold failTarget; grind (splits := 14) (gen := 60) (ematch := 60) [Option.map_eq_some_iff, Option.bind_eq_some_iff, ← Kp.upd2, ← OKp.next, ← MKp.some, ← Kp.getD, ← Kp.foldl, ← Kp.foldl1, ← Kp.foldl2, ← Kp.foldl3, ← writeBytes_wf, ← wf_filter, wf_nil, ← State.bump_kp, ← State.setFld_kp, ← raise_kp, ← setTailMax_kp]

theorem execTargetCommandTimeout_kp (tg : Fin 64) (zq : Bool) (s : State)
    (h0 : Kp kb s) : OKp kb (execTargetCommandTimeout tg zq s) := by
  unfold execTargetCommandTimeout; grind (splits := 14) (gen := 60) (ematch := 60) [Option.map_eq_some_iff, Option.bind_eq_some_iff, ← Kp.upd2, ← OKp.next, ← MKp.some, ← Kp.getD, ← Kp.foldl, ← Kp.foldl1, ← Kp.foldl2, ← Kp.foldl3, ← writeBytes_wf, ← wf_filter, wf_nil, ← State.upTo_kp, ← failTarget_kp, ← raise_kp]

/-! ## Machine/SprueOps.lean -/

theorem sprueBytes_kp (s : State) (c : Nat) (i : Iss) (n : Nat)
    (h0 : Kp kb s) : Kp kb (sprueBytes s c i n).2 := by
  unfold sprueBytes; grind (splits := 14) (gen := 60) (ematch := 60) [Option.map_eq_some_iff, Option.bind_eq_some_iff, ← Kp.upd2, ← OKp.next, ← MKp.some, ← Kp.getD, ← Kp.foldl, ← Kp.foldl1, ← Kp.foldl2, ← Kp.foldl3, ← writeBytes_wf, ← wf_filter, wf_nil, ← readRegion_kp]

theorem firstWord_kp (s : State) (c : Nat) (i : Iss)
    (h0 : Kp kb s) : Kp kb (firstWord s c i).2 := by
  unfold firstWord; grind (splits := 14) (gen := 60) (ematch := 60) [Option.map_eq_some_iff, Option.bind_eq_some_iff, ← Kp.upd2, ← OKp.next, ← MKp.some, ← Kp.getD, ← Kp.foldl, ← Kp.foldl1, ← Kp.foldl2, ← Kp.foldl3, ← writeBytes_wf, ← wf_filter, wf_nil, ← State.draw_kp, ← dropReq_kp, ← sprueBytes_kp]

theorem sprueAsked_kp (s : State) (c op n : Nat) (used : Desc → Bool) (h0 : Kp kb s) :
    (∀ x, sprueAsked s c op n used = .inl x → Kp kb x) ∧ (∀ x, sprueAsked s c op n used = .inr x → Kp kb x) := by
  unfold sprueAsked
  split
  · exact ⟨fun x h => by cases h; exact h0, fun x h => by cases h⟩
  · rename_i i t e
    have k1 : Kp kb t := sprueReady_kp _ _ _ h0 _ _ e
    dsimp only
    split
    · exact ⟨fun x h => (by cases h), fun x h => (by cases h; exact h0)⟩
    · split
      · split
        · exact ⟨fun x h => (by cases h), fun x h => (by cases h; exact h0)⟩
        · exact ⟨fun x h => (by cases h; exact h0), fun x h => (by cases h)⟩
      · refine ⟨fun x h => ?_, fun x h => (by cases h)⟩
        cases h
        exact grantSlots_kp _ _ (addReq_kp _ _ _ (modRun_kp _ _ _ (State.modSpr_kp _ _ _ (consume_kp _ _ _ k1))))

theorem execLoop_kp (c : Core) (s : State)
    (h0 : Kp kb s) : OKp kb (execLoop c s) := by
  unfold execLoop
  have ha := sprueAsked_kp (kb := kb) s c 1 4 (fun d => bit d.param 0) h0
  split
  · rename_i x e; exact .next (ha.1 _ e)
  · rename_i x e
    refine runSprue_kp _ _ _ _ (ha.2 _ e) (fun i y h => ?_)
    have k : Kp kb (if bit i.desc.param 0 then ((firstWord y c i).1, wordTime y i.desc, (firstWord y c i).2) else (i.desc.len0, 1, y)).2.2 :=
      Kp.ite33 (firstWord_kp _ _ _ h) h
    revert k
    dsimp only
    generalize (if bit i.desc.param 0 then ((firstWord y c i).1, wordTime y i.desc, (firstWord y c i).2) else (i.desc.len0, 1, y)) = r
    intro k
    split
    · exact k
    · exact enterLoop_kp _ _ _ _ k

theorem execPtest_kp (c : Core) (s : State)
    (h0 : Kp kb s) : OKp kb (execPtest c s) := by
  unfold execPtest
  have ha := sprueAsked_kp (kb := kb) s c 3 4 (fun _ => true) h0
  split
  · rename_i x e; exact .next (ha.1 _ e)
  · rename_i x e
    refine runSprue_kp _ _ _ _ (ha.2 _ e) (fun i y h => ?_)
    exact State.setReg_kp _ _ _ _ (firstWord_kp _ _ _ h)

theorem execPatload_kp (c : Core) (s : State)
    (h0 : Kp kb s) : OKp kb (execPatload c s) := by
  unfold execPatload
  split
  · exact .next h0
  · dsimp only
    split
    · exact .next h0
    · rename_i i _ _ _
      have ha := sprueAsked_kp (kb := kb) s c 6 (0x20 + 32 * 256) (fun _ => true) h0
      split
      · rename_i x e; exact .next (ha.1 _ e)
      · rename_i x e
        refine runSprue_kp _ _ _ _ (ha.2 _ e) (fun i y h => ?_)
        have k : ∀ n, Kp kb (dropReq (sprueBytes y c i n).2 c 6 i.seq) := fun n => dropReq_kp _ _ _ _ (sprueBytes_kp _ _ _ _ h)
        split
        · dsimp only; exact raiseFor_kp _ _ _ _ _ _ (k _)
        · split
          · dsimp only; exact patStore_kp _ _ _ _ _ (patUnmap_kp _ _ _ (k _))
          · dsimp only; exact raiseFor_kp _ _ _ _ _ _ (k _)

/-! ## Machine/Release.lean -/

theorem takeCapture_kp (s : State) (c : Nat) (i : Iss)
    (h0 : Kp kb s) : Kp kb (takeCapture s c i) := by
  unfold takeCapture; grind (splits := 14) (gen := 60) (ematch := 60) [Option.map_eq_some_iff, Option.bind_eq_some_iff, ← Kp.upd2, ← OKp.next, ← MKp.some, ← Kp.getD, ← Kp.foldl, ← Kp.foldl1, ← Kp.foldl2, ← Kp.foldl3, ← writeBytes_wf, ← wf_filter, wf_nil, ← State.setReg_kp, ← State.wrapAdd_kp, ← modPairs_kp]

theorem startFeed_kp (s : State) (c : Nat) (eng : Nat) (i : Iss) (rs : List Req)
    (h0 : Kp kb s) : Kp kb (startFeed s c eng i rs) := by
  unfold startFeed; grind (splits := 14) (gen := 60) (ematch := 60) [Option.map_eq_some_iff, Option.bind_eq_some_iff, ← Kp.upd2, ← OKp.next, ← MKp.some, ← Kp.getD, ← Kp.foldl, ← Kp.foldl1, ← Kp.foldl2, ← Kp.foldl3, ← writeBytes_wf, ← wf_filter, wf_nil, ← addReq_kp, ← askMore_kp, ← grantSlots_kp]

theorem startEngine_kp (s : State) (c : Nat) (q : EngQ) (i : Iss)
    (h0 : Kp kb s) : Kp kb (startEngine s c q i) := by
  unfold startEngine; grind (splits := 14) (gen := 60) (ematch := 60) [Option.map_eq_some_iff, Option.bind_eq_some_iff, ← Kp.upd2, ← OKp.next, ← MKp.some, ← Kp.getD, ← Kp.foldl, ← Kp.foldl1, ← Kp.foldl2, ← Kp.foldl3, ← writeBytes_wf, ← wf_filter, wf_nil, ← State.setFld_kp, ← State.setReg_kp, ← cruRelease_kp, ← modCru_kp, ← startFeed_kp, ← takeCapture_kp]

theorem release_kp (s : State) (c : Nat) (q : EngQ) (i : Iss)
    (h0 : Kp kb s) : Kp kb (release s c q i) := by
  unfold release; grind (splits := 14) (gen := 60) (ematch := 60) [Option.map_eq_some_iff, Option.bind_eq_some_iff, ← Kp.upd2, ← OKp.next, ← MKp.some, ← Kp.getD, ← Kp.foldl, ← Kp.foldl1, ← Kp.foldl2, ← Kp.foldl3, ← writeBytes_wf, ← wf_filter, wf_nil, ← State.modSpr_kp, ← consume_kp, ← finishDesc_kp, ← modEng_kp, ← startEngine_kp]

theorem releaseSkipped_kp (s : State) (c : Nat) (q : EngQ) (i : Iss)
    (h0 : Kp kb s) : Kp kb (releaseSkipped s c q i) := by
  unfold releaseSkipped; grind (splits := 14) (gen := 60) (ematch := 60) [Option.map_eq_some_iff, Option.bind_eq_some_iff, ← Kp.upd2, ← OKp.next, ← MKp.some, ← Kp.getD, ← Kp.foldl, ← Kp.foldl1, ← Kp.foldl2, ← Kp.foldl3, ← writeBytes_wf, ← wf_filter, wf_nil, ← consume_kp, ← finishDesc_kp, ← modEng_kp]

theorem releaseStale_kp (s : State) (c : Nat) (q : EngQ) (i : Iss)
    (h0 : Kp kb s) : Kp kb (releaseStale s c q i) := by
  unfold releaseStale; grind (splits := 14) (gen := 60) (ematch := 60) [Option.map_eq_some_iff, Option.bind_eq_some_iff, ← Kp.upd2, ← OKp.next, ← MKp.some, ← Kp.getD, ← Kp.foldl, ← Kp.foldl1, ← Kp.foldl2, ← Kp.foldl3, ← writeBytes_wf, ← wf_filter, wf_nil, ← finishDesc_kp, ← modEng_kp]

theorem markTapWait_kp (s : State) (c : Nat) (i : Iss)
    (h0 : Kp kb s) : Kp kb (markTapWait s c i) := by
  unfold markTapWait; grind (splits := 14) (gen := 60) (ematch := 60) [Option.map_eq_some_iff, Option.bind_eq_some_iff, ← Kp.upd2, ← OKp.next, ← MKp.some, ← Kp.getD, ← Kp.foldl, ← Kp.foldl1, ← Kp.foldl2, ← Kp.foldl3, ← writeBytes_wf, ← wf_filter, wf_nil, ← modPairs_kp]

theorem execDescRelease_kp (c : Core) (q : EngQ) (s : State)
    (h0 : Kp kb s) : OKp kb (execDescRelease c q s) := by
  unfold execDescRelease
  split
  · exact .next h0
  · rename_i i rest _
    refine OKp.ite (.next h0) (OKp.ite (OKp.ite (.next (releaseStale_kp _ _ _ _ h0)) (.next h0)) ?_)
    split
    · exact .next h0
    · rename_i t e
      simp only [Option.bind_eq_some_iff] at e
      obtain ⟨t1, e1, e2⟩ := e
      have k1 : Kp kb t1 := waitsFrom_kp _ _ _ h0 _ e1
      have k2 : Kp kb t := waitsFrom_kp _ _ _ (State.upTo_kp _ _ k1) _ e2
      extract_lets t3
      have k3 : Kp kb t3 := covProgress_kp _ _ k2
      clear_value t3
      refine OKp.ite (.next h0) (OKp.ite (OKp.ite (.next (releaseSkipped_kp _ _ _ _ k3)) (.next h0)) ?_)
      refine OKp.ite (.next (release_kp _ _ _ _ k3)) (OKp.ite (.next (markTapWait_kp _ _ _ h0)) (.next h0))

theorem execNoProgressTimeout_kp (w : Watch) (s : State)
    (h0 : Kp kb s) : OKp kb (execNoProgressTimeout w s) := by
  unfold execNoProgressTimeout; grind (splits := 14) (gen := 60) (ematch := 60) [Option.map_eq_some_iff, Option.bind_eq_some_iff, ← Kp.upd2, ← OKp.next, ← MKp.some, ← Kp.getD, ← Kp.foldl, ← Kp.foldl1, ← Kp.foldl2, ← Kp.foldl3, ← writeBytes_wf, ← wf_filter, wf_nil, ← State.upTo_kp, ← raise_kp]

/-! ## Machine/Collective.lean -/

theorem putRuns_kp (s : State) (rs : List CollRun)
    (h0 : Kp kb s) : Kp kb (putRuns s rs) := by
  unfold putRuns; grind (splits := 14) (gen := 60) (ematch := 60) [Option.map_eq_some_iff, Option.bind_eq_some_iff, ← Kp.upd2, ← OKp.next, ← MKp.some, ← Kp.getD, ← Kp.foldl, ← Kp.foldl1, ← Kp.foldl2, ← Kp.foldl3, ← writeBytes_wf, ← wf_filter, wf_nil, ← State.setFld_kp]

theorem putRun_kp (s : State) (r : CollRun)
    (h0 : Kp kb s) : Kp kb (putRun s r) := by
  unfold putRun; grind (splits := 14) (gen := 60) (ematch := 60) [Option.map_eq_some_iff, Option.bind_eq_some_iff, ← Kp.upd2, ← OKp.next, ← MKp.some, ← Kp.getD, ← Kp.foldl, ← Kp.foldl1, ← Kp.foldl2, ← Kp.foldl3, ← writeBytes_wf, ← wf_filter, wf_nil, ← putRuns_kp]

theorem releaseHeld_kp (s : State)
    (h0 : Kp kb s) : Kp kb (releaseHeld s) := by
  unfold releaseHeld; grind (splits := 14) (gen := 60) (ematch := 60) [Option.map_eq_some_iff, Option.bind_eq_some_iff, ← Kp.upd2, ← OKp.next, ← MKp.some, ← Kp.getD, ← Kp.foldl, ← Kp.foldl1, ← Kp.foldl2, ← Kp.foldl3, ← writeBytes_wf, ← wf_filter, wf_nil]

theorem setGroup_kp (s : State) (g : Nat) (x : Nat)
    (h0 : Kp kb s) : Kp kb (setGroup s g x) := by
  unfold setGroup; grind (splits := 14) (gen := 60) (ematch := 60) [Option.map_eq_some_iff, Option.bind_eq_some_iff, ← Kp.upd2, ← OKp.next, ← MKp.some, ← Kp.getD, ← Kp.foldl, ← Kp.foldl1, ← Kp.foldl2, ← Kp.foldl3, ← writeBytes_wf, ← wf_filter, wf_nil, ← releaseHeld_kp]

theorem applyPending_kp (s : State) (g : Nat)
    (h0 : Kp kb s) : Kp kb (applyPending s g) := by
  unfold applyPending; grind (splits := 14) (gen := 60) (ematch := 60) [Option.map_eq_some_iff, Option.bind_eq_some_iff, ← Kp.upd2, ← OKp.next, ← MKp.some, ← Kp.getD, ← Kp.foldl, ← Kp.foldl1, ← Kp.foldl2, ← Kp.foldl3, ← writeBytes_wf, ← wf_filter, wf_nil, ← setGroup_kp]

theorem dropRun_kp (s : State) (r : CollRun)
    (h0 : Kp kb s) : Kp kb (dropRun s r) := by
  unfold dropRun; grind (splits := 14) (gen := 60) (ematch := 60) [Option.map_eq_some_iff, Option.bind_eq_some_iff, ← Kp.upd2, ← OKp.next, ← MKp.some, ← Kp.getD, ← Kp.foldl, ← Kp.foldl1, ← Kp.foldl2, ← Kp.foldl3, ← writeBytes_wf, ← wf_filter, wf_nil, ← applyPending_kp, ← putRuns_kp]

theorem sendChunk_kp (s : State) (g : Nat) (e : GEnt) (to_ : Nat) (k : Nat) (es : List Nat)
    (h0 : Kp kb s) : Kp kb (sendChunk s g e to_ k es) := by
  unfold sendChunk; grind (splits := 14) (gen := 60) (ematch := 60) [Option.map_eq_some_iff, Option.bind_eq_some_iff, ← Kp.upd2, ← OKp.next, ← MKp.some, ← Kp.getD, ← Kp.foldl, ← Kp.foldl1, ← Kp.foldl2, ← Kp.foldl3, ← writeBytes_wf, ← wf_filter, wf_nil, ← sendMsg_kp]

theorem passChunk_kp (s : State) (r : CollRun) (e : GEnt) (i : Iss) (ls : List Nat) (k : Nat)
    (h0 : Kp kb s) : Kp kb (passChunk s r e i ls k).1 := by
  unfold passChunk; grind (splits := 14) (gen := 60) (ematch := 60) [Option.map_eq_some_iff, Option.bind_eq_some_iff, ← Kp.upd2, ← OKp.next, ← MKp.some, ← Kp.getD, ← Kp.foldl, ← Kp.foldl1, ← Kp.foldl2, ← Kp.foldl3, ← writeBytes_wf, ← wf_filter, wf_nil, ← sendChunk_kp]

theorem endCollWith_kp (s : State) (r : CollRun) (st : Nat) (fl : Flags)
    (h0 : Kp kb s) : Kp kb (endCollWith s r st fl) := by
  unfold endCollWith; grind (splits := 14) (gen := 60) (ematch := 60) [Option.map_eq_some_iff, Option.bind_eq_some_iff, ← Kp.upd2, ← OKp.next, ← MKp.some, ← Kp.getD, ← Kp.foldl, ← Kp.foldl1, ← Kp.foldl2, ← Kp.foldl3, ← writeBytes_wf, ← wf_filter, wf_nil, ← runFinish_kp]

theorem putColl_kp (c : Nat) (i : Iss) (e : GEnt) (first : Nat) (z0 : Nat) (z1 : Nat) (z2 : List Val) (z3 : RProg)
    (h0 : Kp kb z3.s) : Kp kb (putColl c i e first z0 z1 z2 z3).s := by
  fun_induction putColl c i e first z0 z1 z2 z3 <;> grind (splits := 14) (gen := 60) (ematch := 60) [Option.map_eq_some_iff, Option.bind_eq_some_iff, ← Kp.upd2, ← OKp.next, ← MKp.some, ← Kp.getD, ← Kp.foldl, ← Kp.foldl1, ← Kp.foldl2, ← Kp.foldl3, ← writeBytes_wf, ← wf_filter, wf_nil, ← putTile_kp]

theorem finishCore_kp (r : CollRun) (e : GEnt) (ls : List Nat) (s : State) (j : Nat × Nat × List (Option Nat) × Flags)
    (h0 : Kp kb s) : Kp kb (finishCore r e ls s j) := by
  unfold finishCore; grind (splits := 14) (gen := 60) (ematch := 60) [Option.map_eq_some_iff, Option.bind_eq_some_iff, ← Kp.upd2, ← OKp.next, ← MKp.some, ← Kp.getD, ← Kp.foldl, ← Kp.foldl1, ← Kp.foldl2, ← Kp.foldl3, ← writeBytes_wf, ← wf_filter, wf_nil, ← putColl_kp, ← runFinish_kp]

theorem tryEndColl_kp (s : State) (r : CollRun) (e : GEnt) (ls : List Nat)
    (h0 : Kp kb s) : Kp kb (tryEndColl s r e ls) := by
  unfold tryEndColl; dsimp only; (repeat' split) <;> grind (splits := 14) (gen := 60) (ematch := 60) [Option.map_eq_some_iff, Option.bind_eq_some_iff, ← Kp.upd2, ← OKp.next, ← MKp.some, ← Kp.getD, ← Kp.foldl, ← Kp.foldl1, ← Kp.foldl2, ← Kp.foldl3, ← writeBytes_wf, ← wf_filter, wf_nil, ← State.bump_kp, ← dropRun_kp, ← finishCore_kp, ← putRun_kp]

theorem pumpColl_kp (s : State) (r : CollRun)
    (h0 : Kp kb s) : Kp kb (pumpColl s r) := by
  unfold pumpColl; grind (splits := 14) (gen := 60) (ematch := 60) [Option.map_eq_some_iff, Option.bind_eq_some_iff, ← Kp.upd2, ← OKp.next, ← MKp.some, ← Kp.getD, ← Kp.foldl, ← Kp.foldl1, ← Kp.foldl2, ← Kp.foldl3, ← writeBytes_wf, ← wf_filter, wf_nil, ← passChunk_kp, ← putRun_kp, ← tryEndColl_kp]

theorem collInput_kp (p : RProg) (c : Nat) (i : Iss) (q : Requester) (e : GEnt) (ls : List Nat) (first : Nat)
    (h0 : Kp kb p.s) : Kp kb (collInput p c i q e ls first).2.s := by
  unfold collInput
  dsimp only
  refine foldl_inv (fun x : List Piece × RProg => Kp kb x.2.s) _ (fun x j hx => ?_) _ ([], p) h0
  split
  · exact srcTile_kp _ _ _ _ _ hx
  · exact hx

theorem doColl_kp (s : State) (c : Nat) (i : Iss) (q : Requester)
    (h0 : Kp kb s) : Kp kb (doColl s c i q) := by
  unfold doColl
  dsimp only
  split
  · exact runFinish_kp _ _ _ _ _ h0
  · split
    · exact tryEndColl_kp _ _ _ _ h0
    · split
      · exact runFinish_kp _ _ _ _ _ (by dsimp only; exact raiseFor_kp _ _ _ _ _ _ h0)
      · split
        · exact runFinish_kp _ _ _ _ _ h0
        · have k : ∀ l : List Nat, Kp kb (l.foldl (fun (x : List (Option Nat) × RProg) k =>
              (x.1 ++ (collInput x.2 c i q (gent s (i.desc.param % 1024)) ((gent s (i.desc.param % 1024)).lens s i.desc.len0)
                  (k * (gent s (i.desc.param % 1024)).inTiles ((gent s (i.desc.param % 1024)).lens s i.desc.len0) i.desc)).1,
               (collInput x.2 c i q (gent s (i.desc.param % 1024)) ((gent s (i.desc.param % 1024)).lens s i.desc.len0)
                  (k * (gent s (i.desc.param % 1024)).inTiles ((gent s (i.desc.param % 1024)).lens s i.desc.len0) i.desc)).2))
              ([], { s := s })).2.s := fun l => by
            refine foldl_inv (fun x : List (Option Nat) × RProg => Kp kb x.2.s) _ (fun x j hx => ?_) _ _ h0
            exact collInput_kp _ _ _ _ _ _ _ hx
          split
          · exact runFinish_kp _ _ _ _ _ (k _)
          · exact pumpColl_kp _ _ (k _)

theorem collRow_kp (ok : GEnt → Bool) (c : Nat) (s : State)
    (h0 : Kp kb s) : OKp kb (collRow ok c s) := by
  unfold collRow; grind (splits := 14) (gen := 60) (ematch := 60) [Option.map_eq_some_iff, Option.bind_eq_some_iff, ← Kp.upd2, ← OKp.next, ← MKp.some, ← Kp.getD, ← Kp.foldl, ← Kp.foldl1, ← Kp.foldl2, ← Kp.foldl3, ← writeBytes_wf, ← wf_filter, wf_nil, ← doColl_kp]

theorem execCollAllReduce_kp (c : Core) (s : State)
    (h0 : Kp kb s) : OKp kb (execCollAllReduce c s) := by
  unfold execCollAllReduce; grind (splits := 14) (gen := 60) (ematch := 60) [Option.map_eq_some_iff, Option.bind_eq_some_iff, ← Kp.upd2, ← OKp.next, ← MKp.some, ← Kp.getD, ← Kp.foldl, ← Kp.foldl1, ← Kp.foldl2, ← Kp.foldl3, ← writeBytes_wf, ← wf_filter, wf_nil, ← collRow_kp]

theorem execCollReduceScatter_kp (c : Core) (s : State)
    (h0 : Kp kb s) : OKp kb (execCollReduceScatter c s) := by
  unfold execCollReduceScatter; grind (splits := 14) (gen := 60) (ematch := 60) [Option.map_eq_some_iff, Option.bind_eq_some_iff, ← Kp.upd2, ← OKp.next, ← MKp.some, ← Kp.getD, ← Kp.foldl, ← Kp.foldl1, ← Kp.foldl2, ← Kp.foldl3, ← writeBytes_wf, ← wf_filter, wf_nil, ← collRow_kp]

theorem execCollAllGather_kp (c : Core) (s : State)
    (h0 : Kp kb s) : OKp kb (execCollAllGather c s) := by
  unfold execCollAllGather; grind (splits := 14) (gen := 60) (ematch := 60) [Option.map_eq_some_iff, Option.bind_eq_some_iff, ← Kp.upd2, ← OKp.next, ← MKp.some, ← Kp.getD, ← Kp.foldl, ← Kp.foldl1, ← Kp.foldl2, ← Kp.foldl3, ← writeBytes_wf, ← wf_filter, wf_nil, ← collRow_kp]

theorem execCollBroadcast_kp (c : Core) (s : State)
    (h0 : Kp kb s) : OKp kb (execCollBroadcast c s) := by
  unfold execCollBroadcast; grind (splits := 14) (gen := 60) (ematch := 60) [Option.map_eq_some_iff, Option.bind_eq_some_iff, ← Kp.upd2, ← OKp.next, ← MKp.some, ← Kp.getD, ← Kp.foldl, ← Kp.foldl1, ← Kp.foldl2, ← Kp.foldl3, ← writeBytes_wf, ← wf_filter, wf_nil, ← collRow_kp]

theorem execCollReduceToRoot_kp (c : Core) (s : State)
    (h0 : Kp kb s) : OKp kb (execCollReduceToRoot c s) := by
  unfold execCollReduceToRoot; grind (splits := 14) (gen := 60) (ematch := 60) [Option.map_eq_some_iff, Option.bind_eq_some_iff, ← Kp.upd2, ← OKp.next, ← MKp.some, ← Kp.getD, ← Kp.foldl, ← Kp.foldl1, ← Kp.foldl2, ← Kp.foldl3, ← writeBytes_wf, ← wf_filter, wf_nil, ← collRow_kp]

theorem finishFence_kp (s : State) (r : CollRun) (e : GEnt)
    (h0 : Kp kb s) : Kp kb (finishFence s r e) := by
  unfold finishFence; grind (splits := 14) (gen := 60) (ematch := 60) [Option.map_eq_some_iff, Option.bind_eq_some_iff, ← Kp.upd2, ← OKp.next, ← MKp.some, ← Kp.getD, ← Kp.foldl, ← Kp.foldl1, ← Kp.foldl2, ← Kp.foldl3, ← writeBytes_wf, ← wf_filter, wf_nil, ← State.bump_kp, ← applyPending_kp, ← dropRun_kp, ← endCollWith_kp]

theorem tryFence_kp (s : State) (r : CollRun)
    (h0 : Kp kb s) : Kp kb (tryFence s r) := by
  unfold tryFence; grind (splits := 14) (gen := 60) (ematch := 60) [Option.map_eq_some_iff, Option.bind_eq_some_iff, ← Kp.upd2, ← OKp.next, ← MKp.some, ← Kp.getD, ← Kp.foldl, ← Kp.foldl1, ← Kp.foldl2, ← Kp.foldl3, ← writeBytes_wf, ← wf_filter, wf_nil, ← finishFence_kp, ← putRun_kp]

theorem execCollFence_kp (c : Core) (s : State)
    (h0 : Kp kb s) : OKp kb (execCollFence c s) := by
  unfold execCollFence; grind (splits := 14) (gen := 60) (ematch := 60) [Option.map_eq_some_iff, Option.bind_eq_some_iff, ← Kp.upd2, ← OKp.next, ← MKp.some, ← Kp.getD, ← Kp.foldl, ← Kp.foldl1, ← Kp.foldl2, ← Kp.foldl3, ← writeBytes_wf, ← wf_filter, wf_nil, ← putRun_kp, ← sendMsg_kp, ← tryFence_kp]

theorem execFence_kp (s : State)
    (h0 : Kp kb s) : OKp kb (execFence s) := by
  unfold execFence; grind (splits := 14) (gen := 60) (ematch := 60) [Option.map_eq_some_iff, Option.bind_eq_some_iff, ← Kp.upd2, ← OKp.next, ← MKp.some, ← Kp.getD, ← Kp.foldl, ← Kp.foldl1, ← Kp.foldl2, ← Kp.foldl3, ← writeBytes_wf, ← wf_filter, wf_nil, takeKind_kp, ← tryFence_kp]

theorem landChunk_kp (s : State) (g : Nat) (e : GEnt) (j : Nat) (k : Nat) (es : List Nat)
    (h0 : Kp kb s) : Kp kb (landChunk s g e j k es) := by
  unfold landChunk; grind (splits := 14) (gen := 60) (ematch := 60) [Option.map_eq_some_iff, Option.bind_eq_some_iff, ← Kp.upd2, ← OKp.next, ← MKp.some, ← Kp.getD, ← Kp.foldl, ← Kp.foldl1, ← Kp.foldl2, ← Kp.foldl3, ← writeBytes_wf, ← wf_filter, wf_nil, ← pumpColl_kp, ← putRun_kp, ← sendChunk_kp]

theorem failColl_kp (s : State) (g : Nat)
    (h0 : Kp kb s) : Kp kb (failColl s g) := by
  unfold failColl; grind (splits := 14) (gen := 60) (ematch := 60) [Option.map_eq_some_iff, Option.bind_eq_some_iff, ← Kp.upd2, ← OKp.next, ← MKp.some, ← Kp.getD, ← Kp.foldl, ← Kp.foldl1, ← Kp.foldl2, ← Kp.foldl3, ← writeBytes_wf, ← wf_filter, wf_nil, ← dropRun_kp, ← endCollWith_kp, ← raise_kp]

theorem takeChunk_kp (s : State) (g : Nat) (e : GEnt) (j : Nat) (m : Packet)
    (h0 : Kp kb s) : Kp kb (takeChunk s g e j m) := by
  unfold takeChunk; grind (splits := 14) (gen := 60) (ematch := 60) [Option.map_eq_some_iff, Option.bind_eq_some_iff, ← Kp.upd2, ← OKp.next, ← MKp.some, ← Kp.getD, ← Kp.foldl, ← Kp.foldl1, ← Kp.foldl2, ← Kp.foldl3, ← writeBytes_wf, ← wf_filter, wf_nil, ← State.injFails_kp, ← failColl_kp, ← landChunk_kp, ← putRun_kp]

theorem execColl_kp (s : State)
    (h0 : Kp kb s) : OKp kb (execColl s) := by
  unfold execColl; grind (splits := 14) (gen := 60) (ematch := 60) [Option.map_eq_some_iff, Option.bind_eq_some_iff, ← Kp.upd2, ← OKp.next, ← MKp.some, ← Kp.getD, ← Kp.foldl, ← Kp.foldl1, ← Kp.foldl2, ← Kp.foldl3, ← writeBytes_wf, ← wf_filter, wf_nil, ← State.bump_kp, ← State.disarm_kp, ← freeFlits_kp, ← raise_kp, ← takeChunk_kp]

theorem execCollHoldTimeout_kp (s : State)
    (h0 : Kp kb s) : OKp kb (execCollHoldTimeout s) := by
  unfold execCollHoldTimeout; grind (splits := 14) (gen := 60) (ematch := 60) [Option.map_eq_some_iff, Option.bind_eq_some_iff, ← Kp.upd2, ← OKp.next, ← MKp.some, ← Kp.getD, ← Kp.foldl, ← Kp.foldl1, ← Kp.foldl2, ← Kp.foldl3, ← writeBytes_wf, ← wf_filter, wf_nil, ← State.bump_kp, ← freeFlits_kp, ← raise_kp]

theorem grpRefuse_kp (s : State)
    (h0 : Kp kb s) : Kp kb (grpRefuse s) := by
  unfold grpRefuse; grind (splits := 14) (gen := 60) (ematch := 60) [Option.map_eq_some_iff, Option.bind_eq_some_iff, ← Kp.upd2, ← OKp.next, ← MKp.some, ← Kp.getD, ← Kp.foldl, ← Kp.foldl1, ← Kp.foldl2, ← Kp.foldl3, ← writeBytes_wf, ← wf_filter, wf_nil, ← State.setFld_kp, ← raise_kp]

theorem execGrpDefine_kp (s : State)
    (h0 : Kp kb s) : OKp kb (execGrpDefine s) := by
  unfold execGrpDefine; grind (splits := 14) (gen := 60) (ematch := 60) [Option.map_eq_some_iff, Option.bind_eq_some_iff, ← Kp.upd2, ← OKp.next, ← MKp.some, ← Kp.getD, ← Kp.foldl, ← Kp.foldl1, ← Kp.foldl2, ← Kp.foldl3, ← writeBytes_wf, ← wf_filter, wf_nil, ← State.setFld_kp, ← grpRefuse_kp, ← setGroup_kp]

theorem execGrpFree_kp (s : State)
    (h0 : Kp kb s) : OKp kb (execGrpFree s) := by
  unfold execGrpFree; grind (splits := 14) (gen := 60) (ematch := 60) [Option.map_eq_some_iff, Option.bind_eq_some_iff, ← Kp.upd2, ← OKp.next, ← MKp.some, ← Kp.getD, ← Kp.foldl, ← Kp.foldl1, ← Kp.foldl2, ← Kp.foldl3, ← writeBytes_wf, ← wf_filter, wf_nil, ← State.setFld_kp, ← grpRefuse_kp]

end Sys2Proof.Machine
end

