-- ==== Sys2Proof/Laws/Keep08.lean ====
section
/-!
SUPPORT. Laws/Keep08.lean: each function of Machine/Sweep, Journal, Cal, Kept, Quench, Power, Bridge
that answers a state keeps the queue, the fuses and the canonical form.
-/
namespace Sys2Proof.Machine

open Sys2Proof

variable {kb : State}

/-! ## Machine/Sweep.lean -/

theorem modSweep_kp (s : State) (f : SweepSt → SweepSt)
    (h0 : Kp kb s) : Kp kb (modSweep s f) := by
  unfold modSweep; grind (splits := 14) (gen := 60) (ematch := 60) [Option.map_eq_some_iff, Option.bind_eq_some_iff, ← Kp.upd2, ← OKp.next, ← MKp.some, ← Kp.getD, ← Kp.foldl, ← Kp.foldl1, ← Kp.foldl2, ← Kp.foldl3, ← writeBytes_wf, ← wf_filter, wf_nil]

theorem sweepFinish_kp (s : State) (c : Nat) (i : Iss) (q : Requester) (st : Nat) (moved : Nat)
    (h0 : Kp kb s) : Kp kb (sweepFinish s c i q st moved) := by
  unfold sweepFinish; grind (splits := 14) (gen := 60) (ematch := 60) [Option.map_eq_some_iff, Option.bind_eq_some_iff, ← Kp.upd2, ← OKp.next, ← MKp.some, ← Kp.getD, ← Kp.foldl, ← Kp.foldl1, ← Kp.foldl2, ← Kp.foldl3, ← writeBytes_wf, ← wf_filter, wf_nil, ← raiseFor_kp, ← runFinish_kp]

theorem releaseGrad_kp (s : State)
    (h0 : Kp kb s) : Kp kb (releaseGrad s) := by
  unfold releaseGrad; grind (splits := 14) (gen := 60) (ematch := 60) [Option.map_eq_some_iff, Option.bind_eq_some_iff, ← Kp.upd2, ← OKp.next, ← MKp.some, ← Kp.getD, ← Kp.foldl, ← Kp.foldl1, ← Kp.foldl2, ← Kp.foldl3, ← writeBytes_wf, ← wf_filter, wf_nil, ← State.setFld_kp, ← signalToken_kp]

theorem execSwCmdRelease_kp (s : State)
    (h0 : Kp kb s) : OKp kb (execSwCmdRelease s) := by
  unfold execSwCmdRelease; grind (splits := 14) (gen := 60) (ematch := 60) [Option.map_eq_some_iff, Option.bind_eq_some_iff, ← Kp.upd2, ← OKp.next, ← MKp.some, ← Kp.getD, ← Kp.foldl, ← Kp.foldl1, ← Kp.foldl2, ← Kp.foldl3, ← writeBytes_wf, ← wf_filter, wf_nil, ← releaseGrad_kp]

theorem execSwCmdClearHold_kp (s : State)
    (h0 : Kp kb s) : OKp kb (execSwCmdClearHold s) := by
  unfold execSwCmdClearHold; grind (splits := 14) (gen := 60) (ematch := 60) [Option.map_eq_some_iff, Option.bind_eq_some_iff, ← Kp.upd2, ← OKp.next, ← MKp.some, ← Kp.getD, ← Kp.foldl, ← Kp.foldl1, ← Kp.foldl2, ← Kp.foldl3, ← writeBytes_wf, ← wf_filter, wf_nil, ← State.setFld_kp]

theorem execNcheck_kp (c : Core) (s : State)
    (h0 : Kp kb s) : OKp kb (execNcheck c s) := by
  unfold execNcheck; grind (splits := 14) (gen := 60) (ematch := 60) [Option.map_eq_some_iff, Option.bind_eq_some_iff, ← Kp.upd2, ← OKp.next, ← MKp.some, ← Kp.getD, ← Kp.foldl, ← Kp.foldl1, ← Kp.foldl2, ← Kp.foldl3, ← writeBytes_wf, ← wf_filter, wf_nil, ← putBytes_kp, ← sweepFinish_kp]

theorem sendVote_kp (s : State) (g : Nat) (e : GEnt) (to_ : Nat) (phase : Nat) (pass : Bool) (ke : Nat) (ka : Nat) (verdict : Nat)
    (h0 : Kp kb s) : Kp kb (sendVote s g e to_ phase pass ke ka verdict) := by
  unfold sendVote; grind (splits := 14) (gen := 60) (ematch := 60) [Option.map_eq_some_iff, Option.bind_eq_some_iff, ← Kp.upd2, ← OKp.next, ← MKp.some, ← Kp.getD, ← Kp.foldl, ← Kp.foldl1, ← Kp.foldl2, ← Kp.foldl3, ← writeBytes_wf, ← wf_filter, wf_nil, ← sendMsg_kp]

theorem finishVote_kp (s : State) (v : VoteSt) (w : Nat)
    (h0 : Kp kb s) : Kp kb (finishVote s v w) := by
  unfold finishVote; grind (splits := 14) (gen := 60) (ematch := 60) [Option.map_eq_some_iff, Option.bind_eq_some_iff, ← Kp.upd2, ← OKp.next, ← MKp.some, ← Kp.getD, ← Kp.foldl, ← Kp.foldl1, ← Kp.foldl2, ← Kp.foldl3, ← writeBytes_wf, ← wf_filter, wf_nil, ← State.bump_kp, ← State.setFld_kp, ← modSweep_kp, ← putBytes_kp, ← raise_kp, ← releaseGrad_kp, ← sweepFinish_kp]

theorem decide'_kp (s : State) (v : VoteSt) (w : Nat)
    (h0 : Kp kb s) : Kp kb (decide' s v w) := by
  unfold decide'; grind (splits := 14) (gen := 60) (ematch := 60) [Option.map_eq_some_iff, Option.bind_eq_some_iff, ← Kp.upd2, ← OKp.next, ← MKp.some, ← Kp.getD, ← Kp.foldl, ← Kp.foldl1, ← Kp.foldl2, ← Kp.foldl3, ← writeBytes_wf, ← wf_filter, wf_nil, ← finishVote_kp, ← modSweep_kp, ← sendVote_kp]

theorem voteWindow_kp (s : State)
    (h0 : Kp kb s) : Kp kb (voteWindow s) := by
  unfold voteWindow; grind (splits := 14) (gen := 60) (ematch := 60) [Option.map_eq_some_iff, Option.bind_eq_some_iff, ← Kp.upd2, ← OKp.next, ← MKp.some, ← Kp.getD, ← Kp.foldl, ← Kp.foldl1, ← Kp.foldl2, ← Kp.foldl3, ← writeBytes_wf, ← wf_filter, wf_nil, ← finishVote_kp]

theorem laneStage_kp (s : State) (v : VoteSt)
    (h0 : Kp kb s) : Kp kb (laneStage s v) := by
  unfold laneStage; grind (splits := 14) (gen := 60) (ematch := 60) [Option.map_eq_some_iff, Option.bind_eq_some_iff, ← Kp.upd2, ← OKp.next, ← MKp.some, ← Kp.getD, ← Kp.foldl, ← Kp.foldl1, ← Kp.foldl2, ← Kp.foldl3, ← writeBytes_wf, ← wf_filter, wf_nil, ← decide'_kp, ← modSweep_kp, ← sendVote_kp]

theorem onDecision_kp (s : State) (v : VoteSt) (m : Packet)
    (h0 : Kp kb s) : Kp kb (onDecision s v m) := by
  unfold onDecision; grind (splits := 14) (gen := 60) (ematch := 60) [Option.map_eq_some_iff, Option.bind_eq_some_iff, ← Kp.upd2, ← OKp.next, ← MKp.some, ← Kp.getD, ← Kp.foldl, ← Kp.foldl1, ← Kp.foldl2, ← Kp.foldl3, ← writeBytes_wf, ← wf_filter, wf_nil, ← decide'_kp]

theorem onVote_kp (s : State) (v : VoteSt) (m : Packet)
    (h0 : Kp kb s) : Kp kb (onVote s v m) := by
  unfold onVote; grind (splits := 14) (gen := 60) (ematch := 60) [Option.map_eq_some_iff, Option.bind_eq_some_iff, ← Kp.upd2, ← OKp.next, ← MKp.some, ← Kp.getD, ← Kp.foldl, ← Kp.foldl1, ← Kp.foldl2, ← Kp.foldl3, ← writeBytes_wf, ← wf_filter, wf_nil, ← laneStage_kp, ← onDecision_kp]

theorem answerBallot_kp (s : State) (m : Packet) (w : Nat)
    (h0 : Kp kb s) : Kp kb (answerBallot s m w) := by
  unfold answerBallot; grind (splits := 14) (gen := 60) (ematch := 60) [Option.map_eq_some_iff, Option.bind_eq_some_iff, ← Kp.upd2, ← OKp.next, ← MKp.some, ← Kp.getD, ← Kp.foldl, ← Kp.foldl1, ← Kp.foldl2, ← Kp.foldl3, ← writeBytes_wf, ← wf_filter, wf_nil, ← sendVote_kp]

theorem takeVote_kp (s : State) (m : Packet)
    (h0 : Kp kb s) : Kp kb (takeVote s m) := by
  unfold takeVote; dsimp only; (repeat' split) <;> grind (splits := 14) (gen := 60) (ematch := 60) [Option.map_eq_some_iff, Option.bind_eq_some_iff, ← Kp.upd2, ← OKp.next, ← MKp.some, ← Kp.getD, ← Kp.foldl, ← Kp.foldl1, ← Kp.foldl2, ← Kp.foldl3, ← writeBytes_wf, ← wf_filter, wf_nil, ← answerBallot_kp, ← modSweep_kp, ← onVote_kp]

theorem voteRow_kp (ok : Nat → Bool) (s : State)
    (h0 : Kp kb s) : OKp kb (voteRow ok s) := by
  unfold voteRow; grind (splits := 14) (gen := 60) (ematch := 60) [Option.map_eq_some_iff, Option.bind_eq_some_iff, ← Kp.upd2, ← OKp.next, ← MKp.some, ← Kp.getD, ← Kp.foldl, ← Kp.foldl1, ← Kp.foldl2, ← Kp.foldl3, ← writeBytes_wf, ← wf_filter, wf_nil, ← freeFlits_kp, ← takeVote_kp]

theorem execVoteBallot_kp (s : State)
    (h0 : Kp kb s) : OKp kb (execVoteBallot s) := by
  unfold execVoteBallot; grind (splits := 14) (gen := 60) (ematch := 60) [Option.map_eq_some_iff, Option.bind_eq_some_iff, ← Kp.upd2, ← OKp.next, ← MKp.some, ← Kp.getD, ← Kp.foldl, ← Kp.foldl1, ← Kp.foldl2, ← Kp.foldl3, ← writeBytes_wf, ← wf_filter, wf_nil, ← voteRow_kp]

theorem execVoteLaneVerdict_kp (s : State)
    (h0 : Kp kb s) : OKp kb (execVoteLaneVerdict s) := by
  unfold execVoteLaneVerdict; grind (splits := 14) (gen := 60) (ematch := 60) [Option.map_eq_some_iff, Option.bind_eq_some_iff, ← Kp.upd2, ← OKp.next, ← MKp.some, ← Kp.getD, ← Kp.foldl, ← Kp.foldl1, ← Kp.foldl2, ← Kp.foldl3, ← writeBytes_wf, ← wf_filter, wf_nil, ← voteRow_kp]

theorem execVoteCommitDecision_kp (s : State)
    (h0 : Kp kb s) : OKp kb (execVoteCommitDecision s) := by
  unfold execVoteCommitDecision; grind (splits := 14) (gen := 60) (ematch := 60) [Option.map_eq_some_iff, Option.bind_eq_some_iff, ← Kp.upd2, ← OKp.next, ← MKp.some, ← Kp.getD, ← Kp.foldl, ← Kp.foldl1, ← Kp.foldl2, ← Kp.foldl3, ← writeBytes_wf, ← wf_filter, wf_nil, ← voteRow_kp]

theorem execVoteAbortDecision_kp (s : State)
    (h0 : Kp kb s) : OKp kb (execVoteAbortDecision s) := by
  unfold execVoteAbortDecision; grind (splits := 14) (gen := 60) (ematch := 60) [Option.map_eq_some_iff, Option.bind_eq_some_iff, ← Kp.upd2, ← OKp.next, ← MKp.some, ← Kp.getD, ← Kp.foldl, ← Kp.foldl1, ← Kp.foldl2, ← Kp.foldl3, ← writeBytes_wf, ← wf_filter, wf_nil, ← voteRow_kp]

theorem execVoteCommitNotice_kp (s : State)
    (h0 : Kp kb s) : OKp kb (execVoteCommitNotice s) := by
  unfold execVoteCommitNotice; grind (splits := 14) (gen := 60) (ematch := 60) [Option.map_eq_some_iff, Option.bind_eq_some_iff, ← Kp.upd2, ← OKp.next, ← MKp.some, ← Kp.getD, ← Kp.foldl, ← Kp.foldl1, ← Kp.foldl2, ← Kp.foldl3, ← writeBytes_wf, ← wf_filter, wf_nil, ← voteRow_kp]

theorem openVote_kp (s : State) (v : VoteSt) (e : GEnt)
    (h0 : Kp kb s) : Kp kb (openVote s v e) := by
  unfold openVote; grind (splits := 14) (gen := 60) (ematch := 60) [Option.map_eq_some_iff, Option.bind_eq_some_iff, ← Kp.upd2, ← OKp.next, ← MKp.some, ← Kp.getD, ← Kp.foldl, ← Kp.foldl1, ← Kp.foldl2, ← Kp.foldl3, ← writeBytes_wf, ← wf_filter, wf_nil, ← State.disarm_kp, ← laneStage_kp, ← modSweep_kp, ← sendVote_kp, ← takeVote_kp]

theorem execVote_kp (c : Core) (s : State)
    (h0 : Kp kb s) : OKp kb (execVote c s) := by
  unfold execVote; grind (splits := 14) (gen := 60) (ematch := 60) [Option.map_eq_some_iff, Option.bind_eq_some_iff, ← Kp.upd2, ← OKp.next, ← MKp.some, ← Kp.getD, ← Kp.foldl, ← Kp.foldl1, ← Kp.foldl2, ← Kp.foldl3, ← writeBytes_wf, ← wf_filter, wf_nil, ← State.setFld_kp, ← State.setReg_kp, ← openVote_kp, ← sweepFinish_kp]

theorem execVoteDeadline_kp (s : State)
    (h0 : Kp kb s) : OKp kb (execVoteDeadline s) := by
  unfold execVoteDeadline; grind (splits := 14) (gen := 60) (ematch := 60) [Option.map_eq_some_iff, Option.bind_eq_some_iff, ← Kp.upd2, ← OKp.next, ← MKp.some, ← Kp.getD, ← Kp.foldl, ← Kp.foldl1, ← Kp.foldl2, ← Kp.foldl3, ← writeBytes_wf, ← wf_filter, wf_nil, ← State.setFld_kp, ← modSweep_kp]

theorem execVoteGraceExpire_kp (s : State)
    (h0 : Kp kb s) : OKp kb (execVoteGraceExpire s) := by
  unfold execVoteGraceExpire; grind (splits := 14) (gen := 60) (ematch := 60) [Option.map_eq_some_iff, Option.bind_eq_some_iff, ← Kp.upd2, ← OKp.next, ← MKp.some, ← Kp.getD, ← Kp.foldl, ← Kp.foldl1, ← Kp.foldl2, ← Kp.foldl3, ← writeBytes_wf, ← wf_filter, wf_nil, ← decide'_kp]

theorem jnlCommit_kp (s : State) (e : Nat) (v : Nat)
    (h0 : Kp kb s) : Kp kb (jnlCommit s e v) := by
  unfold jnlCommit; grind (splits := 14) (gen := 60) (ematch := 60) [Option.map_eq_some_iff, Option.bind_eq_some_iff, ← Kp.upd2, ← OKp.next, ← MKp.some, ← Kp.getD, ← Kp.foldl, ← Kp.foldl1, ← Kp.foldl2, ← Kp.foldl3, ← writeBytes_wf, ← wf_filter, wf_nil, ← jnlAppend_kp]

theorem resolveSeals_kp (s : State)
    (h0 : Kp kb s) : Kp kb (resolveSeals s) := by
  unfold resolveSeals; grind (splits := 14) (gen := 60) (ematch := 60) [Option.map_eq_some_iff, Option.bind_eq_some_iff, ← Kp.upd2, ← OKp.next, ← MKp.some, ← Kp.getD, ← Kp.foldl, ← Kp.foldl1, ← Kp.foldl2, ← Kp.foldl3, ← writeBytes_wf, ← wf_filter, wf_nil, ← State.bump_kp, ← State.setFld_kp, ← State.setReg_kp, ← jnlCommit_kp, ← raise_kp, ← releaseGrad_kp]

theorem sendSeal_kp (s : State) (g : GEnt) (e : Nat)
    (h0 : Kp kb s) : Kp kb (sendSeal s g e) := by
  unfold sendSeal; grind (splits := 14) (gen := 60) (ematch := 60) [Option.map_eq_some_iff, Option.bind_eq_some_iff, ← Kp.upd2, ← OKp.next, ← MKp.some, ← Kp.getD, ← Kp.foldl, ← Kp.foldl1, ← Kp.foldl2, ← Kp.foldl3, ← writeBytes_wf, ← wf_filter, wf_nil, ← State.disarm_kp, ← State.setFld_kp, ← State.setReg_kp, ← modSweep_kp, ← resolveSeals_kp, ← sendMsg_kp]

theorem execSeal_kp (c : Core) (s : State)
    (h0 : Kp kb s) : OKp kb (execSeal c s) := by
  unfold execSeal; grind (splits := 14) (gen := 60) (ematch := 60) [Option.map_eq_some_iff, Option.bind_eq_some_iff, ← Kp.upd2, ← OKp.next, ← MKp.some, ← Kp.getD, ← Kp.foldl, ← Kp.foldl1, ← Kp.foldl2, ← Kp.foldl3, ← writeBytes_wf, ← wf_filter, wf_nil, ← State.setReg_kp, ← modSweep_kp, ← putBytes_kp, ← sendSeal_kp, ← sweepFinish_kp]

theorem execSealMessage_kp (s : State)
    (h0 : Kp kb s) : OKp kb (execSealMessage s) := by
  unfold execSealMessage; grind (splits := 14) (gen := 60) (ematch := 60) [Option.map_eq_some_iff, Option.bind_eq_some_iff, ← Kp.upd2, ← OKp.next, ← MKp.some, ← Kp.getD, ← Kp.foldl, ← Kp.foldl1, ← Kp.foldl2, ← Kp.foldl3, ← writeBytes_wf, ← wf_filter, wf_nil, ← modSweep_kp, ← resolveSeals_kp, takeKind_kp]

theorem execSealTimeout_kp (s : State)
    (h0 : Kp kb s) : OKp kb (execSealTimeout s) := by
  unfold execSealTimeout; grind (splits := 14) (gen := 60) (ematch := 60) [Option.map_eq_some_iff, Option.bind_eq_some_iff, ← Kp.upd2, ← OKp.next, ← MKp.some, ← Kp.getD, ← Kp.foldl, ← Kp.foldl1, ← Kp.foldl2, ← Kp.foldl3, ← writeBytes_wf, ← wf_filter, wf_nil, ← modSweep_kp, ← raise_kp]

/-! ## Machine/Journal.lean -/

theorem jnlCounters_kp (s : State)
    (h0 : Kp kb s) : Kp kb (jnlCounters s) := by
  unfold jnlCounters; grind (splits := 14) (gen := 60) (ematch := 60) [Option.map_eq_some_iff, Option.bind_eq_some_iff, ← Kp.upd2, ← OKp.next, ← MKp.some, ← Kp.getD, ← Kp.foldl, ← Kp.foldl1, ← Kp.foldl2, ← Kp.foldl3, ← writeBytes_wf, ← wf_filter, wf_nil, ← jnlAppend_kp]

theorem lifeSave_kp (s : State)
    (h0 : Kp kb s) : Kp kb (lifeSave s) := by
  unfold lifeSave; grind (splits := 14) (gen := 60) (ematch := 60) [Option.map_eq_some_iff, Option.bind_eq_some_iff, ← Kp.upd2, ← OKp.next, ← MKp.some, ← Kp.getD, ← Kp.foldl, ← Kp.foldl1, ← Kp.foldl2, ← Kp.foldl3, ← writeBytes_wf, ← wf_filter, wf_nil, ← jnlCounters_kp, programOwn_kp]

theorem execLifeSave_kp (s : State)
    (h0 : Kp kb s) : OKp kb (execLifeSave s) := by
  unfold execLifeSave; grind (splits := 14) (gen := 60) (ematch := 60) [Option.map_eq_some_iff, Option.bind_eq_some_iff, ← Kp.upd2, ← OKp.next, ← MKp.some, ← Kp.getD, ← Kp.foldl, ← Kp.foldl1, ← Kp.foldl2, ← Kp.foldl3, ← writeBytes_wf, ← wf_filter, wf_nil, ← State.upTo_kp, ← lifeSave_kp]

theorem freePages_kp (s : State)
    (h0 : Kp kb s) : Kp kb (freePages s) := by
  unfold freePages; grind (splits := 14) (gen := 60) (ematch := 60) [Option.map_eq_some_iff, Option.bind_eq_some_iff, ← Kp.upd2, ← OKp.next, ← MKp.some, ← Kp.getD, ← Kp.foldl, ← Kp.foldl1, ← Kp.foldl2, ← Kp.foldl3, ← writeBytes_wf, ← wf_filter, wf_nil]

theorem durableDone_kp (s : State) (last : Nat)
    (h0 : Kp kb s) : Kp kb (durableDone s last) := by
  unfold durableDone; grind (splits := 14) (gen := 60) (ematch := 60) [Option.map_eq_some_iff, Option.bind_eq_some_iff, ← Kp.upd2, ← OKp.next, ← MKp.some, ← Kp.getD, ← Kp.foldl, ← Kp.foldl1, ← Kp.foldl2, ← Kp.foldl3, ← writeBytes_wf, ← wf_filter, wf_nil, ← touchFin_kp]

theorem jnlProgram_kp (s : State)
    (h0 : Kp kb s) : ∀ xr, (jnlProgram s) = some xr → Kp kb xr := by
  intro xr hx; unfold jnlProgram at hx
  split at hx
  · cases hx
  · extract_lets s1 rs t at hx
    have k1 : Kp kb s1 := freePages_kp _ h0
    clear_value s1
    split at hx
    · cases hx
    · simp only [Option.map_eq_some_iff] at hx
      obtain ⟨s2, e, rfl⟩ := hx
      have k2 : Kp kb s2 := programOwn_kp _ _ _ k1 _ e
      exact jnlDrain_kp _ _ (durableDone_kp _ _ (State.setReg_kp _ _ _ _ (State.setReg_kp _ _ _ _ (k2.upd2 id id id id id))))

theorem execJournalPageProgram_kp (s : State)
    (h0 : Kp kb s) : OKp kb (execJournalPageProgram s) := by
  unfold execJournalPageProgram; grind (splits := 14) (gen := 60) (ematch := 60) [Option.map_eq_some_iff, Option.bind_eq_some_iff, ← Kp.upd2, ← OKp.next, ← MKp.some, ← Kp.getD, ← Kp.foldl, ← Kp.foldl1, ← Kp.foldl2, ← Kp.foldl3, ← writeBytes_wf, ← wf_filter, wf_nil, jnlProgram_kp]

theorem execJournalSync_kp (s : State)
    (h0 : Kp kb s) : OKp kb (execJournalSync s) := by
  unfold execJournalSync; grind (splits := 14) (gen := 60) (ematch := 60) [Option.map_eq_some_iff, Option.bind_eq_some_iff, ← Kp.upd2, ← OKp.next, ← MKp.some, ← Kp.getD, ← Kp.foldl, ← Kp.foldl1, ← Kp.foldl2, ← Kp.foldl3, ← writeBytes_wf, ← wf_filter, wf_nil, jnlProgram_kp]

theorem jnlSnapshot_kp (s : State)
    (h0 : Kp kb s) : Kp kb (jnlSnapshot s) := by
  unfold jnlSnapshot; grind (splits := 14) (gen := 60) (ematch := 60) [Option.map_eq_some_iff, Option.bind_eq_some_iff, ← Kp.upd2, ← OKp.next, ← MKp.some, ← Kp.getD, ← Kp.foldl, ← Kp.foldl1, ← Kp.foldl2, ← Kp.foldl3, ← writeBytes_wf, ← wf_filter, wf_nil, ← State.setReg_kp, ← jnlAppend_kp]

theorem execSnapshotAppend_kp (s : State)
    (h0 : Kp kb s) : OKp kb (execSnapshotAppend s) := by
  unfold execSnapshotAppend; grind (splits := 14) (gen := 60) (ematch := 60) [Option.map_eq_some_iff, Option.bind_eq_some_iff, ← Kp.upd2, ← OKp.next, ← MKp.some, ← Kp.getD, ← Kp.foldl, ← Kp.foldl1, ← Kp.foldl2, ← Kp.foldl3, ← writeBytes_wf, ← wf_filter, wf_nil, ← freePages_kp, ← jnlSnapshot_kp]

theorem execJappend_kp (c : Core) (s : State)
    (h0 : Kp kb s) : OKp kb (execJappend c s) := by
  unfold execJappend; grind (splits := 14) (gen := 60) (ematch := 60) [Option.map_eq_some_iff, Option.bind_eq_some_iff, ← Kp.upd2, ← OKp.next, ← MKp.some, ← Kp.getD, ← Kp.foldl, ← Kp.foldl1, ← Kp.foldl2, ← Kp.foldl3, ← writeBytes_wf, ← wf_filter, wf_nil, ← State.setFld_kp, ← jnlPush_kp, ← sweepFinish_kp]

theorem flushTail_kp (s : State)
    (h0 : Kp kb s) : Kp kb (flushTail s) := by
  unfold flushTail; grind (splits := 14) (gen := 60) (ematch := 60) [Option.map_eq_some_iff, Option.bind_eq_some_iff, ← Kp.upd2, ← OKp.next, ← MKp.some, ← Kp.getD, ← Kp.foldl, ← Kp.foldl1, ← Kp.foldl2, ← Kp.foldl3, ← writeBytes_wf, ← wf_filter, wf_nil, ← State.disarm_kp, jnlProgram_kp, ← logFlush_kp]

theorem jnlReplay_kp (s : State)
    (h0 : Kp kb s) : Kp kb (jnlReplay s) := by
  unfold jnlReplay; grind (splits := 14) (gen := 60) (ematch := 60) [Option.map_eq_some_iff, Option.bind_eq_some_iff, ← Kp.upd2, ← OKp.next, ← MKp.some, ← Kp.getD, ← Kp.foldl, ← Kp.foldl1, ← Kp.foldl2, ← Kp.foldl3, ← writeBytes_wf, ← wf_filter, wf_nil, ← State.bump_kp, ← State.setFld_kp, ← State.setReg_kp, ← jnlAppend_kp, ← raise_kp]

theorem lifeLoad_kp (s : State)
    (h0 : Kp kb s) : Kp kb (lifeLoad s) := by
  unfold lifeLoad; grind (splits := 14) (gen := 60) (ematch := 60) [Option.map_eq_some_iff, Option.bind_eq_some_iff, ← Kp.upd2, ← OKp.next, ← MKp.some, ← Kp.getD, ← Kp.foldl, ← Kp.foldl1, ← Kp.foldl2, ← Kp.foldl3, ← writeBytes_wf, ← wf_filter, wf_nil, ← raiseNotify_kp, ← raise_kp]

/-! ## Machine/Cal.lean -/

theorem modCal_kp (s : State) (f : CalSt → CalSt)
    (h0 : Kp kb s) : Kp kb (modCal s f) := by
  unfold modCal; grind (splits := 14) (gen := 60) (ematch := 60) [Option.map_eq_some_iff, Option.bind_eq_some_iff, ← Kp.upd2, ← OKp.next, ← MKp.some, ← Kp.getD, ← Kp.foldl, ← Kp.foldl1, ← Kp.foldl2, ← Kp.foldl3, ← writeBytes_wf, ← wf_filter, wf_nil]

theorem calForce_kp (s : State) (i : Nat)
    (h0 : Kp kb s) : Kp kb (calForce s i) := by
  unfold calForce; grind (splits := 14) (gen := 60) (ematch := 60) [Option.map_eq_some_iff, Option.bind_eq_some_iff, ← Kp.upd2, ← OKp.next, ← MKp.some, ← Kp.getD, ← Kp.foldl, ← Kp.foldl1, ← Kp.foldl2, ← Kp.foldl3, ← writeBytes_wf, ← wf_filter, wf_nil, ← modCal_kp]

theorem calAtTick_kp (s : State)
    (h0 : Kp kb s) : Kp kb (calAtTick s) := by
  unfold calAtTick; grind (splits := 14) (gen := 60) (ematch := 60) [Option.map_eq_some_iff, Option.bind_eq_some_iff, ← Kp.upd2, ← OKp.next, ← MKp.some, ← Kp.getD, ← Kp.foldl, ← Kp.foldl1, ← Kp.foldl2, ← Kp.foldl3, ← writeBytes_wf, ← wf_filter, wf_nil, ← calForce_kp]

theorem railsStart_kp (s : State)
    (h0 : Kp kb s) : Kp kb (railsStart s) := by
  unfold railsStart; grind (splits := 14) (gen := 60) (ematch := 60) [Option.map_eq_some_iff, Option.bind_eq_some_iff, ← Kp.upd2, ← OKp.next, ← MKp.some, ← Kp.getD, ← Kp.foldl, ← Kp.foldl1, ← Kp.foldl2, ← Kp.foldl3, ← writeBytes_wf, ← wf_filter, wf_nil, ← modCal_kp]

theorem calApplyItem_kp (s : State) (i : Nat)
    (h0 : Kp kb s) : Kp kb (calApplyItem s i) := by
  unfold calApplyItem; grind (splits := 14) (gen := 60) (ematch := 60) [Option.map_eq_some_iff, Option.bind_eq_some_iff, ← Kp.upd2, ← OKp.next, ← MKp.some, ← Kp.getD, ← Kp.foldl, ← Kp.foldl1, ← Kp.foldl2, ← Kp.foldl3, ← writeBytes_wf, ← wf_filter, wf_nil, ← calForce_kp, ← modCal_kp, ← raise_kp]

theorem execCalApply_kp (s : State)
    (h0 : Kp kb s) : OKp kb (execCalApply s) := by
  unfold execCalApply; grind (splits := 14) (gen := 60) (ematch := 60) [Option.map_eq_some_iff, Option.bind_eq_some_iff, ← Kp.upd2, ← OKp.next, ← MKp.some, ← Kp.getD, ← Kp.foldl, ← Kp.foldl1, ← Kp.foldl2, ← Kp.foldl3, ← writeBytes_wf, ← wf_filter, wf_nil, ← State.setFld_kp, ← calApplyItem_kp, ← modCal_kp]

theorem calSave_kp (s : State)
    (h0 : Kp kb s) : Kp kb (calSave s) := by
  unfold calSave
  refine Kp.ite h0 ?_
  extract_lets g img first
  split
  · exact h0
  · rename_i s1 e1
    have k1 : Kp kb s1 := programOwn_kp _ _ _ h0 _ e1
    extract_lets s2
    have k2 : Kp kb s2 := modCal_kp _ _ k1
    clear_value s2
    split
    · exact k2
    · rename_i s3 e3
      have k3 : Kp kb s3 := programOwn_kp _ _ _ k2 _ e3
      exact jnlAppend_kp _ _ _ _ _ (State.setFld_kp _ _ _ _ _ (State.setReg_kp _ _ _ _ (modCal_kp _ _ k3)))

theorem execCalSave_kp (s : State)
    (h0 : Kp kb s) : OKp kb (execCalSave s) := by
  unfold execCalSave; grind (splits := 14) (gen := 60) (ematch := 60) [Option.map_eq_some_iff, Option.bind_eq_some_iff, ← Kp.upd2, ← OKp.next, ← MKp.some, ← Kp.getD, ← Kp.foldl, ← Kp.foldl1, ← Kp.foldl2, ← Kp.foldl3, ← writeBytes_wf, ← wf_filter, wf_nil, ← calSave_kp]

theorem execCalClear_kp (s : State)
    (h0 : Kp kb s) : OKp kb (execCalClear s) := by
  unfold execCalClear; grind (splits := 14) (gen := 60) (ematch := 60) [Option.map_eq_some_iff, Option.bind_eq_some_iff, ← Kp.upd2, ← OKp.next, ← MKp.some, ← Kp.getD, ← Kp.foldl, ← Kp.foldl1, ← Kp.foldl2, ← Kp.foldl3, ← writeBytes_wf, ← wf_filter, wf_nil, ← State.setFld_kp, ← modCal_kp]

theorem calUserWrite_kp (s : State) (v : Int)
    (h0 : Kp kb s) : Kp kb (calUserWrite s v) := by
  unfold calUserWrite; grind (splits := 14) (gen := 60) (ematch := 60) [Option.map_eq_some_iff, Option.bind_eq_some_iff, ← Kp.upd2, ← OKp.next, ← MKp.some, ← Kp.getD, ← Kp.foldl, ← Kp.foldl1, ← Kp.foldl2, ← Kp.foldl3, ← writeBytes_wf, ← wf_filter, wf_nil, ← State.setFld_kp, ← modCal_kp]

theorem calImage_kp (s : State)
    (h0 : Kp kb s) : Kp kb (calImage s).2 := by
  unfold calImage; grind (splits := 14) (gen := 60) (ematch := 60) [Option.map_eq_some_iff, Option.bind_eq_some_iff, ← Kp.upd2, ← OKp.next, ← MKp.some, ← Kp.getD, ← Kp.foldl, ← Kp.foldl1, ← Kp.foldl2, ← Kp.foldl3, ← writeBytes_wf, ← wf_filter, wf_nil, ← modCal_kp, programOwn_kp, ← raise_kp]

theorem calTake_kp (s : State) (x : Option CalImg)
    (h0 : Kp kb s) : Kp kb (calTake s x) := by
  unfold calTake; grind (splits := 14) (gen := 60) (ematch := 60) [Option.map_eq_some_iff, Option.bind_eq_some_iff, ← Kp.upd2, ← OKp.next, ← MKp.some, ← Kp.getD, ← Kp.foldl, ← Kp.foldl1, ← Kp.foldl2, ← Kp.foldl3, ← writeBytes_wf, ← wf_filter, wf_nil, ← State.setFld_kp, ← State.setReg_kp, ← modCal_kp, ← raise_kp]

theorem execCalReload_kp (s : State)
    (h0 : Kp kb s) : OKp kb (execCalReload s) := by
  unfold execCalReload; grind (splits := 14) (gen := 60) (ematch := 60) [Option.map_eq_some_iff, Option.bind_eq_some_iff, ← Kp.upd2, ← OKp.next, ← MKp.some, ← Kp.getD, ← Kp.foldl, ← Kp.foldl1, ← Kp.foldl2, ← Kp.foldl3, ← writeBytes_wf, ← wf_filter, wf_nil, ← calApplyItem_kp, ← calImage_kp, ← calTake_kp]

theorem calLoad_kp (s : State)
    (h0 : Kp kb s) : Kp kb (calLoad s) := by
  unfold calLoad; grind (splits := 14) (gen := 60) (ematch := 60) [Option.map_eq_some_iff, Option.bind_eq_some_iff, ← Kp.upd2, ← OKp.next, ← MKp.some, ← Kp.getD, ← Kp.foldl, ← Kp.foldl1, ← Kp.foldl2, ← Kp.foldl3, ← writeBytes_wf, ← wf_filter, wf_nil, ← calApplyItem_kp, ← calForce_kp, ← calImage_kp, ← calTake_kp]

theorem execRailSlewStep_kp (s : State)
    (h0 : Kp kb s) : OKp kb (execRailSlewStep s) := by
  unfold execRailSlewStep; grind (splits := 14) (gen := 60) (ematch := 60) [Option.map_eq_some_iff, Option.bind_eq_some_iff, ← Kp.upd2, ← OKp.next, ← MKp.some, ← Kp.getD, ← Kp.foldl, ← Kp.foldl1, ← Kp.foldl2, ← Kp.foldl3, ← writeBytes_wf, ← wf_filter, wf_nil, ← State.upTo_kp, ← modCal_kp]

theorem execGrdProfileReqWrite_kp (v : Bool) (s : State)
    (h0 : Kp kb s) : OKp kb (execGrdProfileReqWrite v s) := by
  unfold execGrdProfileReqWrite; grind (splits := 14) (gen := 60) (ematch := 60) [Option.map_eq_some_iff, Option.bind_eq_some_iff, ← Kp.upd2, ← OKp.next, ← MKp.some, ← Kp.getD, ← Kp.foldl, ← Kp.foldl1, ← Kp.foldl2, ← Kp.foldl3, ← writeBytes_wf, ← wf_filter, wf_nil, ← State.setFld_kp, ← calSave_kp, ← modCal_kp]

/-! ## Machine/Kept.lean -/

theorem resetKeeps_kp (s : State) (cold : Bool)
    (h0 : Kp kb s) : Kp kb (resetKeeps s cold) := by
  refine ⟨h0.1, h0.2, fun x => ?_⟩
  have y := h0.3 x
  refine ⟨?_, y.fuses, ?_, ?_, ?_, y.ingBytes, y.ingSide, ?_⟩
  · refine swfFrom_filterMap 0 _ ?_ _ 0 y.regs
    intro e e' he
    split at he
    · dsimp only at he
      split at he
      · cases he
      · cases he; exact ⟨rfl, by assumption⟩
    · cases he
  · cases cold <;> rfl
  · cases cold <;> rfl
  · cases cold
    · exact y.hbm
    · rfl
  · intro z hz
    simp only [resetKeeps, Vector.toList_map, List.mem_map] at hz
    obtain ⟨w, hw, rfl⟩ := hz
    cases cold
    · exact y.caches w hw
    · rfl

theorem powerLost_kp (s : State)
    (h0 : Kp kb s) : Kp kb (powerLost s) := by
  unfold powerLost; grind (splits := 14) (gen := 60) (ematch := 60) [Option.map_eq_some_iff, Option.bind_eq_some_iff, ← Kp.upd2, ← OKp.next, ← MKp.some, ← Kp.getD, ← Kp.foldl, ← Kp.foldl1, ← Kp.foldl2, ← Kp.foldl3, ← writeBytes_wf, ← wf_filter, wf_nil, ← resetKeeps_kp]

/-! ## Machine/Quench.lean -/

theorem execQuenchEntry_kp (q : QCause) (qs : List QCause) (s : State)
    (h0 : Kp kb s) : OKp kb (execQuenchEntry q qs s) := by
  unfold execQuenchEntry; grind (splits := 14) (gen := 60) (ematch := 60) [Option.map_eq_some_iff, Option.bind_eq_some_iff, ← Kp.upd2, ← OKp.next, ← MKp.some, ← Kp.getD, ← Kp.foldl, ← Kp.foldl1, ← Kp.foldl2, ← Kp.foldl3, ← writeBytes_wf, ← wf_filter, wf_nil, ← quench_kp]

theorem execQSwreq_kp (v : BitVec 32) (s : State)
    (h0 : Kp kb s) : OKp kb (execQSwreq v s) := by
  unfold execQSwreq; grind (splits := 14) (gen := 60) (ematch := 60) [Option.map_eq_some_iff, Option.bind_eq_some_iff, ← Kp.upd2, ← OKp.next, ← MKp.some, ← Kp.getD, ← Kp.foldl, ← Kp.foldl1, ← Kp.foldl2, ← Kp.foldl3, ← writeBytes_wf, ← wf_filter, wf_nil, ← quench_kp]

theorem execSafeStateReached_kp (s : State)
    (h0 : Kp kb s) : OKp kb (execSafeStateReached s) := by
  unfold execSafeStateReached; grind (splits := 14) (gen := 60) (ematch := 60) [Option.map_eq_some_iff, Option.bind_eq_some_iff, ← Kp.upd2, ← OKp.next, ← MKp.some, ← Kp.getD, ← Kp.foldl, ← Kp.foldl1, ← Kp.foldl2, ← Kp.foldl3, ← writeBytes_wf, ← wf_filter, wf_nil, ← State.setFld_kp, ← State.upTo_kp]

theorem landAll_kp (s : State)
    (h0 : Kp kb s) : Kp kb (landAll s) := by
  unfold landAll; grind (splits := 14) (gen := 60) (ematch := 60) [Option.map_eq_some_iff, Option.bind_eq_some_iff, ← Kp.upd2, ← OKp.next, ← MKp.some, ← Kp.getD, ← Kp.foldl, ← Kp.foldl1, ← Kp.foldl2, ← Kp.foldl3, ← writeBytes_wf, ← wf_filter, wf_nil, ← State.upTo_kp, ← landWrite_kp]

theorem execFlashQuiesced_kp (s : State)
    (h0 : Kp kb s) : OKp kb (execFlashQuiesced s) := by
  unfold execFlashQuiesced; grind (splits := 14) (gen := 60) (ematch := 60) [Option.map_eq_some_iff, Option.bind_eq_some_iff, ← Kp.upd2, ← OKp.next, ← MKp.some, ← Kp.getD, ← Kp.foldl, ← Kp.foldl1, ← Kp.foldl2, ← Kp.foldl3, ← writeBytes_wf, ← wf_filter, wf_nil, ← State.setFld_kp, ← landAll_kp]

theorem execFltStatusClear_kp (a : BitVec 26) (v : BitVec 64) (s : State)
    (h0 : Kp kb s) : OKp kb (execFltStatusClear a v s) := by
  unfold execFltStatusClear; grind (splits := 14) (gen := 60) (ematch := 60) [Option.map_eq_some_iff, Option.bind_eq_some_iff, ← Kp.upd2, ← OKp.next, ← MKp.some, ← Kp.getD, ← Kp.foldl, ← Kp.foldl1, ← Kp.foldl2, ← Kp.foldl3, ← writeBytes_wf, ← wf_filter, wf_nil, ← State.setReg_kp]

theorem execFltFirstClear_kp (a : BitVec 26) (s : State)
    (h0 : Kp kb s) : OKp kb (execFltFirstClear a s) := by
  unfold execFltFirstClear; grind (splits := 14) (gen := 60) (ematch := 60) [Option.map_eq_some_iff, Option.bind_eq_some_iff, ← Kp.upd2, ← OKp.next, ← MKp.some, ← Kp.getD, ← Kp.foldl, ← Kp.foldl1, ← Kp.foldl2, ← Kp.foldl3, ← writeBytes_wf, ← wf_filter, wf_nil, ← State.setFld_kp]

theorem headerParity_kp (s : State) (p : PageKind) (i : Nat) (word : Nat)
    (h0 : Kp kb s) : Kp kb (headerParity s p i word) := by
  unfold headerParity; grind (splits := 14) (gen := 60) (ematch := 60) [Option.map_eq_some_iff, Option.bind_eq_some_iff, ← Kp.upd2, ← OKp.next, ← MKp.some, ← Kp.getD, ← Kp.foldl, ← Kp.foldl1, ← Kp.foldl2, ← Kp.foldl3, ← writeBytes_wf, ← wf_filter, wf_nil, ← State.disarm_kp, ← State.setFld_kp, ← raise_kp]

theorem execHeaderParityError_kp (a : BitVec 26) (s : State)
    (h0 : Kp kb s) : OKp kb (execHeaderParityError a s) := by
  unfold execHeaderParityError; grind (splits := 14) (gen := 60) (ematch := 60) [Option.map_eq_some_iff, Option.bind_eq_some_iff, ← Kp.upd2, ← OKp.next, ← MKp.some, ← Kp.getD, ← Kp.foldl, ← Kp.foldl1, ← Kp.foldl2, ← Kp.foldl3, ← writeBytes_wf, ← wf_filter, wf_nil, ← headerParity_kp]

theorem wdogStart_kp (s : State) (k : Nat) (t : Nat)
    (h0 : Kp kb s) : Kp kb (wdogStart s k t) := by
  unfold wdogStart; grind (splits := 14) (gen := 60) (ematch := 60) [Option.map_eq_some_iff, Option.bind_eq_some_iff, ← Kp.upd2, ← OKp.next, ← MKp.some, ← Kp.getD, ← Kp.foldl, ← Kp.foldl1, ← Kp.foldl2, ← Kp.foldl3, ← writeBytes_wf, ← wf_filter, wf_nil]

theorem execWdogKick_kp (k : Fin 4) (s : State)
    (h0 : Kp kb s) : OKp kb (execWdogKick k s) := by
  unfold execWdogKick; grind (splits := 14) (gen := 60) (ematch := 60) [Option.map_eq_some_iff, Option.bind_eq_some_iff, ← Kp.upd2, ← OKp.next, ← MKp.some, ← Kp.getD, ← Kp.foldl, ← Kp.foldl1, ← Kp.foldl2, ← Kp.foldl3, ← writeBytes_wf, ← wf_filter, wf_nil, ← State.setFld_kp, ← wdogStart_kp]

theorem execWdogPeriodExpire_kp (k : Fin 4) (s : State)
    (h0 : Kp kb s) : OKp kb (execWdogPeriodExpire k s) := by
  unfold execWdogPeriodExpire; grind (splits := 14) (gen := 60) (ematch := 60) [Option.map_eq_some_iff, Option.bind_eq_some_iff, ← Kp.upd2, ← OKp.next, ← MKp.some, ← Kp.getD, ← Kp.foldl, ← Kp.foldl1, ← Kp.foldl2, ← Kp.foldl3, ← writeBytes_wf, ← wf_filter, wf_nil, ← State.setFld_kp, ← State.upTo_kp, ← quench_kp, ← raise_kp, ← wdogStart_kp]

/-! ## Machine/Power.lean -/

theorem modPwr_kp (s : State) (f : PwrSt → PwrSt)
    (h0 : Kp kb s) : Kp kb (modPwr s f) := by
  unfold modPwr; grind (splits := 14) (gen := 60) (ematch := 60) [Option.map_eq_some_iff, Option.bind_eq_some_iff, ← Kp.upd2, ← OKp.next, ← MKp.some, ← Kp.getD, ← Kp.foldl, ← Kp.foldl1, ← Kp.foldl2, ← Kp.foldl3, ← writeBytes_wf, ← wf_filter, wf_nil]

theorem powerFail_kp (s : State) (pin : Bool) (mv : Nat)
    (h0 : Kp kb s) : Kp kb (powerFail s pin mv) := by
  unfold powerFail; grind (splits := 14) (gen := 60) (ematch := 60) [Option.map_eq_some_iff, Option.bind_eq_some_iff, ← Kp.upd2, ← OKp.next, ← MKp.some, ← Kp.getD, ← Kp.foldl, ← Kp.foldl1, ← Kp.foldl2, ← Kp.foldl3, ← writeBytes_wf, ← wf_filter, wf_nil, ← State.setFld_kp, ← jnlPush_kp, ← lifeAdd_kp, ← powerLost_kp, ← quench_kp]

theorem execPowerFailTrip_kp (pin : Bool) (mv : Nat) (s : State)
    (h0 : Kp kb s) : OKp kb (execPowerFailTrip pin mv s) := by
  unfold execPowerFailTrip; grind (splits := 14) (gen := 60) (ematch := 60) [Option.map_eq_some_iff, Option.bind_eq_some_iff, ← Kp.upd2, ← OKp.next, ← MKp.some, ← Kp.getD, ← Kp.foldl, ← Kp.foldl1, ← Kp.foldl2, ← Kp.foldl3, ← writeBytes_wf, ← wf_filter, wf_nil, ← powerFail_kp]

theorem execFlushComplete_kp (s : State)
    (h0 : Kp kb s) : OKp kb (execFlushComplete s) := by
  unfold execFlushComplete; grind (splits := 14) (gen := 60) (ematch := 60) [Option.map_eq_some_iff, Option.bind_eq_some_iff, ← Kp.upd2, ← OKp.next, ← MKp.some, ← Kp.getD, ← Kp.foldl, ← Kp.foldl1, ← Kp.foldl2, ← Kp.foldl3, ← writeBytes_wf, ← wf_filter, wf_nil, ← State.setFld_kp, ← flushTail_kp, ← landAll_kp]

theorem execInputSample_kp (mv : Nat) (ma : Nat) (s : State)
    (h0 : Kp kb s) : OKp kb (execInputSample mv ma s) := by
  unfold execInputSample; grind (splits := 14) (gen := 60) (ematch := 60) [Option.map_eq_some_iff, Option.bind_eq_some_iff, ← Kp.upd2, ← OKp.next, ← MKp.some, ← Kp.getD, ← Kp.foldl, ← Kp.foldl1, ← Kp.foldl2, ← Kp.foldl3, ← writeBytes_wf, ← wf_filter, wf_nil, ← State.disarm_kp, ← State.setFld_kp, ← State.setReg_kp, ← State.upTo_kp, ← modPwr_kp, ← powerFail_kp, ← quench_kp, ← raise_kp]

theorem execPhaseOverCurrent_kp (s : State)
    (h0 : Kp kb s) : OKp kb (execPhaseOverCurrent s) := by
  unfold execPhaseOverCurrent; grind (splits := 14) (gen := 60) (ematch := 60) [Option.map_eq_some_iff, Option.bind_eq_some_iff, ← Kp.upd2, ← OKp.next, ← MKp.some, ← Kp.getD, ← Kp.foldl, ← Kp.foldl1, ← Kp.foldl2, ← Kp.foldl3, ← writeBytes_wf, ← wf_filter, wf_nil, ← quench_kp]

theorem execRailOutOfRegulation_kp (d : Die) (rail : Fin 11) (s : State)
    (h0 : Kp kb s) : OKp kb (execRailOutOfRegulation d rail s) := by
  unfold execRailOutOfRegulation; grind (splits := 14) (gen := 60) (ematch := 60) [Option.map_eq_some_iff, Option.bind_eq_some_iff, ← Kp.upd2, ← OKp.next, ← MKp.some, ← Kp.getD, ← Kp.foldl, ← Kp.foldl1, ← Kp.foldl2, ← Kp.foldl3, ← writeBytes_wf, ← wf_filter, wf_nil, ← raise_kp]

theorem execRefclkLoss_kp (s : State)
    (h0 : Kp kb s) : OKp kb (execRefclkLoss s) := by
  unfold execRefclkLoss; grind (splits := 14) (gen := 60) (ematch := 60) [Option.map_eq_some_iff, Option.bind_eq_some_iff, ← Kp.upd2, ← OKp.next, ← MKp.some, ← Kp.getD, ← Kp.foldl, ← Kp.foldl1, ← Kp.foldl2, ← Kp.foldl3, ← writeBytes_wf, ← wf_filter, wf_nil, ← State.setFld_kp, ← raise_kp]

theorem throttleOn_kp (s : State)
    (h0 : Kp kb s) : Kp kb (throttleOn s) := by
  unfold throttleOn; grind (splits := 14) (gen := 60) (ematch := 60) [Option.map_eq_some_iff, Option.bind_eq_some_iff, ← Kp.upd2, ← OKp.next, ← MKp.some, ← Kp.getD, ← Kp.foldl, ← Kp.foldl1, ← Kp.foldl2, ← Kp.foldl3, ← writeBytes_wf, ← wf_filter, wf_nil, ← State.setFld_kp, ← changeDuty_kp, ← raise_kp]

theorem throttleOff_kp (s : State)
    (h0 : Kp kb s) : Kp kb (throttleOff s) := by
  unfold throttleOff; grind (splits := 14) (gen := 60) (ematch := 60) [Option.map_eq_some_iff, Option.bind_eq_some_iff, ← Kp.upd2, ← OKp.next, ← MKp.some, ← Kp.getD, ← Kp.foldl, ← Kp.foldl1, ← Kp.foldl2, ← Kp.foldl3, ← writeBytes_wf, ← wf_filter, wf_nil, ← State.setFld_kp, ← changeDuty_kp]

theorem takeReading_kp (s : State) (i : Nat) (t : Int)
    (h0 : Kp kb s) : Kp kb (takeReading s i t) := by
  unfold takeReading; grind (splits := 14) (gen := 60) (ematch := 60) [Option.map_eq_some_iff, Option.bind_eq_some_iff, ← Kp.upd2, ← OKp.next, ← MKp.some, ← Kp.getD, ← Kp.foldl, ← Kp.foldl1, ← Kp.foldl2, ← Kp.foldl3, ← writeBytes_wf, ← wf_filter, wf_nil, ← State.setFld_kp, ← lifeAdd_kp, ← modPwr_kp, ← quench_kp, ← raise_kp, ← throttleOn_kp]

theorem execSensorRead_kp (sensor : Fin 160) (deci : Int) (s : State)
    (h0 : Kp kb s) : OKp kb (execSensorRead sensor deci s) := by
  unfold execSensorRead; grind (splits := 14) (gen := 60) (ematch := 60) [Option.map_eq_some_iff, Option.bind_eq_some_iff, ← Kp.upd2, ← OKp.next, ← MKp.some, ← Kp.getD, ← Kp.foldl, ← Kp.foldl1, ← Kp.foldl2, ← Kp.foldl3, ← writeBytes_wf, ← wf_filter, wf_nil, ← State.disarm_kp, ← modPwr_kp, ← takeReading_kp]

theorem execStaggerGrant_kp (s : State)
    (h0 : Kp kb s) : OKp kb (execStaggerGrant s) := by
  unfold execStaggerGrant; grind (splits := 14) (gen := 60) (ematch := 60) [Option.map_eq_some_iff, Option.bind_eq_some_iff, ← Kp.upd2, ← OKp.next, ← MKp.some, ← Kp.getD, ← Kp.foldl, ← Kp.foldl1, ← Kp.foldl2, ← Kp.foldl3, ← writeBytes_wf, ← wf_filter, wf_nil, ← State.bump_kp, ← State.modSpr_kp, ← State.setFld_kp, ← State.upTo_kp, ← modMld_kp]

theorem execPinCtrlWrite_kp (v : BitVec 32) (s : State)
    (h0 : Kp kb s) : OKp kb (execPinCtrlWrite v s) := by
  unfold execPinCtrlWrite; grind (splits := 14) (gen := 60) (ematch := 60) [Option.map_eq_some_iff, Option.bind_eq_some_iff, ← Kp.upd2, ← OKp.next, ← MKp.some, ← Kp.getD, ← Kp.foldl, ← Kp.foldl1, ← Kp.foldl2, ← Kp.foldl3, ← writeBytes_wf, ← wf_filter, wf_nil, ← State.setFld_kp, ← raise_kp]

/-! ## Machine/Bridge.lean -/

theorem execBridgeWordCorrected_kp (u_ : Die) (s : State)
    (h0 : Kp kb s) : OKp kb (execBridgeWordCorrected u_ s) := by
  unfold execBridgeWordCorrected; grind (splits := 14) (gen := 60) (ematch := 60) [Option.map_eq_some_iff, Option.bind_eq_some_iff, ← Kp.upd2, ← OKp.next, ← MKp.some, ← Kp.getD, ← Kp.foldl, ← Kp.foldl1, ← Kp.foldl2, ← Kp.foldl3, ← writeBytes_wf, ← wf_filter, wf_nil, ← State.bump_kp, ← raise_kp]

theorem execBridgeWordUncorrectable_kp (d : Die) (s : State)
    (h0 : Kp kb s) : OKp kb (execBridgeWordUncorrectable d s) := by
  unfold execBridgeWordUncorrectable; grind (splits := 14) (gen := 60) (ematch := 60) [Option.map_eq_some_iff, Option.bind_eq_some_iff, ← Kp.upd2, ← OKp.next, ← MKp.some, ← Kp.getD, ← Kp.foldl, ← Kp.foldl1, ← Kp.foldl2, ← Kp.foldl3, ← writeBytes_wf, ← wf_filter, wf_nil, ← State.bump_kp, ← raise_kp]

theorem execBridgeLoss_kp (s : State)
    (h0 : Kp kb s) : OKp kb (execBridgeLoss s) := by
  unfold execBridgeLoss; grind (splits := 14) (gen := 60) (ematch := 60) [Option.map_eq_some_iff, Option.bind_eq_some_iff, ← Kp.upd2, ← OKp.next, ← MKp.some, ← Kp.getD, ← Kp.foldl, ← Kp.foldl1, ← Kp.foldl2, ← Kp.foldl3, ← writeBytes_wf, ← wf_filter, wf_nil, ← State.setFld_kp, ← raise_kp]

theorem execGrdBschedLockWrite_kp (v : Bool) (s : State)
    (h0 : Kp kb s) : OKp kb (execGrdBschedLockWrite v s) := by
  unfold execGrdBschedLockWrite; grind (splits := 14) (gen := 60) (ematch := 60) [Option.map_eq_some_iff, Option.bind_eq_some_iff, ← Kp.upd2, ← OKp.next, ← MKp.some, ← Kp.getD, ← Kp.foldl, ← Kp.foldl1, ← Kp.foldl2, ← Kp.foldl3, ← writeBytes_wf, ← wf_filter, wf_nil, ← State.setFld_kp]

theorem promoteDrop_kp (s : State) (c : Nat) (i : Iss)
    (h0 : Kp kb s) : Kp kb (promoteDrop s c i) := by
  unfold promoteDrop; grind (splits := 14) (gen := 60) (ematch := 60) [Option.map_eq_some_iff, Option.bind_eq_some_iff, ← Kp.upd2, ← OKp.next, ← MKp.some, ← Kp.getD, ← Kp.foldl, ← Kp.foldl1, ← Kp.foldl2, ← Kp.foldl3, ← writeBytes_wf, ← wf_filter, wf_nil, ← fireSigs_kp, ← writeRecord_kp]

theorem promoteStop_kp (s : State) (c : Nat)
    (h0 : Kp kb s) : Kp kb (promoteStop s c) := by
  unfold promoteStop; grind (splits := 14) (gen := 60) (ematch := 60) [Option.map_eq_some_iff, Option.bind_eq_some_iff, ← Kp.upd2, ← OKp.next, ← MKp.some, ← Kp.getD, ← Kp.foldl, ← Kp.foldl1, ← Kp.foldl2, ← Kp.foldl3, ← writeBytes_wf, ← wf_filter, wf_nil, ← State.modCore_kp, ← State.setFld_kp, ← State.setReg_kp, ← dropFlights_kp, ← showLoops_kp]

theorem execPromoteRequest_kp (c : Fin 4) (s : State)
    (h0 : Kp kb s) : OKp kb (execPromoteRequest c s) := by
  unfold execPromoteRequest; grind (splits := 14) (gen := 60) (ematch := 60) [Option.map_eq_some_iff, Option.bind_eq_some_iff, ← Kp.upd2, ← OKp.next, ← MKp.some, ← Kp.getD, ← Kp.foldl, ← Kp.foldl1, ← Kp.foldl2, ← Kp.foldl3, ← writeBytes_wf, ← wf_filter, wf_nil, ← State.setFld_kp, ← State.setReg_kp, ← modPwr_kp, ← promoteDrop_kp, ← promoteStop_kp, ← raise_kp]

theorem promotePoison_kp (s : State) (c : Nat) (w : Nat)
    (h0 : Kp kb s) : Kp kb (promotePoison s c w) := by
  unfold promotePoison; grind (splits := 14) (gen := 60) (ematch := 60) [Option.map_eq_some_iff, Option.bind_eq_some_iff, ← Kp.upd2, ← OKp.next, ← MKp.some, ← Kp.getD, ← Kp.foldl, ← Kp.foldl1, ← Kp.foldl2, ← Kp.foldl3, ← writeBytes_wf, ← wf_filter, wf_nil, ← setMtabFld_kp]

theorem execPromoteCopyDone_kp (bad : PromoBad) (s : State)
    (h0 : Kp kb s) : OKp kb (execPromoteCopyDone bad s) := by
  unfold execPromoteCopyDone; grind (splits := 14) (gen := 60) (ematch := 60) [Option.map_eq_some_iff, Option.bind_eq_some_iff, ← Kp.upd2, ← OKp.next, ← MKp.some, ← Kp.getD, ← Kp.foldl, ← Kp.foldl1, ← Kp.foldl2, ← Kp.foldl3, ← writeBytes_wf, ← wf_filter, wf_nil, ← State.bump_kp, ← State.modCore_kp, ← State.upTo_kp, ← modPwr_kp, ← patUnmap_kp, ← promotePoison_kp, ← setMtab_kp, ← setTag_kp]

theorem undefLadle_kp (s : State) (c : Nat)
    (h0 : Kp kb s) : Kp kb (undefLadle s c) := by
  unfold undefLadle; grind (splits := 14) (gen := 60) (ematch := 60) [Option.map_eq_some_iff, Option.bind_eq_some_iff, ← Kp.upd2, ← OKp.next, ← MKp.some, ← Kp.getD, ← Kp.foldl, ← Kp.foldl1, ← Kp.foldl2, ← Kp.foldl3, ← writeBytes_wf, ← wf_filter, wf_nil, ← freeV_kp, ← setK_kp]

theorem takeSpare_kp (s : State) (c : Nat) (r : Reg)
    (h0 : Kp kb s) : Kp kb (takeSpare s c r) := by
  unfold takeSpare; grind (splits := 14) (gen := 60) (ematch := 60) [Option.map_eq_some_iff, Option.bind_eq_some_iff, ← Kp.upd2, ← OKp.next, ← MKp.some, ← Kp.getD, ← Kp.foldl, ← Kp.foldl1, ← Kp.foldl2, ← Kp.foldl3, ← writeBytes_wf, ← wf_filter, wf_nil, ← State.setReg_kp]

theorem promoteSwitch_kp (s : State) (c : Nat)
    (h0 : Kp kb s) : Kp kb (promoteSwitch s c) := by
  unfold promoteSwitch
  extract_lets s1 s2 s3 s4 s5 s6 s7 s8 s9 s10 s11
  have F : ∀ (s : State) f v i j, Kp kb s → Kp kb (s.setFld f v i j) := fun _ _ _ _ _ h => State.setFld_kp _ _ _ _ _ h
  have R : ∀ (s : State) r v i j, Kp kb s → Kp kb (s.setReg r v i j) := fun _ _ _ _ _ h => State.setReg_kp _ _ _ _ h
  have k3 : Kp kb s3 := lifeAdd_kp _ _ _ (F _ _ _ _ _ (F _ _ _ _ _ (F _ _ _ _ _ h0)))
  have k4 : Kp kb s4 := jnlRetire_kp _ _ _ k3
  have k6 : Kp kb s6 := modPwr_kp _ _ (F _ _ _ _ _ (F _ _ _ _ _ k4))
  have k7 : Kp kb s7 := State.modCore_kp _ _ k6 (fun _ h => h)
  have k8 : Kp kb s8 := Kp.foldl _ (fun _ _ h => takeSpare_kp _ _ _ h) _ _ k7
  have k9 : Kp kb s9 := undefLadle_kp _ _ (R _ _ _ _ _ k8)
  have k10 : Kp kb s10 := by
    refine Kp.foldl _ (fun s p h => ?_) _ _ k9
    split
    · exact h
    · exact State.setPageState_kp _ _ _ _ (F _ _ _ _ _ h)
  exact raise_kp _ _ _ _ (F _ _ _ _ _ (R _ _ _ _ _ k10))

theorem promoteWindow_kp (s : State)
    (h0 : Kp kb s) : Kp kb (promoteWindow s) := by
  unfold promoteWindow; grind (splits := 14) (gen := 60) (ematch := 60) [Option.map_eq_some_iff, Option.bind_eq_some_iff, ← Kp.upd2, ← OKp.next, ← MKp.some, ← Kp.getD, ← Kp.foldl, ← Kp.foldl1, ← Kp.foldl2, ← Kp.foldl3, ← writeBytes_wf, ← wf_filter, wf_nil, ← promoteSwitch_kp]

theorem execPromoteSwitch_kp (s : State)
    (h0 : Kp kb s) : OKp kb (execPromoteSwitch s) := by
  unfold execPromoteSwitch; grind (splits := 14) (gen := 60) (ematch := 60) [Option.map_eq_some_iff, Option.bind_eq_some_iff, ← Kp.upd2, ← OKp.next, ← MKp.some, ← Kp.getD, ← Kp.foldl, ← Kp.foldl1, ← Kp.foldl2, ← Kp.foldl3, ← writeBytes_wf, ← wf_filter, wf_nil, ← promoteWindow_kp]

end Sys2Proof.Machine
end

