-- ==== Sys2Proof/Laws/Keep09.lean ====
section
/-!
SUPPORT. Laws/Keep09.lean: each function of Machine/Trust, Tundish, Hbm, Riser
that answers a state keeps the queue, the fuses and the canonical form.
-/
namespace Sys2Proof.Machine

open Sys2Proof

variable {kb : State}

/-! ## Machine/Trust.lean -/

theorem modTru_kp (s : State) (f : TruSt → TruSt)
    (h0 : Kp kb s) : Kp kb (modTru s f) := by
  unfold modTru; grind (splits := 14) (gen := 60) (ematch := 60) [Option.map_eq_some_iff, Option.bind_eq_some_iff, ← Kp.upd2, ← OKp.next, ← MKp.some, ← Kp.getD, ← Kp.foldl, ← Kp.foldl1, ← Kp.foldl2, ← Kp.foldl3, ← writeBytes_wf, ← wf_filter, wf_nil]

theorem rngFail_kp (s : State)
    (h0 : Kp kb s) : Kp kb (rngFail s) := by
  unfold rngFail; grind (splits := 14) (gen := 60) (ematch := 60) [Option.map_eq_some_iff, Option.bind_eq_some_iff, ← Kp.upd2, ← OKp.next, ← MKp.some, ← Kp.getD, ← Kp.foldl, ← Kp.foldl1, ← Kp.foldl2, ← Kp.foldl3, ← writeBytes_wf, ← wf_filter, wf_nil, ← State.bump_kp, ← State.setFld_kp, ← modTru_kp, ← raise_kp]

theorem execRngHealthFail_kp (s : State)
    (h0 : Kp kb s) : OKp kb (execRngHealthFail s) := by
  unfold execRngHealthFail; grind (splits := 14) (gen := 60) (ematch := 60) [Option.map_eq_some_iff, Option.bind_eq_some_iff, ← Kp.upd2, ← OKp.next, ← MKp.some, ← Kp.getD, ← Kp.foldl, ← Kp.foldl1, ← Kp.foldl2, ← Kp.foldl3, ← writeBytes_wf, ← wf_filter, wf_nil, ← State.disarm_kp, ← rngFail_kp]

theorem rngReady_kp (s : State)
    (h0 : Kp kb s) : Kp kb (rngReady s).2 := by
  unfold rngReady; grind (splits := 14) (gen := 60) (ematch := 60) [Option.map_eq_some_iff, Option.bind_eq_some_iff, ← Kp.upd2, ← OKp.next, ← MKp.some, ← Kp.getD, ← Kp.foldl, ← Kp.foldl1, ← Kp.foldl2, ← Kp.foldl3, ← writeBytes_wf, ← wf_filter, wf_nil, ← State.disarm_kp, ← rngFail_kp]

theorem sigOk_kp (s : State) (key : Nat × Nat) (b : List Byte) (sig : List Byte)
    (h0 : Kp kb s) : Kp kb (sigOk s key b sig).2 := by
  unfold sigOk; grind (splits := 14) (gen := 60) (ematch := 60) [Option.map_eq_some_iff, Option.bind_eq_some_iff, ← Kp.upd2, ← OKp.next, ← MKp.some, ← Kp.getD, ← Kp.foldl, ← Kp.foldl1, ← Kp.foldl2, ← Kp.foldl3, ← writeBytes_wf, ← wf_filter, wf_nil, ← State.disarm_kp]

theorem truResult_kp (s : State) (r : Nat)
    (h0 : Kp kb s) : Kp kb (truResult s r) := by
  unfold truResult; grind (splits := 14) (gen := 60) (ematch := 60) [Option.map_eq_some_iff, Option.bind_eq_some_iff, ← Kp.upd2, ← OKp.next, ← MKp.some, ← Kp.getD, ← Kp.foldl, ← Kp.foldl1, ← Kp.foldl2, ← Kp.foldl3, ← writeBytes_wf, ← wf_filter, wf_nil, ← State.setReg_kp]

theorem truRow_kp (op : Nat) (s : State) (f : State → State)
    (h0 : Kp kb s) (h1 : ∀ y0, Kp kb y0 → Kp kb (f y0)) : OKp kb (truRow op s f) := by
  unfold truRow; grind (splits := 14) (gen := 60) (ematch := 60) [Option.map_eq_some_iff, Option.bind_eq_some_iff, ← Kp.upd2, ← OKp.next, ← MKp.some, ← Kp.getD, ← Kp.foldl, ← Kp.foldl1, ← Kp.foldl2, ← Kp.foldl3, ← writeBytes_wf, ← wf_filter, wf_nil, ← State.setFld_kp]

theorem checkModule_kp (s : State) (b : List Byte)
    (h0 : Kp kb s) : Kp kb (checkModule s b).2.2 := by
  unfold checkModule; grind (splits := 14) (gen := 60) (ematch := 60) [Option.map_eq_some_iff, Option.bind_eq_some_iff, ← Kp.upd2, ← OKp.next, ← MKp.some, ← Kp.getD, ← Kp.foldl, ← Kp.foldl1, ← Kp.foldl2, ← Kp.foldl3, ← writeBytes_wf, ← wf_filter, wf_nil, ← sigOk_kp]

theorem verifyFailed_kp (s : State)
    (h0 : Kp kb s) : Kp kb (verifyFailed s) := by
  unfold verifyFailed; grind (splits := 14) (gen := 60) (ematch := 60) [Option.map_eq_some_iff, Option.bind_eq_some_iff, ← Kp.upd2, ← OKp.next, ← MKp.some, ← Kp.getD, ← Kp.foldl, ← Kp.foldl1, ← Kp.foldl2, ← Kp.foldl3, ← writeBytes_wf, ← wf_filter, wf_nil, ← State.bump_kp, ← raise_kp]

theorem execVerify_kp (s : State)
    (h0 : Kp kb s) : OKp kb (execVerify s) := by
  unfold execVerify; grind (splits := 14) (gen := 60) (ematch := 60) [Option.map_eq_some_iff, Option.bind_eq_some_iff, ← Kp.upd2, ← OKp.next, ← MKp.some, ← Kp.getD, ← Kp.foldl, ← Kp.foldl1, ← Kp.foldl2, ← Kp.foldl3, ← writeBytes_wf, ← wf_filter, wf_nil, ← checkModule_kp, ← truResult_kp, ← truRow_kp, ← verifyFailed_kp]

theorem writeRecord3_kp (s : State)
    (h0 : Kp kb s) : Kp kb (writeRecord3 s) := by
  unfold writeRecord3; grind (splits := 14) (gen := 60) (ematch := 60) [Option.map_eq_some_iff, Option.bind_eq_some_iff, ← Kp.upd2, ← OKp.next, ← MKp.some, ← Kp.getD, ← Kp.foldl, ← Kp.foldl1, ← Kp.foldl2, ← Kp.foldl3, ← writeBytes_wf, ← wf_filter, wf_nil, ← modTru_kp, programOwn_kp]

theorem showOwner_kp (s : State)
    (h0 : Kp kb s) : Kp kb (showOwner s) := by
  unfold showOwner; grind (splits := 14) (gen := 60) (ematch := 60) [Option.map_eq_some_iff, Option.bind_eq_some_iff, ← Kp.upd2, ← OKp.next, ← MKp.some, ← Kp.getD, ← Kp.foldl, ← Kp.foldl1, ← Kp.foldl2, ← Kp.foldl3, ← writeBytes_wf, ← wf_filter, wf_nil, ← State.setFld_kp]

theorem execNonce_kp (s : State)
    (h0 : Kp kb s) : OKp kb (execNonce s) := by
  unfold execNonce; grind (splits := 14) (gen := 60) (ematch := 60) [Option.map_eq_some_iff, Option.bind_eq_some_iff, ← Kp.upd2, ← OKp.next, ← MKp.some, ← Kp.getD, ← Kp.foldl, ← Kp.foldl1, ← Kp.foldl2, ← Kp.foldl3, ← writeBytes_wf, ← wf_filter, wf_nil, ← State.drawBytes_kp, ← modTru_kp, ← rngReady_kp, ← truResult_kp, ← truRow_kp, ← tunWrite_kp]

theorem tokenRefused_kp (s : State) (r : Nat)
    (h0 : Kp kb s) : Kp kb (tokenRefused s r) := by
  unfold tokenRefused; grind (splits := 14) (gen := 60) (ematch := 60) [Option.map_eq_some_iff, Option.bind_eq_some_iff, ← Kp.upd2, ← OKp.next, ← MKp.some, ← Kp.getD, ← Kp.foldl, ← Kp.foldl1, ← Kp.foldl2, ← Kp.foldl3, ← writeBytes_wf, ← wf_filter, wf_nil, ← raise_kp, ← truResult_kp]

theorem execEnrol_kp (s : State)
    (h0 : Kp kb s) : OKp kb (execEnrol s) := by
  unfold execEnrol; grind (splits := 14) (gen := 60) (ematch := 60) [Option.map_eq_some_iff, Option.bind_eq_some_iff, ← Kp.upd2, ← OKp.next, ← MKp.some, ← Kp.getD, ← Kp.foldl, ← Kp.foldl1, ← Kp.foldl2, ← Kp.foldl3, ← writeBytes_wf, ← wf_filter, wf_nil, ← modTru_kp, ← showOwner_kp, ← sigOk_kp, ← tokenRefused_kp, ← truResult_kp, ← truRow_kp, ← writeRecord3_kp]

theorem execUnenrol_kp (s : State)
    (h0 : Kp kb s) : OKp kb (execUnenrol s) := by
  unfold execUnenrol; grind (splits := 14) (gen := 60) (ematch := 60) [Option.map_eq_some_iff, Option.bind_eq_some_iff, ← Kp.upd2, ← OKp.next, ← MKp.some, ← Kp.getD, ← Kp.foldl, ← Kp.foldl1, ← Kp.foldl2, ← Kp.foldl3, ← writeBytes_wf, ← wf_filter, wf_nil, ← modTru_kp, ← showOwner_kp, ← sigOk_kp, ← tokenRefused_kp, ← truResult_kp, ← truRow_kp, ← writeRecord3_kp]

theorem execPatverify_kp (s : State)
    (h0 : Kp kb s) : OKp kb (execPatverify s) := by
  unfold execPatverify; grind (splits := 14) (gen := 60) (ematch := 60) [Option.map_eq_some_iff, Option.bind_eq_some_iff, ← Kp.upd2, ← OKp.next, ← MKp.some, ← Kp.getD, ← Kp.foldl, ← Kp.foldl1, ← Kp.foldl2, ← Kp.foldl3, ← writeBytes_wf, ← wf_filter, wf_nil, ← modTru_kp, ← sigOk_kp, ← truResult_kp, ← truRow_kp]

theorem idSign_kp (s : State) (b : List Byte)
    (h0 : Kp kb s) : Kp kb (idSign s b).2 := by
  unfold idSign; grind (splits := 14) (gen := 60) (ematch := 60) [Option.map_eq_some_iff, Option.bind_eq_some_iff, ← Kp.upd2, ← OKp.next, ← MKp.some, ← Kp.getD, ← Kp.foldl, ← Kp.foldl1, ← Kp.foldl2, ← Kp.foldl3, ← writeBytes_wf, ← wf_filter, wf_nil, ← State.drawBytes_kp]

theorem report_kp (s : State) (nonce : List Byte)
    (h0 : Kp kb s) : Kp kb (report s nonce).2 := by
  unfold report; grind (splits := 14) (gen := 60) (ematch := 60) [Option.map_eq_some_iff, Option.bind_eq_some_iff, ← Kp.upd2, ← OKp.next, ← MKp.some, ← Kp.getD, ← Kp.foldl, ← Kp.foldl1, ← Kp.foldl2, ← Kp.foldl3, ← writeBytes_wf, ← wf_filter, wf_nil, ← idSign_kp]

theorem execAttest_kp (s : State)
    (h0 : Kp kb s) : OKp kb (execAttest s) := by
  unfold execAttest; grind (splits := 14) (gen := 60) (ematch := 60) [Option.map_eq_some_iff, Option.bind_eq_some_iff, ← Kp.upd2, ← OKp.next, ← MKp.some, ← Kp.getD, ← Kp.foldl, ← Kp.foldl1, ← Kp.foldl2, ← Kp.foldl3, ← writeBytes_wf, ← wf_filter, wf_nil, ← report_kp, ← rngReady_kp, ← truResult_kp, ← truRow_kp, ← tunWrite_kp]

theorem sendLink_kp (s : State) (p : Nat) (type : Nat) (b : List Byte)
    (h0 : Kp kb s) : Kp kb (sendLink s p type b) := by
  unfold sendLink; grind (splits := 14) (gen := 60) (ematch := 60) [Option.map_eq_some_iff, Option.bind_eq_some_iff, ← Kp.upd2, ← OKp.next, ← MKp.some, ← Kp.getD, ← Kp.foldl, ← Kp.foldl1, ← Kp.foldl2, ← Kp.foldl3, ← writeBytes_wf, ← wf_filter, wf_nil, ← modLink_kp]

theorem linkFailed_kp (s : State) (p : Nat)
    (h0 : Kp kb s) : Kp kb (linkFailed s p) := by
  unfold linkFailed; grind (splits := 14) (gen := 60) (ematch := 60) [Option.map_eq_some_iff, Option.bind_eq_some_iff, ← Kp.upd2, ← OKp.next, ← MKp.some, ← Kp.getD, ← Kp.foldl, ← Kp.foldl1, ← Kp.foldl2, ← Kp.foldl3, ← writeBytes_wf, ← wf_filter, wf_nil, ← State.bump_kp, ← leavePort_kp, ← modLink_kp, ← raise_kp]

theorem linkRefuse_kp (s : State) (p : Nat) (r : Nat)
    (h0 : Kp kb s) : Kp kb (linkRefuse s p r) := by
  unfold linkRefuse; grind (splits := 14) (gen := 60) (ematch := 60) [Option.map_eq_some_iff, Option.bind_eq_some_iff, ← Kp.upd2, ← OKp.next, ← MKp.some, ← Kp.getD, ← Kp.foldl, ← Kp.foldl1, ← Kp.foldl2, ← Kp.foldl3, ← writeBytes_wf, ← wf_filter, wf_nil, ← linkFailed_kp, ← modLink_kp]

theorem startLink_kp (s : State) (p : Nat)
    (h0 : Kp kb s) : Kp kb (startLink s p) := by
  unfold startLink; grind (splits := 14) (gen := 60) (ematch := 60) [Option.map_eq_some_iff, Option.bind_eq_some_iff, ← Kp.upd2, ← OKp.next, ← MKp.some, ← Kp.getD, ← Kp.foldl, ← Kp.foldl1, ← Kp.foldl2, ← Kp.foldl3, ← writeBytes_wf, ← wf_filter, wf_nil, ← State.drawBytes_kp, ← modLink_kp, ← sendLink_kp]

theorem execLink_kp (p : Port) (s : State)
    (h0 : Kp kb s) : OKp kb (execLink p s) := by
  unfold execLink; grind (splits := 14) (gen := 60) (ematch := 60) [Option.map_eq_some_iff, Option.bind_eq_some_iff, ← Kp.upd2, ← OKp.next, ← MKp.some, ← Kp.getD, ← Kp.foldl, ← Kp.foldl1, ← Kp.foldl2, ← Kp.foldl3, ← writeBytes_wf, ← wf_filter, wf_nil, ← State.setFld_kp, ← rngReady_kp, ← startLink_kp, ← truResult_kp, ← truRow_kp]

theorem takeLink_kp (s : State) (p : Nat) (type : Nat)
    (h0 : Kp kb s) : ∀ xr0 xr1, (takeLink s p type) = some (xr0, xr1) → Kp kb xr1 := by
  intros; rename_i hx; unfold takeLink at hx; grind (splits := 14) (gen := 60) (ematch := 60) [Option.map_eq_some_iff, Option.bind_eq_some_iff, ← Kp.upd2, ← OKp.next, ← MKp.some, ← Kp.getD, ← Kp.foldl, ← Kp.foldl1, ← Kp.foldl2, ← Kp.foldl3, ← writeBytes_wf, ← wf_filter, wf_nil, takeMsg_kp]

theorem execHello_kp (p : Port) (s : State)
    (h0 : Kp kb s) : OKp kb (execHello p s) := by
  unfold execHello; grind (splits := 14) (gen := 60) (ematch := 60) [Option.map_eq_some_iff, Option.bind_eq_some_iff, ← Kp.upd2, ← OKp.next, ← MKp.some, ← Kp.getD, ← Kp.foldl, ← Kp.foldl1, ← Kp.foldl2, ← Kp.foldl3, ← writeBytes_wf, ← wf_filter, wf_nil, ← linkRefuse_kp, ← modLink_kp, ← report_kp, ← rngReady_kp, ← sendLink_kp, ← sigOk_kp, ← startLink_kp, takeLink_kp]

theorem reportOk_kp (s : State) (p : Nat) (b : List Byte)
    (h0 : Kp kb s) : Kp kb (reportOk s p b).2 := by
  unfold reportOk; grind (splits := 14) (gen := 60) (ematch := 60) [Option.map_eq_some_iff, Option.bind_eq_some_iff, ← Kp.upd2, ← OKp.next, ← MKp.some, ← Kp.getD, ← Kp.foldl, ← Kp.foldl1, ← Kp.foldl2, ← Kp.foldl3, ← writeBytes_wf, ← wf_filter, wf_nil, ← sigOk_kp]

theorem execReport_kp (p : Port) (s : State)
    (h0 : Kp kb s) : OKp kb (execReport p s) := by
  unfold execReport; grind (splits := 14) (gen := 60) (ematch := 60) [Option.map_eq_some_iff, Option.bind_eq_some_iff, ← Kp.upd2, ← OKp.next, ← MKp.some, ← Kp.getD, ← Kp.foldl, ← Kp.foldl1, ← Kp.foldl2, ← Kp.foldl3, ← writeBytes_wf, ← wf_filter, wf_nil, ← State.drawBytes_kp, ← linkRefuse_kp, ← modLink_kp, ← reportOk_kp, ← sendLink_kp, takeLink_kp]

theorem installKeys_kp (s : State) (p : Nat) (tx : Nat × Nat) (rx : Nat × Nat)
    (h0 : Kp kb s) : Kp kb (installKeys s p tx rx) := by
  unfold installKeys; grind (splits := 14) (gen := 60) (ematch := 60) [Option.map_eq_some_iff, Option.bind_eq_some_iff, ← Kp.upd2, ← OKp.next, ← MKp.some, ← Kp.getD, ← Kp.foldl, ← Kp.foldl1, ← Kp.foldl2, ← Kp.foldl3, ← writeBytes_wf, ← wf_filter, wf_nil, ← State.setFld_kp, ← State.setReg_kp, ← modLink_kp]

theorem execShare_kp (p : Port) (s : State)
    (h0 : Kp kb s) : OKp kb (execShare p s) := by
  unfold execShare; grind (splits := 14) (gen := 60) (ematch := 60) [Option.map_eq_some_iff, Option.bind_eq_some_iff, ← Kp.upd2, ← OKp.next, ← MKp.some, ← Kp.getD, ← Kp.foldl, ← Kp.foldl1, ← Kp.foldl2, ← Kp.foldl3, ← writeBytes_wf, ← wf_filter, wf_nil, ← installKeys_kp, ← linkRefuse_kp, ← sendLink_kp, takeLink_kp]

theorem execDone_kp (p : Port) (s : State)
    (h0 : Kp kb s) : OKp kb (execDone p s) := by
  unfold execDone; grind (splits := 14) (gen := 60) (ematch := 60) [Option.map_eq_some_iff, Option.bind_eq_some_iff, ← Kp.upd2, ← OKp.next, ← MKp.some, ← Kp.getD, ← Kp.foldl, ← Kp.foldl1, ← Kp.foldl2, ← Kp.foldl3, ← writeBytes_wf, ← wf_filter, wf_nil, ← linkFailed_kp, ← modLink_kp, takeLink_kp]

theorem execTxWrapsLimit_kp (p : Port) (s : State)
    (h0 : Kp kb s) : OKp kb (execTxWrapsLimit p s) := by
  unfold execTxWrapsLimit; grind (splits := 14) (gen := 60) (ematch := 60) [Option.map_eq_some_iff, Option.bind_eq_some_iff, ← Kp.upd2, ← OKp.next, ← MKp.some, ← Kp.getD, ← Kp.foldl, ← Kp.foldl1, ← Kp.foldl2, ← Kp.foldl3, ← writeBytes_wf, ← wf_filter, wf_nil, ← State.setFld_kp, ← leavePort_kp, ← raise_kp, ← startLink_kp]

theorem jnlModule_kp (s : State) (m : Mod)
    (h0 : Kp kb s) : Kp kb (jnlModule s m) := by
  unfold jnlModule; grind (splits := 14) (gen := 60) (ematch := 60) [Option.map_eq_some_iff, Option.bind_eq_some_iff, ← Kp.upd2, ← OKp.next, ← MKp.some, ← Kp.getD, ← Kp.foldl, ← Kp.foldl1, ← Kp.foldl2, ← Kp.foldl3, ← writeBytes_wf, ← wf_filter, wf_nil, ← jnlAppend_kp]

theorem programModule_kp (s : State) (m : Mod) (bytes : Nat)
    (h0 : Kp kb s) : ∀ xr, (programModule s m bytes) = some xr → Kp kb xr := by
  intro xr hx; unfold programModule at hx
  simp only [Option.map_eq_some_iff] at hx
  obtain ⟨t, e, rfl⟩ := hx
  refine modTru_kp _ _ ?_
  have k := foldl_inv (fun o : Option State => ∀ t, o = some t → Kp kb t) (fun (o : Option State) i =>
    o.bind (fun s => programOwn s 3 (1 + m.block * 1026 + i)))
    (fun o i ho t ht => by
      simp only [Option.bind_eq_some_iff] at ht
      obtain ⟨u, e1, e2⟩ := ht
      exact programOwn_kp _ _ _ (ho u e1) _ e2) (List.range (ceilDiv bytes 16384 + 1)) (some s) (by rintro t ⟨⟩; exact h0)
  exact k _ e

theorem showUpd_kp (s : State)
    (h0 : Kp kb s) : Kp kb (showUpd s) := by
  unfold showUpd; grind (splits := 14) (gen := 60) (ematch := 60) [Option.map_eq_some_iff, Option.bind_eq_some_iff, ← Kp.upd2, ← OKp.next, ← MKp.some, ← Kp.getD, ← Kp.foldl, ← Kp.foldl1, ← Kp.foldl2, ← Kp.foldl3, ← writeBytes_wf, ← wf_filter, wf_nil, ← State.setFld_kp]

theorem execUpdate_kp (s : State)
    (h0 : Kp kb s) : OKp kb (execUpdate s) := by
  refine truRow_kp _ _ _ h0 (fun s1 k1 => ?_)
  have k2 := checkModule_kp (kb := kb) s1 (truBuf s1) k1
  extract_lets b
  change Kp kb (checkModule s1 b).2.2 at k2
  generalize checkModule s1 b = e at k2 ⊢
  obtain ⟨r, mo, s2⟩ := e
  dsimp -zeta only
  split
  · exact truResult_kp _ _ (verifyFailed_kp _ k2)
  · rename_i m
    refine Kp.ite (truResult_kp _ _ k2) ?_
    split
    · exact truResult_kp _ _ k2
    · rename_i s3 e3
      have k3 : Kp kb s3 := programModule_kp _ _ _ k2 _ e3
      exact truResult_kp _ _ (showUpd_kp _ (modTru_kp _ _ (jnlModule_kp _ _ k3)))

theorem forceMod_kp (s : State) (m : Mod)
    (h0 : Kp kb s) : Kp kb (forceMod s m) := by
  unfold forceMod; grind (splits := 14) (gen := 60) (ematch := 60) [Option.map_eq_some_iff, Option.bind_eq_some_iff, ← Kp.upd2, ← OKp.next, ← MKp.some, ← Kp.getD, ← Kp.foldl, ← Kp.foldl1, ← Kp.foldl2, ← Kp.foldl3, ← writeBytes_wf, ← wf_filter, wf_nil, ← modTru_kp, ← raise_kp, ← writeRecord3_kp]

theorem moduleWindow_kp (s : State)
    (h0 : Kp kb s) : Kp kb (moduleWindow s) := by
  unfold moduleWindow; grind (splits := 14) (gen := 60) (ematch := 60) [Option.map_eq_some_iff, Option.bind_eq_some_iff, ← Kp.upd2, ← OKp.next, ← MKp.some, ← Kp.getD, ← Kp.foldl, ← Kp.foldl1, ← Kp.foldl2, ← Kp.foldl3, ← writeBytes_wf, ← wf_filter, wf_nil, ← forceMod_kp, ← modTru_kp, ← showUpd_kp]

theorem execModuleUpdateActivate_kp (s : State)
    (h0 : Kp kb s) : OKp kb (execModuleUpdateActivate s) := by
  unfold execModuleUpdateActivate; grind (splits := 14) (gen := 60) (ematch := 60) [Option.map_eq_some_iff, Option.bind_eq_some_iff, ← Kp.upd2, ← OKp.next, ← MKp.some, ← Kp.getD, ← Kp.foldl, ← Kp.foldl1, ← Kp.foldl2, ← Kp.foldl3, ← writeBytes_wf, ← wf_filter, wf_nil, ← moduleWindow_kp]

theorem execUpdateDeferTimeout_kp (s : State)
    (h0 : Kp kb s) : OKp kb (execUpdateDeferTimeout s) := by
  unfold execUpdateDeferTimeout; grind (splits := 14) (gen := 60) (ematch := 60) [Option.map_eq_some_iff, Option.bind_eq_some_iff, ← Kp.upd2, ← OKp.next, ← MKp.some, ← Kp.getD, ← Kp.foldl, ← Kp.foldl1, ← Kp.foldl2, ← Kp.foldl3, ← writeBytes_wf, ← wf_filter, wf_nil, ← modTru_kp, ← raise_kp]

/-! ## Machine/Tundish.lean -/

theorem setCopy_kp (s : State) (d : Nat) (x : Option SpareCopy)
    (h0 : Kp kb s) : Kp kb (setCopy s d x) := by
  unfold setCopy; grind (splits := 14) (gen := 60) (ematch := 60) [Option.map_eq_some_iff, Option.bind_eq_some_iff, ← Kp.upd2, ← OKp.next, ← MKp.some, ← Kp.getD, ← Kp.foldl, ← Kp.foldl1, ← Kp.foldl2, ← Kp.foldl3, ← writeBytes_wf, ← wf_filter, wf_nil]

theorem scrubPace_kp (s : State) (i : Nat) (unit : Nat) (gap : Nat)
    (h0 : Kp kb s) : Kp kb (scrubPace s i unit gap) := by
  unfold scrubPace; grind (splits := 14) (gen := 60) (ematch := 60) [Option.map_eq_some_iff, Option.bind_eq_some_iff, ← Kp.upd2, ← OKp.next, ← MKp.some, ← Kp.getD, ← Kp.foldl, ← Kp.foldl1, ← Kp.foldl2, ← Kp.foldl3, ← writeBytes_wf, ← wf_filter, wf_nil, ← State.upTo_kp]

theorem scrubEnd_kp (s : State) (d : Nat)
    (h0 : Kp kb s) : Kp kb (scrubEnd s d) := by
  unfold scrubEnd; grind (splits := 14) (gen := 60) (ematch := 60) [Option.map_eq_some_iff, Option.bind_eq_some_iff, ← Kp.upd2, ← OKp.next, ← MKp.some, ← Kp.getD, ← Kp.foldl, ← Kp.foldl1, ← Kp.foldl2, ← Kp.foldl3, ← writeBytes_wf, ← wf_filter, wf_nil, ← State.bump_kp, ← State.setFld_kp, ← raise_kp]

theorem scrubTun_kp (s : State) (d : Nat) (a : Nat) (e : Nat)
    (h0 : Kp kb s) : Kp kb (scrubTun s d a e) := by
  unfold scrubTun; grind (splits := 14) (gen := 60) (ematch := 60) [Option.map_eq_some_iff, Option.bind_eq_some_iff, ← Kp.upd2, ← OKp.next, ← MKp.some, ← Kp.getD, ← Kp.foldl, ← Kp.foldl1, ← Kp.foldl2, ← Kp.foldl3, ← writeBytes_wf, ← wf_filter, wf_nil, ← State.bump_kp, ← State.disarm_kp, ← State.upTo_kp, ← raise_kp, ← scrubEnd_kp]

theorem scrubReport_kp (s : State) (p : PageKind) (inst : Nat) (e : Nat)
    (h0 : Kp kb s) : Kp kb (scrubReport s p inst e) := by
  unfold scrubReport; grind (splits := 14) (gen := 60) (ematch := 60) [Option.map_eq_some_iff, Option.bind_eq_some_iff, ← Kp.upd2, ← OKp.next, ← MKp.some, ← Kp.getD, ← Kp.foldl, ← Kp.foldl1, ← Kp.foldl2, ← Kp.foldl3, ← writeBytes_wf, ← wf_filter, wf_nil, ← raise_kp]

theorem execScrubAccess_kp (m : Scrubbed) (a : Nat) (e : Fin 3) (s : State)
    (h0 : Kp kb s) : OKp kb (execScrubAccess m a e s) := by
  unfold execScrubAccess; grind (splits := 14) (gen := 60) (ematch := 60) [Option.map_eq_some_iff, Option.bind_eq_some_iff, ← Kp.upd2, ← OKp.next, ← MKp.some, ← Kp.getD, ← Kp.foldl, ← Kp.foldl1, ← Kp.foldl2, ← Kp.foldl3, ← writeBytes_wf, ← wf_filter, wf_nil, ← State.modCore_kp, ← State.modSpr_kp, ← State.setReg_kp, ← scrubPace_kp, ← scrubReport_kp, ← scrubTun_kp]

theorem execSpareReq_kp (d : Die) (bank : Fin 128) (s : State)
    (h0 : Kp kb s) : OKp kb (execSpareReq d bank s) := by
  unfold execSpareReq; grind (splits := 14) (gen := 60) (ematch := 60) [Option.map_eq_some_iff, Option.bind_eq_some_iff, ← Kp.upd2, ← OKp.next, ← MKp.some, ← Kp.getD, ← Kp.foldl, ← Kp.foldl1, ← Kp.foldl2, ← Kp.foldl3, ← writeBytes_wf, ← wf_filter, wf_nil, ← State.setFld_kp, ← State.setReg_kp, ← raise_kp, ← setCopy_kp]

theorem execSpareCopyDone_kp (d : Die) (s : State)
    (h0 : Kp kb s) : OKp kb (execSpareCopyDone d s) := by
  unfold execSpareCopyDone; grind (splits := 14) (gen := 60) (ematch := 60) [Option.map_eq_some_iff, Option.bind_eq_some_iff, ← Kp.upd2, ← OKp.next, ← MKp.some, ← Kp.getD, ← Kp.foldl, ← Kp.foldl1, ← Kp.foldl2, ← Kp.foldl3, ← writeBytes_wf, ← wf_filter, wf_nil, ← State.setFld_kp, ← State.setReg_kp, ← State.upTo_kp, ← setCopy_kp]

theorem execSpareMapChange_kp (d : Die) (s : State)
    (h0 : Kp kb s) : OKp kb (execSpareMapChange d s) := by
  unfold execSpareMapChange; grind (splits := 14) (gen := 60) (ematch := 60) [Option.map_eq_some_iff, Option.bind_eq_some_iff, ← Kp.upd2, ← OKp.next, ← MKp.some, ← Kp.getD, ← Kp.foldl, ← Kp.foldl1, ← Kp.foldl2, ← Kp.foldl3, ← writeBytes_wf, ← wf_filter, wf_nil, ← State.setReg_kp, ← jnlRetire_kp, ← raise_kp, ← setCopy_kp]

theorem diagRun_kp (s : State) (d : Nat) (op : Nat)
    (h0 : Kp kb s) : Kp kb (diagRun s d op) := by
  unfold diagRun; grind (splits := 14) (gen := 60) (ematch := 60) [Option.map_eq_some_iff, Option.bind_eq_some_iff, ← Kp.upd2, ← OKp.next, ← MKp.some, ← Kp.getD, ← Kp.foldl, ← Kp.foldl1, ← Kp.foldl2, ← Kp.foldl3, ← writeBytes_wf, ← wf_filter, wf_nil, ← State.setReg_kp]

theorem execDiagRawWrite_kp (d : Die) (s : State)
    (h0 : Kp kb s) : OKp kb (execDiagRawWrite d s) := by
  unfold execDiagRawWrite; grind (splits := 14) (gen := 60) (ematch := 60) [Option.map_eq_some_iff, Option.bind_eq_some_iff, ← Kp.upd2, ← OKp.next, ← MKp.some, ← Kp.getD, ← Kp.foldl, ← Kp.foldl1, ← Kp.foldl2, ← Kp.foldl3, ← writeBytes_wf, ← wf_filter, wf_nil, ← State.setFld_kp, ← diagRun_kp]

theorem execDiagRawRead_kp (d : Die) (s : State)
    (h0 : Kp kb s) : OKp kb (execDiagRawRead d s) := by
  unfold execDiagRawRead; grind (splits := 14) (gen := 60) (ematch := 60) [Option.map_eq_some_iff, Option.bind_eq_some_iff, ← Kp.upd2, ← OKp.next, ← MKp.some, ← Kp.getD, ← Kp.foldl, ← Kp.foldl1, ← Kp.foldl2, ← Kp.foldl3, ← writeBytes_wf, ← wf_filter, wf_nil, ← State.setFld_kp, ← diagRun_kp]

theorem execDiagDecodedRead_kp (d : Die) (s : State)
    (h0 : Kp kb s) : OKp kb (execDiagDecodedRead d s) := by
  unfold execDiagDecodedRead; grind (splits := 14) (gen := 60) (ematch := 60) [Option.map_eq_some_iff, Option.bind_eq_some_iff, ← Kp.upd2, ← OKp.next, ← MKp.some, ← Kp.getD, ← Kp.foldl, ← Kp.foldl1, ← Kp.foldl2, ← Kp.foldl3, ← writeBytes_wf, ← wf_filter, wf_nil, ← State.setFld_kp, ← diagRun_kp]

theorem execQapply_kp (s : State)
    (h0 : Kp kb s) : OKp kb (execQapply s) := by
  unfold execQapply; grind (splits := 14) (gen := 60) (ematch := 60) [Option.map_eq_some_iff, Option.bind_eq_some_iff, ← Kp.upd2, ← OKp.next, ← MKp.some, ← Kp.getD, ← Kp.foldl, ← Kp.foldl1, ← Kp.foldl2, ← Kp.foldl3, ← writeBytes_wf, ← wf_filter, wf_nil, ← State.setReg_kp, ← raise_kp]

theorem execQuotaSetApply_kp (s : State)
    (h0 : Kp kb s) : OKp kb (execQuotaSetApply s) := by
  unfold execQuotaSetApply; grind (splits := 14) (gen := 60) (ematch := 60) [Option.map_eq_some_iff, Option.bind_eq_some_iff, ← Kp.upd2, ← OKp.next, ← MKp.some, ← Kp.getD, ← Kp.foldl, ← Kp.foldl1, ← Kp.foldl2, ← Kp.foldl3, ← writeBytes_wf, ← wf_filter, wf_nil, ← State.setFld_kp, ← dropEntries_kp]

/-! ## Machine/Hbm.lean -/

theorem loseStack_kp (s : State) (k : Nat) (cause : Nat) (chan : Nat)
    (h0 : Kp kb s) : Kp kb (loseStack s k cause chan) := by
  unfold loseStack; grind (splits := 14) (gen := 60) (ematch := 60) [Option.map_eq_some_iff, Option.bind_eq_some_iff, ← Kp.upd2, ← OKp.next, ← MKp.some, ← Kp.getD, ← Kp.foldl, ← Kp.foldl1, ← Kp.foldl2, ← Kp.foldl3, ← writeBytes_wf, ← wf_filter, wf_nil, ← State.setFld_kp, ← State.setReg_kp, ← raise_kp]

theorem execHbmParityError_kp (k : Stack) (ch : Chan) (again : Bool) (s : State)
    (h0 : Kp kb s) : OKp kb (execHbmParityError k ch again s) := by
  unfold execHbmParityError; grind (splits := 14) (gen := 60) (ematch := 60) [Option.map_eq_some_iff, Option.bind_eq_some_iff, ← Kp.upd2, ← OKp.next, ← MKp.some, ← Kp.getD, ← Kp.foldl, ← Kp.foldl1, ← Kp.foldl2, ← Kp.foldl3, ← writeBytes_wf, ← wf_filter, wf_nil, ← State.bump_kp, ← loseStack_kp, ← raise_kp]

theorem execHbmChannelTimeout_kp (k : Stack) (ch : Chan) (s : State)
    (h0 : Kp kb s) : OKp kb (execHbmChannelTimeout k ch s) := by
  unfold execHbmChannelTimeout; grind (splits := 14) (gen := 60) (ematch := 60) [Option.map_eq_some_iff, Option.bind_eq_some_iff, ← Kp.upd2, ← OKp.next, ← MKp.some, ← Kp.getD, ← Kp.foldl, ← Kp.foldl1, ← Kp.foldl2, ← Kp.foldl3, ← writeBytes_wf, ← wf_filter, wf_nil, ← State.upTo_kp, ← loseStack_kp]

theorem execHbmTempPortLoss_kp (k : Stack) (hot : Bool) (s : State)
    (h0 : Kp kb s) : OKp kb (execHbmTempPortLoss k hot s) := by
  unfold execHbmTempPortLoss; grind (splits := 14) (gen := 60) (ematch := 60) [Option.map_eq_some_iff, Option.bind_eq_some_iff, ← Kp.upd2, ← OKp.next, ← MKp.some, ← Kp.getD, ← Kp.foldl, ← Kp.foldl1, ← Kp.foldl2, ← Kp.foldl3, ← writeBytes_wf, ← wf_filter, wf_nil, ← State.upTo_kp, ← loseStack_kp]

theorem execHbmTempRead_kp (k : Stack) (deg : Fin 256) (s : State)
    (h0 : Kp kb s) : OKp kb (execHbmTempRead k deg s) := by
  unfold execHbmTempRead; grind (splits := 14) (gen := 60) (ematch := 60) [Option.map_eq_some_iff, Option.bind_eq_some_iff, ← Kp.upd2, ← OKp.next, ← MKp.some, ← Kp.getD, ← Kp.foldl, ← Kp.foldl1, ← Kp.foldl2, ← Kp.foldl3, ← writeBytes_wf, ← wf_filter, wf_nil, ← State.disarm_kp, ← State.setFld_kp, ← State.upTo_kp, ← raise_kp]

theorem serveSlot_kp (s : State) (p : Nat) (e : Nat) (start : Nat) (stop : Nat)
    (h0 : Kp kb s) : Kp kb (serveSlot s p e start stop) := by
  unfold serveSlot; grind (splits := 14) (gen := 60) (ematch := 60) [Option.map_eq_some_iff, Option.bind_eq_some_iff, ← Kp.upd2, ← OKp.next, ← MKp.some, ← Kp.getD, ← Kp.foldl, ← Kp.foldl1, ← Kp.foldl2, ← Kp.foldl3, ← writeBytes_wf, ← wf_filter, wf_nil, ← markServed_kp]

theorem execHbmSlotServe_kp (j : Nat) (s : State)
    (h0 : Kp kb s) : OKp kb (execHbmSlotServe j s) := by
  unfold execHbmSlotServe; grind (splits := 14) (gen := 60) (ematch := 60) [Option.map_eq_some_iff, Option.bind_eq_some_iff, ← Kp.upd2, ← OKp.next, ← MKp.some, ← Kp.getD, ← Kp.foldl, ← Kp.foldl1, ← Kp.foldl2, ← Kp.foldl3, ← writeBytes_wf, ← wf_filter, wf_nil, ← State.upTo_kp, ← serveSlot_kp]

theorem execSlotCtrlApply_kp (s : State)
    (h0 : Kp kb s) : OKp kb (execSlotCtrlApply s) := by
  unfold execSlotCtrlApply; grind (splits := 14) (gen := 60) (ematch := 60) [Option.map_eq_some_iff, Option.bind_eq_some_iff, ← Kp.upd2, ← OKp.next, ← MKp.some, ← Kp.getD, ← Kp.foldl, ← Kp.foldl1, ← Kp.foldl2, ← Kp.foldl3, ← writeBytes_wf, ← wf_filter, wf_nil, ← State.setFld_kp, ← State.setReg_kp, ← raise_kp]

/-! ## Machine/Riser.lean -/

theorem modRiser_kp (s : State) (f : RiserSt → RiserSt)
    (h0 : Kp kb s) : Kp kb (modRiser s f) := by
  unfold modRiser; grind (splits := 14) (gen := 60) (ematch := 60) [Option.map_eq_some_iff, Option.bind_eq_some_iff, ← Kp.upd2, ← OKp.next, ← MKp.some, ← Kp.getD, ← Kp.foldl, ← Kp.foldl1, ← Kp.foldl2, ← Kp.foldl3, ← writeBytes_wf, ← wf_filter, wf_nil]

theorem riserLeft_kp (s : State) (r : RRec)
    (h0 : Kp kb s) : Kp kb (riserLeft s r) := by
  unfold riserLeft; grind (splits := 14) (gen := 60) (ematch := 60) [Option.map_eq_some_iff, Option.bind_eq_some_iff, ← Kp.upd2, ← OKp.next, ← MKp.some, ← Kp.getD, ← Kp.foldl, ← Kp.foldl1, ← Kp.foldl2, ← Kp.foldl3, ← writeBytes_wf, ← wf_filter, wf_nil, ← State.setFld_kp, ← State.setReg_kp, ← modRiser_kp]

theorem riserTrim_kp (z0 : Nat) (z1 : State)
    (h0 : Kp kb z1) : Kp kb (riserTrim z0 z1) := by
  fun_induction riserTrim z0 z1 <;> grind (splits := 14) (gen := 60) (ematch := 60) [Option.map_eq_some_iff, Option.bind_eq_some_iff, ← Kp.upd2, ← OKp.next, ← MKp.some, ← Kp.getD, ← Kp.foldl, ← Kp.foldl1, ← Kp.foldl2, ← Kp.foldl3, ← writeBytes_wf, ← wf_filter, wf_nil, ← modRiser_kp, ← riserLeft_kp]

theorem riserShow_kp (s : State)
    (h0 : Kp kb s) : Kp kb (riserShow s) := by
  unfold riserShow; grind (splits := 14) (gen := 60) (ematch := 60) [Option.map_eq_some_iff, Option.bind_eq_some_iff, ← Kp.upd2, ← OKp.next, ← MKp.some, ← Kp.getD, ← Kp.foldl, ← Kp.foldl1, ← Kp.foldl2, ← Kp.foldl3, ← writeBytes_wf, ← wf_filter, wf_nil, ← State.setFld_kp]

theorem riserPush_kp (s : State) (e : Nat) (block : Nat) (kind : Nat) (rawLen : Nat) (data : List Byte) (key : Bool)
    (h0 : Kp kb s) : Kp kb (riserPush s e block kind rawLen data key) := by
  unfold riserPush; grind (splits := 14) (gen := 60) (ematch := 60) [Option.map_eq_some_iff, Option.bind_eq_some_iff, ← Kp.upd2, ← OKp.next, ← MKp.some, ← Kp.getD, ← Kp.foldl, ← Kp.foldl1, ← Kp.foldl2, ← Kp.foldl3, ← writeBytes_wf, ← wf_filter, wf_nil, ← State.setReg_kp, ← modRiser_kp]

theorem riserUnwait_kp (s : State) (c : Nat)
    (h0 : Kp kb s) : Kp kb (riserUnwait s c) := by
  unfold riserUnwait; grind (splits := 14) (gen := 60) (ematch := 60) [Option.map_eq_some_iff, Option.bind_eq_some_iff, ← Kp.upd2, ← OKp.next, ← MKp.some, ← Kp.getD, ← Kp.foldl, ← Kp.foldl1, ← Kp.foldl2, ← Kp.foldl3, ← writeBytes_wf, ← wf_filter, wf_nil, ← modRiser_kp]

theorem execRiser_kp (c : Core) (s : State)
    (h0 : Kp kb s) : OKp kb (execRiser c s) := by
  unfold execRiser; split
  · exact .next h0
  · rename_i i q _
    refine OKp.ite (.next (sweepFinish_kp _ _ _ _ _ _ h0)) ?_
    extract_lets first waiting s1 key new raw none' data need all s2 s3 q' s4
    have k1 : Kp kb s1 := Kp.ite (modRiser_kp _ _ h0) h0
    refine OKp.ite (.next (sweepFinish_kp _ _ _ _ _ _ k1)) (OKp.ite (.next (Kp.ite k1 (modRiser_kp _ _ k1))) ?_)
    have k2 : Kp kb s2 := modRiser_kp _ _ (riserUnwait_kp _ _ k1)
    have k3 : Kp kb s3 := Kp.ite k2 (riserPush_kp _ _ _ _ _ _ _ k2)
    have k4 : Kp kb s4 := Kp.ite (modRiser_kp _ _ (riserPush_kp _ _ _ _ _ _ _ k3)) k3
    exact .next (sweepFinish_kp _ _ _ _ _ _ (riserShow_kp _ (riserTrim_kp _ _ k4)))

theorem execRiserWaitTimeout_kp (s : State)
    (h0 : Kp kb s) : OKp kb (execRiserWaitTimeout s) := by
  unfold execRiserWaitTimeout; grind (splits := 14) (gen := 60) (ematch := 60) [Option.map_eq_some_iff, Option.bind_eq_some_iff, ← Kp.upd2, ← OKp.next, ← MKp.some, ← Kp.getD, ← Kp.foldl, ← Kp.foldl1, ← Kp.foldl2, ← Kp.foldl3, ← writeBytes_wf, ← wf_filter, wf_nil, ← State.bump_kp, ← State.disarm_kp, ← State.setFld_kp, ← modRiser_kp, ← raise_kp, ← riserShow_kp, ← riserUnwait_kp, ← sweepFinish_kp]

theorem area1Free_kp (s : State) (n : Nat)
    (h0 : Kp kb s) : Kp kb (area1Free s n) := by
  unfold area1Free
  exact Kp.ite h0 ((modRiser_kp s _ h0).upd2 id id id id id)

theorem area1Done_kp (s : State) (r : RRec)
    (h0 : Kp kb s) : Kp kb (area1Done s r) := by
  unfold area1Done; grind (splits := 14) (gen := 60) (ematch := 60) [Option.map_eq_some_iff, Option.bind_eq_some_iff, ← Kp.upd2, ← OKp.next, ← MKp.some, ← Kp.getD, ← Kp.foldl, ← Kp.foldl1, ← Kp.foldl2, ← Kp.foldl3, ← writeBytes_wf, ← wf_filter, wf_nil, ← State.setReg_kp, ← jnlAppend_kp, ← modRiser_kp]

theorem exportIngot_kp (s : State)
    (h0 : Kp kb s) : Kp kb (exportIngot s) := by
  unfold exportIngot; grind (splits := 14) (gen := 60) (ematch := 60) [Option.map_eq_some_iff, Option.bind_eq_some_iff, ← Kp.upd2, ← OKp.next, ← MKp.some, ← Kp.getD, ← Kp.foldl, ← Kp.foldl1, ← Kp.foldl2, ← Kp.foldl3, ← writeBytes_wf, ← wf_filter, wf_nil, ← State.wrapAdd_kp, ← area1Done_kp, ← area1Free_kp, ← modRiser_kp]

theorem sendBulk_kp (s : State) (r : RRec)
    (h0 : Kp kb s) : Kp kb (sendBulk s r) := by
  exact Kp.foldl _ (fun _ _ h => sendMsg_kp _ _ _ _ _ _ _ h) _ _ h0

theorem exportHost_kp (s : State)
    (h0 : Kp kb s) : Kp kb (exportHost s) := by
  unfold exportHost; grind (splits := 14) (gen := 60) (ematch := 60) [Option.map_eq_some_iff, Option.bind_eq_some_iff, ← Kp.upd2, ← OKp.next, ← MKp.some, ← Kp.getD, ← Kp.foldl, ← Kp.foldl1, ← Kp.foldl2, ← Kp.foldl3, ← writeBytes_wf, ← wf_filter, wf_nil, ← modRiser_kp, ← sendBulk_kp]

theorem execRiserExport_kp (s : State)
    (h0 : Kp kb s) : OKp kb (execRiserExport s) := by
  unfold execRiserExport; grind (splits := 14) (gen := 60) (ematch := 60) [Option.map_eq_some_iff, Option.bind_eq_some_iff, ← Kp.upd2, ← OKp.next, ← MKp.some, ← Kp.getD, ← Kp.foldl, ← Kp.foldl1, ← Kp.foldl2, ← Kp.foldl3, ← writeBytes_wf, ← wf_filter, wf_nil, ← State.upTo_kp, ← exportHost_kp, ← exportIngot_kp, ← riserShow_kp, ← riserTrim_kp]

theorem execBulk_kp (s : State)
    (h0 : Kp kb s) : OKp kb (execBulk s) := by
  unfold execBulk; grind (splits := 14) (gen := 60) (ematch := 60) [Option.map_eq_some_iff, Option.bind_eq_some_iff, ← Kp.upd2, ← OKp.next, ← MKp.some, ← Kp.getD, ← Kp.foldl, ← Kp.foldl1, ← Kp.foldl2, ← Kp.foldl3, ← writeBytes_wf, ← wf_filter, wf_nil, ← modRiser_kp, ← riserShow_kp, ← riserTrim_kp, takeKind_kp]

theorem execRiserRetx_kp (s : State)
    (h0 : Kp kb s) : OKp kb (execRiserRetx s) := by
  unfold execRiserRetx; grind (splits := 14) (gen := 60) (ematch := 60) [Option.map_eq_some_iff, Option.bind_eq_some_iff, ← Kp.upd2, ← OKp.next, ← MKp.some, ← Kp.getD, ← Kp.foldl, ← Kp.foldl1, ← Kp.foldl2, ← Kp.foldl3, ← writeBytes_wf, ← wf_filter, wf_nil, ← modRiser_kp]

theorem riserReset_kp (s : State) (next : Nat)
    (h0 : Kp kb s) : Kp kb (riserReset s next) := by
  unfold riserReset; grind (splits := 14) (gen := 60) (ematch := 60) [Option.map_eq_some_iff, Option.bind_eq_some_iff, ← Kp.upd2, ← OKp.next, ← MKp.some, ← Kp.getD, ← Kp.foldl, ← Kp.foldl1, ← Kp.foldl2, ← Kp.foldl3, ← writeBytes_wf, ← wf_filter, wf_nil, ← State.setReg_kp]

end Sys2Proof.Machine
end

