-- ==== Sys2Proof/Laws/Keep10.lean ====
section
/-!
SUPPORT. Laws/Keep10.lean: each function of Machine/Frames, Steward
that answers a state keeps the queue, the fuses and the canonical form.
-/
namespace Sys2Proof.Machine

open Sys2Proof

variable {kb : State}

/-! ## Machine/Frames.lean -/

theorem settled_kp (s : State) (o : Host.Outcome State Fault Refusal)
    (h0 : Kp kb s) (h1 : OKp kb o) : Kp kb (settled s o) := by
  obtain ⟨t, rfl, h⟩ := h1; exact h

theorem eachCore_kp (s : State) (f : State → Nat → State)
    (h0 : Kp kb s) (h1 : ∀ y0 y1, Kp kb y0 → Kp kb (f y0 y1)) : Kp kb (eachCore s f) := by
  unfold eachCore; grind (splits := 14) (gen := 60) (ematch := 60) [Option.map_eq_some_iff, Option.bind_eq_some_iff, ← Kp.upd2, ← OKp.next, ← MKp.some, ← Kp.getD, ← Kp.foldl, ← Kp.foldl1, ← Kp.foldl2, ← Kp.foldl3, ← writeBytes_wf, ← wf_filter, wf_nil]

theorem checkCore_kp (s : State) (c : Nat)
    (h0 : Kp kb s) : Kp kb (checkCore s c) := by
  unfold checkCore; grind (splits := 14) (gen := 60) (ematch := 60) [Option.map_eq_some_iff, Option.bind_eq_some_iff, ← Kp.upd2, ← OKp.next, ← MKp.some, ← Kp.getD, ← Kp.foldl, ← Kp.foldl1, ← Kp.foldl2, ← Kp.foldl3, ← writeBytes_wf, ← wf_filter, wf_nil, ← State.bump_kp, ← State.disarm_kp, ← State.setFld_kp, ← State.setReg_kp, ← raise_kp, ← spendToken_kp]

theorem frameChecks_kp (s : State) (t : Nat)
    (h0 : Kp kb s) : Kp kb (frameChecks s t) := by
  unfold frameChecks; grind (splits := 14) (gen := 60) (ematch := 60) [Option.map_eq_some_iff, Option.bind_eq_some_iff, ← Kp.upd2, ← OKp.next, ← MKp.some, ← Kp.getD, ← Kp.foldl, ← Kp.foldl1, ← Kp.foldl2, ← Kp.foldl3, ← writeBytes_wf, ← wf_filter, wf_nil, ← State.upTo_kp, ← checkCore_kp, ← eachCore_kp, ← modPwr_kp]

theorem execFrameCheck_kp (s : State)
    (h0 : Kp kb s) : OKp kb (execFrameCheck s) := by
  unfold execFrameCheck; grind (splits := 14) (gen := 60) (ematch := 60) [Option.map_eq_some_iff, Option.bind_eq_some_iff, ← Kp.upd2, ← OKp.next, ← MKp.some, ← Kp.getD, ← Kp.foldl, ← Kp.foldl1, ← Kp.foldl2, ← Kp.foldl3, ← writeBytes_wf, ← wf_filter, wf_nil, ← frameChecks_kp]

theorem periodChange_kp (s : State)
    (h0 : Kp kb s) : Kp kb (periodChange s) := by
  unfold periodChange; exact Kp.ite (State.setReg_kp _ _ _ _ h0) h0

theorem execPeriodChange_kp (s : State)
    (h0 : Kp kb s) : OKp kb (execPeriodChange s) := by
  unfold execPeriodChange; grind (splits := 14) (gen := 60) (ematch := 60) [Option.map_eq_some_iff, Option.bind_eq_some_iff, ← Kp.upd2, ← OKp.next, ← MKp.some, ← Kp.getD, ← Kp.foldl, ← Kp.foldl1, ← Kp.foldl2, ← Kp.foldl3, ← writeBytes_wf, ← wf_filter, wf_nil, ← periodChange_kp]

theorem modeChange_kp (s : State)
    (h0 : Kp kb s) : Kp kb (modeChange s) := by
  unfold modeChange; grind (splits := 14) (gen := 60) (ematch := 60) [Option.map_eq_some_iff, Option.bind_eq_some_iff, ← Kp.upd2, ← OKp.next, ← MKp.some, ← Kp.getD, ← Kp.foldl, ← Kp.foldl1, ← Kp.foldl2, ← Kp.foldl3, ← writeBytes_wf, ← wf_filter, wf_nil, ← State.setReg_kp, ← raise_kp, ← throttleOff_kp]

theorem execTimingModeChange_kp (s : State)
    (h0 : Kp kb s) : OKp kb (execTimingModeChange s) := by
  unfold execTimingModeChange; grind (splits := 14) (gen := 60) (ematch := 60) [Option.map_eq_some_iff, Option.bind_eq_some_iff, ← Kp.upd2, ← OKp.next, ← MKp.some, ← Kp.getD, ← Kp.foldl, ← Kp.foldl1, ← Kp.foldl2, ← Kp.foldl3, ← writeBytes_wf, ← wf_filter, wf_nil, ← modeChange_kp]

theorem sendFrom_kp (s : State) (master : Nat) (mkind : Nat) (body : List Byte)
    (h0 : Kp kb s) : Kp kb (sendFrom s master mkind body) := by
  unfold sendFrom; grind (splits := 14) (gen := 60) (ematch := 60) [Option.map_eq_some_iff, Option.bind_eq_some_iff, ← Kp.upd2, ← OKp.next, ← MKp.some, ← Kp.getD, ← Kp.foldl, ← Kp.foldl1, ← Kp.foldl2, ← Kp.foldl3, ← writeBytes_wf, ← wf_filter, wf_nil]

theorem beaconSend_kp (s : State)
    (h0 : Kp kb s) : Kp kb (beaconSend s) := by
  unfold beaconSend; grind (splits := 14) (gen := 60) (ematch := 60) [Option.map_eq_some_iff, Option.bind_eq_some_iff, ← Kp.upd2, ← OKp.next, ← MKp.some, ← Kp.getD, ← Kp.foldl, ← Kp.foldl1, ← Kp.foldl2, ← Kp.foldl3, ← writeBytes_wf, ← wf_filter, wf_nil, ← sendFrom_kp]

theorem nameIdle_kp (s : State) (f : Nat)
    (h0 : Kp kb s) : Kp kb (nameIdle s f) := by
  unfold nameIdle; grind (splits := 14) (gen := 60) (ematch := 60) [Option.map_eq_some_iff, Option.bind_eq_some_iff, ← Kp.upd2, ← OKp.next, ← MKp.some, ← Kp.getD, ← Kp.foldl, ← Kp.foldl1, ← Kp.foldl2, ← Kp.foldl3, ← writeBytes_wf, ← wf_filter, wf_nil, ← State.setFld_kp, ← modPwr_kp]

theorem masterNames_kp (s : State)
    (h0 : Kp kb s) : Kp kb (masterNames s) := by
  unfold masterNames; grind (splits := 14) (gen := 60) (ematch := 60) [Option.map_eq_some_iff, Option.bind_eq_some_iff, ← Kp.upd2, ← OKp.next, ← MKp.some, ← Kp.getD, ← Kp.foldl, ← Kp.foldl1, ← Kp.foldl2, ← Kp.foldl3, ← writeBytes_wf, ← wf_filter, wf_nil, ← nameIdle_kp, ← sendFrom_kp]

theorem askStretch_kp (s : State)
    (h0 : Kp kb s) : Kp kb (askStretch s) := by
  unfold askStretch; grind (splits := 14) (gen := 60) (ematch := 60) [Option.map_eq_some_iff, Option.bind_eq_some_iff, ← Kp.upd2, ← OKp.next, ← MKp.some, ← Kp.getD, ← Kp.foldl, ← Kp.foldl1, ← Kp.foldl2, ← Kp.foldl3, ← writeBytes_wf, ← wf_filter, wf_nil, ← masterNames_kp, ← modPwr_kp, ← sendMsg_kp]

theorem execStretch_kp (s : State)
    (h0 : Kp kb s) : OKp kb (execStretch s) := by
  unfold execStretch; grind (splits := 14) (gen := 60) (ematch := 60) [Option.map_eq_some_iff, Option.bind_eq_some_iff, ← Kp.upd2, ← OKp.next, ← MKp.some, ← Kp.getD, ← Kp.foldl, ← Kp.foldl1, ← Kp.foldl2, ← Kp.foldl3, ← writeBytes_wf, ← wf_filter, wf_nil, ← masterNames_kp, ← nameIdle_kp, ← sendFrom_kp, takeKind_kp]

theorem idleBegins_kp (s : State)
    (h0 : Kp kb s) : Kp kb (idleBegins s) := by
  unfold idleBegins; grind (splits := 14) (gen := 60) (ematch := 60) [Option.map_eq_some_iff, Option.bind_eq_some_iff, ← Kp.upd2, ← OKp.next, ← MKp.some, ← Kp.getD, ← Kp.foldl, ← Kp.foldl1, ← Kp.foldl2, ← Kp.foldl3, ← writeBytes_wf, ← wf_filter, wf_nil, ← State.bump_kp, ← modPwr_kp, ← raise_kp]

theorem idleFrame_kp (s : State)
    (h0 : Kp kb s) : Kp kb (idleFrame s) := by
  unfold idleFrame; grind (splits := 14) (gen := 60) (ematch := 60) [Option.map_eq_some_iff, Option.bind_eq_some_iff, ← Kp.upd2, ← OKp.next, ← MKp.some, ← Kp.getD, ← Kp.foldl, ← Kp.foldl1, ← Kp.foldl2, ← Kp.foldl3, ← writeBytes_wf, ← wf_filter, wf_nil, ← State.setFld_kp, ← askStretch_kp, ← idleBegins_kp, ← modPwr_kp]

theorem execIdleFrame_kp (s : State)
    (h0 : Kp kb s) : OKp kb (execIdleFrame s) := by
  unfold execIdleFrame; grind (splits := 14) (gen := 60) (ematch := 60) [Option.map_eq_some_iff, Option.bind_eq_some_iff, ← Kp.upd2, ← OKp.next, ← MKp.some, ← Kp.getD, ← Kp.foldl, ← Kp.foldl1, ← Kp.foldl2, ← Kp.foldl3, ← writeBytes_wf, ← wf_filter, wf_nil, ← idleFrame_kp]

theorem powerCap_kp (s : State) (e : Nat) (len : Nat)
    (h0 : Kp kb s) : Kp kb (powerCap s e len) := by
  unfold powerCap; grind (splits := 14) (gen := 60) (ematch := 60) [Option.map_eq_some_iff, Option.bind_eq_some_iff, ← Kp.upd2, ← OKp.next, ← MKp.some, ← Kp.getD, ← Kp.foldl, ← Kp.foldl1, ← Kp.foldl2, ← Kp.foldl3, ← writeBytes_wf, ← wf_filter, wf_nil, ← State.setReg_kp, ← State.wrapAdd_kp]

theorem throttleTick_kp (s : State)
    (h0 : Kp kb s) : Kp kb (throttleTick s) := by
  unfold throttleTick; grind (splits := 14) (gen := 60) (ematch := 60) [Option.map_eq_some_iff, Option.bind_eq_some_iff, ← Kp.upd2, ← OKp.next, ← MKp.some, ← Kp.getD, ← Kp.foldl, ← Kp.foldl1, ← Kp.foldl2, ← Kp.foldl3, ← writeBytes_wf, ← wf_filter, wf_nil, ← throttleOff_kp, ← throttleOn_kp]

theorem budgetCredit_kp (s : State) (len : Nat)
    (h0 : Kp kb s) : Kp kb (budgetCredit s len) := by
  unfold budgetCredit; grind (splits := 14) (gen := 60) (ematch := 60) [Option.map_eq_some_iff, Option.bind_eq_some_iff, ← Kp.upd2, ← OKp.next, ← MKp.some, ← Kp.getD, ← Kp.foldl, ← Kp.foldl1, ← Kp.foldl2, ← Kp.foldl3, ← writeBytes_wf, ← wf_filter, wf_nil, ← State.bump_kp, ← setBucket_kp]

theorem applyExt_kp (s : State) (z0 : ExtEvt)
    (h0 : Kp kb s) : Kp kb (applyExt s z0) := by
  unfold applyExt; grind (splits := 14) (gen := 60) (ematch := 60) [Option.map_eq_some_iff, Option.bind_eq_some_iff, ← Kp.upd2, ← OKp.next, ← MKp.some, ← Kp.getD, ← Kp.foldl, ← Kp.foldl1, ← Kp.foldl2, ← Kp.foldl3, ← writeBytes_wf, ← wf_filter, wf_nil, ← State.setReg_kp, ← applyPiece_kp, ← applyRingTail_kp, ← applySignal_kp, ← setToken_kp]

theorem applyEvents_kp (s : State)
    (h0 : Kp kb s) : Kp kb (applyEvents s) := by
  unfold applyEvents; grind (splits := 14) (gen := 60) (ematch := 60) [Option.map_eq_some_iff, Option.bind_eq_some_iff, ← Kp.upd2, ← OKp.next, ← MKp.some, ← Kp.getD, ← Kp.foldl, ← Kp.foldl1, ← Kp.foldl2, ← Kp.foldl3, ← writeBytes_wf, ← wf_filter, wf_nil, ← applyExt_kp, ← voteWindow_kp]

theorem portTick_kp (s : State) (p : Nat)
    (h0 : Kp kb s) : Kp kb (portTick s p) := by
  unfold portTick; grind (splits := 14) (gen := 60) (ematch := 60) [Option.map_eq_some_iff, Option.bind_eq_some_iff, ← Kp.upd2, ← OKp.next, ← MKp.some, ← Kp.getD, ← Kp.foldl, ← Kp.foldl1, ← Kp.foldl2, ← Kp.foldl3, ← writeBytes_wf, ← wf_filter, wf_nil, ← State.setFld_kp, ← execPortActivate_kp, ← settled_kp]

theorem tickCounters_kp (s : State) (t : Nat)
    (h0 : Kp kb s) : Kp kb (tickCounters s t) := by
  unfold tickCounters; grind (splits := 14) (gen := 60) (ematch := 60) [Option.map_eq_some_iff, Option.bind_eq_some_iff, ← Kp.upd2, ← OKp.next, ← MKp.some, ← Kp.getD, ← Kp.foldl, ← Kp.foldl1, ← Kp.foldl2, ← Kp.foldl3, ← writeBytes_wf, ← wf_filter, wf_nil, ← State.modCore_kp, ← State.setReg_kp, ← State.upTo_kp, ← eachCore_kp, ← idleFrame_kp, ← modPwr_kp]

theorem idleOver_kp (s : State) (t : Nat)
    (h0 : Kp kb s) : Kp kb (idleOver s t) := by
  unfold idleOver; grind (splits := 14) (gen := 60) (ematch := 60) [Option.map_eq_some_iff, Option.bind_eq_some_iff, ← Kp.upd2, ← OKp.next, ← MKp.some, ← Kp.getD, ← Kp.foldl, ← Kp.foldl1, ← Kp.foldl2, ← Kp.foldl3, ← writeBytes_wf, ← wf_filter, wf_nil, ← State.modSpr_kp, ← eachCore_kp, ← idleFrame_kp]

theorem boundary_kp (s : State)
    (h0 : Kp kb s) : Kp kb (boundary s) := by
  unfold boundary; grind (splits := 14) (gen := 60) (ematch := 60) [Option.map_eq_some_iff, Option.bind_eq_some_iff, ← Kp.upd2, ← OKp.next, ← MKp.some, ← Kp.getD, ← Kp.foldl, ← Kp.foldl1, ← Kp.foldl2, ← Kp.foldl3, ← writeBytes_wf, ← wf_filter, wf_nil, ← applyEvents_kp, ← calAtTick_kp, ← cruDeadline_kp, ← eachCore_kp, ← execQuotaSetApply_kp, ← execSpareMapChange_kp, ← idleFrame_kp, ← modeChange_kp, ← moduleWindow_kp, ← periodChange_kp, ← portTick_kp, ← promoteWindow_kp, ← settled_kp, ← throttleTick_kp]

theorem hotFrame_kp (s : State) (len : Nat)
    (h0 : Kp kb s) : Kp kb (hotFrame s len) := by
  unfold hotFrame; grind (splits := 14) (gen := 60) (ematch := 60) [Option.map_eq_some_iff, Option.bind_eq_some_iff, ← Kp.upd2, ← OKp.next, ← MKp.some, ← Kp.getD, ← Kp.foldl, ← Kp.foldl1, ← Kp.foldl2, ← Kp.foldl3, ← writeBytes_wf, ← wf_filter, wf_nil]

theorem execFrameTick_kp (energy : Nat) (s : State)
    (h0 : Kp kb s) : OKp kb (execFrameTick energy s) := by
  unfold execFrameTick; grind (splits := 14) (gen := 60) (ematch := 60) [Option.map_eq_some_iff, Option.bind_eq_some_iff, ← Kp.upd2, ← OKp.next, ← MKp.some, ← Kp.getD, ← Kp.foldl, ← Kp.foldl1, ← Kp.foldl2, ← Kp.foldl3, ← writeBytes_wf, ← wf_filter, wf_nil, ← beaconSend_kp, ← boundary_kp, ← budgetCredit_kp, ← eachCore_kp, ← frameChecks_kp, ← grantSlots_kp, ← hbmAdvance_kp, ← hotFrame_kp, ← idleOver_kp, ← powerCap_kp, ← pruneUse_kp, ← settleReplay_kp, ← tickCounters_kp]

theorem unalign_kp (s : State)
    (h0 : Kp kb s) : Kp kb (unalign s) := by
  unfold unalign; grind (splits := 14) (gen := 60) (ematch := 60) [Option.map_eq_some_iff, Option.bind_eq_some_iff, ← Kp.upd2, ← OKp.next, ← MKp.some, ← Kp.getD, ← Kp.foldl, ← Kp.foldl1, ← Kp.foldl2, ← Kp.foldl3, ← writeBytes_wf, ← wf_filter, wf_nil, ← State.setFld_kp, ← modPwr_kp, ← raise_kp]

theorem takePhase_kp (s : State) (f : Nat) (ps : Int)
    (h0 : Kp kb s) : Kp kb (takePhase s f ps) := by
  unfold takePhase; grind (splits := 14) (gen := 60) (ematch := 60) [Option.map_eq_some_iff, Option.bind_eq_some_iff, ← Kp.upd2, ← OKp.next, ← MKp.some, ← Kp.getD, ← Kp.foldl, ← Kp.foldl1, ← Kp.foldl2, ← Kp.foldl3, ← writeBytes_wf, ← wf_filter, wf_nil, ← State.setFld_kp, ← modPwr_kp, ← unalign_kp]

theorem execBeacon_kp (ps : Int) (s : State)
    (h0 : Kp kb s) : OKp kb (execBeacon ps s) := by
  unfold execBeacon; grind (splits := 14) (gen := 60) (ematch := 60) [Option.map_eq_some_iff, Option.bind_eq_some_iff, ← Kp.upd2, ← OKp.next, ← MKp.some, ← Kp.getD, ← Kp.foldl, ← Kp.foldl1, ← Kp.foldl2, ← Kp.foldl3, ← writeBytes_wf, ← wf_filter, wf_nil, ← State.disarm_kp, ← State.setFld_kp, ← modPwr_kp, ← sendFrom_kp, takeKind_kp, ← takePhase_kp, ← unalign_kp]

theorem execBeaconTimeout_kp (s : State)
    (h0 : Kp kb s) : OKp kb (execBeaconTimeout s) := by
  unfold execBeaconTimeout; grind (splits := 14) (gen := 60) (ematch := 60) [Option.map_eq_some_iff, Option.bind_eq_some_iff, ← Kp.upd2, ← OKp.next, ← MKp.some, ← Kp.getD, ← Kp.foldl, ← Kp.foldl1, ← Kp.foldl2, ← Kp.foldl3, ← writeBytes_wf, ← wf_filter, wf_nil, ← unalign_kp]

/-! ## Machine/Steward.lean -/

theorem onPage_kp (s : State) (a : BitVec 26) (f : PageKind → Nat → State)
    (h0 : Kp kb s) (h1 : ∀ y0 y1, Kp kb (f y0 y1)) : Kp kb (onPage s a f) := by
  unfold onPage; grind (splits := 14) (gen := 60) (ematch := 60) [Option.map_eq_some_iff, Option.bind_eq_some_iff, ← Kp.upd2, ← OKp.next, ← MKp.some, ← Kp.getD, ← Kp.foldl, ← Kp.foldl1, ← Kp.foldl2, ← Kp.foldl3, ← writeBytes_wf, ← wf_filter, wf_nil]

theorem pageEnable_kp (s : State) (p : PageKind) (i : Nat) (v : Bool)
    (h0 : Kp kb s) : Kp kb (pageEnable s p i v) := by
  unfold pageEnable; grind (splits := 14) (gen := 60) (ematch := 60) [Option.map_eq_some_iff, Option.bind_eq_some_iff, ← Kp.upd2, ← OKp.next, ← MKp.some, ← Kp.getD, ← Kp.foldl, ← Kp.foldl1, ← Kp.foldl2, ← Kp.foldl3, ← writeBytes_wf, ← wf_filter, wf_nil, ← State.setFld_kp, ← State.setPageState_kp]

theorem pageQuiesce_kp (s : State) (p : PageKind) (i : Nat) (v : Bool)
    (h0 : Kp kb s) : Kp kb (pageQuiesce s p i v) := by
  unfold pageQuiesce; grind (splits := 14) (gen := 60) (ematch := 60) [Option.map_eq_some_iff, Option.bind_eq_some_iff, ← Kp.upd2, ← OKp.next, ← MKp.some, ← Kp.getD, ← Kp.foldl, ← Kp.foldl1, ← Kp.foldl2, ← Kp.foldl3, ← writeBytes_wf, ← wf_filter, wf_nil, ← State.setFld_kp, ← State.setPageState_kp]

theorem execPageEnable_kp (a : BitVec 26) (v : Bool) (s : State)
    (h0 : Kp kb s) : OKp kb (execPageEnable a v s) := by
  unfold execPageEnable; grind (splits := 14) (gen := 60) (ematch := 60) [Option.map_eq_some_iff, Option.bind_eq_some_iff, ← Kp.upd2, ← OKp.next, ← MKp.some, ← Kp.getD, ← Kp.foldl, ← Kp.foldl1, ← Kp.foldl2, ← Kp.foldl3, ← writeBytes_wf, ← wf_filter, wf_nil, ← onPage_kp, ← pageEnable_kp]

theorem execPageQuiesce_kp (a : BitVec 26) (v : Bool) (s : State)
    (h0 : Kp kb s) : OKp kb (execPageQuiesce a v s) := by
  unfold execPageQuiesce; grind (splits := 14) (gen := 60) (ematch := 60) [Option.map_eq_some_iff, Option.bind_eq_some_iff, ← Kp.upd2, ← OKp.next, ← MKp.some, ← Kp.getD, ← Kp.foldl, ← Kp.foldl1, ← Kp.foldl2, ← Kp.foldl3, ← writeBytes_wf, ← wf_filter, wf_nil, ← onPage_kp, ← pageQuiesce_kp]

theorem execPageQuiesced_kp (a : BitVec 26) (s : State)
    (h0 : Kp kb s) : OKp kb (execPageQuiesced a s) := by
  unfold execPageQuiesced; grind (splits := 14) (gen := 60) (ematch := 60) [Option.map_eq_some_iff, Option.bind_eq_some_iff, ← Kp.upd2, ← OKp.next, ← MKp.some, ← Kp.getD, ← Kp.foldl, ← Kp.foldl1, ← Kp.foldl2, ← Kp.foldl3, ← writeBytes_wf, ← wf_filter, wf_nil, ← State.setPageState_kp, ← onPage_kp]

theorem execPageLockWrite_kp (a : BitVec 26) (v : BitVec 32) (s : State)
    (h0 : Kp kb s) : OKp kb (execPageLockWrite a v s) := by
  unfold execPageLockWrite; grind (splits := 14) (gen := 60) (ematch := 60) [Option.map_eq_some_iff, Option.bind_eq_some_iff, ← Kp.upd2, ← OKp.next, ← MKp.some, ← Kp.getD, ← Kp.foldl, ← Kp.foldl1, ← Kp.foldl2, ← Kp.foldl3, ← writeBytes_wf, ← wf_filter, wf_nil, ← State.setReg_kp, ← onPage_kp]

theorem cruBreset_kp (s : State) (c : Nat)
    (h0 : Kp kb s) : Kp kb (cruBreset s c) := by
  unfold cruBreset; grind (splits := 14) (gen := 60) (ematch := 60) [Option.map_eq_some_iff, Option.bind_eq_some_iff, ← Kp.upd2, ← OKp.next, ← MKp.some, ← Kp.getD, ← Kp.foldl, ← Kp.foldl1, ← Kp.foldl2, ← Kp.foldl3, ← writeBytes_wf, ← wf_filter, wf_nil, ← State.modCore_kp, ← State.setReg_kp]

theorem sprBreset_kp (s : State) (c : Nat)
    (h0 : Kp kb s) : Kp kb (sprBreset s c) := by
  unfold sprBreset; grind (splits := 14) (gen := 60) (ematch := 60) [Option.map_eq_some_iff, Option.bind_eq_some_iff, ← Kp.upd2, ← OKp.next, ← MKp.some, ← Kp.getD, ← Kp.foldl, ← Kp.foldl1, ← Kp.foldl2, ← Kp.foldl3, ← writeBytes_wf, ← wf_filter, wf_nil, ← State.modCore_kp, ← State.modSpr_kp, ← State.setReg_kp, ← showLoops_kp]

theorem pageBreset_kp (s : State) (p : PageKind) (i : Nat)
    (h0 : Kp kb s) : Kp kb (pageBreset s p i) := by
  unfold pageBreset; grind (splits := 14) (gen := 60) (ematch := 60) [Option.map_eq_some_iff, Option.bind_eq_some_iff, ← Kp.upd2, ← OKp.next, ← MKp.some, ← Kp.getD, ← Kp.foldl, ← Kp.foldl1, ← Kp.foldl2, ← Kp.foldl3, ← writeBytes_wf, ← wf_filter, wf_nil, ← State.setFld_kp, ← State.setPageState_kp, ← cruBreset_kp, ← eraseKeys_kp, ← leavePort_kp, ← sprBreset_kp]

theorem execPageBreset_kp (a : BitVec 26) (s : State)
    (h0 : Kp kb s) : OKp kb (execPageBreset a s) := by
  unfold execPageBreset; grind (splits := 14) (gen := 60) (ematch := 60) [Option.map_eq_some_iff, Option.bind_eq_some_iff, ← Kp.upd2, ← OKp.next, ← MKp.some, ← Kp.getD, ← Kp.foldl, ← Kp.foldl1, ← Kp.foldl2, ← Kp.foldl3, ← writeBytes_wf, ← wf_filter, wf_nil, ← onPage_kp, ← pageBreset_kp]

theorem setLop_kp (s : State) (k : Nat) (x : Option LopSt)
    (h0 : Kp kb s) : Kp kb (setLop s k x) := by
  unfold setLop; grind (splits := 14) (gen := 60) (ematch := 60) [Option.map_eq_some_iff, Option.bind_eq_some_iff, ← Kp.upd2, ← OKp.next, ← MKp.some, ← Kp.getD, ← Kp.foldl, ← Kp.foldl1, ← Kp.foldl2, ← Kp.foldl3, ← writeBytes_wf, ← wf_filter, wf_nil]

theorem lopEnd_kp (s : State) (k : Nat) (st : Nat) (res : Nat)
    (h0 : Kp kb s) : Kp kb (lopEnd s k st res) := by
  unfold lopEnd; grind (splits := 14) (gen := 60) (ematch := 60) [Option.map_eq_some_iff, Option.bind_eq_some_iff, ← Kp.upd2, ← OKp.next, ← MKp.some, ← Kp.getD, ← Kp.foldl, ← Kp.foldl1, ← Kp.foldl2, ← Kp.foldl3, ← writeBytes_wf, ← wf_filter, wf_nil, ← State.setReg_kp, ← setLop_kp]

theorem lopFail_kp (s : State) (k : Nat)
    (h0 : Kp kb s) : Kp kb (lopFail s k) := by
  unfold lopFail; grind (splits := 14) (gen := 60) (ematch := 60) [Option.map_eq_some_iff, Option.bind_eq_some_iff, ← Kp.upd2, ← OKp.next, ← MKp.some, ← Kp.getD, ← Kp.foldl, ← Kp.foldl1, ← Kp.foldl2, ← Kp.foldl3, ← writeBytes_wf, ← wf_filter, wf_nil, ← lopEnd_kp, ← raise_kp]

theorem lopGo_kp (s : State) (k : Nat) (op : Nat)
    (h0 : Kp kb s) : Kp kb (lopGo s k op) := by
  unfold lopGo; grind (splits := 14) (gen := 60) (ematch := 60) [Option.map_eq_some_iff, Option.bind_eq_some_iff, ← Kp.upd2, ← OKp.next, ← MKp.some, ← Kp.getD, ← Kp.foldl, ← Kp.foldl1, ← Kp.foldl2, ← Kp.foldl3, ← writeBytes_wf, ← wf_filter, wf_nil, ← State.setFld_kp, ← State.setReg_kp, ← lopEnd_kp, ← setLop_kp]

theorem execLopCopy_kp (k : Fin 4) (s : State)
    (h0 : Kp kb s) : OKp kb (execLopCopy k s) := by
  unfold execLopCopy; grind (splits := 14) (gen := 60) (ematch := 60) [Option.map_eq_some_iff, Option.bind_eq_some_iff, ← Kp.upd2, ← OKp.next, ← MKp.some, ← Kp.getD, ← Kp.foldl, ← Kp.foldl1, ← Kp.foldl2, ← Kp.foldl3, ← writeBytes_wf, ← wf_filter, wf_nil, ← lopGo_kp]

theorem execRcopy_kp (k : Fin 4) (s : State)
    (h0 : Kp kb s) : OKp kb (execRcopy k s) := by
  unfold execRcopy; grind (splits := 14) (gen := 60) (ematch := 60) [Option.map_eq_some_iff, Option.bind_eq_some_iff, ← Kp.upd2, ← OKp.next, ← MKp.some, ← Kp.getD, ← Kp.foldl, ← Kp.foldl1, ← Kp.foldl2, ← Kp.foldl3, ← writeBytes_wf, ← wf_filter, wf_nil, ← lopGo_kp]

theorem execHbmScrub_kp (k : Fin 4) (s : State)
    (h0 : Kp kb s) : OKp kb (execHbmScrub k s) := by
  unfold execHbmScrub; grind (splits := 14) (gen := 60) (ematch := 60) [Option.map_eq_some_iff, Option.bind_eq_some_iff, ← Kp.upd2, ← OKp.next, ← MKp.some, ← Kp.getD, ← Kp.foldl, ← Kp.foldl1, ← Kp.foldl2, ← Kp.foldl3, ← writeBytes_wf, ← wf_filter, wf_nil, ← lopGo_kp]

theorem execHbmTest_kp (k : Fin 4) (s : State)
    (h0 : Kp kb s) : OKp kb (execHbmTest k s) := by
  unfold execHbmTest; grind (splits := 14) (gen := 60) (ematch := 60) [Option.map_eq_some_iff, Option.bind_eq_some_iff, ← Kp.upd2, ← OKp.next, ← MKp.some, ← Kp.getD, ← Kp.foldl, ← Kp.foldl1, ← Kp.foldl2, ← Kp.foldl3, ← writeBytes_wf, ← wf_filter, wf_nil, ← lopGo_kp]

theorem execIngFormat_kp (k : Fin 4) (s : State)
    (h0 : Kp kb s) : OKp kb (execIngFormat k s) := by
  unfold execIngFormat; grind (splits := 14) (gen := 60) (ematch := 60) [Option.map_eq_some_iff, Option.bind_eq_some_iff, ← Kp.upd2, ← OKp.next, ← MKp.some, ← Kp.getD, ← Kp.foldl, ← Kp.foldl1, ← Kp.foldl2, ← Kp.foldl3, ← writeBytes_wf, ← wf_filter, wf_nil, ← lopGo_kp]

theorem execLopAbort_kp (k : Fin 4) (s : State)
    (h0 : Kp kb s) : OKp kb (execLopAbort k s) := by
  unfold execLopAbort; grind (splits := 14) (gen := 60) (ematch := 60) [Option.map_eq_some_iff, Option.bind_eq_some_iff, ← Kp.upd2, ← OKp.next, ← MKp.some, ← Kp.getD, ← Kp.foldl, ← Kp.foldl1, ← Kp.foldl2, ← Kp.foldl3, ← writeBytes_wf, ← wf_filter, wf_nil, ← lopEnd_kp]

theorem lopIngRead_kp (s : State) (a : Nat) (n : Nat) (r : List Nat)
    (h0 : Kp kb s) : Kp kb (lopIngRead s a n r).2.2 := by
  unfold lopIngRead; grind (splits := 14) (gen := 60) (ematch := 60) [Option.map_eq_some_iff, Option.bind_eq_some_iff, ← Kp.upd2, ← OKp.next, ← MKp.some, ← Kp.getD, ← Kp.foldl, ← Kp.foldl1, ← Kp.foldl2, ← Kp.foldl3, ← writeBytes_wf, ← wf_filter, wf_nil, ← PRun.fail_kp, ← State.bump_kp, ← decodePage_kp, ← mapAccess_kp, ← relocRead_kp]

theorem lopNote_kp (s : State) (w : Owner) (p : Place) (write : Bool) (a : Nat) (n : Nat)
    (h0 : Kp kb s) : Kp kb (lopNote s w p write a n) := by
  unfold lopNote; grind (splits := 14) (gen := 60) (ematch := 60) [Option.map_eq_some_iff, Option.bind_eq_some_iff, ← Kp.upd2, ← OKp.next, ← MKp.some, ← Kp.getD, ← Kp.foldl, ← Kp.foldl1, ← Kp.foldl2, ← Kp.foldl3, ← writeBytes_wf, ← wf_filter, wf_nil, ← otherAccess_kp]

theorem lopSource_kp (s : State) (p : Place) (a : Nat) (n : Nat)
    (h0 : Kp kb s) : Kp kb (lopSource s p a n).2.2 := by
  unfold lopSource; grind (splits := 14) (gen := 60) (ematch := 60) [Option.map_eq_some_iff, Option.bind_eq_some_iff, ← Kp.upd2, ← OKp.next, ← MKp.some, ← Kp.getD, ← Kp.foldl, ← Kp.foldl1, ← Kp.foldl2, ← Kp.foldl3, ← writeBytes_wf, ← wf_filter, wf_nil, allocEntry_kp, ← fillEntry_kp]

theorem lopRead_kp (s : State) (w : Place → Owner) (kind : Nat) (z0 : List (Nat × Nat)) (z1 : List (List Nat))
    (h0 : Kp kb s) : Kp kb (lopRead s w kind z0 z1).2.2 := by
  fun_induction lopRead s w kind z0 z1 <;> grind (splits := 14) (gen := 60) (ematch := 60) [Option.map_eq_some_iff, Option.bind_eq_some_iff, ← Kp.upd2, ← OKp.next, ← MKp.some, ← Kp.getD, ← Kp.foldl, ← Kp.foldl1, ← Kp.foldl2, ← Kp.foldl3, ← writeBytes_wf, ← wf_filter, wf_nil, ← lopIngRead_kp, ← lopNote_kp, ← lopSource_kp, ← readChunk_kp]

theorem lopWrite_kp (s : State) (w : Place → Owner) (k : Nat) (kind : Nat) (z0 : List (Nat × Nat)) (z1 : List Byte)
    (h0 : Kp kb s) : Kp kb (lopWrite s w k kind z0 z1) := by
  fun_induction lopWrite s w k kind z0 z1 <;> grind (splits := 14) (gen := 60) (ematch := 60) [Option.map_eq_some_iff, Option.bind_eq_some_iff, ← Kp.upd2, ← OKp.next, ← MKp.some, ← Kp.getD, ← Kp.foldl, ← Kp.foldl1, ← Kp.foldl2, ← Kp.foldl3, ← writeBytes_wf, ← wf_filter, wf_nil, ← ingWrite_kp, ← lopNote_kp, ← poke_kp]

theorem lopAdvance_kp (s : State) (k : Nat) (x : LopSt) (n : Nat)
    (h0 : Kp kb s) : Kp kb (lopAdvance s k x n) := by
  unfold lopAdvance; grind (splits := 14) (gen := 60) (ematch := 60) [Option.map_eq_some_iff, Option.bind_eq_some_iff, ← Kp.upd2, ← OKp.next, ← MKp.some, ← Kp.getD, ← Kp.foldl, ← Kp.foldl1, ← Kp.foldl2, ← Kp.foldl3, ← writeBytes_wf, ← wf_filter, wf_nil, ← State.setReg_kp, ← lopEnd_kp]

theorem copyStep_kp (s : State) (k : Nat) (x : LopSt) (r : List (List Nat))
    (h0 : Kp kb s) : Kp kb (copyStep s k x r) := by
  unfold copyStep; grind (splits := 14) (gen := 60) (ematch := 60) [Option.map_eq_some_iff, Option.bind_eq_some_iff, ← Kp.upd2, ← OKp.next, ← MKp.some, ← Kp.getD, ← Kp.foldl, ← Kp.foldl1, ← Kp.foldl2, ← Kp.foldl3, ← writeBytes_wf, ← wf_filter, wf_nil, ← holdWrite_kp, ← lopAdvance_kp, ← lopFail_kp, ← lopRead_kp, ← lopWrite_kp]

theorem rcopyStep_kp (s : State) (k : Nat) (x : LopSt)
    (h0 : Kp kb s) : Kp kb (rcopyStep s k x) := by
  unfold rcopyStep; grind (splits := 14) (gen := 60) (ematch := 60) [Option.map_eq_some_iff, Option.bind_eq_some_iff, ← Kp.upd2, ← OKp.next, ← MKp.some, ← Kp.getD, ← Kp.foldl, ← Kp.foldl1, ← Kp.foldl2, ← Kp.foldl3, ← writeBytes_wf, ← wf_filter, wf_nil, ← lopAdvance_kp, ← lopFail_kp, ← lopWrite_kp, ← sendRead_kp, ← setLop_kp]

theorem hbmStep_kp (s : State) (k : Nat) (x : LopSt) (errs : Nat)
    (h0 : Kp kb s) : Kp kb (hbmStep s k x errs) := by
  unfold hbmStep; grind (splits := 14) (gen := 60) (ematch := 60) [Option.map_eq_some_iff, Option.bind_eq_some_iff, ← Kp.upd2, ← OKp.next, ← MKp.some, ← Kp.getD, ← Kp.foldl, ← Kp.foldl1, ← Kp.foldl2, ← Kp.foldl3, ← writeBytes_wf, ← wf_filter, wf_nil, ← State.setReg_kp, ← hbmStatus_kp, ← hbmWrite_kp, ← lopAdvance_kp, ← lopNote_kp]

theorem formatStore_kp (s : State) (sizes : List Nat)
    (h0 : Kp kb s) : Kp kb (formatStore s sizes) := by
  unfold formatStore; grind (splits := 14) (gen := 60) (ematch := 60) [Option.map_eq_some_iff, Option.bind_eq_some_iff, ← Kp.upd2, ← OKp.next, ← MKp.some, ← Kp.getD, ← Kp.foldl, ← Kp.foldl1, ← Kp.foldl2, ← Kp.foldl3, ← writeBytes_wf, ← wf_filter, wf_nil, ← State.setReg_kp, ← dropEntries_kp, ← eraseBlk_kp, ← wbRecompute_kp]

theorem formatStep_kp (s : State) (k : Nat) (x : LopSt) (r : List (List Nat))
    (h0 : Kp kb s) : Kp kb (formatStep s k x r) := by
  unfold formatStep; grind (splits := 14) (gen := 60) (ematch := 60) [Option.map_eq_some_iff, Option.bind_eq_some_iff, ← Kp.upd2, ← OKp.next, ← MKp.some, ← Kp.getD, ← Kp.foldl, ← Kp.foldl1, ← Kp.foldl2, ← Kp.foldl3, ← writeBytes_wf, ← wf_filter, wf_nil, ← formatStore_kp, ← lopAdvance_kp, ← lopEnd_kp, ← lopFail_kp, ← lopRead_kp]

theorem lopSettle_kp (z0 : Nat) (z1 : State) (z2 : Nat)
    (h0 : Kp kb z1) : Kp kb (lopSettle z0 z1 z2) := by
  fun_induction lopSettle z0 z1 z2 <;> grind (splits := 14) (gen := 60) (ematch := 60) [Option.map_eq_some_iff, Option.bind_eq_some_iff, ← Kp.upd2, ← OKp.next, ← MKp.some, ← Kp.getD, ← Kp.foldl, ← Kp.foldl1, ← Kp.foldl2, ← Kp.foldl3, ← writeBytes_wf, ← wf_filter, wf_nil, ← State.upTo_kp, ← serveOpen_kp]

theorem execLopStep_kp (k : Fin 4) (r : List (List Nat)) (errs : Nat) (s : State)
    (h0 : Kp kb s) : OKp kb (execLopStep k r errs s) := by
  unfold execLopStep; grind (splits := 14) (gen := 60) (ematch := 60) [Option.map_eq_some_iff, Option.bind_eq_some_iff, ← Kp.upd2, ← OKp.next, ← MKp.some, ← Kp.getD, ← Kp.foldl, ← Kp.foldl1, ← Kp.foldl2, ← Kp.foldl3, ← writeBytes_wf, ← wf_filter, wf_nil, ← copyStep_kp, ← formatStep_kp, ← hbmStep_kp, ← lopSettle_kp, ← rcopyStep_kp]

theorem setDrain_kp (s : State) (d : Nat)
    (h0 : Kp kb s) : Kp kb (setDrain s d) := by
  unfold setDrain; grind (splits := 14) (gen := 60) (ematch := 60) [Option.map_eq_some_iff, Option.bind_eq_some_iff, ← Kp.upd2, ← OKp.next, ← MKp.some, ← Kp.getD, ← Kp.foldl, ← Kp.foldl1, ← Kp.foldl2, ← Kp.foldl3, ← writeBytes_wf, ← wf_filter, wf_nil, ← State.setFld_kp, ← showRemove_kp]

theorem drainReq_kp (s : State)
    (h0 : Kp kb s) : Kp kb (drainReq s) := by
  unfold drainReq; grind (splits := 14) (gen := 60) (ematch := 60) [Option.map_eq_some_iff, Option.bind_eq_some_iff, ← Kp.upd2, ← OKp.next, ← MKp.some, ← Kp.getD, ← Kp.foldl, ← Kp.foldl1, ← Kp.foldl2, ← Kp.foldl3, ← writeBytes_wf, ← wf_filter, wf_nil, ← raise_kp, ← setDrain_kp]

theorem drainCancel_kp (s : State)
    (h0 : Kp kb s) : Kp kb (drainCancel s) := by
  unfold drainCancel; grind (splits := 14) (gen := 60) (ematch := 60) [Option.map_eq_some_iff, Option.bind_eq_some_iff, ← Kp.upd2, ← OKp.next, ← MKp.some, ← Kp.getD, ← Kp.foldl, ← Kp.foldl1, ← Kp.foldl2, ← Kp.foldl3, ← writeBytes_wf, ← wf_filter, wf_nil, ← setDrain_kp]

theorem drainGo_kp (s : State)
    (h0 : Kp kb s) : Kp kb (drainGo s) := by
  unfold drainGo; grind (splits := 14) (gen := 60) (ematch := 60) [Option.map_eq_some_iff, Option.bind_eq_some_iff, ← Kp.upd2, ← OKp.next, ← MKp.some, ← Kp.getD, ← Kp.foldl, ← Kp.foldl1, ← Kp.foldl2, ← Kp.foldl3, ← writeBytes_wf, ← wf_filter, wf_nil, ← State.setReg_kp, ← execSprCtrlRun_kp, ← pageQuiesce_kp, ← setDrain_kp, ← settled_kp]

theorem execDrainReq_kp (s : State)
    (h0 : Kp kb s) : OKp kb (execDrainReq s) := by
  unfold execDrainReq; grind (splits := 14) (gen := 60) (ematch := 60) [Option.map_eq_some_iff, Option.bind_eq_some_iff, ← Kp.upd2, ← OKp.next, ← MKp.some, ← Kp.getD, ← Kp.foldl, ← Kp.foldl1, ← Kp.foldl2, ← Kp.foldl3, ← writeBytes_wf, ← wf_filter, wf_nil, ← drainReq_kp]

theorem execDrainCancel_kp (s : State)
    (h0 : Kp kb s) : OKp kb (execDrainCancel s) := by
  unfold execDrainCancel; grind (splits := 14) (gen := 60) (ematch := 60) [Option.map_eq_some_iff, Option.bind_eq_some_iff, ← Kp.upd2, ← OKp.next, ← MKp.some, ← Kp.getD, ← Kp.foldl, ← Kp.foldl1, ← Kp.foldl2, ← Kp.foldl3, ← writeBytes_wf, ← wf_filter, wf_nil, ← drainCancel_kp]

theorem execDrainGo_kp (s : State)
    (h0 : Kp kb s) : OKp kb (execDrainGo s) := by
  unfold execDrainGo; grind (splits := 14) (gen := 60) (ematch := 60) [Option.map_eq_some_iff, Option.bind_eq_some_iff, ← Kp.upd2, ← OKp.next, ← MKp.some, ← Kp.getD, ← Kp.foldl, ← Kp.foldl1, ← Kp.foldl2, ← Kp.foldl3, ← writeBytes_wf, ← wf_filter, wf_nil, ← drainGo_kp]

theorem quenchPress_kp (s : State)
    (h0 : Kp kb s) : Kp kb (quenchPress s) := by
  unfold quenchPress; grind (splits := 14) (gen := 60) (ematch := 60) [Option.map_eq_some_iff, Option.bind_eq_some_iff, ← Kp.upd2, ← OKp.next, ← MKp.some, ← Kp.getD, ← Kp.foldl, ← Kp.foldl1, ← Kp.foldl2, ← Kp.foldl3, ← writeBytes_wf, ← wf_filter, wf_nil, ← setDrain_kp]

theorem takePress_kp (s : State)
    (h0 : Kp kb s) : Kp kb (takePress s) := by
  unfold takePress; grind (splits := 14) (gen := 60) (ematch := 60) [Option.map_eq_some_iff, Option.bind_eq_some_iff, ← Kp.upd2, ← OKp.next, ← MKp.some, ← Kp.getD, ← Kp.foldl, ← Kp.foldl1, ← Kp.foldl2, ← Kp.foldl3, ← writeBytes_wf, ← wf_filter, wf_nil, ← State.bump_kp, ← drainCancel_kp, ← drainReq_kp, ← quenchPress_kp]

theorem takeLongPress_kp (s : State)
    (h0 : Kp kb s) : Kp kb (takeLongPress s) := by
  unfold takeLongPress; grind (splits := 14) (gen := 60) (ematch := 60) [Option.map_eq_some_iff, Option.bind_eq_some_iff, ← Kp.upd2, ← OKp.next, ← MKp.some, ← Kp.getD, ← Kp.foldl, ← Kp.foldl1, ← Kp.foldl2, ← Kp.foldl3, ← writeBytes_wf, ← wf_filter, wf_nil, ← State.bump_kp, ← State.setFld_kp, ← drainGo_kp, ← quenchPress_kp, ← raise_kp]

theorem pressed_kp (s : State) (long : Bool)
    (h0 : Kp kb s) : Kp kb (pressed s long) := by
  unfold pressed; grind (splits := 14) (gen := 60) (ematch := 60) [Option.map_eq_some_iff, Option.bind_eq_some_iff, ← Kp.upd2, ← OKp.next, ← MKp.some, ← Kp.getD, ← Kp.foldl, ← Kp.foldl1, ← Kp.foldl2, ← Kp.foldl3, ← writeBytes_wf, ← wf_filter, wf_nil, ← takeLongPress_kp, ← takePress_kp]

theorem takeHeld_kp (s : State)
    (h0 : Kp kb s) : Kp kb (takeHeld s) := by
  unfold takeHeld; grind (splits := 14) (gen := 60) (ematch := 60) [Option.map_eq_some_iff, Option.bind_eq_some_iff, ← Kp.upd2, ← OKp.next, ← MKp.some, ← Kp.getD, ← Kp.foldl, ← Kp.foldl1, ← Kp.foldl2, ← Kp.foldl3, ← writeBytes_wf, ← wf_filter, wf_nil, ← takeLongPress_kp, ← takePress_kp]

theorem execAttnPress_kp (s : State)
    (h0 : Kp kb s) : OKp kb (execAttnPress s) := by
  unfold execAttnPress; grind (splits := 14) (gen := 60) (ematch := 60) [Option.map_eq_some_iff, Option.bind_eq_some_iff, ← Kp.upd2, ← OKp.next, ← MKp.some, ← Kp.getD, ← Kp.foldl, ← Kp.foldl1, ← Kp.foldl2, ← Kp.foldl3, ← writeBytes_wf, ← wf_filter, wf_nil, ← State.setFld_kp, ← pressed_kp]

theorem execAttnLongPress_kp (s : State)
    (h0 : Kp kb s) : OKp kb (execAttnLongPress s) := by
  unfold execAttnLongPress; grind (splits := 14) (gen := 60) (ematch := 60) [Option.map_eq_some_iff, Option.bind_eq_some_iff, ← Kp.upd2, ← OKp.next, ← MKp.some, ← Kp.getD, ← Kp.foldl, ← Kp.foldl1, ← Kp.foldl2, ← Kp.foldl3, ← writeBytes_wf, ← wf_filter, wf_nil, ← State.setFld_kp, ← pressed_kp]

theorem execDrainRenotify_kp (s : State)
    (h0 : Kp kb s) : OKp kb (execDrainRenotify s) := by
  unfold execDrainRenotify; grind (splits := 14) (gen := 60) (ematch := 60) [Option.map_eq_some_iff, Option.bind_eq_some_iff, ← Kp.upd2, ← OKp.next, ← MKp.some, ← Kp.getD, ← Kp.foldl, ← Kp.foldl1, ← Kp.foldl2, ← Kp.foldl3, ← writeBytes_wf, ← wf_filter, wf_nil, ← State.upTo_kp, ← sendEvent_kp]

theorem execDrainSafe_kp (s : State)
    (h0 : Kp kb s) : OKp kb (execDrainSafe s) := by
  unfold execDrainSafe; grind (splits := 14) (gen := 60) (ematch := 60) [Option.map_eq_some_iff, Option.bind_eq_some_iff, ← Kp.upd2, ← OKp.next, ← MKp.some, ← Kp.getD, ← Kp.foldl, ← Kp.foldl1, ← Kp.foldl2, ← Kp.foldl3, ← writeBytes_wf, ← wf_filter, wf_nil, ← flushTail_kp, ← jnlSnapshot_kp, ← lifeSave_kp, ← setDrain_kp]

theorem execDrainLimitExpire_kp (s : State)
    (h0 : Kp kb s) : OKp kb (execDrainLimitExpire s) := by
  unfold execDrainLimitExpire; grind (splits := 14) (gen := 60) (ematch := 60) [Option.map_eq_some_iff, Option.bind_eq_some_iff, ← Kp.upd2, ← OKp.next, ← MKp.some, ← Kp.getD, ← Kp.foldl, ← Kp.foldl1, ← Kp.foldl2, ← Kp.foldl3, ← writeBytes_wf, ← wf_filter, wf_nil, ← State.upTo_kp, ← quench_kp, ← raise_kp]

theorem modJtag_kp (s : State) (f : JtagSt → JtagSt)
    (h0 : Kp kb s) : Kp kb (modJtag s f) := by
  unfold modJtag; grind (splits := 14) (gen := 60) (ematch := 60) [Option.map_eq_some_iff, Option.bind_eq_some_iff, ← Kp.upd2, ← OKp.next, ← MKp.some, ← Kp.getD, ← Kp.foldl, ← Kp.foldl1, ← Kp.foldl2, ← Kp.foldl3, ← writeBytes_wf, ← wf_filter, wf_nil]

theorem jtagBypass_kp (s : State)
    (h0 : Kp kb s) : Kp kb (jtagBypass s) := by
  unfold jtagBypass; grind (splits := 14) (gen := 60) (ematch := 60) [Option.map_eq_some_iff, Option.bind_eq_some_iff, ← Kp.upd2, ← OKp.next, ← MKp.some, ← Kp.getD, ← Kp.foldl, ← Kp.foldl1, ← Kp.foldl2, ← Kp.foldl3, ← writeBytes_wf, ← wf_filter, wf_nil, ← drive_kp, ← modJtag_kp]

theorem execBypass_kp (s : State)
    (h0 : Kp kb s) : OKp kb (execBypass s) := by
  unfold execBypass; grind (splits := 14) (gen := 60) (ematch := 60) [Option.map_eq_some_iff, Option.bind_eq_some_iff, ← Kp.upd2, ← OKp.next, ← MKp.some, ← Kp.getD, ← Kp.foldl, ← Kp.foldl1, ← Kp.foldl2, ← Kp.foldl3, ← writeBytes_wf, ← wf_filter, wf_nil, ← jtagBypass_kp]

theorem execIdcode_kp (s : State)
    (h0 : Kp kb s) : OKp kb (execIdcode s) := by
  unfold execIdcode; grind (splits := 14) (gen := 60) (ematch := 60) [Option.map_eq_some_iff, Option.bind_eq_some_iff, ← Kp.upd2, ← OKp.next, ← MKp.some, ← Kp.getD, ← Kp.foldl, ← Kp.foldl1, ← Kp.foldl2, ← Kp.foldl3, ← writeBytes_wf, ← wf_filter, wf_nil, ← drive_kp, ← modJtag_kp]

theorem execSamplePreload_kp (lands : BitVec 400) (pre : BitVec 400) (s : State)
    (h0 : Kp kb s) : OKp kb (execSamplePreload lands pre s) := by
  unfold execSamplePreload; grind (splits := 14) (gen := 60) (ematch := 60) [Option.map_eq_some_iff, Option.bind_eq_some_iff, ← Kp.upd2, ← OKp.next, ← MKp.some, ← Kp.getD, ← Kp.foldl, ← Kp.foldl1, ← Kp.foldl2, ← Kp.foldl3, ← writeBytes_wf, ← wf_filter, wf_nil, ← drive_kp, ← modJtag_kp]

theorem execExtest_kp (lands : BitVec 400) (s : State)
    (h0 : Kp kb s) : OKp kb (execExtest lands s) := by
  unfold execExtest; grind (splits := 14) (gen := 60) (ematch := 60) [Option.map_eq_some_iff, Option.bind_eq_some_iff, ← Kp.upd2, ← OKp.next, ← MKp.some, ← Kp.getD, ← Kp.foldl, ← Kp.foldl1, ← Kp.foldl2, ← Kp.foldl3, ← writeBytes_wf, ← wf_filter, wf_nil, ← drive_kp, ← jtagBypass_kp, ← modJtag_kp]

theorem execCcDebug_kp (halt : BitVec 4) (s : State)
    (h0 : Kp kb s) : OKp kb (execCcDebug halt s) := by
  unfold execCcDebug; grind (splits := 14) (gen := 60) (ematch := 60) [Option.map_eq_some_iff, Option.bind_eq_some_iff, ← Kp.upd2, ← OKp.next, ← MKp.some, ← Kp.getD, ← Kp.foldl, ← Kp.foldl1, ← Kp.foldl2, ← Kp.foldl3, ← writeBytes_wf, ← wf_filter, wf_nil, ← State.draw_kp, ← State.setFld_kp, ← drive_kp, ← jtagBypass_kp, ← modJtag_kp]

end Sys2Proof.Machine
end

