-- ==== Sys2Proof/Laws/Keep11.lean ====
section
/-!
SUPPORT. Laws/Keep11.lean: each function of Machine/Reset, RegWrite
that answers a state keeps the queue, the fuses and the canonical form.
-/
namespace Sys2Proof.Machine

open Sys2Proof

variable {kb : State}

/-! ## Machine/Reset.lean -/

theorem eachPage_kp (s : State) (ps : List PageKind) (f : State → PageKind → Nat → State)
    (h0 : Kp kb s) (h1 : ∀ y0 y1 y2, Kp kb y0 → Kp kb (f y0 y1 y2)) : Kp kb (eachPage s ps f) := by
  unfold eachPage; grind (splits := 14) (gen := 60) (ematch := 60) [Option.map_eq_some_iff, Option.bind_eq_some_iff, ← Kp.upd2, ← OKp.next, ← MKp.some, ← Kp.getD, ← Kp.foldl, ← Kp.foldl1, ← Kp.foldl2, ← Kp.foldl3, ← writeBytes_wf, ← wf_filter, wf_nil]

theorem fuseShadows_kp (s : State)
    (h0 : Kp kb s) : Kp kb (fuseShadows s) := by
  unfold fuseShadows; grind (splits := 14) (gen := 60) (ematch := 60) [Option.map_eq_some_iff, Option.bind_eq_some_iff, ← Kp.upd2, ← OKp.next, ← MKp.some, ← Kp.getD, ← Kp.foldl, ← Kp.foldl1, ← Kp.foldl2, ← Kp.foldl3, ← writeBytes_wf, ← wf_filter, wf_nil, ← State.setPageState_kp, ← eachPage_kp]

theorem enablePages_kp (s : State) (ps : List PageKind)
    (h0 : Kp kb s) : Kp kb (enablePages s ps) := by
  unfold enablePages; grind (splits := 14) (gen := 60) (ematch := 60) [Option.map_eq_some_iff, Option.bind_eq_some_iff, ← Kp.upd2, ← OKp.next, ← MKp.some, ← Kp.getD, ← Kp.foldl, ← Kp.foldl1, ← Kp.foldl2, ← Kp.foldl3, ← writeBytes_wf, ← wf_filter, wf_nil, ← eachPage_kp, ← pageEnable_kp]

theorem clocksOn_kp (s : State)
    (h0 : Kp kb s) : Kp kb (clocksOn s) := by
  unfold clocksOn; grind (splits := 14) (gen := 60) (ematch := 60) [Option.map_eq_some_iff, Option.bind_eq_some_iff, ← Kp.upd2, ← OKp.next, ← MKp.some, ← Kp.getD, ← Kp.foldl, ← Kp.foldl1, ← Kp.foldl2, ← Kp.foldl3, ← writeBytes_wf, ← wf_filter, wf_nil, ← State.setReg_kp]

theorem bootStep1_kp (e : BootEnv) (s : State)
    (h0 : Kp kb s) : Kp kb (bootStep1 e s).1 := by
  unfold bootStep1; grind (splits := 14) (gen := 60) (ematch := 60) [Option.map_eq_some_iff, Option.bind_eq_some_iff, ← Kp.upd2, ← OKp.next, ← MKp.some, ← Kp.getD, ← Kp.foldl, ← Kp.foldl1, ← Kp.foldl2, ← Kp.foldl3, ← writeBytes_wf, ← wf_filter, wf_nil, ← clocksOn_kp, ← modPwr_kp, ← powerLost_kp, ← railsStart_kp]

theorem bridgeTest_kp (s : State) (fail : Nat × Nat)
    (h0 : Kp kb s) : Kp kb (bridgeTest s fail) := by
  unfold bridgeTest; grind (splits := 14) (gen := 60) (ematch := 60) [Option.map_eq_some_iff, Option.bind_eq_some_iff, ← Kp.upd2, ← OKp.next, ← MKp.some, ← Kp.getD, ← Kp.foldl, ← Kp.foldl1, ← Kp.foldl2, ← Kp.foldl3, ← writeBytes_wf, ← wf_filter, wf_nil, ← PRun.fail_kp, ← State.setFld_kp, ← raise_kp]

theorem bootStep2_kp (e : BootEnv) (s : State)
    (h0 : Kp kb s) : Kp kb (bootStep2 e s).1 := by
  unfold bootStep2; grind (splits := 14) (gen := 60) (ematch := 60) [Option.map_eq_some_iff, Option.bind_eq_some_iff, ← Kp.upd2, ← OKp.next, ← MKp.some, ← Kp.getD, ← Kp.foldl, ← Kp.foldl1, ← Kp.foldl2, ← Kp.foldl3, ← writeBytes_wf, ← wf_filter, wf_nil, ← State.setFld_kp, ← bridgeTest_kp, ← clocksOn_kp, ← enablePages_kp, ← fuseShadows_kp, ← wdogStart_kp]

theorem trainChannel_kp (e : BootEnv) (s : State) (ch : Nat)
    (h0 : Kp kb s) : Kp kb (trainChannel e s ch) := by
  unfold trainChannel; grind (splits := 14) (gen := 60) (ematch := 60) [Option.map_eq_some_iff, Option.bind_eq_some_iff, ← Kp.upd2, ← OKp.next, ← MKp.some, ← Kp.getD, ← Kp.foldl, ← Kp.foldl1, ← Kp.foldl2, ← Kp.foldl3, ← writeBytes_wf, ← wf_filter, wf_nil, ← State.setFld_kp, ← State.setReg_kp, ← failTarget_kp, ← raise_kp]

theorem bootStep3_kp (e : BootEnv) (s : State)
    (h0 : Kp kb s) : Kp kb (bootStep3 e s).1 := by
  unfold bootStep3; grind (splits := 14) (gen := 60) (ematch := 60) [Option.map_eq_some_iff, Option.bind_eq_some_iff, ← Kp.upd2, ← OKp.next, ← MKp.some, ← Kp.getD, ← Kp.foldl, ← Kp.foldl1, ← Kp.foldl2, ← Kp.foldl3, ← writeBytes_wf, ← wf_filter, wf_nil, ← State.setFld_kp, ← State.setReg_kp, ← enablePages_kp, ← trainChannel_kp]

theorem trainPort_kp (e : BootEnv) (s : State) (p : Nat)
    (h0 : Kp kb s) : Kp kb (trainPort e s p) := by
  unfold trainPort; grind (splits := 14) (gen := 60) (ematch := 60) [Option.map_eq_some_iff, Option.bind_eq_some_iff, ← Kp.upd2, ← OKp.next, ← MKp.some, ← Kp.getD, ← Kp.foldl, ← Kp.foldl1, ← Kp.foldl2, ← Kp.foldl3, ← writeBytes_wf, ← wf_filter, wf_nil, ← State.setFld_kp, ← State.setReg_kp, ← freshLink_kp, ← setLanes_kp]

theorem bootStep8_kp (e : BootEnv) (s : State)
    (h0 : Kp kb s) : Kp kb (bootStep8 e s).1 := by
  unfold bootStep8; grind (splits := 14) (gen := 60) (ematch := 60) [Option.map_eq_some_iff, Option.bind_eq_some_iff, ← Kp.upd2, ← OKp.next, ← MKp.some, ← Kp.getD, ← Kp.foldl, ← Kp.foldl1, ← Kp.foldl2, ← Kp.foldl3, ← writeBytes_wf, ← wf_filter, wf_nil, ← enablePages_kp, ← trainPort_kp]

theorem linkPort_kp (e : BootEnv) (s : State) (p : Nat)
    (h0 : Kp kb s) : Kp kb (linkPort e s p) := by
  unfold linkPort; grind (splits := 14) (gen := 60) (ematch := 60) [Option.map_eq_some_iff, Option.bind_eq_some_iff, ← Kp.upd2, ← OKp.next, ← MKp.some, ← Kp.getD, ← Kp.foldl, ← Kp.foldl1, ← Kp.foldl2, ← Kp.foldl3, ← writeBytes_wf, ← wf_filter, wf_nil, ← State.drawBytes_kp, ← installKeys_kp, ← linkFailed_kp]

theorem bootStep9_kp (e : BootEnv) (s : State)
    (h0 : Kp kb s) : Kp kb (bootStep9 e s).1 := by
  unfold bootStep9; grind (splits := 14) (gen := 60) (ematch := 60) [Option.map_eq_some_iff, Option.bind_eq_some_iff, ← Kp.upd2, ← OKp.next, ← MKp.some, ← Kp.getD, ← Kp.foldl, ← Kp.foldl1, ← Kp.foldl2, ← Kp.foldl3, ← writeBytes_wf, ← wf_filter, wf_nil, ← jnlModule_kp, ← linkPort_kp]

theorem loadRecord_kp (s : State) (absent : Bool)
    (h0 : Kp kb s) : Kp kb (loadRecord s absent) := by
  unfold loadRecord; grind (splits := 14) (gen := 60) (ematch := 60) [Option.map_eq_some_iff, Option.bind_eq_some_iff, ← Kp.upd2, ← OKp.next, ← MKp.some, ← Kp.getD, ← Kp.foldl, ← Kp.foldl1, ← Kp.foldl2, ← Kp.foldl3, ← writeBytes_wf, ← wf_filter, wf_nil, ← modTru_kp, ← showOwner_kp]

theorem recoverModules_kp (e : BootEnv) (s : State) (want : List Nat)
    (h0 : Kp kb s) : Kp kb (recoverModules e s want) := by
  unfold recoverModules; grind (splits := 14) (gen := 60) (ematch := 60) [Option.map_eq_some_iff, Option.bind_eq_some_iff, ← Kp.upd2, ← OKp.next, ← MKp.some, ← Kp.getD, ← Kp.foldl, ← Kp.foldl1, ← Kp.foldl2, ← Kp.foldl3, ← writeBytes_wf, ← wf_filter, wf_nil, ← State.setFld_kp, ← forceMod_kp, programModule_kp, ← raise_kp]

theorem recoveryBoot_kp (e : BootEnv) (s : State) (want : List Nat)
    (h0 : Kp kb s) : Kp kb (recoveryBoot e s want) := by
  unfold recoveryBoot; grind (splits := 14) (gen := 60) (ematch := 60) [Option.map_eq_some_iff, Option.bind_eq_some_iff, ← Kp.upd2, ← OKp.next, ← MKp.some, ← Kp.getD, ← Kp.foldl, ← Kp.foldl1, ← Kp.foldl2, ← Kp.foldl3, ← writeBytes_wf, ← wf_filter, wf_nil, ← State.setFld_kp, ← bootStep8_kp, ← raise_kp, ← recoverModules_kp]

theorem bootStep4_kp (e : BootEnv) (noArea3 : Bool) (s : State)
    (h0 : Kp kb s) : Kp kb (bootStep4 e noArea3 s).1 := by
  unfold bootStep4
  extract_lets absent s1 need here good s2 s3 want s4
  have k1 : Kp kb s1 := loadRecord_kp _ _ h0
  have k2 : Kp kb s2 := Kp.foldl _ (fun s _ h => verifyFailed_kp _ h) _ _ k1
  have k3 : Kp kb s3 := Kp.foldl _ (fun s m h => forceMod_kp _ _ h) _ _ k2
  have k4 : Kp kb s4 := Kp.ite k3 (recoveryBoot_kp _ _ _ k3)
  split
  · exact State.setFld_kp _ _ _ _ _ (State.setFld_kp _ _ _ _ _ k4)
  · show Kp kb (raise .stw 0 12 s4)
    exact raise_kp _ _ _ _ k4

theorem bootReplay_kp (e : BootEnv) (s : State)
    (h0 : Kp kb s) : Kp kb (bootReplay e s) := by
  unfold bootReplay; grind (splits := 14) (gen := 60) (ematch := 60) [Option.map_eq_some_iff, Option.bind_eq_some_iff, ← Kp.upd2, ← OKp.next, ← MKp.some, ← Kp.getD, ← Kp.foldl, ← Kp.foldl1, ← Kp.foldl2, ← Kp.foldl3, ← writeBytes_wf, ← wf_filter, wf_nil, ← State.setFld_kp, ← jnlAppend_kp, ← jnlReplay_kp, ← jnlRetire_kp, ← lifeAdd_kp, ← raise_kp, ← setTailMax_kp]

theorem bootLife_kp (e : BootEnv) (cold : Bool) (s : State)
    (h0 : Kp kb s) : Kp kb (bootLife e cold s) := by
  unfold bootLife; grind (splits := 14) (gen := 60) (ematch := 60) [Option.map_eq_some_iff, Option.bind_eq_some_iff, ← Kp.upd2, ← OKp.next, ← MKp.some, ← Kp.getD, ← Kp.foldl, ← Kp.foldl1, ← Kp.foldl2, ← Kp.foldl3, ← writeBytes_wf, ← wf_filter, wf_nil, ← State.setReg_kp, ← lifeAdd_kp, ← lifeLoad_kp, ← wbRecompute_kp]

theorem bootCal_kp (e : BootEnv) (calBad : Bool) (s : State)
    (h0 : Kp kb s) : Kp kb (bootCal e calBad s) := by
  unfold bootCal; grind (splits := 14) (gen := 60) (ematch := 60) [Option.map_eq_some_iff, Option.bind_eq_some_iff, ← Kp.upd2, ← OKp.next, ← MKp.some, ← Kp.getD, ← Kp.foldl, ← Kp.foldl1, ← Kp.foldl2, ← Kp.foldl3, ← writeBytes_wf, ← wf_filter, wf_nil, ← calLoad_kp, ← modCal_kp]

theorem bootFence_kp (cold : Bool) (s : State)
    (h0 : Kp kb s) : Kp kb (bootFence cold s) := by
  unfold bootFence; grind (splits := 14) (gen := 60) (ematch := 60) [Option.map_eq_some_iff, Option.bind_eq_some_iff, ← Kp.upd2, ← OKp.next, ← MKp.some, ← Kp.getD, ← Kp.foldl, ← Kp.foldl1, ← Kp.foldl2, ← Kp.foldl3, ← writeBytes_wf, ← wf_filter, wf_nil, ← State.setFld_kp]

theorem bootProfile_kp (s : State)
    (h0 : Kp kb s) : Kp kb (bootProfile s) := by
  unfold bootProfile; grind (splits := 14) (gen := 60) (ematch := 60) [Option.map_eq_some_iff, Option.bind_eq_some_iff, ← Kp.upd2, ← OKp.next, ← MKp.some, ← Kp.getD, ← Kp.foldl, ← Kp.foldl1, ← Kp.foldl2, ← Kp.foldl3, ← writeBytes_wf, ← wf_filter, wf_nil, ← State.setFld_kp, ← State.setReg_kp]

theorem bootStep5_kp (e : BootEnv) (cold : Bool) (calBad : Bool) (s : State)
    (h0 : Kp kb s) : Kp kb (bootStep5 e cold calBad s).1 := by
  unfold bootStep5; grind (splits := 14) (gen := 60) (ematch := 60) [Option.map_eq_some_iff, Option.bind_eq_some_iff, ← Kp.upd2, ← OKp.next, ← MKp.some, ← Kp.getD, ← Kp.foldl, ← Kp.foldl1, ← Kp.foldl2, ← Kp.foldl3, ← writeBytes_wf, ← wf_filter, wf_nil, ← bootCal_kp, ← bootFence_kp, ← bootLife_kp, ← bootProfile_kp, ← bootReplay_kp, ← enablePages_kp, ← jnlSnapshot_kp, ← riserReset_kp]

theorem trainStack_kp (e : BootEnv) (s : State) (k : Nat)
    (h0 : Kp kb s) : Kp kb (trainStack e s k) := by
  unfold trainStack; grind (splits := 14) (gen := 60) (ematch := 60) [Option.map_eq_some_iff, Option.bind_eq_some_iff, ← Kp.upd2, ← OKp.next, ← MKp.some, ← Kp.getD, ← Kp.foldl, ← Kp.foldl1, ← Kp.foldl2, ← Kp.foldl3, ← writeBytes_wf, ← wf_filter, wf_nil, ← State.setFld_kp, ← loseStack_kp, ← raise_kp]

theorem bootStep6_kp (e : BootEnv) (s : State)
    (h0 : Kp kb s) : Kp kb (bootStep6 e s).1 := by
  unfold bootStep6; grind (splits := 14) (gen := 60) (ematch := 60) [Option.map_eq_some_iff, Option.bind_eq_some_iff, ← Kp.upd2, ← OKp.next, ← MKp.some, ← Kp.getD, ← Kp.foldl, ← Kp.foldl1, ← Kp.foldl2, ← Kp.foldl3, ← writeBytes_wf, ← wf_filter, wf_nil, ← enablePages_kp, ← trainStack_kp]

theorem bootStep7_kp (zero : Nat → Bool) (s : State)
    (h0 : Kp kb s) : Kp kb (bootStep7 zero s).1 := by
  unfold bootStep7; grind (splits := 14) (gen := 60) (ematch := 60) [Option.map_eq_some_iff, Option.bind_eq_some_iff, ← Kp.upd2, ← OKp.next, ← MKp.some, ← Kp.getD, ← Kp.foldl, ← Kp.foldl1, ← Kp.foldl2, ← Kp.foldl3, ← writeBytes_wf, ← wf_filter, wf_nil, ← State.modCore_kp, ← eachPage_kp, ← enablePages_kp, ← pageEnable_kp]

theorem bootTime_kp (s : State) (ms : Nat)
    (h0 : Kp kb s) : Kp kb (bootTime s ms) := by
  unfold bootTime; grind (splits := 14) (gen := 60) (ematch := 60) [Option.map_eq_some_iff, Option.bind_eq_some_iff, ← Kp.upd2, ← OKp.next, ← MKp.some, ← Kp.getD, ← Kp.foldl, ← Kp.foldl1, ← Kp.foldl2, ← Kp.foldl3, ← writeBytes_wf, ← wf_filter, wf_nil, ← State.setReg_kp, ← budgetCredit_kp]

theorem stepOver_kp (s : State) (n : Nat)
    (h0 : Kp kb s) : Kp kb (stepOver s n) := by
  unfold stepOver; grind (splits := 14) (gen := 60) (ematch := 60) [Option.map_eq_some_iff, Option.bind_eq_some_iff, ← Kp.upd2, ← OKp.next, ← MKp.some, ← Kp.getD, ← Kp.foldl, ← Kp.foldl1, ← Kp.foldl2, ← Kp.foldl3, ← writeBytes_wf, ← wf_filter, wf_nil, ← State.setReg_kp, ← raise_kp]

theorem stepDone_kp (e : BootEnv) (s : State) (n : Nat)
    (h0 : Kp kb s) : Kp kb (stepDone e s n) := by
  unfold stepDone; grind (splits := 14) (gen := 60) (ematch := 60) [Option.map_eq_some_iff, Option.bind_eq_some_iff, ← Kp.upd2, ← OKp.next, ← MKp.some, ← Kp.getD, ← Kp.foldl, ← Kp.foldl1, ← Kp.foldl2, ← Kp.foldl3, ← writeBytes_wf, ← wf_filter, wf_nil, ← State.setReg_kp, ← bootTime_kp, ← stepOver_kp]

theorem bootReady_kp (s : State)
    (h0 : Kp kb s) : Kp kb (bootReady s) := by
  unfold bootReady; grind (splits := 14) (gen := 60) (ematch := 60) [Option.map_eq_some_iff, Option.bind_eq_some_iff, ← Kp.upd2, ← OKp.next, ← MKp.some, ← Kp.getD, ← Kp.foldl, ← Kp.foldl1, ← Kp.foldl2, ← Kp.foldl3, ← writeBytes_wf, ← wf_filter, wf_nil, ← State.setFld_kp, ← jnlDrain_kp, ← raise_kp, ← takeHeld_kp]

theorem bootRun_kp (e : BootEnv) (l : List (Nat × (State → State × Bool))) (hl : ∀ p ∈ l, ∀ s, Kp kb s → Kp kb (p.2 s).1) (s : State)
    (h0 : Kp kb s) : Kp kb (bootRun e l s) := by
  induction l generalizing s with
  | nil => exact bootReady_kp _ h0
  | cons p l ih =>
    obtain ⟨n, f⟩ := p
    unfold bootRun
    have k1 : Kp kb (f (s.setFld STW.BOOT_STATE_STEP n)).1 := hl (n, f) (by simp) _ (State.setFld_kp _ _ _ _ _ h0)
    generalize f (s.setFld STW.BOOT_STATE_STEP n) = x at k1 ⊢
    obtain ⟨x1, x2⟩ := x
    refine Kp.ite k1 ?_
    exact ih (fun p hp => hl p (by simp [hp])) _ (stepDone_kp _ _ _ k1)

theorem ladlesUndefined_kp (s : State)
    (h0 : Kp kb s) : Kp kb (ladlesUndefined s) := by
  unfold ladlesUndefined; grind (splits := 14) (gen := 60) (ematch := 60) [Option.map_eq_some_iff, Option.bind_eq_some_iff, ← Kp.upd2, ← OKp.next, ← MKp.some, ← Kp.getD, ← Kp.foldl, ← Kp.foldl1, ← Kp.foldl2, ← Kp.foldl3, ← writeBytes_wf, ← wf_filter, wf_nil, ← undefLadle_kp]

theorem bootSteps_kp (e : BootEnv) (cold noArea3 calBad : Bool) (zero : Nat → Bool) :
    ∀ p ∈ bootSteps e cold noArea3 calBad zero, ∀ s, Kp kb s → Kp kb (p.2 s).1 := by
  intro p hp s h
  simp only [bootSteps, List.mem_cons, List.not_mem_nil, or_false] at hp
  rcases hp with rfl | rfl | rfl | rfl | rfl | rfl | rfl | rfl
  · exact bootStep2_kp _ _ h
  · exact bootStep3_kp _ _ h
  · exact bootStep4_kp _ _ _ h
  · exact bootStep5_kp _ _ _ _ h
  · exact bootStep6_kp _ _ h
  · exact bootStep7_kp _ _ h
  · exact bootStep8_kp _ _ h
  · exact bootStep9_kp _ _ h

theorem coldBoot_kp (s : State) (e : BootEnv)
    (h0 : Kp kb s) : Kp kb (coldBoot s e) := by
  unfold coldBoot
  refine bootRun_kp _ _ ?_ _ (ladlesUndefined_kp _ ?_)
  · intro p hp s h
    rcases List.mem_cons.1 hp with rfl | hp
    · exact bootStep1_kp _ _ h
    · exact bootSteps_kp _ _ _ _ _ p hp s h
  · have k := powerLost_kp _ h0
    exact ⟨k.1, k.2, fun x => let y := k.3 x; ⟨y.1, y.2, y.3, y.4, y.5, y.6, y.7, y.8⟩⟩

theorem warmBoot_kp (s : State) (e : BootEnv) (cause : Nat) (action1 : Bool)
    (h0 : Kp kb s) : Kp kb (warmBoot s e cause action1) := by
  unfold warmBoot
  extract_lets early s1 calBad zero s2 s3
  have k1 : Kp kb s1 := Kp.ite h0 (flushTail_kp _ (landAll_kp _ h0))
  have k2 : Kp kb s2 := ⟨k1.1, k1.2, fun x => let y := k1.3 x; ⟨y.1, y.2, y.3, y.4, y.5, y.6, y.7, y.8⟩⟩
  have k3 : Kp kb s3 := State.setReg_kp _ _ _ _ (resetKeeps_kp _ _ k2)
  exact bootRun_kp _ _ (bootSteps_kp _ _ _ _ _) _ (ladlesUndefined_kp _ k3)

theorem execColdReset_kp (e : BootEnv) (s : State)
    (h0 : Kp kb s) : OKp kb (execColdReset e s) := by
  unfold execColdReset; grind (splits := 14) (gen := 60) (ematch := 60) [Option.map_eq_some_iff, Option.bind_eq_some_iff, ← Kp.upd2, ← OKp.next, ← MKp.some, ← Kp.getD, ← Kp.foldl, ← Kp.foldl1, ← Kp.foldl2, ← Kp.foldl3, ← writeBytes_wf, ← wf_filter, wf_nil, ← coldBoot_kp]

theorem execRstCmd_kp (v : BitVec 16) (e : BootEnv) (s : State)
    (h0 : Kp kb s) : OKp kb (execRstCmd v e s) := by
  unfold execRstCmd; grind (splits := 14) (gen := 60) (ematch := 60) [Option.map_eq_some_iff, Option.bind_eq_some_iff, ← Kp.upd2, ← OKp.next, ← MKp.some, ← Kp.getD, ← Kp.foldl, ← Kp.foldl1, ← Kp.foldl2, ← Kp.foldl3, ← writeBytes_wf, ← wf_filter, wf_nil, ← warmBoot_kp]

theorem execInputRecovery_kp (e : BootEnv) (s : State)
    (h0 : Kp kb s) : OKp kb (execInputRecovery e s) := by
  unfold execInputRecovery; grind (splits := 14) (gen := 60) (ematch := 60) [Option.map_eq_some_iff, Option.bind_eq_some_iff, ← Kp.upd2, ← OKp.next, ← MKp.some, ← Kp.getD, ← Kp.foldl, ← Kp.foldl1, ← Kp.foldl2, ← Kp.foldl3, ← writeBytes_wf, ← wf_filter, wf_nil, ← warmBoot_kp]

theorem execBootStepOvertime_kp (step : Fin 9) (s : State)
    (h0 : Kp kb s) : OKp kb (execBootStepOvertime step s) := by
  unfold execBootStepOvertime; grind (splits := 14) (gen := 60) (ematch := 60) [Option.map_eq_some_iff, Option.bind_eq_some_iff, ← Kp.upd2, ← OKp.next, ← MKp.some, ← Kp.getD, ← Kp.foldl, ← Kp.foldl1, ← Kp.foldl2, ← Kp.foldl3, ← writeBytes_wf, ← wf_filter, wf_nil, ← stepOver_kp]

theorem execRegulatorsStop_kp (s : State)
    (h0 : Kp kb s) : OKp kb (execRegulatorsStop s) := by
  unfold execRegulatorsStop; grind (splits := 14) (gen := 60) (ematch := 60) [Option.map_eq_some_iff, Option.bind_eq_some_iff, ← Kp.upd2, ← OKp.next, ← MKp.some, ← Kp.getD, ← Kp.foldl, ← Kp.foldl1, ← Kp.foldl2, ← Kp.foldl3, ← writeBytes_wf, ← wf_filter, wf_nil, ← powerLost_kp]

theorem execRegulatorRetry_kp (e : BootEnv) (s : State)
    (h0 : Kp kb s) : OKp kb (execRegulatorRetry e s) := by
  unfold execRegulatorRetry; grind (splits := 14) (gen := 60) (ematch := 60) [Option.map_eq_some_iff, Option.bind_eq_some_iff, ← Kp.upd2, ← OKp.next, ← MKp.some, ← Kp.getD, ← Kp.foldl, ← Kp.foldl1, ← Kp.foldl2, ← Kp.foldl3, ← writeBytes_wf, ← wf_filter, wf_nil, ← coldBoot_kp]

theorem execQuenchExit_kp (e : BootEnv) (s : State)
    (h0 : Kp kb s) : OKp kb (execQuenchExit e s) := by
  unfold execQuenchExit; grind (splits := 14) (gen := 60) (ematch := 60) [Option.map_eq_some_iff, Option.bind_eq_some_iff, ← Kp.upd2, ← OKp.next, ← MKp.some, ← Kp.getD, ← Kp.foldl, ← Kp.foldl1, ← Kp.foldl2, ← Kp.foldl3, ← writeBytes_wf, ← wf_filter, wf_nil, ← State.bump_kp, ← raise_kp, ← sigOk_kp, takeKind_kp, ← warmBoot_kp]

/-! ## Machine/RegWrite.lean -/

theorem headerCheck_kp (s : State) (l : RegLoc) (a : Nat)
    (h0 : Kp kb s) : Kp kb (headerCheck s l a) := by
  unfold headerCheck; grind (splits := 14) (gen := 60) (ematch := 60) [Option.map_eq_some_iff, Option.bind_eq_some_iff, ← Kp.upd2, ← OKp.next, ← MKp.some, ← Kp.getD, ← Kp.foldl, ← Kp.foldl1, ← Kp.foldl2, ← Kp.foldl3, ← writeBytes_wf, ← wf_filter, wf_nil, ← headerParity_kp]

theorem readLoc_kp (s : State) (l : RegLoc) (a : Nat)
    (h0 : Kp kb s) : Kp kb (readLoc s l a).2 := by
  unfold readLoc; grind (splits := 14) (gen := 60) (ematch := 60) [Option.map_eq_some_iff, Option.bind_eq_some_iff, ← Kp.upd2, ← OKp.next, ← MKp.some, ← Kp.getD, ← Kp.foldl, ← Kp.foldl1, ← Kp.foldl2, ← Kp.foldl3, ← writeBytes_wf, ← wf_filter, wf_nil, ← State.draw_kp, ← headerCheck_kp]

theorem latch_kp (s : State) (a : Nat) (v : Nat)
    (h0 : Kp kb s) : Kp kb (latch s a v) := by
  unfold latch; grind (splits := 14) (gen := 60) (ematch := 60) [Option.map_eq_some_iff, Option.bind_eq_some_iff, ← Kp.upd2, ← OKp.next, ← MKp.some, ← Kp.getD, ← Kp.foldl, ← Kp.foldl1, ← Kp.foldl2, ← Kp.foldl3, ← writeBytes_wf, ← wf_filter, wf_nil]

theorem read32_kp (s : State) (a : Nat)
    (h0 : Kp kb s) : Kp kb (read32 s a).2 := by
  unfold read32; grind (splits := 14) (gen := 60) (ematch := 60) [Option.map_eq_some_iff, Option.bind_eq_some_iff, ← Kp.upd2, ← OKp.next, ← MKp.some, ← Kp.getD, ← Kp.foldl, ← Kp.foldl1, ← Kp.foldl2, ← Kp.foldl3, ← writeBytes_wf, ← wf_filter, wf_nil, ← latch_kp, ← readLoc_kp]

theorem read64_kp (s : State) (a : Nat)
    (h0 : Kp kb s) : Kp kb (read64 s a).2 := by
  unfold read64; grind (splits := 14) (gen := 60) (ematch := 60) [Option.map_eq_some_iff, Option.bind_eq_some_iff, ← Kp.upd2, ← OKp.next, ← MKp.some, ← Kp.getD, ← Kp.foldl, ← Kp.foldl1, ← Kp.foldl2, ← Kp.foldl3, ← writeBytes_wf, ← wf_filter, wf_nil, ← read32_kp, ← readLoc_kp]

theorem plainWrite_kp (s : State) (l : RegLoc) (x : Nat) (mask : Nat)
    (h0 : Kp kb s) : Kp kb (plainWrite s l x mask) := by
  unfold plainWrite; grind (splits := 14) (gen := 60) (ematch := 60) [Option.map_eq_some_iff, Option.bind_eq_some_iff, ← Kp.upd2, ← OKp.next, ← MKp.some, ← Kp.getD, ← Kp.foldl, ← Kp.foldl1, ← Kp.foldl2, ← Kp.foldl3, ← writeBytes_wf, ← wf_filter, wf_nil, ← State.setReg_kp]

theorem keepUnless_kp (s : State) (f : Fld) (ok : Nat → Bool) (l : RegLoc) (x : Nat) (mask : Nat)
    (h0 : Kp kb s) : Kp kb (keepUnless s f ok l x mask) := by
  unfold keepUnless; grind (splits := 14) (gen := 60) (ematch := 60) [Option.map_eq_some_iff, Option.bind_eq_some_iff, ← Kp.upd2, ← OKp.next, ← MKp.some, ← Kp.getD, ← Kp.foldl, ← Kp.foldl1, ← Kp.foldl2, ← Kp.foldl3, ← writeBytes_wf, ← wf_filter, wf_nil, ← plainWrite_kp]

theorem writePageCtrl_kp (s : State) (p : PageKind) (i : Nat) (x : Nat)
    (h0 : Kp kb s) : Kp kb (writePageCtrl s p i x) := by
  unfold writePageCtrl; grind (splits := 14) (gen := 60) (ematch := 60) [Option.map_eq_some_iff, Option.bind_eq_some_iff, ← Kp.upd2, ← OKp.next, ← MKp.some, ← Kp.getD, ← Kp.foldl, ← Kp.foldl1, ← Kp.foldl2, ← Kp.foldl3, ← writeBytes_wf, ← wf_filter, wf_nil, ← pageBreset_kp, ← pageEnable_kp, ← pageQuiesce_kp]

theorem writeHdr_kp (s : State) (l : RegLoc) (x : Nat) (mask : Nat) (a : Nat)
    (h0 : Kp kb s) : Kp kb (writeHdr s l x mask a) := by
  unfold writeHdr; grind (splits := 14) (gen := 60) (ematch := 60) [Option.map_eq_some_iff, Option.bind_eq_some_iff, ← Kp.upd2, ← OKp.next, ← MKp.some, ← Kp.getD, ← Kp.foldl, ← Kp.foldl1, ← Kp.foldl2, ← Kp.foldl3, ← writeBytes_wf, ← wf_filter, wf_nil, ← execFltFirstClear_kp, ← execFltStatusClear_kp, ← execPageLockWrite_kp, ← plainWrite_kp, ← settled_kp, ← writePageCtrl_kp]

theorem writeLopCmd_kp (s : State) (k : Nat) (x : Nat)
    (h0 : Kp kb s) : Kp kb (writeLopCmd s k x) := by
  unfold writeLopCmd; grind (splits := 14) (gen := 60) (ematch := 60) [Option.map_eq_some_iff, Option.bind_eq_some_iff, ← Kp.upd2, ← OKp.next, ← MKp.some, ← Kp.getD, ← Kp.foldl, ← Kp.foldl1, ← Kp.foldl2, ← Kp.foldl3, ← writeBytes_wf, ← wf_filter, wf_nil, ← State.setFld_kp, ← execLopAbort_kp, ← lopGo_kp, ← settled_kp]

theorem writeSvcCmd_kp (s : State) (x : Nat)
    (h0 : Kp kb s) : Kp kb (writeSvcCmd s x) := by
  unfold writeSvcCmd; grind (splits := 14) (gen := 60) (ematch := 60) [Option.map_eq_some_iff, Option.bind_eq_some_iff, ← Kp.upd2, ← OKp.next, ← MKp.some, ← Kp.getD, ← Kp.foldl, ← Kp.foldl1, ← Kp.foldl2, ← Kp.foldl3, ← writeBytes_wf, ← wf_filter, wf_nil, ← drainCancel_kp, ← drainGo_kp, ← drainReq_kp]

theorem writeWdogCtrl_kp (s : State) (l : RegLoc) (x : Nat) (mask : Nat)
    (h0 : Kp kb s) : Kp kb (writeWdogCtrl s l x mask) := by
  unfold writeWdogCtrl; grind (splits := 14) (gen := 60) (ematch := 60) [Option.map_eq_some_iff, Option.bind_eq_some_iff, ← Kp.upd2, ← OKp.next, ← MKp.some, ← Kp.getD, ← Kp.foldl, ← Kp.foldl1, ← Kp.foldl2, ← Kp.foldl3, ← writeBytes_wf, ← wf_filter, wf_nil, ← keepUnless_kp, ← wdogStart_kp]

theorem writeStw_kp (rst : BitVec 16 → State → State) (s : State) (l : RegLoc) (x : Nat) (mask : Nat)
    (h0 : ∀ y0 y1, Kp kb y1 → Kp kb (rst y0 y1)) (h1 : Kp kb s) : Kp kb (writeStw rst s l x mask) := by
  unfold writeStw; grind (splits := 14) (gen := 60) (ematch := 60) [Option.map_eq_some_iff, Option.bind_eq_some_iff, ← Kp.upd2, ← OKp.next, ← MKp.some, ← Kp.getD, ← Kp.foldl, ← Kp.foldl1, ← Kp.foldl2, ← Kp.foldl3, ← writeBytes_wf, ← wf_filter, wf_nil, ← execQSwreq_kp, ← execWdogKick_kp, ← keepUnless_kp, ← plainWrite_kp, ← settled_kp, ← writeLopCmd_kp, ← writeSvcCmd_kp, ← writeWdogCtrl_kp]

theorem writeTruCmd_kp (s : State) (l : RegLoc) (x : Nat) (mask : Nat)
    (h0 : Kp kb s) : Kp kb (writeTruCmd s l x mask) := by
  unfold writeTruCmd; grind (splits := 14) (gen := 60) (ematch := 60) [Option.map_eq_some_iff, Option.bind_eq_some_iff, ← Kp.upd2, ← OKp.next, ← MKp.some, ← Kp.getD, ← Kp.foldl, ← Kp.foldl1, ← Kp.foldl2, ← Kp.foldl3, ← writeBytes_wf, ← wf_filter, wf_nil, ← execAttest_kp, ← execEnrol_kp, ← execLink_kp, ← execNonce_kp, ← execPatverify_kp, ← execUnenrol_kp, ← execUpdate_kp, ← execVerify_kp, ← plainWrite_kp, ← settled_kp, ← truResult_kp, ← truRow_kp]

theorem writeTru_kp (s : State) (l : RegLoc) (x : Nat) (mask : Nat)
    (h0 : Kp kb s) : Kp kb (writeTru s l x mask) := by
  unfold writeTru; grind (splits := 14) (gen := 60) (ematch := 60) [Option.map_eq_some_iff, Option.bind_eq_some_iff, ← Kp.upd2, ← OKp.next, ← MKp.some, ← Kp.getD, ← Kp.foldl, ← Kp.foldl1, ← Kp.foldl2, ← Kp.foldl3, ← writeBytes_wf, ← wf_filter, wf_nil, ← plainWrite_kp, ← writeTruCmd_kp]

theorem writePwr_kp (s : State) (l : RegLoc) (x : Nat) (mask : Nat)
    (h0 : Kp kb s) : Kp kb (writePwr s l x mask) := by
  unfold writePwr; grind (splits := 14) (gen := 60) (ematch := 60) [Option.map_eq_some_iff, Option.bind_eq_some_iff, ← Kp.upd2, ← OKp.next, ← MKp.some, ← Kp.getD, ← Kp.foldl, ← Kp.foldl1, ← Kp.foldl2, ← Kp.foldl3, ← writeBytes_wf, ← wf_filter, wf_nil, ← changeDuty_kp, ← execPinCtrlWrite_kp, ← keepUnless_kp, ← plainWrite_kp, ← settled_kp]

theorem writeGrd_kp (s : State) (l : RegLoc) (x : Nat) (mask : Nat)
    (h0 : Kp kb s) : Kp kb (writeGrd s l x mask) := by
  unfold writeGrd; grind (splits := 14) (gen := 60) (ematch := 60) [Option.map_eq_some_iff, Option.bind_eq_some_iff, ← Kp.upd2, ← OKp.next, ← MKp.some, ← Kp.getD, ← Kp.foldl, ← Kp.foldl1, ← Kp.foldl2, ← Kp.foldl3, ← writeBytes_wf, ← wf_filter, wf_nil, ← State.setFld_kp, ← execGrdBschedLockWrite_kp, ← execGrdProfileReqWrite_kp, ← execPromoteRequest_kp, ← plainWrite_kp, ← settled_kp]

theorem writeCal_kp (s : State) (l : RegLoc) (x : Nat) (mask : Nat)
    (h0 : Kp kb s) : Kp kb (writeCal s l x mask) := by
  unfold writeCal; grind (splits := 14) (gen := 60) (ematch := 60) [Option.map_eq_some_iff, Option.bind_eq_some_iff, ← Kp.upd2, ← OKp.next, ← MKp.some, ← Kp.getD, ← Kp.foldl, ← Kp.foldl1, ← Kp.foldl2, ← Kp.foldl3, ← writeBytes_wf, ← wf_filter, wf_nil, ← calUserWrite_kp, ← execCalApply_kp, ← execCalClear_kp, ← execCalReload_kp, ← execCalSave_kp, ← plainWrite_kp, ← settled_kp]

theorem writeSpr_kp (s : State) (l : RegLoc) (x : Nat) (mask : Nat)
    (h0 : Kp kb s) : Kp kb (writeSpr s l x mask) := by
  unfold writeSpr; grind (splits := 14) (gen := 60) (ematch := 60) [Option.map_eq_some_iff, Option.bind_eq_some_iff, ← Kp.upd2, ← OKp.next, ← MKp.some, ← Kp.getD, ← Kp.foldl, ← Kp.foldl1, ← Kp.foldl2, ← Kp.foldl3, ← writeBytes_wf, ← wf_filter, wf_nil, ← State.setFld_kp, ← execPredWrite_kp, ← execRingTailWrite_kp, ← execSprCtrlResume_kp, ← execSprCtrlRun_kp, ← execTokData_kp, ← execTokSignal_kp, ← plainWrite_kp, ← settled_kp]

theorem writeEngine_kp (s : State) (l : RegLoc) (x : Nat) (mask : Nat)
    (h0 : Kp kb s) : Kp kb (writeEngine s l x mask) := by
  unfold writeEngine; grind (splits := 14) (gen := 60) (ematch := 60) [Option.map_eq_some_iff, Option.bind_eq_some_iff, ← Kp.upd2, ← OKp.next, ← MKp.some, ← Kp.getD, ← Kp.foldl, ← Kp.foldl1, ← Kp.foldl2, ← Kp.foldl3, ← writeBytes_wf, ← wf_filter, wf_nil, ← execAsyNsUpdatesWrite_kp, ← keepUnless_kp, ← plainWrite_kp, ← settled_kp]

theorem writeTun_kp (s : State) (l : RegLoc) (x : Nat) (mask : Nat)
    (h0 : Kp kb s) : Kp kb (writeTun s l x mask) := by
  unfold writeTun; grind (splits := 14) (gen := 60) (ematch := 60) [Option.map_eq_some_iff, Option.bind_eq_some_iff, ← Kp.upd2, ← OKp.next, ← MKp.some, ← Kp.getD, ← Kp.foldl, ← Kp.foldl1, ← Kp.foldl2, ← Kp.foldl3, ← writeBytes_wf, ← wf_filter, wf_nil, ← State.setFld_kp, ← diagRun_kp, ← execQapply_kp, ← execSpareReq_kp, ← plainWrite_kp, ← settled_kp]

theorem settleBuckets_kp (s : State) (p : Nat)
    (h0 : Kp kb s) : Kp kb (settleBuckets s p) := by
  unfold settleBuckets; grind (splits := 14) (gen := 60) (ematch := 60) [Option.map_eq_some_iff, Option.bind_eq_some_iff, ← Kp.upd2, ← OKp.next, ← MKp.some, ← Kp.getD, ← Kp.foldl, ← Kp.foldl1, ← Kp.foldl2, ← Kp.foldl3, ← writeBytes_wf, ← wf_filter, wf_nil, ← hbmAdvance_kp]

theorem writeHbm_kp (s : State) (l : RegLoc) (x : Nat) (mask : Nat)
    (h0 : Kp kb s) : Kp kb (writeHbm s l x mask) := by
  unfold writeHbm; grind (splits := 14) (gen := 60) (ematch := 60) [Option.map_eq_some_iff, Option.bind_eq_some_iff, ← Kp.upd2, ← OKp.next, ← MKp.some, ← Kp.getD, ← Kp.foldl, ← Kp.foldl1, ← Kp.foldl2, ← Kp.foldl3, ← writeBytes_wf, ← wf_filter, wf_nil, ← State.setFld_kp, ← execSlotCtrlApply_kp, ← plainWrite_kp, ← settleBuckets_kp, ← settled_kp]

theorem writeIng_kp (s : State) (l : RegLoc) (x : Nat) (mask : Nat)
    (h0 : Kp kb s) : Kp kb (writeIng s l x mask) := by
  unfold writeIng; grind (splits := 14) (gen := 60) (ematch := 60) [Option.map_eq_some_iff, Option.bind_eq_some_iff, ← Kp.upd2, ← OKp.next, ← MKp.some, ← Kp.getD, ← Kp.foldl, ← Kp.foldl1, ← Kp.foldl2, ← Kp.foldl3, ← writeBytes_wf, ← wf_filter, wf_nil, ← State.setFld_kp, ← execRetireReq_kp, ← keepUnless_kp, ← plainWrite_kp, ← settled_kp]

theorem writeAvl_kp (s : State) (l : RegLoc) (x : Nat) (mask : Nat)
    (h0 : Kp kb s) : Kp kb (writeAvl s l x mask) := by
  unfold writeAvl; grind (splits := 14) (gen := 60) (ematch := 60) [Option.map_eq_some_iff, Option.bind_eq_some_iff, ← Kp.upd2, ← OKp.next, ← MKp.some, ← Kp.getD, ← Kp.foldl, ← Kp.foldl1, ← Kp.foldl2, ← Kp.foldl3, ← writeBytes_wf, ← wf_filter, wf_nil, ← State.setFld_kp, ← execAvlCtrlRetrain_kp, ← keepUnless_kp, ← leavePort_kp, ← plainWrite_kp, ← settled_kp]

theorem writeCol_kp (s : State) (l : RegLoc) (x : Nat) (mask : Nat)
    (h0 : Kp kb s) : Kp kb (writeCol s l x mask) := by
  unfold writeCol; grind (splits := 14) (gen := 60) (ematch := 60) [Option.map_eq_some_iff, Option.bind_eq_some_iff, ← Kp.upd2, ← OKp.next, ← MKp.some, ← Kp.getD, ← Kp.foldl, ← Kp.foldl1, ← Kp.foldl2, ← Kp.foldl3, ← writeBytes_wf, ← wf_filter, wf_nil, ← execGrpDefine_kp, ← execGrpFree_kp, ← execSwCmdClearHold_kp, ← execSwCmdRelease_kp, ← plainWrite_kp, ← settled_kp]

theorem excUsed_kp (s : State)
    (h0 : Kp kb s) : Kp kb (excUsed s) := by
  unfold excUsed; grind (splits := 14) (gen := 60) (ematch := 60) [Option.map_eq_some_iff, Option.bind_eq_some_iff, ← Kp.upd2, ← OKp.next, ← MKp.some, ← Kp.getD, ← Kp.foldl, ← Kp.foldl1, ← Kp.foldl2, ← Kp.foldl3, ← writeBytes_wf, ← wf_filter, wf_nil, ← State.setReg_kp]

theorem writeRout_kp (s : State) (l : RegLoc) (x : Nat) (mask : Nat)
    (h0 : Kp kb s) : Kp kb (writeRout s l x mask) := by
  unfold writeRout; grind (splits := 14) (gen := 60) (ematch := 60) [Option.map_eq_some_iff, Option.bind_eq_some_iff, ← Kp.upd2, ← OKp.next, ← MKp.some, ← Kp.getD, ← Kp.foldl, ← Kp.foldl1, ← Kp.foldl2, ← Kp.foldl3, ← writeBytes_wf, ← wf_filter, wf_nil, ← excUsed_kp, ← plainWrite_kp]

theorem writeLoc_kp (rst : BitVec 16 → State → State) (s : State) (l : RegLoc) (x : Nat) (mask : Nat) (a : Nat)
    (h0 : ∀ y0 y1, Kp kb y1 → Kp kb (rst y0 y1)) (h1 : Kp kb s) : Kp kb (writeLoc rst s l x mask a) := by
  unfold writeLoc; grind (splits := 14) (gen := 60) (ematch := 60) [Option.map_eq_some_iff, Option.bind_eq_some_iff, ← Kp.upd2, ← OKp.next, ← MKp.some, ← Kp.getD, ← Kp.foldl, ← Kp.foldl1, ← Kp.foldl2, ← Kp.foldl3, ← writeBytes_wf, ← wf_filter, wf_nil, ← plainWrite_kp, ← writeAvl_kp, ← writeCal_kp, ← writeCol_kp, ← writeEngine_kp, ← writeGrd_kp, ← writeHbm_kp, ← writeHdr_kp, ← writeIng_kp, ← writePwr_kp, ← writeRout_kp, ← writeSpr_kp, ← writeStw_kp, ← writeTru_kp, ← writeTun_kp]

theorem write32_kp (rst : BitVec 16 → State → State) (s : State) (a : Nat) (v : Nat)
    (h0 : ∀ y0 y1, Kp kb y1 → Kp kb (rst y0 y1)) (h1 : Kp kb s) : Kp kb (write32 rst s a v) := by
  unfold write32; grind (splits := 14) (gen := 60) (ematch := 60) [Option.map_eq_some_iff, Option.bind_eq_some_iff, ← Kp.upd2, ← OKp.next, ← MKp.some, ← Kp.getD, ← Kp.foldl, ← Kp.foldl1, ← Kp.foldl2, ← Kp.foldl3, ← writeBytes_wf, ← wf_filter, wf_nil, ← State.setFld_kp, ← raise_kp, ← writeLoc_kp]

theorem write64_kp (rst : BitVec 16 → State → State) (s : State) (a : Nat) (v : Nat)
    (h0 : ∀ y0 y1, Kp kb y1 → Kp kb (rst y0 y1)) (h1 : Kp kb s) : Kp kb (write64 rst s a v) := by
  unfold write64; grind (splits := 14) (gen := 60) (ematch := 60) [Option.map_eq_some_iff, Option.bind_eq_some_iff, ← Kp.upd2, ← OKp.next, ← MKp.some, ← Kp.getD, ← Kp.foldl, ← Kp.foldl1, ← Kp.foldl2, ← Kp.foldl3, ← writeBytes_wf, ← wf_filter, wf_nil, ← State.setFld_kp, ← raise_kp, ← write32_kp, ← writeLoc_kp]

theorem writeWin_kp (rst : BitVec 16 → State → State) (s : State) (a : Nat) (v : Nat) (wide : Bool)
    (h0 : ∀ y0 y1, Kp kb y1 → Kp kb (rst y0 y1)) (h1 : Kp kb s) : Kp kb (writeWin rst s a v wide) := by
  unfold writeWin; grind (splits := 14) (gen := 60) (ematch := 60) [Option.map_eq_some_iff, Option.bind_eq_some_iff, ← Kp.upd2, ← OKp.next, ← MKp.some, ← Kp.getD, ← Kp.foldl, ← Kp.foldl1, ← Kp.foldl2, ← Kp.foldl3, ← writeBytes_wf, ← wf_filter, wf_nil, ← write32_kp, ← write64_kp]

theorem rstWrite_kp (e : BootEnv) (v : BitVec 16) (s : State)
    (h0 : Kp kb s) : Kp kb (rstWrite e v s) := by
  unfold rstWrite; grind (splits := 14) (gen := 60) (ematch := 60) [Option.map_eq_some_iff, Option.bind_eq_some_iff, ← Kp.upd2, ← OKp.next, ← MKp.some, ← Kp.getD, ← Kp.foldl, ← Kp.foldl1, ← Kp.foldl2, ← Kp.foldl3, ← writeBytes_wf, ← wf_filter, wf_nil, ← execRstCmd_kp, ← settled_kp]

theorem execRegisterWrite_kp (a : BitVec 26) (v : BitVec 64) (wide : Bool) (e : BootEnv) (s : State)
    (h0 : Kp kb s) : OKp kb (execRegisterWrite a v wide e s) := by
  unfold execRegisterWrite; grind (splits := 14) (gen := 60) (ematch := 60) [Option.map_eq_some_iff, Option.bind_eq_some_iff, ← Kp.upd2, ← OKp.next, ← MKp.some, ← Kp.getD, ← Kp.foldl, ← Kp.foldl1, ← Kp.foldl2, ← Kp.foldl3, ← writeBytes_wf, ← wf_filter, wf_nil, ← rstWrite_kp, ← writeWin_kp]

theorem execRoutTableWrite_kp (a : BitVec 26) (v : BitVec 64) (wide : Bool) (s : State)
    (h0 : Kp kb s) : OKp kb (execRoutTableWrite a v wide s) := by
  unfold execRoutTableWrite; grind (splits := 14) (gen := 60) (ematch := 60) [Option.map_eq_some_iff, Option.bind_eq_some_iff, ← Kp.upd2, ← OKp.next, ← MKp.some, ← Kp.getD, ← Kp.foldl, ← Kp.foldl1, ← Kp.foldl2, ← Kp.foldl3, ← writeBytes_wf, ← wf_filter, wf_nil, ← writeWin_kp]

theorem regRefuse_kp (s : State) (m : Packet)
    (h0 : Kp kb s) : Kp kb (regRefuse s m) := by
  unfold regRefuse; grind (splits := 14) (gen := 60) (ematch := 60) [Option.map_eq_some_iff, Option.bind_eq_some_iff, ← Kp.upd2, ← OKp.next, ← MKp.some, ← Kp.getD, ← Kp.foldl, ← Kp.foldl1, ← Kp.foldl2, ← Kp.foldl3, ← writeBytes_wf, ← wf_filter, wf_nil, ← errRsp_kp, ← raise_kp]

theorem execRegRd_kp (s : State)
    (h0 : Kp kb s) : OKp kb (execRegRd s) := by
  unfold execRegRd; grind (splits := 14) (gen := 60) (ematch := 60) [Option.map_eq_some_iff, Option.bind_eq_some_iff, ← Kp.upd2, ← OKp.next, ← MKp.some, ← Kp.getD, ← Kp.foldl, ← Kp.foldl1, ← Kp.foldl2, ← Kp.foldl3, ← writeBytes_wf, ← wf_filter, wf_nil, ← read32_kp, ← read64_kp, ← regRefuse_kp, ← reply_kp, takeKind_kp]

theorem execRegWr_kp (e : BootEnv) (s : State)
    (h0 : Kp kb s) : OKp kb (execRegWr e s) := by
  unfold execRegWr; grind (splits := 14) (gen := 60) (ematch := 60) [Option.map_eq_some_iff, Option.bind_eq_some_iff, ← Kp.upd2, ← OKp.next, ← MKp.some, ← Kp.getD, ← Kp.foldl, ← Kp.foldl1, ← Kp.foldl2, ← Kp.foldl3, ← writeBytes_wf, ← wf_filter, wf_nil, ← regRefuse_kp, ← reply_kp, ← rstWrite_kp, takeKind_kp, ← writeWin_kp]

theorem sbAnswer_kp (s : State) (status : Nat) (data : Nat)
    (h0 : Kp kb s) : Kp kb (sbAnswer s status data) := by
  unfold sbAnswer; grind (splits := 14) (gen := 60) (ematch := 60) [Option.map_eq_some_iff, Option.bind_eq_some_iff, ← Kp.upd2, ← OKp.next, ← MKp.some, ← Kp.getD, ← Kp.foldl, ← Kp.foldl1, ← Kp.foldl2, ← Kp.foldl3, ← writeBytes_wf, ← wf_filter, wf_nil]

theorem sbRefuse_kp (s : State) (status : Nat)
    (h0 : Kp kb s) : Kp kb (sbRefuse s status) := by
  unfold sbRefuse; grind (splits := 14) (gen := 60) (ematch := 60) [Option.map_eq_some_iff, Option.bind_eq_some_iff, ← Kp.upd2, ← OKp.next, ← MKp.some, ← Kp.getD, ← Kp.foldl, ← Kp.foldl1, ← Kp.foldl2, ← Kp.foldl3, ← writeBytes_wf, ← wf_filter, wf_nil, ← State.bump_kp, ← raise_kp, ← sbAnswer_kp]

theorem sbRead_kp (s : State) (a : BitVec 32) (wide : Bool)
    (h0 : Kp kb s) : Kp kb (sbRead s a wide) := by
  unfold sbRead; grind (splits := 14) (gen := 60) (ematch := 60) [Option.map_eq_some_iff, Option.bind_eq_some_iff, ← Kp.upd2, ← OKp.next, ← MKp.some, ← Kp.getD, ← Kp.foldl, ← Kp.foldl1, ← Kp.foldl2, ← Kp.foldl3, ← writeBytes_wf, ← wf_filter, wf_nil, ← read32_kp, ← read64_kp, ← sbAnswer_kp, ← sbRefuse_kp]

theorem sbWrite_kp (s : State) (a : BitVec 32) (v : Nat) (wide : Bool) (e : BootEnv)
    (h0 : Kp kb s) : Kp kb (sbWrite s a v wide e) := by
  unfold sbWrite; grind (splits := 14) (gen := 60) (ematch := 60) [Option.map_eq_some_iff, Option.bind_eq_some_iff, ← Kp.upd2, ← OKp.next, ← MKp.some, ← Kp.getD, ← Kp.foldl, ← Kp.foldl1, ← Kp.foldl2, ← Kp.foldl3, ← writeBytes_wf, ← wf_filter, wf_nil, ← rstWrite_kp, ← sbAnswer_kp, ← sbRefuse_kp, ← writeWin_kp]

theorem execSidebandRead32_kp (a : BitVec 32) (s : State)
    (h0 : Kp kb s) : OKp kb (execSidebandRead32 a s) := by
  unfold execSidebandRead32; grind (splits := 14) (gen := 60) (ematch := 60) [Option.map_eq_some_iff, Option.bind_eq_some_iff, ← Kp.upd2, ← OKp.next, ← MKp.some, ← Kp.getD, ← Kp.foldl, ← Kp.foldl1, ← Kp.foldl2, ← Kp.foldl3, ← writeBytes_wf, ← wf_filter, wf_nil, ← sbRead_kp]

theorem execSidebandWrite32_kp (a : BitVec 32) (v : BitVec 32) (e : BootEnv) (s : State)
    (h0 : Kp kb s) : OKp kb (execSidebandWrite32 a v e s) := by
  unfold execSidebandWrite32; grind (splits := 14) (gen := 60) (ematch := 60) [Option.map_eq_some_iff, Option.bind_eq_some_iff, ← Kp.upd2, ← OKp.next, ← MKp.some, ← Kp.getD, ← Kp.foldl, ← Kp.foldl1, ← Kp.foldl2, ← Kp.foldl3, ← writeBytes_wf, ← wf_filter, wf_nil, ← sbWrite_kp]

theorem execSidebandRead64_kp (a : BitVec 32) (s : State)
    (h0 : Kp kb s) : OKp kb (execSidebandRead64 a s) := by
  unfold execSidebandRead64; grind (splits := 14) (gen := 60) (ematch := 60) [Option.map_eq_some_iff, Option.bind_eq_some_iff, ← Kp.upd2, ← OKp.next, ← MKp.some, ← Kp.getD, ← Kp.foldl, ← Kp.foldl1, ← Kp.foldl2, ← Kp.foldl3, ← writeBytes_wf, ← wf_filter, wf_nil, ← sbRead_kp]

theorem execSidebandWrite64_kp (a : BitVec 32) (v : BitVec 64) (e : BootEnv) (s : State)
    (h0 : Kp kb s) : OKp kb (execSidebandWrite64 a v e s) := by
  unfold execSidebandWrite64; grind (splits := 14) (gen := 60) (ematch := 60) [Option.map_eq_some_iff, Option.bind_eq_some_iff, ← Kp.upd2, ← OKp.next, ← MKp.some, ← Kp.getD, ← Kp.foldl, ← Kp.foldl1, ← Kp.foldl2, ← Kp.foldl3, ← writeBytes_wf, ← wf_filter, wf_nil, ← sbWrite_kp]

end Sys2Proof.Machine
end

