-- ==== Sys2Proof/Laws/Keep12.lean ====
section
/-!
SUPPORT. Laws/Keep12.lean: each function of Machine/Inject
that answers a state keeps the queue, the fuses and the canonical form.
-/
namespace Sys2Proof.Machine

open Sys2Proof

variable {kb : State}

/-! ## Machine/Inject.lean -/

theorem arm_kp (s : State) (p : PageKind) (f : Fld) (inst : Nat)
    (h0 : Kp kb s) : Kp kb (arm s p f inst) := by
  unfold arm; grind (splits := 14) (gen := 60) (ematch := 60) [Option.map_eq_some_iff, Option.bind_eq_some_iff, ← Kp.upd2, ← OKp.next, ← MKp.some, ← Kp.getD, ← Kp.foldl, ← Kp.foldl1, ← Kp.foldl2, ← Kp.foldl3, ← writeBytes_wf, ← wf_filter, wf_nil, ← State.setFld_kp]

theorem execMldInjAccOvf_kp (c : Core) (s : State)
    (h0 : Kp kb s) : OKp kb (execMldInjAccOvf c s) := by
  unfold execMldInjAccOvf; grind (splits := 14) (gen := 60) (ematch := 60) [Option.map_eq_some_iff, Option.bind_eq_some_iff, ← Kp.upd2, ← OKp.next, ← MKp.some, ← Kp.getD, ← Kp.foldl, ← Kp.foldl1, ← Kp.foldl2, ← Kp.foldl3, ← writeBytes_wf, ← wf_filter, wf_nil, ← arm_kp]

theorem execMldInjOpndCrc1_kp (c : Core) (s : State)
    (h0 : Kp kb s) : OKp kb (execMldInjOpndCrc1 c s) := by
  unfold execMldInjOpndCrc1; grind (splits := 14) (gen := 60) (ematch := 60) [Option.map_eq_some_iff, Option.bind_eq_some_iff, ← Kp.upd2, ← OKp.next, ← MKp.some, ← Kp.getD, ← Kp.foldl, ← Kp.foldl1, ← Kp.foldl2, ← Kp.foldl3, ← writeBytes_wf, ← wf_filter, wf_nil, ← arm_kp]

theorem execMldInjOpndCrc2_kp (c : Core) (s : State)
    (h0 : Kp kb s) : OKp kb (execMldInjOpndCrc2 c s) := by
  unfold execMldInjOpndCrc2; grind (splits := 14) (gen := 60) (ematch := 60) [Option.map_eq_some_iff, Option.bind_eq_some_iff, ← Kp.upd2, ← OKp.next, ← MKp.some, ← Kp.getD, ← Kp.foldl, ← Kp.foldl1, ← Kp.foldl2, ← Kp.foldl3, ← writeBytes_wf, ← wf_filter, wf_nil, ← arm_kp]

theorem execMldInjAccUe_kp (c : Core) (s : State)
    (h0 : Kp kb s) : OKp kb (execMldInjAccUe c s) := by
  unfold execMldInjAccUe; grind (splits := 14) (gen := 60) (ematch := 60) [Option.map_eq_some_iff, Option.bind_eq_some_iff, ← Kp.upd2, ← OKp.next, ← MKp.some, ← Kp.getD, ← Kp.foldl, ← Kp.foldl1, ← Kp.foldl2, ← Kp.foldl3, ← writeBytes_wf, ← wf_filter, wf_nil, ← arm_kp]

theorem execMldInjStatPar_kp (c : Core) (s : State)
    (h0 : Kp kb s) : OKp kb (execMldInjStatPar c s) := by
  unfold execMldInjStatPar; grind (splits := 14) (gen := 60) (ematch := 60) [Option.map_eq_some_iff, Option.bind_eq_some_iff, ← Kp.upd2, ← OKp.next, ← MKp.some, ← Kp.getD, ← Kp.foldl, ← Kp.foldl1, ← Kp.foldl2, ← Kp.foldl3, ← writeBytes_wf, ← wf_filter, wf_nil, ← arm_kp]

theorem execAsyInjCapUe_kp (c : Core) (s : State)
    (h0 : Kp kb s) : OKp kb (execAsyInjCapUe c s) := by
  unfold execAsyInjCapUe; grind (splits := 14) (gen := 60) (ematch := 60) [Option.map_eq_some_iff, Option.bind_eq_some_iff, ← Kp.upd2, ← OKp.next, ← MKp.some, ← Kp.getD, ← Kp.foldl, ← Kp.foldl1, ← Kp.foldl2, ← Kp.foldl3, ← writeBytes_wf, ← wf_filter, wf_nil, ← arm_kp]

theorem execAsyInjImgCrc1_kp (c : Core) (s : State)
    (h0 : Kp kb s) : OKp kb (execAsyInjImgCrc1 c s) := by
  unfold execAsyInjImgCrc1; grind (splits := 14) (gen := 60) (ematch := 60) [Option.map_eq_some_iff, Option.bind_eq_some_iff, ← Kp.upd2, ← OKp.next, ← MKp.some, ← Kp.getD, ← Kp.foldl, ← Kp.foldl1, ← Kp.foldl2, ← Kp.foldl3, ← writeBytes_wf, ← wf_filter, wf_nil, ← arm_kp]

theorem execAsyInjImgCrc2_kp (c : Core) (s : State)
    (h0 : Kp kb s) : OKp kb (execAsyInjImgCrc2 c s) := by
  unfold execAsyInjImgCrc2; grind (splits := 14) (gen := 60) (ematch := 60) [Option.map_eq_some_iff, Option.bind_eq_some_iff, ← Kp.upd2, ← OKp.next, ← MKp.some, ← Kp.getD, ← Kp.foldl, ← Kp.foldl1, ← Kp.foldl2, ← Kp.foldl3, ← writeBytes_wf, ← wf_filter, wf_nil, ← arm_kp]

theorem execAsyInjBlkNf_kp (c : Core) (s : State)
    (h0 : Kp kb s) : OKp kb (execAsyInjBlkNf c s) := by
  unfold execAsyInjBlkNf; grind (splits := 14) (gen := 60) (ematch := 60) [Option.map_eq_some_iff, Option.bind_eq_some_iff, ← Kp.upd2, ← OKp.next, ← MKp.some, ← Kp.getD, ← Kp.foldl, ← Kp.foldl1, ← Kp.foldl2, ← Kp.foldl3, ← writeBytes_wf, ← wf_filter, wf_nil, ← arm_kp]

theorem execCruInjStoreUe_kp (c : Core) (s : State)
    (h0 : Kp kb s) : OKp kb (execCruInjStoreUe c s) := by
  unfold execCruInjStoreUe; grind (splits := 14) (gen := 60) (ematch := 60) [Option.map_eq_some_iff, Option.bind_eq_some_iff, ← Kp.upd2, ← OKp.next, ← MKp.some, ← Kp.getD, ← Kp.foldl, ← Kp.foldl1, ← Kp.foldl2, ← Kp.foldl3, ← writeBytes_wf, ← wf_filter, wf_nil, ← arm_kp]

theorem execCruInjPivot_kp (c : Core) (s : State)
    (h0 : Kp kb s) : OKp kb (execCruInjPivot c s) := by
  unfold execCruInjPivot; grind (splits := 14) (gen := 60) (ematch := 60) [Option.map_eq_some_iff, Option.bind_eq_some_iff, ← Kp.upd2, ← OKp.next, ← MKp.some, ← Kp.getD, ← Kp.foldl, ← Kp.foldl1, ← Kp.foldl2, ← Kp.foldl3, ← writeBytes_wf, ← wf_filter, wf_nil, ← arm_kp]

theorem execCruInjImgCrc1_kp (c : Core) (s : State)
    (h0 : Kp kb s) : OKp kb (execCruInjImgCrc1 c s) := by
  unfold execCruInjImgCrc1; grind (splits := 14) (gen := 60) (ematch := 60) [Option.map_eq_some_iff, Option.bind_eq_some_iff, ← Kp.upd2, ← OKp.next, ← MKp.some, ← Kp.getD, ← Kp.foldl, ← Kp.foldl1, ← Kp.foldl2, ← Kp.foldl3, ← writeBytes_wf, ← wf_filter, wf_nil, ← arm_kp]

theorem execCruInjImgCrc2_kp (c : Core) (s : State)
    (h0 : Kp kb s) : OKp kb (execCruInjImgCrc2 c s) := by
  unfold execCruInjImgCrc2; grind (splits := 14) (gen := 60) (ematch := 60) [Option.map_eq_some_iff, Option.bind_eq_some_iff, ← Kp.upd2, ← OKp.next, ← MKp.some, ← Kp.getD, ← Kp.foldl, ← Kp.foldl1, ← Kp.foldl2, ← Kp.foldl3, ← writeBytes_wf, ← wf_filter, wf_nil, ← arm_kp]

theorem execCruInjSat_kp (c : Core) (s : State)
    (h0 : Kp kb s) : OKp kb (execCruInjSat c s) := by
  unfold execCruInjSat; grind (splits := 14) (gen := 60) (ematch := 60) [Option.map_eq_some_iff, Option.bind_eq_some_iff, ← Kp.upd2, ← OKp.next, ← MKp.some, ← Kp.getD, ← Kp.foldl, ← Kp.foldl1, ← Kp.foldl2, ← Kp.foldl3, ← writeBytes_wf, ← wf_filter, wf_nil, ← arm_kp]

theorem execLdlInjCacheUe_kp (c : Core) (s : State)
    (h0 : Kp kb s) : OKp kb (execLdlInjCacheUe c s) := by
  unfold execLdlInjCacheUe; grind (splits := 14) (gen := 60) (ematch := 60) [Option.map_eq_some_iff, Option.bind_eq_some_iff, ← Kp.upd2, ← OKp.next, ← MKp.some, ← Kp.getD, ← Kp.foldl, ← Kp.foldl1, ← Kp.foldl2, ← Kp.foldl3, ← writeBytes_wf, ← wf_filter, wf_nil, ← arm_kp]

theorem execLdlInjTunCrc1_kp (c : Core) (s : State)
    (h0 : Kp kb s) : OKp kb (execLdlInjTunCrc1 c s) := by
  unfold execLdlInjTunCrc1; grind (splits := 14) (gen := 60) (ematch := 60) [Option.map_eq_some_iff, Option.bind_eq_some_iff, ← Kp.upd2, ← OKp.next, ← MKp.some, ← Kp.getD, ← Kp.foldl, ← Kp.foldl1, ← Kp.foldl2, ← Kp.foldl3, ← writeBytes_wf, ← wf_filter, wf_nil, ← arm_kp]

theorem execLdlInjTunCrc2_kp (c : Core) (s : State)
    (h0 : Kp kb s) : OKp kb (execLdlInjTunCrc2 c s) := by
  unfold execLdlInjTunCrc2; grind (splits := 14) (gen := 60) (ematch := 60) [Option.map_eq_some_iff, Option.bind_eq_some_iff, ← Kp.upd2, ← OKp.next, ← MKp.some, ← Kp.getD, ← Kp.foldl, ← Kp.foldl1, ← Kp.foldl2, ← Kp.foldl3, ← writeBytes_wf, ← wf_filter, wf_nil, ← arm_kp]

theorem execLdlInjRegPar_kp (c : Core) (s : State)
    (h0 : Kp kb s) : OKp kb (execLdlInjRegPar c s) := by
  unfold execLdlInjRegPar; grind (splits := 14) (gen := 60) (ematch := 60) [Option.map_eq_some_iff, Option.bind_eq_some_iff, ← Kp.upd2, ← OKp.next, ← MKp.some, ← Kp.getD, ← Kp.foldl, ← Kp.foldl1, ← Kp.foldl2, ← Kp.foldl3, ← writeBytes_wf, ← wf_filter, wf_nil, ← arm_kp]

theorem execSprInjDescCrc1_kp (c : Core) (s : State)
    (h0 : Kp kb s) : OKp kb (execSprInjDescCrc1 c s) := by
  unfold execSprInjDescCrc1; grind (splits := 14) (gen := 60) (ematch := 60) [Option.map_eq_some_iff, Option.bind_eq_some_iff, ← Kp.upd2, ← OKp.next, ← MKp.some, ← Kp.getD, ← Kp.foldl, ← Kp.foldl1, ← Kp.foldl2, ← Kp.foldl3, ← writeBytes_wf, ← wf_filter, wf_nil, ← arm_kp]

theorem execSprInjDescCrc2_kp (c : Core) (s : State)
    (h0 : Kp kb s) : OKp kb (execSprInjDescCrc2 c s) := by
  unfold execSprInjDescCrc2; grind (splits := 14) (gen := 60) (ematch := 60) [Option.map_eq_some_iff, Option.bind_eq_some_iff, ← Kp.upd2, ← OKp.next, ← MKp.some, ← Kp.getD, ← Kp.foldl, ← Kp.foldl1, ← Kp.foldl2, ← Kp.foldl3, ← writeBytes_wf, ← wf_filter, wf_nil, ← arm_kp]

theorem execSprInjPatUe_kp (c : Core) (s : State)
    (h0 : Kp kb s) : OKp kb (execSprInjPatUe c s) := by
  unfold execSprInjPatUe; grind (splits := 14) (gen := 60) (ematch := 60) [Option.map_eq_some_iff, Option.bind_eq_some_iff, ← Kp.upd2, ← OKp.next, ← MKp.some, ← Kp.getD, ← Kp.foldl, ← Kp.foldl1, ← Kp.foldl2, ← Kp.foldl3, ← writeBytes_wf, ← wf_filter, wf_nil, ← arm_kp]

theorem execFrmInjChkFail_kp (s : State)
    (h0 : Kp kb s) : OKp kb (execFrmInjChkFail s) := by
  unfold execFrmInjChkFail; grind (splits := 14) (gen := 60) (ematch := 60) [Option.map_eq_some_iff, Option.bind_eq_some_iff, ← Kp.upd2, ← OKp.next, ← MKp.some, ← Kp.getD, ← Kp.foldl, ← Kp.foldl1, ← Kp.foldl2, ← Kp.foldl3, ← writeBytes_wf, ← wf_filter, wf_nil, ← arm_kp]

theorem execFrmInjLate_kp (s : State)
    (h0 : Kp kb s) : OKp kb (execFrmInjLate s) := by
  unfold execFrmInjLate; grind (splits := 14) (gen := 60) (ematch := 60) [Option.map_eq_some_iff, Option.bind_eq_some_iff, ← Kp.upd2, ← OKp.next, ← MKp.some, ← Kp.getD, ← Kp.foldl, ← Kp.foldl1, ← Kp.foldl2, ← Kp.foldl3, ← writeBytes_wf, ← wf_filter, wf_nil, ← arm_kp]

theorem execFrmInjAlignLoss_kp (s : State)
    (h0 : Kp kb s) : OKp kb (execFrmInjAlignLoss s) := by
  unfold execFrmInjAlignLoss; grind (splits := 14) (gen := 60) (ematch := 60) [Option.map_eq_some_iff, Option.bind_eq_some_iff, ← Kp.upd2, ← OKp.next, ← MKp.some, ← Kp.getD, ← Kp.foldl, ← Kp.foldl1, ← Kp.foldl2, ← Kp.foldl3, ← writeBytes_wf, ← wf_filter, wf_nil, ← arm_kp]

theorem execTunInjCe_kp (d : Die) (s : State)
    (h0 : Kp kb s) : OKp kb (execTunInjCe d s) := by
  unfold execTunInjCe; grind (splits := 14) (gen := 60) (ematch := 60) [Option.map_eq_some_iff, Option.bind_eq_some_iff, ← Kp.upd2, ← OKp.next, ← MKp.some, ← Kp.getD, ← Kp.foldl, ← Kp.foldl1, ← Kp.foldl2, ← Kp.foldl3, ← writeBytes_wf, ← wf_filter, wf_nil, ← arm_kp]

theorem execTunInjUe_kp (d : Die) (s : State)
    (h0 : Kp kb s) : OKp kb (execTunInjUe d s) := by
  unfold execTunInjUe; grind (splits := 14) (gen := 60) (ematch := 60) [Option.map_eq_some_iff, Option.bind_eq_some_iff, ← Kp.upd2, ← OKp.next, ← MKp.some, ← Kp.getD, ← Kp.foldl, ← Kp.foldl1, ← Kp.foldl2, ← Kp.foldl3, ← writeBytes_wf, ← wf_filter, wf_nil, ← arm_kp]

theorem execTunInjSidecar_kp (d : Die) (s : State)
    (h0 : Kp kb s) : OKp kb (execTunInjSidecar d s) := by
  unfold execTunInjSidecar; grind (splits := 14) (gen := 60) (ematch := 60) [Option.map_eq_some_iff, Option.bind_eq_some_iff, ← Kp.upd2, ← OKp.next, ← MKp.some, ← Kp.getD, ← Kp.foldl, ← Kp.foldl1, ← Kp.foldl2, ← Kp.foldl3, ← writeBytes_wf, ← wf_filter, wf_nil, ← arm_kp]

theorem execRunInjSrcCrc1_kp (c : Core) (s : State)
    (h0 : Kp kb s) : OKp kb (execRunInjSrcCrc1 c s) := by
  unfold execRunInjSrcCrc1; grind (splits := 14) (gen := 60) (ematch := 60) [Option.map_eq_some_iff, Option.bind_eq_some_iff, ← Kp.upd2, ← OKp.next, ← MKp.some, ← Kp.getD, ← Kp.foldl, ← Kp.foldl1, ← Kp.foldl2, ← Kp.foldl3, ← writeBytes_wf, ← wf_filter, wf_nil, ← arm_kp]

theorem execRunInjSrcCrc2_kp (c : Core) (s : State)
    (h0 : Kp kb s) : OKp kb (execRunInjSrcCrc2 c s) := by
  unfold execRunInjSrcCrc2; grind (splits := 14) (gen := 60) (ematch := 60) [Option.map_eq_some_iff, Option.bind_eq_some_iff, ← Kp.upd2, ← OKp.next, ← MKp.some, ← Kp.getD, ← Kp.foldl, ← Kp.foldl1, ← Kp.foldl2, ← Kp.foldl3, ← writeBytes_wf, ← wf_filter, wf_nil, ← arm_kp]

theorem execRunInjRemoteErr_kp (c : Core) (s : State)
    (h0 : Kp kb s) : OKp kb (execRunInjRemoteErr c s) := by
  unfold execRunInjRemoteErr; grind (splits := 14) (gen := 60) (ematch := 60) [Option.map_eq_some_iff, Option.bind_eq_some_iff, ← Kp.upd2, ← OKp.next, ← MKp.some, ← Kp.getD, ← Kp.foldl, ← Kp.foldl1, ← Kp.foldl2, ← Kp.foldl3, ← writeBytes_wf, ← wf_filter, wf_nil, ← arm_kp]

theorem execHbmInjCe_kp (k : Stack) (s : State)
    (h0 : Kp kb s) : OKp kb (execHbmInjCe k s) := by
  unfold execHbmInjCe; grind (splits := 14) (gen := 60) (ematch := 60) [Option.map_eq_some_iff, Option.bind_eq_some_iff, ← Kp.upd2, ← OKp.next, ← MKp.some, ← Kp.getD, ← Kp.foldl, ← Kp.foldl1, ← Kp.foldl2, ← Kp.foldl3, ← writeBytes_wf, ← wf_filter, wf_nil, ← arm_kp]

theorem execHbmInjUe_kp (k : Stack) (s : State)
    (h0 : Kp kb s) : OKp kb (execHbmInjUe k s) := by
  unfold execHbmInjUe; grind (splits := 14) (gen := 60) (ematch := 60) [Option.map_eq_some_iff, Option.bind_eq_some_iff, ← Kp.upd2, ← OKp.next, ← MKp.some, ← Kp.getD, ← Kp.foldl, ← Kp.foldl1, ← Kp.foldl2, ← Kp.foldl3, ← writeBytes_wf, ← wf_filter, wf_nil, ← arm_kp]

theorem execHbmInjPar1_kp (k : Stack) (s : State)
    (h0 : Kp kb s) : OKp kb (execHbmInjPar1 k s) := by
  unfold execHbmInjPar1; grind (splits := 14) (gen := 60) (ematch := 60) [Option.map_eq_some_iff, Option.bind_eq_some_iff, ← Kp.upd2, ← OKp.next, ← MKp.some, ← Kp.getD, ← Kp.foldl, ← Kp.foldl1, ← Kp.foldl2, ← Kp.foldl3, ← writeBytes_wf, ← wf_filter, wf_nil, ← arm_kp]

theorem execHbmInjHot_kp (k : Stack) (s : State)
    (h0 : Kp kb s) : OKp kb (execHbmInjHot k s) := by
  unfold execHbmInjHot; grind (splits := 14) (gen := 60) (ematch := 60) [Option.map_eq_some_iff, Option.bind_eq_some_iff, ← Kp.upd2, ← OKp.next, ← MKp.some, ← Kp.getD, ← Kp.foldl, ← Kp.foldl1, ← Kp.foldl2, ← Kp.foldl3, ← writeBytes_wf, ← wf_filter, wf_nil, ← arm_kp]

theorem execIngInjRetry_kp (s : State)
    (h0 : Kp kb s) : OKp kb (execIngInjRetry s) := by
  unfold execIngInjRetry; grind (splits := 14) (gen := 60) (ematch := 60) [Option.map_eq_some_iff, Option.bind_eq_some_iff, ← Kp.upd2, ← OKp.next, ← MKp.some, ← Kp.getD, ← Kp.foldl, ← Kp.foldl1, ← Kp.foldl2, ← Kp.foldl3, ← writeBytes_wf, ← wf_filter, wf_nil, ← arm_kp]

theorem execIngInjReadFail_kp (s : State)
    (h0 : Kp kb s) : OKp kb (execIngInjReadFail s) := by
  unfold execIngInjReadFail; grind (splits := 14) (gen := 60) (ematch := 60) [Option.map_eq_some_iff, Option.bind_eq_some_iff, ← Kp.upd2, ← OKp.next, ← MKp.some, ← Kp.getD, ← Kp.foldl, ← Kp.foldl1, ← Kp.foldl2, ← Kp.foldl3, ← writeBytes_wf, ← wf_filter, wf_nil, ← arm_kp]

theorem execIngInjProgFail_kp (s : State)
    (h0 : Kp kb s) : OKp kb (execIngInjProgFail s) := by
  unfold execIngInjProgFail; grind (splits := 14) (gen := 60) (ematch := 60) [Option.map_eq_some_iff, Option.bind_eq_some_iff, ← Kp.upd2, ← OKp.next, ← MKp.some, ← Kp.getD, ← Kp.foldl, ← Kp.foldl1, ← Kp.foldl2, ← Kp.foldl3, ← writeBytes_wf, ← wf_filter, wf_nil, ← arm_kp]

theorem execIngInjWbEmpty_kp (s : State)
    (h0 : Kp kb s) : OKp kb (execIngInjWbEmpty s) := by
  unfold execIngInjWbEmpty; grind (splits := 14) (gen := 60) (ematch := 60) [Option.map_eq_some_iff, Option.bind_eq_some_iff, ← Kp.upd2, ← OKp.next, ← MKp.some, ← Kp.getD, ← Kp.foldl, ← Kp.foldl1, ← Kp.foldl2, ← Kp.foldl3, ← writeBytes_wf, ← wf_filter, wf_nil, ← arm_kp]

theorem execAvlInjLcrc_kp (p : Port) (s : State)
    (h0 : Kp kb s) : OKp kb (execAvlInjLcrc p s) := by
  unfold execAvlInjLcrc; grind (splits := 14) (gen := 60) (ematch := 60) [Option.map_eq_some_iff, Option.bind_eq_some_iff, ← Kp.upd2, ← OKp.next, ← MKp.some, ← Kp.getD, ← Kp.foldl, ← Kp.foldl1, ← Kp.foldl2, ← Kp.foldl3, ← writeBytes_wf, ← wf_filter, wf_nil, ← arm_kp]

theorem execAvlInjUncorr_kp (p : Port) (s : State)
    (h0 : Kp kb s) : OKp kb (execAvlInjUncorr p s) := by
  unfold execAvlInjUncorr; grind (splits := 14) (gen := 60) (ematch := 60) [Option.map_eq_some_iff, Option.bind_eq_some_iff, ← Kp.upd2, ← OKp.next, ← MKp.some, ← Kp.getD, ← Kp.foldl, ← Kp.foldl1, ← Kp.foldl2, ← Kp.foldl3, ← writeBytes_wf, ← wf_filter, wf_nil, ← arm_kp]

theorem execAvlInjLaneBad_kp (p : Port) (s : State)
    (h0 : Kp kb s) : OKp kb (execAvlInjLaneBad p s) := by
  unfold execAvlInjLaneBad; grind (splits := 14) (gen := 60) (ematch := 60) [Option.map_eq_some_iff, Option.bind_eq_some_iff, ← Kp.upd2, ← OKp.next, ← MKp.some, ← Kp.getD, ← Kp.foldl, ← Kp.foldl1, ← Kp.foldl2, ← Kp.foldl3, ← writeBytes_wf, ← wf_filter, wf_nil, ← arm_kp]

theorem execAvlInjAuth_kp (p : Port) (s : State)
    (h0 : Kp kb s) : OKp kb (execAvlInjAuth p s) := by
  unfold execAvlInjAuth; grind (splits := 14) (gen := 60) (ematch := 60) [Option.map_eq_some_iff, Option.bind_eq_some_iff, ← Kp.upd2, ← OKp.next, ← MKp.some, ← Kp.getD, ← Kp.foldl, ← Kp.foldl1, ← Kp.foldl2, ← Kp.foldl3, ← writeBytes_wf, ← wf_filter, wf_nil, ← arm_kp]

theorem execRoutInjUnreach_kp (s : State)
    (h0 : Kp kb s) : OKp kb (execRoutInjUnreach s) := by
  unfold execRoutInjUnreach; grind (splits := 14) (gen := 60) (ematch := 60) [Option.map_eq_some_iff, Option.bind_eq_some_iff, ← Kp.upd2, ← OKp.next, ← MKp.some, ← Kp.getD, ← Kp.foldl, ← Kp.foldl1, ← Kp.foldl2, ← Kp.foldl3, ← writeBytes_wf, ← wf_filter, wf_nil, ← arm_kp]

theorem execRoutInjTimeout_kp (s : State)
    (h0 : Kp kb s) : OKp kb (execRoutInjTimeout s) := by
  unfold execRoutInjTimeout; grind (splits := 14) (gen := 60) (ematch := 60) [Option.map_eq_some_iff, Option.bind_eq_some_iff, ← Kp.upd2, ← OKp.next, ← MKp.some, ← Kp.getD, ← Kp.foldl, ← Kp.foldl1, ← Kp.foldl2, ← Kp.foldl3, ← writeBytes_wf, ← wf_filter, wf_nil, ← arm_kp]

theorem execColInjStale_kp (s : State)
    (h0 : Kp kb s) : OKp kb (execColInjStale s) := by
  unfold execColInjStale; grind (splits := 14) (gen := 60) (ematch := 60) [Option.map_eq_some_iff, Option.bind_eq_some_iff, ← Kp.upd2, ← OKp.next, ← MKp.some, ← Kp.getD, ← Kp.foldl, ← Kp.foldl1, ← Kp.foldl2, ← Kp.foldl3, ← writeBytes_wf, ← wf_filter, wf_nil, ← arm_kp]

theorem execColInjChunkCrc1_kp (s : State)
    (h0 : Kp kb s) : OKp kb (execColInjChunkCrc1 s) := by
  unfold execColInjChunkCrc1; grind (splits := 14) (gen := 60) (ematch := 60) [Option.map_eq_some_iff, Option.bind_eq_some_iff, ← Kp.upd2, ← OKp.next, ← MKp.some, ← Kp.getD, ← Kp.foldl, ← Kp.foldl1, ← Kp.foldl2, ← Kp.foldl3, ← writeBytes_wf, ← wf_filter, wf_nil, ← arm_kp]

theorem execColInjChunkCrc2_kp (s : State)
    (h0 : Kp kb s) : OKp kb (execColInjChunkCrc2 s) := by
  unfold execColInjChunkCrc2; grind (splits := 14) (gen := 60) (ematch := 60) [Option.map_eq_some_iff, Option.bind_eq_some_iff, ← Kp.upd2, ← OKp.next, ← MKp.some, ← Kp.getD, ← Kp.foldl, ← Kp.foldl1, ← Kp.foldl2, ← Kp.foldl3, ← writeBytes_wf, ← wf_filter, wf_nil, ← arm_kp]

theorem execSwInjSealFlip_kp (s : State)
    (h0 : Kp kb s) : OKp kb (execSwInjSealFlip s) := by
  unfold execSwInjSealFlip; grind (splits := 14) (gen := 60) (ematch := 60) [Option.map_eq_some_iff, Option.bind_eq_some_iff, ← Kp.upd2, ← OKp.next, ← MKp.some, ← Kp.getD, ← Kp.foldl, ← Kp.foldl1, ← Kp.foldl2, ← Kp.foldl3, ← writeBytes_wf, ← wf_filter, wf_nil, ← arm_kp]

theorem execSwInjBallotDrop_kp (s : State)
    (h0 : Kp kb s) : OKp kb (execSwInjBallotDrop s) := by
  unfold execSwInjBallotDrop; grind (splits := 14) (gen := 60) (ematch := 60) [Option.map_eq_some_iff, Option.bind_eq_some_iff, ← Kp.upd2, ← OKp.next, ← MKp.some, ← Kp.getD, ← Kp.foldl, ← Kp.foldl1, ← Kp.foldl2, ← Kp.foldl3, ← writeBytes_wf, ← wf_filter, wf_nil, ← arm_kp]

theorem execJnlInjTorn_kp (s : State)
    (h0 : Kp kb s) : OKp kb (execJnlInjTorn s) := by
  unfold execJnlInjTorn; grind (splits := 14) (gen := 60) (ematch := 60) [Option.map_eq_some_iff, Option.bind_eq_some_iff, ← Kp.upd2, ← OKp.next, ← MKp.some, ← Kp.getD, ← Kp.foldl, ← Kp.foldl1, ← Kp.foldl2, ← Kp.foldl3, ← writeBytes_wf, ← wf_filter, wf_nil, ← arm_kp]

theorem execJnlInjRsrFull_kp (s : State)
    (h0 : Kp kb s) : OKp kb (execJnlInjRsrFull s) := by
  unfold execJnlInjRsrFull; grind (splits := 14) (gen := 60) (ematch := 60) [Option.map_eq_some_iff, Option.bind_eq_some_iff, ← Kp.upd2, ← OKp.next, ← MKp.some, ← Kp.getD, ← Kp.foldl, ← Kp.foldl1, ← Kp.foldl2, ← Kp.foldl3, ← writeBytes_wf, ← wf_filter, wf_nil, ← arm_kp]

theorem execJnlInjCalBad_kp (s : State)
    (h0 : Kp kb s) : OKp kb (execJnlInjCalBad s) := by
  unfold execJnlInjCalBad; grind (splits := 14) (gen := 60) (ematch := 60) [Option.map_eq_some_iff, Option.bind_eq_some_iff, ← Kp.upd2, ← OKp.next, ← MKp.some, ← Kp.getD, ← Kp.foldl, ← Kp.foldl1, ← Kp.foldl2, ← Kp.foldl3, ← writeBytes_wf, ← wf_filter, wf_nil, ← arm_kp]

theorem execPwrInjVinLow_kp (s : State)
    (h0 : Kp kb s) : OKp kb (execPwrInjVinLow s) := by
  unfold execPwrInjVinLow; grind (splits := 14) (gen := 60) (ematch := 60) [Option.map_eq_some_iff, Option.bind_eq_some_iff, ← Kp.upd2, ← OKp.next, ← MKp.some, ← Kp.getD, ← Kp.foldl, ← Kp.foldl1, ← Kp.foldl2, ← Kp.foldl3, ← writeBytes_wf, ← wf_filter, wf_nil, ← arm_kp]

theorem execPwrInjHot_kp (s : State)
    (h0 : Kp kb s) : OKp kb (execPwrInjHot s) := by
  unfold execPwrInjHot; grind (splits := 14) (gen := 60) (ematch := 60) [Option.map_eq_some_iff, Option.bind_eq_some_iff, ← Kp.upd2, ← OKp.next, ← MKp.some, ← Kp.getD, ← Kp.foldl, ← Kp.foldl1, ← Kp.foldl2, ← Kp.foldl3, ← writeBytes_wf, ← wf_filter, wf_nil, ← arm_kp]

theorem execPwrInjTrip_kp (s : State)
    (h0 : Kp kb s) : OKp kb (execPwrInjTrip s) := by
  unfold execPwrInjTrip; grind (splits := 14) (gen := 60) (ematch := 60) [Option.map_eq_some_iff, Option.bind_eq_some_iff, ← Kp.upd2, ← OKp.next, ← MKp.some, ← Kp.getD, ← Kp.foldl, ← Kp.foldl1, ← Kp.foldl2, ← Kp.foldl3, ← writeBytes_wf, ← wf_filter, wf_nil, ← arm_kp]

theorem execTruInjBadSig_kp (s : State)
    (h0 : Kp kb s) : OKp kb (execTruInjBadSig s) := by
  unfold execTruInjBadSig; grind (splits := 14) (gen := 60) (ematch := 60) [Option.map_eq_some_iff, Option.bind_eq_some_iff, ← Kp.upd2, ← OKp.next, ← MKp.some, ← Kp.getD, ← Kp.foldl, ← Kp.foldl1, ← Kp.foldl2, ← Kp.foldl3, ← writeBytes_wf, ← wf_filter, wf_nil, ← arm_kp]

theorem execTruInjRng_kp (s : State)
    (h0 : Kp kb s) : OKp kb (execTruInjRng s) := by
  unfold execTruInjRng; grind (splits := 14) (gen := 60) (ematch := 60) [Option.map_eq_some_iff, Option.bind_eq_some_iff, ← Kp.upd2, ← OKp.next, ← MKp.some, ← Kp.getD, ← Kp.foldl, ← Kp.foldl1, ← Kp.foldl2, ← Kp.foldl3, ← writeBytes_wf, ← wf_filter, wf_nil, ← arm_kp]

theorem execHdrParityInj_kp (a : BitVec 26) (s : State)
    (h0 : Kp kb s) : OKp kb (execHdrParityInj a s) := by
  unfold execHdrParityInj; grind (splits := 14) (gen := 60) (ematch := 60) [Option.map_eq_some_iff, Option.bind_eq_some_iff, ← Kp.upd2, ← OKp.next, ← MKp.some, ← Kp.getD, ← Kp.foldl, ← Kp.foldl1, ← Kp.foldl2, ← Kp.foldl3, ← writeBytes_wf, ← wf_filter, wf_nil, ← arm_kp, ← onPage_kp]

end Sys2Proof.Machine
end

