-- ==== Sys2Proof/Laws/State.lean ====
section
/-!
SUPPORT. Laws/State.lean: for each update of the state that the meanings share, one lemma per field: what it changes and that it
leaves every other field as it was. No later proof unfolds an update.
-/
namespace Sys2Proof.Machine

open Sys2Proof

section

set_option Elab.async false

/-! ### `State.setReg` -/

@[simp] theorem State.setReg_pending (s : State) (r : Reg) (v inst i : Nat) : (s.setReg r v inst i).pending = s.pending := rfl
@[simp] theorem State.setReg_ck (s : State) (r : Reg) (v inst i : Nat) : (s.setReg r v inst i).ck = s.ck := rfl
@[simp] theorem State.setReg_frameCk (s : State) (r : Reg) (v inst i : Nat) : (s.setReg r v inst i).frameCk = s.frameCk := rfl
@[simp] theorem State.setReg_trim (s : State) (r : Reg) (v inst i : Nat) : (s.setReg r v inst i).trim = s.trim := rfl
@[simp] theorem State.setReg_fuses (s : State) (r : Reg) (v inst i : Nat) : (s.setReg r v inst i).fuses = s.fuses := rfl
@[simp] theorem State.setReg_hiLatch (s : State) (r : Reg) (v inst i : Nat) : (s.setReg r v inst i).hiLatch = s.hiLatch := rfl
@[simp] theorem State.setReg_freeCtr (s : State) (r : Reg) (v inst i : Nat) : (s.setReg r v inst i).freeCtr = s.freeCtr := rfl
@[simp] theorem State.setReg_cores (s : State) (r : Reg) (v inst i : Nat) : (s.setReg r v inst i).cores = s.cores := rfl
@[simp] theorem State.setReg_tun (s : State) (r : Reg) (v inst i : Nat) : (s.setReg r v inst i).tun = s.tun := rfl
@[simp] theorem State.setReg_hbm (s : State) (r : Reg) (v inst i : Nat) : (s.setReg r v inst i).hbm = s.hbm := rfl
@[simp] theorem State.setReg_acc (s : State) (r : Reg) (v inst i : Nat) : (s.setReg r v inst i).acc = s.acc := rfl
@[simp] theorem State.setReg_ing (s : State) (r : Reg) (v inst i : Nat) : (s.setReg r v inst i).ing = s.ing := rfl
@[simp] theorem State.setReg_col (s : State) (r : Reg) (v inst i : Nat) : (s.setReg r v inst i).col = s.col := rfl
@[simp] theorem State.setReg_sweep (s : State) (r : Reg) (v inst i : Nat) : (s.setReg r v inst i).sweep = s.sweep := rfl
@[simp] theorem State.setReg_jnl (s : State) (r : Reg) (v inst i : Nat) : (s.setReg r v inst i).jnl = s.jnl := rfl
@[simp] theorem State.setReg_riser (s : State) (r : Reg) (v inst i : Nat) : (s.setReg r v inst i).riser = s.riser := rfl
@[simp] theorem State.setReg_life (s : State) (r : Reg) (v inst i : Nat) : (s.setReg r v inst i).life = s.life := rfl
@[simp] theorem State.setReg_lifeImg (s : State) (r : Reg) (v inst i : Nat) : (s.setReg r v inst i).lifeImg = s.lifeImg := rfl
@[simp] theorem State.setReg_lifeCk (s : State) (r : Reg) (v inst i : Nat) : (s.setReg r v inst i).lifeCk = s.lifeCk := rfl
@[simp] theorem State.setReg_hotCk (s : State) (r : Reg) (v inst i : Nat) : (s.setReg r v inst i).hotCk = s.hotCk := rfl
@[simp] theorem State.setReg_cal (s : State) (r : Reg) (v inst i : Nat) : (s.setReg r v inst i).cal = s.cal := rfl
@[simp] theorem State.setReg_ext (s : State) (r : Reg) (v inst i : Nat) : (s.setReg r v inst i).ext = s.ext := rfl
@[simp] theorem State.setReg_stag (s : State) (r : Reg) (v inst i : Nat) : (s.setReg r v inst i).stag = s.stag := rfl
@[simp] theorem State.setReg_remote (s : State) (r : Reg) (v inst i : Nat) : (s.setReg r v inst i).remote = s.remote := rfl
@[simp] theorem State.setReg_idleFrame (s : State) (r : Reg) (v inst i : Nat) : (s.setReg r v inst i).idleFrame = s.idleFrame := rfl
@[simp] theorem State.setReg_firstCk (s : State) (r : Reg) (v inst i : Nat) : (s.setReg r v inst i).firstCk = s.firstCk := rfl
@[simp] theorem State.setReg_strobes (s : State) (r : Reg) (v inst i : Nat) : (s.setReg r v inst i).strobes = s.strobes := rfl
@[simp] theorem State.setReg_inbox (s : State) (r : Reg) (v inst i : Nat) : (s.setReg r v inst i).inbox = s.inbox := rfl
@[simp] theorem State.setReg_transit (s : State) (r : Reg) (v inst i : Nat) : (s.setReg r v inst i).transit = s.transit := rfl
@[simp] theorem State.setReg_ports (s : State) (r : Reg) (v inst i : Nat) : (s.setReg r v inst i).ports = s.ports := rfl
@[simp] theorem State.setReg_pkNo (s : State) (r : Reg) (v inst i : Nat) : (s.setReg r v inst i).pkNo = s.pkNo := rfl
@[simp] theorem State.setReg_tc0 (s : State) (r : Reg) (v inst i : Nat) : (s.setReg r v inst i).tc0 = s.tc0 := rfl
@[simp] theorem State.setReg_unreach (s : State) (r : Reg) (v inst i : Nat) : (s.setReg r v inst i).unreach = s.unreach := rfl
@[simp] theorem State.setReg_stwRsp (s : State) (r : Reg) (v inst i : Nat) : (s.setReg r v inst i).stwRsp = s.stwRsp := rfl
@[simp] theorem State.setReg_noted (s : State) (r : Reg) (v inst i : Nat) : (s.setReg r v inst i).noted = s.noted := rfl
@[simp] theorem State.setReg_pwr (s : State) (r : Reg) (v inst i : Nat) : (s.setReg r v inst i).pwr = s.pwr := rfl
@[simp] theorem State.setReg_tru (s : State) (r : Reg) (v inst i : Nat) : (s.setReg r v inst i).tru = s.tru := rfl
@[simp] theorem State.setReg_lops (s : State) (r : Reg) (v inst i : Nat) : (s.setReg r v inst i).lops = s.lops := rfl
@[simp] theorem State.setReg_svc (s : State) (r : Reg) (v inst i : Nat) : (s.setReg r v inst i).svc = s.svc := rfl
@[simp] theorem State.setReg_core (s : State) (r : Reg) (v inst i : Nat) (c : Nat) : (s.setReg r v inst i).core c = s.core c := rfl
@[simp] theorem State.setReg_link (s : State) (r : Reg) (v inst i : Nat) (q : Nat) : (s.setReg r v inst i).link q = s.link q := rfl

/-! ### `State.setFld` -/

@[simp] theorem State.setFld_pending (s : State) (f : Fld) (v inst i : Nat) : (s.setFld f v inst i).pending = s.pending := rfl
@[simp] theorem State.setFld_ck (s : State) (f : Fld) (v inst i : Nat) : (s.setFld f v inst i).ck = s.ck := rfl
@[simp] theorem State.setFld_frameCk (s : State) (f : Fld) (v inst i : Nat) : (s.setFld f v inst i).frameCk = s.frameCk := rfl
@[simp] theorem State.setFld_trim (s : State) (f : Fld) (v inst i : Nat) : (s.setFld f v inst i).trim = s.trim := rfl
@[simp] theorem State.setFld_fuses (s : State) (f : Fld) (v inst i : Nat) : (s.setFld f v inst i).fuses = s.fuses := rfl
@[simp] theorem State.setFld_hiLatch (s : State) (f : Fld) (v inst i : Nat) : (s.setFld f v inst i).hiLatch = s.hiLatch := rfl
@[simp] theorem State.setFld_freeCtr (s : State) (f : Fld) (v inst i : Nat) : (s.setFld f v inst i).freeCtr = s.freeCtr := rfl
@[simp] theorem State.setFld_cores (s : State) (f : Fld) (v inst i : Nat) : (s.setFld f v inst i).cores = s.cores := rfl
@[simp] theorem State.setFld_tun (s : State) (f : Fld) (v inst i : Nat) : (s.setFld f v inst i).tun = s.tun := rfl
@[simp] theorem State.setFld_hbm (s : State) (f : Fld) (v inst i : Nat) : (s.setFld f v inst i).hbm = s.hbm := rfl
@[simp] theorem State.setFld_acc (s : State) (f : Fld) (v inst i : Nat) : (s.setFld f v inst i).acc = s.acc := rfl
@[simp] theorem State.setFld_ing (s : State) (f : Fld) (v inst i : Nat) : (s.setFld f v inst i).ing = s.ing := rfl
@[simp] theorem State.setFld_col (s : State) (f : Fld) (v inst i : Nat) : (s.setFld f v inst i).col = s.col := rfl
@[simp] theorem State.setFld_sweep (s : State) (f : Fld) (v inst i : Nat) : (s.setFld f v inst i).sweep = s.sweep := rfl
@[simp] theorem State.setFld_jnl (s : State) (f : Fld) (v inst i : Nat) : (s.setFld f v inst i).jnl = s.jnl := rfl
@[simp] theorem State.setFld_riser (s : State) (f : Fld) (v inst i : Nat) : (s.setFld f v inst i).riser = s.riser := rfl
@[simp] theorem State.setFld_life (s : State) (f : Fld) (v inst i : Nat) : (s.setFld f v inst i).life = s.life := rfl
@[simp] theorem State.setFld_lifeImg (s : State) (f : Fld) (v inst i : Nat) : (s.setFld f v inst i).lifeImg = s.lifeImg := rfl
@[simp] theorem State.setFld_lifeCk (s : State) (f : Fld) (v inst i : Nat) : (s.setFld f v inst i).lifeCk = s.lifeCk := rfl
@[simp] theorem State.setFld_hotCk (s : State) (f : Fld) (v inst i : Nat) : (s.setFld f v inst i).hotCk = s.hotCk := rfl
@[simp] theorem State.setFld_cal (s : State) (f : Fld) (v inst i : Nat) : (s.setFld f v inst i).cal = s.cal := rfl
@[simp] theorem State.setFld_ext (s : State) (f : Fld) (v inst i : Nat) : (s.setFld f v inst i).ext = s.ext := rfl
@[simp] theorem State.setFld_stag (s : State) (f : Fld) (v inst i : Nat) : (s.setFld f v inst i).stag = s.stag := rfl
@[simp] theorem State.setFld_remote (s : State) (f : Fld) (v inst i : Nat) : (s.setFld f v inst i).remote = s.remote := rfl
@[simp] theorem State.setFld_idleFrame (s : State) (f : Fld) (v inst i : Nat) : (s.setFld f v inst i).idleFrame = s.idleFrame := rfl
@[simp] theorem State.setFld_firstCk (s : State) (f : Fld) (v inst i : Nat) : (s.setFld f v inst i).firstCk = s.firstCk := rfl
@[simp] theorem State.setFld_strobes (s : State) (f : Fld) (v inst i : Nat) : (s.setFld f v inst i).strobes = s.strobes := rfl
@[simp] theorem State.setFld_inbox (s : State) (f : Fld) (v inst i : Nat) : (s.setFld f v inst i).inbox = s.inbox := rfl
@[simp] theorem State.setFld_transit (s : State) (f : Fld) (v inst i : Nat) : (s.setFld f v inst i).transit = s.transit := rfl
@[simp] theorem State.setFld_ports (s : State) (f : Fld) (v inst i : Nat) : (s.setFld f v inst i).ports = s.ports := rfl
@[simp] theorem State.setFld_pkNo (s : State) (f : Fld) (v inst i : Nat) : (s.setFld f v inst i).pkNo = s.pkNo := rfl
@[simp] theorem State.setFld_tc0 (s : State) (f : Fld) (v inst i : Nat) : (s.setFld f v inst i).tc0 = s.tc0 := rfl
@[simp] theorem State.setFld_unreach (s : State) (f : Fld) (v inst i : Nat) : (s.setFld f v inst i).unreach = s.unreach := rfl
@[simp] theorem State.setFld_stwRsp (s : State) (f : Fld) (v inst i : Nat) : (s.setFld f v inst i).stwRsp = s.stwRsp := rfl
@[simp] theorem State.setFld_noted (s : State) (f : Fld) (v inst i : Nat) : (s.setFld f v inst i).noted = s.noted := rfl
@[simp] theorem State.setFld_pwr (s : State) (f : Fld) (v inst i : Nat) : (s.setFld f v inst i).pwr = s.pwr := rfl
@[simp] theorem State.setFld_tru (s : State) (f : Fld) (v inst i : Nat) : (s.setFld f v inst i).tru = s.tru := rfl
@[simp] theorem State.setFld_lops (s : State) (f : Fld) (v inst i : Nat) : (s.setFld f v inst i).lops = s.lops := rfl
@[simp] theorem State.setFld_svc (s : State) (f : Fld) (v inst i : Nat) : (s.setFld f v inst i).svc = s.svc := rfl
@[simp] theorem State.setFld_core (s : State) (f : Fld) (v inst i : Nat) (c : Nat) : (s.setFld f v inst i).core c = s.core c := rfl
@[simp] theorem State.setFld_link (s : State) (f : Fld) (v inst i : Nat) (q : Nat) : (s.setFld f v inst i).link q = s.link q := rfl

/-! ### `State.setPageState` -/

@[simp] theorem State.setPageState_pending (s : State) (p : PageKind) (inst v : Nat) : (s.setPageState p inst v).pending = s.pending := rfl
@[simp] theorem State.setPageState_ck (s : State) (p : PageKind) (inst v : Nat) : (s.setPageState p inst v).ck = s.ck := rfl
@[simp] theorem State.setPageState_frameCk (s : State) (p : PageKind) (inst v : Nat) : (s.setPageState p inst v).frameCk = s.frameCk := rfl
@[simp] theorem State.setPageState_trim (s : State) (p : PageKind) (inst v : Nat) : (s.setPageState p inst v).trim = s.trim := rfl
@[simp] theorem State.setPageState_fuses (s : State) (p : PageKind) (inst v : Nat) : (s.setPageState p inst v).fuses = s.fuses := rfl
@[simp] theorem State.setPageState_hiLatch (s : State) (p : PageKind) (inst v : Nat) : (s.setPageState p inst v).hiLatch = s.hiLatch := rfl
@[simp] theorem State.setPageState_freeCtr (s : State) (p : PageKind) (inst v : Nat) : (s.setPageState p inst v).freeCtr = s.freeCtr := rfl
@[simp] theorem State.setPageState_cores (s : State) (p : PageKind) (inst v : Nat) : (s.setPageState p inst v).cores = s.cores := rfl
@[simp] theorem State.setPageState_tun (s : State) (p : PageKind) (inst v : Nat) : (s.setPageState p inst v).tun = s.tun := rfl
@[simp] theorem State.setPageState_hbm (s : State) (p : PageKind) (inst v : Nat) : (s.setPageState p inst v).hbm = s.hbm := rfl
@[simp] theorem State.setPageState_acc (s : State) (p : PageKind) (inst v : Nat) : (s.setPageState p inst v).acc = s.acc := rfl
@[simp] theorem State.setPageState_ing (s : State) (p : PageKind) (inst v : Nat) : (s.setPageState p inst v).ing = s.ing := rfl
@[simp] theorem State.setPageState_col (s : State) (p : PageKind) (inst v : Nat) : (s.setPageState p inst v).col = s.col := rfl
@[simp] theorem State.setPageState_sweep (s : State) (p : PageKind) (inst v : Nat) : (s.setPageState p inst v).sweep = s.sweep := rfl
@[simp] theorem State.setPageState_jnl (s : State) (p : PageKind) (inst v : Nat) : (s.setPageState p inst v).jnl = s.jnl := rfl
@[simp] theorem State.setPageState_riser (s : State) (p : PageKind) (inst v : Nat) : (s.setPageState p inst v).riser = s.riser := rfl
@[simp] theorem State.setPageState_life (s : State) (p : PageKind) (inst v : Nat) : (s.setPageState p inst v).life = s.life := rfl
@[simp] theorem State.setPageState_lifeImg (s : State) (p : PageKind) (inst v : Nat) : (s.setPageState p inst v).lifeImg = s.lifeImg := rfl
@[simp] theorem State.setPageState_lifeCk (s : State) (p : PageKind) (inst v : Nat) : (s.setPageState p inst v).lifeCk = s.lifeCk := rfl
@[simp] theorem State.setPageState_hotCk (s : State) (p : PageKind) (inst v : Nat) : (s.setPageState p inst v).hotCk = s.hotCk := rfl
@[simp] theorem State.setPageState_cal (s : State) (p : PageKind) (inst v : Nat) : (s.setPageState p inst v).cal = s.cal := rfl
@[simp] theorem State.setPageState_ext (s : State) (p : PageKind) (inst v : Nat) : (s.setPageState p inst v).ext = s.ext := rfl
@[simp] theorem State.setPageState_stag (s : State) (p : PageKind) (inst v : Nat) : (s.setPageState p inst v).stag = s.stag := rfl
@[simp] theorem State.setPageState_remote (s : State) (p : PageKind) (inst v : Nat) : (s.setPageState p inst v).remote = s.remote := rfl
@[simp] theorem State.setPageState_idleFrame (s : State) (p : PageKind) (inst v : Nat) : (s.setPageState p inst v).idleFrame = s.idleFrame := rfl
@[simp] theorem State.setPageState_firstCk (s : State) (p : PageKind) (inst v : Nat) : (s.setPageState p inst v).firstCk = s.firstCk := rfl
@[simp] theorem State.setPageState_strobes (s : State) (p : PageKind) (inst v : Nat) : (s.setPageState p inst v).strobes = s.strobes := rfl
@[simp] theorem State.setPageState_inbox (s : State) (p : PageKind) (inst v : Nat) : (s.setPageState p inst v).inbox = s.inbox := rfl
@[simp] theorem State.setPageState_transit (s : State) (p : PageKind) (inst v : Nat) : (s.setPageState p inst v).transit = s.transit := rfl
@[simp] theorem State.setPageState_ports (s : State) (p : PageKind) (inst v : Nat) : (s.setPageState p inst v).ports = s.ports := rfl
@[simp] theorem State.setPageState_pkNo (s : State) (p : PageKind) (inst v : Nat) : (s.setPageState p inst v).pkNo = s.pkNo := rfl
@[simp] theorem State.setPageState_tc0 (s : State) (p : PageKind) (inst v : Nat) : (s.setPageState p inst v).tc0 = s.tc0 := rfl
@[simp] theorem State.setPageState_unreach (s : State) (p : PageKind) (inst v : Nat) : (s.setPageState p inst v).unreach = s.unreach := rfl
@[simp] theorem State.setPageState_stwRsp (s : State) (p : PageKind) (inst v : Nat) : (s.setPageState p inst v).stwRsp = s.stwRsp := rfl
@[simp] theorem State.setPageState_noted (s : State) (p : PageKind) (inst v : Nat) : (s.setPageState p inst v).noted = s.noted := rfl
@[simp] theorem State.setPageState_pwr (s : State) (p : PageKind) (inst v : Nat) : (s.setPageState p inst v).pwr = s.pwr := rfl
@[simp] theorem State.setPageState_tru (s : State) (p : PageKind) (inst v : Nat) : (s.setPageState p inst v).tru = s.tru := rfl
@[simp] theorem State.setPageState_lops (s : State) (p : PageKind) (inst v : Nat) : (s.setPageState p inst v).lops = s.lops := rfl
@[simp] theorem State.setPageState_svc (s : State) (p : PageKind) (inst v : Nat) : (s.setPageState p inst v).svc = s.svc := rfl
@[simp] theorem State.setPageState_core (s : State) (p : PageKind) (inst v : Nat) (c : Nat) : (s.setPageState p inst v).core c = s.core c := rfl
@[simp] theorem State.setPageState_link (s : State) (p : PageKind) (inst v : Nat) (q : Nat) : (s.setPageState p inst v).link q = s.link q := rfl

/-! ### `State.bump` -/

@[simp] theorem State.bump_pending (s : State) (r : Reg) (k inst i : Nat) : (s.bump r k inst i).pending = s.pending := rfl
@[simp] theorem State.bump_ck (s : State) (r : Reg) (k inst i : Nat) : (s.bump r k inst i).ck = s.ck := rfl
@[simp] theorem State.bump_frameCk (s : State) (r : Reg) (k inst i : Nat) : (s.bump r k inst i).frameCk = s.frameCk := rfl
@[simp] theorem State.bump_trim (s : State) (r : Reg) (k inst i : Nat) : (s.bump r k inst i).trim = s.trim := rfl
@[simp] theorem State.bump_fuses (s : State) (r : Reg) (k inst i : Nat) : (s.bump r k inst i).fuses = s.fuses := rfl
@[simp] theorem State.bump_hiLatch (s : State) (r : Reg) (k inst i : Nat) : (s.bump r k inst i).hiLatch = s.hiLatch := rfl
@[simp] theorem State.bump_freeCtr (s : State) (r : Reg) (k inst i : Nat) : (s.bump r k inst i).freeCtr = s.freeCtr := rfl
@[simp] theorem State.bump_cores (s : State) (r : Reg) (k inst i : Nat) : (s.bump r k inst i).cores = s.cores := rfl
@[simp] theorem State.bump_tun (s : State) (r : Reg) (k inst i : Nat) : (s.bump r k inst i).tun = s.tun := rfl
@[simp] theorem State.bump_hbm (s : State) (r : Reg) (k inst i : Nat) : (s.bump r k inst i).hbm = s.hbm := rfl
@[simp] theorem State.bump_acc (s : State) (r : Reg) (k inst i : Nat) : (s.bump r k inst i).acc = s.acc := rfl
@[simp] theorem State.bump_ing (s : State) (r : Reg) (k inst i : Nat) : (s.bump r k inst i).ing = s.ing := rfl
@[simp] theorem State.bump_col (s : State) (r : Reg) (k inst i : Nat) : (s.bump r k inst i).col = s.col := rfl
@[simp] theorem State.bump_sweep (s : State) (r : Reg) (k inst i : Nat) : (s.bump r k inst i).sweep = s.sweep := rfl
@[simp] theorem State.bump_jnl (s : State) (r : Reg) (k inst i : Nat) : (s.bump r k inst i).jnl = s.jnl := rfl
@[simp] theorem State.bump_riser (s : State) (r : Reg) (k inst i : Nat) : (s.bump r k inst i).riser = s.riser := rfl
@[simp] theorem State.bump_life (s : State) (r : Reg) (k inst i : Nat) : (s.bump r k inst i).life = s.life := rfl
@[simp] theorem State.bump_lifeImg (s : State) (r : Reg) (k inst i : Nat) : (s.bump r k inst i).lifeImg = s.lifeImg := rfl
@[simp] theorem State.bump_lifeCk (s : State) (r : Reg) (k inst i : Nat) : (s.bump r k inst i).lifeCk = s.lifeCk := rfl
@[simp] theorem State.bump_hotCk (s : State) (r : Reg) (k inst i : Nat) : (s.bump r k inst i).hotCk = s.hotCk := rfl
@[simp] theorem State.bump_cal (s : State) (r : Reg) (k inst i : Nat) : (s.bump r k inst i).cal = s.cal := rfl
@[simp] theorem State.bump_ext (s : State) (r : Reg) (k inst i : Nat) : (s.bump r k inst i).ext = s.ext := rfl
@[simp] theorem State.bump_stag (s : State) (r : Reg) (k inst i : Nat) : (s.bump r k inst i).stag = s.stag := rfl
@[simp] theorem State.bump_remote (s : State) (r : Reg) (k inst i : Nat) : (s.bump r k inst i).remote = s.remote := rfl
@[simp] theorem State.bump_idleFrame (s : State) (r : Reg) (k inst i : Nat) : (s.bump r k inst i).idleFrame = s.idleFrame := rfl
@[simp] theorem State.bump_firstCk (s : State) (r : Reg) (k inst i : Nat) : (s.bump r k inst i).firstCk = s.firstCk := rfl
@[simp] theorem State.bump_strobes (s : State) (r : Reg) (k inst i : Nat) : (s.bump r k inst i).strobes = s.strobes := rfl
@[simp] theorem State.bump_inbox (s : State) (r : Reg) (k inst i : Nat) : (s.bump r k inst i).inbox = s.inbox := rfl
@[simp] theorem State.bump_transit (s : State) (r : Reg) (k inst i : Nat) : (s.bump r k inst i).transit = s.transit := rfl
@[simp] theorem State.bump_ports (s : State) (r : Reg) (k inst i : Nat) : (s.bump r k inst i).ports = s.ports := rfl
@[simp] theorem State.bump_pkNo (s : State) (r : Reg) (k inst i : Nat) : (s.bump r k inst i).pkNo = s.pkNo := rfl
@[simp] theorem State.bump_tc0 (s : State) (r : Reg) (k inst i : Nat) : (s.bump r k inst i).tc0 = s.tc0 := rfl
@[simp] theorem State.bump_unreach (s : State) (r : Reg) (k inst i : Nat) : (s.bump r k inst i).unreach = s.unreach := rfl
@[simp] theorem State.bump_stwRsp (s : State) (r : Reg) (k inst i : Nat) : (s.bump r k inst i).stwRsp = s.stwRsp := rfl
@[simp] theorem State.bump_noted (s : State) (r : Reg) (k inst i : Nat) : (s.bump r k inst i).noted = s.noted := rfl
@[simp] theorem State.bump_pwr (s : State) (r : Reg) (k inst i : Nat) : (s.bump r k inst i).pwr = s.pwr := rfl
@[simp] theorem State.bump_tru (s : State) (r : Reg) (k inst i : Nat) : (s.bump r k inst i).tru = s.tru := rfl
@[simp] theorem State.bump_lops (s : State) (r : Reg) (k inst i : Nat) : (s.bump r k inst i).lops = s.lops := rfl
@[simp] theorem State.bump_svc (s : State) (r : Reg) (k inst i : Nat) : (s.bump r k inst i).svc = s.svc := rfl
@[simp] theorem State.bump_core (s : State) (r : Reg) (k inst i : Nat) (c : Nat) : (s.bump r k inst i).core c = s.core c := rfl
@[simp] theorem State.bump_link (s : State) (r : Reg) (k inst i : Nat) (q : Nat) : (s.bump r k inst i).link q = s.link q := rfl

/-! ### `State.wrapAdd` -/

@[simp] theorem State.wrapAdd_pending (s : State) (r : Reg) (k inst i : Nat) : (s.wrapAdd r k inst i).pending = s.pending := rfl
@[simp] theorem State.wrapAdd_ck (s : State) (r : Reg) (k inst i : Nat) : (s.wrapAdd r k inst i).ck = s.ck := rfl
@[simp] theorem State.wrapAdd_frameCk (s : State) (r : Reg) (k inst i : Nat) : (s.wrapAdd r k inst i).frameCk = s.frameCk := rfl
@[simp] theorem State.wrapAdd_trim (s : State) (r : Reg) (k inst i : Nat) : (s.wrapAdd r k inst i).trim = s.trim := rfl
@[simp] theorem State.wrapAdd_fuses (s : State) (r : Reg) (k inst i : Nat) : (s.wrapAdd r k inst i).fuses = s.fuses := rfl
@[simp] theorem State.wrapAdd_hiLatch (s : State) (r : Reg) (k inst i : Nat) : (s.wrapAdd r k inst i).hiLatch = s.hiLatch := rfl
@[simp] theorem State.wrapAdd_freeCtr (s : State) (r : Reg) (k inst i : Nat) : (s.wrapAdd r k inst i).freeCtr = s.freeCtr := rfl
@[simp] theorem State.wrapAdd_cores (s : State) (r : Reg) (k inst i : Nat) : (s.wrapAdd r k inst i).cores = s.cores := rfl
@[simp] theorem State.wrapAdd_tun (s : State) (r : Reg) (k inst i : Nat) : (s.wrapAdd r k inst i).tun = s.tun := rfl
@[simp] theorem State.wrapAdd_hbm (s : State) (r : Reg) (k inst i : Nat) : (s.wrapAdd r k inst i).hbm = s.hbm := rfl
@[simp] theorem State.wrapAdd_acc (s : State) (r : Reg) (k inst i : Nat) : (s.wrapAdd r k inst i).acc = s.acc := rfl
@[simp] theorem State.wrapAdd_ing (s : State) (r : Reg) (k inst i : Nat) : (s.wrapAdd r k inst i).ing = s.ing := rfl
@[simp] theorem State.wrapAdd_col (s : State) (r : Reg) (k inst i : Nat) : (s.wrapAdd r k inst i).col = s.col := rfl
@[simp] theorem State.wrapAdd_sweep (s : State) (r : Reg) (k inst i : Nat) : (s.wrapAdd r k inst i).sweep = s.sweep := rfl
@[simp] theorem State.wrapAdd_jnl (s : State) (r : Reg) (k inst i : Nat) : (s.wrapAdd r k inst i).jnl = s.jnl := rfl
@[simp] theorem State.wrapAdd_riser (s : State) (r : Reg) (k inst i : Nat) : (s.wrapAdd r k inst i).riser = s.riser := rfl
@[simp] theorem State.wrapAdd_life (s : State) (r : Reg) (k inst i : Nat) : (s.wrapAdd r k inst i).life = s.life := rfl
@[simp] theorem State.wrapAdd_lifeImg (s : State) (r : Reg) (k inst i : Nat) : (s.wrapAdd r k inst i).lifeImg = s.lifeImg := rfl
@[simp] theorem State.wrapAdd_lifeCk (s : State) (r : Reg) (k inst i : Nat) : (s.wrapAdd r k inst i).lifeCk = s.lifeCk := rfl
@[simp] theorem State.wrapAdd_hotCk (s : State) (r : Reg) (k inst i : Nat) : (s.wrapAdd r k inst i).hotCk = s.hotCk := rfl
@[simp] theorem State.wrapAdd_cal (s : State) (r : Reg) (k inst i : Nat) : (s.wrapAdd r k inst i).cal = s.cal := rfl
@[simp] theorem State.wrapAdd_ext (s : State) (r : Reg) (k inst i : Nat) : (s.wrapAdd r k inst i).ext = s.ext := rfl
@[simp] theorem State.wrapAdd_stag (s : State) (r : Reg) (k inst i : Nat) : (s.wrapAdd r k inst i).stag = s.stag := rfl
@[simp] theorem State.wrapAdd_remote (s : State) (r : Reg) (k inst i : Nat) : (s.wrapAdd r k inst i).remote = s.remote := rfl
@[simp] theorem State.wrapAdd_idleFrame (s : State) (r : Reg) (k inst i : Nat) : (s.wrapAdd r k inst i).idleFrame = s.idleFrame := rfl
@[simp] theorem State.wrapAdd_firstCk (s : State) (r : Reg) (k inst i : Nat) : (s.wrapAdd r k inst i).firstCk = s.firstCk := rfl
@[simp] theorem State.wrapAdd_strobes (s : State) (r : Reg) (k inst i : Nat) : (s.wrapAdd r k inst i).strobes = s.strobes := rfl
@[simp] theorem State.wrapAdd_inbox (s : State) (r : Reg) (k inst i : Nat) : (s.wrapAdd r k inst i).inbox = s.inbox := rfl
@[simp] theorem State.wrapAdd_transit (s : State) (r : Reg) (k inst i : Nat) : (s.wrapAdd r k inst i).transit = s.transit := rfl
@[simp] theorem State.wrapAdd_ports (s : State) (r : Reg) (k inst i : Nat) : (s.wrapAdd r k inst i).ports = s.ports := rfl
@[simp] theorem State.wrapAdd_pkNo (s : State) (r : Reg) (k inst i : Nat) : (s.wrapAdd r k inst i).pkNo = s.pkNo := rfl
@[simp] theorem State.wrapAdd_tc0 (s : State) (r : Reg) (k inst i : Nat) : (s.wrapAdd r k inst i).tc0 = s.tc0 := rfl
@[simp] theorem State.wrapAdd_unreach (s : State) (r : Reg) (k inst i : Nat) : (s.wrapAdd r k inst i).unreach = s.unreach := rfl
@[simp] theorem State.wrapAdd_stwRsp (s : State) (r : Reg) (k inst i : Nat) : (s.wrapAdd r k inst i).stwRsp = s.stwRsp := rfl
@[simp] theorem State.wrapAdd_noted (s : State) (r : Reg) (k inst i : Nat) : (s.wrapAdd r k inst i).noted = s.noted := rfl
@[simp] theorem State.wrapAdd_pwr (s : State) (r : Reg) (k inst i : Nat) : (s.wrapAdd r k inst i).pwr = s.pwr := rfl
@[simp] theorem State.wrapAdd_tru (s : State) (r : Reg) (k inst i : Nat) : (s.wrapAdd r k inst i).tru = s.tru := rfl
@[simp] theorem State.wrapAdd_lops (s : State) (r : Reg) (k inst i : Nat) : (s.wrapAdd r k inst i).lops = s.lops := rfl
@[simp] theorem State.wrapAdd_svc (s : State) (r : Reg) (k inst i : Nat) : (s.wrapAdd r k inst i).svc = s.svc := rfl
@[simp] theorem State.wrapAdd_core (s : State) (r : Reg) (k inst i : Nat) (c : Nat) : (s.wrapAdd r k inst i).core c = s.core c := rfl
@[simp] theorem State.wrapAdd_link (s : State) (r : Reg) (k inst i : Nat) (q : Nat) : (s.wrapAdd r k inst i).link q = s.link q := rfl

/-! ### `State.disarm` -/

@[simp] theorem State.disarm_pending (s : State) (f : Fld) (inst : Nat) : (s.disarm f inst).pending = s.pending := rfl
@[simp] theorem State.disarm_ck (s : State) (f : Fld) (inst : Nat) : (s.disarm f inst).ck = s.ck := rfl
@[simp] theorem State.disarm_frameCk (s : State) (f : Fld) (inst : Nat) : (s.disarm f inst).frameCk = s.frameCk := rfl
@[simp] theorem State.disarm_trim (s : State) (f : Fld) (inst : Nat) : (s.disarm f inst).trim = s.trim := rfl
@[simp] theorem State.disarm_fuses (s : State) (f : Fld) (inst : Nat) : (s.disarm f inst).fuses = s.fuses := rfl
@[simp] theorem State.disarm_hiLatch (s : State) (f : Fld) (inst : Nat) : (s.disarm f inst).hiLatch = s.hiLatch := rfl
@[simp] theorem State.disarm_freeCtr (s : State) (f : Fld) (inst : Nat) : (s.disarm f inst).freeCtr = s.freeCtr := rfl
@[simp] theorem State.disarm_cores (s : State) (f : Fld) (inst : Nat) : (s.disarm f inst).cores = s.cores := rfl
@[simp] theorem State.disarm_tun (s : State) (f : Fld) (inst : Nat) : (s.disarm f inst).tun = s.tun := rfl
@[simp] theorem State.disarm_hbm (s : State) (f : Fld) (inst : Nat) : (s.disarm f inst).hbm = s.hbm := rfl
@[simp] theorem State.disarm_acc (s : State) (f : Fld) (inst : Nat) : (s.disarm f inst).acc = s.acc := rfl
@[simp] theorem State.disarm_ing (s : State) (f : Fld) (inst : Nat) : (s.disarm f inst).ing = s.ing := rfl
@[simp] theorem State.disarm_col (s : State) (f : Fld) (inst : Nat) : (s.disarm f inst).col = s.col := rfl
@[simp] theorem State.disarm_sweep (s : State) (f : Fld) (inst : Nat) : (s.disarm f inst).sweep = s.sweep := rfl
@[simp] theorem State.disarm_jnl (s : State) (f : Fld) (inst : Nat) : (s.disarm f inst).jnl = s.jnl := rfl
@[simp] theorem State.disarm_riser (s : State) (f : Fld) (inst : Nat) : (s.disarm f inst).riser = s.riser := rfl
@[simp] theorem State.disarm_life (s : State) (f : Fld) (inst : Nat) : (s.disarm f inst).life = s.life := rfl
@[simp] theorem State.disarm_lifeImg (s : State) (f : Fld) (inst : Nat) : (s.disarm f inst).lifeImg = s.lifeImg := rfl
@[simp] theorem State.disarm_lifeCk (s : State) (f : Fld) (inst : Nat) : (s.disarm f inst).lifeCk = s.lifeCk := rfl
@[simp] theorem State.disarm_hotCk (s : State) (f : Fld) (inst : Nat) : (s.disarm f inst).hotCk = s.hotCk := rfl
@[simp] theorem State.disarm_cal (s : State) (f : Fld) (inst : Nat) : (s.disarm f inst).cal = s.cal := rfl
@[simp] theorem State.disarm_ext (s : State) (f : Fld) (inst : Nat) : (s.disarm f inst).ext = s.ext := rfl
@[simp] theorem State.disarm_stag (s : State) (f : Fld) (inst : Nat) : (s.disarm f inst).stag = s.stag := rfl
@[simp] theorem State.disarm_remote (s : State) (f : Fld) (inst : Nat) : (s.disarm f inst).remote = s.remote := rfl
@[simp] theorem State.disarm_idleFrame (s : State) (f : Fld) (inst : Nat) : (s.disarm f inst).idleFrame = s.idleFrame := rfl
@[simp] theorem State.disarm_firstCk (s : State) (f : Fld) (inst : Nat) : (s.disarm f inst).firstCk = s.firstCk := rfl
@[simp] theorem State.disarm_strobes (s : State) (f : Fld) (inst : Nat) : (s.disarm f inst).strobes = s.strobes := rfl
@[simp] theorem State.disarm_inbox (s : State) (f : Fld) (inst : Nat) : (s.disarm f inst).inbox = s.inbox := rfl
@[simp] theorem State.disarm_transit (s : State) (f : Fld) (inst : Nat) : (s.disarm f inst).transit = s.transit := rfl
@[simp] theorem State.disarm_ports (s : State) (f : Fld) (inst : Nat) : (s.disarm f inst).ports = s.ports := rfl
@[simp] theorem State.disarm_pkNo (s : State) (f : Fld) (inst : Nat) : (s.disarm f inst).pkNo = s.pkNo := rfl
@[simp] theorem State.disarm_tc0 (s : State) (f : Fld) (inst : Nat) : (s.disarm f inst).tc0 = s.tc0 := rfl
@[simp] theorem State.disarm_unreach (s : State) (f : Fld) (inst : Nat) : (s.disarm f inst).unreach = s.unreach := rfl
@[simp] theorem State.disarm_stwRsp (s : State) (f : Fld) (inst : Nat) : (s.disarm f inst).stwRsp = s.stwRsp := rfl
@[simp] theorem State.disarm_noted (s : State) (f : Fld) (inst : Nat) : (s.disarm f inst).noted = s.noted := rfl
@[simp] theorem State.disarm_pwr (s : State) (f : Fld) (inst : Nat) : (s.disarm f inst).pwr = s.pwr := rfl
@[simp] theorem State.disarm_tru (s : State) (f : Fld) (inst : Nat) : (s.disarm f inst).tru = s.tru := rfl
@[simp] theorem State.disarm_lops (s : State) (f : Fld) (inst : Nat) : (s.disarm f inst).lops = s.lops := rfl
@[simp] theorem State.disarm_svc (s : State) (f : Fld) (inst : Nat) : (s.disarm f inst).svc = s.svc := rfl
@[simp] theorem State.disarm_core (s : State) (f : Fld) (inst : Nat) (c : Nat) : (s.disarm f inst).core c = s.core c := rfl
@[simp] theorem State.disarm_link (s : State) (f : Fld) (inst : Nat) (q : Nat) : (s.disarm f inst).link q = s.link q := rfl

/-! ### `State.upTo` -/

@[simp] theorem State.upTo_pending (s : State) (t : Nat) : (s.upTo t).pending = s.pending := rfl
@[simp] theorem State.upTo_ck (s : State) (t : Nat) :
    (s.upTo t).ck = max s.ck t := rfl
@[simp] theorem State.upTo_frameCk (s : State) (t : Nat) : (s.upTo t).frameCk = s.frameCk := rfl
@[simp] theorem State.upTo_trim (s : State) (t : Nat) : (s.upTo t).trim = s.trim := rfl
@[simp] theorem State.upTo_regs (s : State) (t : Nat) : (s.upTo t).regs = s.regs := rfl
@[simp] theorem State.upTo_fuses (s : State) (t : Nat) : (s.upTo t).fuses = s.fuses := rfl
@[simp] theorem State.upTo_hiLatch (s : State) (t : Nat) : (s.upTo t).hiLatch = s.hiLatch := rfl
@[simp] theorem State.upTo_freeCtr (s : State) (t : Nat) : (s.upTo t).freeCtr = s.freeCtr := rfl
@[simp] theorem State.upTo_cores (s : State) (t : Nat) : (s.upTo t).cores = s.cores := rfl
@[simp] theorem State.upTo_tun (s : State) (t : Nat) : (s.upTo t).tun = s.tun := rfl
@[simp] theorem State.upTo_hbm (s : State) (t : Nat) : (s.upTo t).hbm = s.hbm := rfl
@[simp] theorem State.upTo_acc (s : State) (t : Nat) : (s.upTo t).acc = s.acc := rfl
@[simp] theorem State.upTo_ing (s : State) (t : Nat) : (s.upTo t).ing = s.ing := rfl
@[simp] theorem State.upTo_col (s : State) (t : Nat) : (s.upTo t).col = s.col := rfl
@[simp] theorem State.upTo_sweep (s : State) (t : Nat) : (s.upTo t).sweep = s.sweep := rfl
@[simp] theorem State.upTo_jnl (s : State) (t : Nat) : (s.upTo t).jnl = s.jnl := rfl
@[simp] theorem State.upTo_riser (s : State) (t : Nat) : (s.upTo t).riser = s.riser := rfl
@[simp] theorem State.upTo_life (s : State) (t : Nat) : (s.upTo t).life = s.life := rfl
@[simp] theorem State.upTo_lifeImg (s : State) (t : Nat) : (s.upTo t).lifeImg = s.lifeImg := rfl
@[simp] theorem State.upTo_lifeCk (s : State) (t : Nat) : (s.upTo t).lifeCk = s.lifeCk := rfl
@[simp] theorem State.upTo_hotCk (s : State) (t : Nat) : (s.upTo t).hotCk = s.hotCk := rfl
@[simp] theorem State.upTo_cal (s : State) (t : Nat) : (s.upTo t).cal = s.cal := rfl
@[simp] theorem State.upTo_ext (s : State) (t : Nat) : (s.upTo t).ext = s.ext := rfl
@[simp] theorem State.upTo_stag (s : State) (t : Nat) : (s.upTo t).stag = s.stag := rfl
@[simp] theorem State.upTo_remote (s : State) (t : Nat) : (s.upTo t).remote = s.remote := rfl
@[simp] theorem State.upTo_idleFrame (s : State) (t : Nat) : (s.upTo t).idleFrame = s.idleFrame := rfl
@[simp] theorem State.upTo_firstCk (s : State) (t : Nat) : (s.upTo t).firstCk = s.firstCk := rfl
@[simp] theorem State.upTo_strobes (s : State) (t : Nat) : (s.upTo t).strobes = s.strobes := rfl
@[simp] theorem State.upTo_inbox (s : State) (t : Nat) : (s.upTo t).inbox = s.inbox := rfl
@[simp] theorem State.upTo_transit (s : State) (t : Nat) : (s.upTo t).transit = s.transit := rfl
@[simp] theorem State.upTo_ports (s : State) (t : Nat) : (s.upTo t).ports = s.ports := rfl
@[simp] theorem State.upTo_pkNo (s : State) (t : Nat) : (s.upTo t).pkNo = s.pkNo := rfl
@[simp] theorem State.upTo_tc0 (s : State) (t : Nat) : (s.upTo t).tc0 = s.tc0 := rfl
@[simp] theorem State.upTo_unreach (s : State) (t : Nat) : (s.upTo t).unreach = s.unreach := rfl
@[simp] theorem State.upTo_stwRsp (s : State) (t : Nat) : (s.upTo t).stwRsp = s.stwRsp := rfl
@[simp] theorem State.upTo_noted (s : State) (t : Nat) : (s.upTo t).noted = s.noted := rfl
@[simp] theorem State.upTo_pwr (s : State) (t : Nat) : (s.upTo t).pwr = s.pwr := rfl
@[simp] theorem State.upTo_tru (s : State) (t : Nat) : (s.upTo t).tru = s.tru := rfl
@[simp] theorem State.upTo_lops (s : State) (t : Nat) : (s.upTo t).lops = s.lops := rfl
@[simp] theorem State.upTo_svc (s : State) (t : Nat) : (s.upTo t).svc = s.svc := rfl
@[simp] theorem State.upTo_core (s : State) (t : Nat) (c : Nat) : (s.upTo t).core c = s.core c := rfl
@[simp] theorem State.upTo_link (s : State) (t : Nat) (q : Nat) : (s.upTo t).link q = s.link q := rfl
@[simp] theorem State.upTo_reg (s : State) (t : Nat) (q : Reg) (j m : Nat) : (s.upTo t).reg q j m = s.reg q j m := rfl
@[simp] theorem State.upTo_fld (s : State) (t : Nat) (g : Fld) (j m : Nat) : (s.upTo t).fld g j m = s.fld g j m := rfl

/-! ### `State.draw` -/

@[simp] theorem State.draw_pending (s : State) : (s.draw.2).pending = s.pending := rfl
@[simp] theorem State.draw_ck (s : State) : (s.draw.2).ck = s.ck := rfl
@[simp] theorem State.draw_frameCk (s : State) : (s.draw.2).frameCk = s.frameCk := rfl
@[simp] theorem State.draw_trim (s : State) : (s.draw.2).trim = s.trim := rfl
@[simp] theorem State.draw_regs (s : State) : (s.draw.2).regs = s.regs := rfl
@[simp] theorem State.draw_fuses (s : State) : (s.draw.2).fuses = s.fuses := rfl
@[simp] theorem State.draw_hiLatch (s : State) : (s.draw.2).hiLatch = s.hiLatch := rfl
@[simp] theorem State.draw_freeCtr (s : State) :
    (s.draw.2).freeCtr = s.freeCtr + 1 := rfl
@[simp] theorem State.draw_cores (s : State) : (s.draw.2).cores = s.cores := rfl
@[simp] theorem State.draw_tun (s : State) : (s.draw.2).tun = s.tun := rfl
@[simp] theorem State.draw_hbm (s : State) : (s.draw.2).hbm = s.hbm := rfl
@[simp] theorem State.draw_acc (s : State) : (s.draw.2).acc = s.acc := rfl
@[simp] theorem State.draw_ing (s : State) : (s.draw.2).ing = s.ing := rfl
@[simp] theorem State.draw_col (s : State) : (s.draw.2).col = s.col := rfl
@[simp] theorem State.draw_sweep (s : State) : (s.draw.2).sweep = s.sweep := rfl
@[simp] theorem State.draw_jnl (s : State) : (s.draw.2).jnl = s.jnl := rfl
@[simp] theorem State.draw_riser (s : State) : (s.draw.2).riser = s.riser := rfl
@[simp] theorem State.draw_life (s : State) : (s.draw.2).life = s.life := rfl
@[simp] theorem State.draw_lifeImg (s : State) : (s.draw.2).lifeImg = s.lifeImg := rfl
@[simp] theorem State.draw_lifeCk (s : State) : (s.draw.2).lifeCk = s.lifeCk := rfl
@[simp] theorem State.draw_hotCk (s : State) : (s.draw.2).hotCk = s.hotCk := rfl
@[simp] theorem State.draw_cal (s : State) : (s.draw.2).cal = s.cal := rfl
@[simp] theorem State.draw_ext (s : State) : (s.draw.2).ext = s.ext := rfl
@[simp] theorem State.draw_stag (s : State) : (s.draw.2).stag = s.stag := rfl
@[simp] theorem State.draw_remote (s : State) : (s.draw.2).remote = s.remote := rfl
@[simp] theorem State.draw_idleFrame (s : State) : (s.draw.2).idleFrame = s.idleFrame := rfl
@[simp] theorem State.draw_firstCk (s : State) : (s.draw.2).firstCk = s.firstCk := rfl
@[simp] theorem State.draw_strobes (s : State) : (s.draw.2).strobes = s.strobes := rfl
@[simp] theorem State.draw_inbox (s : State) : (s.draw.2).inbox = s.inbox := rfl
@[simp] theorem State.draw_transit (s : State) : (s.draw.2).transit = s.transit := rfl
@[simp] theorem State.draw_ports (s : State) : (s.draw.2).ports = s.ports := rfl
@[simp] theorem State.draw_pkNo (s : State) : (s.draw.2).pkNo = s.pkNo := rfl
@[simp] theorem State.draw_tc0 (s : State) : (s.draw.2).tc0 = s.tc0 := rfl
@[simp] theorem State.draw_unreach (s : State) : (s.draw.2).unreach = s.unreach := rfl
@[simp] theorem State.draw_stwRsp (s : State) : (s.draw.2).stwRsp = s.stwRsp := rfl
@[simp] theorem State.draw_noted (s : State) : (s.draw.2).noted = s.noted := rfl
@[simp] theorem State.draw_pwr (s : State) : (s.draw.2).pwr = s.pwr := rfl
@[simp] theorem State.draw_tru (s : State) : (s.draw.2).tru = s.tru := rfl
@[simp] theorem State.draw_lops (s : State) : (s.draw.2).lops = s.lops := rfl
@[simp] theorem State.draw_svc (s : State) : (s.draw.2).svc = s.svc := rfl
@[simp] theorem State.draw_core (s : State) (c : Nat) : (s.draw.2).core c = s.core c := rfl
@[simp] theorem State.draw_link (s : State) (q : Nat) : (s.draw.2).link q = s.link q := rfl
@[simp] theorem State.draw_reg (s : State) (q : Reg) (j m : Nat) : (s.draw.2).reg q j m = s.reg q j m := rfl
@[simp] theorem State.draw_fld (s : State) (g : Fld) (j m : Nat) : (s.draw.2).fld g j m = s.fld g j m := rfl

/-! ### `State.drawBytes` -/

@[simp] theorem State.drawBytes_pending (s : State) (n : Nat) : ((s.drawBytes n).2).pending = s.pending := rfl
@[simp] theorem State.drawBytes_ck (s : State) (n : Nat) : ((s.drawBytes n).2).ck = s.ck := rfl
@[simp] theorem State.drawBytes_frameCk (s : State) (n : Nat) : ((s.drawBytes n).2).frameCk = s.frameCk := rfl
@[simp] theorem State.drawBytes_trim (s : State) (n : Nat) : ((s.drawBytes n).2).trim = s.trim := rfl
@[simp] theorem State.drawBytes_regs (s : State) (n : Nat) : ((s.drawBytes n).2).regs = s.regs := rfl
@[simp] theorem State.drawBytes_fuses (s : State) (n : Nat) : ((s.drawBytes n).2).fuses = s.fuses := rfl
@[simp] theorem State.drawBytes_hiLatch (s : State) (n : Nat) : ((s.drawBytes n).2).hiLatch = s.hiLatch := rfl
@[simp] theorem State.drawBytes_freeCtr (s : State) (n : Nat) :
    ((s.drawBytes n).2).freeCtr = s.freeCtr + n := rfl
@[simp] theorem State.drawBytes_cores (s : State) (n : Nat) : ((s.drawBytes n).2).cores = s.cores := rfl
@[simp] theorem State.drawBytes_tun (s : State) (n : Nat) : ((s.drawBytes n).2).tun = s.tun := rfl
@[simp] theorem State.drawBytes_hbm (s : State) (n : Nat) : ((s.drawBytes n).2).hbm = s.hbm := rfl
@[simp] theorem State.drawBytes_acc (s : State) (n : Nat) : ((s.drawBytes n).2).acc = s.acc := rfl
@[simp] theorem State.drawBytes_ing (s : State) (n : Nat) : ((s.drawBytes n).2).ing = s.ing := rfl
@[simp] theorem State.drawBytes_col (s : State) (n : Nat) : ((s.drawBytes n).2).col = s.col := rfl
@[simp] theorem State.drawBytes_sweep (s : State) (n : Nat) : ((s.drawBytes n).2).sweep = s.sweep := rfl
@[simp] theorem State.drawBytes_jnl (s : State) (n : Nat) : ((s.drawBytes n).2).jnl = s.jnl := rfl
@[simp] theorem State.drawBytes_riser (s : State) (n : Nat) : ((s.drawBytes n).2).riser = s.riser := rfl
@[simp] theorem State.drawBytes_life (s : State) (n : Nat) : ((s.drawBytes n).2).life = s.life := rfl
@[simp] theorem State.drawBytes_lifeImg (s : State) (n : Nat) : ((s.drawBytes n).2).lifeImg = s.lifeImg := rfl
@[simp] theorem State.drawBytes_lifeCk (s : State) (n : Nat) : ((s.drawBytes n).2).lifeCk = s.lifeCk := rfl
@[simp] theorem State.drawBytes_hotCk (s : State) (n : Nat) : ((s.drawBytes n).2).hotCk = s.hotCk := rfl
@[simp] theorem State.drawBytes_cal (s : State) (n : Nat) : ((s.drawBytes n).2).cal = s.cal := rfl
@[simp] theorem State.drawBytes_ext (s : State) (n : Nat) : ((s.drawBytes n).2).ext = s.ext := rfl
@[simp] theorem State.drawBytes_stag (s : State) (n : Nat) : ((s.drawBytes n).2).stag = s.stag := rfl
@[simp] theorem State.drawBytes_remote (s : State) (n : Nat) : ((s.drawBytes n).2).remote = s.remote := rfl
@[simp] theorem State.drawBytes_idleFrame (s : State) (n : Nat) : ((s.drawBytes n).2).idleFrame = s.idleFrame := rfl
@[simp] theorem State.drawBytes_firstCk (s : State) (n : Nat) : ((s.drawBytes n).2).firstCk = s.firstCk := rfl
@[simp] theorem State.drawBytes_strobes (s : State) (n : Nat) : ((s.drawBytes n).2).strobes = s.strobes := rfl
@[simp] theorem State.drawBytes_inbox (s : State) (n : Nat) : ((s.drawBytes n).2).inbox = s.inbox := rfl
@[simp] theorem State.drawBytes_transit (s : State) (n : Nat) : ((s.drawBytes n).2).transit = s.transit := rfl
@[simp] theorem State.drawBytes_ports (s : State) (n : Nat) : ((s.drawBytes n).2).ports = s.ports := rfl
@[simp] theorem State.drawBytes_pkNo (s : State) (n : Nat) : ((s.drawBytes n).2).pkNo = s.pkNo := rfl
@[simp] theorem State.drawBytes_tc0 (s : State) (n : Nat) : ((s.drawBytes n).2).tc0 = s.tc0 := rfl
@[simp] theorem State.drawBytes_unreach (s : State) (n : Nat) : ((s.drawBytes n).2).unreach = s.unreach := rfl
@[simp] theorem State.drawBytes_stwRsp (s : State) (n : Nat) : ((s.drawBytes n).2).stwRsp = s.stwRsp := rfl
@[simp] theorem State.drawBytes_noted (s : State) (n : Nat) : ((s.drawBytes n).2).noted = s.noted := rfl
@[simp] theorem State.drawBytes_pwr (s : State) (n : Nat) : ((s.drawBytes n).2).pwr = s.pwr := rfl
@[simp] theorem State.drawBytes_tru (s : State) (n : Nat) : ((s.drawBytes n).2).tru = s.tru := rfl
@[simp] theorem State.drawBytes_lops (s : State) (n : Nat) : ((s.drawBytes n).2).lops = s.lops := rfl
@[simp] theorem State.drawBytes_svc (s : State) (n : Nat) : ((s.drawBytes n).2).svc = s.svc := rfl
@[simp] theorem State.drawBytes_core (s : State) (n : Nat) (c : Nat) : ((s.drawBytes n).2).core c = s.core c := rfl
@[simp] theorem State.drawBytes_link (s : State) (n : Nat) (q : Nat) : ((s.drawBytes n).2).link q = s.link q := rfl
@[simp] theorem State.drawBytes_reg (s : State) (n : Nat) (q : Reg) (j m : Nat) : ((s.drawBytes n).2).reg q j m = s.reg q j m := rfl
@[simp] theorem State.drawBytes_fld (s : State) (n : Nat) (g : Fld) (j m : Nat) : ((s.drawBytes n).2).fld g j m = s.fld g j m := rfl

/-! ### `State.modCore` -/

@[simp] theorem State.modCore_pending (s : State) (c : Nat) (f : CoreSt → CoreSt) : (s.modCore c f).pending = s.pending := rfl
@[simp] theorem State.modCore_ck (s : State) (c : Nat) (f : CoreSt → CoreSt) : (s.modCore c f).ck = s.ck := rfl
@[simp] theorem State.modCore_frameCk (s : State) (c : Nat) (f : CoreSt → CoreSt) : (s.modCore c f).frameCk = s.frameCk := rfl
@[simp] theorem State.modCore_trim (s : State) (c : Nat) (f : CoreSt → CoreSt) : (s.modCore c f).trim = s.trim := rfl
@[simp] theorem State.modCore_regs (s : State) (c : Nat) (f : CoreSt → CoreSt) : (s.modCore c f).regs = s.regs := rfl
@[simp] theorem State.modCore_fuses (s : State) (c : Nat) (f : CoreSt → CoreSt) : (s.modCore c f).fuses = s.fuses := rfl
@[simp] theorem State.modCore_hiLatch (s : State) (c : Nat) (f : CoreSt → CoreSt) : (s.modCore c f).hiLatch = s.hiLatch := rfl
@[simp] theorem State.modCore_freeCtr (s : State) (c : Nat) (f : CoreSt → CoreSt) : (s.modCore c f).freeCtr = s.freeCtr := rfl
@[simp] theorem State.modCore_cores (s : State) (c : Nat) (f : CoreSt → CoreSt) :
    (s.modCore c f).cores = s.cores.mapIdx (fun i x => if i = c then f x else x) := rfl
@[simp] theorem State.modCore_tun (s : State) (c : Nat) (f : CoreSt → CoreSt) : (s.modCore c f).tun = s.tun := rfl
@[simp] theorem State.modCore_hbm (s : State) (c : Nat) (f : CoreSt → CoreSt) : (s.modCore c f).hbm = s.hbm := rfl
@[simp] theorem State.modCore_acc (s : State) (c : Nat) (f : CoreSt → CoreSt) : (s.modCore c f).acc = s.acc := rfl
@[simp] theorem State.modCore_ing (s : State) (c : Nat) (f : CoreSt → CoreSt) : (s.modCore c f).ing = s.ing := rfl
@[simp] theorem State.modCore_col (s : State) (c : Nat) (f : CoreSt → CoreSt) : (s.modCore c f).col = s.col := rfl
@[simp] theorem State.modCore_sweep (s : State) (c : Nat) (f : CoreSt → CoreSt) : (s.modCore c f).sweep = s.sweep := rfl
@[simp] theorem State.modCore_jnl (s : State) (c : Nat) (f : CoreSt → CoreSt) : (s.modCore c f).jnl = s.jnl := rfl
@[simp] theorem State.modCore_riser (s : State) (c : Nat) (f : CoreSt → CoreSt) : (s.modCore c f).riser = s.riser := rfl
@[simp] theorem State.modCore_life (s : State) (c : Nat) (f : CoreSt → CoreSt) : (s.modCore c f).life = s.life := rfl
@[simp] theorem State.modCore_lifeImg (s : State) (c : Nat) (f : CoreSt → CoreSt) : (s.modCore c f).lifeImg = s.lifeImg := rfl
@[simp] theorem State.modCore_lifeCk (s : State) (c : Nat) (f : CoreSt → CoreSt) : (s.modCore c f).lifeCk = s.lifeCk := rfl
@[simp] theorem State.modCore_hotCk (s : State) (c : Nat) (f : CoreSt → CoreSt) : (s.modCore c f).hotCk = s.hotCk := rfl
@[simp] theorem State.modCore_cal (s : State) (c : Nat) (f : CoreSt → CoreSt) : (s.modCore c f).cal = s.cal := rfl
@[simp] theorem State.modCore_ext (s : State) (c : Nat) (f : CoreSt → CoreSt) : (s.modCore c f).ext = s.ext := rfl
@[simp] theorem State.modCore_stag (s : State) (c : Nat) (f : CoreSt → CoreSt) : (s.modCore c f).stag = s.stag := rfl
@[simp] theorem State.modCore_remote (s : State) (c : Nat) (f : CoreSt → CoreSt) : (s.modCore c f).remote = s.remote := rfl
@[simp] theorem State.modCore_idleFrame (s : State) (c : Nat) (f : CoreSt → CoreSt) : (s.modCore c f).idleFrame = s.idleFrame := rfl
@[simp] theorem State.modCore_firstCk (s : State) (c : Nat) (f : CoreSt → CoreSt) : (s.modCore c f).firstCk = s.firstCk := rfl
@[simp] theorem State.modCore_strobes (s : State) (c : Nat) (f : CoreSt → CoreSt) : (s.modCore c f).strobes = s.strobes := rfl
@[simp] theorem State.modCore_inbox (s : State) (c : Nat) (f : CoreSt → CoreSt) : (s.modCore c f).inbox = s.inbox := rfl
@[simp] theorem State.modCore_transit (s : State) (c : Nat) (f : CoreSt → CoreSt) : (s.modCore c f).transit = s.transit := rfl
@[simp] theorem State.modCore_ports (s : State) (c : Nat) (f : CoreSt → CoreSt) : (s.modCore c f).ports = s.ports := rfl
@[simp] theorem State.modCore_pkNo (s : State) (c : Nat) (f : CoreSt → CoreSt) : (s.modCore c f).pkNo = s.pkNo := rfl
@[simp] theorem State.modCore_tc0 (s : State) (c : Nat) (f : CoreSt → CoreSt) : (s.modCore c f).tc0 = s.tc0 := rfl
@[simp] theorem State.modCore_unreach (s : State) (c : Nat) (f : CoreSt → CoreSt) : (s.modCore c f).unreach = s.unreach := rfl
@[simp] theorem State.modCore_stwRsp (s : State) (c : Nat) (f : CoreSt → CoreSt) : (s.modCore c f).stwRsp = s.stwRsp := rfl
@[simp] theorem State.modCore_noted (s : State) (c : Nat) (f : CoreSt → CoreSt) : (s.modCore c f).noted = s.noted := rfl
@[simp] theorem State.modCore_pwr (s : State) (c : Nat) (f : CoreSt → CoreSt) : (s.modCore c f).pwr = s.pwr := rfl
@[simp] theorem State.modCore_tru (s : State) (c : Nat) (f : CoreSt → CoreSt) : (s.modCore c f).tru = s.tru := rfl
@[simp] theorem State.modCore_lops (s : State) (c : Nat) (f : CoreSt → CoreSt) : (s.modCore c f).lops = s.lops := rfl
@[simp] theorem State.modCore_svc (s : State) (c : Nat) (f : CoreSt → CoreSt) : (s.modCore c f).svc = s.svc := rfl
@[simp] theorem State.modCore_link (s : State) (c : Nat) (f : CoreSt → CoreSt) (q : Nat) : (s.modCore c f).link q = s.link q := rfl
@[simp] theorem State.modCore_reg (s : State) (c : Nat) (f : CoreSt → CoreSt) (q : Reg) (j m : Nat) : (s.modCore c f).reg q j m = s.reg q j m := rfl
@[simp] theorem State.modCore_fld (s : State) (c : Nat) (f : CoreSt → CoreSt) (g : Fld) (j m : Nat) : (s.modCore c f).fld g j m = s.fld g j m := rfl

/-! ### `State.modSpr` -/

@[simp] theorem State.modSpr_pending (s : State) (c : Nat) (f : SprueSt → SprueSt) : (s.modSpr c f).pending = s.pending := rfl
@[simp] theorem State.modSpr_ck (s : State) (c : Nat) (f : SprueSt → SprueSt) : (s.modSpr c f).ck = s.ck := rfl
@[simp] theorem State.modSpr_frameCk (s : State) (c : Nat) (f : SprueSt → SprueSt) : (s.modSpr c f).frameCk = s.frameCk := rfl
@[simp] theorem State.modSpr_trim (s : State) (c : Nat) (f : SprueSt → SprueSt) : (s.modSpr c f).trim = s.trim := rfl
@[simp] theorem State.modSpr_regs (s : State) (c : Nat) (f : SprueSt → SprueSt) : (s.modSpr c f).regs = s.regs := rfl
@[simp] theorem State.modSpr_fuses (s : State) (c : Nat) (f : SprueSt → SprueSt) : (s.modSpr c f).fuses = s.fuses := rfl
@[simp] theorem State.modSpr_hiLatch (s : State) (c : Nat) (f : SprueSt → SprueSt) : (s.modSpr c f).hiLatch = s.hiLatch := rfl
@[simp] theorem State.modSpr_freeCtr (s : State) (c : Nat) (f : SprueSt → SprueSt) : (s.modSpr c f).freeCtr = s.freeCtr := rfl
@[simp] theorem State.modSpr_tun (s : State) (c : Nat) (f : SprueSt → SprueSt) : (s.modSpr c f).tun = s.tun := rfl
@[simp] theorem State.modSpr_hbm (s : State) (c : Nat) (f : SprueSt → SprueSt) : (s.modSpr c f).hbm = s.hbm := rfl
@[simp] theorem State.modSpr_acc (s : State) (c : Nat) (f : SprueSt → SprueSt) : (s.modSpr c f).acc = s.acc := rfl
@[simp] theorem State.modSpr_ing (s : State) (c : Nat) (f : SprueSt → SprueSt) : (s.modSpr c f).ing = s.ing := rfl
@[simp] theorem State.modSpr_col (s : State) (c : Nat) (f : SprueSt → SprueSt) : (s.modSpr c f).col = s.col := rfl
@[simp] theorem State.modSpr_sweep (s : State) (c : Nat) (f : SprueSt → SprueSt) : (s.modSpr c f).sweep = s.sweep := rfl
@[simp] theorem State.modSpr_jnl (s : State) (c : Nat) (f : SprueSt → SprueSt) : (s.modSpr c f).jnl = s.jnl := rfl
@[simp] theorem State.modSpr_riser (s : State) (c : Nat) (f : SprueSt → SprueSt) : (s.modSpr c f).riser = s.riser := rfl
@[simp] theorem State.modSpr_life (s : State) (c : Nat) (f : SprueSt → SprueSt) : (s.modSpr c f).life = s.life := rfl
@[simp] theorem State.modSpr_lifeImg (s : State) (c : Nat) (f : SprueSt → SprueSt) : (s.modSpr c f).lifeImg = s.lifeImg := rfl
@[simp] theorem State.modSpr_lifeCk (s : State) (c : Nat) (f : SprueSt → SprueSt) : (s.modSpr c f).lifeCk = s.lifeCk := rfl
@[simp] theorem State.modSpr_hotCk (s : State) (c : Nat) (f : SprueSt → SprueSt) : (s.modSpr c f).hotCk = s.hotCk := rfl
@[simp] theorem State.modSpr_cal (s : State) (c : Nat) (f : SprueSt → SprueSt) : (s.modSpr c f).cal = s.cal := rfl
@[simp] theorem State.modSpr_ext (s : State) (c : Nat) (f : SprueSt → SprueSt) : (s.modSpr c f).ext = s.ext := rfl
@[simp] theorem State.modSpr_stag (s : State) (c : Nat) (f : SprueSt → SprueSt) : (s.modSpr c f).stag = s.stag := rfl
@[simp] theorem State.modSpr_remote (s : State) (c : Nat) (f : SprueSt → SprueSt) : (s.modSpr c f).remote = s.remote := rfl
@[simp] theorem State.modSpr_idleFrame (s : State) (c : Nat) (f : SprueSt → SprueSt) : (s.modSpr c f).idleFrame = s.idleFrame := rfl
@[simp] theorem State.modSpr_firstCk (s : State) (c : Nat) (f : SprueSt → SprueSt) : (s.modSpr c f).firstCk = s.firstCk := rfl
@[simp] theorem State.modSpr_strobes (s : State) (c : Nat) (f : SprueSt → SprueSt) : (s.modSpr c f).strobes = s.strobes := rfl
@[simp] theorem State.modSpr_inbox (s : State) (c : Nat) (f : SprueSt → SprueSt) : (s.modSpr c f).inbox = s.inbox := rfl
@[simp] theorem State.modSpr_transit (s : State) (c : Nat) (f : SprueSt → SprueSt) : (s.modSpr c f).transit = s.transit := rfl
@[simp] theorem State.modSpr_ports (s : State) (c : Nat) (f : SprueSt → SprueSt) : (s.modSpr c f).ports = s.ports := rfl
@[simp] theorem State.modSpr_pkNo (s : State) (c : Nat) (f : SprueSt → SprueSt) : (s.modSpr c f).pkNo = s.pkNo := rfl
@[simp] theorem State.modSpr_tc0 (s : State) (c : Nat) (f : SprueSt → SprueSt) : (s.modSpr c f).tc0 = s.tc0 := rfl
@[simp] theorem State.modSpr_unreach (s : State) (c : Nat) (f : SprueSt → SprueSt) : (s.modSpr c f).unreach = s.unreach := rfl
@[simp] theorem State.modSpr_stwRsp (s : State) (c : Nat) (f : SprueSt → SprueSt) : (s.modSpr c f).stwRsp = s.stwRsp := rfl
@[simp] theorem State.modSpr_noted (s : State) (c : Nat) (f : SprueSt → SprueSt) : (s.modSpr c f).noted = s.noted := rfl
@[simp] theorem State.modSpr_pwr (s : State) (c : Nat) (f : SprueSt → SprueSt) : (s.modSpr c f).pwr = s.pwr := rfl
@[simp] theorem State.modSpr_tru (s : State) (c : Nat) (f : SprueSt → SprueSt) : (s.modSpr c f).tru = s.tru := rfl
@[simp] theorem State.modSpr_lops (s : State) (c : Nat) (f : SprueSt → SprueSt) : (s.modSpr c f).lops = s.lops := rfl
@[simp] theorem State.modSpr_svc (s : State) (c : Nat) (f : SprueSt → SprueSt) : (s.modSpr c f).svc = s.svc := rfl
@[simp] theorem State.modSpr_link (s : State) (c : Nat) (f : SprueSt → SprueSt) (q : Nat) : (s.modSpr c f).link q = s.link q := rfl
@[simp] theorem State.modSpr_reg (s : State) (c : Nat) (f : SprueSt → SprueSt) (q : Reg) (j m : Nat) : (s.modSpr c f).reg q j m = s.reg q j m := rfl
@[simp] theorem State.modSpr_fld (s : State) (c : Nat) (f : SprueSt → SprueSt) (g : Fld) (j m : Nat) : (s.modSpr c f).fld g j m = s.fld g j m := rfl

/-! ### `modRun` -/

@[simp] theorem modRun_pending (s : State) (c : Nat) (f : RunSt → RunSt) : (modRun s c f).pending = s.pending := rfl
@[simp] theorem modRun_ck (s : State) (c : Nat) (f : RunSt → RunSt) : (modRun s c f).ck = s.ck := rfl
@[simp] theorem modRun_frameCk (s : State) (c : Nat) (f : RunSt → RunSt) : (modRun s c f).frameCk = s.frameCk := rfl
@[simp] theorem modRun_trim (s : State) (c : Nat) (f : RunSt → RunSt) : (modRun s c f).trim = s.trim := rfl
@[simp] theorem modRun_regs (s : State) (c : Nat) (f : RunSt → RunSt) : (modRun s c f).regs = s.regs := rfl
@[simp] theorem modRun_fuses (s : State) (c : Nat) (f : RunSt → RunSt) : (modRun s c f).fuses = s.fuses := rfl
@[simp] theorem modRun_hiLatch (s : State) (c : Nat) (f : RunSt → RunSt) : (modRun s c f).hiLatch = s.hiLatch := rfl
@[simp] theorem modRun_freeCtr (s : State) (c : Nat) (f : RunSt → RunSt) : (modRun s c f).freeCtr = s.freeCtr := rfl
@[simp] theorem modRun_tun (s : State) (c : Nat) (f : RunSt → RunSt) : (modRun s c f).tun = s.tun := rfl
@[simp] theorem modRun_hbm (s : State) (c : Nat) (f : RunSt → RunSt) : (modRun s c f).hbm = s.hbm := rfl
@[simp] theorem modRun_acc (s : State) (c : Nat) (f : RunSt → RunSt) : (modRun s c f).acc = s.acc := rfl
@[simp] theorem modRun_ing (s : State) (c : Nat) (f : RunSt → RunSt) : (modRun s c f).ing = s.ing := rfl
@[simp] theorem modRun_col (s : State) (c : Nat) (f : RunSt → RunSt) : (modRun s c f).col = s.col := rfl
@[simp] theorem modRun_sweep (s : State) (c : Nat) (f : RunSt → RunSt) : (modRun s c f).sweep = s.sweep := rfl
@[simp] theorem modRun_jnl (s : State) (c : Nat) (f : RunSt → RunSt) : (modRun s c f).jnl = s.jnl := rfl
@[simp] theorem modRun_riser (s : State) (c : Nat) (f : RunSt → RunSt) : (modRun s c f).riser = s.riser := rfl
@[simp] theorem modRun_life (s : State) (c : Nat) (f : RunSt → RunSt) : (modRun s c f).life = s.life := rfl
@[simp] theorem modRun_lifeImg (s : State) (c : Nat) (f : RunSt → RunSt) : (modRun s c f).lifeImg = s.lifeImg := rfl
@[simp] theorem modRun_lifeCk (s : State) (c : Nat) (f : RunSt → RunSt) : (modRun s c f).lifeCk = s.lifeCk := rfl
@[simp] theorem modRun_hotCk (s : State) (c : Nat) (f : RunSt → RunSt) : (modRun s c f).hotCk = s.hotCk := rfl
@[simp] theorem modRun_cal (s : State) (c : Nat) (f : RunSt → RunSt) : (modRun s c f).cal = s.cal := rfl
@[simp] theorem modRun_ext (s : State) (c : Nat) (f : RunSt → RunSt) : (modRun s c f).ext = s.ext := rfl
@[simp] theorem modRun_stag (s : State) (c : Nat) (f : RunSt → RunSt) : (modRun s c f).stag = s.stag := rfl
@[simp] theorem modRun_remote (s : State) (c : Nat) (f : RunSt → RunSt) : (modRun s c f).remote = s.remote := rfl
@[simp] theorem modRun_idleFrame (s : State) (c : Nat) (f : RunSt → RunSt) : (modRun s c f).idleFrame = s.idleFrame := rfl
@[simp] theorem modRun_firstCk (s : State) (c : Nat) (f : RunSt → RunSt) : (modRun s c f).firstCk = s.firstCk := rfl
@[simp] theorem modRun_strobes (s : State) (c : Nat) (f : RunSt → RunSt) : (modRun s c f).strobes = s.strobes := rfl
@[simp] theorem modRun_inbox (s : State) (c : Nat) (f : RunSt → RunSt) : (modRun s c f).inbox = s.inbox := rfl
@[simp] theorem modRun_transit (s : State) (c : Nat) (f : RunSt → RunSt) : (modRun s c f).transit = s.transit := rfl
@[simp] theorem modRun_ports (s : State) (c : Nat) (f : RunSt → RunSt) : (modRun s c f).ports = s.ports := rfl
@[simp] theorem modRun_pkNo (s : State) (c : Nat) (f : RunSt → RunSt) : (modRun s c f).pkNo = s.pkNo := rfl
@[simp] theorem modRun_tc0 (s : State) (c : Nat) (f : RunSt → RunSt) : (modRun s c f).tc0 = s.tc0 := rfl
@[simp] theorem modRun_unreach (s : State) (c : Nat) (f : RunSt → RunSt) : (modRun s c f).unreach = s.unreach := rfl
@[simp] theorem modRun_stwRsp (s : State) (c : Nat) (f : RunSt → RunSt) : (modRun s c f).stwRsp = s.stwRsp := rfl
@[simp] theorem modRun_noted (s : State) (c : Nat) (f : RunSt → RunSt) : (modRun s c f).noted = s.noted := rfl
@[simp] theorem modRun_pwr (s : State) (c : Nat) (f : RunSt → RunSt) : (modRun s c f).pwr = s.pwr := rfl
@[simp] theorem modRun_tru (s : State) (c : Nat) (f : RunSt → RunSt) : (modRun s c f).tru = s.tru := rfl
@[simp] theorem modRun_lops (s : State) (c : Nat) (f : RunSt → RunSt) : (modRun s c f).lops = s.lops := rfl
@[simp] theorem modRun_svc (s : State) (c : Nat) (f : RunSt → RunSt) : (modRun s c f).svc = s.svc := rfl
@[simp] theorem modRun_link (s : State) (c : Nat) (f : RunSt → RunSt) (q : Nat) : (modRun s c f).link q = s.link q := rfl
@[simp] theorem modRun_reg (s : State) (c : Nat) (f : RunSt → RunSt) (q : Reg) (j m : Nat) : (modRun s c f).reg q j m = s.reg q j m := rfl
@[simp] theorem modRun_fld (s : State) (c : Nat) (f : RunSt → RunSt) (g : Fld) (j m : Nat) : (modRun s c f).fld g j m = s.fld g j m := rfl

/-! ### `modLdl` -/

@[simp] theorem modLdl_pending (s : State) (c : Nat) (f : LdlSt → LdlSt) : (modLdl s c f).pending = s.pending := rfl
@[simp] theorem modLdl_ck (s : State) (c : Nat) (f : LdlSt → LdlSt) : (modLdl s c f).ck = s.ck := rfl
@[simp] theorem modLdl_frameCk (s : State) (c : Nat) (f : LdlSt → LdlSt) : (modLdl s c f).frameCk = s.frameCk := rfl
@[simp] theorem modLdl_trim (s : State) (c : Nat) (f : LdlSt → LdlSt) : (modLdl s c f).trim = s.trim := rfl
@[simp] theorem modLdl_regs (s : State) (c : Nat) (f : LdlSt → LdlSt) : (modLdl s c f).regs = s.regs := rfl
@[simp] theorem modLdl_fuses (s : State) (c : Nat) (f : LdlSt → LdlSt) : (modLdl s c f).fuses = s.fuses := rfl
@[simp] theorem modLdl_hiLatch (s : State) (c : Nat) (f : LdlSt → LdlSt) : (modLdl s c f).hiLatch = s.hiLatch := rfl
@[simp] theorem modLdl_freeCtr (s : State) (c : Nat) (f : LdlSt → LdlSt) : (modLdl s c f).freeCtr = s.freeCtr := rfl
@[simp] theorem modLdl_tun (s : State) (c : Nat) (f : LdlSt → LdlSt) : (modLdl s c f).tun = s.tun := rfl
@[simp] theorem modLdl_hbm (s : State) (c : Nat) (f : LdlSt → LdlSt) : (modLdl s c f).hbm = s.hbm := rfl
@[simp] theorem modLdl_acc (s : State) (c : Nat) (f : LdlSt → LdlSt) : (modLdl s c f).acc = s.acc := rfl
@[simp] theorem modLdl_ing (s : State) (c : Nat) (f : LdlSt → LdlSt) : (modLdl s c f).ing = s.ing := rfl
@[simp] theorem modLdl_col (s : State) (c : Nat) (f : LdlSt → LdlSt) : (modLdl s c f).col = s.col := rfl
@[simp] theorem modLdl_sweep (s : State) (c : Nat) (f : LdlSt → LdlSt) : (modLdl s c f).sweep = s.sweep := rfl
@[simp] theorem modLdl_jnl (s : State) (c : Nat) (f : LdlSt → LdlSt) : (modLdl s c f).jnl = s.jnl := rfl
@[simp] theorem modLdl_riser (s : State) (c : Nat) (f : LdlSt → LdlSt) : (modLdl s c f).riser = s.riser := rfl
@[simp] theorem modLdl_life (s : State) (c : Nat) (f : LdlSt → LdlSt) : (modLdl s c f).life = s.life := rfl
@[simp] theorem modLdl_lifeImg (s : State) (c : Nat) (f : LdlSt → LdlSt) : (modLdl s c f).lifeImg = s.lifeImg := rfl
@[simp] theorem modLdl_lifeCk (s : State) (c : Nat) (f : LdlSt → LdlSt) : (modLdl s c f).lifeCk = s.lifeCk := rfl
@[simp] theorem modLdl_hotCk (s : State) (c : Nat) (f : LdlSt → LdlSt) : (modLdl s c f).hotCk = s.hotCk := rfl
@[simp] theorem modLdl_cal (s : State) (c : Nat) (f : LdlSt → LdlSt) : (modLdl s c f).cal = s.cal := rfl
@[simp] theorem modLdl_ext (s : State) (c : Nat) (f : LdlSt → LdlSt) : (modLdl s c f).ext = s.ext := rfl
@[simp] theorem modLdl_stag (s : State) (c : Nat) (f : LdlSt → LdlSt) : (modLdl s c f).stag = s.stag := rfl
@[simp] theorem modLdl_remote (s : State) (c : Nat) (f : LdlSt → LdlSt) : (modLdl s c f).remote = s.remote := rfl
@[simp] theorem modLdl_idleFrame (s : State) (c : Nat) (f : LdlSt → LdlSt) : (modLdl s c f).idleFrame = s.idleFrame := rfl
@[simp] theorem modLdl_firstCk (s : State) (c : Nat) (f : LdlSt → LdlSt) : (modLdl s c f).firstCk = s.firstCk := rfl
@[simp] theorem modLdl_strobes (s : State) (c : Nat) (f : LdlSt → LdlSt) : (modLdl s c f).strobes = s.strobes := rfl
@[simp] theorem modLdl_inbox (s : State) (c : Nat) (f : LdlSt → LdlSt) : (modLdl s c f).inbox = s.inbox := rfl
@[simp] theorem modLdl_transit (s : State) (c : Nat) (f : LdlSt → LdlSt) : (modLdl s c f).transit = s.transit := rfl
@[simp] theorem modLdl_ports (s : State) (c : Nat) (f : LdlSt → LdlSt) : (modLdl s c f).ports = s.ports := rfl
@[simp] theorem modLdl_pkNo (s : State) (c : Nat) (f : LdlSt → LdlSt) : (modLdl s c f).pkNo = s.pkNo := rfl
@[simp] theorem modLdl_tc0 (s : State) (c : Nat) (f : LdlSt → LdlSt) : (modLdl s c f).tc0 = s.tc0 := rfl
@[simp] theorem modLdl_unreach (s : State) (c : Nat) (f : LdlSt → LdlSt) : (modLdl s c f).unreach = s.unreach := rfl
@[simp] theorem modLdl_stwRsp (s : State) (c : Nat) (f : LdlSt → LdlSt) : (modLdl s c f).stwRsp = s.stwRsp := rfl
@[simp] theorem modLdl_noted (s : State) (c : Nat) (f : LdlSt → LdlSt) : (modLdl s c f).noted = s.noted := rfl
@[simp] theorem modLdl_pwr (s : State) (c : Nat) (f : LdlSt → LdlSt) : (modLdl s c f).pwr = s.pwr := rfl
@[simp] theorem modLdl_tru (s : State) (c : Nat) (f : LdlSt → LdlSt) : (modLdl s c f).tru = s.tru := rfl
@[simp] theorem modLdl_lops (s : State) (c : Nat) (f : LdlSt → LdlSt) : (modLdl s c f).lops = s.lops := rfl
@[simp] theorem modLdl_svc (s : State) (c : Nat) (f : LdlSt → LdlSt) : (modLdl s c f).svc = s.svc := rfl
@[simp] theorem modLdl_link (s : State) (c : Nat) (f : LdlSt → LdlSt) (q : Nat) : (modLdl s c f).link q = s.link q := rfl
@[simp] theorem modLdl_reg (s : State) (c : Nat) (f : LdlSt → LdlSt) (q : Reg) (j m : Nat) : (modLdl s c f).reg q j m = s.reg q j m := rfl
@[simp] theorem modLdl_fld (s : State) (c : Nat) (f : LdlSt → LdlSt) (g : Fld) (j m : Nat) : (modLdl s c f).fld g j m = s.fld g j m := rfl

/-! ### `modMld` -/

@[simp] theorem modMld_pending (s : State) (c : Nat) (f : MouldSt → MouldSt) : (modMld s c f).pending = s.pending := rfl
@[simp] theorem modMld_ck (s : State) (c : Nat) (f : MouldSt → MouldSt) : (modMld s c f).ck = s.ck := rfl
@[simp] theorem modMld_frameCk (s : State) (c : Nat) (f : MouldSt → MouldSt) : (modMld s c f).frameCk = s.frameCk := rfl
@[simp] theorem modMld_trim (s : State) (c : Nat) (f : MouldSt → MouldSt) : (modMld s c f).trim = s.trim := rfl
@[simp] theorem modMld_regs (s : State) (c : Nat) (f : MouldSt → MouldSt) : (modMld s c f).regs = s.regs := rfl
@[simp] theorem modMld_fuses (s : State) (c : Nat) (f : MouldSt → MouldSt) : (modMld s c f).fuses = s.fuses := rfl
@[simp] theorem modMld_hiLatch (s : State) (c : Nat) (f : MouldSt → MouldSt) : (modMld s c f).hiLatch = s.hiLatch := rfl
@[simp] theorem modMld_freeCtr (s : State) (c : Nat) (f : MouldSt → MouldSt) : (modMld s c f).freeCtr = s.freeCtr := rfl
@[simp] theorem modMld_tun (s : State) (c : Nat) (f : MouldSt → MouldSt) : (modMld s c f).tun = s.tun := rfl
@[simp] theorem modMld_hbm (s : State) (c : Nat) (f : MouldSt → MouldSt) : (modMld s c f).hbm = s.hbm := rfl
@[simp] theorem modMld_acc (s : State) (c : Nat) (f : MouldSt → MouldSt) : (modMld s c f).acc = s.acc := rfl
@[simp] theorem modMld_ing (s : State) (c : Nat) (f : MouldSt → MouldSt) : (modMld s c f).ing = s.ing := rfl
@[simp] theorem modMld_col (s : State) (c : Nat) (f : MouldSt → MouldSt) : (modMld s c f).col = s.col := rfl
@[simp] theorem modMld_sweep (s : State) (c : Nat) (f : MouldSt → MouldSt) : (modMld s c f).sweep = s.sweep := rfl
@[simp] theorem modMld_jnl (s : State) (c : Nat) (f : MouldSt → MouldSt) : (modMld s c f).jnl = s.jnl := rfl
@[simp] theorem modMld_riser (s : State) (c : Nat) (f : MouldSt → MouldSt) : (modMld s c f).riser = s.riser := rfl
@[simp] theorem modMld_life (s : State) (c : Nat) (f : MouldSt → MouldSt) : (modMld s c f).life = s.life := rfl
@[simp] theorem modMld_lifeImg (s : State) (c : Nat) (f : MouldSt → MouldSt) : (modMld s c f).lifeImg = s.lifeImg := rfl
@[simp] theorem modMld_lifeCk (s : State) (c : Nat) (f : MouldSt → MouldSt) : (modMld s c f).lifeCk = s.lifeCk := rfl
@[simp] theorem modMld_hotCk (s : State) (c : Nat) (f : MouldSt → MouldSt) : (modMld s c f).hotCk = s.hotCk := rfl
@[simp] theorem modMld_cal (s : State) (c : Nat) (f : MouldSt → MouldSt) : (modMld s c f).cal = s.cal := rfl
@[simp] theorem modMld_ext (s : State) (c : Nat) (f : MouldSt → MouldSt) : (modMld s c f).ext = s.ext := rfl
@[simp] theorem modMld_stag (s : State) (c : Nat) (f : MouldSt → MouldSt) : (modMld s c f).stag = s.stag := rfl
@[simp] theorem modMld_remote (s : State) (c : Nat) (f : MouldSt → MouldSt) : (modMld s c f).remote = s.remote := rfl
@[simp] theorem modMld_idleFrame (s : State) (c : Nat) (f : MouldSt → MouldSt) : (modMld s c f).idleFrame = s.idleFrame := rfl
@[simp] theorem modMld_firstCk (s : State) (c : Nat) (f : MouldSt → MouldSt) : (modMld s c f).firstCk = s.firstCk := rfl
@[simp] theorem modMld_strobes (s : State) (c : Nat) (f : MouldSt → MouldSt) : (modMld s c f).strobes = s.strobes := rfl
@[simp] theorem modMld_inbox (s : State) (c : Nat) (f : MouldSt → MouldSt) : (modMld s c f).inbox = s.inbox := rfl
@[simp] theorem modMld_transit (s : State) (c : Nat) (f : MouldSt → MouldSt) : (modMld s c f).transit = s.transit := rfl
@[simp] theorem modMld_ports (s : State) (c : Nat) (f : MouldSt → MouldSt) : (modMld s c f).ports = s.ports := rfl
@[simp] theorem modMld_pkNo (s : State) (c : Nat) (f : MouldSt → MouldSt) : (modMld s c f).pkNo = s.pkNo := rfl
@[simp] theorem modMld_tc0 (s : State) (c : Nat) (f : MouldSt → MouldSt) : (modMld s c f).tc0 = s.tc0 := rfl
@[simp] theorem modMld_unreach (s : State) (c : Nat) (f : MouldSt → MouldSt) : (modMld s c f).unreach = s.unreach := rfl
@[simp] theorem modMld_stwRsp (s : State) (c : Nat) (f : MouldSt → MouldSt) : (modMld s c f).stwRsp = s.stwRsp := rfl
@[simp] theorem modMld_noted (s : State) (c : Nat) (f : MouldSt → MouldSt) : (modMld s c f).noted = s.noted := rfl
@[simp] theorem modMld_pwr (s : State) (c : Nat) (f : MouldSt → MouldSt) : (modMld s c f).pwr = s.pwr := rfl
@[simp] theorem modMld_tru (s : State) (c : Nat) (f : MouldSt → MouldSt) : (modMld s c f).tru = s.tru := rfl
@[simp] theorem modMld_lops (s : State) (c : Nat) (f : MouldSt → MouldSt) : (modMld s c f).lops = s.lops := rfl
@[simp] theorem modMld_svc (s : State) (c : Nat) (f : MouldSt → MouldSt) : (modMld s c f).svc = s.svc := rfl
@[simp] theorem modMld_link (s : State) (c : Nat) (f : MouldSt → MouldSt) (q : Nat) : (modMld s c f).link q = s.link q := rfl
@[simp] theorem modMld_reg (s : State) (c : Nat) (f : MouldSt → MouldSt) (q : Reg) (j m : Nat) : (modMld s c f).reg q j m = s.reg q j m := rfl
@[simp] theorem modMld_fld (s : State) (c : Nat) (f : MouldSt → MouldSt) (g : Fld) (j m : Nat) : (modMld s c f).fld g j m = s.fld g j m := rfl

/-! ### `modAsy` -/

@[simp] theorem modAsy_pending (s : State) (c : Nat) (f : AsySt → AsySt) : (modAsy s c f).pending = s.pending := rfl
@[simp] theorem modAsy_ck (s : State) (c : Nat) (f : AsySt → AsySt) : (modAsy s c f).ck = s.ck := rfl
@[simp] theorem modAsy_frameCk (s : State) (c : Nat) (f : AsySt → AsySt) : (modAsy s c f).frameCk = s.frameCk := rfl
@[simp] theorem modAsy_trim (s : State) (c : Nat) (f : AsySt → AsySt) : (modAsy s c f).trim = s.trim := rfl
@[simp] theorem modAsy_regs (s : State) (c : Nat) (f : AsySt → AsySt) : (modAsy s c f).regs = s.regs := rfl
@[simp] theorem modAsy_fuses (s : State) (c : Nat) (f : AsySt → AsySt) : (modAsy s c f).fuses = s.fuses := rfl
@[simp] theorem modAsy_hiLatch (s : State) (c : Nat) (f : AsySt → AsySt) : (modAsy s c f).hiLatch = s.hiLatch := rfl
@[simp] theorem modAsy_freeCtr (s : State) (c : Nat) (f : AsySt → AsySt) : (modAsy s c f).freeCtr = s.freeCtr := rfl
@[simp] theorem modAsy_tun (s : State) (c : Nat) (f : AsySt → AsySt) : (modAsy s c f).tun = s.tun := rfl
@[simp] theorem modAsy_hbm (s : State) (c : Nat) (f : AsySt → AsySt) : (modAsy s c f).hbm = s.hbm := rfl
@[simp] theorem modAsy_acc (s : State) (c : Nat) (f : AsySt → AsySt) : (modAsy s c f).acc = s.acc := rfl
@[simp] theorem modAsy_ing (s : State) (c : Nat) (f : AsySt → AsySt) : (modAsy s c f).ing = s.ing := rfl
@[simp] theorem modAsy_col (s : State) (c : Nat) (f : AsySt → AsySt) : (modAsy s c f).col = s.col := rfl
@[simp] theorem modAsy_sweep (s : State) (c : Nat) (f : AsySt → AsySt) : (modAsy s c f).sweep = s.sweep := rfl
@[simp] theorem modAsy_jnl (s : State) (c : Nat) (f : AsySt → AsySt) : (modAsy s c f).jnl = s.jnl := rfl
@[simp] theorem modAsy_riser (s : State) (c : Nat) (f : AsySt → AsySt) : (modAsy s c f).riser = s.riser := rfl
@[simp] theorem modAsy_life (s : State) (c : Nat) (f : AsySt → AsySt) : (modAsy s c f).life = s.life := rfl
@[simp] theorem modAsy_lifeImg (s : State) (c : Nat) (f : AsySt → AsySt) : (modAsy s c f).lifeImg = s.lifeImg := rfl
@[simp] theorem modAsy_lifeCk (s : State) (c : Nat) (f : AsySt → AsySt) : (modAsy s c f).lifeCk = s.lifeCk := rfl
@[simp] theorem modAsy_hotCk (s : State) (c : Nat) (f : AsySt → AsySt) : (modAsy s c f).hotCk = s.hotCk := rfl
@[simp] theorem modAsy_cal (s : State) (c : Nat) (f : AsySt → AsySt) : (modAsy s c f).cal = s.cal := rfl
@[simp] theorem modAsy_ext (s : State) (c : Nat) (f : AsySt → AsySt) : (modAsy s c f).ext = s.ext := rfl
@[simp] theorem modAsy_stag (s : State) (c : Nat) (f : AsySt → AsySt) : (modAsy s c f).stag = s.stag := rfl
@[simp] theorem modAsy_remote (s : State) (c : Nat) (f : AsySt → AsySt) : (modAsy s c f).remote = s.remote := rfl
@[simp] theorem modAsy_idleFrame (s : State) (c : Nat) (f : AsySt → AsySt) : (modAsy s c f).idleFrame = s.idleFrame := rfl
@[simp] theorem modAsy_firstCk (s : State) (c : Nat) (f : AsySt → AsySt) : (modAsy s c f).firstCk = s.firstCk := rfl
@[simp] theorem modAsy_strobes (s : State) (c : Nat) (f : AsySt → AsySt) : (modAsy s c f).strobes = s.strobes := rfl
@[simp] theorem modAsy_inbox (s : State) (c : Nat) (f : AsySt → AsySt) : (modAsy s c f).inbox = s.inbox := rfl
@[simp] theorem modAsy_transit (s : State) (c : Nat) (f : AsySt → AsySt) : (modAsy s c f).transit = s.transit := rfl
@[simp] theorem modAsy_ports (s : State) (c : Nat) (f : AsySt → AsySt) : (modAsy s c f).ports = s.ports := rfl
@[simp] theorem modAsy_pkNo (s : State) (c : Nat) (f : AsySt → AsySt) : (modAsy s c f).pkNo = s.pkNo := rfl
@[simp] theorem modAsy_tc0 (s : State) (c : Nat) (f : AsySt → AsySt) : (modAsy s c f).tc0 = s.tc0 := rfl
@[simp] theorem modAsy_unreach (s : State) (c : Nat) (f : AsySt → AsySt) : (modAsy s c f).unreach = s.unreach := rfl
@[simp] theorem modAsy_stwRsp (s : State) (c : Nat) (f : AsySt → AsySt) : (modAsy s c f).stwRsp = s.stwRsp := rfl
@[simp] theorem modAsy_noted (s : State) (c : Nat) (f : AsySt → AsySt) : (modAsy s c f).noted = s.noted := rfl
@[simp] theorem modAsy_pwr (s : State) (c : Nat) (f : AsySt → AsySt) : (modAsy s c f).pwr = s.pwr := rfl
@[simp] theorem modAsy_tru (s : State) (c : Nat) (f : AsySt → AsySt) : (modAsy s c f).tru = s.tru := rfl
@[simp] theorem modAsy_lops (s : State) (c : Nat) (f : AsySt → AsySt) : (modAsy s c f).lops = s.lops := rfl
@[simp] theorem modAsy_svc (s : State) (c : Nat) (f : AsySt → AsySt) : (modAsy s c f).svc = s.svc := rfl
@[simp] theorem modAsy_link (s : State) (c : Nat) (f : AsySt → AsySt) (q : Nat) : (modAsy s c f).link q = s.link q := rfl
@[simp] theorem modAsy_reg (s : State) (c : Nat) (f : AsySt → AsySt) (q : Reg) (j m : Nat) : (modAsy s c f).reg q j m = s.reg q j m := rfl
@[simp] theorem modAsy_fld (s : State) (c : Nat) (f : AsySt → AsySt) (g : Fld) (j m : Nat) : (modAsy s c f).fld g j m = s.fld g j m := rfl

/-! ### `modCru` -/

@[simp] theorem modCru_pending (s : State) (c : Nat) (f : CruSt → CruSt) : (modCru s c f).pending = s.pending := rfl
@[simp] theorem modCru_ck (s : State) (c : Nat) (f : CruSt → CruSt) : (modCru s c f).ck = s.ck := rfl
@[simp] theorem modCru_frameCk (s : State) (c : Nat) (f : CruSt → CruSt) : (modCru s c f).frameCk = s.frameCk := rfl
@[simp] theorem modCru_trim (s : State) (c : Nat) (f : CruSt → CruSt) : (modCru s c f).trim = s.trim := rfl
@[simp] theorem modCru_regs (s : State) (c : Nat) (f : CruSt → CruSt) : (modCru s c f).regs = s.regs := rfl
@[simp] theorem modCru_fuses (s : State) (c : Nat) (f : CruSt → CruSt) : (modCru s c f).fuses = s.fuses := rfl
@[simp] theorem modCru_hiLatch (s : State) (c : Nat) (f : CruSt → CruSt) : (modCru s c f).hiLatch = s.hiLatch := rfl
@[simp] theorem modCru_freeCtr (s : State) (c : Nat) (f : CruSt → CruSt) : (modCru s c f).freeCtr = s.freeCtr := rfl
@[simp] theorem modCru_tun (s : State) (c : Nat) (f : CruSt → CruSt) : (modCru s c f).tun = s.tun := rfl
@[simp] theorem modCru_hbm (s : State) (c : Nat) (f : CruSt → CruSt) : (modCru s c f).hbm = s.hbm := rfl
@[simp] theorem modCru_acc (s : State) (c : Nat) (f : CruSt → CruSt) : (modCru s c f).acc = s.acc := rfl
@[simp] theorem modCru_ing (s : State) (c : Nat) (f : CruSt → CruSt) : (modCru s c f).ing = s.ing := rfl
@[simp] theorem modCru_col (s : State) (c : Nat) (f : CruSt → CruSt) : (modCru s c f).col = s.col := rfl
@[simp] theorem modCru_sweep (s : State) (c : Nat) (f : CruSt → CruSt) : (modCru s c f).sweep = s.sweep := rfl
@[simp] theorem modCru_jnl (s : State) (c : Nat) (f : CruSt → CruSt) : (modCru s c f).jnl = s.jnl := rfl
@[simp] theorem modCru_riser (s : State) (c : Nat) (f : CruSt → CruSt) : (modCru s c f).riser = s.riser := rfl
@[simp] theorem modCru_life (s : State) (c : Nat) (f : CruSt → CruSt) : (modCru s c f).life = s.life := rfl
@[simp] theorem modCru_lifeImg (s : State) (c : Nat) (f : CruSt → CruSt) : (modCru s c f).lifeImg = s.lifeImg := rfl
@[simp] theorem modCru_lifeCk (s : State) (c : Nat) (f : CruSt → CruSt) : (modCru s c f).lifeCk = s.lifeCk := rfl
@[simp] theorem modCru_hotCk (s : State) (c : Nat) (f : CruSt → CruSt) : (modCru s c f).hotCk = s.hotCk := rfl
@[simp] theorem modCru_cal (s : State) (c : Nat) (f : CruSt → CruSt) : (modCru s c f).cal = s.cal := rfl
@[simp] theorem modCru_ext (s : State) (c : Nat) (f : CruSt → CruSt) : (modCru s c f).ext = s.ext := rfl
@[simp] theorem modCru_stag (s : State) (c : Nat) (f : CruSt → CruSt) : (modCru s c f).stag = s.stag := rfl
@[simp] theorem modCru_remote (s : State) (c : Nat) (f : CruSt → CruSt) : (modCru s c f).remote = s.remote := rfl
@[simp] theorem modCru_idleFrame (s : State) (c : Nat) (f : CruSt → CruSt) : (modCru s c f).idleFrame = s.idleFrame := rfl
@[simp] theorem modCru_firstCk (s : State) (c : Nat) (f : CruSt → CruSt) : (modCru s c f).firstCk = s.firstCk := rfl
@[simp] theorem modCru_strobes (s : State) (c : Nat) (f : CruSt → CruSt) : (modCru s c f).strobes = s.strobes := rfl
@[simp] theorem modCru_inbox (s : State) (c : Nat) (f : CruSt → CruSt) : (modCru s c f).inbox = s.inbox := rfl
@[simp] theorem modCru_transit (s : State) (c : Nat) (f : CruSt → CruSt) : (modCru s c f).transit = s.transit := rfl
@[simp] theorem modCru_ports (s : State) (c : Nat) (f : CruSt → CruSt) : (modCru s c f).ports = s.ports := rfl
@[simp] theorem modCru_pkNo (s : State) (c : Nat) (f : CruSt → CruSt) : (modCru s c f).pkNo = s.pkNo := rfl
@[simp] theorem modCru_tc0 (s : State) (c : Nat) (f : CruSt → CruSt) : (modCru s c f).tc0 = s.tc0 := rfl
@[simp] theorem modCru_unreach (s : State) (c : Nat) (f : CruSt → CruSt) : (modCru s c f).unreach = s.unreach := rfl
@[simp] theorem modCru_stwRsp (s : State) (c : Nat) (f : CruSt → CruSt) : (modCru s c f).stwRsp = s.stwRsp := rfl
@[simp] theorem modCru_noted (s : State) (c : Nat) (f : CruSt → CruSt) : (modCru s c f).noted = s.noted := rfl
@[simp] theorem modCru_pwr (s : State) (c : Nat) (f : CruSt → CruSt) : (modCru s c f).pwr = s.pwr := rfl
@[simp] theorem modCru_tru (s : State) (c : Nat) (f : CruSt → CruSt) : (modCru s c f).tru = s.tru := rfl
@[simp] theorem modCru_lops (s : State) (c : Nat) (f : CruSt → CruSt) : (modCru s c f).lops = s.lops := rfl
@[simp] theorem modCru_svc (s : State) (c : Nat) (f : CruSt → CruSt) : (modCru s c f).svc = s.svc := rfl
@[simp] theorem modCru_link (s : State) (c : Nat) (f : CruSt → CruSt) (q : Nat) : (modCru s c f).link q = s.link q := rfl
@[simp] theorem modCru_reg (s : State) (c : Nat) (f : CruSt → CruSt) (q : Reg) (j m : Nat) : (modCru s c f).reg q j m = s.reg q j m := rfl
@[simp] theorem modCru_fld (s : State) (c : Nat) (f : CruSt → CruSt) (g : Fld) (j m : Nat) : (modCru s c f).fld g j m = s.fld g j m := rfl

/-! ### `modPort` -/

@[simp] theorem modPort_pending (s : State) (c : Nat) (f : PortSt → PortSt) : (modPort s c f).pending = s.pending := rfl
@[simp] theorem modPort_ck (s : State) (c : Nat) (f : PortSt → PortSt) : (modPort s c f).ck = s.ck := rfl
@[simp] theorem modPort_frameCk (s : State) (c : Nat) (f : PortSt → PortSt) : (modPort s c f).frameCk = s.frameCk := rfl
@[simp] theorem modPort_trim (s : State) (c : Nat) (f : PortSt → PortSt) : (modPort s c f).trim = s.trim := rfl
@[simp] theorem modPort_regs (s : State) (c : Nat) (f : PortSt → PortSt) : (modPort s c f).regs = s.regs := rfl
@[simp] theorem modPort_fuses (s : State) (c : Nat) (f : PortSt → PortSt) : (modPort s c f).fuses = s.fuses := rfl
@[simp] theorem modPort_hiLatch (s : State) (c : Nat) (f : PortSt → PortSt) : (modPort s c f).hiLatch = s.hiLatch := rfl
@[simp] theorem modPort_freeCtr (s : State) (c : Nat) (f : PortSt → PortSt) : (modPort s c f).freeCtr = s.freeCtr := rfl
@[simp] theorem modPort_tun (s : State) (c : Nat) (f : PortSt → PortSt) : (modPort s c f).tun = s.tun := rfl
@[simp] theorem modPort_hbm (s : State) (c : Nat) (f : PortSt → PortSt) : (modPort s c f).hbm = s.hbm := rfl
@[simp] theorem modPort_acc (s : State) (c : Nat) (f : PortSt → PortSt) : (modPort s c f).acc = s.acc := rfl
@[simp] theorem modPort_ing (s : State) (c : Nat) (f : PortSt → PortSt) : (modPort s c f).ing = s.ing := rfl
@[simp] theorem modPort_col (s : State) (c : Nat) (f : PortSt → PortSt) : (modPort s c f).col = s.col := rfl
@[simp] theorem modPort_sweep (s : State) (c : Nat) (f : PortSt → PortSt) : (modPort s c f).sweep = s.sweep := rfl
@[simp] theorem modPort_jnl (s : State) (c : Nat) (f : PortSt → PortSt) : (modPort s c f).jnl = s.jnl := rfl
@[simp] theorem modPort_riser (s : State) (c : Nat) (f : PortSt → PortSt) : (modPort s c f).riser = s.riser := rfl
@[simp] theorem modPort_life (s : State) (c : Nat) (f : PortSt → PortSt) : (modPort s c f).life = s.life := rfl
@[simp] theorem modPort_lifeImg (s : State) (c : Nat) (f : PortSt → PortSt) : (modPort s c f).lifeImg = s.lifeImg := rfl
@[simp] theorem modPort_lifeCk (s : State) (c : Nat) (f : PortSt → PortSt) : (modPort s c f).lifeCk = s.lifeCk := rfl
@[simp] theorem modPort_hotCk (s : State) (c : Nat) (f : PortSt → PortSt) : (modPort s c f).hotCk = s.hotCk := rfl
@[simp] theorem modPort_cal (s : State) (c : Nat) (f : PortSt → PortSt) : (modPort s c f).cal = s.cal := rfl
@[simp] theorem modPort_ext (s : State) (c : Nat) (f : PortSt → PortSt) : (modPort s c f).ext = s.ext := rfl
@[simp] theorem modPort_stag (s : State) (c : Nat) (f : PortSt → PortSt) : (modPort s c f).stag = s.stag := rfl
@[simp] theorem modPort_remote (s : State) (c : Nat) (f : PortSt → PortSt) : (modPort s c f).remote = s.remote := rfl
@[simp] theorem modPort_idleFrame (s : State) (c : Nat) (f : PortSt → PortSt) : (modPort s c f).idleFrame = s.idleFrame := rfl
@[simp] theorem modPort_firstCk (s : State) (c : Nat) (f : PortSt → PortSt) : (modPort s c f).firstCk = s.firstCk := rfl
@[simp] theorem modPort_strobes (s : State) (c : Nat) (f : PortSt → PortSt) : (modPort s c f).strobes = s.strobes := rfl
@[simp] theorem modPort_inbox (s : State) (c : Nat) (f : PortSt → PortSt) : (modPort s c f).inbox = s.inbox := rfl
@[simp] theorem modPort_transit (s : State) (c : Nat) (f : PortSt → PortSt) : (modPort s c f).transit = s.transit := rfl
@[simp] theorem modPort_ports (s : State) (c : Nat) (f : PortSt → PortSt) : (modPort s c f).ports = s.ports := rfl
@[simp] theorem modPort_pkNo (s : State) (c : Nat) (f : PortSt → PortSt) : (modPort s c f).pkNo = s.pkNo := rfl
@[simp] theorem modPort_tc0 (s : State) (c : Nat) (f : PortSt → PortSt) : (modPort s c f).tc0 = s.tc0 := rfl
@[simp] theorem modPort_unreach (s : State) (c : Nat) (f : PortSt → PortSt) : (modPort s c f).unreach = s.unreach := rfl
@[simp] theorem modPort_stwRsp (s : State) (c : Nat) (f : PortSt → PortSt) : (modPort s c f).stwRsp = s.stwRsp := rfl
@[simp] theorem modPort_noted (s : State) (c : Nat) (f : PortSt → PortSt) : (modPort s c f).noted = s.noted := rfl
@[simp] theorem modPort_pwr (s : State) (c : Nat) (f : PortSt → PortSt) : (modPort s c f).pwr = s.pwr := rfl
@[simp] theorem modPort_tru (s : State) (c : Nat) (f : PortSt → PortSt) : (modPort s c f).tru = s.tru := rfl
@[simp] theorem modPort_lops (s : State) (c : Nat) (f : PortSt → PortSt) : (modPort s c f).lops = s.lops := rfl
@[simp] theorem modPort_svc (s : State) (c : Nat) (f : PortSt → PortSt) : (modPort s c f).svc = s.svc := rfl
@[simp] theorem modPort_link (s : State) (c : Nat) (f : PortSt → PortSt) (q : Nat) : (modPort s c f).link q = s.link q := rfl
@[simp] theorem modPort_reg (s : State) (c : Nat) (f : PortSt → PortSt) (q : Reg) (j m : Nat) : (modPort s c f).reg q j m = s.reg q j m := rfl
@[simp] theorem modPort_fld (s : State) (c : Nat) (f : PortSt → PortSt) (g : Fld) (j m : Nat) : (modPort s c f).fld g j m = s.fld g j m := rfl

/-! ### `modLink` -/

@[simp] theorem modLink_pending (s : State) (p : Nat) (f : PortLink → PortLink) : (modLink s p f).pending = s.pending := rfl
@[simp] theorem modLink_ck (s : State) (p : Nat) (f : PortLink → PortLink) : (modLink s p f).ck = s.ck := rfl
@[simp] theorem modLink_frameCk (s : State) (p : Nat) (f : PortLink → PortLink) : (modLink s p f).frameCk = s.frameCk := rfl
@[simp] theorem modLink_trim (s : State) (p : Nat) (f : PortLink → PortLink) : (modLink s p f).trim = s.trim := rfl
@[simp] theorem modLink_regs (s : State) (p : Nat) (f : PortLink → PortLink) : (modLink s p f).regs = s.regs := rfl
@[simp] theorem modLink_fuses (s : State) (p : Nat) (f : PortLink → PortLink) : (modLink s p f).fuses = s.fuses := rfl
@[simp] theorem modLink_hiLatch (s : State) (p : Nat) (f : PortLink → PortLink) : (modLink s p f).hiLatch = s.hiLatch := rfl
@[simp] theorem modLink_freeCtr (s : State) (p : Nat) (f : PortLink → PortLink) : (modLink s p f).freeCtr = s.freeCtr := rfl
@[simp] theorem modLink_cores (s : State) (p : Nat) (f : PortLink → PortLink) : (modLink s p f).cores = s.cores := rfl
@[simp] theorem modLink_tun (s : State) (p : Nat) (f : PortLink → PortLink) : (modLink s p f).tun = s.tun := rfl
@[simp] theorem modLink_hbm (s : State) (p : Nat) (f : PortLink → PortLink) : (modLink s p f).hbm = s.hbm := rfl
@[simp] theorem modLink_acc (s : State) (p : Nat) (f : PortLink → PortLink) : (modLink s p f).acc = s.acc := rfl
@[simp] theorem modLink_ing (s : State) (p : Nat) (f : PortLink → PortLink) : (modLink s p f).ing = s.ing := rfl
@[simp] theorem modLink_col (s : State) (p : Nat) (f : PortLink → PortLink) : (modLink s p f).col = s.col := rfl
@[simp] theorem modLink_sweep (s : State) (p : Nat) (f : PortLink → PortLink) : (modLink s p f).sweep = s.sweep := rfl
@[simp] theorem modLink_jnl (s : State) (p : Nat) (f : PortLink → PortLink) : (modLink s p f).jnl = s.jnl := rfl
@[simp] theorem modLink_riser (s : State) (p : Nat) (f : PortLink → PortLink) : (modLink s p f).riser = s.riser := rfl
@[simp] theorem modLink_life (s : State) (p : Nat) (f : PortLink → PortLink) : (modLink s p f).life = s.life := rfl
@[simp] theorem modLink_lifeImg (s : State) (p : Nat) (f : PortLink → PortLink) : (modLink s p f).lifeImg = s.lifeImg := rfl
@[simp] theorem modLink_lifeCk (s : State) (p : Nat) (f : PortLink → PortLink) : (modLink s p f).lifeCk = s.lifeCk := rfl
@[simp] theorem modLink_hotCk (s : State) (p : Nat) (f : PortLink → PortLink) : (modLink s p f).hotCk = s.hotCk := rfl
@[simp] theorem modLink_cal (s : State) (p : Nat) (f : PortLink → PortLink) : (modLink s p f).cal = s.cal := rfl
@[simp] theorem modLink_ext (s : State) (p : Nat) (f : PortLink → PortLink) : (modLink s p f).ext = s.ext := rfl
@[simp] theorem modLink_stag (s : State) (p : Nat) (f : PortLink → PortLink) : (modLink s p f).stag = s.stag := rfl
@[simp] theorem modLink_remote (s : State) (p : Nat) (f : PortLink → PortLink) : (modLink s p f).remote = s.remote := rfl
@[simp] theorem modLink_idleFrame (s : State) (p : Nat) (f : PortLink → PortLink) : (modLink s p f).idleFrame = s.idleFrame := rfl
@[simp] theorem modLink_firstCk (s : State) (p : Nat) (f : PortLink → PortLink) : (modLink s p f).firstCk = s.firstCk := rfl
@[simp] theorem modLink_strobes (s : State) (p : Nat) (f : PortLink → PortLink) : (modLink s p f).strobes = s.strobes := rfl
@[simp] theorem modLink_inbox (s : State) (p : Nat) (f : PortLink → PortLink) : (modLink s p f).inbox = s.inbox := rfl
@[simp] theorem modLink_transit (s : State) (p : Nat) (f : PortLink → PortLink) : (modLink s p f).transit = s.transit := rfl
@[simp] theorem modLink_ports (s : State) (p : Nat) (f : PortLink → PortLink) :
    (modLink s p f).ports = s.ports.mapIdx (fun i x => if i = p then f x else x) := rfl
@[simp] theorem modLink_pkNo (s : State) (p : Nat) (f : PortLink → PortLink) : (modLink s p f).pkNo = s.pkNo := rfl
@[simp] theorem modLink_tc0 (s : State) (p : Nat) (f : PortLink → PortLink) : (modLink s p f).tc0 = s.tc0 := rfl
@[simp] theorem modLink_unreach (s : State) (p : Nat) (f : PortLink → PortLink) : (modLink s p f).unreach = s.unreach := rfl
@[simp] theorem modLink_stwRsp (s : State) (p : Nat) (f : PortLink → PortLink) : (modLink s p f).stwRsp = s.stwRsp := rfl
@[simp] theorem modLink_noted (s : State) (p : Nat) (f : PortLink → PortLink) : (modLink s p f).noted = s.noted := rfl
@[simp] theorem modLink_pwr (s : State) (p : Nat) (f : PortLink → PortLink) : (modLink s p f).pwr = s.pwr := rfl
@[simp] theorem modLink_tru (s : State) (p : Nat) (f : PortLink → PortLink) : (modLink s p f).tru = s.tru := rfl
@[simp] theorem modLink_lops (s : State) (p : Nat) (f : PortLink → PortLink) : (modLink s p f).lops = s.lops := rfl
@[simp] theorem modLink_svc (s : State) (p : Nat) (f : PortLink → PortLink) : (modLink s p f).svc = s.svc := rfl
@[simp] theorem modLink_core (s : State) (p : Nat) (f : PortLink → PortLink) (c : Nat) : (modLink s p f).core c = s.core c := rfl
@[simp] theorem modLink_reg (s : State) (p : Nat) (f : PortLink → PortLink) (q : Reg) (j m : Nat) : (modLink s p f).reg q j m = s.reg q j m := rfl
@[simp] theorem modLink_fld (s : State) (p : Nat) (f : PortLink → PortLink) (g : Fld) (j m : Nat) : (modLink s p f).fld g j m = s.fld g j m := rfl

/-! ### `modTru` -/

@[simp] theorem modTru_pending (s : State) (f : TruSt → TruSt) : (modTru s f).pending = s.pending := rfl
@[simp] theorem modTru_ck (s : State) (f : TruSt → TruSt) : (modTru s f).ck = s.ck := rfl
@[simp] theorem modTru_frameCk (s : State) (f : TruSt → TruSt) : (modTru s f).frameCk = s.frameCk := rfl
@[simp] theorem modTru_trim (s : State) (f : TruSt → TruSt) : (modTru s f).trim = s.trim := rfl
@[simp] theorem modTru_regs (s : State) (f : TruSt → TruSt) : (modTru s f).regs = s.regs := rfl
@[simp] theorem modTru_fuses (s : State) (f : TruSt → TruSt) : (modTru s f).fuses = s.fuses := rfl
@[simp] theorem modTru_hiLatch (s : State) (f : TruSt → TruSt) : (modTru s f).hiLatch = s.hiLatch := rfl
@[simp] theorem modTru_freeCtr (s : State) (f : TruSt → TruSt) : (modTru s f).freeCtr = s.freeCtr := rfl
@[simp] theorem modTru_cores (s : State) (f : TruSt → TruSt) : (modTru s f).cores = s.cores := rfl
@[simp] theorem modTru_tun (s : State) (f : TruSt → TruSt) : (modTru s f).tun = s.tun := rfl
@[simp] theorem modTru_hbm (s : State) (f : TruSt → TruSt) : (modTru s f).hbm = s.hbm := rfl
@[simp] theorem modTru_acc (s : State) (f : TruSt → TruSt) : (modTru s f).acc = s.acc := rfl
@[simp] theorem modTru_ing (s : State) (f : TruSt → TruSt) : (modTru s f).ing = s.ing := rfl
@[simp] theorem modTru_col (s : State) (f : TruSt → TruSt) : (modTru s f).col = s.col := rfl
@[simp] theorem modTru_sweep (s : State) (f : TruSt → TruSt) : (modTru s f).sweep = s.sweep := rfl
@[simp] theorem modTru_jnl (s : State) (f : TruSt → TruSt) : (modTru s f).jnl = s.jnl := rfl
@[simp] theorem modTru_riser (s : State) (f : TruSt → TruSt) : (modTru s f).riser = s.riser := rfl
@[simp] theorem modTru_life (s : State) (f : TruSt → TruSt) : (modTru s f).life = s.life := rfl
@[simp] theorem modTru_lifeImg (s : State) (f : TruSt → TruSt) : (modTru s f).lifeImg = s.lifeImg := rfl
@[simp] theorem modTru_lifeCk (s : State) (f : TruSt → TruSt) : (modTru s f).lifeCk = s.lifeCk := rfl
@[simp] theorem modTru_hotCk (s : State) (f : TruSt → TruSt) : (modTru s f).hotCk = s.hotCk := rfl
@[simp] theorem modTru_cal (s : State) (f : TruSt → TruSt) : (modTru s f).cal = s.cal := rfl
@[simp] theorem modTru_ext (s : State) (f : TruSt → TruSt) : (modTru s f).ext = s.ext := rfl
@[simp] theorem modTru_stag (s : State) (f : TruSt → TruSt) : (modTru s f).stag = s.stag := rfl
@[simp] theorem modTru_remote (s : State) (f : TruSt → TruSt) : (modTru s f).remote = s.remote := rfl
@[simp] theorem modTru_idleFrame (s : State) (f : TruSt → TruSt) : (modTru s f).idleFrame = s.idleFrame := rfl
@[simp] theorem modTru_firstCk (s : State) (f : TruSt → TruSt) : (modTru s f).firstCk = s.firstCk := rfl
@[simp] theorem modTru_strobes (s : State) (f : TruSt → TruSt) : (modTru s f).strobes = s.strobes := rfl
@[simp] theorem modTru_inbox (s : State) (f : TruSt → TruSt) : (modTru s f).inbox = s.inbox := rfl
@[simp] theorem modTru_transit (s : State) (f : TruSt → TruSt) : (modTru s f).transit = s.transit := rfl
@[simp] theorem modTru_ports (s : State) (f : TruSt → TruSt) : (modTru s f).ports = s.ports := rfl
@[simp] theorem modTru_pkNo (s : State) (f : TruSt → TruSt) : (modTru s f).pkNo = s.pkNo := rfl
@[simp] theorem modTru_tc0 (s : State) (f : TruSt → TruSt) : (modTru s f).tc0 = s.tc0 := rfl
@[simp] theorem modTru_unreach (s : State) (f : TruSt → TruSt) : (modTru s f).unreach = s.unreach := rfl
@[simp] theorem modTru_stwRsp (s : State) (f : TruSt → TruSt) : (modTru s f).stwRsp = s.stwRsp := rfl
@[simp] theorem modTru_noted (s : State) (f : TruSt → TruSt) : (modTru s f).noted = s.noted := rfl
@[simp] theorem modTru_pwr (s : State) (f : TruSt → TruSt) : (modTru s f).pwr = s.pwr := rfl
@[simp] theorem modTru_tru (s : State) (f : TruSt → TruSt) :
    (modTru s f).tru = f s.tru := rfl
@[simp] theorem modTru_lops (s : State) (f : TruSt → TruSt) : (modTru s f).lops = s.lops := rfl
@[simp] theorem modTru_svc (s : State) (f : TruSt → TruSt) : (modTru s f).svc = s.svc := rfl
@[simp] theorem modTru_core (s : State) (f : TruSt → TruSt) (c : Nat) : (modTru s f).core c = s.core c := rfl
@[simp] theorem modTru_link (s : State) (f : TruSt → TruSt) (q : Nat) : (modTru s f).link q = s.link q := rfl
@[simp] theorem modTru_reg (s : State) (f : TruSt → TruSt) (q : Reg) (j m : Nat) : (modTru s f).reg q j m = s.reg q j m := rfl
@[simp] theorem modTru_fld (s : State) (f : TruSt → TruSt) (g : Fld) (j m : Nat) : (modTru s f).fld g j m = s.fld g j m := rfl

/-! ### `modCal` -/

@[simp] theorem modCal_pending (s : State) (f : CalSt → CalSt) : (modCal s f).pending = s.pending := rfl
@[simp] theorem modCal_ck (s : State) (f : CalSt → CalSt) : (modCal s f).ck = s.ck := rfl
@[simp] theorem modCal_frameCk (s : State) (f : CalSt → CalSt) : (modCal s f).frameCk = s.frameCk := rfl
@[simp] theorem modCal_trim (s : State) (f : CalSt → CalSt) : (modCal s f).trim = s.trim := rfl
@[simp] theorem modCal_regs (s : State) (f : CalSt → CalSt) : (modCal s f).regs = s.regs := rfl
@[simp] theorem modCal_fuses (s : State) (f : CalSt → CalSt) : (modCal s f).fuses = s.fuses := rfl
@[simp] theorem modCal_hiLatch (s : State) (f : CalSt → CalSt) : (modCal s f).hiLatch = s.hiLatch := rfl
@[simp] theorem modCal_freeCtr (s : State) (f : CalSt → CalSt) : (modCal s f).freeCtr = s.freeCtr := rfl
@[simp] theorem modCal_cores (s : State) (f : CalSt → CalSt) : (modCal s f).cores = s.cores := rfl
@[simp] theorem modCal_tun (s : State) (f : CalSt → CalSt) : (modCal s f).tun = s.tun := rfl
@[simp] theorem modCal_hbm (s : State) (f : CalSt → CalSt) : (modCal s f).hbm = s.hbm := rfl
@[simp] theorem modCal_acc (s : State) (f : CalSt → CalSt) : (modCal s f).acc = s.acc := rfl
@[simp] theorem modCal_ing (s : State) (f : CalSt → CalSt) : (modCal s f).ing = s.ing := rfl
@[simp] theorem modCal_col (s : State) (f : CalSt → CalSt) : (modCal s f).col = s.col := rfl
@[simp] theorem modCal_sweep (s : State) (f : CalSt → CalSt) : (modCal s f).sweep = s.sweep := rfl
@[simp] theorem modCal_jnl (s : State) (f : CalSt → CalSt) : (modCal s f).jnl = s.jnl := rfl
@[simp] theorem modCal_riser (s : State) (f : CalSt → CalSt) : (modCal s f).riser = s.riser := rfl
@[simp] theorem modCal_life (s : State) (f : CalSt → CalSt) : (modCal s f).life = s.life := rfl
@[simp] theorem modCal_lifeImg (s : State) (f : CalSt → CalSt) : (modCal s f).lifeImg = s.lifeImg := rfl
@[simp] theorem modCal_lifeCk (s : State) (f : CalSt → CalSt) : (modCal s f).lifeCk = s.lifeCk := rfl
@[simp] theorem modCal_hotCk (s : State) (f : CalSt → CalSt) : (modCal s f).hotCk = s.hotCk := rfl
@[simp] theorem modCal_cal (s : State) (f : CalSt → CalSt) :
    (modCal s f).cal = f s.cal := rfl
@[simp] theorem modCal_ext (s : State) (f : CalSt → CalSt) : (modCal s f).ext = s.ext := rfl
@[simp] theorem modCal_stag (s : State) (f : CalSt → CalSt) : (modCal s f).stag = s.stag := rfl
@[simp] theorem modCal_remote (s : State) (f : CalSt → CalSt) : (modCal s f).remote = s.remote := rfl
@[simp] theorem modCal_idleFrame (s : State) (f : CalSt → CalSt) : (modCal s f).idleFrame = s.idleFrame := rfl
@[simp] theorem modCal_firstCk (s : State) (f : CalSt → CalSt) : (modCal s f).firstCk = s.firstCk := rfl
@[simp] theorem modCal_strobes (s : State) (f : CalSt → CalSt) : (modCal s f).strobes = s.strobes := rfl
@[simp] theorem modCal_inbox (s : State) (f : CalSt → CalSt) : (modCal s f).inbox = s.inbox := rfl
@[simp] theorem modCal_transit (s : State) (f : CalSt → CalSt) : (modCal s f).transit = s.transit := rfl
@[simp] theorem modCal_ports (s : State) (f : CalSt → CalSt) : (modCal s f).ports = s.ports := rfl
@[simp] theorem modCal_pkNo (s : State) (f : CalSt → CalSt) : (modCal s f).pkNo = s.pkNo := rfl
@[simp] theorem modCal_tc0 (s : State) (f : CalSt → CalSt) : (modCal s f).tc0 = s.tc0 := rfl
@[simp] theorem modCal_unreach (s : State) (f : CalSt → CalSt) : (modCal s f).unreach = s.unreach := rfl
@[simp] theorem modCal_stwRsp (s : State) (f : CalSt → CalSt) : (modCal s f).stwRsp = s.stwRsp := rfl
@[simp] theorem modCal_noted (s : State) (f : CalSt → CalSt) : (modCal s f).noted = s.noted := rfl
@[simp] theorem modCal_pwr (s : State) (f : CalSt → CalSt) : (modCal s f).pwr = s.pwr := rfl
@[simp] theorem modCal_tru (s : State) (f : CalSt → CalSt) : (modCal s f).tru = s.tru := rfl
@[simp] theorem modCal_lops (s : State) (f : CalSt → CalSt) : (modCal s f).lops = s.lops := rfl
@[simp] theorem modCal_svc (s : State) (f : CalSt → CalSt) : (modCal s f).svc = s.svc := rfl
@[simp] theorem modCal_core (s : State) (f : CalSt → CalSt) (c : Nat) : (modCal s f).core c = s.core c := rfl
@[simp] theorem modCal_link (s : State) (f : CalSt → CalSt) (q : Nat) : (modCal s f).link q = s.link q := rfl
@[simp] theorem modCal_reg (s : State) (f : CalSt → CalSt) (q : Reg) (j m : Nat) : (modCal s f).reg q j m = s.reg q j m := rfl
@[simp] theorem modCal_fld (s : State) (f : CalSt → CalSt) (g : Fld) (j m : Nat) : (modCal s f).fld g j m = s.fld g j m := rfl

/-! ### `modPwr` -/

@[simp] theorem modPwr_pending (s : State) (f : PwrSt → PwrSt) : (modPwr s f).pending = s.pending := rfl
@[simp] theorem modPwr_ck (s : State) (f : PwrSt → PwrSt) : (modPwr s f).ck = s.ck := rfl
@[simp] theorem modPwr_frameCk (s : State) (f : PwrSt → PwrSt) : (modPwr s f).frameCk = s.frameCk := rfl
@[simp] theorem modPwr_trim (s : State) (f : PwrSt → PwrSt) : (modPwr s f).trim = s.trim := rfl
@[simp] theorem modPwr_regs (s : State) (f : PwrSt → PwrSt) : (modPwr s f).regs = s.regs := rfl
@[simp] theorem modPwr_fuses (s : State) (f : PwrSt → PwrSt) : (modPwr s f).fuses = s.fuses := rfl
@[simp] theorem modPwr_hiLatch (s : State) (f : PwrSt → PwrSt) : (modPwr s f).hiLatch = s.hiLatch := rfl
@[simp] theorem modPwr_freeCtr (s : State) (f : PwrSt → PwrSt) : (modPwr s f).freeCtr = s.freeCtr := rfl
@[simp] theorem modPwr_cores (s : State) (f : PwrSt → PwrSt) : (modPwr s f).cores = s.cores := rfl
@[simp] theorem modPwr_tun (s : State) (f : PwrSt → PwrSt) : (modPwr s f).tun = s.tun := rfl
@[simp] theorem modPwr_hbm (s : State) (f : PwrSt → PwrSt) : (modPwr s f).hbm = s.hbm := rfl
@[simp] theorem modPwr_acc (s : State) (f : PwrSt → PwrSt) : (modPwr s f).acc = s.acc := rfl
@[simp] theorem modPwr_ing (s : State) (f : PwrSt → PwrSt) : (modPwr s f).ing = s.ing := rfl
@[simp] theorem modPwr_col (s : State) (f : PwrSt → PwrSt) : (modPwr s f).col = s.col := rfl
@[simp] theorem modPwr_sweep (s : State) (f : PwrSt → PwrSt) : (modPwr s f).sweep = s.sweep := rfl
@[simp] theorem modPwr_jnl (s : State) (f : PwrSt → PwrSt) : (modPwr s f).jnl = s.jnl := rfl
@[simp] theorem modPwr_riser (s : State) (f : PwrSt → PwrSt) : (modPwr s f).riser = s.riser := rfl
@[simp] theorem modPwr_life (s : State) (f : PwrSt → PwrSt) : (modPwr s f).life = s.life := rfl
@[simp] theorem modPwr_lifeImg (s : State) (f : PwrSt → PwrSt) : (modPwr s f).lifeImg = s.lifeImg := rfl
@[simp] theorem modPwr_lifeCk (s : State) (f : PwrSt → PwrSt) : (modPwr s f).lifeCk = s.lifeCk := rfl
@[simp] theorem modPwr_hotCk (s : State) (f : PwrSt → PwrSt) : (modPwr s f).hotCk = s.hotCk := rfl
@[simp] theorem modPwr_cal (s : State) (f : PwrSt → PwrSt) : (modPwr s f).cal = s.cal := rfl
@[simp] theorem modPwr_ext (s : State) (f : PwrSt → PwrSt) : (modPwr s f).ext = s.ext := rfl
@[simp] theorem modPwr_stag (s : State) (f : PwrSt → PwrSt) : (modPwr s f).stag = s.stag := rfl
@[simp] theorem modPwr_remote (s : State) (f : PwrSt → PwrSt) : (modPwr s f).remote = s.remote := rfl
@[simp] theorem modPwr_idleFrame (s : State) (f : PwrSt → PwrSt) : (modPwr s f).idleFrame = s.idleFrame := rfl
@[simp] theorem modPwr_firstCk (s : State) (f : PwrSt → PwrSt) : (modPwr s f).firstCk = s.firstCk := rfl
@[simp] theorem modPwr_strobes (s : State) (f : PwrSt → PwrSt) : (modPwr s f).strobes = s.strobes := rfl
@[simp] theorem modPwr_inbox (s : State) (f : PwrSt → PwrSt) : (modPwr s f).inbox = s.inbox := rfl
@[simp] theorem modPwr_transit (s : State) (f : PwrSt → PwrSt) : (modPwr s f).transit = s.transit := rfl
@[simp] theorem modPwr_ports (s : State) (f : PwrSt → PwrSt) : (modPwr s f).ports = s.ports := rfl
@[simp] theorem modPwr_pkNo (s : State) (f : PwrSt → PwrSt) : (modPwr s f).pkNo = s.pkNo := rfl
@[simp] theorem modPwr_tc0 (s : State) (f : PwrSt → PwrSt) : (modPwr s f).tc0 = s.tc0 := rfl
@[simp] theorem modPwr_unreach (s : State) (f : PwrSt → PwrSt) : (modPwr s f).unreach = s.unreach := rfl
@[simp] theorem modPwr_stwRsp (s : State) (f : PwrSt → PwrSt) : (modPwr s f).stwRsp = s.stwRsp := rfl
@[simp] theorem modPwr_noted (s : State) (f : PwrSt → PwrSt) : (modPwr s f).noted = s.noted := rfl
@[simp] theorem modPwr_pwr (s : State) (f : PwrSt → PwrSt) :
    (modPwr s f).pwr = f s.pwr := rfl
@[simp] theorem modPwr_tru (s : State) (f : PwrSt → PwrSt) : (modPwr s f).tru = s.tru := rfl
@[simp] theorem modPwr_lops (s : State) (f : PwrSt → PwrSt) : (modPwr s f).lops = s.lops := rfl
@[simp] theorem modPwr_svc (s : State) (f : PwrSt → PwrSt) : (modPwr s f).svc = s.svc := rfl
@[simp] theorem modPwr_core (s : State) (f : PwrSt → PwrSt) (c : Nat) : (modPwr s f).core c = s.core c := rfl
@[simp] theorem modPwr_link (s : State) (f : PwrSt → PwrSt) (q : Nat) : (modPwr s f).link q = s.link q := rfl
@[simp] theorem modPwr_reg (s : State) (f : PwrSt → PwrSt) (q : Reg) (j m : Nat) : (modPwr s f).reg q j m = s.reg q j m := rfl
@[simp] theorem modPwr_fld (s : State) (f : PwrSt → PwrSt) (g : Fld) (j m : Nat) : (modPwr s f).fld g j m = s.fld g j m := rfl

/-! ### `modRiser` -/

@[simp] theorem modRiser_pending (s : State) (f : RiserSt → RiserSt) : (modRiser s f).pending = s.pending := rfl
@[simp] theorem modRiser_ck (s : State) (f : RiserSt → RiserSt) : (modRiser s f).ck = s.ck := rfl
@[simp] theorem modRiser_frameCk (s : State) (f : RiserSt → RiserSt) : (modRiser s f).frameCk = s.frameCk := rfl
@[simp] theorem modRiser_trim (s : State) (f : RiserSt → RiserSt) : (modRiser s f).trim = s.trim := rfl
@[simp] theorem modRiser_regs (s : State) (f : RiserSt → RiserSt) : (modRiser s f).regs = s.regs := rfl
@[simp] theorem modRiser_fuses (s : State) (f : RiserSt → RiserSt) : (modRiser s f).fuses = s.fuses := rfl
@[simp] theorem modRiser_hiLatch (s : State) (f : RiserSt → RiserSt) : (modRiser s f).hiLatch = s.hiLatch := rfl
@[simp] theorem modRiser_freeCtr (s : State) (f : RiserSt → RiserSt) : (modRiser s f).freeCtr = s.freeCtr := rfl
@[simp] theorem modRiser_cores (s : State) (f : RiserSt → RiserSt) : (modRiser s f).cores = s.cores := rfl
@[simp] theorem modRiser_tun (s : State) (f : RiserSt → RiserSt) : (modRiser s f).tun = s.tun := rfl
@[simp] theorem modRiser_hbm (s : State) (f : RiserSt → RiserSt) : (modRiser s f).hbm = s.hbm := rfl
@[simp] theorem modRiser_acc (s : State) (f : RiserSt → RiserSt) : (modRiser s f).acc = s.acc := rfl
@[simp] theorem modRiser_ing (s : State) (f : RiserSt → RiserSt) : (modRiser s f).ing = s.ing := rfl
@[simp] theorem modRiser_col (s : State) (f : RiserSt → RiserSt) : (modRiser s f).col = s.col := rfl
@[simp] theorem modRiser_sweep (s : State) (f : RiserSt → RiserSt) : (modRiser s f).sweep = s.sweep := rfl
@[simp] theorem modRiser_jnl (s : State) (f : RiserSt → RiserSt) : (modRiser s f).jnl = s.jnl := rfl
@[simp] theorem modRiser_riser (s : State) (f : RiserSt → RiserSt) :
    (modRiser s f).riser = f s.riser := rfl
@[simp] theorem modRiser_life (s : State) (f : RiserSt → RiserSt) : (modRiser s f).life = s.life := rfl
@[simp] theorem modRiser_lifeImg (s : State) (f : RiserSt → RiserSt) : (modRiser s f).lifeImg = s.lifeImg := rfl
@[simp] theorem modRiser_lifeCk (s : State) (f : RiserSt → RiserSt) : (modRiser s f).lifeCk = s.lifeCk := rfl
@[simp] theorem modRiser_hotCk (s : State) (f : RiserSt → RiserSt) : (modRiser s f).hotCk = s.hotCk := rfl
@[simp] theorem modRiser_cal (s : State) (f : RiserSt → RiserSt) : (modRiser s f).cal = s.cal := rfl
@[simp] theorem modRiser_ext (s : State) (f : RiserSt → RiserSt) : (modRiser s f).ext = s.ext := rfl
@[simp] theorem modRiser_stag (s : State) (f : RiserSt → RiserSt) : (modRiser s f).stag = s.stag := rfl
@[simp] theorem modRiser_remote (s : State) (f : RiserSt → RiserSt) : (modRiser s f).remote = s.remote := rfl
@[simp] theorem modRiser_idleFrame (s : State) (f : RiserSt → RiserSt) : (modRiser s f).idleFrame = s.idleFrame := rfl
@[simp] theorem modRiser_firstCk (s : State) (f : RiserSt → RiserSt) : (modRiser s f).firstCk = s.firstCk := rfl
@[simp] theorem modRiser_strobes (s : State) (f : RiserSt → RiserSt) : (modRiser s f).strobes = s.strobes := rfl
@[simp] theorem modRiser_inbox (s : State) (f : RiserSt → RiserSt) : (modRiser s f).inbox = s.inbox := rfl
@[simp] theorem modRiser_transit (s : State) (f : RiserSt → RiserSt) : (modRiser s f).transit = s.transit := rfl
@[simp] theorem modRiser_ports (s : State) (f : RiserSt → RiserSt) : (modRiser s f).ports = s.ports := rfl
@[simp] theorem modRiser_pkNo (s : State) (f : RiserSt → RiserSt) : (modRiser s f).pkNo = s.pkNo := rfl
@[simp] theorem modRiser_tc0 (s : State) (f : RiserSt → RiserSt) : (modRiser s f).tc0 = s.tc0 := rfl
@[simp] theorem modRiser_unreach (s : State) (f : RiserSt → RiserSt) : (modRiser s f).unreach = s.unreach := rfl
@[simp] theorem modRiser_stwRsp (s : State) (f : RiserSt → RiserSt) : (modRiser s f).stwRsp = s.stwRsp := rfl
@[simp] theorem modRiser_noted (s : State) (f : RiserSt → RiserSt) : (modRiser s f).noted = s.noted := rfl
@[simp] theorem modRiser_pwr (s : State) (f : RiserSt → RiserSt) : (modRiser s f).pwr = s.pwr := rfl
@[simp] theorem modRiser_tru (s : State) (f : RiserSt → RiserSt) : (modRiser s f).tru = s.tru := rfl
@[simp] theorem modRiser_lops (s : State) (f : RiserSt → RiserSt) : (modRiser s f).lops = s.lops := rfl
@[simp] theorem modRiser_svc (s : State) (f : RiserSt → RiserSt) : (modRiser s f).svc = s.svc := rfl
@[simp] theorem modRiser_core (s : State) (f : RiserSt → RiserSt) (c : Nat) : (modRiser s f).core c = s.core c := rfl
@[simp] theorem modRiser_link (s : State) (f : RiserSt → RiserSt) (q : Nat) : (modRiser s f).link q = s.link q := rfl
@[simp] theorem modRiser_reg (s : State) (f : RiserSt → RiserSt) (q : Reg) (j m : Nat) : (modRiser s f).reg q j m = s.reg q j m := rfl
@[simp] theorem modRiser_fld (s : State) (f : RiserSt → RiserSt) (g : Fld) (j m : Nat) : (modRiser s f).fld g j m = s.fld g j m := rfl

/-! ### `modSweep` -/

@[simp] theorem modSweep_pending (s : State) (f : SweepSt → SweepSt) : (modSweep s f).pending = s.pending := rfl
@[simp] theorem modSweep_ck (s : State) (f : SweepSt → SweepSt) : (modSweep s f).ck = s.ck := rfl
@[simp] theorem modSweep_frameCk (s : State) (f : SweepSt → SweepSt) : (modSweep s f).frameCk = s.frameCk := rfl
@[simp] theorem modSweep_trim (s : State) (f : SweepSt → SweepSt) : (modSweep s f).trim = s.trim := rfl
@[simp] theorem modSweep_regs (s : State) (f : SweepSt → SweepSt) : (modSweep s f).regs = s.regs := rfl
@[simp] theorem modSweep_fuses (s : State) (f : SweepSt → SweepSt) : (modSweep s f).fuses = s.fuses := rfl
@[simp] theorem modSweep_hiLatch (s : State) (f : SweepSt → SweepSt) : (modSweep s f).hiLatch = s.hiLatch := rfl
@[simp] theorem modSweep_freeCtr (s : State) (f : SweepSt → SweepSt) : (modSweep s f).freeCtr = s.freeCtr := rfl
@[simp] theorem modSweep_cores (s : State) (f : SweepSt → SweepSt) : (modSweep s f).cores = s.cores := rfl
@[simp] theorem modSweep_tun (s : State) (f : SweepSt → SweepSt) : (modSweep s f).tun = s.tun := rfl
@[simp] theorem modSweep_hbm (s : State) (f : SweepSt → SweepSt) : (modSweep s f).hbm = s.hbm := rfl
@[simp] theorem modSweep_acc (s : State) (f : SweepSt → SweepSt) : (modSweep s f).acc = s.acc := rfl
@[simp] theorem modSweep_ing (s : State) (f : SweepSt → SweepSt) : (modSweep s f).ing = s.ing := rfl
@[simp] theorem modSweep_col (s : State) (f : SweepSt → SweepSt) : (modSweep s f).col = s.col := rfl
@[simp] theorem modSweep_sweep (s : State) (f : SweepSt → SweepSt) :
    (modSweep s f).sweep = f s.sweep := rfl
@[simp] theorem modSweep_jnl (s : State) (f : SweepSt → SweepSt) : (modSweep s f).jnl = s.jnl := rfl
@[simp] theorem modSweep_riser (s : State) (f : SweepSt → SweepSt) : (modSweep s f).riser = s.riser := rfl
@[simp] theorem modSweep_life (s : State) (f : SweepSt → SweepSt) : (modSweep s f).life = s.life := rfl
@[simp] theorem modSweep_lifeImg (s : State) (f : SweepSt → SweepSt) : (modSweep s f).lifeImg = s.lifeImg := rfl
@[simp] theorem modSweep_lifeCk (s : State) (f : SweepSt → SweepSt) : (modSweep s f).lifeCk = s.lifeCk := rfl
@[simp] theorem modSweep_hotCk (s : State) (f : SweepSt → SweepSt) : (modSweep s f).hotCk = s.hotCk := rfl
@[simp] theorem modSweep_cal (s : State) (f : SweepSt → SweepSt) : (modSweep s f).cal = s.cal := rfl
@[simp] theorem modSweep_ext (s : State) (f : SweepSt → SweepSt) : (modSweep s f).ext = s.ext := rfl
@[simp] theorem modSweep_stag (s : State) (f : SweepSt → SweepSt) : (modSweep s f).stag = s.stag := rfl
@[simp] theorem modSweep_remote (s : State) (f : SweepSt → SweepSt) : (modSweep s f).remote = s.remote := rfl
@[simp] theorem modSweep_idleFrame (s : State) (f : SweepSt → SweepSt) : (modSweep s f).idleFrame = s.idleFrame := rfl
@[simp] theorem modSweep_firstCk (s : State) (f : SweepSt → SweepSt) : (modSweep s f).firstCk = s.firstCk := rfl
@[simp] theorem modSweep_strobes (s : State) (f : SweepSt → SweepSt) : (modSweep s f).strobes = s.strobes := rfl
@[simp] theorem modSweep_inbox (s : State) (f : SweepSt → SweepSt) : (modSweep s f).inbox = s.inbox := rfl
@[simp] theorem modSweep_transit (s : State) (f : SweepSt → SweepSt) : (modSweep s f).transit = s.transit := rfl
@[simp] theorem modSweep_ports (s : State) (f : SweepSt → SweepSt) : (modSweep s f).ports = s.ports := rfl
@[simp] theorem modSweep_pkNo (s : State) (f : SweepSt → SweepSt) : (modSweep s f).pkNo = s.pkNo := rfl
@[simp] theorem modSweep_tc0 (s : State) (f : SweepSt → SweepSt) : (modSweep s f).tc0 = s.tc0 := rfl
@[simp] theorem modSweep_unreach (s : State) (f : SweepSt → SweepSt) : (modSweep s f).unreach = s.unreach := rfl
@[simp] theorem modSweep_stwRsp (s : State) (f : SweepSt → SweepSt) : (modSweep s f).stwRsp = s.stwRsp := rfl
@[simp] theorem modSweep_noted (s : State) (f : SweepSt → SweepSt) : (modSweep s f).noted = s.noted := rfl
@[simp] theorem modSweep_pwr (s : State) (f : SweepSt → SweepSt) : (modSweep s f).pwr = s.pwr := rfl
@[simp] theorem modSweep_tru (s : State) (f : SweepSt → SweepSt) : (modSweep s f).tru = s.tru := rfl
@[simp] theorem modSweep_lops (s : State) (f : SweepSt → SweepSt) : (modSweep s f).lops = s.lops := rfl
@[simp] theorem modSweep_svc (s : State) (f : SweepSt → SweepSt) : (modSweep s f).svc = s.svc := rfl
@[simp] theorem modSweep_core (s : State) (f : SweepSt → SweepSt) (c : Nat) : (modSweep s f).core c = s.core c := rfl
@[simp] theorem modSweep_link (s : State) (f : SweepSt → SweepSt) (q : Nat) : (modSweep s f).link q = s.link q := rfl
@[simp] theorem modSweep_reg (s : State) (f : SweepSt → SweepSt) (q : Reg) (j m : Nat) : (modSweep s f).reg q j m = s.reg q j m := rfl
@[simp] theorem modSweep_fld (s : State) (f : SweepSt → SweepSt) (g : Fld) (j m : Nat) : (modSweep s f).fld g j m = s.fld g j m := rfl

/-! ### `modJtag` -/

@[simp] theorem modJtag_pending (s : State) (f : JtagSt → JtagSt) : (modJtag s f).pending = s.pending := rfl
@[simp] theorem modJtag_ck (s : State) (f : JtagSt → JtagSt) : (modJtag s f).ck = s.ck := rfl
@[simp] theorem modJtag_frameCk (s : State) (f : JtagSt → JtagSt) : (modJtag s f).frameCk = s.frameCk := rfl
@[simp] theorem modJtag_trim (s : State) (f : JtagSt → JtagSt) : (modJtag s f).trim = s.trim := rfl
@[simp] theorem modJtag_regs (s : State) (f : JtagSt → JtagSt) : (modJtag s f).regs = s.regs := rfl
@[simp] theorem modJtag_fuses (s : State) (f : JtagSt → JtagSt) : (modJtag s f).fuses = s.fuses := rfl
@[simp] theorem modJtag_hiLatch (s : State) (f : JtagSt → JtagSt) : (modJtag s f).hiLatch = s.hiLatch := rfl
@[simp] theorem modJtag_freeCtr (s : State) (f : JtagSt → JtagSt) : (modJtag s f).freeCtr = s.freeCtr := rfl
@[simp] theorem modJtag_cores (s : State) (f : JtagSt → JtagSt) : (modJtag s f).cores = s.cores := rfl
@[simp] theorem modJtag_tun (s : State) (f : JtagSt → JtagSt) : (modJtag s f).tun = s.tun := rfl
@[simp] theorem modJtag_hbm (s : State) (f : JtagSt → JtagSt) : (modJtag s f).hbm = s.hbm := rfl
@[simp] theorem modJtag_acc (s : State) (f : JtagSt → JtagSt) : (modJtag s f).acc = s.acc := rfl
@[simp] theorem modJtag_ing (s : State) (f : JtagSt → JtagSt) : (modJtag s f).ing = s.ing := rfl
@[simp] theorem modJtag_col (s : State) (f : JtagSt → JtagSt) : (modJtag s f).col = s.col := rfl
@[simp] theorem modJtag_sweep (s : State) (f : JtagSt → JtagSt) : (modJtag s f).sweep = s.sweep := rfl
@[simp] theorem modJtag_jnl (s : State) (f : JtagSt → JtagSt) : (modJtag s f).jnl = s.jnl := rfl
@[simp] theorem modJtag_riser (s : State) (f : JtagSt → JtagSt) : (modJtag s f).riser = s.riser := rfl
@[simp] theorem modJtag_life (s : State) (f : JtagSt → JtagSt) : (modJtag s f).life = s.life := rfl
@[simp] theorem modJtag_lifeImg (s : State) (f : JtagSt → JtagSt) : (modJtag s f).lifeImg = s.lifeImg := rfl
@[simp] theorem modJtag_lifeCk (s : State) (f : JtagSt → JtagSt) : (modJtag s f).lifeCk = s.lifeCk := rfl
@[simp] theorem modJtag_hotCk (s : State) (f : JtagSt → JtagSt) : (modJtag s f).hotCk = s.hotCk := rfl
@[simp] theorem modJtag_cal (s : State) (f : JtagSt → JtagSt) : (modJtag s f).cal = s.cal := rfl
@[simp] theorem modJtag_ext (s : State) (f : JtagSt → JtagSt) : (modJtag s f).ext = s.ext := rfl
@[simp] theorem modJtag_stag (s : State) (f : JtagSt → JtagSt) : (modJtag s f).stag = s.stag := rfl
@[simp] theorem modJtag_remote (s : State) (f : JtagSt → JtagSt) : (modJtag s f).remote = s.remote := rfl
@[simp] theorem modJtag_idleFrame (s : State) (f : JtagSt → JtagSt) : (modJtag s f).idleFrame = s.idleFrame := rfl
@[simp] theorem modJtag_firstCk (s : State) (f : JtagSt → JtagSt) : (modJtag s f).firstCk = s.firstCk := rfl
@[simp] theorem modJtag_strobes (s : State) (f : JtagSt → JtagSt) : (modJtag s f).strobes = s.strobes := rfl
@[simp] theorem modJtag_inbox (s : State) (f : JtagSt → JtagSt) : (modJtag s f).inbox = s.inbox := rfl
@[simp] theorem modJtag_transit (s : State) (f : JtagSt → JtagSt) : (modJtag s f).transit = s.transit := rfl
@[simp] theorem modJtag_ports (s : State) (f : JtagSt → JtagSt) : (modJtag s f).ports = s.ports := rfl
@[simp] theorem modJtag_pkNo (s : State) (f : JtagSt → JtagSt) : (modJtag s f).pkNo = s.pkNo := rfl
@[simp] theorem modJtag_tc0 (s : State) (f : JtagSt → JtagSt) : (modJtag s f).tc0 = s.tc0 := rfl
@[simp] theorem modJtag_unreach (s : State) (f : JtagSt → JtagSt) : (modJtag s f).unreach = s.unreach := rfl
@[simp] theorem modJtag_stwRsp (s : State) (f : JtagSt → JtagSt) : (modJtag s f).stwRsp = s.stwRsp := rfl
@[simp] theorem modJtag_noted (s : State) (f : JtagSt → JtagSt) : (modJtag s f).noted = s.noted := rfl
@[simp] theorem modJtag_pwr (s : State) (f : JtagSt → JtagSt) : (modJtag s f).pwr = s.pwr := rfl
@[simp] theorem modJtag_tru (s : State) (f : JtagSt → JtagSt) : (modJtag s f).tru = s.tru := rfl
@[simp] theorem modJtag_lops (s : State) (f : JtagSt → JtagSt) : (modJtag s f).lops = s.lops := rfl
@[simp] theorem modJtag_svc (s : State) (f : JtagSt → JtagSt) :
    (modJtag s f).svc = { s.svc with jtag := f s.svc.jtag } := rfl
@[simp] theorem modJtag_core (s : State) (f : JtagSt → JtagSt) (c : Nat) : (modJtag s f).core c = s.core c := rfl
@[simp] theorem modJtag_link (s : State) (f : JtagSt → JtagSt) (q : Nat) : (modJtag s f).link q = s.link q := rfl
@[simp] theorem modJtag_reg (s : State) (f : JtagSt → JtagSt) (q : Reg) (j m : Nat) : (modJtag s f).reg q j m = s.reg q j m := rfl
@[simp] theorem modJtag_fld (s : State) (f : JtagSt → JtagSt) (g : Fld) (j m : Nat) : (modJtag s f).fld g j m = s.fld g j m := rfl

/-! ### `setLop` -/

@[simp] theorem setLop_pending (s : State) (k : Nat) (x : Option LopSt) : (setLop s k x).pending = s.pending := rfl
@[simp] theorem setLop_ck (s : State) (k : Nat) (x : Option LopSt) : (setLop s k x).ck = s.ck := rfl
@[simp] theorem setLop_frameCk (s : State) (k : Nat) (x : Option LopSt) : (setLop s k x).frameCk = s.frameCk := rfl
@[simp] theorem setLop_trim (s : State) (k : Nat) (x : Option LopSt) : (setLop s k x).trim = s.trim := rfl
@[simp] theorem setLop_regs (s : State) (k : Nat) (x : Option LopSt) : (setLop s k x).regs = s.regs := rfl
@[simp] theorem setLop_fuses (s : State) (k : Nat) (x : Option LopSt) : (setLop s k x).fuses = s.fuses := rfl
@[simp] theorem setLop_hiLatch (s : State) (k : Nat) (x : Option LopSt) : (setLop s k x).hiLatch = s.hiLatch := rfl
@[simp] theorem setLop_freeCtr (s : State) (k : Nat) (x : Option LopSt) : (setLop s k x).freeCtr = s.freeCtr := rfl
@[simp] theorem setLop_cores (s : State) (k : Nat) (x : Option LopSt) : (setLop s k x).cores = s.cores := rfl
@[simp] theorem setLop_tun (s : State) (k : Nat) (x : Option LopSt) : (setLop s k x).tun = s.tun := rfl
@[simp] theorem setLop_hbm (s : State) (k : Nat) (x : Option LopSt) : (setLop s k x).hbm = s.hbm := rfl
@[simp] theorem setLop_acc (s : State) (k : Nat) (x : Option LopSt) : (setLop s k x).acc = s.acc := rfl
@[simp] theorem setLop_ing (s : State) (k : Nat) (x : Option LopSt) : (setLop s k x).ing = s.ing := rfl
@[simp] theorem setLop_col (s : State) (k : Nat) (x : Option LopSt) : (setLop s k x).col = s.col := rfl
@[simp] theorem setLop_sweep (s : State) (k : Nat) (x : Option LopSt) : (setLop s k x).sweep = s.sweep := rfl
@[simp] theorem setLop_jnl (s : State) (k : Nat) (x : Option LopSt) : (setLop s k x).jnl = s.jnl := rfl
@[simp] theorem setLop_riser (s : State) (k : Nat) (x : Option LopSt) : (setLop s k x).riser = s.riser := rfl
@[simp] theorem setLop_life (s : State) (k : Nat) (x : Option LopSt) : (setLop s k x).life = s.life := rfl
@[simp] theorem setLop_lifeImg (s : State) (k : Nat) (x : Option LopSt) : (setLop s k x).lifeImg = s.lifeImg := rfl
@[simp] theorem setLop_lifeCk (s : State) (k : Nat) (x : Option LopSt) : (setLop s k x).lifeCk = s.lifeCk := rfl
@[simp] theorem setLop_hotCk (s : State) (k : Nat) (x : Option LopSt) : (setLop s k x).hotCk = s.hotCk := rfl
@[simp] theorem setLop_cal (s : State) (k : Nat) (x : Option LopSt) : (setLop s k x).cal = s.cal := rfl
@[simp] theorem setLop_ext (s : State) (k : Nat) (x : Option LopSt) : (setLop s k x).ext = s.ext := rfl
@[simp] theorem setLop_stag (s : State) (k : Nat) (x : Option LopSt) : (setLop s k x).stag = s.stag := rfl
@[simp] theorem setLop_remote (s : State) (k : Nat) (x : Option LopSt) : (setLop s k x).remote = s.remote := rfl
@[simp] theorem setLop_idleFrame (s : State) (k : Nat) (x : Option LopSt) : (setLop s k x).idleFrame = s.idleFrame := rfl
@[simp] theorem setLop_firstCk (s : State) (k : Nat) (x : Option LopSt) : (setLop s k x).firstCk = s.firstCk := rfl
@[simp] theorem setLop_strobes (s : State) (k : Nat) (x : Option LopSt) : (setLop s k x).strobes = s.strobes := rfl
@[simp] theorem setLop_inbox (s : State) (k : Nat) (x : Option LopSt) : (setLop s k x).inbox = s.inbox := rfl
@[simp] theorem setLop_transit (s : State) (k : Nat) (x : Option LopSt) : (setLop s k x).transit = s.transit := rfl
@[simp] theorem setLop_ports (s : State) (k : Nat) (x : Option LopSt) : (setLop s k x).ports = s.ports := rfl
@[simp] theorem setLop_pkNo (s : State) (k : Nat) (x : Option LopSt) : (setLop s k x).pkNo = s.pkNo := rfl
@[simp] theorem setLop_tc0 (s : State) (k : Nat) (x : Option LopSt) : (setLop s k x).tc0 = s.tc0 := rfl
@[simp] theorem setLop_unreach (s : State) (k : Nat) (x : Option LopSt) : (setLop s k x).unreach = s.unreach := rfl
@[simp] theorem setLop_stwRsp (s : State) (k : Nat) (x : Option LopSt) : (setLop s k x).stwRsp = s.stwRsp := rfl
@[simp] theorem setLop_noted (s : State) (k : Nat) (x : Option LopSt) : (setLop s k x).noted = s.noted := rfl
@[simp] theorem setLop_pwr (s : State) (k : Nat) (x : Option LopSt) : (setLop s k x).pwr = s.pwr := rfl
@[simp] theorem setLop_tru (s : State) (k : Nat) (x : Option LopSt) : (setLop s k x).tru = s.tru := rfl
@[simp] theorem setLop_lops (s : State) (k : Nat) (x : Option LopSt) :
    (setLop s k x).lops = s.lops.mapIdx (fun i y => if i = k then x else y) := rfl
@[simp] theorem setLop_svc (s : State) (k : Nat) (x : Option LopSt) : (setLop s k x).svc = s.svc := rfl
@[simp] theorem setLop_core (s : State) (k : Nat) (x : Option LopSt) (c : Nat) : (setLop s k x).core c = s.core c := rfl
@[simp] theorem setLop_link (s : State) (k : Nat) (x : Option LopSt) (q : Nat) : (setLop s k x).link q = s.link q := rfl
@[simp] theorem setLop_reg (s : State) (k : Nat) (x : Option LopSt) (q : Reg) (j m : Nat) : (setLop s k x).reg q j m = s.reg q j m := rfl
@[simp] theorem setLop_fld (s : State) (k : Nat) (x : Option LopSt) (g : Fld) (j m : Nat) : (setLop s k x).fld g j m = s.fld g j m := rfl

/-! ### `setCache` -/

@[simp] theorem setCache_pending (s : State) (l : List CacheEnt) : (setCache s l).pending = s.pending := rfl
@[simp] theorem setCache_ck (s : State) (l : List CacheEnt) : (setCache s l).ck = s.ck := rfl
@[simp] theorem setCache_frameCk (s : State) (l : List CacheEnt) : (setCache s l).frameCk = s.frameCk := rfl
@[simp] theorem setCache_trim (s : State) (l : List CacheEnt) : (setCache s l).trim = s.trim := rfl
@[simp] theorem setCache_fuses (s : State) (l : List CacheEnt) : (setCache s l).fuses = s.fuses := rfl
@[simp] theorem setCache_hiLatch (s : State) (l : List CacheEnt) : (setCache s l).hiLatch = s.hiLatch := rfl
@[simp] theorem setCache_freeCtr (s : State) (l : List CacheEnt) : (setCache s l).freeCtr = s.freeCtr := rfl
@[simp] theorem setCache_cores (s : State) (l : List CacheEnt) : (setCache s l).cores = s.cores := rfl
@[simp] theorem setCache_hbm (s : State) (l : List CacheEnt) : (setCache s l).hbm = s.hbm := rfl
@[simp] theorem setCache_acc (s : State) (l : List CacheEnt) : (setCache s l).acc = s.acc := rfl
@[simp] theorem setCache_ing (s : State) (l : List CacheEnt) : (setCache s l).ing = s.ing := rfl
@[simp] theorem setCache_col (s : State) (l : List CacheEnt) : (setCache s l).col = s.col := rfl
@[simp] theorem setCache_sweep (s : State) (l : List CacheEnt) : (setCache s l).sweep = s.sweep := rfl
@[simp] theorem setCache_jnl (s : State) (l : List CacheEnt) : (setCache s l).jnl = s.jnl := rfl
@[simp] theorem setCache_riser (s : State) (l : List CacheEnt) : (setCache s l).riser = s.riser := rfl
@[simp] theorem setCache_life (s : State) (l : List CacheEnt) : (setCache s l).life = s.life := rfl
@[simp] theorem setCache_lifeImg (s : State) (l : List CacheEnt) : (setCache s l).lifeImg = s.lifeImg := rfl
@[simp] theorem setCache_lifeCk (s : State) (l : List CacheEnt) : (setCache s l).lifeCk = s.lifeCk := rfl
@[simp] theorem setCache_hotCk (s : State) (l : List CacheEnt) : (setCache s l).hotCk = s.hotCk := rfl
@[simp] theorem setCache_cal (s : State) (l : List CacheEnt) : (setCache s l).cal = s.cal := rfl
@[simp] theorem setCache_ext (s : State) (l : List CacheEnt) : (setCache s l).ext = s.ext := rfl
@[simp] theorem setCache_stag (s : State) (l : List CacheEnt) : (setCache s l).stag = s.stag := rfl
@[simp] theorem setCache_remote (s : State) (l : List CacheEnt) : (setCache s l).remote = s.remote := rfl
@[simp] theorem setCache_idleFrame (s : State) (l : List CacheEnt) : (setCache s l).idleFrame = s.idleFrame := rfl
@[simp] theorem setCache_firstCk (s : State) (l : List CacheEnt) : (setCache s l).firstCk = s.firstCk := rfl
@[simp] theorem setCache_strobes (s : State) (l : List CacheEnt) : (setCache s l).strobes = s.strobes := rfl
@[simp] theorem setCache_inbox (s : State) (l : List CacheEnt) : (setCache s l).inbox = s.inbox := rfl
@[simp] theorem setCache_transit (s : State) (l : List CacheEnt) : (setCache s l).transit = s.transit := rfl
@[simp] theorem setCache_ports (s : State) (l : List CacheEnt) : (setCache s l).ports = s.ports := rfl
@[simp] theorem setCache_pkNo (s : State) (l : List CacheEnt) : (setCache s l).pkNo = s.pkNo := rfl
@[simp] theorem setCache_tc0 (s : State) (l : List CacheEnt) : (setCache s l).tc0 = s.tc0 := rfl
@[simp] theorem setCache_unreach (s : State) (l : List CacheEnt) : (setCache s l).unreach = s.unreach := rfl
@[simp] theorem setCache_stwRsp (s : State) (l : List CacheEnt) : (setCache s l).stwRsp = s.stwRsp := rfl
@[simp] theorem setCache_noted (s : State) (l : List CacheEnt) : (setCache s l).noted = s.noted := rfl
@[simp] theorem setCache_pwr (s : State) (l : List CacheEnt) : (setCache s l).pwr = s.pwr := rfl
@[simp] theorem setCache_tru (s : State) (l : List CacheEnt) : (setCache s l).tru = s.tru := rfl
@[simp] theorem setCache_lops (s : State) (l : List CacheEnt) : (setCache s l).lops = s.lops := rfl
@[simp] theorem setCache_svc (s : State) (l : List CacheEnt) : (setCache s l).svc = s.svc := rfl
@[simp] theorem setCache_core (s : State) (l : List CacheEnt) (c : Nat) : (setCache s l).core c = s.core c := rfl
@[simp] theorem setCache_link (s : State) (l : List CacheEnt) (q : Nat) : (setCache s l).link q = s.link q := rfl

end

end Sys2Proof.Machine
end

