-- ==== Sys2Proof/Tests/Slice0.lean ====
section
/-!
SUPPORT. Tests/Slice0.lean: small tests of the model on states built over `State.reset`, and the witnesses: each applies one
clause of a statement at a concrete state, so that the clause's hypotheses hold there together.
-/
namespace Sys2Proof

section

set_option Elab.async false

open Sys2Proof.Machine

/-! ## Small states -/

/-- A state with one page ON. -/
def tOn (p : PageKind) (i : Nat := 0) (s : State := State.reset) : State := s.setPageState p i pgOn

/-- A quenched state. -/
def tQ : State := State.reset.setReg STW.Q_STATE 1

/-- A state with a message received from this device's own routing. -/
def tMsg (m : Packet) (s : State := State.reset) : State := { s with inbox := [(24, m)] }

/-- Core 1 with a Sprue beyond its registers. -/
def tSpr (f : SprueSt → SprueSt) (s : State := State.reset) : State := s.modSpr 1 f

/-- Core 1 changed. -/
def tCore (f : CoreSt → CoreSt) (s : State := State.reset) : State := s.modCore 1 f

/-- Port 2 changed, its page ON and its state `st`. -/
def tPort (st : Nat) (f : PortLink → PortLink := id) : State := modLink ((tOn .avl 2).setFld AVL.STATE_PORT st 2) 2 f

/-- The outcome of a step as a state; the state itself where there is none. -/
def after (i : Instr) (s : State) : State :=
  match exec i s with
  | .next t => t
  | _ => s

theorem test_idle_from_reset : step State.reset = .next State.reset := rfl

/-! ## Witnesses: the queue, the shared containers, frames, power, quench -/

theorem wit_step : Obligations.StepRunsFrontCommand →
    ∃ t, step { State.reset with pending := [.phaseOverCurrent, .refclkLoss] } = exec .phaseOverCurrent t :=
  fun h => ⟨_, h _ _ _ rfl⟩

theorem wit_idle : Obligations.EmptyQueueIdles → step State.reset = .next State.reset := fun h => h _ rfl

theorem wit_reset_sound : State.reset.Sound := ⟨rfl, rfl, rfl, rfl, rfl, rfl, rfl, by decide⟩

theorem wit_step_keeps : Obligations.StepKeepsSound → (after .idcode State.reset).Sound :=
  fun h => h { State.reset with pending := [.idcode] } _ ⟨rfl, rfl, rfl, rfl, rfl, rfl, rfl, by decide⟩ rfl

theorem wit_step_fuses : Obligations.StepKeepsFuses → (after .idcode State.reset).fuses = State.reset.fuses :=
  fun h => (h { State.reset with pending := [.idcode] } _ rfl).1

theorem wit_register : Obligations.RegisterHoldsWhatIsStored →
    (State.reset.setReg STW.SVC_LAMP (2 ^ 32 + 5)).reg STW.SVC_LAMP = 5 :=
  fun h => (h _ STW.SVC_LAMP (2 ^ 32 + 5) 0 0 wit_reset_sound rfl).1

theorem wit_register_other : Obligations.RegisterHoldsWhatIsStored →
    (State.reset.setReg AVL.PEER 7 23).reg AVL.PEER 22 = State.reset.reg AVL.PEER 22 :=
  fun h => (h _ AVL.PEER 7 23 0 wit_reset_sound rfl).2.1 _ _ _ (by decide)

theorem wit_memory : Obligations.MemoryHoldsWhatIsWritten →
    readBytes (writeBytes [(3, 7), (9, 1)] 3 [0, 5]) 9 1 = readBytes [(3, 7), (9, 1)] 9 1 :=
  fun h => (h _ 3 [0, 5] (by decide)).2.1 9 (Or.inr (by decide))

theorem wit_memory_below : Obligations.MemoryHoldsWhatIsWritten →
    readBytes (writeBytes [(3, 7), (9, 1)] 4 [0, 5]) 3 1 = readBytes [(3, 7), (9, 1)] 3 1 :=
  fun h => (h _ 4 [0, 5] (by decide)).2.1 3 (Or.inl (by decide))

/-- A beacon from device 0 whose period and profile are this device's. -/
def tBeacon : Packet := { tc := 0, mkind := 0x11, dest := 0, body := leBytes 6 5 ++ leBytes 4 1200000 ++ [0] }

theorem wit_window : Obligations.FrameCommandsComplete → ∃ t, exec .periodChange State.reset = .next t :=
  fun h => ⟨_, (h.2.2.1 _ rfl).1⟩

theorem wit_beacon : Obligations.FrameCommandsComplete → ∃ t, exec (.beacon 0) (tMsg tBeacon) = .next t :=
  fun h => ⟨_, h.2.2.2.1 (tMsg tBeacon) _ _ _ 0 rfl rfl rfl rfl rfl (by decide)⟩

theorem wit_beacon_timeout : Obligations.FrameCommandsComplete →
    ∃ t, exec .beaconTimeout (State.reset.setReg PWR.FRAME_COUNT 4) = .next t :=
  fun h => ⟨_, h.2.2.2.2.1 _ rfl (by decide)⟩

theorem wit_stretch : Obligations.FrameCommandsComplete →
    ∃ t, exec .stretch (tMsg { tc := 0, mkind := 0x12, dest := 0, body := [1, 9, 0, 0, 0, 0, 0] }) = .next t :=
  fun h => ⟨_, (h.2.2.2.2.2 (tMsg { tc := 0, mkind := 0x12, dest := 0, body := [1, 9, 0, 0, 0, 0, 0] }) _ _ _ rfl rfl).1 (by decide)⟩

theorem wit_stretch_master : Obligations.FrameCommandsComplete →
    ∃ t, exec .stretch (tMsg { tc := 0, mkind := 0x12, dest := 0 } (State.reset.setFld PWR.ALIGN_CTRL_MASTER 1)) = .next t :=
  fun h => ⟨_, (h.2.2.2.2.2 (tMsg { tc := 0, mkind := 0x12, dest := 0 } (State.reset.setFld PWR.ALIGN_CTRL_MASTER 1)) _ _ _
    rfl rfl).2 rfl rfl⟩

theorem wit_power_fail : Obligations.PowerCommandsComplete → ∃ t, exec (.powerFailTrip false 37999) State.reset = .next t :=
  fun h => ⟨_, h.1 _ _ _ (Or.inr (by decide))⟩

theorem wit_flush : Obligations.PowerCommandsComplete →
    ∃ t, exec .flushComplete (State.reset.setFld ING.JNL_STATE_FLUSHING 1) = .next t := fun h => ⟨_, h.2.1 _ rfl⟩

theorem wit_sample : Obligations.PowerCommandsComplete → ∃ t, exec (.inputSample 46000 88000) State.reset = .next t := by
  intro h
  have e : (State.reset.upTo (State.reset.pwr.sampleCk + State.reset.ckPerUs)).armed PWR.PWR_INJ_VIN_LOW = false := rfl
  exact Exists.intro _ (h.2.2.1 46000 88000 State.reset (by omega) (by omega) (by omega) e)

theorem wit_sample_low : Obligations.PowerCommandsComplete → ∃ t, exec (.inputSample 40000 0) State.reset = .next t :=
  fun h => ⟨_, h.2.2.1 _ _ _ (by omega) (by omega) (by omega) rfl⟩

theorem wit_rail : Obligations.PowerCommandsComplete → ∃ t, exec (.railOutOfRegulation 0 10) State.reset = .next t :=
  fun h => ⟨_, h.2.2.2.2.1 _ _ _ (Or.inr (by decide))⟩

theorem wit_sensor : Obligations.PowerCommandsComplete → ∃ t, exec (.sensorRead 159 1150) State.reset = .next t :=
  fun h => ⟨_, h.2.2.2.2.2.2.1 _ _ _ rfl rfl⟩

theorem wit_stagger : Obligations.PowerCommandsComplete →
    ∃ t, exec .staggerGrant { State.reset with stag := [(0, 1, 0)] } = .next t := by
  intro h
  have e : nextStart { State.reset with stag := [(0, 1, 0)] } = some (3200, 0, 1, 0) := by decide
  exact ⟨_, h.2.2.2.2.2.2.2.1 { State.reset with stag := [(0, 1, 0)] } 3200 1 0 rfl rfl e⟩

theorem wit_input_back : Obligations.PowerCommandsComplete →
    ∃ t, exec (.inputRecovery {}) { State.reset with svc := { flushed := true } } = .next t :=
  fun h => ⟨_, h.2.2.2.2.2.2.2.2.2 _ _ rfl⟩

theorem wit_quench_entry : Obligations.QuenchCommandsComplete →
    ∃ t, exec (.quenchEntry ⟨6, 0, 0, 0⟩ [⟨2, 0, 0, 0⟩]) State.reset = .next t := fun h => ⟨_, h.1 _ _ _ (by decide) (by decide)⟩

theorem wit_swreq : Obligations.QuenchCommandsComplete → ∃ t, exec (.qSwreq 0xFFFF51E4) State.reset = .next t :=
  fun h => ⟨_, h.2.1 _ _ (by decide)⟩

theorem wit_safe : Obligations.QuenchCommandsComplete → ∃ t, exec .safeStateReached tQ = .next t :=
  fun h => ⟨_, h.2.2.1 _ rfl rfl⟩

theorem wit_flash : Obligations.QuenchCommandsComplete → ∃ t, exec .flashQuiesced (tQ.setFld STW.Q_STATE_FLASH_BUSY 1) = .next t :=
  fun h => ⟨_, h.2.2.2.1 _ rfl rfl⟩

theorem wit_header : Obligations.QuenchCommandsComplete → ∃ t, exec (.headerParityError 0x8100FC) State.reset = .next t :=
  fun h => ⟨_, h.2.2.2.2.1 _ _ .avl 1 0xFC rfl (by decide)⟩

theorem wit_wdog : Obligations.QuenchCommandsComplete → ∃ t, exec (.wdogPeriodExpire 3) State.reset = .next t :=
  fun h => ⟨_, h.2.2.2.2.2.2.1 _ _ rfl⟩

theorem wit_pin : Obligations.QuenchCommandsComplete → ∃ t, exec (.pinCtrlWrite 5) State.reset = .next t :=
  fun h => ⟨_, h.2.2.2.2.2.2.2 _ _ (by decide) (by decide) (by decide)⟩

/-- A descriptor of an operation issued on core 1 with sequence number 7. -/
def tIss (engine op : Nat) (f : Desc → Desc := id) : Iss := { seq := 7, desc := f { engine := engine, op := op } }

/-- Core 1 with its Sprue page ON and its stream running. -/
def tLive : State := (tOn .spr 1).setFld SPR.STATE_STREAM stRunning 1

/-- Core 1 with a Sprue operation waiting in the Sprue. -/
def tCur (op : Nat) (f : Desc → Desc := id) : State := tSpr (fun p => { p with cur := some (tIss 0 op f) }) tLive

/-! ## Witnesses: the Sprue -/

theorem wit_nop : Obligations.SprueOperationsComplete → ∃ t, exec (.nop 1) (tCur 0) = .next t :=
  fun h => ⟨_, (h 1 (tCur 0) ((tCur 0).upTo 0) (tIss 0 0)).1 rfl⟩

theorem wit_loop : Obligations.SprueOperationsComplete → ∃ t, exec (.loop 1) (tCur 1) = .next t :=
  fun h => ⟨_, (h 1 (tCur 1) ((tCur 1).upTo 0) (tIss 0 1)).2.1 rfl rfl⟩

theorem wit_pset : Obligations.SprueOperationsComplete → ∃ t, exec (.pset 1) (tCur 2) = .next t :=
  fun h => ⟨_, (h 1 (tCur 2) ((tCur 2).upTo 0) (tIss 0 2)).2.2.1 rfl⟩

/-- Region 0 in another device. -/
def tFar (p : Nat) : Desc → Desc := fun d => { d with param := p, reg0 := { type := 3, rowBytes := 64, rows := 1 } }

/-- The same operation with its word asked for and there. -/
def tFed (op p : Nat) : State :=
  modRun (tCur op (tFar p)) 1 (fun r => { r with requesters := [{ newReq 6 7 [] with total := 0 }] })

theorem wit_loop_word : Obligations.SprueOperationsComplete → ∃ t, exec (.loop 1) (tCur 1 (fun d => { d with param := 1 })) = .next t :=
  fun h => ⟨_, (h 1 (tCur 1 (fun d => { d with param := 1 })) ((tCur 1 (fun d => { d with param := 1 })).upTo 0)
    (tIss 0 1 (fun d => { d with param := 1 }))).2.2.2.1 rfl rfl (Or.inl rfl)⟩

theorem wit_loop_fed : Obligations.SprueOperationsComplete → ∃ t, exec (.loop 1) (tFed 1 1) = .next t :=
  fun h => ⟨_, (h 1 (tFed 1 1) ((tFed 1 1).upTo 0) (tIss 0 1 (tFar 1))).2.2.2.1 rfl rfl
    (Or.inr (by constructor <;> decide +kernel))⟩

theorem wit_loop_asks : Obligations.SprueOperationsComplete → ∃ t, exec (.loop 1) (tCur 1 (tFar 1)) = .next t :=
  fun h => ⟨_, (h 1 (tCur 1 (tFar 1)) ((tCur 1 (tFar 1)).upTo 0) (tIss 0 1 (tFar 1))).2.2.2.2.1 rfl rfl
    (by constructor <;> decide +kernel)⟩

theorem wit_ptest : Obligations.SprueOperationsComplete → ∃ t, exec (.ptest 1) (tCur 3) = .next t :=
  fun h => ⟨_, (h 1 (tCur 3) ((tCur 3).upTo 0) (tIss 0 3)).2.2.2.2.2.1 rfl (Or.inl rfl)⟩

theorem wit_ptest_asks : Obligations.SprueOperationsComplete → ∃ t, exec (.ptest 1) (tCur 3 (tFar 0)) = .next t :=
  fun h => ⟨_, (h 1 (tCur 3 (tFar 0)) ((tCur 3 (tFar 0)).upTo 0) (tIss 0 3 (tFar 0))).2.2.2.2.2.2.1 rfl
    (by constructor <;> decide +kernel)⟩

theorem wit_seed : Obligations.SprueOperationsComplete → ∃ t, exec (.seed 1) (tCur 4) = .next t :=
  fun h => ⟨_, (h 1 (tCur 4) ((tCur 4).upTo 0) (tIss 0 4)).2.2.2.2.2.2.2.1 rfl⟩

theorem wit_tokset : Obligations.SprueOperationsComplete → ∃ t, exec (.tokset 1) (tCur 5) = .next t :=
  fun h => ⟨_, (h 1 (tCur 5) ((tCur 5).upTo 0) (tIss 0 5)).2.2.2.2.2.2.2.2.1 rfl⟩

/-- A pattern image of ID 256 with one word in the Tundish, and the `PATLOAD` that names it. -/
def tPat : Desc → Desc := fun d => { d with param := 256, reg0 := { rowBytes := 64, rows := 1 } }
def tPatState : State :=
  { tCur 6 tPat with tun := { bytes := [(1, 1), (3, 1), (4, 0xAA), (5, 0x36), (6, 0x91), (7, 0x8A)] } }

theorem wit_patload : Obligations.SprueOperationsComplete → ∃ t, exec (.patload 1) tPatState = .next t := by
  intro h
  have e : sprueReady tPatState 1 6 = some (tIss 0 6 tPat, tPatState.upTo 0) := rfl
  have e1 : (patIds tPatState 1 0).any (patInUse tPatState 1) = false := by decide +kernel
  exact ⟨_, ((h 1 tPatState (tPatState.upTo 0) (tIss 0 6 tPat)).2.2.2.2.2.2.2.2.2.1 e e1 (by decide +kernel)).1 (Or.inl rfl)
    (by decide +kernel) (by decide +kernel) (by decide +kernel)⟩

theorem wit_patload_asks : Obligations.SprueOperationsComplete → ∃ t, exec (.patload 1) (tCur 6 (tFar 256)) = .next t := by
  intro h
  have e : sprueReady (tCur 6 (tFar 256)) 1 6 = some (tIss 0 6 (tFar 256), (tCur 6 (tFar 256)).upTo 0) := rfl
  have e1 : (patIds (tCur 6 (tFar 256)) 1 0).any (patInUse (tCur 6 (tFar 256)) 1) = false := by decide +kernel
  exact ⟨_, ((h 1 (tCur 6 (tFar 256)) ((tCur 6 (tFar 256)).upTo 0) (tIss 0 6 (tFar 256))).2.2.2.2.2.2.2.2.2.1 e e1 (by decide +kernel)).2
    (by constructor <;> decide +kernel)⟩

theorem wit_patfree : Obligations.SprueOperationsComplete → ∃ t, exec (.patfree 1) (tCur 7 (fun d => { d with param := 256 })) = .next t :=
  fun h => ⟨_, (h 1 (tCur 7 (fun d => { d with param := 256 })) ((tCur 7 (fun d => { d with param := 256 })).upTo 0)
    (tIss 0 7 (fun d => { d with param := 256 }))).2.2.2.2.2.2.2.2.2.2.1 rfl rfl⟩

theorem wit_stop : Obligations.SprueOperationsComplete → ∃ t, exec (.stop 1) (tCur 8) = .next t :=
  fun h => ⟨_, (h 1 (tCur 8) ((tCur 8).upTo 0) (tIss 0 8)).2.2.2.2.2.2.2.2.2.2.2 rfl⟩

/-- Core 1 running with a ring of 64 slots at address 0 whose tail is 3 slots ahead. -/
def tRing : State := (tLive.setFld SPR.RING_BASE_SIZE 6 1).setReg SPR.RING_TAIL 3 1

/-- The same with one entry in the window. -/
def tWin : State := tSpr (fun p => { p with window := [{ slot := 0, desc := {}, bad := false }] }) tRing

theorem wit_fetch : Obligations.SprueStreamCommandsComplete → ∃ t, exec (.descFetch 1) tWin = .next t :=
  fun h => ⟨_, h.1 1 tWin { slot := 0, desc := {}, bad := false } (((fetchGroup tWin 1 2 1).core 1).spr.window.tail)
    (by decide +kernel) (by decide +kernel) (by decide +kernel) (by decide +kernel) rfl⟩

theorem wit_issue : Obligations.SprueStreamCommandsComplete → ∃ t, exec (.descIssue 1) (tSpr (fun p => { p with
    window := [{ slot := 0, desc := {}, bad := false }] }) tRing) = .next t :=
  fun h => ⟨_, h.2.1 1 (tSpr (fun p => { p with window := [{ slot := 0, desc := {}, bad := false }] }) tRing) _ _ rfl rfl (Or.inl rfl) rfl rfl
    (by decide)⟩

/-- Core 1 with the engine queue `k` holding a queue and descriptors in execution. -/
def tEng (k : Nat) (e : EngSt) (s : State := tLive) : State := tSpr (fun p => { p with eng := p.eng.set! k e }) s

theorem wit_release : Obligations.SprueStreamCommandsComplete →
    ∃ t, exec (.descRelease 1 .ladle) (tOn .ldl 1 (tEng (engIdx .ladle) { queue := [tIss 4 1] })) = .next t :=
  fun h => ⟨_, h.2.2.1 1 .ladle (tOn .ldl 1 (tEng (engIdx .ladle) { queue := [tIss 4 1] }))
    ((tOn .ldl 1 (tEng (engIdx .ladle) { queue := [tIss 4 1] })).upTo 0) _ _ rfl rfl rfl rfl (by decide +kernel) rfl (by decide +kernel)
    (by decide +kernel)⟩

theorem wit_complete : Obligations.SprueStreamCommandsComplete →
    ∃ t, exec (.descComplete 1 .ladle) (tEng (engIdx .ladle) { run := [tIss 4 1], fin := [{ iss := tIss 4 1 }] }) = .next t :=
  fun h => ⟨_, h.2.2.2.1 1 .ladle (tEng (engIdx .ladle) { run := [tIss 4 1], fin := [{ iss := tIss 4 1 }] }) _ _ _ rfl rfl (by decide)⟩

theorem wit_tail : Obligations.SprueStreamCommandsComplete → ∃ t, exec (.ringTailWrite 3 9) State.reset = .next t :=
  fun h => ⟨_, (h.2.2.2.2.1 3 State.reset (by decide) rfl).1 9⟩

theorem wit_deliver : Obligations.SprueStreamCommandsComplete →
    ∃ t, exec (.tokenSignalDeliver 1) (tSpr (fun p => { p with sigDue := [(63, 4095)] })) = .next t :=
  fun h => ⟨_, h.2.2.2.2.2.1 1 (tSpr (fun p => { p with sigDue := [(63, 4095)] })) _ _ _ rfl⟩

theorem wit_run : Obligations.SprueStreamCommandsComplete →
    ∃ t, exec (.sprCtrlRun 1 true) ((tOn .spr 1).setFld SPR.RING_BASE_SIZE 6 1) = .next t :=
  fun h => ⟨_, h.2.2.2.2.2.2.1 1 ((tOn .spr 1).setFld SPR.RING_BASE_SIZE 6 1) (by decide) rfl (Or.inl (by decide)) (by decide)⟩

theorem wit_resume : Obligations.SprueStreamCommandsComplete →
    ∃ t, exec (.sprCtrlResume 1 true) ((tOn .spr 1).setFld SPR.STATE_STREAM stHalted 1) = .next t :=
  fun h => ⟨_, h.2.2.2.2.2.2.2.1 1 true ((tOn .spr 1).setFld SPR.STATE_STREAM stHalted 1) (by decide) (by decide)⟩

theorem wit_watch : Obligations.SprueStreamCommandsComplete → ∃ t, exec (.noProgressTimeout (.spr 1)) tRing = .next t :=
  fun h => ⟨_, h.2.2.2.2.2.2.2.2 (.spr 1) tRing 0 rfl⟩

/-- The Mould beyond its registers changed on core 1. -/
def tMld (f : MouldSt → MouldSt) (s : State := tLive) : State := modMld s 1 f

/-- A 2 × 2 × 2 `MATMUL` in execution with both operand tiles staged. -/
def tJob (f : MJob → MJob := id) : MJob :=
  f { iss := tIss 1 1 (fun d => { d with len0 := 2, len1 := 2, len2 := 2, passes := 1 }),
      stage := [{ op := 0, j := 0, payload := [], side := [] }, { op := 1, j := 0, payload := [], side := [] }] }

/-- The B-register set the job streams first. -/
def tSet : MSet := { kt := 0, panel := 0, first := 1, npass := 1 }

/-- The descriptor of operation `op` in execution by the Mould of core 1. -/
def tMldRun (op : Nat) (a : Nat) : State := (tEng 0 { run := [tIss 1 op] }).setFld MLD.STATE_ARRAY a 1

/-! ## Witnesses: the Mould -/

theorem wit_matmul : Obligations.MouldArrayCommandsComplete → ∃ t, exec (.matmul 1) (tMldRun 1 arCold) = .next t :=
  fun h => ⟨_, (h.1 1 (tMldRun 1 arCold) (tIss 1 1) rfl).1 rfl⟩

theorem wit_ramp_up : Obligations.MouldArrayCommandsComplete → ∃ t, exec (.rampUp 1) (tMldRun 2 arWarm) = .next t :=
  fun h => ⟨_, h.2.1 1 (tMldRun 2 arWarm) (tIss 1 2) rfl rfl⟩

theorem wit_ramp_down : Obligations.MouldArrayCommandsComplete → ∃ t, exec (.rampDown 1) (tMldRun 3 arCold) = .next t :=
  fun h => ⟨_, (h.2.2.1 1 (tMldRun 3 arCold) (tIss 1 3) rfl rfl).1 rfl⟩

theorem wit_ramp_down_warm : Obligations.MouldArrayCommandsComplete → ∃ t, exec (.rampDown 1) (tMldRun 3 arWarm) = .next t :=
  fun h => ⟨_, (h.2.2.1 1 (tMldRun 3 arWarm) (tIss 1 3) rfl rfl).2 rfl rfl⟩

theorem wit_array_warm : Obligations.MouldArrayCommandsComplete → ∃ t, exec (.mldArrayWarm 1) (tMldRun 2 arUp) = .next t :=
  fun h => ⟨_, h.2.2.2.1 1 (tMldRun 2 arUp) rfl⟩

theorem wit_array_cold : Obligations.MouldArrayCommandsComplete →
    ∃ t, exec (.mldArrayCold 1) (tLive.setFld MLD.STATE_ARRAY arDown 1) = .next t :=
  fun h => ⟨_, h.2.2.2.2.1 1 (tLive.setFld MLD.STATE_ARRAY arDown 1) rfl rfl⟩

theorem wit_gate : Obligations.MouldArrayCommandsComplete →
    ∃ t, exec (.mldIdleGateExpire 1) (tLive.setFld MLD.STATE_ARRAY arWarm 1) = .next t :=
  fun h => ⟨_, h.2.2.2.2.2.1 1 (tLive.setFld MLD.STATE_ARRAY arWarm 1) rfl rfl rfl rfl rfl⟩

theorem wit_budget : Obligations.MouldArrayCommandsComplete →
    ∃ t, exec (.replayBudgetExceeded 1) (tMld (fun m => { m with budgetDue := [(7, 90)] })) = .next t :=
  fun h => ⟨_, h.2.2.2.2.2.2.1 1 (tMld (fun m => { m with budgetDue := [(7, 90)] })) 7 90 [] rfl⟩

theorem wit_slack : Obligations.MouldArrayCommandsComplete →
    ∃ t, exec (.slackExceeded 1) (tMld (fun m => { m with reps := [(7, 0, 16385)] })) = .next t :=
  fun h => ⟨_, h.2.2.2.2.2.2.2 1 (tMld (fun m => { m with reps := [(7, 0, 16385)] })) 16384 7 (by decide +kernel)⟩

/-- An operand tile of zeros delivered with a read status. -/
def tInq (e : Nat) : State := tMld (fun m => { m with
  jobs := [tJob (fun j => { j with stage := [] })],
  inq := [(7, { op := 0, j := 0, payload := [], side := [] }, e, false)] })

theorem wit_operand_bad : Obligations.MouldStreamCommandsComplete → ∃ t, exec (.mldOperandTileArrive 1) (tInq 2) = .next t :=
  fun h => ⟨_, (h.1 1 (tInq 2) 7 2 { op := 0, j := 0, payload := [], side := [] } [] (tJob (fun j => { j with stage := [] })) rfl rfl).1 rfl⟩

theorem wit_load : Obligations.MouldStreamCommandsComplete →
    ∃ t, exec (.mldLoadStart 1) (tMld (fun m => { m with jobs := [tJob] })) = .next t :=
  fun h => ⟨_, h.2.1 1 (tMld (fun m => { m with jobs := [tJob] })) tJob tSet rfl rfl rfl rfl rfl⟩

theorem wit_load_end : Obligations.MouldStreamCommandsComplete →
    ∃ t, exec (.mldLoadEnd 1) (tMld (fun m => { m with load := some ⟨7, 0, 0, 0, 528, false, false⟩ })) = .next t :=
  fun h => ⟨_, h.2.2.1 1 (tMld (fun m => { m with load := some ⟨7, 0, 0, 0, 528, false, false⟩ })) _ rfl rfl rfl⟩

/-- The job's first set loaded and the array warm. -/
def tMldReady : State := (tMld (fun m => { m with jobs := [tJob], load := some ⟨7, 0, 0, 0, 528, true, false⟩ })).setFld MLD.STATE_ARRAY arWarm 1

theorem wit_stream : Obligations.MouldStreamCommandsComplete → ∃ t, exec (.mldStreamStart 1) tMldReady = .next t := by
  intro h
  have e : firstMark tMldReady 1 = none := rfl
  exact ⟨_, h.2.2.2.1 1 tMldReady tJob tSet rfl rfl rfl (fun m k => by have e' : firstMark tMldReady ((1 : Core) : Nat) = none := e; rw [e'] at k; cases k)⟩

theorem wit_stream_end : Obligations.MouldStreamCommandsComplete →
    ∃ t, exec (.mldStreamEnd 1) (tMld (fun m => { m with jobs := [tJob], stream := some (7, 528, 560) })) = .next t :=
  fun h => ⟨_, h.2.2.2.2.1 1 (tMld (fun m => { m with jobs := [tJob], stream := some (7, 528, 560) })) 7 528 560 rfl⟩

/-- A tile of the job about to be marked at ck 600, with the stream `x` in progress. -/
def tMark (x : Option (Nat × Nat × Nat)) : State := tMld (fun m => { m with
  jobs := [tJob (fun j => { j with pend := [(600, 0)] })],
  stream := x })

theorem wit_mark : Obligations.MouldStreamCommandsComplete → ∃ t, exec (.accOverflowMark 1)
    (tMark (some (7, 528, 600))) = .next t :=
  fun h => ⟨_, (h.2.2.2.2.2 1 (tMark (some (7, 528, 600))) 600 7 rfl).1 7 528 600 rfl (by decide)⟩

theorem wit_mark_alone : Obligations.MouldStreamCommandsComplete → ∃ t, exec (.accOverflowMark 1)
    (tMark none) = .next t :=
  fun h => ⟨_, (h.2.2.2.2.2 1 (tMark none) 600 7 rfl).2 rfl⟩

/-- The job with its round streamed. -/
def tDone : State := tMld (fun m => { m with jobs := [tJob (fun j => { j with live := [⟨0, 0, [], some 560⟩], round := 1 })] })

theorem wit_round : Obligations.MouldDrainCommandsComplete → ∃ t, exec (.mldRoundComplete 1) tDone = .next t :=
  fun h => ⟨_, (h.1 1 tDone (tJob (fun j => { j with live := [⟨0, 0, [], some 560⟩], round := 1 }))
    ⟨0, 0, [], some 560⟩ [] rfl rfl).1 rfl⟩

/-- A round waiting for its drain, or draining until `e`. -/
def tMldDrain (e : Option Nat) : State := tMld (fun m => { m with
  jobs := [tJob (fun j => { j with round := 1, streamed := true, undrained := 1 })],
  drains := [{ seq := 7, half := 0, tiles := [], ready := 640, endCk := e }] })

theorem wit_mould_drain : Obligations.MouldDrainCommandsComplete → ∃ t, exec (.mldDrainStart 1) (tMldDrain none) = .next t :=
  fun h => ⟨_, h.2.1 1 (tMldDrain none) ⟨7, 0, [], 640, none, none⟩ []
    (tJob (fun j => { j with round := 1, streamed := true, undrained := 1 })) rfl rfl rfl rfl⟩

theorem wit_drain_end : Obligations.MouldDrainCommandsComplete → ∃ t, exec (.mldDrainEnd 1) (tMldDrain (some 700)) = .next t :=
  fun h => ⟨_, h.2.2 1 (tMldDrain (some 700)) ⟨7, 0, [], 640, none, some 700⟩ []
    (tJob (fun j => { j with round := 1, streamed := true, undrained := 1 })) 700 rfl rfl rfl⟩

/-- The descriptor `i` in execution by the engine queue `k` of core 1. -/
def tRun (k : Nat) (i : Iss) (s : State := tLive) : State := tEng k { run := [i] } s

/-- The Assay's descriptor of operation `op` on core 1. -/
def tAsy (op : Nat) (f : Desc → Desc := id) : State := tRun 1 (tIss 2 op f)

/-- A `COV` whose `MATMUL` has ended with all its rows captured. -/
def tCov : State := modAsy (tAsy 1 (fun d => { d with param := 192 * 1024 })) 1
  (fun a => { a with pairs := [{ cov := tIss 2 1 (fun d => { d with param := 192 * 1024 }), full := true }] })

/-- A piece of a region in the Tundish at address 0, brought to the engine `eng` of core 1. -/
def tGot (eng : Nat) (b : List Byte) (s : State) : State :=
  let p : Piece := { payload := b, side := [], bad := 0, space := spaceOf 0 0 0 }
  let q : Requester := { newReq eng 7 [] with total := 1, got := [(0, p)] }
  modRun s 1 (fun r => { r with requesters := [q] })

/-- A noise record of counts 1 and 2 whose estimates are frozen. -/
def tNoise : State := tGot 2 (zeros 22 ++ [0xFC, 0x3F] ++ zeros 7 ++ [0x40])
  ((tAsy 5 (fun d => { d with reg0 := { rowBytes := 32, rows := 1 } })).setFld ASY.CTRL_NS_FREEZE 1 1)

/-- The Crucible's step with `q` of operation `op` in progress, of the low class. -/
def tStep (op : Nat) (q : QKind × Nat) (g : List CProb) : State := modCru tLive 1 (fun x => { x with
  step := some { hi := false, quanta := [q], startCk := 0, endCk := 64, applied := false },
  lo := some { iss := tIss 3 op, group := g, quanta := [q] } })

/-- A problem of one group. -/
def tProb : CProb := { idx := 0, srcId := 0, resId := 1 }

/-- The Ladle's descriptor of operation `op` on core 1 with two elements. -/
def tLdl (op : Nat) (f : Desc → Desc := id) : Iss := tIss 4 op (fun d => f { d with len0 := 2 })

/-! ## Witnesses: the Assay, the Crucible and the Ladle -/

theorem wit_cov : Obligations.AssayCommandsComplete → ∃ t, exec (.cov 1) tCov = .next t :=
  fun h => ⟨_, ((h.1 1 tCov (tIss 2 1 (fun d => { d with param := 192 * 1024 })) _ rfl rfl).2 rfl rfl).2
    { cov := tIss 2 1 (fun d => { d with param := 192 * 1024 }), full := true } rfl rfl⟩

theorem wit_cov_none : Obligations.AssayCommandsComplete → ∃ t, exec (.cov 1) (modAsy (tAsy 1) 1
    (fun a => { a with pairs := [{ cov := tIss 2 1, noRows := true }] })) = .next t :=
  fun h => ⟨_, (h.1 1 (modAsy (tAsy 1) 1 (fun a => { a with pairs := [{ cov := tIss 2 1, noRows := true }] })) (tIss 2 1) _ rfl rfl).1 rfl⟩

theorem wit_cov_part : Obligations.AssayCommandsComplete → ∃ t, exec (.cov 1) (modAsy (tAsy 1) 1
    (fun a => { a with pairs := [{ cov := tIss 2 1 }] })) = .next t :=
  fun h => ⟨_, ((h.1 1 (modAsy (tAsy 1) 1 (fun a => { a with pairs := [{ cov := tIss 2 1 }] })) (tIss 2 1) _ rfl rfl).2 rfl rfl).1 rfl⟩

theorem wit_asy_export : Obligations.AssayCommandsComplete → ∃ t, exec (.asyExport 1) (tAsy 2) = .next t :=
  fun h => ⟨_, h.2.1 1 (tAsy 2) _ rfl⟩

theorem wit_blend : Obligations.AssayCommandsComplete → ∃ t, exec (.blend 1) (tAsy 3) = .next t :=
  fun h => ⟨_, h.2.2.1 1 (tAsy 3) (tIss 2 3) rfl (by decide +kernel)⟩

theorem wit_sqnorm : Obligations.AssayCommandsComplete → ∃ t, exec (.sqnorm 1) (tAsy 4) = .next t :=
  fun h => ⟨_, h.2.2.2.1 1 (tAsy 4) _ rfl⟩

theorem wit_noise : Obligations.AssayCommandsComplete → ∃ t, exec (.noise 1) tNoise = .next t := by
  intro h
  obtain ⟨_, e⟩ := (h.2.2.2.2.1 1 tNoise (tIss 2 5 (fun d => { d with reg0 := { rowBytes := 32, rows := 1 } })) rfl).2.1
    (by decide +kernel) (by decide +kernel)
  exact ⟨_, e⟩

theorem wit_noise_moves : Obligations.AssayCommandsComplete → ∃ t, exec (.noise 1) (tNoise.setFld ASY.CTRL_NS_FREEZE 0 1) = .next t := by
  intro h
  obtain ⟨_, _, _, _, e⟩ := (h.2.2.2.2.1 1 (tNoise.setFld ASY.CTRL_NS_FREEZE 0 1)
    (tIss 2 5 (fun d => { d with reg0 := { rowBytes := 32, rows := 1 } })) rfl).2.2 (by decide +kernel) (by decide +kernel)
  exact ⟨_, e⟩

theorem wit_noise_bad : Obligations.AssayCommandsComplete → ∃ t, exec (.noise 1) (tAsy 5) = .next t :=
  fun h => ⟨_, (h.2.2.2.2.1 1 (tAsy 5) (tIss 2 5) rfl).1 (by decide +kernel)⟩

theorem wit_ns_updates : Obligations.AssayCommandsComplete → ∃ t, exec (.asyNsUpdatesWrite 1 0xFFFFFFFF) State.reset = .next t :=
  fun h => ⟨_, h.2.2.2.2.2.1 1 0xFFFFFFFF State.reset (by decide)⟩

theorem wit_port : Obligations.AssayCommandsComplete →
    ∃ t, exec (.storePortGrant 1) (modPort State.reset 1 (fun p => { p with asyWait := some 3 })) = .next t :=
  fun h => ⟨_, h.2.2.2.2.2.2 1 (modPort State.reset 1 (fun p => { p with asyWait := some 3 }))⟩

theorem wit_root : Obligations.CrucibleSolvesComplete → ∃ t, exec (.root 1) (tStep opRoot (.work, 64) [tProb]) = .next t :=
  fun h => ⟨_, (h 1 (tStep opRoot (.work, 64) [tProb]) _ _ rfl rfl rfl rfl).1 (.root 1, opRoot) (by decide) rfl rfl tProb rfl rfl⟩

theorem wit_chol : Obligations.CrucibleSolvesComplete → ∃ t, exec (.chol 1) (tStep opChol (.work, 64) [tProb]) = .next t :=
  fun h => ⟨_, (h 1 (tStep opChol (.work, 64) [tProb]) _ _ rfl rfl rfl rfl).1 (.chol 1, opChol) (by decide) rfl rfl tProb rfl rfl⟩

theorem wit_trsm : Obligations.CrucibleSolvesComplete → ∃ t, exec (.trsm 1) (tGot 3 [0] (tStep opTrsm (.work, 64) [tProb])) = .next t :=
  fun h => ⟨_, (h 1 (tGot 3 [0] (tStep opTrsm (.work, 64) [tProb])) _ _ rfl rfl rfl rfl).2 rfl (by decide +kernel)⟩

theorem wit_define : Obligations.CrucibleDirectOperationsComplete → ∃ t, exec (.define 1) (tStep 14 (.item, 64) []) = .next t :=
  fun h => ⟨_, h 1 (tStep 14 (.item, 64) []) _ _ _ _ rfl rfl rfl rfl rfl (by decide) (by decide +kernel) (.define 1, 14) (by decide)
    rfl rfl⟩

/-- The Crucible page ON with work of a class. -/
def tFit (hi : Bool) : State := modCru (tOn .cru 1) 1 (fun x =>
  if hi then { x with hi := some { iss := tIss 3 1, quanta := [(.work, 1024)] } }
  else { x with lo := some { iss := tIss 3 1, quanta := [(.work, 1024)] } })

theorem wit_step_start : Obligations.CrucibleStepCommandsComplete → ∃ t, exec (.cruStepStart 1) (tFit false) = .next t :=
  fun h => ⟨_, (h.1 1 (tFit false) rfl (by decide +kernel) rfl (by decide +kernel)).2 (by decide +kernel) (by decide +kernel)⟩

theorem wit_step_start_high : Obligations.CrucibleStepCommandsComplete → ∃ t, exec (.cruStepStart 1) (tFit true) = .next t :=
  fun h => ⟨_, (h.1 1 (tFit true) rfl (by decide +kernel) rfl (by decide +kernel)).1 (by decide +kernel)⟩

theorem wit_step_end : Obligations.CrucibleStepCommandsComplete → ∃ t, exec (.cruStepEnd 1)
    (modCru (tStep 1 (.work, 64) [tProb]) 1 (fun x => { x with step := x.step.map (fun z => { z with applied := true }) })) = .next t :=
  fun h => ⟨_, h.2.1 1 (modCru (tStep 1 (.work, 64) [tProb]) 1 (fun x => { x with
    step := x.step.map (fun z => { z with applied := true }) })) _ _ rfl rfl rfl rfl⟩

theorem wit_resume_work : Obligations.CrucibleStepCommandsComplete →
    ∃ t, exec (.cruResume 1) (modCru State.reset 1 (fun x => { x with waitFrom := some 63, resumeCk := 64 })) = .next t :=
  fun h => ⟨_, h.2.2.1 1 (modCru State.reset 1 (fun x => { x with waitFrom := some 63, resumeCk := 64 })) 63 rfl (by decide)⟩

theorem wit_deadline : Obligations.CrucibleStepCommandsComplete → ∃ t, exec (.cruDeadline 1) (tFit true) = .next t :=
  fun h => ⟨_, h.2.2.2 1 (tFit true)⟩

/-- A Ladle operation on two elements of registers V0–V2, unmasked. -/
def tLd (op sub : Nat) (f : Desc → Desc := id) : Iss :=
  tIss 4 op (fun d => f { d with len0 := 2, param := 1920 + 4096 + sub, len2 := 7 * 2 ^ 21 })

/-- Core 1 with it in execution by the Ladle. -/
def tLdS (op sub : Nat) (f : Desc → Desc := id) : State := tRun 4 (tLd op sub f)

/-! ## Witnesses: the Ladle -/

theorem wit_load_elem : Obligations.LadleElementOperationsComplete → ∃ t, exec (.load 1) (tLdS ldLoad 0) = .next t := by
  intro h
  obtain ⟨_, _, _, _, _, e, _⟩ := h 1 (tLdS ldLoad 0) (tLd ldLoad 0) (by decide) (.load 1, ldLoad, 0, false, fun v _ => v)
    (List.mem_cons_self ..) rfl rfl (by decide +kernel)
  exact ⟨_, e rfl⟩

theorem wit_store_scaled : Obligations.LadleElementOperationsComplete →
    ∃ t, exec (.store 1) (tLdS ldStore 0 (fun d => { d with fmt2 := 4 })) = .next t := by
  intro h
  obtain ⟨_, _, _, _, _, _, e⟩ := h 1 (tLdS ldStore 0 (fun d => { d with fmt2 := 4 })) (tLd ldStore 0 (fun d => { d with fmt2 := 4 }))
    (by decide) (.store 1, ldStore, 0, false, fun v _ => v) (List.mem_cons_of_mem _ (List.mem_cons_self ..)) rfl rfl (by decide +kernel)
  exact ⟨_, e _ _ _ rfl rfl⟩

theorem wit_add : Obligations.LadleElementOperationsComplete → ∃ t, exec (.elemAdd 1) (tLdS ldElem 0) = .next t := by
  intro h
  obtain ⟨_, _, _, _, _, e, _⟩ := h 1 (tLdS ldElem 0) (tLd ldElem 0) (by decide)
    (.elemAdd 1, ldElem, 0, false, fun v _ => [(v.getD 0 .nan).add (v.getD 1 .nan)])
    (List.mem_cons_of_mem _ (List.mem_cons_of_mem _ (List.mem_cons_of_mem _ (List.mem_cons_self ..)))) rfl rfl (by decide +kernel)
  exact ⟨_, e rfl⟩

theorem wit_sincos : Obligations.LadleFunctionsComplete → ∃ t, exec (.sincos 1) (tLdS ldFunc 6) = .next t := by
  intro h
  obtain ⟨_, _, _, _, _, e⟩ := h 1 (tLdS ldFunc 6) (tLd ldFunc 6) (by decide) rfl (.sincos 1, 6, 2, 3) (by decide) rfl rfl (by decide +kernel)
  exact ⟨_, e⟩

theorem wit_reduce : Obligations.LadleReductionsComplete → ∃ t, exec (.reduceSum 1) (tLdS ldReduce 0) = .next t := by
  intro h
  obtain ⟨_, _, _, e, _⟩ := h 1 (tLdS ldReduce 0) (tLd ldReduce 0) (by decide) (.reduceSum 1, 0) (by decide) rfl (by decide +kernel)
  exact ⟨_, e⟩

theorem wit_argmax : Obligations.LadleReductionsComplete → ∃ t, exec (.argmax 1) (tLdS ldReduce 4) = .next t := by
  intro h
  obtain ⟨_, _, _, e, _⟩ := h 1 (tLdS ldReduce 4) (tLd ldReduce 4) (by decide) (.argmax 1, 4) (by decide) rfl (by decide +kernel)
  exact ⟨_, e⟩

/-- A `MASKGEN` of two rows of five positions, its scalar block in the operand cache. -/
def tMask : Desc → Desc := fun d => { d with len1 := 5, scaleWord := 2 ^ 25 }

theorem wit_maskgen : Obligations.LadleOtherOperationsComplete → ∃ t, exec (.maskgen 1) (tLdS ldMaskgen 0 tMask) = .next t := by
  intro h
  have e1 : (readScalars (tLdS ldMaskgen 0 tMask) 1 (tLd ldMaskgen 0 tMask)).2.1 = none := by decide +kernel
  have e2 : (readScalars (tLdS ldMaskgen 0 tMask) 1 (tLd ldMaskgen 0 tMask)).1 = List.replicate 16 0 := by decide +kernel
  exact ⟨_, h.1 1 (tLdS ldMaskgen 0 tMask) (readScalars (tLdS ldMaskgen 0 tMask) 1 (tLd ldMaskgen 0 tMask)).2.2 (tLd ldMaskgen 0 tMask)
    (List.replicate 16 0) rfl (by decide) (Prod.ext e2 (Prod.ext e1 rfl)) (by decide) (by decide)⟩

/-- A held half of one tile with two elements. -/
def tHeld : State := modMld (tLdS ldAccread 0) 1 (fun m => { m with
  held := (some (0, [{ idx := 0, panel := 0, row0 := 0, rows := 1, col0 := 0, cols := 2, acc := [0, 0x3F800000] }]), none) })

theorem wit_accread : Obligations.LadleOtherOperationsComplete → ∃ t, exec (.accread 1) tHeld = .next t := by
  intro h
  obtain ⟨_, e, _⟩ := (h.2.1 1 tHeld (tLd ldAccread 0) rfl).2 _ _ _ rfl rfl (by decide +kernel) (by decide) rfl
  exact ⟨_, e⟩

theorem wit_accread_none : Obligations.LadleOtherOperationsComplete → ∃ t, exec (.accread 1) (tLdS ldAccread 0) = .next t :=
  fun h => ⟨_, (h.2.1 1 (tLdS ldAccread 0) (tLd ldAccread 0) rfl).1 rfl⟩

theorem wit_rmsnorm : Obligations.LadleOtherOperationsComplete → ∃ t, exec (.rmsnorm 1) (tLdS ldRms 0) = .next t := by
  intro h
  obtain ⟨_, e, _⟩ := h.2.2.1 1 (tLdS ldRms 0) (tLd ldRms 0) (by decide) (.rmsnorm 1, ldRms) (by decide) rfl
  exact ⟨_, e⟩

theorem wit_opt : Obligations.LadleOtherOperationsComplete →
    ∃ t, exec (.opt 1) (tLdS ldOpt 0 (fun d => { d with scaleWord := 2 ^ 25 })) = .next t := by
  intro h
  obtain ⟨_, _, _, e, _⟩ := h.2.2.2.1 1 (tLdS ldOpt 0 (fun d => { d with scaleWord := 2 ^ 25 }))
    (tLd ldOpt 0 (fun d => { d with scaleWord := 2 ^ 25 })) rfl (by decide) (by decide +kernel) (by decide +kernel) (by decide +kernel)
    (by decide +kernel)
  exact ⟨_, e⟩

/-- A `RUN` of user pattern 256, and core 1 with it in execution, the pattern one word that ends it. -/
def tRunD : Iss := tLd ldRun 0 (fun d => { d with pattern := 256 })
def tPatRun (eng : Nat) (i : Iss) : State := patStore (tRun eng i) 1 256 0 (zeros 36 ++ [3])

theorem wit_run_pattern : Obligations.LadleOtherOperationsComplete → ∃ t, exec (.run 1) (tPatRun 4 tRunD) = .next t := by
  intro h
  have e0 : ldlHead (tPatRun 4 tRunD) ((1 : Core) : Nat) ldRun 0 = some tRunD := by decide +kernel
  have e : (runPattern (tPatRun 4 tRunD) ((1 : Core) : Nat) tRunD tRunD.desc.loc (ladleCk 1 tRunD)).isSome := by decide +kernel
  obtain ⟨p, e⟩ := Option.isSome_iff_exists.1 e
  exact ⟨_, h.2.2.2.2 1 (tPatRun 4 tRunD) tRunD p e0 (by decide) e⟩

/-! ## Witnesses: the Runners, the journal, the Riser, the collectives and the sweep -/

/-- A requester of the Runners of core 1 to which one piece of `b` has been delivered. -/
def tReq (b : List Byte) : Requester := { newReq 5 7 [] with total := 1, got := [(0, { payload := b, side := [], bad := 0 })] }

/-- A Runner descriptor of operation `op` in execution on core 1 with its source delivered. -/
def tMv (op : Nat) (f : Desc → Desc := id) (b : List Byte := []) (s : State := tLive) : State :=
  modRun (tRun 5 (tIss 5 op f) s) 1 (fun r => { r with requesters := [tReq b] })

/-- A Runner descriptor whose regions are in the operand cache. -/
def tLoc : Desc → Desc := fun d => { d with param := 7 }

theorem wit_copy_tiles : Obligations.RunnerMovesComplete → ∃ t, exec (.copy 1) (tMv rnCopy (fun d => { d with param := 8 })) = .next t :=
  fun h => ⟨_, (h.1 1 (tMv rnCopy (fun d => { d with param := 8 })) (tIss 5 rnCopy (fun d => { d with param := 8 })) (tReq []) rfl).1 rfl rfl⟩

theorem wit_copy_raw : Obligations.RunnerMovesComplete → ∃ t, exec (.copy 1) (tMv rnCopy) = .next t :=
  fun h => ⟨_, (h.1 1 (tMv rnCopy) (tIss 5 rnCopy) (tReq []) rfl).2.1 rfl rfl rfl⟩

theorem wit_fill : Obligations.RunnerMovesComplete → ∃ t, exec (.fill 1) (tMv rnFill) = .next t :=
  fun h => ⟨_, (h.1 1 (tMv rnFill) (tIss 5 rnFill) (tReq []) rfl).2.2.1 rfl rfl⟩

theorem wit_fill_all : Obligations.RunnerMovesComplete → ∃ t, exec (.fillAll 1) (tMv rnFill (fun d => { d with param := 16 })) = .next t :=
  fun h => ⟨_, (h.1 1 (tMv rnFill (fun d => { d with param := 16 })) (tIss 5 rnFill (fun d => { d with param := 16 })) (tReq []) rfl).2.2.2.1
    rfl rfl rfl⟩

theorem wit_copy_cache : Obligations.RunnerMovesComplete → ∃ t, exec (.copy 1) (tMv rnCopy tLoc) = .next t :=
  fun h => ⟨_, (h.1 1 (tMv rnCopy tLoc) (tIss 5 rnCopy tLoc) (tReq []) rfl).2.2.2.2.1 rfl rfl rfl⟩

theorem wit_gather : Obligations.RunnerMovesComplete → ∃ t, exec (.gather 1) (modRun (tMv rnGather) 1 (fun r => { r with
    requesters := [{ tReq [] with indexed := true }] })) = .next t :=
  fun h => ⟨_, (h.1 1 (modRun (tMv rnGather) 1 (fun r => { r with requesters := [{ tReq [] with indexed := true }] }))
    (tIss 5 rnGather) { tReq [] with indexed := true } rfl).2.2.2.2.2.1 rfl⟩

theorem wit_scatter : Obligations.RunnerMovesComplete → ∃ t, exec (.scatter 1) (tMv rnScatter tLoc) = .next t :=
  fun h => ⟨_, (h.1 1 (tMv rnScatter tLoc) (tIss 5 rnScatter tLoc) (tReq []) rfl).2.2.2.2.2.2.1 rfl rfl rfl (by decide +kernel)
    (by decide +kernel)⟩

theorem wit_prefetch : Obligations.RunnerMovesComplete → ∃ t, exec (.prefetch 1) (tMv rnPrefetch) = .next t :=
  fun h => ⟨_, (h.1 1 (tMv rnPrefetch) (tIss 5 rnPrefetch) (tReq []) rfl).2.2.2.2.2.2.2.1 rfl rfl⟩

theorem wit_inval : Obligations.RunnerMovesComplete → ∃ t, exec (.inval 1) (tMv rnInval) = .next t :=
  fun h => ⟨_, (h.1 1 (tMv rnInval) (tIss 5 rnInval) (tReq []) rfl).2.2.2.2.2.2.2.2 rfl⟩

/-- A Tundish read of 32 bytes in flight for the Runners of core 1, its data due at ck 160. -/
def tFlight : Flight := { eng := 5, seq := 7, req := { kind := 0, type := 0, dev := 0, rtype := 0, addr := 64, len := 32, tile := false },
                          due := some 160 }

theorem wit_request : Obligations.RunnerMovesComplete →
    ∃ t, exec (.requestComplete 1) (modRun State.reset 1 (fun r => { r with flight := [tFlight] })) = .next t :=
  fun h => ⟨_, h.2 1 (modRun State.reset 1 (fun r => { r with flight := [tFlight] })) tFlight (by decide +kernel)⟩

/-- The block with the Ingot's page ON and started. -/
def tIng : State := (tOn .ing).setFld STW.BOOT_STATE_STEP 9

theorem wit_jappend : Obligations.JournalAndRiserCommandsComplete → ∃ t, exec (.jappend 1) (tMv rnJappend id [] (tIng.setReg ING.JNL_TAIL_MAX 4)) = .next t :=
  fun h => ⟨_, h.1 1 (tMv rnJappend id [] (tIng.setReg ING.JNL_TAIL_MAX 4)) (tIss 5 rnJappend) (tReq []) rfl rfl (by decide +kernel) rfl⟩

/-- A journal record. -/
def tRec : JRec := { seq := 0, type := 1, epoch := 0, frame := 0, actor := 0, host := 0, payload := [] }

theorem wit_page : Obligations.JournalAndRiserCommandsComplete →
    ∃ t, exec .journalPageProgram { tIng with jnl := { tail := [tRec, tRec, tRec, tRec] } } = .next t :=
  fun h => ⟨_, (h.2.1 { tIng with jnl := { tail := [tRec, tRec, tRec, tRec] } } rfl (by decide +kernel)).1 (by decide)⟩

theorem wit_sync : Obligations.JournalAndRiserCommandsComplete → ∃ t, exec .journalSync (tIng.setReg PWR.FRAME_COUNT 1000) = .next t :=
  fun h => ⟨_, (h.2.1 (tIng.setReg PWR.FRAME_COUNT 1000) rfl (by decide +kernel)).2 (by decide +kernel)⟩

theorem wit_snapshot : Obligations.JournalAndRiserCommandsComplete →
    ∃ t, exec .snapshotAppend (tIng.setFld ING.JNL_CTRL_SNAP_PAGES 0) = .next t :=
  fun h => ⟨_, h.2.2.1 (tIng.setFld ING.JNL_CTRL_SNAP_PAGES 0) rfl (by decide +kernel)⟩

theorem wit_life : Obligations.JournalAndRiserCommandsComplete → ∃ t, exec .lifeSave tIng = .next t :=
  fun h => ⟨_, h.2.2.2.1 tIng (by decide +kernel)⟩

theorem wit_riser : Obligations.JournalAndRiserCommandsComplete → ∃ t, exec (.riser 1) (tMv rnRiser id [] (tIng.setFld ING.RSR_BUF_SIZE 1)) = .next t :=
  fun h => ⟨_, (h.2.2.2.2.1 1 (tMv rnRiser id [] (tIng.setFld ING.RSR_BUF_SIZE 1)) (tIss 5 rnRiser) (tReq []) rfl rfl rfl).2 (by decide +kernel)
    (by decide +kernel)⟩

theorem wit_riser_skip : Obligations.JournalAndRiserCommandsComplete →
    ∃ t, exec (.riser 1) (tMv rnRiser id [] (modRiser tIng (fun x => { x with skip := true }))) = .next t :=
  fun h => ⟨_, (h.2.2.2.2.1 1 (tMv rnRiser id [] (modRiser tIng (fun x => { x with skip := true }))) (tIss 5 rnRiser) (tReq []) rfl rfl
    rfl).1 (by decide +kernel)⟩

/-- A Riser block of core 1 that waits since frame 0. -/
def tWaits : State := modRiser (tMv rnRiser) (fun x => { x with waits := [(1, 0)] })

theorem wit_riser_wait : Obligations.JournalAndRiserCommandsComplete →
    ∃ t, exec .riserWaitTimeout (tWaits.setReg PWR.FRAME_COUNT 70000) = .next t :=
  fun h => ⟨_, h.2.2.2.2.2.1 (tWaits.setReg PWR.FRAME_COUNT 70000) 1 0 (tIss 5 rnRiser) (tReq []) (by decide +kernel) rfl (by decide +kernel)⟩

theorem wit_riser_export : Obligations.JournalAndRiserCommandsComplete → ∃ t, exec .riserExport tIng = .next t :=
  fun h => ⟨_, h.2.2.2.2.2.2.1 tIng (by decide +kernel)⟩

/-- A block whose Riser stream goes to a host and has records without an acknowledgement. -/
def tHost : State := modRiser (((tIng.setFld ING.RSR_CTRL_TO_HOST 1).setFld ING.RSR_CTRL_HOST 9).setReg PWR.FRAME_COUNT 70000)
  (fun x => { x with hostSent := 3 })

theorem wit_retx : Obligations.JournalAndRiserCommandsComplete → ∃ t, exec .riserRetx tHost = .next t :=
  fun h => ⟨_, h.2.2.2.2.2.2.2.1 tHost (by decide +kernel) (by decide +kernel) (by decide +kernel) (by decide +kernel)⟩

/-- An acknowledgement of block 1 by host 9. -/
def tAck : Packet := { tc := 3, mkind := 0x30, dest := 0, src := 9, shost := true, word := 2 ^ 25, body := leBytes 8 1 }

theorem wit_bulk : Obligations.JournalAndRiserCommandsComplete → ∃ t, exec .bulk (tMsg tAck tHost) = .next t :=
  fun h => ⟨_, h.2.2.2.2.2.2.2.2 (tMsg tAck tHost) _ _ _ rfl rfl (by decide +kernel) rfl (by decide +kernel) (by decide +kernel)⟩

/-- Group 0 as one of this device alone with operation `op`. -/
def tGrp (op : Nat) (s : State := tLive) : State := { s with col := { s.col with grp := [(0, 1 + op * 8 + 2 ^ 32)] } }

theorem wit_all_reduce : Obligations.CollectiveCommandsComplete → ∃ t, exec (.collAllReduce 1) (tMv rnColl) = .next t :=
  fun h => ⟨_, (h.1 1 (tMv rnColl) (tIss 5 rnColl) (tReq []) rfl).1 rfl⟩

theorem wit_reduce_scatter : Obligations.CollectiveCommandsComplete → ∃ t, exec (.collReduceScatter 1) (tMv rnColl id [] (tGrp 1)) = .next t :=
  fun h => ⟨_, (h.1 1 (tMv rnColl id [] (tGrp 1)) (tIss 5 rnColl) (tReq []) rfl).2.1 (by decide +kernel) rfl⟩

theorem wit_all_gather : Obligations.CollectiveCommandsComplete → ∃ t, exec (.collAllGather 1) (tMv rnColl id [] (tGrp 2)) = .next t :=
  fun h => ⟨_, (h.1 1 (tMv rnColl id [] (tGrp 2)) (tIss 5 rnColl) (tReq []) rfl).2.2.1 (by decide +kernel) rfl⟩

theorem wit_broadcast : Obligations.CollectiveCommandsComplete → ∃ t, exec (.collBroadcast 1) (tMv rnColl id [] (tGrp 3)) = .next t :=
  fun h => ⟨_, (h.1 1 (tMv rnColl id [] (tGrp 3)) (tIss 5 rnColl) (tReq []) rfl).2.2.2.1 (by decide +kernel) rfl⟩

theorem wit_to_root : Obligations.CollectiveCommandsComplete → ∃ t, exec (.collReduceToRoot 1) (tMv rnColl id [] (tGrp 4)) = .next t :=
  fun h => ⟨_, (h.1 1 (tMv rnColl id [] (tGrp 4)) (tIss 5 rnColl) (tReq []) rfl).2.2.2.2.1 (by decide +kernel) rfl⟩

theorem wit_coll_fence : Obligations.CollectiveCommandsComplete → ∃ t, exec (.collFence 1) (tMv rnColl id [] (tGrp 5)) = .next t :=
  fun h => ⟨_, (h.1 1 (tMv rnColl id [] (tGrp 5)) (tIss 5 rnColl) (tReq []) rfl).2.2.2.2.2 (by decide +kernel) rfl rfl (by decide +kernel)⟩

theorem wit_fence : Obligations.CollectiveCommandsComplete →
    ∃ t, exec .fence (tMsg { tc := 0, mkind := 0x21, dest := 0 } (tGrp 5)) = .next t :=
  fun h => ⟨_, h.2.1 (tMsg { tc := 0, mkind := 0x21, dest := 0 } (tGrp 5)) _ 24 0 _ rfl rfl (by decide +kernel)⟩

/-- A chunk for group 0. -/
def tChunk : Packet := { tc := 1, mkind := 0x20, dest := 0 }

theorem wit_chunk : Obligations.CollectiveCommandsComplete → ∃ t, exec .coll (tMsg tChunk (tGrp 0)) = .next t :=
  fun h => ⟨_, h.2.2.1 (tMsg tChunk (tGrp 0)) 24 0 tChunk rfl rfl (by decide +kernel) (by decide +kernel) (by decide +kernel) (by decide +kernel)⟩

theorem wit_hold : Obligations.CollectiveCommandsComplete → ∃ t, exec .collHoldTimeout
    ({ State.reset with col := { State.reset.col with held := [(24, tChunk, 0)] } }.setReg PWR.FRAME_COUNT 70000) = .next t :=
  fun h => ⟨_, h.2.2.2.1 ({ State.reset with col := { State.reset.col with held := [(24, tChunk, 0)] } }.setReg PWR.FRAME_COUNT 70000)
    (24, tChunk, 0) (by decide +kernel)⟩

theorem wit_define_group : Obligations.CollectiveCommandsComplete → ∃ t, exec .grpDefine State.reset = .next t :=
  fun h => ⟨_, (h.2.2.2.2 State.reset (by decide +kernel) (by decide +kernel)).1⟩

theorem wit_release_grad : Obligations.SweepCommandsComplete → ∃ t, exec .swCmdRelease State.reset = .next t :=
  fun h => ⟨_, (h.1 State.reset (by decide +kernel)).1⟩

theorem wit_ncheck : Obligations.SweepCommandsComplete → ∃ t, exec (.ncheck 1) (tMv rnNcheck id (zeros 64)) = .next t :=
  fun h => ⟨_, h.2.1 1 (tMv rnNcheck id (zeros 64)) (tIss 5 rnNcheck) (tReq (zeros 64)) rfl rfl (by decide +kernel)⟩

/-- Group 0 named as the flask, lane and seal group. -/
def tFlask : State := (((tGrp 0).setFld COL.SW_FLASK_GRP_VALID 1).setFld COL.SW_LANE_GRP_VALID 1).setFld COL.SW_SEAL_GRP_VALID 1

theorem wit_vote : Obligations.SweepCommandsComplete → ∃ t, exec (.vote 1) (tMv rnVote id [] tFlask) = .next t :=
  fun h => ⟨_, h.2.2.1 1 (tMv rnVote id [] tFlask) (tIss 5 rnVote) (tReq []) (GEnt.parse (1 + 2 ^ 32)) (GEnt.parse (1 + 2 ^ 32)) rfl rfl rfl
    rfl rfl⟩

/-- A vote message of phase `p`. -/
def tBallot (p : Nat) : Packet := { tc := 0, mkind := 0x13, dest := 0, word := p * 1024, body := zeros 16 }

theorem wit_ballot : Obligations.SweepCommandsComplete → ∃ t, exec .voteBallot (tMsg (tBallot 0)) = .next t :=
  fun h => ⟨_, (h.2.2.2.1 (tMsg (tBallot 0)) (24, tBallot 0) rfl).1 rfl⟩

theorem wit_lane_verdict : Obligations.SweepCommandsComplete → ∃ t, exec .voteLaneVerdict (tMsg (tBallot 1)) = .next t :=
  fun h => ⟨_, (h.2.2.2.1 (tMsg (tBallot 1)) (24, tBallot 1) rfl).2.1 rfl⟩

theorem wit_commit : Obligations.SweepCommandsComplete → ∃ t, exec .voteCommitDecision (tMsg (tBallot 2)) = .next t :=
  fun h => ⟨_, (h.2.2.2.1 (tMsg (tBallot 2)) (24, tBallot 2) rfl).2.2.1 rfl⟩

theorem wit_abort : Obligations.SweepCommandsComplete → ∃ t, exec .voteAbortDecision (tMsg (tBallot 3)) = .next t :=
  fun h => ⟨_, (h.2.2.2.1 (tMsg (tBallot 3)) (24, tBallot 3) rfl).2.2.2.1 rfl⟩

theorem wit_notice : Obligations.SweepCommandsComplete → ∃ t, exec .voteCommitNotice (tMsg (tBallot 4)) = .next t :=
  fun h => ⟨_, (h.2.2.2.1 (tMsg (tBallot 4)) (24, tBallot 4) rfl).2.2.2.2 rfl⟩

/-- A vote open since frame 0. -/
def tVote (p : Bool) : State :=
  { State.reset with sweep := { vote := some { core := 1, seq := 7, e := 1, a := 0, deadline := 0, verdict := 0, provisional := p } } }

theorem wit_deadline_vote : Obligations.SweepCommandsComplete → ∃ t, exec .voteDeadline (tVote false) = .next t :=
  fun h => ⟨_, (h.2.2.2.2.1 (tVote false) _ rfl rfl).1 rfl (by decide +kernel)⟩

theorem wit_grace : Obligations.SweepCommandsComplete → ∃ t, exec .voteGraceExpire ((tVote true).setReg PWR.FRAME_COUNT 70000) = .next t :=
  fun h => ⟨_, (h.2.2.2.2.1 ((tVote true).setReg PWR.FRAME_COUNT 70000) _ rfl rfl).2 rfl (by decide +kernel)⟩

/-- A `SEAL` of one empty block, its record beside it. -/
def tSealRec : List Byte := (zeros 8 ++ leBytes 8 (crc64 []) ++ zeros 44) ++ leBytes 4 (crc32c (zeros 8 ++ leBytes 8 (crc64 []) ++ zeros 44))
def tSeal : State := tMv rnSeal (fun d => { d with param := 1 }) tSealRec tFlask

theorem wit_seal : Obligations.SweepCommandsComplete → ∃ t, exec (.seal 1) tSeal = .next t :=
  fun h => ⟨_, h.2.2.2.2.2.1 1 tSeal (tIss 5 rnSeal (fun d => { d with param := 1 })) (tReq tSealRec) (GEnt.parse (1 + 2 ^ 32)) rfl rfl rfl rfl rfl
    rfl (by decide +kernel) (by decide +kernel) (by decide +kernel)⟩

theorem wit_seal_message : Obligations.SweepCommandsComplete →
    ∃ t, exec .sealMessage (tMsg { tc := 0, mkind := 0x14, dest := 0, body := zeros 16 } tFlask) = .next t :=
  fun h => ⟨_, h.2.2.2.2.2.2.1 (tMsg { tc := 0, mkind := 0x14, dest := 0, body := zeros 16 } tFlask) _ _ _ rfl rfl (by decide +kernel) (by decide +kernel)⟩

theorem wit_seal_timeout : Obligations.SweepCommandsComplete → ∃ t, exec .sealTimeout
    ((({ State.reset with sweep := { own := some (1, 0, 0) } }).setFld COL.SW_STATE_SEAL 1).setReg PWR.FRAME_COUNT 70000) = .next t :=
  fun h => ⟨_, h.2.2.2.2.2.2.2 ((({ State.reset with sweep := { own := some (1, 0, 0) } }).setFld COL.SW_STATE_SEAL 1).setReg PWR.FRAME_COUNT 70000)
    1 0 0 rfl (by decide +kernel) rfl (by decide +kernel)⟩

/-! ## Witnesses: routing and the links -/

/-- Port 0 trained with its expected peer, routing enabled. -/
def tPeer : State := (((tPort ptUp).setReg ROUT.PORT_EN 4).setFld ROUT.SELF_VALID 1).setReg AVL.PEER (2 ^ 23 + 2) 2

theorem wit_activate : Obligations.RoutingCommandsComplete → ∃ t, exec (.portActivate 2) tPeer = .next t :=
  fun h => ⟨_, h.1 2 tPeer (by decide +kernel) (by decide +kernel) (by decide +kernel) (by decide +kernel) (by decide +kernel) (by decide +kernel)⟩

/-- A packet of this device waiting to leave. -/
def tOwn : State := { State.reset with transit := [{ tc := 1, mkind := 0x01, dest := 9 }] }

theorem wit_route : Obligations.RoutingCommandsComplete → ∃ t, exec .packetRoute tOwn = .next t := by
  intro h
  have e : (nextOwn tOwn).isSome := by decide +kernel
  obtain ⟨⟨m, t⟩, e⟩ := Option.isSome_iff_exists.1 e
  exact ⟨_, h.2.1 tOwn t m (by decide +kernel) e⟩

theorem wit_bad_msg : Obligations.RoutingCommandsComplete → ∃ t, exec .badMsg (tMsg { tc := 2, mkind := 0x10, dest := 0 }) = .next t :=
  fun h => ⟨_, h.2.2.1 (tMsg { tc := 2, mkind := 0x10, dest := 0 }) 24 { tc := 2, mkind := 0x10, dest := 0 } rfl⟩

theorem wit_token : Obligations.RoutingCommandsComplete → ∃ t, exec .token (tMsg { tc := 0, mkind := 0x10, dest := 0 }) = .next t :=
  fun h => ⟨_, h.2.2.2.1 (tMsg { tc := 0, mkind := 0x10, dest := 0 }) _ 24 _ rfl rfl (by decide +kernel)⟩

/-- A read of 32 bytes of the Tundish, and a write of none to the landing range. -/
def tRd : Packet := { tc := 2, mkind := 0x01, dest := 0, body := leBytes 6 64 ++ leBytes 4 32 }
def tWr : Packet := { tc := 2, mkind := 0x03, dest := 0, body := zeros 10 }

theorem wit_rd : Obligations.RoutingCommandsComplete → ∃ t, exec .rdReq (tMsg tRd) = .next t :=
  fun h => ⟨_, h.2.2.2.2.1 (tMsg tRd) _ 24 tRd rfl rfl (fun x => absurd x.1 (by decide)) (by decide +kernel) (by decide +kernel)⟩

theorem wit_wr : Obligations.RoutingCommandsComplete → ∃ t, exec .wr (tMsg tWr) = .next t :=
  fun h => ⟨_, h.2.2.2.2.2.1 (tMsg tWr) _ 24 tWr rfl rfl (by decide +kernel) (by decide +kernel) (fun _ => by decide +kernel)⟩

/-- A request with tag 3 to device 9 that waits for its answer: of the Steward, or of core `c`. -/
def tRem (c : Nat) (w : Bool) : RemReq :=
  { tag := 3, core := c, seq := 7, eng := 5, write := w, dest := 9, deadline := 900,
    req := { kind := 3, type := 3, dev := 0, rtype := 0, addr := 64, len := 32, tile := false } }

/-- A packet of kind `k` and class `tc` from device 9 that answers it, and the request waiting. -/
def tAns (k tc : Nat) (c : Nat) (w : Bool) : State :=
  tMsg { tc := tc, mkind := k, dest := 0, src := 9, word := 3 }
    (modRun { State.reset with remote := [tRem c w] } 1 (fun r => { r with flight := [{ eng := 5, seq := 7, req := (tRem c w).req }] }))

theorem wit_rd_rsp : Obligations.RoutingCommandsComplete → ∃ t, exec .rdRsp (tAns 0x02 2 4 false) = .next t :=
  fun h => ⟨_, (h.2.2.2.2.2.2.1 (tAns 0x02 2 4 false) _ 24 _ _ rfl rfl (by decide +kernel)).1 (by decide)⟩

theorem wit_rd_rsp_core : Obligations.RoutingCommandsComplete → ∃ t, exec .rdRsp (tAns 0x02 2 1 false) = .next t :=
  fun h => ⟨_, (h.2.2.2.2.2.2.1 (tAns 0x02 2 1 false) _ 24 _ _ rfl rfl (by decide +kernel)).2
    { eng := 5, seq := 7, req := (tRem 1 false).req } (by decide) (by decide +kernel)⟩

theorem wit_wr_ack : Obligations.RoutingCommandsComplete → ∃ t, exec .wrAck (tAns 0x04 2 1 true) = .next t :=
  fun h => ⟨_, h.2.2.2.2.2.2.2.1 (tAns 0x04 2 1 true) _ 24 _ _ rfl rfl (by decide +kernel) (by decide)⟩

theorem wit_err_rsp : Obligations.RoutingCommandsComplete → ∃ t, exec .errRsp (tAns 0x05 2 1 true) = .next t :=
  fun h => ⟨_, h.2.2.2.2.2.2.2.2.1 (tAns 0x05 2 1 true) _ 24 _ _ rfl rfl⟩

theorem wit_reg_rsp : Obligations.RoutingCommandsComplete → ∃ t, exec .regRsp (tAns 0x08 2 4 false) = .next t :=
  fun h => ⟨_, h.2.2.2.2.2.2.2.2.2.1 (tAns 0x08 2 4 false) _ 24 _ _ rfl rfl⟩

theorem wit_e2e : Obligations.RoutingCommandsComplete → ∃ t, exec .e2eTimeout { State.reset with remote := [tRem 1 true] } = .next t :=
  fun h => ⟨_, h.2.2.2.2.2.2.2.2.2.2 { State.reset with remote := [tRem 1 true] } _ rfl⟩

theorem wit_transmit_quench : Obligations.LinkFlitCommandsComplete →
    ∃ t, exec (.flitTransmit 2) (tQ.setFld AVL.STATE_PORT ptActive 2) = .next t :=
  fun h => ⟨_, h.1 2 (tQ.setFld AVL.STATE_PORT ptActive 2) (by decide +kernel) (by decide +kernel) (by decide +kernel) (by decide +kernel)⟩

theorem wit_transmit : Obligations.LinkFlitCommandsComplete →
    ∃ t, exec (.flitTransmit 2) (tPort ptUp (fun l => { l with ctrl := [[1]] })) = .next t :=
  fun h => ⟨_, h.2.1 2 [1] [] (tPort ptUp (fun l => { l with ctrl := [[1]] })) (by decide +kernel) (by decide +kernel) (by decide +kernel)
    (by decide +kernel) (by decide +kernel) (by decide +kernel) (by decide +kernel)⟩

theorem wit_receive_bad : Obligations.LinkFlitCommandsComplete → ∃ t, exec (.flitReceive 2 0 true) (tPort ptActive) = .next t :=
  fun h => ⟨_, (h.2.2.1 2 0 (tPort ptActive) {} (by decide +kernel) (by decide +kernel) (Or.inr (by decide +kernel)) (by decide +kernel)
    (by decide +kernel)).2.2.2⟩

/-- The bits of a flit of kind `k`, and those of a damaged one. -/
def tFlit (k : Nat) : BitVec 2048 := BitVec.ofNat 2048 (leNat (Flit.bytes { kind := k }))

theorem wit_receive : Obligations.LinkFlitCommandsComplete → ∃ t, exec (.flitReceive 2 (tFlit fkIdle) false) (tPort ptActive) = .next t := by
  intro h
  have e : (Flit.parse (leBytes 256 (tFlit fkIdle).toNat)).2 = true := by decide +kernel
  have e1 : (Flit.parse (leBytes 256 (tFlit fkIdle).toNat)).1.kind = fkIdle := by decide +kernel
  exact ⟨_, (h.2.2.1 2 (tFlit fkIdle) (tPort ptActive) (Flit.parse (leBytes 256 (tFlit fkIdle).toNat)).1 (by decide +kernel) (by decide +kernel)
    (Or.inr (by decide +kernel)) (by decide +kernel) (by decide +kernel)).1 (Prod.ext rfl e) e1⟩

theorem wit_receive_ctrl : Obligations.LinkFlitCommandsComplete → ∃ t, exec (.flitReceive 2 (tFlit fkCtrl) false) (tPort ptActive) = .next t := by
  intro h
  have e : (Flit.parse (leBytes 256 (tFlit fkCtrl).toNat)).2 = true := by decide +kernel
  have e1 : (Flit.parse (leBytes 256 (tFlit fkCtrl).toNat)).1.kind = fkCtrl := by decide +kernel
  exact ⟨_, (h.2.2.1 2 (tFlit fkCtrl) (tPort ptActive) (Flit.parse (leBytes 256 (tFlit fkCtrl).toNat)).1 (by decide +kernel) (by decide +kernel)
    (Or.inr (by decide +kernel)) (by decide +kernel) (by decide +kernel)).2.1 (Prod.ext rfl e) e1⟩

theorem wit_receive_damaged : Obligations.LinkFlitCommandsComplete → ∃ t, exec (.flitReceive 2 1 false) (tPort ptActive) = .next t := by
  intro h
  have e : (Flit.parse (leBytes 256 (1 : BitVec 2048).toNat)).2 = false := by decide +kernel
  exact ⟨_, (h.2.2.1 2 1 (tPort ptActive) (Flit.parse (leBytes 256 (1 : BitVec 2048).toNat)).1 (by decide +kernel) (by decide +kernel)
    (Or.inr (by decide +kernel)) (by decide +kernel) (by decide +kernel)).2.2.1 (Prod.ext rfl e)⟩

theorem wit_quench_set : Obligations.LinkFlitCommandsComplete →
    ∃ t, exec (.quenchSetReceive 2 { dev := 9, cause := 8, count := 0, nonce := 1, frame := 0 }) (tPort ptActive) = .next t :=
  fun h => ⟨_, h.2.2.2.1 2 { dev := 9, cause := 8, count := 0, nonce := 1, frame := 0 } (tPort ptActive) (by decide +kernel) (by decide +kernel)
    (by decide +kernel)⟩

/-- Port 2 with a `NAK` received and one flit to send again. -/
def tNak : State := tPort ptActive (fun l => { l with nakIn := true, replay := [{ flit := {}, src := { kind := fkCtrl, tc := 0, payload := [] } }] })

theorem wit_replay : Obligations.LinkFlitCommandsComplete → ∃ t, exec (.linkReplay 2 0) tNak = .next t :=
  fun h => ⟨_, (h.2.2.2.2.1 2 tNak (by decide +kernel) (by decide +kernel) (by decide +kernel)).1 (by decide +kernel)⟩

theorem wit_replay_fails : Obligations.LinkFlitCommandsComplete → ∃ t, exec (.linkReplay 2 2) tNak = .next t :=
  fun h => ⟨_, (h.2.2.2.2.1 2 tNak (by decide +kernel) (by decide +kernel) (by decide +kernel)).2⟩

theorem wit_nak_timeout : Obligations.LinkFlitCommandsComplete →
    ∃ t, exec (.nakTimeout 2) (tPort ptActive (fun l => { l with nakCk := some 5 })) = .next t :=
  fun h => ⟨_, h.2.2.2.2.2.1 2 (tPort ptActive (fun l => { l with nakCk := some 5 })) 5 (by decide +kernel) (by decide +kernel) (by decide +kernel)⟩

theorem wit_ack_timeout : Obligations.LinkFlitCommandsComplete → ∃ t, exec (.ackTimeout 2) tNak = .next t :=
  fun h => ⟨_, h.2.2.2.2.2.2 2 tNak (by decide +kernel) (Or.inr (by decide +kernel)) (by decide +kernel)⟩

theorem wit_lane_request : Obligations.LinkLaneAndTrainingCommandsComplete →
    ∃ t, exec (.laneRequest 2) (tPort ptActive (fun l => { l with msgs := [(ctLaneRequest, [1])] })) = .next t :=
  fun h => ⟨_, h.1 2 (tPort ptActive (fun l => { l with msgs := [(ctLaneRequest, [1])] })) _ _ rfl (by decide +kernel)⟩

theorem wit_spare_equal : Obligations.LinkLaneAndTrainingCommandsComplete →
    ∃ t, exec (.spareEqualisationDone 2) (tPort ptActive (fun l => { l with rxRep := some (1, false) })) = .next t :=
  fun h => ⟨_, h.2.1 2 (tPort ptActive (fun l => { l with rxRep := some (1, false) })) 1 (by decide +kernel)⟩

theorem wit_lane_switch : Obligations.LinkLaneAndTrainingCommandsComplete →
    ∃ t, exec (.laneSwitch 2) (tPort ptActive (fun l => { l with rxRep := some (3, true) })) = .next t :=
  fun h => ⟨_, h.2.2.1 2 (tPort ptActive (fun l => { l with rxRep := some (3, true) })) 3 (by decide +kernel)⟩

theorem wit_lane_window : Obligations.LinkLaneAndTrainingCommandsComplete →
    ∃ t, exec (.laneWindow 2 [] 3) (tPort ptActive) = .next t :=
  fun h => ⟨_, h.2.2.2.1 2 [] 3 (tPort ptActive) (Or.inr (by decide +kernel)) (by decide +kernel) (by decide +kernel)
    (fun x => by simp) (by decide +kernel)⟩

theorem wit_re_eq : Obligations.LinkLaneAndTrainingCommandsComplete →
    ∃ t, exec (.reEq 2) (((tPort ptActive).setFld AVL.CTRL_RE_EQ_EN 1 2).setReg AVL.RE_EQ_PERIOD 1 2) = .next t :=
  fun h => ⟨_, h.2.2.2.2.1 2 (((tPort ptActive).setFld AVL.CTRL_RE_EQ_EN 1 2).setReg AVL.RE_EQ_PERIOD 1 2) (by decide +kernel)
    (by decide +kernel) (Or.inr (by decide +kernel)) (by decide +kernel)⟩

theorem wit_presence : Obligations.LinkLaneAndTrainingCommandsComplete → ∃ t, exec (.presenceAssert 2) State.reset = .next t :=
  fun h => ⟨_, h.2.2.2.2.2.1 2 State.reset (by decide +kernel)⟩

theorem wit_presence_gone : Obligations.LinkLaneAndTrainingCommandsComplete →
    ∃ t, exec (.presenceDeassert 2) ((tPort ptActive).setFld AVL.STATE_PRESENT 1 2) = .next t :=
  fun h => ⟨_, h.2.2.2.2.2.2.1 2 ((tPort ptActive).setFld AVL.STATE_PRESENT 1 2) (by decide +kernel)⟩

theorem wit_trained : Obligations.LinkLaneAndTrainingCommandsComplete →
    ∃ t, exec (.trainingComplete 2 (some 9) 0x1F 0x0F) (tPort ptTraining) = .next t :=
  fun h => ⟨_, (h.2.2.2.2.2.2.2.1 2 9 0x1F 0x0F (tPort ptTraining) (by decide +kernel) (by decide +kernel) (by decide +kernel)).1
    (by decide +kernel)⟩

theorem wit_retrained : Obligations.LinkLaneAndTrainingCommandsComplete →
    ∃ t, exec (.shortRetrainComplete 2 (some 9) 0x1F 0x0F) ((tPort ptRetraining).setReg AVL.PEER (2 ^ 23 + 9) 2) = .next t :=
  fun h => ⟨_, (h.2.2.2.2.2.2.2.1 2 9 0x1F 0x0F ((tPort ptRetraining).setReg AVL.PEER (2 ^ 23 + 9) 2) (by decide +kernel) (by decide +kernel)
    (by decide +kernel)).2 (by decide +kernel) (by decide +kernel)⟩

theorem wit_retrain : Obligations.LinkLaneAndTrainingCommandsComplete → ∃ t, exec (.avlCtrlRetrain 2) (tPort ptActive) = .next t :=
  fun h => ⟨_, h.2.2.2.2.2.2.2.2 2 (tPort ptActive) (by decide +kernel)⟩

/-! ## Witnesses: the stores, calibration, the bridge and the resets -/

/-- The Ingot Store ON with target 0 of four blocks, all full, and tile 0 of area 0 in the first. -/
def tFlash : State :=
  let s := (((tOn .ing).setFld INGCH.CH_STATE_STATE 1 0).setFld INGCH.CH_STATE_TGT_PRESENT 1 0).setFld INGCH.TGT_GEOM_LUNS 1 0 0
  let s := (s.setFld INGCH.TGT_GEOM_BLOCKS 4 0 0).setFld INGCH.CH_CTRL_WL_SPREAD 1 0
  { s with ing := { s.ing with
    map := [(0, 1)], blocks := [(0, { st := 2 }), (1, { st := 2, pe := 9 }), (2, { st := 2 }), (3, { st := 2 })] } }

theorem wit_gc : Obligations.IngotCommandsComplete → ∃ t, exec (.garbageCollect 0 false) tFlash = .next t := by
  intro h
  have e : (fewestValid tFlash (blksIn tFlash ((0 : Fin 64) : Nat) 2)).isSome := by decide +kernel
  obtain ⟨k, e⟩ := Option.isSome_iff_exists.1 e
  exact ⟨_, h.1 0 false tFlash k (by decide +kernel) (by decide +kernel) (by decide +kernel) e⟩

theorem wit_wear : Obligations.IngotCommandsComplete → ∃ t, exec (.wearLevel 0 true) tFlash = .next t :=
  fun h => ⟨_, h.2.1 0 true tFlash 0 (by decide +kernel) (by decide +kernel) (by decide +kernel) (by decide +kernel)⟩

/-- An Ingot read in flight. -/
def tIngFlight : Flight := { eng := 5, seq := 7, req := { kind := 2, type := 2, dev := 0, rtype := 0, addr := 16384, len := 32, tile := false } }

theorem wit_ingot_read : Obligations.IngotCommandsComplete →
    ∃ t, exec (.ingotReadComplete 1 []) (modRun (tOn .ing) 1 (fun r => { r with flight := [tIngFlight] })) = .next t :=
  fun h => ⟨_, h.2.2.1 1 [] (modRun (tOn .ing) 1 (fun r => { r with flight := [tIngFlight] })) tIngFlight none (by decide +kernel)
    (by decide +kernel) (by decide +kernel) (by decide +kernel) rfl (by decide +kernel)⟩

/-- What the patrol of tile 0 decodes. -/
def tPatrol : Nat × Bool × State :=
  let s := tFlash.setFld ING.CTRL_PATROL_EN 1
  let u := s.upTo (sget 0 s.ing.patrols (pageTgt 0 / 4) + 1000 * s.ckPerUs)
  let u : State := { u with ing := { u.ing with patrols := sset 0 u.ing.patrols (pageTgt 0 / 4) u.ck } }
  decodePage u (pageTgt 0 / 4) (u.ing.dead.contains 0) []

theorem wit_patrol : Obligations.IngotCommandsComplete → ∃ t, exec (.patrolRead 0 0 []) (tFlash.setFld ING.CTRL_PATROL_EN 1) = .next t :=
  fun h => ⟨_, h.2.2.2.1 0 0 [] (tFlash.setFld ING.CTRL_PATROL_EN 1) 0 tPatrol.1 tPatrol.2.2
    (by decide +kernel) (by decide +kernel) (by decide +kernel) (by decide +kernel)
    (Prod.ext rfl (Prod.ext (show tPatrol.2.1 = false by decide +kernel) rfl))⟩

/-- A write of core 1 to an Ingot tile, not started or in page `p`. -/
def tIngW (p : Option Nat) : IngWrite :=
  { core := 4, seq := 7, area := 0, tile := 3, payload := [], side := [], page := p }

/-- The Ingot Store with that write and a free block. -/
def tFlashW (p : Option Nat) : State :=
  { tFlash with ing := { tFlash.ing with writes := [tIngW p], blocks := [(0, { st := 2 })] } }

theorem wit_program : Obligations.IngotCommandsComplete → ∃ t, exec .ingotProgramStart (tFlashW none) = .next t := by
  intro h
  have e : ((nextTarget (budgetHolds (tFlashW none) (tIngW none)).2).bind (takePage (budgetHolds (tFlashW none) (tIngW none)).2)).isSome := by
    decide +kernel
  obtain ⟨⟨p, u⟩, e⟩ := Option.isSome_iff_exists.1 e
  have e1 : (budgetHolds (tFlashW none) (tIngW none)).1 = false := by decide +kernel
  exact ⟨_, h.2.2.2.2.1 (tFlashW none) (budgetHolds (tFlashW none) (tIngW none)).2 u (tIngW none) p (by decide +kernel) (by decide +kernel)
    (by decide +kernel) (Prod.ext e1 rfl) e⟩

theorem wit_programmed : Obligations.IngotCommandsComplete → ∃ t, exec (.ingotProgramComplete false) (tFlashW (some 65536)) = .next t :=
  fun h => ⟨_, h.2.2.2.2.2.1 (tFlashW (some 65536)) (tIngW (some 65536)) 65536 (by decide +kernel) rfl (by decide +kernel) (by decide +kernel)⟩

theorem wit_retire : Obligations.IngotCommandsComplete → ∃ t, exec (.retireReq 0) tFlash = .next t :=
  fun h => ⟨_, (h.2.2.2.2.2.2.1 0 tFlash).1 (by decide +kernel) (by decide +kernel) (by decide +kernel)⟩

/-- Target 0 being retired. -/
def tRetiring (s : State) : State := { s with ing := { s.ing with retiring := some 0 } }

theorem wit_retire_refused : Obligations.IngotCommandsComplete → ∃ t, exec (.retireReq 0) (tRetiring tFlash) = .next t :=
  fun h => ⟨_, (h.2.2.2.2.2.2.1 0 (tRetiring tFlash)).2 (by decide +kernel)⟩

theorem wit_retire_goes_on : Obligations.IngotCommandsComplete → ∃ t, exec .targetRetireDone (tRetiring tFlash) = .next t :=
  fun h => ⟨_, h.2.2.2.2.2.2.2.1 (tRetiring tFlash) 0 rfl (by decide +kernel) (by decide +kernel)⟩

theorem wit_retired : Obligations.IngotCommandsComplete → ∃ t, exec .targetRetireDone (tRetiring (tOn .ing)) = .next t :=
  fun h => ⟨_, h.2.2.2.2.2.2.2.2.1 (tRetiring (tOn .ing)) 0 rfl (by decide +kernel) (by decide +kernel)⟩

theorem wit_target_timeout : Obligations.IngotCommandsComplete → ∃ t, exec (.targetCommandTimeout 0 false) tFlash = .next t :=
  fun h => ⟨_, h.2.2.2.2.2.2.2.2.2 0 tFlash (by decide +kernel) (by decide +kernel)⟩

theorem wit_hbm_parity : Obligations.HbmCommandsComplete → ∃ t, exec (.hbmParityError 3 7 true) (tOn .hbm 3) = .next t :=
  fun h => ⟨_, (h.1 3 7 (tOn .hbm 3) (by decide +kernel)).2.1⟩

theorem wit_hbm_hot : Obligations.HbmCommandsComplete → ∃ t, exec (.hbmTempRead 3 86) (tOn .hbm 3) = .next t :=
  fun h => ⟨_, (h.2.1 3 86 (tOn .hbm 3) (by decide +kernel) (by decide +kernel) (by decide +kernel)).1 (by decide) (by decide +kernel)⟩

theorem wit_hbm_cool : Obligations.HbmCommandsComplete → ∃ t, exec (.hbmTempRead 3 82) (tOn .hbm 3) = .next t :=
  fun h => ⟨_, (h.2.1 3 82 (tOn .hbm 3) (by decide +kernel) (by decide +kernel) (by decide +kernel)).2 (by decide)⟩

/-- Locked timing with slot 0 of every period owned by partition 0. -/
def tSlots : State := State.reset.setFld PWR.FRM_STATE_LOCKED 1

theorem wit_slot : Obligations.HbmCommandsComplete → ∃ t, exec (.hbmSlotServe 1) tSlots = .next t := by
  intro h
  have e : (slotOwner tSlots (1 % 256)).isSome := by decide +kernel
  obtain ⟨p, e⟩ := Option.isSome_iff_exists.1 e
  exact ⟨_, h.2.2.1 1 p tSlots (by decide +kernel) (by decide +kernel) (by decide) (by decide +kernel) (by decide +kernel) e⟩

theorem wit_slot_apply : Obligations.HbmCommandsComplete → ∃ t, exec .slotCtrlApply State.reset = .next t :=
  fun h => ⟨_, (h.2.2.2 State.reset (by decide +kernel)).1 (by decide +kernel)⟩

/-- Two partitions that own one slot. -/
def tClash : State := State.reset.setReg HBM.SLOT_TABLE (State.reset.reg HBM.SLOT_TABLE 0 0) 0 16

theorem wit_slot_clash : Obligations.HbmCommandsComplete → ∃ t, exec .slotCtrlApply tClash = .next t := by
  intro h
  have e : (slotConflict tClash).isSome := by decide +kernel
  obtain ⟨⟨a, b, i⟩, e⟩ := Option.isSome_iff_exists.1 e
  exact ⟨_, (h.2.2.2 tClash (by decide +kernel)).2 a b i e⟩

theorem wit_scrub : Obligations.TundishCommandsComplete → ∃ t, exec (.scrubAccess (.tun 1) 77 1) State.reset = .next t :=
  fun h => ⟨_, (h.1 77 1 State.reset).1 1⟩

/-- The pages whose memories the scrubbers read ON. -/
def tScrub : State := tOn .ldl 1 (tOn .cru 1 (tOn .spr 1 (tOn .asy 1 (((tOn .stw).setReg STW.SCRUB_CTRL 0x1ffff).setReg SPR.PAT_SLOTS 1 1))))

theorem wit_scrub_stw : Obligations.TundishCommandsComplete → ∃ t, exec (.scrubAccess .stw 77 1) tScrub = .next t :=
  fun h => ⟨_, (h.1 77 1 tScrub).2.1 (by decide +kernel)⟩

theorem wit_scrub_cache : Obligations.TundishCommandsComplete → ∃ t, exec (.scrubAccess (.cache 1) 77 1) tScrub = .next t :=
  fun h => ⟨_, ((h.1 77 1 tScrub).2.2 1 (by decide +kernel) (by decide)).1 (by decide +kernel) (by decide +kernel)⟩

theorem wit_scrub_cru : Obligations.TundishCommandsComplete → ∃ t, exec (.scrubAccess (.cru 1) 77 1) tScrub = .next t :=
  fun h => ⟨_, ((h.1 77 1 tScrub).2.2 1 (by decide +kernel) (by decide)).2.1 (by decide +kernel) (by decide +kernel)⟩

theorem wit_scrub_pat : Obligations.TundishCommandsComplete → ∃ t, exec (.scrubAccess (.pat 1) 77 1) tScrub = .next t :=
  fun h => ⟨_, ((h.1 77 1 tScrub).2.2 1 (by decide +kernel) (by decide)).2.2.1 (by decide +kernel) (by decide +kernel) (by decide +kernel)⟩

theorem wit_scrub_asy : Obligations.TundishCommandsComplete → ∃ t, exec (.scrubAccess (.asy 1) 77 1) tScrub = .next t :=
  fun h => ⟨_, ((h.1 77 1 tScrub).2.2 1 (by decide +kernel) (by decide)).2.2.2 (by decide +kernel)⟩

theorem wit_spare : Obligations.TundishCommandsComplete → ∃ t, exec (.spareReq 1 127) State.reset = .next t := by
  intro h
  have e : (freeSpare (State.reset.setFld TUN.SPARE_REQ_BANK ((127 : Fin 128) : Nat) ((1 : Die) : Nat)) ((1 : Die) : Nat)).isSome := by decide +kernel
  obtain ⟨i, e⟩ := Option.isSome_iff_exists.1 e
  exact ⟨_, h.2.1 1 127 State.reset (by decide +kernel) i (by decide +kernel) e⟩

/-- A bank copy of die 1 that ended at `t`, two frames on. -/
def tCopy (t : Option Nat) : State :=
  { setCopy State.reset 1 (some { bank := 5, spare := 0, startCk := 0, done := t }) with frameCk := 9 }

theorem wit_spare_copied : Obligations.TundishCommandsComplete → ∃ t, exec (.spareCopyDone 1) (tCopy none) = .next t :=
  fun h => ⟨_, (h.2.2.1 1 (tCopy none) _ rfl).1 rfl⟩

theorem wit_spare_map : Obligations.TundishCommandsComplete → ∃ t, exec (.spareMapChange 1) (tCopy (some 8)) = .next t :=
  fun h => ⟨_, (h.2.2.1 1 (tCopy (some 8)) _ rfl).2 8 rfl (by decide +kernel)⟩

theorem wit_diag : Obligations.TundishCommandsComplete → ∃ t, exec (.diagRawWrite 1) State.reset = .next t :=
  fun h => ⟨_, (h.2.2.2.1 1 State.reset (by decide +kernel)).1⟩

theorem wit_qapply : Obligations.TundishCommandsComplete → ∃ t, exec .qapply State.reset = .next t :=
  fun h => ⟨_, h.2.2.2.2.1 State.reset (by decide +kernel) (by decide +kernel) (by decide +kernel)⟩

theorem wit_quota : Obligations.TundishCommandsComplete → ∃ t, exec .quotaSetApply
    { State.reset with frameCk := 9, tun := { State.reset.tun with quotaNext := some State.reset.tun.quotas, quotaCk := 8 } } = .next t :=
  fun h => ⟨_, h.2.2.2.2.2 { State.reset with frameCk := 9, tun := { State.reset.tun with quotaNext := some State.reset.tun.quotas, quotaCk := 8 } }
    _ rfl (by decide +kernel)⟩

theorem wit_cal_clear : Obligations.CalibrationCommandsComplete → ∃ t, exec .calClear (State.reset.setFld CAL.CAL_SEL_I 16) = .next t :=
  fun h => ⟨_, h.2.2.2.1 (State.reset.setFld CAL.CAL_SEL_I 16) (by decide +kernel)⟩

theorem wit_profile_req : Obligations.CalibrationCommandsComplete → ∃ t, exec (.grdProfileReqWrite true) State.reset = .next t :=
  fun h => ⟨_, h.2.2.2.2.2 true State.reset (by decide +kernel)⟩

theorem wit_lock : Obligations.BridgeAndPromotionCommandsComplete → ∃ t, exec (.grdBschedLockWrite true) State.reset = .next t :=
  fun h => ⟨_, (h.2.2.1 State.reset (by decide +kernel) (by decide +kernel)).1 (by decide +kernel)⟩

theorem wit_lock_bad : Obligations.BridgeAndPromotionCommandsComplete →
    ∃ t, exec (.grdBschedLockWrite true) (State.reset.setReg GRD.GRD_BSCHED_01 7) = .next t :=
  fun h => ⟨_, (h.2.2.1 (State.reset.setReg GRD.GRD_BSCHED_01 7) (by decide +kernel) (by decide +kernel)).2 (by decide +kernel)⟩

/-- A device of the ENDURANCE profile with a spare core, and core 1 at work. -/
def tSpare : State :=
  (((tRun 4 (tIss 4 1)).setFld GRD.GRD_PROFILE_ACTIVE 1).setFld GRD.GRD_PROFILE_SPARE_CORE 3)

theorem wit_promote : Obligations.BridgeAndPromotionCommandsComplete → ∃ t, exec (.promoteRequest 1) tSpare = .next t :=
  fun h => ⟨_, h.2.2.2.1 1 tSpare (tIss 4 1) [] (by decide +kernel) (by decide +kernel) (by decide) (by decide +kernel) (by decide +kernel)
    (by decide +kernel) (by decide +kernel)⟩

/-- A promotion away from core 1 whose copy ends at ck 8. -/
def tPromo (d : Bool) : State := { modPwr tSpare (fun p => { p with promo := some (1, 8, d) }) with frameCk := 9 }

theorem wit_copied : Obligations.BridgeAndPromotionCommandsComplete → ∃ t, exec (.promoteCopyDone {}) (tPromo false) = .next t :=
  fun h => ⟨_, h.2.2.2.2.1 (tPromo false) 1 8 {} rfl⟩

theorem wit_switched : Obligations.BridgeAndPromotionCommandsComplete → ∃ t, exec .promoteSwitch (tPromo true) = .next t :=
  fun h => ⟨_, h.2.2.2.2.2 (tPromo true) 1 8 rfl (by decide)⟩

/-! ## Witnesses: resets, Trust and the link exchange -/

/-- Bytes laid out in an empty memory from address `a`. -/
def tLay : Nat → List Byte → Mem
  | _, [] => []
  | a, b :: bs => if b = 0 then tLay (a + 1) bs else (a, b) :: tLay (a + 1) bs

theorem tLay_above (a : Nat) (bs : List Byte) : ∀ x ∈ tLay a bs, a ≤ x.1 := by
  induction bs generalizing a with
  | nil => simp [tLay]
  | cons b bs ih =>
    intro x hx
    simp only [tLay] at hx
    split at hx
    · exact Nat.le_trans (Nat.le_succ a) (ih _ _ hx)
    · rcases List.mem_cons.1 hx with rfl | hx
      · exact Nat.le_refl _
      · exact Nat.le_trans (Nat.le_succ a) (ih _ _ hx)

theorem bytesFrom_tLay (a : Nat) (bs : List Byte) : bytesFrom (tLay a bs) a bs.length = bs := by
  induction bs generalizing a with
  | nil => simp [bytesFrom]
  | cons b bs ih =>
    simp only [tLay, List.length_cons]
    split
    · rename_i h
      have : bytesFrom (tLay (a + 1) bs) a (bs.length + 1) = 0 :: bytesFrom (tLay (a + 1) bs) (a + 1) bs.length := by
        generalize hm : tLay (a + 1) bs = m
        cases m with
        | nil => rfl
        | cons x m =>
          have := tLay_above (a + 1) bs x (by rw [hm]; exact List.mem_cons_self)
          have ne : ¬ x.1 = a := by omega
          simp [bytesFrom, ne]
      rw [this, ih, h]
    · simp [bytesFrom, ih]

/-- Bytes laid out in memory are read there. -/
theorem readBytes_tLay (bs : List Byte) : readBytes (tLay 0 bs) 0 bs.length = bs := by
  have : (tLay 0 bs).dropWhile (fun c => decide (c.1 < 0)) = tLay 0 bs := by
    cases tLay 0 bs with
    | nil => rfl
    | cons x m => simp [List.dropWhile]
  rw [readBytes, this, bytesFrom_tLay]

theorem zeros_length (n : Nat) : (zeros n).length = n := List.length_replicate ..

/-- The signature of bytes under a key whose private exponent is 1. -/
def tSign (k : Nat × Nat) (b : List Byte) : List Byte := pssSign k.1 1 (sha512 b) (zeros 64)

theorem tSign_length (k : Nat × Nat) (b : List Byte) : (tSign k b).length = 512 := beBytes_length _ _

theorem sigOk_tSign (s : State) (k : Nat × Nat) (b : List Byte) (hk : KeyPair k.1 1 k.2) (h : s.armed TRU.INJ_BAD_SIG = false) :
    sigOk s k b (tSign k b) = (true, s) := by
  obtain ⟨n, e⟩ := k
  have := pssVerify_pssSign hk (sha512 b) (zeros 64) (zeros_length 64)
  simp only [sigOk, h, tSign, this, Bool.false_eq_true, if_false]

/-- A public key whose exponents are both 1. -/
def tKey : Nat × Nat := (256 ^ 512 - 1, 1)

theorem tKey_pair : KeyPair tKey.1 1 tKey.2 := keyPair_one _ (by decide +kernel) (by decide +kernel)

/-- The signature of bytes under that key. -/
def tSig (b : List Byte) : List Byte := tSign tKey b

theorem tSig_length (b : List Byte) : (tSig b).length = 512 := tSign_length tKey b

theorem tSigOk (s : State) (b : List Byte) (h : s.armed TRU.INJ_BAD_SIG = false) : sigOk s tKey b (tSig b) = (true, s) :=
  sigOk_tSign s tKey b tKey_pair h

/-- Trust ON with `n` bytes `b` in its buffer and the vendor key above. -/
def tBuf (n : Nat) (b : List Byte) (f : TruSt → TruSt := id) (s : State := State.reset) : State :=
  let u := (tOn .tru 0 s).setReg TRU.TRU_BUF_LEN n
  modTru { u with tun := { u.tun with bytes := tLay 0 b } } (fun t => f { t with vendor := tKey })

/-- What that buffer reads as with an operation shown. -/
theorem truBuf_tBuf (n : Nat) (b : List Byte) (f : TruSt → TruSt) (s : State) (op : Nat)
    (ha : ((tBuf n b f s).setFld TRU.TRU_CMD_OP op).fld TRU.TRU_BUF_ADDR = 0)
    (hn : ((tBuf n b f s).setFld TRU.TRU_CMD_OP op).reg TRU.TRU_BUF_LEN = b.length) :
    truBuf ((tBuf n b f s).setFld TRU.TRU_CMD_OP op) = b := by
  have h : ((tBuf n b f s).setFld TRU.TRU_CMD_OP op).tun.bytes = tLay 0 b := rfl
  rw [truBuf, peek, h, ha, hn, readBytes_tLay]

theorem tRngReady (s : State) (h : s.armed TRU.INJ_RNG = false) : rngReady s = (!s.tru.rngBad, s) := by simp [rngReady, h]

theorem wit_cold : Obligations.ResetCommandsComplete → ∃ t, exec (.coldReset {}) State.reset = .next t :=
  fun h => ⟨_, h.1 {} State.reset⟩

theorem wit_warm : Obligations.ResetCommandsComplete → exec (.rstCmd 0x7A3C {}) State.reset = .next (warmBoot State.reset {} 1 false) :=
  fun h => h.2.1 {} State.reset rfl

theorem wit_rst_other : Obligations.ResetCommandsComplete → exec (.rstCmd 0x7A3D {}) State.reset = .next State.reset :=
  fun h => h.2.2.1 _ {} State.reset (by decide)

/-- A device off after one rail failure. -/
def tOff : State :=
  { State.reset with svc := { State.reset.svc with off := true }, pwr := { State.reset.pwr with railFails := 1 } }

theorem wit_retry : Obligations.ResetCommandsComplete → exec (.regulatorRetry {}) tOff = .next (coldBoot tOff {}) :=
  fun h => h.2.2.2.1 {} tOff rfl rfl

theorem wit_overtime : Obligations.ResetCommandsComplete →
    ∃ t, exec (.bootStepOvertime 8) (State.reset.setFld STW.BOOT_STATE_STEP 9) = .next t :=
  fun h => ⟨_, h.2.2.2.2 8 (State.reset.setFld STW.BOOT_STATE_STEP 9) (by decide +kernel) (by decide +kernel) (by decide +kernel)⟩

theorem wit_verify : Obligations.TrustCommandsComplete → ∃ t, exec .verify (tOn .tru) = .next t :=
  fun h => ⟨_, (h (tOn .tru) (by decide +kernel)).1 _ _ _ rfl⟩

/-- Trust ON with its random source found bad, or not. -/
def tRng (bad : Bool) : State := modTru (tOn .tru) (fun t => { t with rngBad := bad })

theorem wit_nonce : Obligations.TrustCommandsComplete → ∃ t, exec .nonce (tRng false) = .next t :=
  fun h => ⟨_, (h (tRng false) (by decide +kernel)).2.1 _ _ _ (tRngReady _ (by decide +kernel)) rfl⟩

theorem wit_nonce_bad : Obligations.TrustCommandsComplete → ∃ t, exec .nonce (tRng true) = .next t :=
  fun h => ⟨_, ((h (tRng true) (by decide +kernel)).2.2.1 _).1 (tRngReady _ (by decide +kernel))⟩

theorem wit_attest_bad : Obligations.TrustCommandsComplete → ∃ t, exec .attest (tRng true) = .next t :=
  fun h => ⟨_, ((h (tRng true) (by decide +kernel)).2.2.1 _).2 (tRngReady _ (by decide +kernel))⟩

/-- A token that enrols an owner of modulus and exponent 0, for a device whose identity fuses read 0. -/
def tEnrol : State := tBuf 1076 (zeros 564 ++ tSig (zeros 564)) (fun t => { t with nonce := some (zeros 32) })

theorem wit_enrol : Obligations.TrustCommandsComplete → ∃ t, exec .enrol tEnrol = .next t := by
  intro h
  have hb : truBuf (tEnrol.setFld TRU.TRU_CMD_OP 4) = zeros 564 ++ tSig (zeros 564) :=
    truBuf_tBuf _ _ _ _ _ (by decide +kernel) (by rw [List.length_append, zeros_length, tSig_length]; decide +kernel)
  have e1 : (zeros 564 ++ tSig (zeros 564)).take 564 = zeros 564 := List.take_left' (by rw [zeros_length])
  have e2 : (zeros 564 ++ tSig (zeros 564)).drop 564 = tSig (zeros 564) := List.drop_left' (by rw [zeros_length])
  refine ⟨_, (h tEnrol (by decide +kernel)).2.2.2.1 (zeros 32)
    (modTru (tEnrol.setFld TRU.TRU_CMD_OP 4) (fun t => { t with nonce := none })) rfl rfl ?_ ?_ ?_⟩
  · rw [hb, List.length_append, zeros_length, tSig_length]
  · rw [hb, e1, e2]; exact tSigOk _ _ (by decide +kernel)
  · rw [hb, List.take_append_of_le_length (by rw [zeros_length]; decide)]; decide +kernel

/-- A device with an owner enrolled. -/
def tOwned : State := tBuf 560 (zeros 48 ++ tSig (zeros 48)) (fun t => { t with owner := some (5, 3), nonce := some (zeros 32) })

theorem wit_enrol_again : Obligations.TrustCommandsComplete → ∃ t, exec .enrol tOwned = .next t :=
  fun h => ⟨_, (h tOwned (by decide +kernel)).2.2.2.2.1 (5, 3) rfl⟩

theorem wit_unenrol : Obligations.TrustCommandsComplete → ∃ t, exec .unenrol tOwned = .next t := by
  intro h
  have hb : truBuf (tOwned.setFld TRU.TRU_CMD_OP 5) = zeros 48 ++ tSig (zeros 48) :=
    truBuf_tBuf _ _ _ _ _ (by decide +kernel) (by rw [List.length_append, zeros_length, tSig_length]; decide +kernel)
  have e1 : (zeros 48 ++ tSig (zeros 48)).take 48 = zeros 48 := List.take_left' (by rw [zeros_length])
  have e2 : (zeros 48 ++ tSig (zeros 48)).drop 48 = tSig (zeros 48) := List.drop_left' (by rw [zeros_length])
  refine ⟨_, (h tOwned (by decide +kernel)).2.2.2.2.2.1 (zeros 32)
    (modTru (tOwned.setFld TRU.TRU_CMD_OP 5) (fun t => { t with nonce := none })) (5, 3) rfl rfl rfl rfl rfl ?_ ?_ ?_⟩
  · rw [hb, List.length_append, zeros_length, tSig_length]
  · rw [hb, e1, e2]; exact tSigOk _ _ (by decide +kernel)
  · rw [hb, e1]; decide +kernel

theorem wit_patverify : Obligations.TrustCommandsComplete → ∃ t, exec .patverify (tBuf 600 []) = .next t :=
  fun h => ⟨_, (h (tBuf 600 []) (by decide +kernel)).2.2.2.2.2.2.1 _ _ (by decide +kernel) rfl⟩

theorem wit_attest : Obligations.TrustCommandsComplete → ∃ t, exec .attest (tBuf 16 []) = .next t :=
  fun h => ⟨_, (h (tBuf 16 []) (by decide +kernel)).2.2.2.2.2.2.2.1 _ _ _ (by decide +kernel) (by decide +kernel)
    (tRngReady _ (by decide +kernel)) rfl⟩

/-- A manifest without a body: `FORMAT` 1, block type 4, every grade, the hash of no bytes, and the key above. -/
def tManifest : List Byte :=
  [1, 0, 0, 0, 4, 0, 0, 0] ++ zeros 8 ++ [7] ++ zeros 47 ++ sha512 [] ++ List.replicate 512 255 ++ [1] ++ zeros 127

/-- That module, signed, in the buffer of a device whose Ingot Store has a target. -/
def tUpdate : State := tBuf 1280 (tManifest ++ tSig tManifest) id
  { tFlash with ing := { tFlash.ing with map := [], blocks := [] } }

theorem slice_left (a b : List Byte) (i k : Nat) (h : i + k ≤ a.length) : slice (a ++ b) i k = slice a i k := by
  have e : ((a ++ b).drop i).take k = (a.drop i).take k := by
    rw [List.drop_append_of_le_length (by omega), List.take_append_of_le_length (by simp; omega)]
  simp only [slice, e]

theorem slice_right (a b : List Byte) (i k : Nat) (h : a.length = i) (h' : b.length = k) : slice (a ++ b) i k = b := by
  subst h; subst h'
  simp [slice, zeros]

theorem tManifest_length : tManifest.length = 768 := by
  simp only [tManifest, List.length_append, zeros_length, sha512_length, List.length_replicate, List.length_cons, List.length_nil]

/-- That device with the operation shown. -/
def tUpdO : State := tUpdate.setFld TRU.TRU_CMD_OP 6

theorem wit_update : Obligations.TrustCommandsComplete → ∃ t, exec .update tUpdate = .next t := by
  intro h
  have hb : truBuf tUpdO = tManifest ++ tSig tManifest :=
    truBuf_tBuf _ _ _ _ _ (by decide +kernel) (by rw [List.length_append, tManifest_length, tSig_length]; decide +kernel)
  have hl : (truBuf tUpdO).length = 1280 := by rw [hb, List.length_append, tManifest_length, tSig_length]
  have ml := tManifest_length
  have e1 : (truBuf tUpdO).take 0x300 = tManifest := by rw [hb]; exact List.take_left' ml
  have e2 : slice (truBuf tUpdO) 0x300 512 = tSig tManifest := by rw [hb]; exact slice_right _ _ _ _ ml (tSig_length _)
  have es : ∀ i k, i + k ≤ 768 → slice (truBuf tUpdO) i k = slice tManifest i k := by
    intro i k hi; rw [hb]; exact slice_left _ _ _ _ (by rw [ml]; exact hi)
  have ef : ∀ i k, i + k ≤ 768 → fieldAt (truBuf tUpdO) i k = fieldAt tManifest i k := by
    intro i k hi; simp only [fieldAt, es i k hi]
  have m1 : manifestOk (truBuf tUpdO) = true := by
    simp only [manifestOk, hl]
    rw [ef 0 2 (by decide), ef 4 4 (by decide), ef 0x10 1 (by decide), ef 0x14 4 (by decide), es 2 2 (by decide), es 0xE 2 (by decide),
      es 0x11 3 (by decide), es 0x18 0x28 (by decide), es 0x284 0x7C (by decide)]
    decide +kernel
  have mk : (Mod.parse (truBuf tUpdO)).key = tKey := by
    simp only [Mod.parse]
    rw [es 0x80 512 (by decide), ef 0x280 4 (by decide)]
    decide +kernel
  have mo : (Mod.parse (truBuf tUpdO)).owner = false := by
    simp only [Mod.parse]
    rw [ef 4 4 (by decide)]
    decide +kernel
  have m2 : signerOk tUpdO (Mod.parse (truBuf tUpdO)) = true := by
    have : tUpdO.tru.vendor = tKey := rfl
    simp only [signerOk, mo, mk, this, Bool.false_eq_true, if_false, beq_self_eq_true]
  have m3 := tSigOk tUpdO tManifest (by decide +kernel)
  have m4 : sha512 (slice (truBuf tUpdO) 1280 (fieldAt (truBuf tUpdO) 0x14 4)) = slice (truBuf tUpdO) 0x40 64 := by
    have : fieldAt tManifest 0x14 4 = 0 := by decide +kernel
    rw [ef 0x14 4 (by decide), es 0x40 64 (by decide), this]
    have l0 : slice (truBuf tUpdO) 1280 0 = [] := by simp [slice, zeros]
    have l1 : (zeros 47).length = 47 := zeros_length 47
    have l2 : (zeros 8).length = 8 := zeros_length 8
    have l3 := sha512_length []
    have l4 : (List.replicate 512 (255 : Byte)).length = 512 := List.length_replicate ..
    rw [l0, tManifest]
    rw [slice_left _ (zeros 127), slice_left _ [1], slice_left _ (List.replicate 512 255),
      slice_right _ (sha512 []) 0x40 64] <;> try
    simp only [List.length_append, List.length_cons, List.length_nil, l1, l2, l3, l4, Nat.reduceAdd, Nat.reduceLeDiff]
  have ck : checkModule tUpdO (truBuf tUpdO) = (trOk, some (Mod.parse (truBuf tUpdO)), tUpdO) := by
    have g : bit (Mod.parse (truBuf tUpdO)).grades (gradeCode tUpdO - 1) = true := by
      simp only [Mod.parse]
      rw [ef 0x10 1 (by decide)]
      decide +kernel
    have v : ¬ (Mod.parse (truBuf tUpdO)).svn < floorOf tUpdO (Mod.parse (truBuf tUpdO)).block := by
      have : floorOf tUpdO (Mod.parse (truBuf tUpdO)).block = 0 := rfl
      omega
    have m5 : (sha512 (slice (truBuf tUpdO) 1280 (fieldAt (truBuf tUpdO) 0x14 4)) != slice (truBuf tUpdO) 0x40 64) = false := by
      rw [m4, bne_self_eq_false]
    simp only [checkModule, m1, m2, mk, e1, e2, m3, m5, g, v, Bool.not_true, Bool.false_eq_true, if_false]
  have pm : (programModule tUpdO (Mod.parse (truBuf tUpdO)) (truBuf tUpdO).length).isSome := by
    have hk : (Mod.parse (truBuf tUpdO)).block = 4 := by
      simp only [Mod.parse]
      rw [ef 4 4 (by decide)]
      decide +kernel
    simp only [programModule, hk, hl, Option.isSome_map]
    decide +kernel
  obtain ⟨v, pm⟩ := Option.isSome_iff_exists.1 pm
  exact ⟨_, (h tUpdate (by decide +kernel)).2.2.2.2.2.2.2.2 (Mod.parse (truBuf tUpdO)) tUpdO v ck rfl (by decide +kernel) pm⟩

/-- Port 2 UP with encryption enabled and the link `f`; Trust ON with the vendor key above. -/
def tEx (f : PortLink → PortLink) : State :=
  modTru ((modLink (((tOn .tru 0 (tPort ptUp)).setFld AVL.CTRL_ENC_EN 1 2).setReg TRU.LK_POLICY 0) 2 f)) (fun t => { t with vendor := tKey })

theorem wit_link : Obligations.LinkExchangeCommandsComplete → ∃ t, exec (.link 2) (tEx id) = .next t :=
  fun h => ⟨_, (h.1 2 (tEx id) _ (by decide +kernel) (by decide +kernel)).1 (tRngReady _ (by decide +kernel))⟩

/-- That port with a random source found bad. -/
def tExBad : State := modTru (tEx id) (fun t => { t with rngBad := true })

theorem wit_link_bad : Obligations.LinkExchangeCommandsComplete → ∃ t, exec (.link 2) tExBad = .next t :=
  fun h => ⟨_, (h.1 2 tExBad _ (by decide +kernel) (by decide +kernel)).2 (tRngReady _ (by decide +kernel))⟩

/-- A certificate's signed part with the key above. -/
def tTbs : List Byte := zeros 128 ++ List.replicate 512 255 ++ [1] ++ zeros 127

theorem tTbs_length : tTbs.length = 768 := by decide +kernel

/-- A `HELLO` with nonce 0 and that certificate, its signature the vendor's. -/
def tHello : List Byte := zeros 32 ++ (tTbs ++ tSig tTbs)

/-- A port whose exchange has started, with a message of type `k` received. -/
def tHeard (k : Nat) (b : List Byte) (f : PortLink → PortLink := id) : State :=
  tEx (fun l => f { l with ex := some (0, 5), msgs := [(k, b)] })

/-- Port 2 with its message taken. -/
def tTaken (s : State) (k : Nat) (b : List Byte) : State := modLink s 2 (fun l => { l with msgs := l.msgs.erase (k, b) })

theorem takeMsg_tTaken (s : State) (k : Nat) (b : List Byte) (h : (s.link 2).msgs = [(k, b)]) :
    takeMsg s 2 k = some (b, tTaken s k b) := by simp [takeMsg, h, tTaken]

theorem wit_hello : Obligations.LinkExchangeCommandsComplete → ∃ t, exec (.hello 2) (tHeard lkHello tHello) = .next t := by
  intro h
  have e := takeMsg_tTaken (tHeard lkHello tHello) lkHello tHello rfl
  let u := tTaken (tHeard lkHello tHello) lkHello tHello
  have c : slice tHello 32 1280 = tTbs ++ tSig tTbs :=
    slice_right _ _ _ _ (zeros_length _) (by rw [List.length_append, tTbs_length, tSig_length])
  have c1 : (tTbs ++ tSig tTbs).take 0x300 = tTbs := List.take_left' tTbs_length
  have c2 : slice (tTbs ++ tSig tTbs) 0x300 512 = tSig tTbs := slice_right _ _ _ _ tTbs_length (tSig_length _)
  refine ⟨_, h.2.1 2 (tHeard lkHello tHello) u u u _ tHello _ (by decide +kernel) e (tRngReady _ (by decide +kernel)) (by decide +kernel)
    (by decide +kernel) ?_ rfl⟩
  rw [c, c1, c2]
  exact tSigOk _ _ (by decide +kernel)

/-- A report over nonce 0. -/
def tRepBody : List Byte := zeros 4 ++ [0x30, 2, 0, 0] ++ zeros 40

/-- That report signed with the key above. -/
def tRep : List Byte := tRepBody ++ tSig tRepBody

/-- A port that has the peer's certificate and receives that report. -/
def tReported : State := tHeard lkReport tRep (fun l => { l with peerN := some 0, peerCert := tTbs })

/-- That port with the report taken. -/
def tReport2 : State := tTaken tReported lkReport tRep

theorem tReport_ok : reportOk tReport2 2 tRep = (trOk, tReport2) := by
  have n : fieldAt tRep 4 4 - 512 = 48 := by
    rw [fieldAt, tRep, slice_left _ _ _ _ (by decide +kernel)]; decide +kernel
  have c1 : tRep.take 48 = tRepBody := List.take_left' (by decide +kernel)
  have c2 : slice tRep 48 512 = tSig tRepBody := slice_right _ _ _ _ (by decide +kernel) (tSig_length _)
  have k : certKey (tReport2.link 2).peerCert = tKey := by decide +kernel
  have g : fieldAt tRep 0x10 32 = 0 := by
    rw [fieldAt, tRep, slice_left _ _ _ _ (by decide +kernel)]; decide +kernel
  have x : (tReport2.link 2).ex.map Prod.fst = some 0 := by decide +kernel
  have p1 : tReport2.flag TRU.LK_POLICY_SAME_OWNER = false := by decide +kernel
  have p2 : tReport2.flag TRU.LK_POLICY_PEER_INJ_LOCKED = false := by decide +kernel
  have p3 := tSigOk tReport2 tRepBody (by decide +kernel)
  simp only [reportOk, n, c1, c2, k, p3, g, x, p1, p2, Bool.not_true, Bool.false_eq_true, if_false, Bool.false_and, ne_eq,
    not_true_eq_false]

theorem wit_report : Obligations.LinkExchangeCommandsComplete → ∃ t, exec (.report 2) tReported = .next t :=
  fun h => ⟨_, h.2.2.1 2 tReported tReport2 tReport2 _ tRep _ 0 5 (by decide +kernel) (by decide +kernel)
    (takeMsg_tTaken _ _ _ rfl) tReport_ok rfl (by decide +kernel)⟩

/-- The identity fuses with the key above. -/
def tFused (s : State) : State :=
  let f := (List.range 128).foldl (fun m i => sset 0 m (TRU.CERT_WIN.addr 0 (32 + i)) (0xFFFFFFFF#64)) s.fuses
  { s with fuses := sset 0 f (TRU.CERT_WIN.addr 0 160) (1#64) }

/-- A share of 0 under that key. -/
def tShare : List Byte := oaepEncrypt tKey (zeros 32) (zeros 64)

/-- A port that has sent its share to a host adapter and receives that share; its identity key's private exponent is 1. -/
def tShared : State :=
  let s := tFused ((tHeard lkShare tShare (fun l => { l with peerN := some 0, peerRep := true })).setFld AVL.PEER_HOST 1 2)
  modTru s (fun t => { t with idPriv := 1 })

/-- That port with the share taken. -/
def tShare2 : State := tTaken tShared lkShare tShare

theorem tShare_length : tShare.length = 512 := by
  unfold tShare oaepEncrypt
  exact beBytes_length _ _

theorem oaep_opens (k : Nat × Nat) (h : KeyPair k.1 1 k.2) :
    oaepDecrypt k.1 1 (oaepEncrypt k (zeros 32) (zeros 64)) = some (zeros 32) :=
  oaepDecrypt_oaepEncrypt h _ _ (by rw [zeros_length]; decide) (zeros_length 64)

theorem tShare_opens : oaepDecrypt (certKey (certBytes tShare2)).1 tShare2.tru.idPriv (slice tShare 0 512) = some (zeros 32) := by
  have c : (certKey (certBytes tShare2)).1 = tKey.1 := by decide +kernel
  have d : tShare2.tru.idPriv = 1 := rfl
  have e : slice tShare 0 512 = tShare := by
    have := slice_right [] tShare 0 512 rfl tShare_length
    rwa [List.nil_append] at this
  rw [c, d, e]
  have := oaep_opens tKey tKey_pair
  rw [tShare]
  exact this

theorem wit_share : Obligations.LinkExchangeCommandsComplete → ∃ t, exec (.share 2) tShared = .next t :=
  fun h => ⟨_, h.2.2.2.1 2 tShared tShare2 tShare (zeros 32) 0 5 0 (by decide +kernel) (by decide +kernel)
    (takeMsg_tTaken _ _ _ rfl) tShare_opens (by decide) (by decide +kernel) (by decide +kernel) (by decide +kernel)⟩

theorem wit_done : Obligations.LinkExchangeCommandsComplete → ∃ t, exec (.done 2) (tHeard lkDone [0, 0, 0, 0]) = .next t :=
  fun h => ⟨_, (h.2.2.2.2.1 2 (tHeard lkDone [0, 0, 0, 0]) _ _ (by decide +kernel) (takeMsg_tTaken _ _ _ rfl)).1 (by decide)⟩

theorem wit_done_refused : Obligations.LinkExchangeCommandsComplete → ∃ t, exec (.done 2) (tHeard lkDone [3, 0, 0, 0]) = .next t :=
  fun h => ⟨_, (h.2.2.2.2.1 2 (tHeard lkDone [3, 0, 0, 0]) _ _ (by decide +kernel) (takeMsg_tTaken _ _ _ rfl)).2 (by decide)⟩

/-- Port 2 with encryption on and a transmit key used `n` times. -/
def tWraps (n : Nat) : State := ((tPort ptUp).setFld AVL.STATE_ENC_ON 1 2).setReg AVL.TX_WRAPS n 2

theorem wit_wraps_out : Obligations.LinkExchangeCommandsComplete → ∃ t, exec (.txWrapsLimit 2) (tWraps (2 ^ 32 - 1)) = .next t :=
  fun h => ⟨_, (h.2.2.2.2.2.1 2 (tWraps (2 ^ 32 - 1)) (by decide +kernel) (by decide +kernel)).1 (by decide +kernel)⟩

theorem wit_wraps : Obligations.LinkExchangeCommandsComplete → ∃ t, exec (.txWrapsLimit 2) (tWraps (2 ^ 31)) = .next t :=
  fun h => ⟨_, (h.2.2.2.2.2.1 2 (tWraps (2 ^ 31)) (by decide +kernel) (by decide +kernel)).2 (by decide +kernel) (by decide +kernel)
    (by decide +kernel)⟩

/-- An update pending since frame 0. -/
def tPend : State := modTru (State.reset.setReg TRU.UPD_WAIT_FRAMES 0) (fun t => { t with
  upd := [({ block := 4, owner := false, raise := false, version := 1, svn := 0, grades := 7, key := (0, 0), meas := 0 }, 0, false)] })

theorem wit_defer : Obligations.LinkExchangeCommandsComplete → ∃ t, exec .updateDeferTimeout tPend = .next t :=
  fun h => ⟨_, h.2.2.2.2.2.2.2.2 tPend _ _ rfl (by decide +kernel)⟩

/-! ## Witnesses: pages, long operations, drains and register accesses -/

/-- The page of the fabric, at 0x0990000 of the window. -/
theorem wit_page_on : Obligations.PageAndJtagCommandsComplete →
    ∃ t, exec (.pageEnable 0x0990000 true) (State.reset.setPageState .rout 0 pgOff) = .next t :=
  fun h => ⟨_, (h.1 0x0990000 (State.reset.setPageState .rout 0 pgOff) .rout 0 0 (by decide +kernel) (by decide +kernel)).1 (by decide +kernel)⟩

theorem wit_page_stays : Obligations.PageAndJtagCommandsComplete → ∃ t, exec (.pageEnable 0x0990000 true) (tOn .rout) = .next t :=
  fun h => ⟨_, (h.1 0x0990000 (tOn .rout) .rout 0 0 (by decide +kernel) (by decide +kernel)).2.1 (by decide +kernel)⟩

/-- The fabric's page QUIESCED. -/
def tQuiet : State := State.reset.setPageState .rout 0 pgQuiesced

theorem wit_page_off : Obligations.PageAndJtagCommandsComplete → ∃ t, exec (.pageEnable 0x0990000 false) tQuiet = .next t :=
  fun h => ⟨_, (h.1 0x0990000 tQuiet .rout 0 0 (by decide +kernel) (by decide +kernel)).2.2.1 (by decide +kernel)⟩

theorem wit_page_busy : Obligations.PageAndJtagCommandsComplete → exec (.pageEnable 0x0990000 false) (tOn .rout) = .next (tOn .rout) :=
  fun h => (h.1 0x0990000 (tOn .rout) .rout 0 0 (by decide +kernel) (by decide +kernel)).2.2.2.1 (by decide +kernel)

theorem wit_quiesce : Obligations.PageAndJtagCommandsComplete → ∃ t, exec (.pageQuiesce 0x0990000 true) (tOn .rout) = .next t :=
  fun h => ⟨_, (h.1 0x0990000 (tOn .rout) .rout 0 0 (by decide +kernel) (by decide +kernel)).2.2.2.2.1⟩

theorem wit_unquiesce : Obligations.PageAndJtagCommandsComplete → ∃ t, exec (.pageQuiesce 0x0990000 false) tQuiet = .next t :=
  fun h => ⟨_, (h.1 0x0990000 tQuiet .rout 0 0 (by decide +kernel) (by decide +kernel)).2.2.2.2.2.1 (by decide +kernel)⟩

theorem wit_quiesced : Obligations.PageAndJtagCommandsComplete →
    ∃ t, exec (.pageQuiesced 0x0990000) ((tOn .rout).setFld (HDR.PAGE_CTRL_QUIESCE .rout) 1) = .next t :=
  fun h => ⟨_, (h.1 0x0990000 ((tOn .rout).setFld (HDR.PAGE_CTRL_QUIESCE .rout) 1) .rout 0 0 (by decide +kernel) (by decide +kernel)
    ).2.2.2.2.2.2.1 (by decide +kernel) (by decide +kernel) (by decide +kernel)⟩

theorem wit_page_lock : Obligations.PageAndJtagCommandsComplete → ∃ t, exec (.pageLockWrite 0x0990000 3) (tOn .rout) = .next t :=
  fun h => ⟨_, (h.1 0x0990000 (tOn .rout) .rout 0 0 (by decide +kernel) (by decide +kernel)).2.2.2.2.2.2.2.1 3⟩

theorem wit_breset : Obligations.PageAndJtagCommandsComplete → ∃ t, exec (.pageBreset 0x0990000) (tOn .rout) = .next t :=
  fun h => ⟨_, (h.1 0x0990000 (tOn .rout) .rout 0 0 (by decide +kernel) (by decide +kernel)).2.2.2.2.2.2.2.2 (by decide) (by decide)
    (by decide)⟩

theorem wit_extest : Obligations.PageAndJtagCommandsComplete → ∃ t, exec (.extest 7) (State.reset.setFld STW.DBG_EN_EN 1) = .next t :=
  fun h => ⟨_, ((h.2 (State.reset.setFld STW.DBG_EN_EN 1)).2.2.2.1 7).1 (by decide +kernel)⟩

theorem wit_extest_locked : Obligations.PageAndJtagCommandsComplete → ∃ t, exec (.extest 7) State.reset = .next t :=
  fun h => ⟨_, ((h.2 State.reset).2.2.2.1 7).2 (by decide +kernel)⟩

theorem wit_debug : Obligations.PageAndJtagCommandsComplete → ∃ t, exec (.ccDebug 3) (State.reset.setFld STW.DBG_EN_EN 1) = .next t :=
  fun h => ⟨_, ((h.2 (State.reset.setFld STW.DBG_EN_EN 1)).2.2.2.2 3).2 (by decide +kernel)⟩

theorem wit_debug_locked : Obligations.PageAndJtagCommandsComplete → ∃ t, exec (.ccDebug 3) State.reset = .next t :=
  fun h => ⟨_, ((h.2 State.reset).2.2.2.2 3).1 (by decide +kernel)⟩

/-- Slot 1 of the long operations set to copy 64 bytes of the Tundish from 0 to 4,096. -/
def tLop : State := (State.reset.setReg STW.LOP_LEN 64 0 1).setFld STW.LOP_DST_ADDR 4096 0 1

theorem wit_lop_start : Obligations.LongOperationCommandsComplete → ∃ t, exec (.lopCopy 1) tLop = .next t :=
  fun h => ⟨_, (h.1 1 tLop (.lopCopy 1, 1) (by simp) (by decide +kernel)).1 (by decide +kernel) (by decide +kernel) (by decide +kernel)⟩

theorem wit_lop_format : Obligations.LongOperationCommandsComplete → ∃ t, exec (.ingFormat 1) State.reset = .next t :=
  fun h => ⟨_, (h.1 1 State.reset (.ingFormat 1, 5) (by simp) (by decide +kernel)).1 (by decide +kernel) (by decide +kernel)
    (Or.inr (by decide +kernel))⟩

/-- An operation in slot 3 that writes the same bytes. -/
def tLopBusy : State := setLop tLop 3 (some { op := 2, src := (0, 0), dst := (0, 4096), len := 64 })

theorem wit_lop_busy : Obligations.LongOperationCommandsComplete → ∃ t, exec (.lopCopy 1) tLopBusy = .next t :=
  fun h => ⟨_, (h.1 1 tLopBusy (.lopCopy 1, 1) (by simp) (by decide +kernel)).2.1 (by decide +kernel) (Or.inl (by decide +kernel))⟩

theorem wit_lop_streams : Obligations.LongOperationCommandsComplete → ∃ t, exec (.ingFormat 1) tLive = .next t :=
  fun h => ⟨_, (h.1 1 tLive (.ingFormat 1, 5) (by simp) (by decide +kernel)).2.1 (by decide +kernel)
    (Or.inr ⟨by decide, by decide +kernel⟩)⟩

theorem wit_lop_bounds : Obligations.LongOperationCommandsComplete →
    ∃ t, exec (.lopCopy 1) (tLop.setFld STW.LOP_DST_ADDR (2 ^ 40) 0 1) = .next t :=
  fun h => ⟨_, (h.1 1 (tLop.setFld STW.LOP_DST_ADDR (2 ^ 40) 0 1) (.lopCopy 1, 1) (by simp) (by decide +kernel)).2.2 (by decide +kernel)⟩

/-- Slot 1 running an operation. -/
def tLopOf (op : Nat) : LopSt := { op := op, src := (0, 0), dst := (1, 4096), len := 64 }

def tLopRun (op : Nat) : State := setLop State.reset 1 (some (tLopOf op))

theorem wit_lop_abort : Obligations.LongOperationCommandsComplete → ∃ t, exec (.lopAbort 1) (tLopRun 1) = .next t :=
  fun h => ⟨_, (h.2 1 (tLopRun 1) (tLopOf 1) (by decide +kernel)).1⟩

theorem wit_lop_copy : Obligations.LongOperationCommandsComplete → ∃ t, exec (.lopStep 1 [] 0) (tLopRun 1) = .next t :=
  fun h => ⟨_, (((h.2 1 (tLopRun 1) (tLopOf 1) (by decide +kernel)).2 [] 0 (by decide +kernel)).2 (by decide +kernel)).1 (by decide)⟩

theorem wit_lop_rcopy : Obligations.LongOperationCommandsComplete → ∃ t, exec (.lopStep 1 [] 0) (tLopRun 2) = .next t :=
  fun h => ⟨_, (((h.2 1 (tLopRun 2) (tLopOf 2) (by decide +kernel)).2 [] 0 (by decide +kernel)).2 (by decide +kernel)).2.1 (by decide)⟩

theorem wit_lop_scrub : Obligations.LongOperationCommandsComplete → ∃ t, exec (.lopStep 1 [] 3) (tLopRun 3) = .next t :=
  fun h => ⟨_, (((h.2 1 (tLopRun 3) (tLopOf 3) (by decide +kernel)).2 [] 3 (by decide +kernel)).2 (by decide +kernel)).2.2.1 (Or.inl (by decide))⟩

theorem wit_lop_format_step : Obligations.LongOperationCommandsComplete → ∃ t, exec (.lopStep 1 [] 0) (tLopRun 5) = .next t :=
  fun h => ⟨_, (((h.2 1 (tLopRun 5) (tLopOf 5) (by decide +kernel)).2 [] 0 (by decide +kernel)).2 (by decide +kernel)).2.2.2 (by decide)⟩

/-- Slot 1's operation waiting for an HBM access that the slot tables will serve. -/
def tLopWait : State :=
  let s := tLopRun 3
  { s.setFld PWR.FRM_STATE_LOCKED 1 with acc := { s.acc with hq := [{ part := 6, write := true, addr := 4096, len := 64, tile := false, arr := 0, slot := 1, parts := [] }] } }

theorem wit_lop_waits : Obligations.LongOperationCommandsComplete → ∃ t, exec (.lopStep 1 [] 0) tLopWait = .next t :=
  fun h => ⟨_, ((h.2 1 tLopWait (tLopOf 3) (by decide +kernel)).2 [] 0 (by decide +kernel)).1 (by decide +kernel)⟩

/-- The drain at a state. -/
def tDrain (n : Nat) : State := setDrain State.reset n

theorem wit_drain : Obligations.DrainCommandsComplete → ∃ t, exec .drainReq State.reset = .next t :=
  fun h => ⟨_, (h.1 State.reset (by decide +kernel)).1 (by decide +kernel)⟩

theorem wit_drain_cancel : Obligations.DrainCommandsComplete → exec .drainCancel (tDrain 1) = .next (setDrain (tDrain 1) 0) :=
  fun h => (h.1 (tDrain 1) (by decide +kernel)).2.1 (by decide +kernel)

theorem wit_drain_go : Obligations.DrainCommandsComplete → ∃ t, exec .drainGo (tDrain 1) = .next t :=
  fun h => ⟨_, (h.1 (tDrain 1) (by decide +kernel)).2.2.1 (by decide +kernel)⟩

theorem wit_drain_safe : Obligations.DrainCommandsComplete → ∃ t, exec .drainSafe (tDrain 2) = .next t :=
  fun h => ⟨_, (h.1 (tDrain 2) (by decide +kernel)).2.2.2.1 (by decide +kernel) (by decide +kernel)⟩

theorem wit_drain_limit : Obligations.DrainCommandsComplete → ∃ t, exec .drainLimitExpire (tDrain 2) = .next t :=
  fun h => ⟨_, (h.1 (tDrain 2) (by decide +kernel)).2.2.2.2 (by decide +kernel)⟩

theorem wit_renotify : Obligations.DrainCommandsComplete → ∃ t, exec .drainRenotify (tDrain 1) = .next t :=
  fun h => ⟨_, h.2.1 (tDrain 1) (by decide +kernel)⟩

/-- A device at work with the drain at a state. -/
def tReady (n : Nat) : State := (tDrain n).setFld STW.BOOT_STATE_READY 1

theorem wit_press_safe : Obligations.DrainCommandsComplete → ∃ t, exec .attnPress (tReady 3) = .next t :=
  fun h => ⟨_, (h.2.2.1 (tReady 3) (by decide +kernel)).1 (by decide +kernel)⟩

theorem wit_press_idle : Obligations.DrainCommandsComplete → ∃ t, exec .attnPress (tReady 0) = .next t :=
  fun h => ⟨_, (h.2.2.1 (tReady 0) (by decide +kernel)).2.1 (by decide +kernel) (by decide +kernel)⟩

theorem wit_press_asked : Obligations.DrainCommandsComplete → ∃ t, exec .attnPress (tReady 1) = .next t :=
  fun h => ⟨_, (h.2.2.1 (tReady 1) (by decide +kernel)).2.2.1 (by decide +kernel) (by decide +kernel)⟩

theorem wit_press_quiescing : Obligations.DrainCommandsComplete → ∃ t, exec .attnPress (tReady 2) = .next t :=
  fun h => ⟨_, (h.2.2.1 (tReady 2) (by decide +kernel)).2.2.2 (by decide +kernel) (by decide +kernel)⟩

theorem wit_long_press : Obligations.DrainCommandsComplete → ∃ t, exec .attnLongPress (tReady 1) = .next t :=
  fun h => ⟨_, h.2.2.2 (tReady 1) (by decide +kernel) (by decide +kernel) (by decide +kernel)⟩

theorem wit_write : Obligations.RegisterWindowCommandsComplete → ∃ t, exec (.registerWrite 0x304 1 true {}) State.reset = .next t :=
  fun h => ⟨_, (h.1 0x304 1 {} State.reset).1⟩

theorem wit_rout_write : Obligations.RegisterWindowCommandsComplete → ∃ t, exec (.routTableWrite 0x0992000 1 false) State.reset = .next t :=
  fun h => ⟨_, (h.2.1 0x0992000 1 State.reset 0 (by decide +kernel)).1⟩

/-- A `REG_RD` or `REG_WR` of `SVC_LAMP` from the host adapter of entry 3. -/
def tRegMsg (k : Nat) : Packet :=
  { tc := 2, mkind := k, dest := 0, src := 3, shost := true, body := [4, 3, 0, 0, 0, 0, 0, 0] ++ zeros 8 }

/-- A host table with entry 3 valid and admitted. -/
def tHosts : State := State.reset.setReg ROUT.HOSTS (2 ^ 17 + 2 ^ 18 + 5) 0 3

theorem wit_reg_rd : Obligations.RegisterWindowCommandsComplete → ∃ t, exec .regRd (tMsg (tRegMsg 6) tHosts) = .next t :=
  fun h => ⟨_, (h.2.2.1 (tMsg (tRegMsg 6) tHosts) _ _ _ (by decide +kernel) rfl).1 (by decide +kernel) (by decide +kernel)
    (by decide +kernel) (by decide +kernel)⟩

theorem wit_reg_rd_refused : Obligations.RegisterWindowCommandsComplete → ∃ t, exec .regRd (tMsg (tRegMsg 6)) = .next t :=
  fun h => ⟨_, (h.2.2.1 (tMsg (tRegMsg 6)) _ _ _ (by decide +kernel) rfl).2 (Or.inr (Or.inl (by decide +kernel)))⟩

theorem wit_reg_wr : Obligations.RegisterWindowCommandsComplete → ∃ t, exec (.regWr {}) (tMsg (tRegMsg 7) tHosts) = .next t :=
  fun h => ⟨_, (h.2.2.2.1 {} (tMsg (tRegMsg 7) tHosts) _ _ _ (by decide +kernel) rfl).1 (by decide +kernel) (by decide +kernel)
    (by decide +kernel) (by decide +kernel)⟩

theorem wit_reg_wr_refused : Obligations.RegisterWindowCommandsComplete → ∃ t, exec (.regWr {}) (tMsg (tRegMsg 7)) = .next t :=
  fun h => ⟨_, (h.2.2.2.1 {} (tMsg (tRegMsg 7)) _ _ _ (by decide +kernel) rfl).2 (Or.inr (Or.inl (by decide +kernel)))⟩

theorem wit_sb_read : Obligations.RegisterWindowCommandsComplete → ∃ t, exec (.sidebandRead32 0x3FFFFFF) State.reset = .next t :=
  fun h => ⟨_, ((h.2.2.2.2.1 0x3FFFFFF State.reset).1 (by decide)).1⟩

theorem wit_sb_read_bad : Obligations.RegisterWindowCommandsComplete → ∃ t, exec (.sidebandRead64 0x4000000) State.reset = .next t :=
  fun h => ⟨_, ((h.2.2.2.2.1 0x4000000 State.reset).2 (by decide)).2⟩

/-- A sideband that may only read. -/
def tRo : State := State.reset.setFld STW.SB_POLICY_RO 1

theorem wit_sb_write : Obligations.RegisterWindowCommandsComplete → ∃ t, exec (.sidebandWrite32 0x420 1 {}) tRo = .next t :=
  fun h => ⟨_, ((h.2.2.2.2.2 0x420 1 0 {} tRo).1 (by decide) (Or.inr (by decide +kernel))).1⟩

theorem wit_sb_write_ro : Obligations.RegisterWindowCommandsComplete → ∃ t, exec (.sidebandWrite32 0x424 1 {}) tRo = .next t :=
  fun h => ⟨_, ((h.2.2.2.2.2 0x424 1 0 {} tRo).2.1 (by decide) (by decide +kernel) (by decide +kernel)).1⟩

theorem wit_sb_write_bad : Obligations.RegisterWindowCommandsComplete → ∃ t, exec (.sidebandWrite64 0x4000000 1 {}) State.reset = .next t :=
  fun h => ⟨_, ((h.2.2.2.2.2 0x4000000 0 1 {} State.reset).2.2 (by decide)).2⟩

theorem wit_ro_open : Obligations.SidebandReadOnly → ∃ t, exec (.sidebandWrite64 0x308 1 {}) tRo = .next t :=
  fun h => ⟨_, ((h 0x308 0 1 {} tRo (by decide) (by decide +kernel)).1 (by decide)).2⟩

theorem wit_ro_shut : Obligations.SidebandReadOnly → ∃ t, exec (.sidebandWrite32 0x30C 0 {}) tRo = .next t :=
  fun h => ⟨_, ((h 0x30C 0 1 {} tRo (by decide) (by decide +kernel)).2 (by decide) (by decide) (by decide)).1⟩

/-! ## Witnesses: injections, quench, register rules, faults, signals, links, the journal and formats -/

/-- A state with injections enabled. -/
def tInj : State := State.reset.setFld STW.INJ_EN_EN 1

theorem wit_inj_core : Obligations.InjectionArms → ∃ t, exec (.sprInjPatUe 3) tInj = .next t :=
  fun h => ⟨_, (h.1 3 tInj (.sprInjPatUe 3, .spr, SPR.INJ_PAT_UE, 3) (by simp)).1 (by decide +kernel) (by decide +kernel) (by decide +kernel)⟩

theorem wit_inj_off : Obligations.InjectionArms → exec (.mldInjAccOvf 0) State.reset = .next State.reset :=
  fun h => (h.1 0 State.reset (.mldInjAccOvf 0, .mld, MLD.INJ_ACC_OVF, 0) (by simp)).2 (by decide +kernel)

theorem wit_inj_one : Obligations.InjectionArms → ∃ t, exec .truInjRng tInj = .next t :=
  fun h => ⟨_, (h.2.1 tInj (.truInjRng, .tru, TRU.INJ_RNG, 0) (by simp)).1 (by decide +kernel) (by decide +kernel) (by decide +kernel)⟩

theorem wit_inj_die : Obligations.InjectionArms → ∃ t, exec (.tunInjUe 1) tInj = .next t :=
  fun h => ⟨_, (h.2.2.1 1 tInj (.tunInjUe 1, .tun, TUN.INJ_UE, 1) (by simp)).1 (by decide +kernel) (by decide +kernel) (by decide +kernel)⟩

theorem wit_inj_stack : Obligations.InjectionArms → ∃ t, exec (.hbmInjHot 11) tInj = .next t :=
  fun h => ⟨_, (h.2.2.2.1 11 tInj (.hbmInjHot 11, .hbm, HBM.INJ_HOT, 11) (by simp)).1 (by decide +kernel) (by decide +kernel)
    (by decide +kernel)⟩

theorem wit_inj_port : Obligations.InjectionArms → ∃ t, exec (.avlInjLaneBad 23) tInj = .next t :=
  fun h => ⟨_, (h.2.2.2.2.1 23 tInj (.avlInjLaneBad 23, .avl, AVL.INJ_LANE_BAD, 23) (by simp)).1 (by decide +kernel) (by decide +kernel)
    (by decide +kernel)⟩

theorem wit_inj_header : Obligations.InjectionArms → ∃ t, exec (.hdrParityInj 0x0990000) tInj = .next t :=
  fun h => ⟨_, (h.2.2.2.2.2 0x0990000 tInj .rout 0 0 (by decide +kernel)).1 (by decide +kernel) (by decide +kernel)⟩

/-- A `QUENCH_EXIT` for a device quenched with count 0 and nonce 0, signed by the vendor key above. -/
def tExit0 : Packet := { tc := 0, mkind := 0x18, dest := 0, body := zeros 24 }

def tExit : Packet := { tExit0 with body := zeros 24 ++ tSig (exitSigned tExit0) }

/-- The quenched device that receives it, whose vendor key is that key. -/
def tExitS (m : Packet) : State := modTru (tMsg m tQ) (fun t => { t with vendor := tKey })

/-- That device with the message taken. -/
def tExitT : State := ((takeKind (tExitS tExit) 0x18).map (fun x => x.2.2)).getD State.reset

theorem tExit_taken : takeKind (tExitS tExit) 0x18 = some (24, tExit, tExitT) := rfl

theorem wit_exit : Obligations.QuenchExitIsVerified → ∃ t, exec (.quenchExit {}) (tExitS tExit) = .next t := by
  intro h
  have b1 : ∀ i k, i + k ≤ 24 → slice tExit.body i k = slice (zeros 24) i k := fun i k hi =>
    slice_left _ _ _ _ (by rw [zeros_length]; exact hi)
  have b2 : slice tExit.body 24 512 = tSig (exitSigned tExit0) := slice_right _ _ _ _ (zeros_length _) (tSig_length _)
  have b3 : exitSigned tExit = exitSigned tExit0 := by
    have w : tExit.word = tExit0.word := rfl
    simp only [exitSigned, b1 0 24 (by decide), w]
    rfl
  have k : ownerOrVendor tExitT = tKey := rfl
  have v : sigOk tExitT (ownerOrVendor tExitT) (exitSigned tExit) (slice tExit.body 24 512) = (true, tExitT) := by
    rw [k, b2, b3]
    exact tSigOk _ _ (by decide +kernel)
  refine ⟨_, (h.1 {} (tExitS tExit) tExitT tExitT 24 tExit true tExit_taken v).1 rfl (by decide +kernel) ?_ ?_ ?_⟩
  · rw [fieldAt, b1 0 8 (by decide)]; decide +kernel
  · rw [fieldAt, b1 8 8 (by decide)]; decide +kernel
  · rw [fieldAt, b1 16 8 (by decide)]; decide +kernel

/-- A state that is not quenched and receives an exit. -/
def tExitNot : State := tMsg tExit0

theorem wit_exit_refused : Obligations.QuenchExitIsVerified → ∃ t, exec (.quenchExit {}) tExitNot = .next t :=
  fun h => ⟨_, (h.1 {} tExitNot _ _ _ _ _ rfl rfl).2 (Or.inr (Or.inl (by decide +kernel)))⟩

theorem wit_nonce_drawn : Obligations.QuenchExitIsVerified →
    (quench State.reset ⟨1, 0, 0, 0⟩ []).reg STW.Q_NONCE = (Config.freeValue State.reset.freeCtr).toNat :=
  fun h => h.2 State.reset ⟨1, 0, 0, 0⟩ [] wit_reset_sound (by decide +kernel)

/-- Where `FRAME_COUNT`'s low half lies. -/
def tWide : RegLoc := { reg := PWR.FRAME_COUNT, inst := 0, idx := 0, high := false }

theorem wit_halves : Obligations.HalvesReadOneValue → (read64 State.reset (PWR.FRAME_COUNT.addr 0 0)).1 = viewReg State.reset tWide :=
  fun h => (h State.reset (PWR.FRAME_COUNT.addr 0 0) tWide (by decide +kernel) (by decide +kernel) (by decide +kernel) (by decide +kernel)
    (by decide +kernel) (by decide +kernel) (by decide +kernel)).1

/-- A fuse-backed register and a writable one. -/
def tFuseLoc : RegLoc := { reg := TRU.CERT_WIN, inst := 0, idx := 319, high := false }
def tRwLoc : RegLoc := { reg := STW.SCRUB_CTRL, inst := 0, idx := 0, high := false }

theorem wit_code_fuse : Obligations.AccessCodesHold → plainWrite State.reset tFuseLoc 5 7 = State.reset :=
  fun h => (h State.reset tFuseLoc 5 7 wit_reset_sound (by decide +kernel) (by decide +kernel)).1 (by decide +kernel)

theorem wit_code_rw : Obligations.AccessCodesHold →
    ({ plainWrite State.reset tRwLoc 5 7 with regs := State.reset.regs } : State) = State.reset :=
  fun h => ((h State.reset tRwLoc 5 7 wit_reset_sound (by decide +kernel) (by decide +kernel)).2 (by decide +kernel)).2.2

theorem wit_offset : Obligations.RegistersLieAtTheirOffsets →
    regAt (AVL.PEER.addr 23 0) = some { reg := AVL.PEER, inst := 23, idx := 0, high := false } :=
  fun h => (h .avl (by decide +kernel) 23 (by decide +kernel) AVL.PEER (by decide +kernel) 0 (by decide +kernel)).1

theorem wit_record : Obligations.FaultIsRecorded → (raise .avl 23 9 State.reset).reg (HDR.FLT_STATUS .avl) 23 =
    State.reset.reg (HDR.FLT_STATUS .avl) 23 ||| 2 ^ 9 :=
  fun h => (h State.reset .avl 23 9 wit_reset_sound (by decide +kernel) (by decide +kernel) (by decide +kernel)).1

theorem wit_clear : Obligations.FaultClearsComplete → ∃ t, exec (.fltStatusClear 0x0990010 1) State.reset = .next t :=
  fun h => ⟨_, (h 0x0990010 1 State.reset .rout 0 0x10 (by decide +kernel)).1 (by decide)⟩

theorem wit_clear_high : Obligations.FaultClearsComplete → ∃ t, exec (.fltStatusClear 0x0990014 1) State.reset = .next t :=
  fun h => ⟨_, (h 0x0990014 1 State.reset .rout 0 0x14 (by decide +kernel)).2.1 (by decide)⟩

theorem wit_clear_first : Obligations.FaultClearsComplete → ∃ t, exec (.fltFirstClear 0x0990030) State.reset = .next t :=
  fun h => ⟨_, (h 0x0990030 1 State.reset .rout 0 0x30 (by decide +kernel)).2.2 (by decide)⟩

theorem wit_first : Obligations.FirstCauseWins → firstCause ⟨3, 1, 0, 2⟩ [⟨1, 9, 0, 2⟩] ∈ [(⟨3, 1, 0, 2⟩ : QCause), ⟨1, 9, 0, 2⟩] :=
  fun h => (h ⟨3, 1, 0, 2⟩ [⟨1, 9, 0, 2⟩]).1

theorem wit_quench_later : Obligations.QuenchStopsTheDevice → quench tQ ⟨1, 0, 0, 0⟩ [] = tQ.bump STW.Q_LATER 1 :=
  fun h => (h tQ ⟨1, 0, 0, 0⟩ [] (by refine ⟨rfl, rfl, rfl, ?_, rfl, rfl, rfl, by decide⟩; decide +kernel)).1 (by decide +kernel)

theorem wit_quench_stops : Obligations.QuenchStopsTheDevice → (quench State.reset ⟨1, 0, 0, 0⟩ []).quenched = true :=
  fun h => ((h State.reset ⟨1, 0, 0, 0⟩ [] wit_reset_sound).2 (by decide +kernel) rfl).1

/-- Counter 5 of core 1 at its highest value. -/
def tFull : State := State.reset.modSpr 1 (fun p => { p with tokens := sset 0 p.tokens 5 0xFFFF })

theorem wit_signal_full : Obligations.SignalsCount → signalToken tFull 1 5 tFull.ck = raise .spr 1 7 tFull :=
  fun h => (h tFull 1 5 (by decide) (by decide +kernel) (by decide +kernel)).1 (by decide +kernel)

theorem wit_signal : Obligations.SignalsCount → (signalToken tFull 1 4095 tFull.ck).token 1 5 = tFull.token 1 5 :=
  fun h => ((h tFull 1 4095 (by decide) (by decide +kernel) (by decide +kernel)).2 (by decide +kernel)).1 5

theorem wit_flit_next : Obligations.ReceiverActsByDistance → ∃ t, takeSeq State.reset 23 { seq := 0 } = t :=
  fun h => ⟨_, (h State.reset 23 { seq := 0 } 1 (by decide) (by decide +kernel) (by decide +kernel)).1 (by decide +kernel) (by decide +kernel)⟩

theorem wit_flit_ahead : Obligations.ReceiverActsByDistance → takeSeq State.reset 23 { seq := 4095 } = askNak State.reset 23 :=
  fun h => (h State.reset 23 { seq := 4095 } 4095 (by decide) (by decide +kernel) (by decide +kernel)).2.1 (by decide) (by decide)
    (by decide +kernel)

theorem wit_flit_behind : Obligations.ReceiverActsByDistance → takeSeq State.reset 23 { seq := 2 ^ 24 - 4096 } = State.reset :=
  fun h => (h State.reset 23 { seq := 2 ^ 24 - 4096 } 4096 (by decide) (by decide +kernel) (by decide +kernel)).2.2.1 (by decide) (by decide)
    (by decide +kernel)

theorem wit_flit_far : Obligations.ReceiverActsByDistance →
    takeSeq State.reset 23 { seq := 4096 } = startRetrain (State.reset.bump AVL.PROTO_ERR 1 23) 23 :=
  fun h => (h State.reset 23 { seq := 4096 } 4096 (by decide) (by decide +kernel) (by decide +kernel)).2.2.2 (by decide) (by decide)
    (by decide +kernel)

/-- A tail of eight pages. -/
def tRoom : State := State.reset.setReg ING.JNL_TAIL_MAX 8

theorem wit_append : Obligations.JournalAppends →
    (jnlAppend tRoom 3 [1]).reg ING.JNL_SEQ = (tRoom.reg ING.JNL_SEQ + 1) % 2 ^ 64 :=
  fun h => ((h tRoom 3 [1] 0 0 (by refine ⟨rfl, rfl, rfl, ?_, rfl, rfl, rfl, by decide⟩; decide +kernel)).1 (by decide +kernel)).2.1

/-- A tail with no room, during start-up or after it. -/
def tTail (step : Nat) : State :=
  let s := (State.reset.setReg ING.JNL_TAIL_MAX 0).setFld STW.BOOT_STATE_STEP step
  { s with jnl := { s.jnl with tail := List.replicate 256 tRec } }

theorem wit_append_drop : Obligations.JournalAppends → jnlAppend (tTail 2) 3 [1] = (tTail 2).bump ING.JNL_DISCARDED :=
  fun h => (h (tTail 2) 3 [1] 0 0 (by refine ⟨rfl, rfl, rfl, ?_, rfl, rfl, rfl, by decide⟩; decide +kernel)).2.1 (by decide +kernel)
    (by decide +kernel)

theorem wit_append_wait : Obligations.JournalAppends → (jnlAppend (tTail 0) 3 [1]).flag ING.JNL_STATE_TAIL_FULL = true :=
  fun h => ((h (tTail 0) 3 [1] 0 0 (by refine ⟨rfl, rfl, rfl, ?_, rfl, rfl, rfl, by decide⟩; decide +kernel)).2.2.1 (by decide +kernel)
    (by decide +kernel)).2

theorem wit_format : Obligations.SmallFormatsRoundTrip → (convFloat .e4m3 .rne (decodeFloat .e4m3 0x7E)).1 = 0x7E :=
  fun h => (h .e4m3 (by decide) 0x7E (by decide) (by decide +kernel) .rne (by intro r hr; cases hr)).1

/-! ## The spec's worked examples (the file and line of each is in its comment) -/

/-- A BF16 operand. -/
def tBf (b : Nat) : Operand := { fmt := .bf16, fine := 127, bits := b }

/-- spec/02, R54, first example: 31 products below the LSB weight contribute nothing to 1.0. -/
theorem test_group_truncates : (accAdd .fp32 .rne 0 (groupSum 1 ((tBf 0x3F80, tBf 0x3F80) ::
    List.replicate 31 (tBf 0x2FC0, tBf 0x3000)))).1 = 0x3F800000 := by decide +kernel

/-- spec/02, R54, second example: negative products truncated toward zero, and cancellation. -/
theorem test_group_cancels : (accAdd .fp32 .rne 0 (groupSum 1 [(tBf 0x3FC0, tBf 0x4000), (tBf 0xBFBF, tBf 0x4000),
    (tBf 0x2BA0, tBf 0x3540), (tBf 0xAB90, tBf 0x3500)])).1 = 0x3C800000 := by decide +kernel

/-- spec/02, R55, third example: an E4M3 group, a tie under RNE and stochastic rounding. -/
def tTie (m : Rnd) : Nat := (accAdd .fp32 m 0x4B800000 (groupSum 1 [
  ({ fmt := .e4m3, fine := 0x82, bits := 0x3E }, { fmt := .e4m3, fine := 0x7F, bits := 0x3A }),
  ({ fmt := .e4m3, fine := 0x82, bits := 0xB8 }, { fmt := .e4m3, fine := 0x7F, bits := 0x18 })])).1

theorem test_group_tie : tTie .rne = 0x4B800008 ∧ tTie (.sr 0x80000000) = 0x4B800009 ∧ tTie (.sr 0x7FFFFFFF) = 0x4B800008 := by
  decide +kernel

/-- spec/04, R101, the example of one blend entry: 2,752.0, 2^-21 × 2,048 and 0.0. -/
theorem test_blend_entries : (blendEntry (decodeFloat .fp32 0x452C0000) 2048 24 0 30720 false 20971520).1 = 21069824 ∧
    (blendEntry (decodeFloat .fp32 0x3A800000) 2048 24 0 30720 false (-5)).1 = -4 ∧
    (blendEntry (decodeFloat .fp32 0) 2048 24 0 30720 false 0).1 = 0 := by decide +kernel

/-- The value of an FP32 code. -/
def tF (b : Nat) : Val := decodeFloat .fp32 b

/-- spec/06, R156, the example of a masked SUM: leaf 4 is masked, leaves 6 and 7 pad. -/
theorem test_masked_sum : convFloat .fp32 .rne (reduceSet 0 .fp32 [some (tF 0x3F800000, 0), some (tF 0x33800000, 1),
    some (tF 0x33800000, 2), some (tF 0, 3), none, some (tF 0x80000000, 5), none, none]).1.1 = (0x3F800000, {}) := by decide +kernel

/-- spec/13, R327, the example of a chain and a tree, element 0. -/
theorem test_tree : (convFloat .fp32 .rne (reduceSet 0 .fp32 [some (tF 0x3F800000, 0), some (tF 0x33800000, 1),
    some (tF 0x33800000, 2), some (tF 0x33800000, 3)]).1.1).1 = 0x3F800001 := by decide +kernel

/-- A torus of 8 by 8 by 16 by 16 flasks. -/
def tTorus : State :=
  (((State.reset.setFld ROUT.DIMS_D0 8).setFld ROUT.DIMS_D1 8).setFld ROUT.DIMS_D2 16).setFld ROUT.DIMS_D3 16

/-- The hops of a route. -/
def tHops (s : State) : Nat → Nat → Nat → Nat
  | 0, _, _ => 0
  | n + 1, cur, dest =>
    match nextHop s cur dest with
    | none => 0
    | some h => 1 + tHops s n (hopTo s cur h) dest

/-- spec/13, R317, the example of a longest route: 26 hops. -/
theorem test_longest_route : tHops tTorus 40 2 69924 = 26 := by decide +kernel

/-- Sixteen channels of four targets of two LUNs and four planes, whose tPROG is 700 µs. -/
def tFlash64 : State :=
  (List.range 16).foldl (fun s ch =>
    (List.range 4).foldl (fun s t =>
      ((s.setFld INGCH.TGT_GEOM_LUNS 2 ch t).setFld INGCH.TGT_GEOM_PLANES 4 ch t).setFld INGCH.TGT_GEOM_TPROG 700 ch t)
      ((s.setFld INGCH.CH_STATE_STATE 1 ch).setFld INGCH.CH_STATE_TGT_PRESENT 15 ch)) State.reset

/-- spec/15, R372, the example of the tail limit: 2,560 pages. -/
theorem test_tail_limit : (setTailMax tFlash64).reg ING.JNL_TAIL_MAX = 2560 := by decide +kernel

/-- The factory value of item 16 is 720 mV and its offset −80 mV. -/
def tClamp : State := modCal State.reset (fun c => { c with factory := [(16, 720)], target := offPut c.target 16 (some (-80)) })

/-- spec/19, R443, the example of a clamp. -/
theorem test_clamp : calValue tClamp 16 (offGet tClamp.cal.target 16) = 650 ∧ calClamped tClamp 16 = true := by decide +kernel

/-- spec/10, R254, the example of one tile read: slot 9 is the first of core 1's read entries after slot 5, then slot 33. -/
theorem test_slots : (List.range 40).filter (fun j => slotOwner State.reset j == some 1 && slotEntry State.reset 1 j % 2 == 1) =
    [1, 5, 9, 33, 37] := by decide +kernel

/-- spec/10, R252, the same example: the pseudo-channels of tile 1,000,003 and its sidecar's address. -/
theorem test_tile_place : hbmStack (1000003 * 16384) = 7 ∧ hbmSideAddr (State.reset.setReg HBM.TILEWIN 46875000) 1000003 = 770048006144 := by
  decide +kernel

/-- spec/17, R410, the example of a cap of 2,800 W: frames of 500 µs that take 1,550 mJ or 450 mJ. -/
theorem test_cap : (let s := State.reset.setFld PWR.PCAP_CAP_W 2800
    let d := fun (x e : Nat) => debtAfter (s.setReg PWR.PCAP_DEBT x) e (500 * s.ckPerUs)
    [d 0 1550, d 150 1550, d 450 1550, d 600 450]) = [150, 300, 600, 0] := by decide +kernel

/-! ## Ill-formed operands are refused -/

theorem test_wf_default : Instr.wf (.coldReset {}) = true := by decide
theorem test_wf_rates : Instr.wf (.coldReset { rates := [3600] }) = false := by decide
theorem test_wf_rate : Instr.wf (.coldReset { rates := List.replicate 16 3601 }) = false := by decide
theorem test_wf_targets : Instr.wf (.coldReset { targets := List.replicate 16 (16, 0) }) = false := by decide
theorem test_wf_target_list : Instr.wf (.coldReset { targets := [] }) = false := by decide
theorem test_wf_repairs : Instr.wf (.coldReset { laneRepairs := [] }) = false := by decide
theorem test_wf_repair : Instr.wf (.coldReset { laneRepairs := List.replicate 12 (0, 65536) }) = false := by decide
theorem test_wf_steps : Instr.wf (.coldReset { ms := [] }) = false := by decide
theorem test_wf_modules : Instr.wf (.coldReset { badModules := [16] }) = false := by decide
theorem test_wf_stacks : Instr.wf (.coldReset { lostStacks := [(12, 1, 0)] }) = false := by decide
theorem test_wf_cables : Instr.wf (.coldReset { cables := 2 ^ 24 }) = false := by decide
theorem test_wf_linked : Instr.wf (.coldReset { linked := 2 ^ 24 }) = false := by decide
theorem test_wf_straps : Instr.wf (.coldReset { straps := 8 }) = false := by decide
theorem test_wf_peers : Instr.wf (.coldReset { peers := [(0, 2 ^ 23)] }) = false := by decide
theorem test_wf_recovery : Instr.wf (.coldReset { recovery := some (24, 0, []) }) = false := by decide
theorem test_wf_cause : Instr.wf (.quenchEntry ⟨0, 0, 0, 0⟩ []) = false := by decide
theorem test_wf_cause_high : Instr.wf (.quenchEntry ⟨7, 0, 0, 0⟩ []) = false := by decide
theorem test_wf_source : Instr.wf (.quenchEntry ⟨1, 0, 0, 64⟩ []) = false := by decide
theorem test_wf_later_cause : Instr.wf (.quenchEntry ⟨1, 0, 0, 0⟩ [⟨7, 0, 0, 0⟩]) = false := by decide
theorem test_wf_promotion : Instr.wf (.promoteCopyDone { asy := [192] }) = false := by decide
theorem test_wf_promotion_words : Instr.wf (.promoteCopyDone { cru := [6291456] }) = false ∧
    Instr.wf (.promoteCopyDone { ids := [4096] }) = false ∧ Instr.wf (.promoteCopyDone { cache := [4194304] }) = false ∧
    Instr.wf (.promoteCopyDone { pat := [16384] }) = false := by decide
theorem test_wf_window : Instr.wf (.laneWindow 0 [1, 2, 3, 4] 0) = false := by decide

end

end Sys2Proof
end

section
/-!
SUPPORT. Bits of natural numbers, sparse maps and the register file: what a read returns after a write, and what a masked write
leaves of a register.
-/
namespace Sys2Proof.Machine

open Sys2Proof

/-! ## Bits -/

/-- The model's `bit` is the library's `Nat.testBit`. -/
theorem bit_eq_testBit (n k : Nat) : bit n k = n.testBit k := by
  rw [Nat.testBit_eq_decide_div_mod_eq, bit, Nat.shiftRight_eq_div_pow]; rfl

/-- Numbers without a common bit add without a carry. -/
theorem add_eq_or_of_and_eq_zero : ∀ a b : Nat, a &&& b = 0 → a + b = a ||| b := by
  intro a
  induction a using Nat.strongRecOn with
  | ind a ih =>
    intro b h
    rcases Nat.eq_zero_or_pos a with rfl | ha
    · simp
    have hhalf : a / 2 + b / 2 = a / 2 ||| b / 2 := ih (a / 2) (by omega) (b / 2) (by rw [← Nat.and_div_two, h])
    have hdiv : (a ||| b) / 2 = a / 2 ||| b / 2 := Nat.or_div_two
    have hor := Nat.or_mod_two_eq_one (a := a) (b := b)
    have hand := Nat.and_mod_two_eq_one (a := a) (b := b)
    omega

/-- Subtracting the bits that `a` has in `m` clears them. -/
theorem testBit_sub_and (a m k : Nat) : (a - (a &&& m)).testBit k = (a.testBit k && !m.testBit k) := by
  have hsplit : (a ^^^ (a &&& m)) + (a &&& m) = a := by
    rw [add_eq_or_of_and_eq_zero] <;> refine Nat.eq_of_testBit_eq fun i => ?_ <;> cases h : a.testBit i <;> simp [h]
  have hsub : a - (a &&& m) = a ^^^ (a &&& m) := by omega
  cases h : a.testBit k <;> simp [hsub, h]

theorem testBit_mergeBits (old x m k : Nat) :
    (mergeBits old x m).testBit k = if m.testBit k then x.testBit k else old.testBit k := by
  rw [mergeBits, add_eq_or_of_and_eq_zero, Nat.testBit_or, testBit_sub_and, Nat.testBit_and]
  · cases m.testBit k <;> simp
  · refine Nat.eq_of_testBit_eq fun i => ?_
    rw [Nat.testBit_and, testBit_sub_and, Nat.testBit_and, Nat.zero_testBit]
    cases m.testBit i <;> simp

/-! ## Sparse maps -/

/-- A map whose keys start at `lo` lists no key below it. -/
theorem sget_below {α : Type} [DecidableEq α] (d : α) {m : SMap α} {lo k : Nat} (h : swfFrom d lo m = true) (hk : k < lo) :
    sget d m k = d := by
  cases m with
  | nil => rfl
  | cons e m =>
    obtain ⟨k', v'⟩ := e
    simp only [swfFrom, Bool.and_eq_true, decide_eq_true_eq] at h
    have hlt : k < k' := by omega
    simp [sget, hlt, Nat.ne_of_lt hlt]

theorem sget_sset_from {α : Type} [DecidableEq α] (d : α) (k : Nat) (v : α) (q : Nat) :
    ∀ (m : SMap α) (lo : Nat), swfFrom d lo m = true → sget d (sset d m k v) q = if q = k then v else sget d m q
  | [], _, _ => by
    by_cases hv : v = d <;> by_cases hq : q = k <;> simp [sset, sget, hv, hq]
  | (k', v') :: m, lo, h => by
    simp only [swfFrom, Bool.and_eq_true, decide_eq_true_eq] at h
    obtain ⟨-, htail⟩ := h
    have hbelow : ∀ i, i ≤ k' → sget d m i = d := fun i hi => sget_below d htail (by omega)
    have ih := sget_sset_from d k v q m _ htail
    rcases Nat.lt_trichotomy k k' with hk | rfl | hk <;> grind [sset, sget]

/-- What a canonical map reads after one of its keys is written. -/
theorem sget_sset {α : Type} [DecidableEq α] (d : α) (m : SMap α) (k : Nat) (v : α) (q : Nat) (h : swf d m = true) :
    sget d (sset d m k v) q = if q = k then v else sget d m q := sget_sset_from d k v q m 0 h

/-! ## The register file -/

theorem Reg.width_le (r : Reg) : r.width ≤ 64 := by unfold Reg.width; split <;> omega

theorem State.reg_of_fuse {r : Reg} (h : r.fuse = true) (s : State) (inst i : Nat) :
    s.reg r inst i = (sget 0 s.fuses (r.addr inst i)).toNat := by simp [State.reg, h]

theorem State.reg_of_not_fuse {r : Reg} (h : r.fuse = false) (s : State) (inst i : Nat) :
    s.reg r inst i = (sget 0 s.regs (r.addr inst i) ^^^ BitVec.ofNat 64 (r.resetAt i)).toNat := by simp [State.reg, h]

/-- A register holds what was last stored in it, cut to its width (R10). -/
theorem State.reg_setReg_same {s : State} (hs : s.Sound) {r : Reg} (hr : r.fuse = false) (v inst i : Nat) :
    (s.setReg r v inst i).reg r inst i = v % 2 ^ r.width := by
  have hlt : v % 2 ^ r.width < 2 ^ 64 :=
    (Nat.mod_lt _ (Nat.two_pow_pos _)).trans_le (Nat.pow_le_pow_right (by decide) r.width_le)
  rw [State.reg_of_not_fuse hr, State.setReg, sget_sset _ _ _ _ _ hs.regs, if_pos rfl, BitVec.xor_assoc, BitVec.xor_self,
    BitVec.xor_zero, BitVec.toNat_ofNat, Nat.mod_eq_of_lt hlt]

/-- A register at another offset keeps its value. -/
theorem State.reg_setReg_other {s : State} (hs : s.Sound) {r q : Reg} {inst i inst' i' : Nat} (v : Nat)
    (h : q.addr inst' i' ≠ r.addr inst i) : (s.setReg r v inst i).reg q inst' i' = s.reg q inst' i' := by
  cases hq : q.fuse with
  | true => rw [State.reg_of_fuse hq, State.reg_of_fuse hq, State.setReg_fuses]
  | false => rw [State.reg_of_not_fuse hq, State.reg_of_not_fuse hq, State.setReg, sget_sset _ _ _ _ _ hs.regs, if_neg h]

/-- A store changes nothing beside the registers. -/
theorem State.setReg_frame (s : State) (r : Reg) (v inst i : Nat) :
    ({ s.setReg r v inst i with regs := s.regs } : State) = s := rfl

/-- Settles O7: the three rules of a store in the register file. -/
theorem registerHoldsWhatIsStored : Obligations.RegisterHoldsWhatIsStored := by
  intro s r v inst i hs hr
  exact ⟨State.reg_setReg_same hs hr v inst i, fun _ _ _ h => State.reg_setReg_other hs v h, State.setReg_frame s r v inst i⟩

end Sys2Proof.Machine
end

section
/-!
SUPPORT. The commands and the step: every command keeps the queue, the fuses and the canonical form, and so does every step but for
the command it takes off the queue.
-/
namespace Sys2Proof.Machine

open Sys2Proof

/-- Every command answers a next state that keeps what `Kp` says: one arm per command, as in the dispatch. -/
theorem exec_kp {kb s : State} (h : Kp kb s) : ∀ i : Instr, OKp kb (exec i s)
  | .coldReset e => execColdReset_kp e s h
  | .rstCmd v e => execRstCmd_kp v e s h
  | .inputRecovery e => execInputRecovery_kp e s h
  | .bootStepOvertime step => execBootStepOvertime_kp step s h
  | .regulatorRetry e => execRegulatorRetry_kp e s h
  | .powerFailTrip pin mv => execPowerFailTrip_kp pin mv s h
  | .flushComplete => execFlushComplete_kp s h
  | .inputSample mv ma => execInputSample_kp mv ma s h
  | .railOutOfRegulation d rail => execRailOutOfRegulation_kp d rail s h
  | .sensorRead sensor deci => execSensorRead_kp sensor deci s h
  | .refclkLoss => execRefclkLoss_kp s h
  | .staggerGrant => execStaggerGrant_kp s h
  | .pinCtrlWrite v => execPinCtrlWrite_kp v s h
  | .frameTick energy => execFrameTick_kp energy s h
  | .periodChange => execPeriodChange_kp s h
  | .timingModeChange => execTimingModeChange_kp s h
  | .idleFrame => execIdleFrame_kp s h
  | .frameCheck => execFrameCheck_kp s h
  | .slackExceeded c => execSlackExceeded_kp c s h
  | .replayBudgetExceeded c => execReplayBudgetExceeded_kp c s h
  | .beacon ps => execBeacon_kp ps s h
  | .beaconTimeout => execBeaconTimeout_kp s h
  | .stretch => execStretch_kp s h
  | .grdProfileReqWrite v => execGrdProfileReqWrite_kp v s h
  | .grdBschedLockWrite v => execGrdBschedLockWrite_kp v s h
  | .bridgeWordCorrected d => execBridgeWordCorrected_kp d s h
  | .bridgeWordUncorrectable d => execBridgeWordUncorrectable_kp d s h
  | .bridgeLoss => execBridgeLoss_kp s h
  | .promoteRequest c => execPromoteRequest_kp c s h
  | .promoteCopyDone bad => execPromoteCopyDone_kp bad s h
  | .promoteSwitch => execPromoteSwitch_kp s h
  | .matmul c => execMatmul_kp c s h
  | .rampUp c => execRampUp_kp c s h
  | .rampDown c => execRampDown_kp c s h
  | .mldLoadStart c => execMldLoadStart_kp c s h
  | .mldLoadEnd c => execMldLoadEnd_kp c s h
  | .mldStreamStart c => execMldStreamStart_kp c s h
  | .mldStreamEnd c => execMldStreamEnd_kp c s h
  | .accOverflowMark c => execAccOverflowMark_kp c s h
  | .mldRoundComplete c => execMldRoundComplete_kp c s h
  | .mldDrainStart c => execMldDrainStart_kp c s h
  | .mldDrainEnd c => execMldDrainEnd_kp c s h
  | .mldOperandTileArrive c => execMldOperandTileArrive_kp c s h
  | .mldArrayWarm c => execMldArrayWarm_kp c s h
  | .mldIdleGateExpire c => execMldIdleGateExpire_kp c s h
  | .mldArrayCold c => execMldArrayCold_kp c s h
  | .cov c => execCov_kp c s h
  | .asyExport c => execAsyExport_kp c s h
  | .blend c => execBlend_kp c s h
  | .sqnorm c => execSqnorm_kp c s h
  | .noise c => execNoise_kp c s h
  | .asyNsUpdatesWrite c v => execAsyNsUpdatesWrite_kp c v s h
  | .storePortGrant c => execStorePortGrant_kp c s h
  | .chol c => execChol_kp c s h
  | .ldl c => execLdl_kp c s h
  | .trsm c => execTrsm_kp c s h
  | .inv c => execInv_kp c s h
  | .iroot c => execIroot_kp c s h
  | .root c => execRoot_kp c s h
  | .orth c => execOrth_kp c s h
  | .damp c => execDamp_kp c s h
  | .ema c => execEma_kp c s h
  | .delta c => execDelta_kp c s h
  | .rescale c => execRescale_kp c s h
  | .import c => execImport_kp c s h
  | .cruExport c => execCruExport_kp c s h
  | .define c => execDefine_kp c s h
  | .cruStepStart c => execCruStepStart_kp c s h
  | .cruStepEnd c => execCruStepEnd_kp c s h
  | .cruResume c => execCruResume_kp c s h
  | .cruDeadline c => execCruDeadline_kp c s h
  | .load c => execLoad_kp c s h
  | .store c => execStore_kp c s h
  | .zero c => execZero_kp c s h
  | .elemAdd c => execElemAdd_kp c s h
  | .elemSub c => execElemSub_kp c s h
  | .elemMul c => execElemMul_kp c s h
  | .elemFma c => execElemFma_kp c s h
  | .elemMax c => execElemMax_kp c s h
  | .elemMin c => execElemMin_kp c s h
  | .elemAbs c => execElemAbs_kp c s h
  | .elemNeg c => execElemNeg_kp c s h
  | .elemCvt c => execElemCvt_kp c s h
  | .elemSel c => execElemSel_kp c s h
  | .exp2 c => execExp2_kp c s h
  | .log2 c => execLog2_kp c s h
  | .rcp c => execRcp_kp c s h
  | .rsqrt c => execRsqrt_kp c s h
  | .tanh c => execTanh_kp c s h
  | .erf c => execErf_kp c s h
  | .sincos c => execSincos_kp c s h
  | .reduceSum c => execReduceSum_kp c s h
  | .reduceProd c => execReduceProd_kp c s h
  | .reduceMax c => execReduceMax_kp c s h
  | .reduceMin c => execReduceMin_kp c s h
  | .argmax c => execArgmax_kp c s h
  | .argmin c => execArgmin_kp c s h
  | .maskgen c => execMaskgen_kp c s h
  | .accread c => execAccread_kp c s h
  | .rmsnorm c => execRmsnorm_kp c s h
  | .layernorm c => execLayernorm_kp c s h
  | .opt c => execOpt_kp c s h
  | .run c => execRun_kp c s h
  | .ringTailWrite c v => execRingTailWrite_kp c v s h
  | .descFetch c => execDescFetch_kp c s h
  | .descIssue c => execDescIssue_kp c s h
  | .descRelease c q => execDescRelease_kp c q s h
  | .descComplete c q => execDescComplete_kp c q s h
  | .tokenSignalDeliver c => execTokenSignalDeliver_kp c s h
  | .tokSignal c t => execTokSignal_kp c t s h
  | .tokData c v => execTokData_kp c v s h
  | .predWrite c v => execPredWrite_kp c v s h
  | .nop c => execNop_kp c s h
  | .loop c => execLoop_kp c s h
  | .pset c => execPset_kp c s h
  | .ptest c => execPtest_kp c s h
  | .seed c => execSeed_kp c s h
  | .tokset c => execTokset_kp c s h
  | .patload c => execPatload_kp c s h
  | .patfree c => execPatfree_kp c s h
  | .stop c => execStop_kp c s h
  | .sprCtrlRun c v => execSprCtrlRun_kp c v s h
  | .sprCtrlResume c mode => execSprCtrlResume_kp c mode s h
  | .noProgressTimeout w => execNoProgressTimeout_kp w s h
  | .copy c => execCopy_kp c s h
  | .fill c => execFill_kp c s h
  | .fillAll c => execFillAll_kp c s h
  | .gather c => execGather_kp c s h
  | .scatter c => execScatter_kp c s h
  | .prefetch c => execPrefetch_kp c s h
  | .inval c => execInval_kp c s h
  | .requestComplete c => execRequestComplete_kp c s h
  | .scrubAccess m a e => execScrubAccess_kp m a e s h
  | .spareReq d bank => execSpareReq_kp d bank s h
  | .spareCopyDone d => execSpareCopyDone_kp d s h
  | .spareMapChange d => execSpareMapChange_kp d s h
  | .diagRawWrite d => execDiagRawWrite_kp d s h
  | .diagRawRead d => execDiagRawRead_kp d s h
  | .diagDecodedRead d => execDiagDecodedRead_kp d s h
  | .qapply => execQapply_kp s h
  | .quotaSetApply => execQuotaSetApply_kp s h
  | .hbmParityError k ch again => execHbmParityError_kp k ch again s h
  | .hbmChannelTimeout k ch => execHbmChannelTimeout_kp k ch s h
  | .hbmTempRead k deg => execHbmTempRead_kp k deg s h
  | .hbmTempPortLoss k hot => execHbmTempPortLoss_kp k hot s h
  | .hbmSlotServe j => execHbmSlotServe_kp j s h
  | .slotCtrlApply => execSlotCtrlApply_kp s h
  | .ingotReadComplete c r => execIngotReadComplete_kp c r s h
  | .ingotProgramStart => execIngotProgramStart_kp s h
  | .ingotProgramComplete fails => execIngotProgramComplete_kp fails s h
  | .garbageCollect tg fails => execGarbageCollect_kp tg fails s h
  | .wearLevel tg fails => execWearLevel_kp tg fails s h
  | .retireReq tg => execRetireReq_kp tg s h
  | .targetRetireDone => execTargetRetireDone_kp s h
  | .targetCommandTimeout tg zq => execTargetCommandTimeout_kp tg zq s h
  | .patrolRead area tile r => execPatrolRead_kp area tile r s h
  | .flitReceive p raw uncorr => execFlitReceive_kp p raw uncorr s h
  | .flitTransmit p => execFlitTransmit_kp p s h
  | .linkReplay p e => execLinkReplay_kp p e s h
  | .nakTimeout p => execNakTimeout_kp p s h
  | .ackTimeout p => execAckTimeout_kp p s h
  | .laneWindow p sym corr => execLaneWindow_kp p sym corr s h
  | .laneRequest p => execLaneRequest_kp p s h
  | .laneSwitch p => execLaneSwitch_kp p s h
  | .reEq p => execReEq_kp p s h
  | .presenceAssert p => execPresenceAssert_kp p s h
  | .presenceDeassert p => execPresenceDeassert_kp p s h
  | .trainingComplete p peer rx tx => execTrainingComplete_kp p peer rx tx s h
  | .avlCtrlRetrain p => execAvlCtrlRetrain_kp p s h
  | .shortRetrainComplete p peer rx tx => execShortRetrainComplete_kp p peer rx tx s h
  | .portActivate p => execPortActivate_kp p s h
  | .txWrapsLimit p => execTxWrapsLimit_kp p s h
  | .quenchSetReceive p q => execQuenchSetReceive_kp p q s h
  | .rdReq => execRdReq_kp s h
  | .rdRsp => execRdRsp_kp s h
  | .wr => execWr_kp s h
  | .wrAck => execWrAck_kp s h
  | .errRsp => execErrRsp_kp s h
  | .regRd => execRegRd_kp s h
  | .regWr e => execRegWr_kp e s h
  | .regRsp => execRegRsp_kp s h
  | .token => execToken_kp s h
  | .badMsg => execBadMsg_kp s h
  | .packetRoute => execPacketRoute_kp s h
  | .e2eTimeout => execE2eTimeout_kp s h
  | .routTableWrite a v wide => execRoutTableWrite_kp a v wide s h
  | .collAllReduce c => execCollAllReduce_kp c s h
  | .collReduceScatter c => execCollReduceScatter_kp c s h
  | .collAllGather c => execCollAllGather_kp c s h
  | .collBroadcast c => execCollBroadcast_kp c s h
  | .collReduceToRoot c => execCollReduceToRoot_kp c s h
  | .collFence c => execCollFence_kp c s h
  | .coll => execColl_kp s h
  | .fence => execFence_kp s h
  | .collHoldTimeout => execCollHoldTimeout_kp s h
  | .grpDefine => execGrpDefine_kp s h
  | .grpFree => execGrpFree_kp s h
  | .ncheck c => execNcheck_kp c s h
  | .vote c => execVote_kp c s h
  | .voteBallot => execVoteBallot_kp s h
  | .voteLaneVerdict => execVoteLaneVerdict_kp s h
  | .voteCommitDecision => execVoteCommitDecision_kp s h
  | .voteAbortDecision => execVoteAbortDecision_kp s h
  | .voteCommitNotice => execVoteCommitNotice_kp s h
  | .voteDeadline => execVoteDeadline_kp s h
  | .voteGraceExpire => execVoteGraceExpire_kp s h
  | .seal c => execSeal_kp c s h
  | .sealMessage => execSealMessage_kp s h
  | .sealTimeout => execSealTimeout_kp s h
  | .swCmdRelease => execSwCmdRelease_kp s h
  | .swCmdClearHold => execSwCmdClearHold_kp s h
  | .riser c => execRiser_kp c s h
  | .riserExport => execRiserExport_kp s h
  | .bulk => execBulk_kp s h
  | .riserRetx => execRiserRetx_kp s h
  | .riserWaitTimeout => execRiserWaitTimeout_kp s h
  | .jappend c => execJappend_kp c s h
  | .journalSync => execJournalSync_kp s h
  | .journalPageProgram => execJournalPageProgram_kp s h
  | .snapshotAppend => execSnapshotAppend_kp s h
  | .lifeSave => execLifeSave_kp s h
  | .quenchEntry q qs => execQuenchEntry_kp q qs s h
  | .safeStateReached => execSafeStateReached_kp s h
  | .flashQuiesced => execFlashQuiesced_kp s h
  | .quenchExit e => execQuenchExit_kp e s h
  | .qSwreq v => execQSwreq_kp v s h
  | .fltStatusClear a v => execFltStatusClear_kp a v s h
  | .fltFirstClear a => execFltFirstClear_kp a s h
  | .headerParityError a => execHeaderParityError_kp a s h
  | .wdogKick k => execWdogKick_kp k s h
  | .wdogPeriodExpire k => execWdogPeriodExpire_kp k s h
  | .attest => execAttest_kp s h
  | .verify => execVerify_kp s h
  | .nonce => execNonce_kp s h
  | .enrol => execEnrol_kp s h
  | .unenrol => execUnenrol_kp s h
  | .update => execUpdate_kp s h
  | .patverify => execPatverify_kp s h
  | .link p => execLink_kp p s h
  | .hello p => execHello_kp p s h
  | .report p => execReport_kp p s h
  | .share p => execShare_kp p s h
  | .done p => execDone_kp p s h
  | .rngHealthFail => execRngHealthFail_kp s h
  | .moduleUpdateActivate => execModuleUpdateActivate_kp s h
  | .updateDeferTimeout => execUpdateDeferTimeout_kp s h
  | .pageEnable a v => execPageEnable_kp a v s h
  | .pageQuiesce a v => execPageQuiesce_kp a v s h
  | .pageQuiesced a => execPageQuiesced_kp a s h
  | .pageBreset a => execPageBreset_kp a s h
  | .pageLockWrite a v => execPageLockWrite_kp a v s h
  | .lopCopy k => execLopCopy_kp k s h
  | .rcopy k => execRcopy_kp k s h
  | .hbmScrub k => execHbmScrub_kp k s h
  | .hbmTest k => execHbmTest_kp k s h
  | .ingFormat k => execIngFormat_kp k s h
  | .lopAbort k => execLopAbort_kp k s h
  | .lopStep k r errs => execLopStep_kp k r errs s h
  | .calApply => execCalApply_kp s h
  | .calSave => execCalSave_kp s h
  | .calReload => execCalReload_kp s h
  | .calClear => execCalClear_kp s h
  | .railSlewStep => execRailSlewStep_kp s h
  | .sidebandRead32 a => execSidebandRead32_kp a s h
  | .sidebandWrite32 a v e => execSidebandWrite32_kp a v e s h
  | .sidebandRead64 a => execSidebandRead64_kp a s h
  | .sidebandWrite64 a v e => execSidebandWrite64_kp a v e s h
  | .bypass => execBypass_kp s h
  | .idcode => execIdcode_kp s h
  | .samplePreload lands pre => execSamplePreload_kp lands pre s h
  | .extest lands => execExtest_kp lands s h
  | .ccDebug halt => execCcDebug_kp halt s h
  | .attnPress => execAttnPress_kp s h
  | .attnLongPress => execAttnLongPress_kp s h
  | .drainReq => execDrainReq_kp s h
  | .drainGo => execDrainGo_kp s h
  | .drainCancel => execDrainCancel_kp s h
  | .drainRenotify => execDrainRenotify_kp s h
  | .drainSafe => execDrainSafe_kp s h
  | .drainLimitExpire => execDrainLimitExpire_kp s h
  | .registerWrite a v wide e => execRegisterWrite_kp a v wide e s h
  | .mldInjAccOvf c => execMldInjAccOvf_kp c s h
  | .mldInjOpndCrc1 c => execMldInjOpndCrc1_kp c s h
  | .mldInjOpndCrc2 c => execMldInjOpndCrc2_kp c s h
  | .mldInjAccUe c => execMldInjAccUe_kp c s h
  | .mldInjStatPar c => execMldInjStatPar_kp c s h
  | .asyInjCapUe c => execAsyInjCapUe_kp c s h
  | .asyInjImgCrc1 c => execAsyInjImgCrc1_kp c s h
  | .asyInjImgCrc2 c => execAsyInjImgCrc2_kp c s h
  | .asyInjBlkNf c => execAsyInjBlkNf_kp c s h
  | .cruInjStoreUe c => execCruInjStoreUe_kp c s h
  | .cruInjPivot c => execCruInjPivot_kp c s h
  | .cruInjImgCrc1 c => execCruInjImgCrc1_kp c s h
  | .cruInjImgCrc2 c => execCruInjImgCrc2_kp c s h
  | .cruInjSat c => execCruInjSat_kp c s h
  | .ldlInjCacheUe c => execLdlInjCacheUe_kp c s h
  | .ldlInjTunCrc1 c => execLdlInjTunCrc1_kp c s h
  | .ldlInjTunCrc2 c => execLdlInjTunCrc2_kp c s h
  | .ldlInjRegPar c => execLdlInjRegPar_kp c s h
  | .sprInjDescCrc1 c => execSprInjDescCrc1_kp c s h
  | .sprInjDescCrc2 c => execSprInjDescCrc2_kp c s h
  | .sprInjPatUe c => execSprInjPatUe_kp c s h
  | .frmInjChkFail => execFrmInjChkFail_kp s h
  | .frmInjLate => execFrmInjLate_kp s h
  | .frmInjAlignLoss => execFrmInjAlignLoss_kp s h
  | .tunInjCe d => execTunInjCe_kp d s h
  | .tunInjUe d => execTunInjUe_kp d s h
  | .tunInjSidecar d => execTunInjSidecar_kp d s h
  | .runInjSrcCrc1 c => execRunInjSrcCrc1_kp c s h
  | .runInjSrcCrc2 c => execRunInjSrcCrc2_kp c s h
  | .runInjRemoteErr c => execRunInjRemoteErr_kp c s h
  | .hbmInjCe k => execHbmInjCe_kp k s h
  | .hbmInjUe k => execHbmInjUe_kp k s h
  | .hbmInjPar1 k => execHbmInjPar1_kp k s h
  | .hbmInjHot k => execHbmInjHot_kp k s h
  | .ingInjRetry => execIngInjRetry_kp s h
  | .ingInjReadFail => execIngInjReadFail_kp s h
  | .ingInjProgFail => execIngInjProgFail_kp s h
  | .ingInjWbEmpty => execIngInjWbEmpty_kp s h
  | .avlInjLcrc p => execAvlInjLcrc_kp p s h
  | .avlInjUncorr p => execAvlInjUncorr_kp p s h
  | .avlInjLaneBad p => execAvlInjLaneBad_kp p s h
  | .avlInjAuth p => execAvlInjAuth_kp p s h
  | .routInjUnreach => execRoutInjUnreach_kp s h
  | .routInjTimeout => execRoutInjTimeout_kp s h
  | .colInjStale => execColInjStale_kp s h
  | .colInjChunkCrc1 => execColInjChunkCrc1_kp s h
  | .colInjChunkCrc2 => execColInjChunkCrc2_kp s h
  | .swInjSealFlip => execSwInjSealFlip_kp s h
  | .swInjBallotDrop => execSwInjBallotDrop_kp s h
  | .jnlInjTorn => execJnlInjTorn_kp s h
  | .jnlInjRsrFull => execJnlInjRsrFull_kp s h
  | .jnlInjCalBad => execJnlInjCalBad_kp s h
  | .pwrInjVinLow => execPwrInjVinLow_kp s h
  | .pwrInjHot => execPwrInjHot_kp s h
  | .pwrInjTrip => execPwrInjTrip_kp s h
  | .truInjBadSig => execTruInjBadSig_kp s h
  | .truInjRng => execTruInjRng_kp s h
  | .hdrParityInj a => execHdrParityInj_kp a s h
  | .regulatorsStop => execRegulatorsStop_kp s h
  | .phaseOverCurrent => execPhaseOverCurrent_kp s h
  | .spareEqualisationDone p => execSpareEqualisationDone_kp p s h

/-- The canonical form does not speak of the queue. -/
theorem State.Sound.withPending {s : State} (h : s.Sound) (q : List Instr) : ({ s with pending := q } : State).Sound :=
  ⟨h.regs, h.fuses, h.tunBytes, h.tunSide, h.hbm, h.ingBytes, h.ingSide, h.caches⟩

/-- What a step keeps: the state it answers keeps the queue's tail, the fuses and the canonical form of the state it began in. -/
theorem step_keeps {s t : State} (h : step s = .next t) : Kp { s with pending := s.pending.tail } t := by
  cases hp : s.pending with
  | nil =>
    obtain rfl : s = t := by simpa [step, hp] using h
    exact ⟨by simp [hp], rfl, fun hs => hs.withPending s.pending⟩
  | cons i rest =>
    obtain ⟨u, hu, hkeep⟩ := exec_kp (Kp.rfl (s := { s with pending := rest })) i
    obtain rfl : u = t := by simpa [step, hp, hu] using h
    exact hkeep

/-- Settles O4: the state with the rest of the queue is sound, and the step keeps that. -/
theorem stepKeepsSound : Obligations.StepKeepsSound :=
  fun _ _ hs h => (step_keeps h).sound (hs.withPending _)

/-- Settles O5: both parts are fields of `step_keeps`. -/
theorem stepKeepsFuses : Obligations.StepKeepsFuses :=
  fun _ _ h => ⟨(step_keeps h).fuses, (step_keeps h).pending⟩

/-- Settles O3: at reset no register differs from its reset value and every memory is empty; only the fuses have entries. -/
theorem resetIsSound : Obligations.ResetIsSound :=
  ⟨⟨rfl, rfl, rfl, rfl, rfl, rfl, rfl, by decide⟩, rfl⟩

end Sys2Proof.Machine
end

section
/-!
SUPPORT. The register map of R438: pages do not overlap, nor do the elements of a page's registers, so the map gives every element
back at its offset.
-/
namespace Sys2Proof.Machine

open Sys2Proof

/-! ## Lookup in a list of places that do not overlap -/

/-- The search finds `x` when no earlier element, being apart from it, can satisfy the predicate that `x` satisfies. -/
theorem find?_eq_of_pairwise {α : Type} {R : α → α → Prop} {f : α → Bool} {x : α} (hfx : f x = true)
    (hfy : ∀ y, R y x → f y = false) : ∀ {l : List α}, l.Pairwise R → x ∈ l → l.find? f = some x
  | y :: l, hl, hx => by
    obtain ⟨hy, hl⟩ := List.pairwise_cons.1 hl
    rcases List.mem_cons.1 hx with rfl | hx
    · simp [hfx]
    · rw [List.find?_cons, hfy y (hy x hx)]
      exact find?_eq_of_pairwise hfx hfy hl hx

/-! ## Pages -/

/-- Every page of the window (R438). -/
def pages : List (PageKind × Nat) := PageKind.all.flatMap (fun p => (List.range p.count).map (fun i => (p, i)))

/-- The page ranges `x` and `y` of the window have no offset in common. -/
def pagesApart (x y : PageKind × Nat) : Prop :=
  x.1.base x.2 + x.1.size ≤ y.1.base y.2 ∨ y.1.base y.2 + y.1.size ≤ x.1.base x.2

theorem pages_apart : pages.Pairwise pagesApart := by
  unfold pagesApart
  decide +kernel

theorem mem_pages {p : PageKind} {i : Nat} (hp : p ∈ PageKind.all) (hi : i < p.count) : (p, i) ∈ pages :=
  List.mem_flatMap.2 ⟨p, hp, List.mem_map.2 ⟨i, List.mem_range.2 hi, rfl⟩⟩

/-- An offset in a page's range lies in that page. -/
theorem pageAt_eq {p : PageKind} {i a : Nat} (hp : p ∈ PageKind.all) (hi : i < p.count) (hlo : p.base i ≤ a)
    (hhi : a < p.base i + p.size) : pageAt a = some (p, i) := by
  refine find?_eq_of_pairwise (R := pagesApart) (by simp [hlo, hhi]) (fun y hy => ?_) pages_apart (mem_pages hp hi)
  simp only [pagesApart] at hy
  simp only [decide_eq_false_iff_not]
  omega

/-! ## Registers of a page -/

/-- The bytes of one element of a register. -/
def Reg.bytes (r : Reg) : Nat := if r.wide then 8 else 4

/-- The map's test of a register for an offset within its page: the offset is that of an element, or of the high half of one. -/
def Reg.covers (r : Reg) (o : Nat) : Bool :=
  decide (r.off ≤ o) && (let d := o - r.off
    decide (d / r.stride < r.count) && (d % r.stride == 0 || (r.wide && d % r.stride == 4)))

/-- The offset in its page past the last element of a register. -/
def Reg.stop (r : Reg) : Nat := r.off + r.stride * (r.count - 1) + r.bytes

/-- All of `q` lies before `r`, or each element of `q` lies before the element of `r` of the same index and after the one before
(the long operation slots of STW). -/
def Reg.before (q r : Reg) : Prop :=
  q.stop ≤ r.off ∨ (q.stride = r.stride ∧ q.off + q.bytes ≤ r.off ∧ r.off + r.bytes ≤ q.off + q.stride)

/-- Two registers of a page share no byte. -/
def Reg.apart (q r : Reg) : Prop := q.before r ∨ r.before q

/-- A register of page `p` whose elements do not overlap and lie in the page. -/
def Reg.fits (p : PageKind) (r : Reg) : Prop := r.page = p ∧ r.bytes ≤ r.stride ∧ r.stop ≤ p.size

theorem regs_fit (p : PageKind) : ∀ r ∈ p.regs, r.fits p := by
  unfold Reg.fits
  cases p <;> decide +kernel

theorem regs_apart (p : PageKind) : p.regs.Pairwise Reg.apart := by
  unfold Reg.apart Reg.before
  cases p <;> decide +kernel

/-- The half `e` (0 the low half, 4 the high half of a 64-bit register) of an element. -/
def Reg.half (r : Reg) (e : Nat) : Prop := e = 0 ∨ (r.wide = true ∧ e = 4)

theorem Reg.half_lt_bytes {r : Reg} {e : Nat} (h : r.half e) : e < r.bytes := by
  rcases h with rfl | ⟨hw, rfl⟩
  · unfold Reg.bytes; split <;> decide
  · simp [Reg.bytes, hw]

theorem Reg.elem_lt_stop {r : Reg} {j e : Nat} (hj : j < r.count) (he : r.half e) : r.off + r.stride * j + e < r.stop := by
  have hmul : r.stride * j ≤ r.stride * (r.count - 1) := Nat.mul_le_mul_left _ (by omega)
  have hlt := Reg.half_lt_bytes he
  unfold Reg.stop
  omega

theorem Reg.elem_ne_of_before {q r : Reg} {k j f e : Nat} (h : q.before r) (hk : k < q.count) (hf : q.half f) (he : r.half e) :
    q.off + q.stride * k + f ≠ r.off + r.stride * j + e := by
  have hf' := Reg.half_lt_bytes hf
  have he' := Reg.half_lt_bytes he
  rcases h with hstop | ⟨hstride, hlo, hhi⟩
  · have hlt := Reg.elem_lt_stop hk hf
    omega
  · rw [hstride] at hhi ⊢
    rcases Nat.lt_or_ge j k with hjk | hkj
    · have hmul : r.stride * (j + 1) ≤ r.stride * k := Nat.mul_le_mul_left _ hjk
      rw [Nat.mul_succ] at hmul
      omega
    · have hmul : r.stride * k ≤ r.stride * j := Nat.mul_le_mul_left _ hkj
      omega

/-- Where the map's test succeeds the offset is that of a half of an element. -/
theorem Reg.elem_of_covers {r : Reg} {o : Nat} (h : r.covers o = true) :
    ∃ k f, k < r.count ∧ r.half f ∧ o = r.off + r.stride * k + f := by
  simp only [Reg.covers, Bool.and_eq_true, Bool.or_eq_true, decide_eq_true_eq, beq_iff_eq] at h
  obtain ⟨hoff, hk, hf⟩ := h
  refine ⟨(o - r.off) / r.stride, (o - r.off) % r.stride, hk, hf, ?_⟩
  have := Nat.div_add_mod (o - r.off) r.stride
  omega

theorem Reg.covers_eq_false_of_apart {q r : Reg} {j e : Nat} (h : q.apart r) (hj : j < r.count) (he : r.half e) :
    q.covers (r.off + r.stride * j + e) = false := by
  by_contra hc
  obtain ⟨k, f, hk, hf, heq⟩ := Reg.elem_of_covers (Bool.eq_true_of_not_eq_false hc)
  rcases h with h | h
  · exact Reg.elem_ne_of_before h hk hf he heq.symm
  · exact Reg.elem_ne_of_before h hj he hf heq

/-- The map's arithmetic takes the offset of an element apart again. -/
theorem Reg.elem_div_mod {r : Reg} {j e : Nat} (hs : r.bytes ≤ r.stride) (he : r.half e) :
    (r.off + r.stride * j + e - r.off) / r.stride = j ∧ (r.off + r.stride * j + e - r.off) % r.stride = e := by
  have hlt := (Reg.half_lt_bytes he).trans_le hs
  rw [show r.off + r.stride * j + e - r.off = e + r.stride * j by omega]
  exact ⟨by rw [Nat.add_mul_div_left _ _ (by omega), Nat.div_eq_of_lt hlt, Nat.zero_add],
    by rw [Nat.add_mul_mod_self_left, Nat.mod_eq_of_lt hlt]⟩

/-! ## The map -/

section

variable {p : PageKind} {i j e : Nat} {r : Reg}

theorem Reg.addr_bounds (hr : r ∈ p.regs) (hj : j < r.count) (he : r.half e) :
    p.base i ≤ r.addr i j + e ∧ r.addr i j + e < p.base i + p.size := by
  obtain ⟨hpage, -, hstop⟩ := regs_fit p r hr
  have hlt := Reg.elem_lt_stop hj he
  simp only [Reg.addr, hpage]
  omega

/-- The map gives every half of every element back at its offset. -/
theorem regAt_addr (hp : p ∈ PageKind.all) (hi : i < p.count) (hr : r ∈ p.regs) (hj : j < r.count) (he : r.half e) :
    regAt (r.addr i j + e) = some { reg := r, inst := i, idx := j, high := e == 4 && r.wide } := by
  obtain ⟨hlo, hhi⟩ := Reg.addr_bounds (i := i) hr hj he
  obtain ⟨hpage, hbytes, -⟩ := regs_fit p r hr
  obtain ⟨hdiv, hmod⟩ := Reg.elem_div_mod (j := j) hbytes he
  have ho : r.addr i j + e - p.base i = r.off + r.stride * j + e := by simp only [Reg.addr, hpage]; omega
  have hcovers : r.covers (r.off + r.stride * j + e) = true := by
    simp only [Reg.covers, hdiv, hmod, Bool.and_eq_true, Bool.or_eq_true, decide_eq_true_eq, beq_iff_eq]
    exact ⟨by omega, hj, he⟩
  have hfind : p.regs.find? (fun q => q.covers (r.off + r.stride * j + e)) = some r :=
    find?_eq_of_pairwise (f := fun q => q.covers (r.off + r.stride * j + e)) hcovers
      (fun q hq => Reg.covers_eq_false_of_apart hq hj he) (regs_apart p) hr
  simp only [Reg.covers] at hfind
  simp only [regAt, pageAt_eq hp hi hlo hhi, ho, hfind, Option.map_some, hdiv, hmod]

end

/-- Settles O49: low halves lie at the offset itself, high halves 4 bytes on. -/
theorem registersLieAtTheirOffsets : Obligations.RegistersLieAtTheirOffsets := by
  intro p hp i hi r hr j hj
  obtain ⟨hlo, hhi⟩ := Reg.addr_bounds (i := i) hr hj (Or.inl rfl)
  exact ⟨by simpa using regAt_addr hp hi hr hj (Or.inl rfl),
    fun hw => by simpa [hw] using regAt_addr hp hi hr hj (Or.inr ⟨hw, rfl⟩), hlo, hhi⟩

end Sys2Proof.Machine
end

section
/-!
SUPPORT. Accesses to the register window: masked writes bit by bit (R10 to R12), the latch of the high half (R13), and the commands
that carry an access out (R325, R447, R448).
-/
namespace Sys2Proof.Machine

open Sys2Proof

/-! ## Writes that store -/

theorem plainWrite_fuse (s : State) {l : RegLoc} (hf : l.reg.fuse = true) (x mask : Nat) : plainWrite s l x mask = s := by
  simp [plainWrite, hf]

/-- Past the header the bits stored are RW bits, and RWL bits while the page's lock is clear (R11). -/
theorem testBit_storeMask {s : State} {l : RegLoc} (hoff : 0x100 ≤ l.reg.off) (k : Nat) :
    (storeMask s l).testBit k =
      (l.reg.rw.testBit k || (l.reg.rwl.testBit k && !rwlLocked s l.reg.page l.inst)) := by
  have hne : l.reg.off ≠ 0x20 ∧ ¬ (l.reg.off = 0x18 ∨ l.reg.off = 0x80) := by omega
  simp only [storeMask, hne.1, hne.2, if_false, Nat.testBit_or]
  cases rwlLocked s l.reg.page l.inst <;> simp

/-- The value that a masked write leaves in a register, before it is cut to the register's width. -/
def storedValue (s : State) (l : RegLoc) (x mask : Nat) : Nat :=
  let v := mergeBits (s.reg l.reg l.inst l.idx) x (storeMask s l &&& mask)
  (v - (v &&& (x &&& l.reg.w1c &&& mask))) ||| (x &&& l.reg.w1s &&& mask)

theorem plainWrite_eq_setReg (s : State) {l : RegLoc} (hf : l.reg.fuse = false) (hinj : isInj l.reg = false) (x mask : Nat) :
    plainWrite s l x mask = s.setReg l.reg (storedValue s l x mask) l.inst l.idx := by
  simp [plainWrite, storedValue, hf, hinj]

/-- R10: a set bit wins over a cleared one, and that over a stored one. -/
theorem testBit_storedValue {s : State} {l : RegLoc} (hoff : 0x100 ≤ l.reg.off) (x mask k : Nat) :
    (storedValue s l x mask).testBit k =
      if mask.testBit k && l.reg.w1s.testBit k && x.testBit k then true
      else if mask.testBit k && l.reg.w1c.testBit k && x.testBit k then false
      else if mask.testBit k && (l.reg.rw.testBit k || (l.reg.rwl.testBit k && !rwlLocked s l.reg.page l.inst)) then x.testBit k
      else (s.reg l.reg l.inst l.idx).testBit k := by
  simp only [storedValue, Nat.testBit_or, testBit_sub_and, testBit_mergeBits, Nat.testBit_and, testBit_storeMask hoff]
  cases mask.testBit k <;> cases x.testBit k <;> simp [Bool.or_comm, Bool.and_comm]

/-- Settles O48: a masked write is one store of `storedValue`. -/
theorem accessCodesHold : Obligations.AccessCodesHold := by
  intro s l x mask hs hoff hinj
  refine ⟨fun hf => plainWrite_fuse s hf x mask, fun hf => ?_⟩
  rw [plainWrite_eq_setReg s hf hinj]
  refine ⟨fun k hk => ?_, fun _ _ _ h => State.reg_setReg_other hs _ h, State.setReg_frame ..⟩
  simp only [bit_eq_testBit, State.reg_setReg_same hs hf, Nat.testBit_mod_two_pow, hk, decide_true, Bool.true_and]
  exact testBit_storedValue hoff x mask k

/-! ## Halves of 64-bit registers (R13) -/

theorem readLoc_value {s : State} {l : RegLoc} (h : isRailData l = false) (a : Nat) : (readLoc s l a).1 = viewReg s l := by
  simp [readLoc, h]

/-- A 32-bit read of the low half of a 64-bit register: its low bits, and its high bits latched 4 bytes on. -/
theorem read32_low {s : State} {a : Nat} {l : RegLoc} (ha : a % 8 = 0) (hl : accessAt s a = some l) (hw : l.reg.wide = true)
    (hlow : l.high = false) (hsev : l.reg.off ≠ 0x20) (hrail : isRailData l = false)
    (hclear : s.hiLatch.find? (fun x => x.1 == a) = none) :
    read32 s a = (viewReg s l % 2 ^ 32, latch (readLoc s l a).2 (a + 4) (viewReg s l / 2 ^ 32 % 2 ^ 32)) := by
  have ha4 : a % 4 = 0 := by omega
  simp [read32, ha4, hclear, hl, hlow, latches, hw, hsev, readLoc_value hrail]

/-- A 32-bit read at a latched offset gives the latched half and uses it up. -/
theorem read32_latched {u : State} {b k v : Nat} (hb : b % 4 = 0) (h : u.hiLatch.find? (fun x => x.1 == b) = some (k, v)) :
    read32 u b = (v, { u with hiLatch := u.hiLatch.filter (fun x => x.1 != b) }) := by
  simp [read32, hb, h]

/-- Settles O47: the read of the low half latches, and the next read of the high half finds the latch. -/
theorem halvesReadOneValue : Obligations.HalvesReadOneValue := by
  intro s a l ha hl hw hlow hsev hrail hclear
  have hread := read32_low ha hl hw hlow hsev hrail hclear
  refine ⟨by simp [read64, ha, hl, hw, hlow, readLoc_value hrail], by rw [hread], fun u hu => ?_⟩
  have hfind : u.hiLatch.find? (fun x => x.1 == a + 4) = some (a + 4, viewReg s l / 2 ^ 32 % 2 ^ 32) := by
    simp [hu, hread, latch]
  rw [read32_latched (by omega) hfind]
  exact ⟨rfl, by simp [List.find?_eq_none], rfl⟩

/-! ## The commands of a register access (R10, R17, R325) -/

theorem regAllowed_eq_false_iff (t : State) (m : Packet) : regAllowed t m = false ↔
    m.shost = false ∨ t.flag ROUT.HOSTS_VALID 0 (m.src % 1024) = false ∨ t.flag ROUT.HOSTS_ACL 0 (m.src % 1024) = false := by
  simp only [regAllowed, Bool.and_eq_false_iff, or_assoc]

theorem execRegRd_of_taken {s t : State} {n : Nat} {m : Packet} (hq : s.quenched = false) (ht : takeKind s 0x06 = some (n, m, t)) :
    (regAllowed t m = true → bit (fieldAt m.body 0 8) 32 = false →
      execRegRd s = .next (reply (read32 t (bits (fieldAt m.body 0 8) 0 26)).2 m 2 0x08 (m.word % 2 ^ 16)
        (leBytes 8 (read32 t (bits (fieldAt m.body 0 8) 0 26)).1))) ∧
    (regAllowed t m = false → execRegRd s = .next (errRsp (raise .rout 0 7 t) m 4)) := by
  constructor
  · intro ha hb; simp [execRegRd, hq, ht, ha, hb]
  · intro ha; simp [execRegRd, hq, ht, ha, regRefuse]

theorem execRegWr_of_taken {s t : State} {n : Nat} {m : Packet} (e : BootEnv) (hq : s.quenched = false)
    (ht : takeKind s 0x07 = some (n, m, t)) :
    (regAllowed t m = true → bit (fieldAt m.body 0 8) 32 = false →
      execRegWr e s = .next (reply (write32 (rstWrite e) t (bits (fieldAt m.body 0 8) 0 26) (fieldAt m.body 8 8)) m 2 0x08
        (m.word % 2 ^ 16) [])) ∧
    (regAllowed t m = false → execRegWr e s = .next (errRsp (raise .rout 0 7 t) m 4)) := by
  constructor
  · intro ha hb; simp [execRegWr, hq, ht, ha, hb, writeWin]
  · intro ha; simp [execRegWr, hq, ht, ha, regRefuse]

/-! ## The sideband (R447, R448) -/

theorem sbRead_of_lt (s : State) {a : BitVec 32} (h : a.toNat < 2 ^ 26) :
    sbRead s a false = sbAnswer (read32 s a.toNat).2 0 (read32 s a.toNat).1 ∧
    sbRead s a true = sbAnswer (read64 s a.toNat).2 0 (read64 s a.toNat).1 := by
  simp only [sbRead, if_neg (Nat.not_le.2 h), Bool.false_eq_true, if_false, if_true, and_self]

theorem sbRead_of_le (s : State) {a : BitVec 32} (h : 2 ^ 26 ≤ a.toNat) (wide : Bool) : sbRead s a wide = sbRefuse s 1 := if_pos h

theorem sbWrite_open (s : State) {a : BitVec 32} (h : a.toNat < 2 ^ 26) (hro : s.flag STW.SB_POLICY_RO = false ∨ sbOpen a.toNat = true)
    (v : Nat) (wide : Bool) (e : BootEnv) :
    sbWrite s a v wide e = sbAnswer (writeWin (rstWrite e) s a.toNat v wide) 0 0 := by
  rw [sbWrite, if_neg (Nat.not_le.2 h), if_neg (by rcases hro with h' | h' <;> simp [h'])]

theorem sbWrite_readOnly (s : State) {a : BitVec 32} (h : a.toNat < 2 ^ 26) (hro : s.flag STW.SB_POLICY_RO = true)
    (hc : sbOpen a.toNat = false) (v : Nat) (wide : Bool) (e : BootEnv) : sbWrite s a v wide e = sbRefuse s 2 := by
  rw [sbWrite, if_neg (Nat.not_le.2 h), if_pos (by simp [hro, hc])]

theorem sbWrite_of_le (s : State) {a : BitVec 32} (h : 2 ^ 26 ≤ a.toNat) (v : Nat) (wide : Bool) (e : BootEnv) :
    sbWrite s a v wide e = sbRefuse s 1 := if_pos h

/-- Settles O43: each way an access arrives is one of the equations above. -/
theorem registerWindowCommandsComplete : Obligations.RegisterWindowCommandsComplete := by
  refine ⟨fun a v e s => ⟨rfl, rfl⟩, ?routTable, ?regRd, ?regWr, ?sbRead, ?sbWrite⟩
  case routTable =>
    intro a v s i h
    simp [execRoutTableWrite, h, writeWin]
  case regRd =>
    intro s t n m hq ht
    obtain ⟨hdone, hrefused⟩ := execRegRd_of_taken hq ht
    exact ⟨fun h1 h2 h3 => hdone (by simp [regAllowed, h1, h2, h3]), fun h => hrefused ((regAllowed_eq_false_iff t m).2 h)⟩
  case regWr =>
    intro e s t n m hq ht
    obtain ⟨hdone, hrefused⟩ := execRegWr_of_taken e hq ht
    exact ⟨fun h1 h2 h3 => hdone (by simp [regAllowed, h1, h2, h3]), fun h => hrefused ((regAllowed_eq_false_iff t m).2 h)⟩
  case sbRead =>
    intro a s
    refine ⟨fun h => ?_, fun h => ?_⟩
    · obtain ⟨h32, h64⟩ := sbRead_of_lt s h
      exact ⟨congrArg _ h32, congrArg _ h64⟩
    · exact ⟨congrArg _ (sbRead_of_le s h _), congrArg _ (sbRead_of_le s h _)⟩
  case sbWrite =>
    intro a v w e s
    refine ⟨fun h hro => ?_, fun h hro hc => ?_, fun h => ?_⟩
    · exact ⟨congrArg _ (sbWrite_open s h hro ..), congrArg _ (sbWrite_open s h hro ..)⟩
    · exact ⟨congrArg _ (sbWrite_readOnly s h hro hc ..), congrArg _ (sbWrite_readOnly s h hro hc ..)⟩
    · exact ⟨congrArg _ (sbWrite_of_le s h ..), congrArg _ (sbWrite_of_le s h ..)⟩

end Sys2Proof.Machine
end

section
/-!
SUPPORT. The commands of calibration (R6, R443 to R446), of page headers (R11, R440) and of the JTAG port (R449).
-/
namespace Sys2Proof.Machine

open Sys2Proof

/-! ## Calibration -/

theorem execCalClear_of_item {s : State} (h : calItems.contains (s.fld CAL.CAL_SEL_I) = true) :
    execCalClear s = .next ((modCal s (fun c => { c with
      user := offPut c.user (s.fld CAL.CAL_SEL_I) none,
      edited := if c.edited.contains (s.fld CAL.CAL_SEL_I) then c.edited else c.edited ++ [s.fld CAL.CAL_SEL_I] })).setFld
      CAL.CAL_STATE_EDITED 1) := if_pos h

/-- R6: after `READY` the user offset of item 0 follows the request and the image is saved. -/
theorem execGrdProfileReqWrite_unlocked {s : State} (h : rwlLocked s .grd 0 = false) (v : Bool) :
    execGrdProfileReqWrite v s =
      (let u := s.setFld GRD.GRD_PROFILE_REQ (b2n v)
       .next (if u.flag STW.BOOT_STATE_READY then
         calSave (modCal u (fun c => { c with
           user := offPut c.user 0 (some ((b2n v : Nat) - calFactory u 0)),
           target := offPut c.target 0 (some ((b2n v : Nat) - calFactory u 0)) })) else u)) := by
  simp only [execGrdProfileReqWrite, h, Bool.false_eq_true, if_false]
  split <;> rfl

/-- Settles O35: the commands without a condition are their meanings; the other two by the equations above. -/
theorem calibrationCommandsComplete : Obligations.CalibrationCommandsComplete :=
  ⟨fun _ => rfl, fun _ => rfl, fun _ => rfl, fun _ h => execCalClear_of_item h, fun _ => rfl,
    fun v _ h => execGrdProfileReqWrite_unlocked h v⟩

/-! ## Pages (R440) -/

/-- A command on a page that is not FUSED does its work there. -/
theorem onPage_of_headerAt {s : State} {a : BitVec 26} {p : PageKind} {i o : Nat} (h : headerAt s a.toNat = some (p, i, o))
    (f : PageKind → Nat → State) : onPage s a f = f p i := by simp [onPage, h]

section

variable {s : State} {p : PageKind} {i : Nat} (hq : s.pageState p i ≠ pgQuenched)
include hq

theorem pageEnable_set : pageEnable s p i true =
    if s.pageState p i = pgOff then (s.setFld (HDR.PAGE_CTRL_EN p) 1 i).setPageState p i pgOn
    else s.setFld (HDR.PAGE_CTRL_EN p) 1 i := by simp [pageEnable, hq]

theorem pageEnable_clear : pageEnable s p i false =
    if s.pageState p i = pgQuiesced then (s.setFld (HDR.PAGE_CTRL_EN p) 0 i).setPageState p i pgOff else s := by
  simp [pageEnable, hq]

theorem pageQuiesce_set : pageQuiesce s p i true = s.setFld (HDR.PAGE_CTRL_QUIESCE p) 1 i := by
  simp [pageQuiesce, hq, b2n]

theorem pageQuiesce_clear (h : s.pageState p i = pgQuiesced) :
    pageQuiesce s p i false = (s.setFld (HDR.PAGE_CTRL_QUIESCE p) 0 i).setPageState p i pgOn := by
  rw [h] at hq
  simp [pageQuiesce, hq, h, b2n]

/-- Outside SPR, CRU and AVL a block reset only turns the page OFF. -/
theorem pageBreset_plain (hspr : p ≠ .spr) (hcru : p ≠ .cru) (havl : p ≠ .avl) :
    pageBreset s p i = (s.setFld (HDR.PAGE_CTRL_EN p) 0 i).setPageState p i pgOff := by
  simp only [pageBreset, if_neg hq]

end

/-! ## The commands of pages and of the JTAG port -/

/-- Settles O40: on a page that is neither FUSED nor QUENCHED each command is its page operation. -/
theorem pageAndJtagCommandsComplete : Obligations.PageAndJtagCommandsComplete := by
  refine ⟨fun a s p i o hat hq => ?page, fun s => ?jtag⟩
  case page =>
    have hon := onPage_of_headerAt hat
    simp only [exec_pageEnable, exec_pageQuiesce, exec_pageQuiesced, exec_pageLockWrite, exec_pageBreset, execPageEnable,
      execPageQuiesce, execPageQuiesced, execPageLockWrite, execPageBreset, hon, pageEnable_set hq, pageEnable_clear hq,
      pageQuiesce_set hq]
    refine ⟨fun h => ?_, fun h => ?_, fun h => ?_, fun h => ?_, trivial, fun h => ?_, fun hquiesce hstate hstill => ?_, fun v => ?_,
      fun hspr hcru havl => ?_⟩
    · rw [if_pos h]
    · rw [if_neg h]
    · rw [if_pos h]
    · rw [if_neg h]
    · rw [pageQuiesce_clear hq h]
    · simp [hquiesce, hstate, hstill]
    · rw [if_neg hq]
    · rw [pageBreset_plain hq hspr hcru havl]
  case jtag =>
    refine ⟨rfl, rfl, fun _ _ => rfl, fun lands => ⟨fun h => ?_, fun h => ?_⟩, fun halt => ⟨fun h => ?_, fun h => ?_⟩⟩
    · exact if_pos h
    · exact if_neg (by simp [h])
    · exact if_neg (by simp [h])
    · exact if_pos h

end Sys2Proof.Machine
end

section
/-!
SUPPORT. The commands of the bridge (R24 to R26) and of hot-spare promotion (R27, R28).
-/
namespace Sys2Proof.Machine

open Sys2Proof

/-! ## The lock of the bridge's schedule (R24) -/

/-- With neither the page nor the schedule locked yet, only the schedule itself decides whether the lock is set. -/
theorem execGrdBschedLockWrite_set {s : State} (hpage : rwlLocked s .grd 0 = false)
    (hlock : s.flag GRD.GRD_BSCHED_LOCK_LOCK = false) :
    execGrdBschedLockWrite true s =
      if schedGood s then .next ((s.setFld GRD.GRD_BSCHED_LOCK_LOCK 1).setFld GRD.GRD_BRIDGE_STATE_SCHED_BAD 0)
      else .next (s.setFld GRD.GRD_BRIDGE_STATE_SCHED_BAD 1) :=
  if_neg (by simp [hpage, hlock])

/-! ## Hot-spare promotion (R27, R28) -/

/-- The state in which an accepted promotion away from core `c` abandons its work, of which `i` is the oldest. -/
def promoteBegun (u : State) (i : Iss) : State :=
  ((u.setFld GRD.GRD_PROMOTE_REFUSED 0).setFld GRD.GRD_PROMOTE_BUSY 1).setReg GRD.PROMO_SEQ i.seq

/-- A request that meets R27's conditions, on a core with work, abandons that work oldest first and starts the copy: 147,324,928
bytes at 1,024 bytes per ck. -/
theorem execPromoteRequest_accepted {c : Fin 4} {s u : State} {i : Iss} {is : List Iss}
    (hu : s.setFld GRD.GRD_PROMOTE_CORE c = u) (hend : u.endurance = true) (hspare : u.fld GRD.GRD_PROFILE_SPARE_CORE ≠ 7)
    (hc : (c : Nat) < 3) (hact : u.active c = true) (hbusy : u.flag GRD.GRD_PROMOTE_BUSY = false)
    (hquench : u.quenched = false) (hwork : workOf u c = i :: is) :
    execPromoteRequest c s =
      (let w := (i :: is).foldl (fun s i => promoteDrop s c i) (promoteBegun u i)
       .next (modPwr (promoteStop w c) (fun p => { p with promo := some ((c : Nat), w.ck + 147324928 / 1024, false) }))) := by
  have hmet : (u.endurance && u.fld GRD.GRD_PROFILE_SPARE_CORE != 7 && decide ((c : Nat) < 3) && u.active c
      && !u.flag GRD.GRD_PROMOTE_BUSY && !u.quenched) = true := by
    simp [hend, hspare, hc, hact, hbusy, hquench]
  rw [execPromoteRequest, hu, if_pos hmet, hwork]
  rfl

/-- A copy that has ended before the tick of this frame is switched in the tick's window. -/
theorem promoteWindow_of_copied {s : State} {c t : Nat} (h : s.pwr.promo = some (c, t, true)) (ht : t < s.frameCk) :
    promoteWindow s = promoteSwitch s c := by
  rw [promoteWindow, h]
  exact if_pos ht

/-! ## The commands of the bridge and of promotion -/

/-- Settles O36: the bridge's events are unconditional, the schedule's lock turns on `schedGood`, and a promotion runs through its
request, its copy and its switch. -/
theorem bridgeAndPromotionCommandsComplete : Obligations.BridgeAndPromotionCommandsComplete := by
  refine ⟨fun _ _ => ⟨rfl, rfl⟩, fun _ => rfl, ?lock, ?request, ?copy, ?switch⟩
  case lock =>
    intro s hpage hlock
    rw [exec_grdBschedLockWrite, execGrdBschedLockWrite_set hpage hlock]
    exact ⟨fun hgood => if_pos hgood, fun hbad => if_neg (by simp [hbad])⟩
  case request =>
    intro c s i is u v hend hspare hc hact hbusy hquench hwork
    exact execPromoteRequest_accepted rfl hend hspare hc hact hbusy hquench hwork
  case copy =>
    intro s c t bad hcopying
    rw [exec_promoteCopyDone, execPromoteCopyDone, hcopying]
  case switch =>
    intro s c t hcopied ht
    exact congrArg _ (promoteWindow_of_copied hcopied ht)

end Sys2Proof.Machine
end

section
/-!
SUPPORT. The commands of the Mould: its array (R65, R70, R71, R79, R216), its streams (R69, R74, R75, R82 to R84) and its rounds
and drains (R66 to R68, R77).
-/
namespace Sys2Proof.Machine

open Sys2Proof

/-! ## The array -/

section

variable {c : Core} {s : State} {i : Iss}

/-- R65: a released `MATMUL` under the built-in sequencing becomes a job at once. -/
theorem execMatmul_builtin (hi : (s.eng c .mould).busy.find? (fun i => i.desc.op == 1 && (findJob s c i.seq).isNone) = some i)
    (hpat : i.desc.pattern = 0) : execMatmul c s = .next (startJob s c { iss := i }) := by
  rewrite [execMatmul, hi]
  exact if_pos hpat

/-- R198: a Mould-feed pattern that runs to its end without an error supplies the job's rows. -/
theorem execMatmul_pattern (hi : (s.eng c .mould).busy.find? (fun i => i.desc.op == 1 && (findJob s c i.seq).isNone) = some i)
    (p : PRun) (hpat : i.desc.pattern ≠ 0) (hp : runPattern s c i (fun _ => false) feedCk = some p) (herr : p.err = none) :
    execMatmul c s = .next (startJob (patEnd p.s c i p) c { iss := i, feed := p.feed }) := by
  simp only [execMatmul, hi, if_neg hpat, hp, herr]

/-- R70: a ramp-up descriptor ends on a warm array and asks for the ramp on any other. -/
theorem execRampUp_of_head (hi : mouldHead s c = some i) (hop : i.desc.op = 2) : execRampUp c s = .next
    (if array s c = arWarm then finishDesc s c .mould i stOk {} 0 (max s.ck i.relCk) else wantRamp s c) := by
  simp only [execRampUp, hi, if_pos hop, apply_ite Host.Outcome.next]

/-- R71: a ramp-down descriptor ends on a cold array. -/
theorem execRampDown_cold (hi : mouldHead s c = some i) (hop : i.desc.op = 3) (harr : array s c = arCold) :
    execRampDown c s = .next (finishDesc s c .mould i stOk {} 0 (max s.ck i.relCk)) := by
  simp only [execRampDown, hi, if_pos hop, if_pos harr]

/-- R71: a ramp-down descriptor starts the ramp of a warm array in which nothing streams. -/
theorem execRampDown_warm (hi : mouldHead s c = some i) (hop : i.desc.op = 3) (harr : array s c = arWarm)
    (hstream : (s.mld c).stream = none) : execRampDown c s = .next (startDown (s.upTo (s.mld c).freeCk) c) := by
  have hcold : array s c ≠ arCold := harr ▸ by decide
  simp only [execRampDown, hi, if_pos hop, if_neg hcold]
  exact if_pos (by simp [harr, hstream])

/-- R71: a ramp down that ends with no work at the Mould's head leaves the array cold. -/
theorem execMldArrayCold_idle (harr : array s c = arDown)
    (hi : mouldHead ((s.upTo ((s.mld c).rampCk + 1024)).setFld MLD.STATE_ARRAY arCold c) c = none) :
    execMldArrayCold c s = .next ((s.upTo ((s.mld c).rampCk + 1024)).setFld MLD.STATE_ARRAY arCold c) := by
  simp only [execMldArrayCold, if_pos harr, hi]

/-- R71: an idle warm array that is not held begins to ramp down when its idle time is over. -/
theorem execMldIdleGateExpire_idle (harr : array s c = arWarm) (hhold : s.flag MLD.CTRL_RAMP_HOLD c = false)
    (hqueue : (s.eng c .mould).queue = []) (hhead : mouldHead s c = none) (hstream : (s.mld c).stream = none) :
    execMldIdleGateExpire c s =
      .next (startDown (s.upTo ((s.mld c).idleFrom + s.fld MLD.CTRL_IDLE_GATE c * 256)) c) :=
  if_pos (by simp [harr, hhold, hqueue, hhead, hstream])

end

/-- Settles O14: a job begins with or without a pattern, the ramps go by the array's state, and the limits are settled when due. -/
theorem mouldArrayCommandsComplete : Obligations.MouldArrayCommandsComplete := by
  refine ⟨fun c s i hi => ⟨execMatmul_builtin hi, execMatmul_pattern hi⟩, fun _ _ _ => execRampUp_of_head,
    fun c s i hi hop => ⟨execRampDown_cold hi hop, execRampDown_warm hi hop⟩, fun _ _ h => if_pos h,
    fun _ _ => execMldArrayCold_idle, fun _ _ => execMldIdleGateExpire_idle, ?budget, ?slack⟩
  case budget =>
    intro c s q t r hdue
    rw [exec_replayBudgetExceeded, execReplayBudgetExceeded, hdue]
  case slack =>
    intro c s t q hdue
    rw [exec_slackExceeded, execSlackExceeded, hdue]

/-! ## Streams -/

/-- The state in which a delivered operand tile is judged: a corrected word of it has been reported (R83). -/
def operandReported (c : Core) (seq e : Nat) (u : State) : State :=
  if e = 1 then raiseFor .mld c 1 0 seq (modJob u c seq (fun j => { j with eccCorr := true })) else u

/-- The marks that wait do not depend on the time. -/
theorem firstMark_upTo (s : State) (t c : Nat) : firstMark (s.upTo t) c = firstMark s c := rfl

section

variable {c : Core} {s : State} {seq e : Nat} {t : OpTile} {r : List (Nat × OpTile × Nat × Bool)} {j : MJob}
  (hin : (s.mld c).inq = (seq, t, e, false) :: r) (hj : findJob (modMld s c (fun m => { m with inq := r })) c seq = some j)
include hin hj

/-- R83: an uncorrectable operand tile ends its descriptor at once. -/
theorem execMldOperandTileArrive_uncorrectable (he : e = 2) : execMldOperandTileArrive c s =
    .next (operandFails (modMld s c (fun m => { m with inq := r })) c seq stOpUnc 2) := by
  subst he
  simp [execMldOperandTileArrive, hin, hj]

/-- R82: the first copy of a tile that passes its checks is staged. -/
theorem execMldOperandTileArrive_good (he : e ≤ 1)
    (hinj : (operandReported c seq e (modMld s c (fun m => { m with inq := r }))).injFails MLD.INJ_OPND_CRC1 MLD.INJ_OPND_CRC2 c =
      (0, operandReported c seq e (modMld s c (fun m => { m with inq := r }))))
    (hgood : tileGood t.payload t.side = true) : execMldOperandTileArrive c s =
      .next (stageTile (operandReported c seq e (modMld s c (fun m => { m with inq := r }))) c j t) := by
  have hne : e ≠ 2 := by omega
  rw [operandReported] at hinj ⊢
  simp [execMldOperandTileArrive, hin, hj, hne, hinj, hgood, he]

end

section

variable {c : Core} {s : State}

/-- R69: the load of a set whose B tiles are staged begins once the previous stream has started, and the wait is counted. -/
theorem execMldLoadStart_present {j : MJob} {x : MSet} (hj : nextJob s c = some j) (hx : j.nextSet = some x)
    (hload : (s.mld c).load = none) (hfailed : j.failed = false) (hpresent : setPresent j x 1 = true) :
    execMldLoadStart c s =
      (let t0 := max j.iss.relCk (s.mld c).lastStart
       let u := (s.upTo t0).wrapAdd MLD.OPND_STALL_CK ((s.upTo t0).ck - t0) c
       .next (modMld u c (fun m => { m with
         load := some { seq := j.iss.seq, round := j.round, set := j.set, startCk := u.ck, endCk := u.ck + latLB } }))) := by
  simp only [execMldLoadStart, hj, hx]
  exact if_pos (by simp [hload, hfailed, hpresent])

/-- R84: a load whose parity is good is ready at its end. -/
theorem execMldLoadEnd_good {l : MLoad} (hload : (s.mld c).load = some l) (hdone : l.done = false)
    (hpar : (s.upTo l.endCk).armed MLD.INJ_STAT_PAR c = false) :
    execMldLoadEnd c s = .next (modMld (s.upTo l.endCk) c (fun m => { m with load := some { l with done := true } })) := by
  simp only [execMldLoadEnd, hload, hdone, hpar, Bool.false_eq_true, if_false]

/-- The ck at which a stream that may start does: its load has ended and the half of a new round is free (R69). -/
def streamCk (s : State) (c : Nat) (j : MJob) : Nat :=
  max (max (max (s.mld c).freeCk j.iss.relCk) (((s.mld c).load.map MLoad.endCk).getD 0))
    (if j.set = 0 then (if nextHalf s c = 0 then (s.mld c).halfFree.1 else (s.mld c).halfFree.2) else 0)

/-- R69, R75: a stream starts when no mark is due before it would. -/
theorem execMldStreamStart_ready {j : MJob} {x : MSet} (hj : nextJob s c = some j) (hx : j.nextSet = some x)
    (hcan : canStream s c j x = true) (hmark : ∀ m, firstMark s c = some m → streamCk s c j ≤ m.1) :
    execMldStreamStart c s = .next (startStream c (s.upTo (streamCk s c j)) j x (nextHalf s c) (max (s.mld c).freeCk j.iss.relCk)) := by
  simp only [execMldStreamStart, hj, hx, if_pos hcan, firstMark_upTo]
  cases hm : firstMark s c with
  | none => rfl
  | some m => exact if_neg (Nat.not_lt.mpr (hmark m hm))

/-- R74: a mark due by the end of the stream in progress is made, and its replay waits for that end. -/
theorem execAccOverflowMark_streaming {t seq q b e : Nat} (hm : firstMark s c = some (t, seq))
    (hstream : (s.mld c).stream = some (q, b, e)) (hle : t ≤ e) :
    execAccOverflowMark c s = .next (makeMarks (s.upTo t) c seq t) := by
  simp only [execAccOverflowMark, hm, hstream, if_pos hle]

/-- R75: with no stream in progress the mark's replay begins at once. -/
theorem execAccOverflowMark_alone {t seq : Nat} (hm : firstMark s c = some (t, seq)) (hstream : (s.mld c).stream = none) :
    execAccOverflowMark c s =
      .next (replayAll 64 (makeMarks (s.upTo t) c seq t) c seq (max t ((makeMarks (s.upTo t) c seq t).mld c).freeCk)) := by
  simp only [execAccOverflowMark, hm, hstream]

end

/-- Settles O15: each command meets the one branch its conditions leave; the end of a stream has no condition but the stream. -/
theorem mouldStreamCommandsComplete : Obligations.MouldStreamCommandsComplete := by
  refine ⟨fun c s seq e t r j hin hj => ⟨execMldOperandTileArrive_uncorrectable hin hj, execMldOperandTileArrive_good hin hj⟩,
    fun _ _ _ _ => execMldLoadStart_present, fun _ _ _ => execMldLoadEnd_good, fun _ _ _ _ => execMldStreamStart_ready, ?streamEnd,
    fun c s t seq hm => ⟨fun _ _ _ => execAccOverflowMark_streaming hm, execAccOverflowMark_alone hm⟩⟩
  case streamEnd =>
    intro c s seq b e hstream
    rewrite [exec_mldStreamEnd, execMldStreamEnd, hstream]
    rfl

/-! ## Rounds and drains -/

section

variable {c : Core} {s : State}

/-- The state in which a completed round's half becomes the shadow half: the replay time is settled, the round counted, its operand
tiles consumed, and the active half shown (R66, R67, R79, R80). -/
def roundCompleted (c : Core) (s : State) (j : MJob) (r : MRound) (rest : List MRound) : State :=
  let t := r.endCk.getD 0 + latF
  let u := settleReplay (s.upTo t) c (s.upTo t).ck
  let u := modJob u c j.iss.seq (fun k => { k with
    live := rest, rounds := k.rounds + 1, streamed := r.round + 1 == j.geo.rounds,
    undrained := k.undrained + (if k.d.drainHold then 0 else 1) })
  let u := if j.replayEn then consumeTiles u c j.iss.seq else u
  if ((u.mld c).jobs.flatMap MJob.live).isEmpty then u.setFld MLD.STATE_ACTIVE_HALF (1 - r.half) c else u

section

variable {j : MJob} {r : MRound} {rest : List MRound} (hj : (s.mld c).jobs.find? MJob.roundReady = some j)
  (hlive : j.live = r :: rest)
include hj hlive

/-- R67: a completed round waits for its drain. -/
theorem execMldRoundComplete_drains (hhold : j.d.drainHold = false) : execMldRoundComplete c s =
    .next (modMld (setHalf (roundCompleted c s j r rest) c r.half 2) c (fun m => { m with
      drains := m.drains ++ [{ seq := j.iss.seq, half := r.half, tiles := r.tiles, ready := r.endCk.getD 0 + latF }] })) := by
  simp only [execMldRoundComplete, hj, hlive, hhold, roundCompleted, Bool.false_eq_true, if_false]

/-- R77: under `DRAIN_HOLD` a completed round is held, with its tiles' shifts shown. -/
theorem execMldRoundComplete_held (hhold : j.d.drainHold = true) : execMldRoundComplete c s =
    (let h := some (if bit j.d.param 22 then 1 else 0, r.tiles)
     .next (mouldTryFinish (modMld (writeShifts (holdHalf (roundCompleted c s j r rest) c r.half) c r.half r.tiles) c (fun m => { m with
       held := if r.half = 0 then (h, m.held.2) else (m.held.1, h) })) c j.iss.seq)) := by
  simp only [execMldRoundComplete, hj, hlive, hhold, roundCompleted, if_true]

end

/-- R68: the oldest round that waits begins its drain once the one before has ended, and takes its drain time. -/
theorem execMldDrainStart_good {x : MDrain} {rest : List MDrain} {j : MJob} (hx : (s.mld c).drains = x :: rest)
    (hwaits : x.endCk = none) (hj : findJob s c x.seq = some j)
    (hue : (s.upTo (max x.ready (s.mld c).drainFree)).armed MLD.INJ_ACC_UE c = false) :
    execMldDrainStart c s =
      (let u := s.upTo (max x.ready (s.mld c).drainFree)
       .next (modMld u c (fun m => { m with
         drains := { x with endCk := some (u.ck + drainTime u c j.d x.tiles), skip := none } :: rest,
         drainFree := u.ck + drainTime u c j.d x.tiles }))) := by
  simp only [execMldDrainStart, hx, hwaits, hj, hue, Option.isSome_none, Bool.false_eq_true, if_false]

/-- R67: at the end of a drain the round is written, its half is free, and the descriptor ends if nothing of it is left. -/
theorem execMldDrainEnd_draining {x : MDrain} {rest : List MDrain} {j : MJob} {e : Nat} (hx : (s.mld c).drains = x :: rest)
    (hend : x.endCk = some e) (hj : findJob s c x.seq = some j) :
    execMldDrainEnd c s = .next (mouldTryFinish
      (modJob (freeHalf (modMld (writeRound (s.upTo e) c j (x.tiles.filter (fun t => some t.idx != x.skip))) c
        (fun m => { m with drains := rest })) c x.half) c x.seq (fun j => { j with undrained := j.undrained - 1 })) c x.seq) := by
  simp only [execMldDrainEnd, hx, hend, hj]

end

/-- Settles O16: a round that completes waits for its drain or is held; its drain starts and ends by the equations above. -/
theorem mouldDrainCommandsComplete : Obligations.MouldDrainCommandsComplete :=
  ⟨fun _ _ _ _ _ hj hlive => ⟨execMldRoundComplete_drains hj hlive, execMldRoundComplete_held hj hlive⟩,
    fun _ _ _ _ _ => execMldDrainStart_good, fun _ _ _ _ _ _ => execMldDrainEnd_draining⟩

end Sys2Proof.Machine
end

section
/-!
SUPPORT. The commands of the Crucible: the items of its direct operations (R124 to R126, R128) and its steps (R130, R131,
R133, R136).
-/
namespace Sys2Proof.Machine

open Sys2Proof

/-! ## Direct operations -/

/-- The commands of the direct operations, each with its operation code (R115). -/
def directOps (c : Core) : List (Instr × Nat) :=
  [(.damp c, 8), (.ema c, 9), (.delta c, 10), (.rescale c, 11), (.import c, 12), (.cruExport c, 13), (.define c, 14)]

/-- R124 to R126: the command of a direct operation runs the items of the step in progress under its own code. -/
theorem exec_directOps (c : Core) (s : State) : ∀ k ∈ directOps c, exec k.1 s = .next (runDirect s c k.2) := by
  simp only [directOps, List.forall_mem_cons]
  exact ⟨rfl, rfl, rfl, rfl, rfl, rfl, rfl, List.forall_mem_nil _⟩

/-- R133: the state in which the next item of step `st` is judged. An item whose access has begun is carried out before the port
goes on; with none begun, time and the port go on to the step's next access. -/
def itemTurn (s : State) (c : Nat) (st : CStep) : State :=
  if st.done + st.accs.length < st.quanta.length then s
  else portNow (s.upTo ((st.accs.head?.map (fun a => st.startCk + st.waited + a.off)).getD s.ck)) c

section

variable {s : State} {c op : Nat} {st z : CStep} {x y : CCtx} (hstep : (s.cru c).step = some st)
include hstep

/-- A step of the command's own operation has its items run, within one turn more than it has quanta. -/
theorem runDirect_of_op (hctx : ctxOf s c st.hi = some y) (hop : y.iss.desc.op = op) :
    runDirect s c op = runItems (st.quanta.length + 1) s c op := by
  simp [runDirect, hstep, hctx, hop]

/-- R125, R133: an item whose access has begun and whose image is there is carried out, and the items after it follow. -/
theorem runItems_of_begun (n : Nat) (hz : ((itemTurn s c st).cru c).step = some z) (hx : ctxOf (itemTurn s c st) c z.hi = some x)
    (hop : x.iss.desc.op = op) (happlied : z.applied = false) (hbegun : z.done + z.accs.length < z.quanta.length)
    (hfed : tilesFed (itemTurn s c st) c x.iss.seq x.iss.desc.reg0
      (importTiles (itemTurn s c st) c x.iss (x.next + z.done)) = true) :
    runItems (n + 1) s c op = runItems n (itemNext (itemTurn s c st) c z x) c op := by
  have hturn : (if (s.cru c).step.any (fun z => decide (z.done + z.accs.length < z.quanta.length)) then s
      else portNow (s.upTo (((s.cru c).step.bind (fun z => z.accs.head?.map (fun a => z.startCk + z.waited + a.off))).getD s.ck)) c) =
      itemTurn s c st := by
    simp [hstep, itemTurn]
  simp only [runItems, hturn, hz, hx]
  rw [if_pos ⟨hop, by simp [happlied], hbegun⟩, if_pos hfed]

end

/-- Settles O19: the command runs the step's items, and the first of them is carried out in the state of its turn. -/
theorem crucibleDirectOperationsComplete : Obligations.CrucibleDirectOperationsComplete := by
  intro c s st z x y hstep hctx u hz hx happlied hbegun hfed k hk hopy hopx
  rw [exec_directOps c s k hk, runDirect_of_op hstep hctx hopy]
  exact congrArg _ (runItems_of_begun hstep _ hz hx hopx happlied hbegun hfed)

/-! ## Steps -/

/-- Time that goes on leaves a core's Crucible as it is. -/
@[simp] theorem State.upTo_cru (s : State) (t c : Nat) : (s.upTo t).cru c = s.cru c := rfl

/-- R131: a wait that ends counts. -/
theorem endWait_waiting {s : State} {c t w : Nat} (hwait : (s.cru c).waitFrom = some w) : endWait s c t =
    modCru (s.wrapAdd CRU.FIT_WAIT_CK (t - w) c) c (fun x => { x with waitFrom := none }) := by
  simp only [endWait, hwait]

section

variable {c : Core} {s : State}

section

variable (hstep : (s.cru c).step = none) (hpage : s.pageOn .cru c = true) (hidle : s.idleFrame = false)
  (hresume : (s.cru c).resumeCk ≤ s.ck)
include hstep hpage hidle hresume

/-- R131: nothing keeps a step from starting when none is in progress on a page that is ON, in a frame that is not idle, once the
wait after the tick is over. -/
theorem stepStart_not_held :
    ¬ ((s.cru c).step.isSome || !s.pageOn .cru c || s.idleFrame || decide (s.ck < (s.cru c).resumeCk)) = true := by
  simp [hstep, hpage, hidle, hresume]

/-- R130: the high class's step starts if it has one that fits. -/
theorem execCruStepStart_high (hhigh : nextStep (ensureQuanta s c true) c true ≠ []) : execCruStepStart c s =
    .next (startStep (endWait (ensureQuanta s c true) c s.ck) c true (nextStep (ensureQuanta s c true) c true)) := by
  rw [execCruStepStart, if_neg (stepStart_not_held hstep hpage hidle hresume)]
  exact if_pos hhigh

/-- R131: with no step of the high class that fits, the low class's starts, and the high class begins to wait if it has work. -/
theorem execCruStepStart_low (hhigh : nextStep (ensureQuanta s c true) c true = [])
    (hlow : nextStep (ensureQuanta s c false) c false ≠ []) : execCruStepStart c s =
    .next (startStep (if classWaits (ensureQuanta s c true) c true then beginWait (ensureQuanta s c false) c
      else endWait (ensureQuanta s c false) c s.ck) c false (nextStep (ensureQuanta s c false) c false)) := by
  rw [execCruStepStart, if_neg (stepStart_not_held hstep hpage hidle hresume)]
  exact (if_neg (not_not.mpr hhigh)).trans (if_pos hlow)

end

/-- R130, R133: a step that is applied, all of whose accesses have begun by its nominal end, ends there or with its data. -/
theorem execCruStepEnd_applied {st z : CStep} (hstep : (s.cru c).step = some st) (happlied : st.applied = true)
    (hz : ((portNow (s.upTo st.endCk) c).cru c).step = some z) (haccs : z.accs = []) : execCruStepEnd c s =
    (let u := portNow (s.upTo st.endCk) c
     .next (stepFinish (u.upTo (stepEnd u c z)) c { z with endCk := stepEnd u c z })) := by
  simp [execCruStepEnd, hstep, happlied, hz, haccs]

/-- R131: a wait that began before the work resumes ends there and counts. -/
theorem execCruResume_waiting {w : Nat} (hwait : (s.cru c).waitFrom = some w) (hbefore : w < (s.cru c).resumeCk) :
    execCruResume c s =
      (let u := s.upTo (s.cru c).resumeCk
       .next (showCru (modCru (u.wrapAdd CRU.FIT_WAIT_CK (u.ck - w) c) c (fun x => { x with waitFrom := none })) c)) := by
  have hdue : ((s.upTo (s.cru c).resumeCk).cru c).waitFrom.any
      (fun w => decide (w < ((s.upTo (s.cru c).resumeCk).cru c).resumeCk)) = true := by
    simp [hwait, hbefore]
  rw [execCruResume, if_pos hdue, endWait_waiting (by rwa [State.upTo_cru])]

end

/-- Settles O20: each command meets the one branch its conditions leave, and the deadlines are judged class by class. -/
theorem crucibleStepCommandsComplete : Obligations.CrucibleStepCommandsComplete :=
  ⟨fun _ _ hstep hpage hidle hresume => ⟨execCruStepStart_high hstep hpage hidle hresume,
      execCruStepStart_low hstep hpage hidle hresume⟩,
    fun _ _ _ _ => execCruStepEnd_applied, fun _ s _ hwait => execCruResume_waiting (s := s) hwait, fun _ _ => rfl⟩

end Sys2Proof.Machine
end

section
/-!
SUPPORT. The element-wise commands of the Ladle: its operations (R147, R150, R151, R153, R477) and its functions (R158).
-/
namespace Sys2Proof.Machine

open Sys2Proof

/-! ## Reading the sources -/

/-- R163: the scalar block as an element-wise descriptor reads it: its words, the status of a failed read, and the state after. -/
def elemScalars (s : State) (c : Nat) (i : Iss) : List Nat × Option Nat × State :=
  if readsScalars i.desc then readScalars s c i else ([], none, s)

/-- R144, R164: the elements of a step of a descriptor that reads the operands `srcs`, and the ck at which each step begins when
its steps make the accesses `accs` and take `cop` ck at least. -/
def elemSteps (s : State) (c : Nat) (i : Iss) (srcs : List Nat) (accs : List Acc) (cop : Nat) : Nat × List Nat :=
  let step := stepSize i.desc (fmtOf i.desc.fmt2 :: srcs.map (opndFmt s c i.desc))
  stepsAt i step (stepList s c accs i.desc.len0 step cop 0)

/-- R149: the operands `srcs` read whole, one after the other. -/
def readSources (s : State) (c : Nat) (i : Iss) (srcs : List Nat) (steps : Nat × List Nat) : List LRead × State :=
  srcs.foldl (fun x k => let y := readOpnd x.2 c i k 0 i.desc.len0 steps; (x.1 ++ [y.1], y.2)) ([], s)

/-- Reads of which none failed leave no failure to report. -/
theorem bads_of_all_good {rd : List LRead} (hgood : rd.all (fun x => x.bad.isNone) = true) :
    rd.filterMap (fun x => x.bad) = [] := by
  simpa [List.filterMap_eq_nil_iff] using hgood

/-- The accesses that write the results of an operation that gives each element one. -/
theorem tailAcc_one (d : Desc) (f : Fmt) (n : Nat) :
    (List.range 1).flatMap (fun o => tailAcc d f (elemBytes f (o * n))) = tailAcc d f (elemBytes f 0) := by
  simp

/-- Without a failure every element is done. -/
theorem cutAt_nil (n step : Nat) : cutAt n step [] = n := rfl

/-! ## The results -/

/-- A list over the first `n` numbers, mapped with its positions. -/
theorem map_zipIdx_map_range {α β : Type} (g : Nat → α) (h : α × Nat → β) (n : Nat) :
    ((List.range n).map g).zipIdx.map h = (List.range n).map (fun e => h (g e, e)) := by
  exact List.ext_getElem (by simp) fun e _ _ => by simp

/-- R153, R158: the results of the descriptor `i`, the second ones after the first: an element that `hid` masks takes the fill or
is left as it is, the others take their values `out`, converted. -/
def elemResults (i : Iss) (w : List Nat) (hid : Nat → Bool) (outs : Nat) (out : Nat → List Val) : List Res :=
  let d := i.desc
  let f := fmtOf d.fmt2
  (List.range outs).flatMap (fun o => (List.range d.len0).map (fun e =>
    if hid e then (if d.mkeep then none else some (fillRes i w f (o * d.len0 + e), {}))
    else some (convert f d.frac (ldlRnd i 3 (d.aux16 % 2 ^ 12) (o * d.len0 + e)) ((out e).getD o .nan))))

/-- R149, R477: the results of the descriptor `i` in its result operand: in a scaled format whole tiles of a region, which hold
the fill where `hid` masks. -/
def elemDelivered (t : State) (c : Nat) (i : Iss) (w : List Nat) (hid : Nat → Bool) (outs : Nat) (out : Nat → List Val)
    (steps : Nat × List Nat) : State :=
  let d := i.desc
  let f := fmtOf d.fmt2
  if f.scaled then
    match ldlOpnd d 2 with
    | .mem r loc _ => (storeScaled t c d r loc f (fun e => ldlRnd i 3 (d.aux16 % 2 ^ 12) e)
        ((List.range d.len0).map (fun e => if hid e then sigma w 15 else (out e).headD .nan)) hid).1
    | .regs _ _ => t
  else deliver t c i f (elemResults i w hid outs out) steps

section

variable {t : State} {c : Nat} {i : Iss} {w : List Nat} {hid : Nat → Bool} {outs : Nat} {out : Nat → List Val}
  {steps : Nat × List Nat}

theorem elemDelivered_unscaled (hscaled : (fmtOf i.desc.fmt2).scaled = false) :
    elemDelivered t c i w hid outs out steps = deliver t c i (fmtOf i.desc.fmt2) (elemResults i w hid outs out) steps := by
  simp [elemDelivered, hscaled]

theorem elemDelivered_scaled {r : Region} {loc : Bool} {code : Nat} (hscaled : (fmtOf i.desc.fmt2).scaled = true)
    (hopnd : ldlOpnd i.desc 2 = .mem r loc code) : elemDelivered t c i w hid outs out steps =
      (storeScaled t c i.desc r loc (fmtOf i.desc.fmt2) (fun e => ldlRnd i 3 (i.desc.aux16 % 2 ^ 12) e)
        ((List.range i.desc.len0).map (fun e => if hid e then sigma w 15 else (out e).headD .nan)) hid).1 := by
  simp [elemDelivered, hscaled, hopnd]

/-- The results of an operation that gives each element one. -/
theorem elemResults_one : elemResults i w hid 1 out = (List.range i.desc.len0).map (fun e =>
    if hid e then (if i.desc.mkeep then none else some (fillRes i w (fmtOf i.desc.fmt2) e, {}))
    else some (convert (fmtOf i.desc.fmt2) i.desc.frac (ldlRnd i 3 (i.desc.aux16 % 2 ^ 12) e) ((out e).getD 0 .nan))) := by
  simp [elemResults]

end

/-- A result operand in memory names no register. -/
theorem resRegs_of_mem {d : Desc} {r : Region} {loc : Bool} {code : Nat} (hopnd : ldlOpnd d 2 = .mem r loc code) (n : Nat) :
    resRegs d n = [] := by
  simp [resRegs, hopnd]

/-- A masked element shows its fill whatever stands for its value. -/
theorem fill_or_headD (b : Bool) (fill : Val) (vs : List Val) :
    (if b then fill else (if b then [] else vs).headD .nan) = if b then fill else vs.headD .nan := by
  cases b <;> rfl

/-! ## The element-wise commands -/

/-- R151 to R153, R158: with its scalar block and its sources read without failure, an element-wise operation delivers the values
of `fn` and finishes with no error and its masked count. -/
theorem elementwise_of_read {c : Nat} {s u t : State} {i : Iss} {old : Bool} {outs cop : Nat} {fn : List Val → Bool → List Val}
    {srcs w : List Nat} {accs : List Acc} {rd : List LRead}
    (hsrcs : List.range (ldlSources i.desc) ++ (if old then [2] else []) = srcs)
    (haccs : (List.range (ldlSources i.desc)).flatMap (fun k => opndAcc i.desc k false) ++
      (if old then opndAcc i.desc 2 false else []) ++ (List.range outs).flatMap (fun o =>
        tailAcc i.desc (fmtOf i.desc.fmt2) (elemBytes (fmtOf i.desc.fmt2) (o * i.desc.len0))) = accs)
    (hscalars : elemScalars s c i = (w, none, u))
    (hreads : readSources u c i srcs (elemSteps u c i srcs accs cop) = (rd, t))
    (hgood : rd.all (fun x => x.bad.isNone) = true) :
    ∃ p : LRep, p.errs = [] ∧ p.released = false ∧
      p.masked = ((List.range i.desc.len0).filter (masked t c i.desc)).length ∧
      p.retry = (rd.any (fun x => x.retry) || fedRetry t c 4 i.seq) ∧
      elementwise c s i old outs cop fn = ldlFinish (scramble (elemDelivered t c i w (masked t c i.desc) outs
        (fun e => fn (rd.map (fun x => x.vals.getD e .nan)) (bit (kReg t c i.desc.msel) (e % 512)))
        (elemSteps u c i srcs accs cop)) c (resRegs i.desc (outs * i.desc.len0)) []) c i p := by
  have hbads : rd.filterMap (fun x => x.bad) ++ (none.map (fun st : Nat => (0, st))).toList = [] := by
    simp [bads_of_all_good hgood]
  simp only [elemScalars] at hscalars
  simp only [elemSteps, readSources] at hreads
  simp only [elementwise, hsrcs, haccs, hscalars, hreads, hbads, cutAt_nil]
  refine ⟨_, ?_, ?_, ?_, ?_, congrArg (fun v => ldlFinish (scramble v c (resRegs i.desc (outs * i.desc.len0)) []) c i _) ?_⟩
  · rfl
  · rfl
  · rfl
  · rfl
  · cases hscaled : (fmtOf i.desc.fmt2).scaled with
    | true =>
      cases hopnd : ldlOpnd i.desc 2 <;>
        simp only [elemDelivered, hscaled, hopnd, if_true, map_zipIdx_map_range, fill_or_headD]
    | false =>
      rw [elemDelivered_unscaled hscaled]
      refine congrArg₂ (fun v rs => deliver v c i _ rs _) (by split <;> rfl) ?_
      refine List.flatMap_congr fun o _ => ?_
      simp only [ite_self]
      refine List.map_congr_left fun e he => ?_
      have hlt : e < i.desc.len0 := List.mem_range.mp he
      cases hhid : masked t c i.desc e <;> simp [hlt, hhid]

/-- The element-wise command of the head descriptor carries it out if it has elements. -/
theorem runElem_of_head {c op sub : Nat} {s : State} {i : Iss} (hhead : ldlHead s c op sub = some i) (hn : i.desc.len0 ≠ 0)
    (old : Bool) (outs cop : Nat) (fn : List Val → Bool → List Val) :
    runElem c op sub s old outs cop fn = .next (elementwise c s i old outs cop fn) := by
  simp [runElem, hhead, hn]

/-- R147, R150, R151: the commands of the element-wise operations, each with its operation, its sub-operation, whether it reads the
old result, and the value of an element from those of its sources and its selector bit (log entry 89). -/
def elemOps (c : Core) : List (Instr × Nat × Nat × Bool × (List Val → Bool → List Val)) :=
  [(.load c, ldLoad, 0, false, fun v _ => v), (.store c, ldStore, 0, false, fun v _ => v),
    (.zero c, ldZero, 0, false, fun _ _ => [.fin false 0]),
    (.elemAdd c, ldElem, 0, false, fun v _ => [(v.getD 0 .nan).add (v.getD 1 .nan)]),
    (.elemSub c, ldElem, 1, false, fun v _ => [(v.getD 0 .nan).add (v.getD 1 .nan).neg]),
    (.elemMul c, ldElem, 2, false, fun v _ => [(v.getD 0 .nan).mul (v.getD 1 .nan)]),
    (.elemFma c, ldElem, 3, true, fun v _ => [((v.getD 0 .nan).mul (v.getD 1 .nan)).add (v.getD 2 .nan)]),
    (.elemMax c, ldElem, 4, false, fun v _ => [vmax (v.getD 0 .nan) (v.getD 1 .nan)]),
    (.elemMin c, ldElem, 5, false, fun v _ => [vmin (v.getD 0 .nan) (v.getD 1 .nan)]),
    (.elemAbs c, ldElem, 6, false, fun v _ => [(v.getD 0 .nan).abs]),
    (.elemNeg c, ldElem, 7, false, fun v _ => [(v.getD 0 .nan).neg]),
    (.elemCvt c, ldElem, 8, false, fun v _ => [v.getD 0 .nan]),
    (.elemSel c, ldElem, 9, false, fun v b => [if b then v.getD 0 .nan else v.getD 1 .nan])]

theorem exec_elemOps (c : Core) (s : State) : ∀ k ∈ elemOps c,
    exec k.1 s = runElem c k.2.1 k.2.2.1 s k.2.2.2.1 1 1 k.2.2.2.2 := by
  simp only [elemOps, List.forall_mem_cons]
  exact ⟨rfl, rfl, rfl, rfl, rfl, rfl, rfl, rfl, rfl, rfl, rfl, rfl, rfl, List.forall_mem_nil _⟩

/-- R158: the commands of the functions, each with its sub-operation, its results per element and its ck per step. -/
def funcOps (c : Core) : List (Instr × Nat × Nat × Nat) :=
  [(.exp2 c, 0, 1, 2), (.log2 c, 1, 1, 3), (.rcp c, 2, 1, 2), (.rsqrt c, 3, 1, 2), (.tanh c, 4, 1, 5), (.erf c, 5, 1, 4),
    (.sincos c, 6, 2, 3)]

theorem exec_funcOps (c : Core) (s : State) : ∀ k ∈ funcOps c, exec k.1 s =
    runElem c ldFunc k.2.1 s false k.2.2.1 k.2.2.2 (fun v _ => funcValue k.2.1 (v.getD 0 .nan)) := by
  simp only [funcOps, List.forall_mem_cons]
  exact ⟨rfl, rfl, rfl, rfl, rfl, rfl, rfl, List.forall_mem_nil _⟩

/-- Settles O21: the command carries out the head descriptor, whose one result per element is delivered plain or in scaled
tiles. -/
theorem ladleElementOperationsComplete : Obligations.LadleElementOperationsComplete := by
  intro c s i hn k hk hhead d n f w srcs step steps r t hid out hw hgood
  obtain ⟨p, herrs, hreleased, hmasked, hretry, hrun⟩ := elementwise_of_read (c := c) (s := s) (u := w.2.2) (t := t) (cop := 1)
    (fn := k.2.2.2.2) (w := w.1) (rd := r.1) rfl (congrArg _ (tailAcc_one d f n)) (Prod.ext rfl (Prod.ext hw rfl)) rfl hgood
  rw [exec_elemOps c s k hk, runElem_of_head hhead hn, hrun]
  refine ⟨p, herrs, hreleased, hmasked, hretry, fun hscaled => ?_, fun reg loc code hscaled hopnd => ?_⟩
  · rw [elemDelivered_unscaled hscaled, elemResults_one, one_mul]
    rfl
  · rw [elemDelivered_scaled hscaled hopnd, resRegs_of_mem hopnd]

/-- Settles O22: the command carries out the head descriptor, whose results are delivered set after set. -/
theorem ladleFunctionsComplete : Obligations.LadleFunctionsComplete := by
  intro c s i hn hscaled k hk hhead d n outs f w srcs step steps r t hid out hw hgood
  obtain ⟨p, herrs, hreleased, hmasked, hretry, hrun⟩ := elementwise_of_read (c := c) (s := s) (u := w.2.2) (t := t)
    (old := false) (outs := outs) (cop := k.2.2.2) (fn := fun v _ => funcValue k.2.1 (v.getD 0 .nan)) (w := w.1) (rd := r.1)
    (List.append_nil srcs) (congrArg (· ++ _) (List.append_nil _)) (Prod.ext rfl (Prod.ext hw rfl)) rfl hgood
  rw [exec_funcOps c s k hk, runElem_of_head hhead hn, hrun, elemDelivered_unscaled hscaled]
  exact ⟨p, herrs, hreleased, hmasked, hretry, rfl⟩

end Sys2Proof.Machine
end

section
/-!
SUPPORT. Tokens (R178 to R180): the changes of a counter that a read sees, and what a signal does to them.
-/
namespace Sys2Proof.Machine

open Sys2Proof

/-! ## The Sprue of a core -/

/-- A change of a core's Sprue shows in that core. -/
@[simp] theorem State.core_modSpr_same (s : State) {c : Nat} (hc : c < 4) (f : SprueSt → SprueSt) :
    (s.modSpr c f).core c = { s.core c with spr := f (s.core c).spr } := by
  simp [State.modSpr, State.modCore, State.core, hc]

/-- A change of a core's Sprue leaves the other cores. -/
theorem State.core_modSpr_other (s : State) {c d : Nat} (hd : d < 4) (hne : d ≠ c) (f : SprueSt → SprueSt) :
    (s.modSpr c f).core d = s.core d := by
  simp [State.modSpr, State.modCore, State.core, hd, hne]

/-! ## Changes that wait in order -/

/-- What the changes of a list, in their order, make of the value `v` of counter `id`. -/
def counted (id : Nat) (l : List Fresh) (v : Nat) : Nat := (l.filter (fun x => x.id == id)).foldl (fun v x => x.on v) v

theorem counted_append (id : Nat) (l k : List Fresh) (v : Nat) : counted id (l ++ k) v = counted id k (counted id l v) := by
  simp [counted]

theorem counted_singleton (id : Nat) (x : Fresh) (v : Nat) : counted id [x] v = if x.id = id then x.on v else v := by
  by_cases h : x.id = id <;> simp [counted, h]

/-- A counter with those of its changes that a test picks: its value at rest, changed by them. -/
theorem tokenWith_eq_counted (s : State) (c id : Nat) (f : Fresh → Bool) :
    tokenWith s c id f = counted id ((s.core c).spr.fresh.filter f) (sget 0 (s.core c).spr.tokens id) := by
  simp [tokenWith, counted, List.filter_filter]

/-- Where the changes of earlier ck enter a canonical map of counters, each counter takes its own. -/
theorem sget_foldl_changes (ck id : Nat) : ∀ (l : List Fresh) (m : SMap Nat), swf 0 m = true →
    sget 0 (l.foldl (fun m x => if x.ck < ck then sset 0 m x.id (x.on (sget 0 m x.id)) else m) m) id =
      counted id (l.filter (fun x => decide (x.ck < ck))) (sget 0 m id)
  | [], _, _ => rfl
  | x :: l, m, hm => by
    rw [List.foldl_cons]
    by_cases hck : x.ck < ck
    · rw [if_pos hck, sget_foldl_changes ck id l _ (swf_sset 0 _ _ _ hm), sget_sset 0 _ _ _ _ hm,
        List.filter_cons_of_pos (by simpa using hck), ← List.singleton_append, counted_append, counted_singleton]
      by_cases hid : x.id = id
      · simp [hid]
      · simp [hid, Ne.symm hid]
    · rw [if_neg hck, sget_foldl_changes ck id l m hm, List.filter_cons_of_neg (by simpa using hck)]

/-- In a list whose members that pass a test come first, they are its front. -/
theorem filter_append_filter_not {α : Type} {R : α → α → Prop} {p : α → Bool}
    (hp : ∀ x y, R x y → p y = true → p x = true) : ∀ {l : List α}, l.Pairwise R → l.filter p ++ l.filter (fun x => !p x) = l
  | [], _ => rfl
  | x :: l, h => by
    obtain ⟨hx, hl⟩ := List.pairwise_cons.1 h
    have ih := filter_append_filter_not hp hl
    cases hpx : p x with
    | true => simp [hpx, ih]
    | false =>
      have hnone : l.filter p = [] := List.filter_eq_nil_iff.2 fun y hy hpy => by simp [hp x y (hx y hy) hpy] at hpx
      rw [hnone, List.nil_append] at ih
      simp [hpx, hnone, ih]

/-- Of a list into which `x` was put behind the members that pass a test, those that pass it. -/
theorem filter_inserted {α : Type} {p : α → Bool} {x : α} (l : List α) (hx : p x = true) :
    (l.filter p ++ x :: l.filter (fun y => !p y)).filter p = l.filter p ++ [x] := by
  simp [List.filter_filter, hx]

/-- Of a list into which `x` was put behind the members that pass a test, those that do not. -/
theorem filter_not_inserted {α : Type} {p : α → Bool} {x : α} (l : List α) (hx : p x = true) :
    (l.filter p ++ x :: l.filter (fun y => !p y)).filter (fun y => !p y) = l.filter (fun y => !p y) := by
  simp [List.filter_filter, hx]

theorem Fresh.key_bounds (x : Fresh) : 2 * x.ck ≤ x.key ∧ x.key ≤ 2 * x.ck + 1 := by
  unfold Fresh.key b2n
  split <;> omega

/-- R179: a signal of a ck is due with the signals of that ck. -/
theorem signal_due (id ck : Nat) : decide (({ id := id, ck := ck, val := none } : Fresh).key ≤ 2 * ck) = true :=
  decide_eq_true le_rfl

/-- The changes of earlier ck stand before those of this ck and later, so counting the ones and then the others is counting all. -/
theorem counted_split {l : List Fresh} (hord : l.Pairwise (fun x y => x.key ≤ y.key)) (ck id v : Nat) :
    counted id ((l.filter (fun x => decide (ck ≤ x.ck))).filter (fun x => decide (x.key ≤ 2 * ck)))
      (counted id (l.filter (fun x => decide (x.ck < ck))) v) =
      counted id (l.filter (fun x => decide (x.key ≤ 2 * ck))) v := by
  have hsplit := filter_append_filter_not (p := fun x => decide (x.ck < ck)) (fun x y hxy hy => by
    have hx := x.key_bounds
    have hy' := y.key_bounds
    simp only [decide_eq_true_eq] at hy ⊢
    omega) hord
  have hearly : (l.filter (fun x => decide (x.ck < ck))).filter (fun x => decide (x.key ≤ 2 * ck)) =
      l.filter (fun x => decide (x.ck < ck)) := List.filter_eq_self.2 fun x hx => by
    have hk := x.key_bounds
    simp only [List.mem_filter, decide_eq_true_eq] at hx ⊢
    omega
  conv_rhs => rw [← hsplit, List.filter_append, counted_append, hearly]
  simp only [← Nat.not_lt, decide_not]

/-! ## Putting a change -/

section

variable {s : State} {c id t : Nat} {val : Option Nat}

@[simp] theorem settleTokens_ck : (settleTokens s c).ck = s.ck := rfl

@[simp] theorem putToken_ck : (putToken s c id t val).ck = s.ck := rfl

@[simp] theorem putToken_regs : (putToken s c id t val).regs = s.regs := rfl

theorem putToken_core_other {d : Nat} (hd : d < 4) (hne : d ≠ c) : (putToken s c id t val).core d = s.core d := by
  simp [putToken, settleTokens, State.core_modSpr_other, hd, hne]

/-- R179: the changes of earlier ck have entered the counters. -/
theorem sget_putToken (hc : c < 4) (hwf : swf 0 (s.core c).spr.tokens = true) (j : Nat) :
    sget 0 ((putToken s c id t val).core c).spr.tokens j =
      counted j ((s.core c).spr.fresh.filter (fun x => decide (x.ck < s.ck))) (sget 0 (s.core c).spr.tokens j) := by
  simp [putToken, settleTokens, hc, sget_foldl_changes s.ck j _ _ hwf]

/-- R179: the new change stands behind those of its key and before those of a later one. -/
theorem putToken_fresh (hc : c < 4) : ((putToken s c id t val).core c).spr.fresh =
    ((s.core c).spr.fresh.filter (fun x => decide (s.ck ≤ x.ck))).filter (fun x => decide (x.key ≤ 2 * t + b2n val.isSome)) ++
      { id := id, ck := t, val := val } ::
      ((s.core c).spr.fresh.filter (fun x => decide (s.ck ≤ x.ck))).filter (fun x => !decide (x.key ≤ 2 * t + b2n val.isSome)) := by
  rw [putToken, settleTokens, State.core_modSpr_same _ hc, State.core_modSpr_same _ hc]
  rfl

/-- R179: a change of this ck or a later one leaves the counters of this ck. -/
theorem putToken_token (hc : c < 4) (hwf : swf 0 (s.core c).spr.tokens = true) (ht : s.ck ≤ t) (j : Nat) :
    (putToken s c id t val).token c j = s.token c j := by
  have hlate : ((putToken s c id t val).core c).spr.fresh.filter (fun x => decide (x.ck < s.ck)) = [] := by
    rw [putToken_fresh hc]
    simp only [List.filter_eq_nil_iff, List.mem_append, List.mem_cons, List.mem_filter, decide_eq_true_eq]
    rintro x (⟨⟨-, hx⟩, -⟩ | rfl | ⟨⟨-, hx⟩, -⟩)
    · exact Nat.not_lt.2 hx
    · exact Nat.not_lt.2 ht
    · exact Nat.not_lt.2 hx
  rw [State.token, tokenWith_eq_counted, putToken_ck, hlate, sget_putToken hc hwf, State.token, tokenWith_eq_counted]
  rfl

end

/-! ## A signal -/

section

variable {s : State} {c id : Nat}

theorem signalToken_full {t : Nat} (h : tokenWith s c id (fun x => decide (x.key ≤ 2 * t)) = 0xFFFF) :
    signalToken s c id t = raise .spr c 7 s := if_pos h

/-- Two states whose ck, registers, counters and changes of counters are the same. -/
structure CountsAs (u v : State) : Prop where
  ck : u.ck = v.ck
  regs : u.regs = v.regs
  counters : ∀ d, d < 4 → (u.core d).spr.tokens = (v.core d).spr.tokens ∧ (u.core d).spr.fresh = (v.core d).spr.fresh

theorem CountsAs.tokenWith {u v : State} (h : CountsAs u v) {d : Nat} (hd : d < 4) (j : Nat) (f : Fresh → Bool) :
    tokenWith u d j f = Machine.tokenWith v d j f := by
  obtain ⟨htokens, hfresh⟩ := h.counters d hd
  rw [tokenWith_eq_counted, tokenWith_eq_counted, htokens, hfresh]

theorem CountsAs.token {u v : State} (h : CountsAs u v) {d : Nat} (hd : d < 4) (j : Nat) : u.token d j = v.token d j := by
  rw [State.token, h.ck]
  exact h.tokenWith hd j _

/-- R204: the note of the late signals of a core is no part of its counters. -/
theorem countsAs_late (s : State) (c : Nat) (late : SprueSt → SMap Nat) :
    CountsAs (s.modSpr c (fun p => { p with late := late p })) s := by
  refine ⟨rfl, rfl, fun d hd => ?_⟩
  rcases eq_or_ne d c with rfl | hne
  · rw [State.core_modSpr_same s hd]
    exact ⟨rfl, rfl⟩
  · rw [State.core_modSpr_other s hd hne]
    exact ⟨rfl, rfl⟩

/-- R178, R179: a signal to a counter that is not full puts its change. -/
theorem signalToken_countsAs {t : Nat} (h : tokenWith s c id (fun x => decide (x.key ≤ 2 * t)) ≠ 0xFFFF) :
    CountsAs (signalToken s c id t) (putToken s c id t none) := by
  rw [signalToken, if_neg h]
  dsimp only
  split
  · exact countsAs_late ..
  · exact ⟨rfl, rfl, fun _ _ => ⟨rfl, rfl⟩⟩

section

variable (hc : c < 4)
include hc

/-- R179: among the changes due by the end of this ck's signals a new signal stands last. -/
theorem putToken_signal_due : ((putToken s c id s.ck none).core c).spr.fresh.filter (fun x => decide (x.key ≤ 2 * s.ck)) =
    ((s.core c).spr.fresh.filter (fun x => decide (s.ck ≤ x.ck))).filter (fun x => decide (x.key ≤ 2 * s.ck)) ++
      [{ id := id, ck := s.ck, val := none }] := by
  rw [putToken_fresh hc]
  exact filter_inserted (p := fun x : Fresh => decide (x.key ≤ 2 * s.ck)) _ (signal_due id s.ck)

/-- R179: a new signal leaves the changes that are due later. -/
theorem putToken_signal_later : ((putToken s c id s.ck none).core c).spr.fresh.filter (fun x => decide (2 * s.ck < x.key)) =
    (s.core c).spr.fresh.filter (fun x => decide (2 * s.ck < x.key)) := by
  have hlater : ∀ x : Fresh, decide (2 * s.ck < x.key) = !decide (x.key ≤ 2 * s.ck) := fun x => by
    simp only [← decide_not, Nat.not_le]
  simp only [putToken_fresh hc, hlater]
  refine (filter_not_inserted (p := fun x : Fresh => decide (x.key ≤ 2 * s.ck)) _ (signal_due id s.ck)).trans ?_
  rw [List.filter_filter]
  refine List.filter_congr fun x _ => ?_
  have hk := x.key_bounds
  simp only [← hlater, Bool.and_eq_left_iff_imp, decide_eq_true_eq]
  omega

/-- R178: a signal adds 1 to its own counter, which stays at 0xFFFF, and to no other. -/
theorem putToken_signal_counts (hwf : swf 0 (s.core c).spr.tokens = true)
    (hord : (s.core c).spr.fresh.Pairwise (fun x y => x.key ≤ y.key)) (j : Nat) :
    tokenWith (putToken s c id s.ck none) c j (fun x => decide (x.key ≤ 2 * s.ck)) =
      if j = id then min 0xFFFF (tokenWith s c j (fun x => decide (x.key ≤ 2 * s.ck)) + 1)
      else tokenWith s c j (fun x => decide (x.key ≤ 2 * s.ck)) := by
  rw [tokenWith_eq_counted, tokenWith_eq_counted, putToken_signal_due hc, sget_putToken hc hwf, counted_append,
    counted_split hord, counted_singleton]
  simp only [eq_comm (a := id), Fresh.on]

end

end

/-- Settles O54: a signal that is not lost at 0xFFFF puts one change, behind this ck's signals and before anything later. -/
theorem signalsCount : Obligations.SignalsCount := by
  intro s c id hc hwf hord upTo t
  refine ⟨signalToken_full, fun hfull => ?_⟩
  have hcounts : CountsAs t (putToken s c id s.ck none) := signalToken_countsAs hfull
  refine ⟨fun j => ?_, fun j => ?_, ?_, fun d j hd hne => ?_, hcounts.regs⟩
  · rw [hcounts.token hc, putToken_token hc hwf le_rfl]
  · exact (hcounts.tokenWith hc j _).trans (putToken_signal_counts hc hwf hord j)
  · rw [(hcounts.counters c hc).2, putToken_signal_later hc]
  · rw [hcounts.token hd, State.token, State.token, tokenWith_eq_counted, tokenWith_eq_counted, putToken_core_other hd hne]
    rfl

end Sys2Proof.Machine
end

section
/-!
SUPPORT. The Sprue's own operations (R185, R187, R188, R196): what one that is ready does, and the words it reads from memory.
-/
namespace Sys2Proof.Machine

open Sys2Proof

/-! ## An operation that is ready -/

/-- R171, R187: the state in which a Sprue descriptor whose waits hold acts: it has left `cur` and its consumes are made. -/
def sprueBegun (t : State) (c : Nat) (i : Iss) : State := consume (t.modSpr c (fun p => { p with cur := none })) c i.desc

/-- R187: region 0 needs no answer, or its answers are there. -/
def SprueFed (t : State) (c : Nat) (i : Iss) : Prop :=
  sprueAsks t i.desc = false ∨ ((findReq t c 6 i.seq).isSome = true ∧ fedAll t c 6 i.seq = true)

/-- R187: region 0 comes as answers and has not been asked for. -/
def SprueUnasked (t : State) (c : Nat) (i : Iss) : Prop := sprueAsks t i.desc = true ∧ (findReq t c 6 i.seq).isNone = true

/-- R187: the state in which a Sprue descriptor has asked for the first `n` bytes of region 0; its waits hold from now on. -/
def sprueAsking (t : State) (c : Nat) (i : Iss) (n : Nat) : State :=
  let d := i.desc
  let v := (consume t c d).modSpr c (fun p => { p with cur := some { i with desc := { d with waits := [] } } })
  let v := modRun v c (fun r => { r with requesters := r.requesters.filter (fun q => q.eng != 6) })
  grantSlots (addReq v c (newReq 6 i.seq (sectorReqs d.reg0 0 (min n d.reg0.bytes) 0))) c

section

variable {c op : Nat} {s t : State} {i : Iss} (hready : sprueReady s c op = some (i, t))
include hready

/-- R187: an operation that is ready has its effect `f`, takes its time and ends. -/
theorem runSprue_of_ready (f : Iss → State → State × Nat × Nat × Nat) {w : State} {st n k : Nat}
    (hf : f i (sprueBegun t c i) = (w, st, n, k)) : runSprue c op s f = .next (sprueEnd w c i st n k) := by
  rw [sprueBegun] at hf
  simp only [runSprue, hready, hf]

variable {used : Desc → Bool} {n : Nat}

/-- An operation that reads no word asks for none. -/
theorem sprueAsked_of_unused (hused : used i.desc = false) : sprueAsked s c op n used = .inr s := by
  simp [sprueAsked, hready, hused]

/-- An operation whose words are there, or need no answer, asks for none. -/
theorem sprueAsked_of_fed (hfed : SprueFed t c i) : sprueAsked s c op n used = .inr s := by
  rcases hfed with hnear | ⟨hasked, hthere⟩
  · simp [sprueAsked, hready, hnear]
  · simp [sprueAsked, hready, hasked, hthere]

/-- An operation whose words come as answers asks for them. -/
theorem sprueAsked_of_unasked (hused : used i.desc = true) (hasks : SprueUnasked t c i) :
    sprueAsked s c op n used = .inl (sprueAsking t c i n) := by
  obtain ⟨hfar, hnone⟩ := hasks
  simp [sprueAsked, hready, hused, hfar, Option.isNone_iff_eq_none.1 hnone, sprueAsking]

end

/-! ## The operations -/

section

variable {c : Core} {s t : State} {i : Iss}

theorem execNop_of_ready (hready : sprueReady s c 0 = some (i, t)) :
    execNop c s = .next (sprueEnd (sprueBegun t c i) c i stOk 1 1) := runSprue_of_ready hready _ rfl

/-- R183: the masked predicate bits take their values. -/
theorem execPset_of_ready (hready : sprueReady s c 2 = some (i, t)) :
    execPset c s =
      (let m := BitVec.ofNat 64 (i.desc.len0 + i.desc.len1 * 2 ^ 32)
       let u := sprueBegun t c i
       .next (sprueEnd (u.setReg SPR.PRED
         ((BitVec.ofNat 64 (u.reg SPR.PRED c) &&& ~~~m) ||| (BitVec.ofNat 64 i.desc.w38 &&& m)).toNat c) c i stOk 1 1)) :=
  runSprue_of_ready hready _ rfl

theorem execSeed_of_ready (hready : sprueReady s c 4 = some (i, t)) :
    execSeed c s = .next (sprueEnd ((sprueBegun t c i).setReg SPR.JOB_SEED i.desc.w38 c) c i stOk 1 1) :=
  runSprue_of_ready hready _ rfl

/-- R179: the counters of the range are set. -/
theorem execTokset_of_ready (hready : sprueReady s c 5 = some (i, t)) :
    execTokset c s = .next (sprueEnd ((List.range i.desc.len1).foldl
      (fun s k => setToken s c (i.desc.len0 % 4096 + k) s.ck (i.desc.len2 % 2 ^ 16)) (sprueBegun t c i)) c i stOk
      (max 1 (ceilDiv i.desc.len1 64)) 1) := runSprue_of_ready hready _ rfl

theorem execStop_of_ready (hready : sprueReady s c 8 = some (i, t)) :
    execStop c s = .next (sprueEnd (raise .spr c 10
      (((sprueBegun t c i).setFld SPR.STATE_STREAM stStopped c).setFld SPR.CTRL_RUN 0 c)) c i stOk 1 1) :=
  runSprue_of_ready hready _ rfl

/-- R196: a user pattern that no issued descriptor names is unmapped; a vendor's stays. -/
theorem execPatfree_of_ready (hready : sprueReady s c 7 = some (i, t)) (hfree : patInUse s c (i.desc.param % 1024) = false) :
    execPatfree c s = .next (sprueEnd (if 256 ≤ i.desc.param % 1024 then patUnmap (sprueBegun t c i) c (i.desc.param % 1024)
      else sprueBegun t c i) c i stOk 1 1) := by
  simp only [execPatfree, hready, hfree, Bool.false_eq_true, if_false]
  exact runSprue_of_ready hready _ rfl

/-! ### `LOOP` (R185) -/

section

variable (hready : sprueReady s c 1 = some (i, t))
include hready

/-- A `LOOP` with its count in the descriptor: a count of 0 passes over the body. -/
theorem execLoop_of_len (hword : bit i.desc.param 0 = false) : execLoop c s = .next
    (if i.desc.len0 = 0 then sprueEnd (sprueBegun t c i) c i stOk 1 (1 + i.desc.len1)
     else sprueEnd (enterLoop (sprueBegun t c i) c i.desc.len0 i.desc.len1) c i stOk 1 1) := by
  rw [execLoop, sprueAsked_of_unused hready hword]
  split_ifs with hn <;> exact runSprue_of_ready hready _ (by simp [hword, hn])

/-- A `LOOP` with its count in memory, once the count is there. -/
theorem execLoop_of_word (hword : bit i.desc.param 0 = true) (hfed : SprueFed t c i) : execLoop c s =
    (let u := sprueBegun t c i
     let w := firstWord u c i
     .next (if w.1 = 0 then sprueEnd w.2 c i stOk (wordTime u i.desc) (1 + i.desc.len1)
       else sprueEnd (enterLoop w.2 c w.1 i.desc.len1) c i stOk (wordTime u i.desc) 1)) := by
  rw [execLoop, sprueAsked_of_fed hready hfed]
  dsimp only
  split_ifs with hn <;> exact runSprue_of_ready hready _ (by simp [hword, hn])

theorem execLoop_asks (hword : bit i.desc.param 0 = true) (hasks : SprueUnasked t c i) :
    execLoop c s = .next (sprueAsking t c i 4) := by
  rw [execLoop, sprueAsked_of_unasked hready hword hasks]

end

/-! ### `PTEST` (R187) -/

theorem execPtest_of_ready (hready : sprueReady s c 3 = some (i, t)) (hfed : SprueFed t c i) : execPtest c s =
    (let u := sprueBegun t c i
     let w := firstWord u c i
     .next (sprueEnd (w.2.setReg SPR.PRED (setBits (w.2.reg SPR.PRED c) (i.desc.param % 64) 1
       (b2n (w.1 &&& i.desc.len1 == i.desc.len2))) c) c i stOk (wordTime u i.desc) 1)) := by
  rw [execPtest, sprueAsked_of_fed hready hfed]
  exact runSprue_of_ready hready _ rfl

theorem execPtest_asks (hready : sprueReady s c 3 = some (i, t)) (hasks : SprueUnasked t c i) :
    execPtest c s = .next (sprueAsking t c i 4) := by
  rw [execPtest, sprueAsked_of_unasked hready rfl hasks]

/-! ### `PATLOAD` (R196, R197) -/

section

variable (hready : sprueReady s c 6 = some (i, t)) (hslot : (patIds s c (bits i.desc.param 10 6)).any (patInUse s c) = false)
  (hid : patInUse s c (i.desc.param % 1024) = false)
include hready hslot hid

/-- A good image, signed where it must be, takes the slot. -/
theorem execPatload_of_good (hfed : SprueFed t c i)
    (hgot : (findReq (sprueBegun t c i) c 6 i.seq).any (fun q => q.got.any (fun x => x.2.bad != 0)) = false) :
    let u := sprueBegun t c i
    let d := i.desc
    let n := fieldAt (sprueBytes u c i 32).1 2 1 + 1
    let r := sprueBytes u c i (0x20 + 32 * n)
    let v := dropReq r.2 c 6 i.seq
    signedOk u c r.1 = true → patImageOk (d.param % 1024) r.1 = true → execPatload c s = .next (sprueEnd
      (patStore (patUnmap v c (d.param % 1024)) c (d.param % 1024) (bits d.param 10 6) r.1) c i stOk
      ((if sprueAsks u d then 0 else wordLatency v d.reg0.type) + n + 64) 1) := by
  intro u d n r v hsigned hgood
  simp only [execPatload, hready, hslot, hid, Bool.or_self, Bool.false_eq_true, if_false, sprueAsked_of_fed hready hfed]
  refine runSprue_of_ready hready _ ?_
  simp [hgot, u, d, n, r, v, hsigned, hgood]

theorem execPatload_asks (hasks : SprueUnasked t c i) : execPatload c s = .next (sprueAsking t c i (0x20 + 32 * 256)) := by
  have hasking := sprueAsked_of_unasked (used := fun _ => true) (n := 0x20 + 32 * 256) hready rfl hasks
  simp only [execPatload, hready, hslot, hid, Bool.or_self, Bool.false_eq_true, if_false, hasking]

end

end

/-- Settles O12: operation by operation. -/
theorem sprueOperationsComplete : Obligations.SprueOperationsComplete := by
  intro c s t i u d asks fed asked
  exact ⟨execNop_of_ready, execLoop_of_len, execPset_of_ready, execLoop_of_word, execLoop_asks, execPtest_of_ready,
    execPtest_asks, execSeed_of_ready, execTokset_of_ready,
    fun hready hslot hid => ⟨execPatload_of_good hready hslot hid, execPatload_asks hready hslot hid⟩,
    execPatfree_of_ready, execStop_of_ready⟩

end Sys2Proof.Machine
end

section
/-!
SUPPORT. The commands of a descriptor stream (R168 to R172, R179 to R183, R189 to R192).
-/
namespace Sys2Proof.Machine

open Sys2Proof

section

variable {c : Core} {s : State}

/-! ## Fetch, issue, release and completion -/

/-- R169: a group of descriptors whose first in the window is good enters it. -/
theorem execDescFetch_good {n a : Nat} {e : WinEnt} {w : List WinEnt}
    (ha : (s.reg SPR.RING_HEAD c + (s.core c).spr.window.length) % ringSize s c = a)
    (hn : min 8 (ringDist s c a (s.reg SPR.RING_TAIL c)) = n) (hon : streamOn s c = true)
    (hroom : (s.core c).spr.window.length + 8 ≤ 64) (hpos : 0 < n)
    (hwin : ((fetchGroup s c n a).core c).spr.window = e :: w) (hgood : e.bad = false) :
    execDescFetch c s = .next (fetchGroup s c n a) := by
  simp [execDescFetch, ha, hn, hon, hroom, hpos, hwin, hgood]

/-- R170, R208: the head of the window issues when nothing holds it and no idle frame stops a descriptor that waits in `cur`. -/
theorem execDescIssue_head {e : WinEnt} {w : List WinEnt} (hon : streamOn s c = true) (hcur : (s.core c).spr.cur = none)
    (hidle : s.idleFrame = false ∨ (e.desc.engine ≠ 0 ∧ (s.core c).spr.passHead = false))
    (hwin : (s.core c).spr.window = e :: w) (hgood : e.bad = false)
    (hfree : ((s.core c).spr.passHead || !issueHeld s c e.desc) = true) :
    execDescIssue c s = .next (issueHead (s.setFld SPR.STATE_Q_FULL 0 c) c e) := by
  have hruns : (s.idleFrame && (e.desc.engine == 0 || (s.core c).spr.passHead)) = false := by
    rcases hidle with hno | ⟨heng, hpass⟩
    · simp [hno]
    · simp [heng, hpass]
  have hheld : (!(s.core c).spr.passHead && issueHeld s c e.desc) = false := by
    rw [← Bool.not_eq_true', Bool.not_and, Bool.not_not]
    exact hfree
  simp [execDescIssue, hon, hcur, hwin, hruns, hgood, hheld]

/-- R171: the head of a queue is released in the first ck in which its waits hold, when it is first to call and accepted. -/
theorem execDescRelease_accepted {q : EngQ} {t : State} {i : Iss} {r : List Iss} (hqueue : (s.eng c q).queue = i :: r)
    (hquench : s.quenched = false) (hidle : s.idleFrame = false) (hfresh : (i.stale && i.desc.onStale) = false)
    (hwaits : (waitsFrom s c i.desc).bind (fun u => waitsFrom (u.upTo (engineFree s c q)) c i.desc) = some t)
    (hrun : i.skip = false) (hfirst : firstCall (covProgress t c) c q i = true)
    (haccepts : accepts (covProgress t c) c q i = true) : execDescRelease c q s = .next (release (covProgress t c) c q i) := by
  simp [execDescRelease, hqueue, hquench, hidle, hfresh, hwaits, hrun, hfirst, haccepts]

/-- R172, R270, R315: the oldest released descriptor of a queue completes once it has finished and its writes are done. -/
theorem execDescComplete_done {q : EngQ} {i : Iss} {r : List Iss} {f : Fin'} (hrun : (s.eng c q).run = i :: r)
    (hfin : (s.eng c q).fin.find? (fun f => f.iss.seq == i.seq) = some f) (hdone : writesDone s c i = true) :
    execDescComplete c q s = .next (complete
      (modEng s c q (fun e => { e with run := r, fin := e.fin.filter (fun f => f.iss.seq != i.seq) })) c f) := by
  simp only [execDescComplete, hrun, hfin, hdone, if_true]

/-! ## Writes from outside (R168, R179, R180, R183) -/

/-- R207: in open timing an outside event takes effect at once. -/
theorem outside_open (hopen : s.locked = false) (e : ExtEvt) (now : State → State) : outside s e now = now s := by
  simp [outside, hopen]

section

variable (hpage : s.pageState .spr c ≠ pgQuenched) (hopen : s.locked = false)
include hpage hopen

theorem execRingTailWrite_open (v : BitVec 16) : execRingTailWrite c v s = .next (applyRingTail s c v.toNat) := by
  rw [execRingTailWrite, if_neg hpage, outside_open hopen]

theorem execTokSignal_open (t : BitVec 12) : execTokSignal c t s = .next (applySignal s c t.toNat s.ck) := by
  rw [execTokSignal, if_neg hpage, outside_open hopen]

theorem execTokData_open (v : BitVec 16) :
    execTokData c v s = .next (setToken s c (s.fld SPR.TOK_ADDR_A c) s.ck v.toNat) := by
  simp only [execTokData, if_neg hpage, outside_open hopen]

theorem execPredWrite_open (v : BitVec 64) : execPredWrite c v s = .next (s.setReg SPR.PRED v.toNat c) := by
  rw [execPredWrite, if_neg hpage, outside_open hopen]

end

/-- R180: the oldest signal from another core arrives when it is due. -/
theorem execTokenSignalDeliver_due {t id : Nat} {r : List (Nat × Nat)} (hdue : (s.core c).spr.sigDue = (t, id) :: r) :
    execTokenSignalDeliver c s = .next
      (signalToken ((s.modSpr c (fun p => { p with sigDue := r })).upTo t) c id (max s.ck t)) := by
  rw [execTokenSignalDeliver, hdue]

/-! ## Start, resume and the watch (R191, R192, R198, R199) -/

/-- R191, R198: setting `RUN` starts an IDLE or STOPPED stream with a legal ring. -/
theorem execSprCtrlRun_start (hquench : s.stream c ≠ stQuenched) (hpage : s.pageOn .spr c = true)
    (hstopped : s.stream c = stIdle ∨ s.stream c = stStopped) (hring : ringOk s c = true) :
    execSprCtrlRun c true s = .next
      (askStart ((s.setFld SPR.CTRL_RUN 1 c).modSpr c (fun p => { p with window := [], passHead := false })) c) := by
  rw [execSprCtrlRun, if_neg (by simp [hquench, hpage]), if_pos rfl, if_pos ⟨hstopped, hring⟩]

/-- R192: a HALTED stream continues with `RUN` set, and is IDLE with it clear. -/
theorem execSprCtrlResume_halted (m : Bool) (hpage : s.pageState .spr c ≠ pgQuenched)
    (hhalted : (s.setFld SPR.CTRL_RESUME_MODE (b2n m) c).stream c = stHalted) :
    execSprCtrlResume c m s =
      (let v := (s.setFld SPR.CTRL_RESUME_MODE (b2n m) c).modSpr c (fun p => { p with
         window := [], cur := none, curStatus := 0, passHead := m })
       .next (if v.flag SPR.CTRL_RUN c then askStart v c else v.setFld SPR.STATE_STREAM stIdle c)) := by
  simp only [execSprCtrlResume, if_neg hpage, if_pos hhalted, apply_ite Host.Outcome.next]

end

theorem execNoProgressTimeout_due {w : Watch} {s : State} {t : Nat} (hwatch : watchFrom s w = some t) :
    execNoProgressTimeout w s =
      .next (raise (watchLimit s w).1 (watchLimit s w).2.1 3 (s.upTo (t + (watchLimit s w).2.2))) := by
  rw [execNoProgressTimeout, hwatch]

/-- Settles O13: each command in the one branch its conditions leave. -/
theorem sprueStreamCommandsComplete : Obligations.SprueStreamCommandsComplete :=
  ⟨fun _ _ _ _ => execDescFetch_good rfl rfl, fun _ _ _ _ => execDescIssue_head, fun _ _ _ _ _ _ => execDescRelease_accepted,
    fun _ _ _ _ _ _ => execDescComplete_done,
    fun _ _ hpage hopen => ⟨execRingTailWrite_open hpage hopen, execTokSignal_open hpage hopen, execTokData_open hpage hopen,
      execPredWrite_open hpage hopen⟩,
    fun _ _ _ _ _ => execTokenSignalDeliver_due, fun _ _ => execSprCtrlRun_start, fun _ m _ => execSprCtrlResume_halted m,
    fun _ _ _ => execNoProgressTimeout_due⟩

end Sys2Proof.Machine
end

section
/-!
SUPPORT. The commands of packets and of remote requests (R180, R232, R311 to R322).
-/
namespace Sys2Proof.Machine

open Sys2Proof

/-! ## Ports and packets -/

/-- R320: the peer that a port sees is the one its place expects: a host, or a device by its ID. -/
def peerRight (s : State) (p : Nat) : Bool :=
  match expectedPeer s p with
  | none => s.flag AVL.PEER_HOST p
  | some d => !s.flag AVL.PEER_HOST p && s.fld AVL.PEER_ID p == d

section

variable {s t : State} {p : Nat} {m : Packet}

/-- R320: an enabled, trained port whose peer is the expected one becomes ACTIVE. -/
theorem execPortActivate_right {p : Port} (hup : s.port' p = ptUp) (henabled : bit (s.reg ROUT.PORT_EN) p = true)
    (hquench : s.quenched = false) (hself : s.flag ROUT.SELF_VALID = true) (hvalid : s.flag AVL.PEER_VALID p = true)
    (hright : peerRight s p = true) :
    execPortActivate p s = .next
      ((s.setFld AVL.STATE_PORT ptActive p).setReg ROUT.MISCABLED (setBits (s.reg ROUT.MISCABLED) p 1 0)) := by
  rw [execPortActivate, if_neg (by simp [hup, henabled, hquench, hself])]
  refine if_pos ?_
  rw [Bool.and_eq_true]
  exact ⟨hright, hvalid⟩

/-- R317: the next packet of this device that is ready moves on. -/
theorem execPacketRoute_own (hquench : s.quenched = false) (hown : nextOwn s = some (m, t)) :
    execPacketRoute s = .next (moveOn t m true) := by
  simp only [execPacketRoute, hquench, hown, Bool.false_eq_true, if_false]

/-- R312: the oldest malformed packet is dropped and counted. -/
theorem execBadMsg_found (hbad : s.inbox.find? (fun x => forMe s x.2 && kindClass x.2.mkind != some x.2.tc) = some (p, m)) :
    execBadMsg s =
      .next (raise .rout 0 7 ((freeFlits { s with inbox := s.inbox.erase (p, m) } p m).bump ROUT.BAD_MSG)) := by
  rw [execBadMsg, hbad]

/-- R180: in open timing a token message signals at once. -/
theorem execToken_open (hquench : s.quenched = false) (htaken : takeKind s 0x10 = some (p, m, t))
    (hopen : (lateCheck t m.fstamp).locked = false) :
    execToken s = .next (applySignal (lateCheck t m.fstamp) (bits m.word 12 2) (bits m.word 0 12) (lateCheck t m.fstamp).ck) := by
  simp only [execToken, hquench, htaken, Bool.false_eq_true, if_false, outside_open hopen]

/-! ## Requests at their target (R232, R313) -/

/-- R313: a read that lies in its memory and has a read's shape is served and answered. -/
theorem execRdReq_served (hquench : s.quenched = false) (htaken : takeKind s 0x01 = some (p, m, t))
    (hport : ¬ (p < 24 ∧ t.port' p = ptUp)) (hinside : rqInside t (rqRtype m) (rqTile m) (rqAddr m) (rqLen m) = true)
    (hshape : rdShape (rqTile m) (rqAddr m) (rqLen m) = true) : execRdReq s =
      (let r := serveRead t (rqRtype m) (rqTile m) (rqAddr m) (rqLen m)
       .next (otherAccess r.2 (fabricOwner p) (if rqRtype m = 0 then .tun else .hbm) false (rqTile m) (rqAddr m)
         (if rqTile m then 16384 else rqLen m) r.2.ck (some (answerTo r.2 m 2 0x02 (m.word % 2 ^ 16) r.1)))) := by
  simp only [execRdReq, hquench, htaken, Bool.false_eq_true, if_false, if_neg hport, hinside, hshape, Bool.and_self, if_true]

/-- R313, R232: a write that lies in its memory, and in the landing zone of the Tundish, is carried out and acknowledged. -/
theorem execWr_done (hquench : s.quenched = false) (htaken : takeKind s 0x03 = some (p, m, t)) :
    let u := lateCheck t m.fstamp
    let n := if rqTile m then 16384 else rqLen m
    rqInside u (rqRtype m) (rqTile m) (rqAddr m) n = true → rqLen m ≤ 18432 →
    (rqRtype m = 0 → inLanding u (rqAddr m) n = true) → execWr s =
      (let pl : Place := if rqRtype m = 0 then .tun else .hbm
       let v := if rqTile m then writeTile u pl (rqAddr m / 16384) (slice (rqData m) 0 16384) (slice (rqData m) 16384 2048)
         else writeChunks u pl (({ base := rqAddr m, rowBytes := n, rows := 1 } : Region).chunks (n + 1) 0 n) (rqData m)
       .next (otherAccess v (fabricOwner p) pl true (rqTile m) (rqAddr m) n v.ck
         (some (answerTo v m 2 0x04 (m.word % 2 ^ 16) [])))) := by
  intro u n hinside hlen hlanding
  have hfits : (!rqInside u (rqRtype m) (rqTile m) (rqAddr m) n || decide (18432 < rqLen m)) = false := by
    simp [hinside, hlen]
  have hland : ¬ (rqRtype m = 0 ∧ ¬ inLanding u (rqAddr m) n = true) := fun h => h.2 (hlanding h.1)
  simp only [execWr, hquench, htaken, Bool.false_eq_true, if_false]
  rw [if_neg (Bool.eq_false_iff.1 hfits), if_neg hland]

/-! ## Responses (R314, R315) -/

section

variable {r : RemReq} {f : Flight}

/-- R314: the answer to a read of the Steward is kept for it. -/
theorem execRdRsp_steward (htaken : takeKind s 0x02 = some (p, m, t)) (hanswered : answered t m false = some r)
    (hgood : (injRemote (lateCheck t m.fstamp) r).1 = false) (hcore : 4 ≤ r.core) : execRdRsp s =
      (let u := (injRemote (lateCheck t m.fstamp) r).2
       .next { u with
         remote := u.remote.erase r
         stwRsp := u.stwRsp ++ [(r.seq, 0, slice m.body (r.req.addr % 32) r.req.len)] }) := by
  simp only [execRdRsp, htaken, hanswered, hgood, Bool.false_eq_true, if_false, if_pos hcore]

/-- R314: the answer to a read of an engine is delivered to the read in flight that asked for it. -/
theorem execRdRsp_engine (htaken : takeKind s 0x02 = some (p, m, t)) (hanswered : answered t m false = some r)
    (hgood : (injRemote (lateCheck t m.fstamp) r).1 = false) (hcore : r.core < 4) :
    let u := (injRemote (lateCheck t m.fstamp) r).2
    let v : State := { u with remote := u.remote.erase r }
    (v.run r.core).flight.find? (fun f => f.eng == r.eng && f.seq == r.seq && f.req == r.req && !f.done) = some f →
    execRdRsp s = .next (grantSlots (deliverRead v r.core f
      (if r.req.tile then { payload := slice m.body 0 16384, side := slice m.body 16384 2048, bad := 0 }
       else { payload := slice m.body (r.req.addr - r.req.addr / 32 * 32) r.req.len, side := [], bad := 0 }) none) r.core) := by
  intro u v hflight
  simp only [v, u] at hflight
  simp only [execRdRsp, htaken, hanswered, hgood, Bool.false_eq_true, if_false, if_neg (Nat.not_le.2 hcore), hflight]
  cases r.req.tile <;> rfl

/-- R315: an acknowledged write of a core may let its descriptor complete and the writes that wait go on. -/
theorem execWrAck_core (htaken : takeKind s 0x04 = some (p, m, t)) (hanswered : answered t m true = some r)
    (hgood : (injRemote t r).1 = false) (hcore : r.core < 4) : execWrAck s =
      (let u := (injRemote t r).2
       let v : State := { u with remote := u.remote.erase r }
       .next (grantSlots (pumpWrites 64 (touchFin v r.core r.seq v.ck) r.core) r.core)) := by
  simp only [execWrAck, htaken, hanswered, hgood, Bool.false_eq_true, if_false, if_neg (Nat.not_le.2 hcore)]

/-- R313: an error response fails the request it answers. -/
theorem execErrRsp_found (htaken : takeKind s 0x05 = some (p, m, t))
    (hfound : t.remote.find? (fun r => r.tag == m.word % 2 ^ 16) = some r) :
    execErrRsp s = .next (failRemote (injRemote t r).2 r (bits m.word 16 8)) := by
  simp only [execErrRsp, htaken, hfound]

/-- R325: a register response reaches the Steward, which asked for it. -/
theorem execRegRsp_found (htaken : takeKind s 0x08 = some (p, m, t))
    (hfound : t.remote.find? (fun r => r.tag == m.word % 2 ^ 16 && decide (4 ≤ r.core)) = some r) :
    execRegRsp s = .next
      { t with remote := t.remote.erase r, stwRsp := t.stwRsp ++ [(r.seq, bits m.word 16 8, slice m.body 0 8)] } := by
  simp only [execRegRsp, htaken, hfound]

/-- R314: the request whose deadline is first fails there. -/
theorem execE2eTimeout_first (hfirst : firstDeadline s.remote = some r) :
    execE2eTimeout s = .next (failRemote (raise .rout 0 6 ((s.upTo r.deadline).bump ROUT.E2E_LOST)) r 0xFD) := by
  rw [execE2eTimeout, hfirst]

end

end

/-- Settles O29: ports and packets, requests at their target, and responses, each in the branch its conditions leave. -/
theorem routingCommandsComplete : Obligations.RoutingCommandsComplete :=
  ⟨fun _ _ => execPortActivate_right, fun _ _ _ => execPacketRoute_own, fun _ _ _ => execBadMsg_found,
    fun _ _ _ _ => execToken_open, fun _ _ _ _ => execRdReq_served, fun _ _ _ _ => execWr_done,
    fun _ _ _ _ _ htaken hanswered hgood => ⟨execRdRsp_steward htaken hanswered hgood,
      fun _ => execRdRsp_engine htaken hanswered hgood⟩,
    fun _ _ _ _ _ => execWrAck_core, fun _ _ _ _ _ => execErrRsp_found, fun _ _ _ _ _ => execRegRsp_found,
    fun _ _ => execE2eTimeout_first⟩

end Sys2Proof.Machine
end

section
/-!
SUPPORT. The commands of the frame clock (R200 to R203, R206, R208, R217, R410): the tick, its boundary window, and the messages
between aligned devices.
-/
namespace Sys2Proof.Machine

open Sys2Proof

section

variable {s t : State} {p : Nat} {m : Packet}

/-! ## The boundary window (R200) -/

section

variable (hwindow : inWindow s = true)
include hwindow

theorem execPeriodChange_inWindow : execPeriodChange s = .next (periodChange s) := if_pos hwindow

theorem execTimingModeChange_inWindow : execTimingModeChange s = .next (modeChange s) := if_pos hwindow

theorem execIdleFrame_inWindow : execIdleFrame s = .next (idleFrame s) := if_pos hwindow

end

/-! ## Alignment and stretch -/

/-- R202, R203: a beacon of the named master with this device's period and profile is sent on, and its phase is taken. -/
theorem execBeacon_matching (ps : Int) (hquench : s.quenched = false) (htaken : takeKind s 0x11 = some (p, m, t))
    (hslave : t.flag PWR.ALIGN_CTRL_MASTER = false) (hsource : m.src = t.fld PWR.ALIGN_CTRL_SRC) :
    let u := modPwr (sendFrom t m.src 0x11 m.body) (fun p => { p with beaconFrame := (sendFrom t m.src 0x11 m.body).frame })
    u.armed PWR.FRM_INJ_ALIGN_LOSS = false →
    (fieldAt m.body 6 4 == u.reg PWR.FRM_PERIOD && fieldAt m.body 10 1 == b2n u.endurance) = true →
    execBeacon ps s = .next (takePhase (u.setFld PWR.FRM_STATE_PERIOD_MISMATCH 0) (fieldAt m.body 0 6) ps) := by
  intro u hunarmed hsame
  have hheard : ¬ (t.flag PWR.ALIGN_CTRL_MASTER = true ∨ m.src ≠ t.fld PWR.ALIGN_CTRL_SRC) := by
    simp [hslave, hsource]
  simp only [u] at hunarmed hsame
  simp only [execBeacon, hquench, htaken, Bool.false_eq_true, if_false, if_neg hheard, hsame, hunarmed, if_true, u]

/-- R203: with the last beacon four frames old, a device that is no master is no longer aligned. -/
theorem execBeaconTimeout_late (hslave : s.flag PWR.ALIGN_CTRL_MASTER = false)
    (hlate : 4 ≤ (s.frame + 2 ^ 48 - s.pwr.beaconFrame) % 2 ^ 48) : execBeaconTimeout s = .next (unalign s) :=
  if_pos (by rw [hslave, decide_eq_true hlate]; rfl)

section

variable (hquench : s.quenched = false) (htaken : takeKind s 0x12 = some (p, m, t))
include hquench htaken

/-- R208: a frame that the master has named is sent on and becomes this device's idle frame. -/
theorem execStretch_named (hnamed : fieldAt m.body 0 1 ≠ 0) :
    execStretch s = .next (nameIdle (sendFrom t m.src 0x12 m.body) (fieldAt m.body 1 6)) := by
  simp only [execStretch, hquench, htaken, Bool.false_eq_true, if_false, if_neg hnamed]

/-- R208: asked for stretch, the master names a frame. -/
theorem execStretch_asked (hasked : fieldAt m.body 0 1 = 0) (hmaster : t.flag PWR.ALIGN_CTRL_MASTER = true) :
    execStretch s = .next (masterNames t) := by
  simp only [execStretch, hquench, htaken, Bool.false_eq_true, if_false, if_pos hasked, if_pos hmaster]

end

end

/-- Settles O9: the tick and the frame check have no conditions; the parts of the window and the messages of alignment meet the one
branch their conditions leave. -/
theorem frameCommandsComplete : Obligations.FrameCommandsComplete :=
  ⟨fun _ _ => rfl, fun _ => rfl,
    fun _ hwindow => ⟨execPeriodChange_inWindow hwindow, execTimingModeChange_inWindow hwindow, execIdleFrame_inWindow hwindow⟩,
    fun _ _ _ _ ps => execBeacon_matching ps, fun _ => execBeaconTimeout_late,
    fun _ _ _ _ hquench htaken => ⟨execStretch_named hquench htaken, execStretch_asked hquench htaken⟩⟩

end Sys2Proof.Machine
end

section
/-!
SUPPORT. The commands of the Runners' moves (R226, R236, R238, R239, R246) and the delivery of their requests (R234, R241, R244).
-/
namespace Sys2Proof.Machine

open Sys2Proof

/-! ## Operations on delivered sources -/

/-- R238: a Runner descriptor without a pattern whose sources are all delivered has its own operation carried out. -/
theorem runOp_of_head {c op : Nat} {s : State} {i : Iss} {q : Requester} (hhead : runHead s c op = some (i, q))
    (hplain : i.desc.pattern = 0) (f : Iss → Requester → Host.Outcome State Fault Refusal) : runOp c op s f = f i q := by
  rw [runOp, hhead]
  exact if_pos hplain

/-- With no failed source piece to report, what has been done so far ends with the status it has. -/
theorem RProg.st_without_failure (p : RProg) : { p with st := if p.st = stOk then stOk else p.st } = p := by
  rw [show (if p.st = stOk then stOk else p.st) = p.st by split <;> simp [*]]

section

variable {c : Core} {s : State} {i : Iss} {q : Requester} (hplain : i.desc.pattern = 0)
include hplain

/-! ## COPY and FILL -/

section

variable (hhead : runHead s c rnCopy = some (i, q))
include hhead

/-- R238, R239: a copy of tiles moves them one by one, converted or as they are. -/
theorem execCopy_tiles (htiles : i.desc.tiles = true) : execCopy c s =
    (let x := if i.desc.converts then copyConv c i q (moveProg s c i q)
       else copyTiles c i.seq i.desc i.desc.len0 0 q (moveProg s c i q)
     .next (runFinish x.2 c i x.1 (moveEnd x.2.s c i x.1 x.2.moved))) := by
  simp only [execCopy, runOp_of_head hhead hplain, htiles, if_true]

/-- R238: a copy of bytes from outside the operand cache puts each delivered piece in its place. -/
theorem execCopy_pieces (htiles : i.desc.tiles = false) (hloc : i.desc.rloc 0 = false) : execCopy c s =
    (let p := copyRaw c i.seq i.desc (inOrder q) 0 (moveProg s c i q)
     .next (runFinish p c i q (moveEnd p.s c i q (ceilDiv (p.moved * 16) 16384)))) := by
  simp only [execCopy, runOp_of_head hhead hplain, htiles, hloc, Bool.false_eq_true, if_false]

/-- R238: a copy of bytes of the operand cache puts them as one, if they are read without failure. -/
theorem execCopy_cache (htiles : i.desc.tiles = false) (hloc : i.desc.rloc 0 = true) : execCopy c s =
    (let b := localBytes (moveProg s c i q) c i.desc.reg0 0 i.desc.len0
     let p := if b.2.st = stOk then putBytes b.2 c i.seq i.desc.reg2 (i.desc.rloc 2) 0 b.1 else b.2
     let p := if p.st = stOk then { p with moved := i.desc.len0 / 16 } else p
     .next (runFinish p c i q (moveEnd p.s c i q (ceilDiv (p.moved * 16) 16384)))) := by
  simp only [execCopy, runOp_of_head hhead hplain, htiles, hloc, Bool.false_eq_true, if_false, if_true]

end

section

variable (hhead : runHead s c rnFill = some (i, q))
include hhead

/-- R238: a fill of a region writes its pattern piece by piece. -/
theorem execFill_region (hall : i.desc.all = false) : execFill c s =
    (let unit := ceilDiv 16384 (if i.desc.rloc 2 then 2048 else max 1 (wrRate s c))
     let x := (wholeChunks i.desc.reg2 i.desc.len0).foldl (fun (x : RProg × Nat) a =>
       (fillChunk c i x.1 x.2 a.1 a.2, x.2 + a.2)) ({ s := s, ck0 := i.relCk + 32, unit := unit }, 0)
     .next (runFinish x.1 c i q (runEndCk x.1.s c i q 0 (ceilDiv (x.1.moved * 16) 16384) unit))) := by
  simp only [execFill, runOp_of_head hhead hplain, hall, Bool.false_eq_true, if_false]

/-- R226: in open timing a fill of everything clears the Tundish, both payloads and sidecars (at its start: log entry 92). -/
theorem execFillAll_open (hall : i.desc.all = true) (hopen : s.locked = false) : execFillAll c s =
    (let u : State := { s with tun := { s.tun with bytes := [], side := [], badWords := [] } }
     .next (runFinish { s := (u.setFld TUN.STATE_FILLING 0 0).setFld TUN.STATE_FILLING 0 1, moved := 2 ^ 27 } c i q
       (max s.ck (i.relCk + 56 + ceilDiv (147456 * s.ckPerUs) 1500)))) := by
  simp only [execFillAll, runOp_of_head hhead hplain, hall, hopen, Bool.not_true, Bool.false_eq_true, if_false]

end

/-! ## GATHER and SCATTER -/

/-- R238: a gather collects the rows its list names, if the list is read without failure. -/
theorem execGather_of_head (hhead : runHead s c rnGather = some (i, q)) : execGather c s =
    (let t := if i.desc.rloc 1 then 0 else reqCount i.desc.reg1 0 (4 * i.desc.len0)
     let x := indexList (sectorProg s c i q) c i.desc q 0 t
     let p := if x.2.st = stOk then gatherRows c i q x.1 0 t x.2 else x.2
     .next (runFinish p c i q (sectorEnd p.s c i q (ceilDiv (p.moved * 16) 32)))) := by
  simp only [execGather, runOp_of_head hhead hplain]

/-- R238: a scatter whose list and rows are read without failure writes all its rows in list order. -/
theorem execScatter_good (hhead : runHead s c rnScatter = some (i, q)) :
    let d := i.desc
    let n := d.reg0.rowBytes
    let t := if d.rloc 0 then 0 else reqCount d.reg0 0 (d.len0 * n)
    let x := indexList (sectorProg s c i q) c d q t (t + (if d.rloc 1 then 0 else reqCount d.reg1 0 (4 * d.len0)))
    let y := if d.rloc 0 then localBytes x.2 c d.reg0 0 (d.len0 * n) else (gotBytes q 0 t, x.2)
    x.2.st = stOk → y.2.st = stOk → rangeConflict y.2.s d.reg0 (d.rloc 0) 0 (d.len0 * n) = false →
    (inOrder q).find? (fun x => decide (x.1 < t) && x.2.bad != 0) = none → execScatter c s =
    (let p := scatterRows c i y.1 (x.1.take d.len0) 0 y.2
     .next (runFinish p c i q (sectorEnd p.s c i q (ceilDiv (p.moved * 16) 32)))) := by
  intro d n t x y hlist hrows hconflict hgood
  simp only [n, t, x, y, d] at hlist hrows hconflict hgood ⊢
  simp only [execScatter, runOp_of_head hhead hplain, hlist, hrows, hconflict, hgood, ne_eq, not_true_eq_false, if_false, if_true,
    Bool.false_eq_true, Option.map_none, Option.getD_none, RProg.st_without_failure]

/-! ## PREFETCH and INVAL -/

/-- R234: a prefetch of which no request failed has filled an entry with each. -/
theorem execPrefetch_good (hhead : runHead s c rnPrefetch = some (i, q))
    (hgood : (inOrder q).find? (fun x => x.2.bad != 0) = none) : execPrefetch c s =
    (let n := (q.got.filter (fun x => x.2.bad == 0)).length
     .next (runFinish { s := s, moved := n, st := stOk } c i q (moveEnd s c i q n))) := by
  simp only [execPrefetch, runOp_of_head hhead hplain, hgood, Option.map_none, Option.getD_none]

/-- R236: an invalidation drops the entries of the tiles of region 0. -/
theorem execInval_of_head (hhead : runHead s c rnInval = some (i, q)) : execInval c s =
    (let d := i.desc
     let dev := if d.reg0.type = 3 then s.fld SPR.RDEV_DEST c d.reg0.dev + d.reg0.rtype * 2 ^ 17 else 0
     let u := (List.range d.len0).foldl (fun s j => invalidate s d.reg0.type dev (d.reg0.addr (j * 16384) / 16384)) s
     .next (runFinish { s := u, moved := d.len0 } c i q (runEndCk u c i q 0 0 0))) := by
  simp only [execInval, runOp_of_head hhead hplain]

end

/-! ## Requests -/

/-- R241, R244: the earliest request due is delivered from its entry or its memory, and its slot is granted again. -/
theorem execRequestComplete_due {c : Core} {s : State} {f : Flight} :
    let s0 := settleHbm (hbmLeft s) s c
    dueFirst (s0.run c).flight = some f →
    (let s1 := s0.upTo (f.due.getD 0)
     let hit := f.cached.isSome && !f.fills
     let r := if hit then readTile s1 .tun (f.cached.getD 0) else localRead s1 f.req
     let b := acrossBridge r.2.2.2 c (if hit then tunDie (f.cached.getD 0 * 16384) else memCasting f.req.type f.req.addr) r.1
     let u := leaveEntry (landFlight b.2 c f) f b.1 r.2.1 true
     let u := if hit then modReq u c f.eng f.seq (fun q => { q with hit := true }) else u
     let u := arrive u c f.eng f.seq f.req b.1 r.2.1 r.2.2.1 0
     execRequestComplete c s = .next (grantSlots
       (if f.req.type = 1 ∧ f.req.tile ∧ f.eng ≠ 0 then prefetchNext u c (f.req.addr / 16384) else u) c)) := by
  intro s0 hdue
  simp only [s0] at hdue
  simp only [execRequestComplete, hdue, s0]

/-- Settles O25: each move of a descriptor without a pattern, and the delivery of the earliest request due. -/
theorem runnerMovesComplete : Obligations.RunnerMovesComplete :=
  ⟨fun _ _ _ _ hplain => ⟨execCopy_tiles hplain, execCopy_pieces hplain, execFill_region hplain, execFillAll_open hplain,
      execCopy_cache hplain, execGather_of_head hplain, execScatter_good hplain, execPrefetch_good hplain,
      execInval_of_head hplain⟩,
    fun _ _ _ => execRequestComplete_due⟩

end Sys2Proof.Machine
end

section
/-!
SUPPORT. Byte memories (R220, R221): a canonical memory is the function `sget 0` of its addresses; a read lists that function and a
write changes it at the bytes written.
-/
namespace Sys2Proof.Machine

open Sys2Proof

/-! ## Reads of a sparse map that is cut or joined -/

section

variable {α : Type} {d : α} {m n : SMap α} {b : Nat}

theorem sget_cons_of_lt {k : Nat} {v : α} (h : b < k) : sget d ((k, v) :: m) b = d := by
  simp [sget, h, Nat.ne_of_lt h]

theorem sget_cons_self {v : α} : sget d ((b, v) :: m) b = v := by simp [sget]

theorem sget_cons_of_gt {k : Nat} {v : α} (h : k < b) : sget d ((k, v) :: m) b = sget d m b := by
  simp [sget, Nat.ne_of_gt h, Nat.not_lt_of_gt h]

/-- Below the keys of its second part a joined map reads as its first. -/
theorem sget_append_left [DecidableEq α] {hi : Nat} (hn : swfFrom d hi n = true) (hb : b < hi) :
    sget d (m ++ n) b = sget d m b := by
  induction m with
  | nil => exact sget_below d hn hb
  | cons e m ih => simp only [List.cons_append, sget, ih]

/-- Above the keys of its first part a joined map reads as its second. -/
theorem sget_append_right (hm : ∀ e ∈ m, e.1 < b) : sget d (m ++ n) b = sget d n b := by
  induction m with
  | nil => rfl
  | cons e m ih =>
    obtain ⟨he, hm⟩ := List.forall_mem_cons.1 hm
    rw [List.cons_append, sget_cons_of_gt he, ih hm]

/-- Dropping the keys below an address leaves the reads from it on. -/
theorem sget_dropWhile {a : Nat} (hb : a ≤ b) : sget d (m.dropWhile (fun c => decide (c.1 < a))) b = sget d m b := by
  induction m with
  | nil => rfl
  | cons e m ih =>
    by_cases he : e.1 < a
    · rw [List.dropWhile_cons_of_pos (by simpa using he), ih, sget_cons_of_gt (by omega)]
    · rw [List.dropWhile_cons_of_neg (by simpa using he)]

/-- Keeping the keys below an address leaves the reads below it. -/
theorem sget_takeWhile {a : Nat} (hb : b < a) : sget d (m.takeWhile (fun c => decide (c.1 < a))) b = sget d m b := by
  induction m with
  | nil => rfl
  | cons e m ih =>
    by_cases he : e.1 < a
    · rw [List.takeWhile_cons_of_pos (by simpa using he)]
      simp only [sget, ih]
    · rw [List.takeWhile_cons_of_neg (by simpa using he), sget_cons_of_lt (by omega)]
      rfl

end

/-! ## A read lists the memory's bytes -/

/-- Bytes listed from an address no key lies below are what the memory reads there. -/
theorem bytesFrom_eq_map_sget (n : Nat) : ∀ (m : Mem) (a : Nat), swfFrom 0 a m = true →
    bytesFrom m a n = (List.range' a n).map (sget 0 m) := by
  induction n with
  | zero => intro m a _; cases m <;> rfl
  | succ n ih =>
    intro m a hm
    rw [List.range'_succ, List.map_cons]
    match m with
    | [] => rw [bytesFrom, ih [] (a + 1) rfl]; rfl
    | (k, v) :: m =>
      simp only [swfFrom, Bool.and_eq_true, decide_eq_true_eq] at hm
      obtain ⟨⟨hle, hv⟩, htail⟩ := hm
      rcases Nat.eq_or_lt_of_le hle with rfl | hlt
      · have hrest : (List.range' (a + 1) n).map (sget 0 ((a, v) :: m)) = (List.range' (a + 1) n).map (sget 0 m) :=
          List.map_congr_left fun b hb => sget_cons_of_gt (List.mem_range'_1.1 hb).1
        rw [bytesFrom, if_pos rfl, ih m (a + 1) htail, sget_cons_self, hrest]
      · have hwf : swfFrom 0 (a + 1) ((k, v) :: m) = true := by
          simp only [swfFrom, Bool.and_eq_true, decide_eq_true_eq]
          exact ⟨⟨hlt, hv⟩, htail⟩
        rw [bytesFrom, if_neg (Nat.ne_of_gt hlt), ih _ (a + 1) hwf, sget_cons_of_lt hlt]

theorem readBytes_eq_map_sget {m : Mem} (hm : Memory.wf m = true) (a n : Nat) :
    readBytes m a n = (List.range' a n).map (sget 0 m) := by
  have hdrop : swfFrom 0 a (m.dropWhile (fun c => decide (c.1 < a))) = true := by
    simpa using swfFrom_dropWhile a m 0 hm
  rw [readBytes, bytesFrom_eq_map_sget n _ a hdrop]
  exact List.map_congr_left fun b hb => sget_dropWhile (List.mem_range'_1.1 hb).1

/-! ## A write changes the bytes written -/

theorem sget_cellsOf (bs : List Byte) : ∀ (a i : Nat) (hi : i < bs.length), sget 0 (cellsOf a bs) (a + i) = bs[i] := by
  induction bs with
  | nil => intro a i hi; exact absurd hi (Nat.not_lt_zero i)
  | cons x bs ih =>
    intro a i hi
    rw [cellsOf]
    cases i with
    | zero =>
      split
      · next hx => rw [sget_below 0 (cellsOf_wf bs (a + 1)).1 (by omega), hx]; rfl
      · exact sget_cons_self
    | succ i =>
      have hnext := ih (a + 1) i (Nat.lt_of_succ_lt_succ hi)
      rw [show a + 1 + i = a + (i + 1) by omega] at hnext
      split
      · exact hnext
      · rw [sget_cons_of_gt (by omega), hnext]; rfl

section

variable {m : Mem} (hm : Memory.wf m = true) (a : Nat) (bs : List Byte)

/-- The keys a write keeps from below its address lie below it. -/
theorem takeWhile_below {e : Host.Cell} (he : e ∈ m.takeWhile (fun c => decide (c.1 < a))) : e.1 < a := by
  simpa using takeWhile_all _ m e he

include hm

/-- The keys a write keeps from past its last byte. -/
theorem dropWhile_past_wf : swfFrom 0 (a + bs.length) (m.dropWhile (fun c => decide (c.1 < a + bs.length))) = true := by
  simpa using swfFrom_dropWhile (a + bs.length) m 0 hm

theorem sget_writeBytes_inside (i : Nat) (hi : i < bs.length) : sget 0 (writeBytes m a bs) (a + i) = bs[i] := by
  rw [writeBytes, sget_append_left (dropWhile_past_wf hm a bs) (by omega),
    sget_append_right fun e he => Nat.lt_add_right i (takeWhile_below a he), sget_cellsOf]

theorem sget_writeBytes_outside {b : Nat} (hb : b < a ∨ a + bs.length ≤ b) : sget 0 (writeBytes m a bs) b = sget 0 m b := by
  obtain ⟨hcells, hlast⟩ := cellsOf_wf bs a
  rcases hb with hb | hb
  case inl =>
    rw [writeBytes, sget_append_left (dropWhile_past_wf hm a bs) (by omega), sget_append_left hcells hb, sget_takeWhile hb]
  case inr =>
    have hkeys : ∀ e ∈ m.takeWhile (fun c => decide (c.1 < a)) ++ cellsOf a bs, e.1 < b := by
      intro e he
      rcases List.mem_append.1 he with he | he
      · have := takeWhile_below a he; omega
      · have := hlast e he; omega
    rw [writeBytes, sget_append_right hkeys, sget_dropWhile hb]

theorem readBytes_writeBytes_same : readBytes (writeBytes m a bs) a bs.length = bs := by
  rw [readBytes_eq_map_sget (writeBytes_wf m a bs hm)]
  refine List.ext_getElem (by simp) fun i _ hi => ?_
  simpa using sget_writeBytes_inside hm a bs i hi

theorem readBytes_writeBytes_outside {b : Nat} (hb : b < a ∨ a + bs.length ≤ b) :
    readBytes (writeBytes m a bs) b 1 = readBytes m b 1 := by
  rw [readBytes_eq_map_sget (writeBytes_wf m a bs hm), readBytes_eq_map_sget hm]
  simpa using sget_writeBytes_outside hm a bs hb

end

/-- Settles O8: reads and writes as those of the function `sget 0`, and the canonical form by `writeBytes_wf`. -/
theorem memoryHoldsWhatIsWritten : Obligations.MemoryHoldsWhatIsWritten :=
  fun m a bs hm => ⟨readBytes_writeBytes_same hm a bs, fun _ hb => readBytes_writeBytes_outside hm a bs hb,
    writeBytes_wf m a bs hm⟩

end Sys2Proof.Machine
end

section
/-!
SUPPORT. The commands of the scrubbers (R227, R402), of spare banks (R228), of the diagnostic window (R229) and of the quota set
(R233).
-/
namespace Sys2Proof.Machine

open Sys2Proof

/-! ## Scrubbers (R402, R403) -/

section

variable {c : Core} {a : Nat} {e : Fin 3} {s : State}

theorem execScrubAccess_stw (hon : scrubOn s 16 = true) :
    execScrubAccess .stw a e s = .next (scrubReport (scrubPace s 16 a 64) .stw 0 e) := if_pos hon

variable (hquench : s.quenched = false) (he : e.val ≠ 2)
include hquench he

/-- R403: a cache word that is not uncorrectable is reported as it is found. -/
theorem execScrubAccess_cache (hon : scrubOn s c = true)
    (hgood : ((scrubPace s c (a % 2 ^ 22 / 256) 256).core c).ldl.cacheBad.contains (a % 2 ^ 22) = false) :
    execScrubAccess (.cache c) a e s = .next (scrubReport (scrubPace s c (a % 2 ^ 22 / 256) 256) .ldl c e) := by
  simp only [execScrubAccess, hon, hquench, hgood, he, Bool.not_false, Bool.and_self, Bool.false_eq_true, false_and, if_true, if_false]

/-- R403: a word of the Crucible's store that is not uncorrectable is reported as it is found. -/
theorem execScrubAccess_cru (hon : scrubOn s (4 + c) = true)
    (hgood : ((scrubPace s (4 + c) (a % (392192 * 16) / 16) 256).core c).cru.bad.contains (a % (392192 * 16)) = false) :
    execScrubAccess (.cru c) a e s = .next (scrubReport (scrubPace s (4 + c) (a % (392192 * 16) / 16) 256) .cru c e) := by
  simp only [execScrubAccess, hon, hquench, hgood, he, Bool.not_false, Bool.and_self, Bool.false_eq_true, false_and, if_true, if_false]

/-- R403: a pattern word of a loaded slot that is not uncorrectable is reported as it is found. -/
theorem execScrubAccess_pat (hon : scrubOn s (8 + c) = true) (hslot : bit (s.reg SPR.PAT_SLOTS c) (a % 2 ^ 14 / 256) = true)
    (hgood : ((scrubPace s (8 + c) (a % 2 ^ 14) 256).core c).spr.patBad.contains (a % 2 ^ 14) = false) :
    execScrubAccess (.pat c) a e s = .next (scrubReport (scrubPace s (8 + c) (a % 2 ^ 14) 256) .spr c e) := by
  simp only [execScrubAccess, hon, hquench, hslot, hgood, he, Bool.not_false, Bool.and_self, Bool.false_eq_true, false_and, if_true,
    if_false]

/-- R403: an Assay word that is not uncorrectable leaves its accumulation unit unmarked. -/
theorem execScrubAccess_asy (hon : scrubOn s (12 + c) = true) : execScrubAccess (.asy c) a e s =
    .next (scrubReport (scrubPace s (12 + c) (a % (192 * 4096) / 4096) 65536) .asy c e) := by
  simp only [execScrubAccess, hon, hquench, he, Bool.not_false, Bool.and_self, if_true, if_false]

end

/-! ## Spare banks (R228) -/

section

variable {d : Die} {s : State} {x : SpareCopy}

/-- R228: with no copy in progress the bank is copied into the lowest free spare. -/
theorem execSpareReq_free {bank : Fin 128} {i : Nat} (hpage : s.pageState .tun d ≠ pgQuenched)
    (hidle : spareCopy (s.setFld TUN.SPARE_REQ_BANK bank d) d = none)
    (hfree : freeSpare (s.setFld TUN.SPARE_REQ_BANK bank d) d = some i) :
    execSpareReq d bank s =
      (let v := (s.setFld TUN.SPARE_REQ_BANK bank d).setFld TUN.SPARE_REQ_REFUSED 0 d
       .next (((setCopy v d (some { bank := bank, spare := i, startCk := v.ck })).setFld TUN.STATE_COPYING 1 d).setReg
         TUN.SPARE_PROGRESS 0 d)) := by
  simp only [execSpareReq, if_neg hpage, hidle, hfree]

/-- R228: the copy that runs ends 4,718,592 tk after its start. -/
theorem execSpareCopyDone_running (hcopy : spareCopy s d = some x) (hruns : x.done = none) : execSpareCopyDone d s =
    (let u := s.upTo (x.startCk + tkCk s 4718592)
     .next (((setCopy u d (some { x with done := some u.ck })).setFld TUN.STATE_COPYING 0 d).setReg TUN.SPARE_PROGRESS 73728 d)) := by
  simp only [execSpareCopyDone, hcopy, hruns, Option.isNone_none, if_true]

/-- R228: in the first window after its copy ended the spare takes the bank's place. -/
theorem execSpareMapChange_done {t : Nat} (hcopy : spareCopy s d = some x) (hdone : x.done = some t) (ht : t < s.frameCk) :
    execSpareMapChange d s =
      (let keep := (fenceBank s d x.bank).filter (fun e => e.1 / (8 * 73728) != d * 132 + 128 + x.spare)
       let u : State := { s with tun := { s.tun with fenced := keep } }
       let v := u.setReg TUN.SPARE_MAP (setBits (u.reg TUN.SPARE_MAP d) (8 * x.spare) 8 (128 + x.bank)) d
       .next (jnlRetire (raise .tun d 4 (setCopy v d none)) 1 (128 * d + x.bank))) := by
  simp only [execSpareMapChange, hcopy, hdone, Option.any_some, ht, decide_true, if_true]

end

/-! ## Quotas (R233) -/

section

variable {s : State}

/-- R233: a set without a conflict waits for the next boundary window. -/
theorem execQapply_accepted (hpage : s.pageState .tun ≠ pgQuenched) (hset : quotaConflict (quotaReg s) = none)
    (hmode : (s.locked && (List.range 8).any (fun u => (quotaReg s u).mode == 2)) = false) :
    execQapply s =
      .next (({ s with tun := { s.tun with quotaNext := some (Vector.ofFn (fun u => quotaReg s u.val)), quotaCk := s.ck } } :
        State).setReg TUN.QSTATUS 1) := by
  simp only [execQapply, if_neg hpage, hset, hmode, Bool.false_eq_true, if_false]

/-- R233: a set that waited for a tick takes effect. -/
theorem execQuotaSetApply_due {q : Vector Quota 8} (hnext : s.tun.quotaNext = some q) (hdue : s.tun.quotaCk < s.frameCk) :
    execQuotaSetApply s =
      (let u : State := { s with tun := { s.tun with quotas := q, quotaNext := none } }
       .next ((dropEntries u (fun e => !q.toList.any (fun r =>
         r.mode == 2 && decide (r.first ≤ e.tile ∧ e.tile < r.first + r.count)))).setFld TUN.QSTATUS_PENDING 0)) := by
  simp only [execQuotaSetApply, hnext, if_pos hdue]

end

/-- Settles O34: each command in the one branch its conditions leave; the diagnostic window has no condition but its page. -/
theorem tundishCommandsComplete : Obligations.TundishCommandsComplete :=
  ⟨fun _ _ _ => ⟨fun _ => rfl, execScrubAccess_stw, fun _ hquench he =>
      ⟨execScrubAccess_cache hquench he, execScrubAccess_cru hquench he, execScrubAccess_pat hquench he,
        execScrubAccess_asy hquench he⟩⟩,
    fun _ _ _ hpage _ => execSpareReq_free hpage,
    fun _ _ _ hcopy => ⟨execSpareCopyDone_running hcopy, fun _ => execSpareMapChange_done hcopy⟩,
    fun _ _ hpage => ⟨if_neg hpage, if_neg hpage, if_neg hpage⟩,
    fun _ => execQapply_accepted,
    fun _ _ => execQuotaSetApply_due⟩

end Sys2Proof.Machine
end

section
/-!
SUPPORT. The commands of the HBM stacks (R254 to R256) and of the slots and tables of locked timing (R259, R260).
-/
namespace Sys2Proof.Machine

open Sys2Proof

section

variable {k : Stack} {s : State}

/-! ## Temperature (R256) -/

/-- R256: a reading of `deg` at the end of a period is shown; the refresh rate has not followed it yet. -/
def temperatureRead (k : Stack) (deg : Nat) (s : State) : State :=
  let u := s.upTo (nextPeriod s 32)
  (u.setFld HBM.TEMP_NOW deg k).setFld HBM.TEMP_MAX (max deg (u.fld HBM.TEMP_MAX k)) k

section

variable {deg : Fin 256} (hon : s.pageState .hbm k = pgOn)
  (hreal : (s.upTo (nextPeriod s 32)).armed HBM.INJ_HOT k = false) (hopen : (temperatureRead k deg s).locked = false)
include hon hreal hopen

/-- R256: above 85 °C a stack at the normal rate enters the doubled one, which raises source 6. -/
theorem execHbmTempRead_hot (hhot : 85 < deg.val) (hnormal : (temperatureRead k deg s).flag HBM.STATE_HOT k = false) :
    execHbmTempRead k deg s = .next (raise .hbm k 6 ((temperatureRead k deg s).setFld HBM.STATE_HOT 1 k)) := by
  simp only [temperatureRead] at hopen ⊢
  simp only [execHbmTempRead, if_pos hon, hreal, hopen, Bool.false_eq_true, if_false]
  exact if_pos ⟨hhot, ne_true_of_eq_false hnormal⟩

/-- R256: below 83 °C the normal rate is restored. -/
theorem execHbmTempRead_cool (hcool : deg.val < 83) :
    execHbmTempRead k deg s = .next ((temperatureRead k deg s).setFld HBM.STATE_HOT 0 k) := by
  have hnothot : ¬ 85 < deg.val := by omega
  simp only [temperatureRead] at hopen ⊢
  simp only [execHbmTempRead, if_pos hon, hreal, hopen, Bool.false_eq_true, if_false]
  exact (if_neg fun h => hnothot h.1).trans (if_pos hcool)

end

/-! ## Slots (R259) -/

/-- R259: a slot that is no refresh slot and ends by the fitting tick serves the partition that owns its entry. -/
theorem execHbmSlotServe_owned {j p : Nat} (hlocked : s.locked = true) (hquench : s.quenched = false) (hrefresh : j % 16 ≠ 15)
    (hfit : slotStop s j ≤ s.fitTick) (hdue : s.ck ≤ slotStart s j) (howner : slotOwner s (j % 256) = some p) :
    execHbmSlotServe j s =
      .next (serveSlot (s.upTo (slotStart s j)) p (slotEntry s p (j % 256)) (slotStart s j) (slotStop s j)) := by
  have hused : (s.locked && !s.quenched && decide (j % 16 ≠ 15 ∧ slotStop s j ≤ s.fitTick) && decide (s.ck ≤ slotStart s j)) =
      true := by simp [hlocked, hquench, hrefresh, hfit, hdue]
  simp only [execHbmSlotServe, if_pos hused, howner]

/-! ## The slot tables (R260) -/

/-- R260: tables without a conflict are accepted. -/
theorem execSlotCtrlApply_accepted (hpage : s.pageState .hbm ≠ pgQuenched) (hgood : slotConflict s = none) :
    execSlotCtrlApply s = .next ((s.setFld HBM.SLOT_CTRL_VALID 1).setFld HBM.SLOT_CTRL_CONFLICT 0) := by
  simp only [execSlotCtrlApply, if_neg hpage, hgood]

/-- R260: the first conflict is recorded with its partitions and entry, `VALID` is clear, and source 7 is raised. -/
theorem execSlotCtrlApply_refused {a b i : Nat} (hpage : s.pageState .hbm ≠ pgQuenched)
    (hclash : slotConflict s = some (a, b, i)) :
    execSlotCtrlApply s = .next (raise .hbm 0 7 (s.setReg HBM.SLOT_CTRL (4 + a * 8 + b * 2 ^ 6 + i * 2 ^ 9))) := by
  simp only [execSlotCtrlApply, if_neg hpage, hclash]

end

/-- Settles O33: the errors of a stack have no condition but its page (R254, R255); a reading, a slot and the tables each meet the
branch their conditions leave. An accepted `APPLY` keeps `PART` and `ENTRY` by the model's reading of R260 (log entry 72). -/
theorem hbmCommandsComplete : Obligations.HbmCommandsComplete :=
  ⟨fun _ _ _ hon => ⟨if_pos hon, if_pos hon, if_pos hon, if_pos hon, if_pos hon⟩,
    fun _ _ _ hon hreal hopen => ⟨execHbmTempRead_hot hon hreal hopen, execHbmTempRead_cool hon hreal hopen⟩,
    fun _ _ _ => execHbmSlotServe_owned,
    fun _ hpage => ⟨execSlotCtrlApply_accepted hpage, fun _ _ _ => execSlotCtrlApply_refused hpage⟩⟩

end Sys2Proof.Machine
end

section
/-!
SUPPORT. The commands of the Ingot Store: blocks collected and levelled (R273), pages read and programmed (R268, R270, R279), and
targets retired and failed (R277, R278).
-/
namespace Sys2Proof.Machine

open Sys2Proof

section

variable {s : State} {tg : Fin 64} {fails : Bool} {k : Nat}

/-! ## Garbage collection and wear levelling (R273) -/

section

variable (hruns : ingRuns s = true) (husable : tgtUsable s tg = true)
include hruns husable

/-- R273: with too few free blocks the full block with the fewest valid pages is moved and erased. -/
theorem execGarbageCollect_low (hlow : (blksIn s tg 0).length * 100 < s.fld ING.CTRL_GC_LOW * tgtBlocks s tg)
    (hblk : fewestValid s (blksIn s tg 2) = some k) :
    execGarbageCollect tg fails s = .next (eraseBlk (relocate s (blkTiles s k)) k fails) := by
  simp only [execGarbageCollect, hruns, husable, hlow, hblk, Bool.and_self, decide_true, if_true]

/-- R273: with too wide a spread of P/E counts the least erased block that holds data is moved and erased. -/
theorem execWearLevel_spread (hblk : lowestPe s ((blksIn s tg 2).filter (fun k => !(blkTiles s k).isEmpty)) = some k)
    (hspread : (fblk s k).pe + s.fld INGCH.CH_CTRL_WL_SPREAD (tg / 4) <
      (tgtKeys s tg).foldl (fun n j => max n (fblk s j).pe) 0) :
    execWearLevel tg fails s = .next (eraseBlk (relocate s (blkTiles s k)) k fails) := by
  simp only [execWearLevel, hblk, hruns, husable, hspread, Bool.and_self, decide_true, if_true]

end

/-! ## Reads and the patrol (R268, R269, R279) -/

/-- R237: the zeros that a tile without a page reads as, in the place that staging gives them, if it gives one. -/
def stageZeros (v : State) (c : Core) (f : Flight) : Option Nat → State
  | some x => otherAccess (stageTileFor v (stageOwner c f.eng f.seq) x (zeros 16384) (zeros 2048)) { o := 5, cast := 0 }
      .tun true true (x * 16384) 16384 v.ck none
  | none => v

/-- R268: a tile without a page reads zeros and is counted; the 14 µs from its arrival are log entry 87. -/
theorem execIngotReadComplete_unmapped {c : Core} {r : List Nat} {f : Flight} {place : Option Nat}
    (hflight : (s.run c).flight.find? (fun f =>
      f.req.kind == 2 && f.due.isNone && !f.done && (f.cached.isNone || f.fills)) = some f)
    (hon : s.pageOn .ing = true) (hquench : s.quenched = false) (hplace : stagePlace s = some place) (hold : f.old = none)
    (hmap : mapped (mapAccess s 0 (f.req.addr / 16384)).2 0 (f.req.addr / 16384) = none) :
    execIngotReadComplete c r s =
      (let u := (mapAccess s 0 (f.req.addr / 16384)).2
       let v := (u.bump ING.UNMAPPED_READS).upTo (f.arr + 14 * u.ckPerUs)
       .next (deliverRead (lateCheck (stageZeros v c f place) f.frame) c f (cutPiece f.req (zeros 16384) (zeros 2048) 0)
         place)) := by
  simp only [execIngotReadComplete, hflight, hon, hquench, hplace, hold, hmap, Bool.not_true, Bool.or_self, Bool.false_eq_true,
    if_false, Option.getD_none]
  cases place <;> rfl

/-- R279: a page that the patrol decodes stays as it is, or is rewritten as R266 has it. -/
theorem execPatrolRead_decoded {area : Fin 7} {tile p n : Nat} {r : List Nat} {t : State} (hmap : mapped s area tile = some p)
    (henabled : s.flag ING.CTRL_PATROL_EN = true) (hruns : ingRuns s = true) (hgood : tgtFailed s (pageTgt p) = false)
    (hdecoded :
      let u := s.upTo (sget 0 s.ing.patrols (pageTgt p / 4) + 1000 * s.ckPerUs)
      let u : State := { u with ing := { u.ing with patrols := sset 0 u.ing.patrols (pageTgt p / 4) u.ck } }
      decodePage u (pageTgt p / 4) (u.ing.dead.contains p) r = (n, false, t)) :
    execPatrolRead area tile r s = .next (relocRead t area tile n) := by
  dsimp only at hdecoded
  simp only [execPatrolRead, hmap, henabled, hruns, hgood, hdecoded, Bool.not_false, Bool.and_self, Bool.false_eq_true, if_true,
    if_false]

/-! ## Programs (R270) -/

/-- R270: the oldest write that waits takes a page of the next target, once it has a place and the budget lets it go. -/
theorem execIngotProgramStart_taken {w : IngWrite} {p : Nat} {t u : State}
    (hwrite : s.ing.writes.find? (fun w => w.page.isNone) = some w) (hruns : ingRuns s = true)
    (hplace : (decide (w.core < 4) && (stagePlace s).isNone) = false) (hbudget : budgetHolds s w = (false, t))
    (hpage : (nextTarget t).bind (takePage t) = some (p, u)) :
    execIngotProgramStart s = .next { u with ing := { u.ing with
      writes := u.ing.writes.map (fun x => if x = w then { w with page := some p, startCk := u.ck } else x) } } := by
  simp only [execIngotProgramStart, hwrite, hruns, hplace, hbudget, hpage, Bool.not_true, Bool.or_self, Bool.false_eq_true,
    if_false]

/-- R270: a program of the page `p` ends tPROG after it started. -/
def programEnd (s : State) (w : IngWrite) (p : Nat) : State := s.upTo (w.startCk + tgtTProg s (pageTgt p) * s.ckPerUs)

/-- R270: a program that neither fails nor meets a failed target ends with its tile mapped. -/
theorem execIngotProgramComplete_landed {w : IngWrite} {p : Nat}
    (hwrite : s.ing.writes.find? (fun w => w.page.isSome) = some w) (hpage : w.page = some p)
    (hreal : (programEnd s w p).armed ING.INJ_PROG_FAIL = false) (hgood : tgtFailed (programEnd s w p) (pageTgt p) = false) :
    execIngotProgramComplete false s = .next (landWrite (programEnd s w p) w p) := by
  simp only [programEnd] at hreal hgood ⊢
  simp only [execIngotProgramComplete, hwrite, hpage, Option.getD_some, hreal, hgood, Bool.or_self, Bool.false_eq_true, if_false]

/-! ## Targets retired and failed (R277, R278) -/

/-- R277: the register shows the target that was asked for, whatever comes of it. -/
def retireAsked (s : State) (tg : Nat) : State := s.setFld ING.RETIRE_REQ_TARGET tg

/-- R277: the pages that stay usable without the blocks of the target. -/
def pagesWithout (s : State) (tg : Nat) : Nat :=
  usablePages s - ((tgtKeys s tg).filter (fun k => (fblk s k).st != 3)).length * s.ing.ppb

/-- R277: a usable target starts its retirement when none runs and the space without it is not short. -/
theorem execRetireReq_accepted
    (hidle : (retireAsked s tg).ing.retiring = none) (husable : tgtUsable (retireAsked s tg) tg = true)
    (hspace : spaceShort (retireAsked s tg) (pagesWithout (retireAsked s tg) tg) = false) :
    execRetireReq tg s =
      (let u := retireAsked s tg
       let v := (({ u with ing := { u.ing with retiring := some tg } } : State).setFld ING.RETIRE_REQ_REFUSED 0).setFld
         ING.STATE_RETIRING 1
       .next (v.setReg ING.RETIRE_PROGRESS (tgtTiles v tg).length)) := by
  simp only [retireAsked, pagesWithout] at hidle husable hspace ⊢
  simp only [execRetireReq, hidle, husable, hspace, Option.isSome_none, Bool.not_true, Bool.or_self, Bool.false_eq_true, if_false]

/-- R277: while a target retires, no other may. -/
theorem execRetireReq_busy (hbusy : (retireAsked s tg).ing.retiring.isSome = true) :
    execRetireReq tg s = .next (raise .ing 0 8 ((retireAsked s tg).setFld ING.RETIRE_REQ_REFUSED 1)) := by
  simp only [retireAsked] at hbusy ⊢
  simp only [execRetireReq, hbusy, Bool.true_or, if_true]

/-- R277: the retiring target's valid pages copied away, exempt from the budget. -/
def targetCopied (s : State) (tg : Nat) : State := relocate s (tgtTiles s tg)

section

variable {tg : Nat} (hretiring : s.ing.retiring = some tg) (hruns : ingRuns s = true)
include hretiring hruns

/-- R277: the tiles that are left are shown. -/
theorem execTargetRetireDone_left (hleft : (tgtTiles (targetCopied s tg) tg).length ≠ 0) :
    execTargetRetireDone s =
      .next ((targetCopied s tg).setReg ING.RETIRE_PROGRESS (tgtTiles (targetCopied s tg) tg).length) := by
  simp only [execTargetRetireDone, hretiring, hruns, Bool.not_true, Bool.false_eq_true, if_false]
  exact if_pos hleft

/-- R277: with no tile left the target is fenced; `SVC_TGT` shows it by the model's reading of R450 (log entry 63). -/
theorem execTargetRetireDone_empty (hempty : (tgtTiles (targetCopied s tg) tg).length = 0) :
    execTargetRetireDone s =
      (let u := (targetCopied s tg).setReg ING.RETIRE_PROGRESS 0
       let v : State := { u with ing := { u.ing with retiring := none } }
       let w := v.setFld INGCH.CH_STATE_TGT_RETIRED (setBits (v.fld INGCH.CH_STATE_TGT_RETIRED (tg / 4)) (tg % 4) 1 1) (tg / 4)
       .next (jnlRetire (setTailMax (raise .ing 0 8 ((showRemove (w.setFld STW.SVC_TGT_TGT tg)).setFld ING.STATE_RETIRING 0)))
         5 tg)) := by
  simp only [targetCopied] at hempty ⊢
  simp only [execTargetRetireDone, hretiring, hruns, hempty, Bool.not_true, Bool.false_eq_true, if_false, ne_eq, not_true_eq_false]

end

/-- R278: a target without an answer for 100 ms is failed, which its channel reports first. -/
theorem execTargetCommandTimeout_silent (husable : tgtUsable s tg = true) (hpage : s.pageState .ing = pgOn) :
    execTargetCommandTimeout tg false s =
      .next (failTarget (raise .ingch (tg / 4) 3 (s.upTo (s.ck + 100000 * s.ckPerUs))) tg) := by
  simp only [execTargetCommandTimeout, husable, hpage, decide_true, Bool.and_self, Bool.false_eq_true, if_true, if_false]

end

/-- Settles O32: each command in the one branch its conditions leave. A tile without a page is read 14 µs after its arrival and a
retired target is the one `SVC_TGT` shows by the model's choice (log entries 87 and 63). -/
theorem ingotCommandsComplete : Obligations.IngotCommandsComplete :=
  ⟨fun _ _ _ _ => execGarbageCollect_low,
    fun _ _ _ _ => execWearLevel_spread,
    fun _ _ _ _ _ => execIngotReadComplete_unmapped,
    fun _ _ _ _ _ _ _ => execPatrolRead_decoded,
    fun _ _ _ _ _ => execIngotProgramStart_taken,
    fun _ _ _ => execIngotProgramComplete_landed,
    fun _ _ => ⟨execRetireReq_accepted, execRetireReq_busy⟩,
    fun _ _ => execTargetRetireDone_left,
    fun _ _ => execTargetRetireDone_empty,
    fun _ _ => execTargetCommandTimeout_silent⟩

end Sys2Proof.Machine
end

section
/-!
SUPPORT. Reception by sequence number (R289), and the commands of a port's flits (R285 to R291, R395, R396).
-/
namespace Sys2Proof.Machine

open Sys2Proof

/-! ## The distance of a flit's number (R289) -/

/-- R289: how far the number of a flit lies ahead of the one expected, modulo 2^24. -/
def seqDistance (s : State) (p : Nat) (f : Flit) : Nat := (f.seq + 2 ^ 24 - (s.link p).exp) % 2 ^ 24

section

variable {s : State} {p : Nat} {f : Flit}

theorem seqDistance_of_ahead {k : Nat} (hexp : (s.link p).exp < 2 ^ 24) (hk : k < 2 ^ 24)
    (hseq : f.seq = ((s.link p).exp + k) % 2 ^ 24) : seqDistance s p f = k := by
  rw [seqDistance, hseq]
  omega

/-- R289: the expected flit is accepted; without encryption it is delivered at once. -/
theorem takeSeq_expected (hplain : encOn s p = false) (hdist : seqDistance s p f = 0) (hkind : f.kind ≠ fkTag) :
    takeSeq s p f = deliverFlit (modLink s p (fun l => { l with
      exp := (l.exp + 1) % 2 ^ 24, nakCk := none, nakDue := false,
      rxWraps := if l.exp + 1 = 2 ^ 24 then l.rxWraps + 1 else l.rxWraps })) p f := by
  have hplain' : ∀ g : PortLink → PortLink, encOn (modLink s p g) p = false := fun _ => hplain
  rw [seqDistance] at hdist
  simp only [takeSeq, hdist, hplain', hkind, if_true, if_false, Bool.false_eq_true]

/-- R289: a flit up to 4,095 ahead is asked for again. -/
theorem takeSeq_ahead (hlow : 1 ≤ seqDistance s p f) (hhigh : seqDistance s p f ≤ 4095) : takeSeq s p f = askNak s p := by
  rw [seqDistance] at hlow hhigh
  simp only [takeSeq, if_neg (Nat.ne_of_gt hlow), if_pos hhigh]

/-- R289: a flit up to 4,096 behind is a duplicate. -/
theorem takeSeq_behind (hlow : 2 ^ 24 - 4096 ≤ seqDistance s p f) : takeSeq s p f = s := by
  have hother : seqDistance s p f ≠ 0 := by omega
  have hfar : ¬ seqDistance s p f ≤ 4095 := by omega
  rw [seqDistance] at hlow hother hfar
  simp only [takeSeq, if_neg hother, if_neg hfar, if_pos hlow]

/-- R289: any other distance is a protocol error. -/
theorem takeSeq_lost (hlow : 4096 ≤ seqDistance s p f) (hhigh : seqDistance s p f < 2 ^ 24 - 4096) :
    takeSeq s p f = startRetrain (s.bump AVL.PROTO_ERR 1 p) p := by
  have hother : seqDistance s p f ≠ 0 := by omega
  have hfar : ¬ seqDistance s p f ≤ 4095 := by omega
  rw [seqDistance] at hhigh hother hfar
  simp only [takeSeq, if_neg hother, if_neg hfar, if_neg (Nat.not_le.2 hhigh), protoError]

end

/-- Settles O55: the number of a flit gives its distance, and the distance the action; `k` behind is 2^24 − `k` ahead. -/
theorem receiverActsByDistance : Obligations.ReceiverActsByDistance := by
  intro s p f k _ hplain hexp
  refine ⟨fun hseq hkind => ?expected, fun hlow hhigh hseq => ?ahead, fun hlow hhigh hseq => ?behind,
    fun hlow hhigh hseq => ?lost⟩
  case expected =>
    have hdist : seqDistance s p f = 0 := seqDistance_of_ahead hexp (by omega) (by omega)
    exact takeSeq_expected hplain hdist hkind
  case ahead =>
    have hdist : seqDistance s p f = k := seqDistance_of_ahead hexp (by omega) hseq
    exact takeSeq_ahead (hdist ▸ hlow) (hdist ▸ hhigh)
  case behind =>
    have hdist : seqDistance s p f = 2 ^ 24 - k := seqDistance_of_ahead hexp (by omega) hseq
    exact takeSeq_behind (by omega)
  case lost =>
    have hdist : seqDistance s p f = k := seqDistance_of_ahead hexp (by omega) hseq
    exact takeSeq_lost (by omega) (by omega)

/-! ## The commands of flits -/

section

variable {p : Port} {s : State}

/-- R307, R395: a quenched device sends its quench set on every port that can carry it. -/
theorem execFlitTransmit_quenched (hquench : s.quenched = true) (hoff : s.port' p ≠ ptOff) (hempty : s.port' p ≠ ptEmpty)
    (hfailed : s.port' p ≠ ptFailed) :
    execFlitTransmit p s = .next (drive s p { kind := fkQuench, payload := quenchPayload s }) := by
  simp only [execFlitTransmit, hquench, hoff, hempty, hfailed, or_self, if_true, if_false]

/-- R303: a flit slot is counted, and the sixteenth adds 1 to the TC0 share, up to 16. -/
def countSlot (l : PortLink) : PortLink :=
  if 15 ≤ l.slots then { l with slots := 0, share := min 16 (l.share + 1) } else { l with slots := l.slots + 1 }

/-- R303: with no flit to replay, room in the replay buffer and no `TAG` due, the first `CTRL` flit that waits is sent. -/
theorem execFlitTransmit_ctrl {b : List Byte} {bs : List (List Byte)} (hquench : s.quenched = false) (hup : s.port' p = ptUp)
    (hpage : s.pageOn .avl p = true) (hreplay : ((modLink s p countSlot).link p).rp = none)
    (hroom : ((modLink s p countSlot).link p).replay.length < 4096)
    (htag : ((modLink s p countSlot).link p).tagDue = false) (hctrl : ((modLink s p countSlot).link p).ctrl = b :: bs) :
    execFlitTransmit p s = .next (sendSeq (modLink (modLink s p countSlot) p (fun l => { l with ctrl := bs })) p
      { kind := fkCtrl, tc := 0, payload := b }) := by
  have hfull : decide (4096 ≤ ((modLink s p countSlot).link p).replay.length) = false := decide_eq_false (Nat.not_le.2 hroom)
  have hpeer : ptUp ≠ ptPeerQuenched := by decide
  unfold countSlot at *
  simp only [execFlitTransmit, hquench, hup, hpage, hpeer, hreplay, hfull, htag, hctrl, Option.bind_none, Bool.false_eq_true,
    if_false, bne_self_eq_false, Bool.false_and, Bool.not_true, Bool.or_self, Bool.not_false, Bool.and_false]

end

/-- R285, R295: a port takes flits while it is `UP` or `ACTIVE`. -/
theorem portRuns_of_up_or_active {s : State} {p : Nat} (hport : s.port' p = ptUp ∨ s.port' p = ptActive) :
    (s.port' p == ptUp || s.port' p == ptActive) = true := by simpa using hport

section

variable {p : Port} {raw : BitVec 2048} {s : State} {f : Flit} (hquench : s.quenched = false) (hpage : s.pageOn .avl p = true)
  (hport : s.port' p = ptUp ∨ s.port' p = ptActive) (huncorr : s.armed AVL.INJ_UNCORR p = false)
  (hlcrc : s.armed AVL.INJ_LCRC p = false)
include hquench hpage hport huncorr hlcrc

/-- R287: a flit that overlaps an uncorrectable codeword is counted and asked for again, whatever its bytes are. -/
theorem execFlitReceive_uncorrectable : execFlitReceive p raw true s = .next (askNak (s.bump AVL.FEC_UNCORR_CW 1 p) p) := by
  simp [execFlitReceive, hquench, hpage, portRuns_of_up_or_active hport, huncorr, hlcrc]

/-- R287: a flit with a bad `LCRC` is counted and asked for again. -/
theorem execFlitReceive_badCrc (hbad : Flit.parse (leBytes 256 raw.toNat) = (f, false)) :
    execFlitReceive p raw false s = .next (askNak (s.bump AVL.CRC_ERR 1 p) p) := by
  simp [execFlitReceive, hbad, hquench, hpage, portRuns_of_up_or_active hport, huncorr, hlcrc]

/-- R288: a good `IDLE` flit brings its acknowledgement and credits. -/
theorem execFlitReceive_idle (hgood : Flit.parse (leBytes 256 raw.toNat) = (f, true)) (hkind : f.kind = fkIdle) :
    execFlitReceive p raw false s = .next (takeAck (s.wrapAdd AVL.RX_FLITS 1 p) p f) := by
  simp [execFlitReceive, hgood, hquench, hpage, portRuns_of_up_or_active hport, huncorr, hlcrc, hkind, fkIdle, fkQuench, fkTrain]

/-- R288, R289: a good `CTRL` flit brings the same, and then its number decides. -/
theorem execFlitReceive_ctrl (hgood : Flit.parse (leBytes 256 raw.toNat) = (f, true)) (hkind : f.kind = fkCtrl) :
    execFlitReceive p raw false s = .next (takeSeq (takeAck (s.wrapAdd AVL.RX_FLITS 1 p) p f) p f) := by
  simp [execFlitReceive, hgood, hquench, hpage, portRuns_of_up_or_active hport, huncorr, hlcrc, hkind, fkCtrl, fkIdle, fkQuench,
    fkTrain]

end

section

variable {p : Port} {s : State} (hquench : s.quenched = false)
include hquench

/-- R307: a port in service takes its neighbour's quench. -/
theorem execQuenchSetReceive_inService {q : QSet} (hpage : s.pageOn .avl p = true) (hservice : inService s p = true) :
    execQuenchSetReceive p q s =
      .next (takeQuenchSet s p q.dev.toNat q.cause.toNat q.count.toNat q.nonce.toNat q.frame.toNat) := by
  simp only [execQuenchSetReceive, hquench, hpage, hservice, Bool.not_true, Bool.or_self, Bool.false_eq_true, if_false]

/-! ## Replay and timeouts (R289 to R291) -/

/-- R290: a `NAK` makes every unacknowledged flit due again. -/
theorem execLinkReplay_good (hnak : (s.link p).nakIn = true) (hservice : inService s p = true)
    (hkept : (s.link p).replay ≠ []) : execLinkReplay p 0 s =
      .next ((modLink (modLink s p (fun l => { l with nakIn := false })) p (fun l => { l with rp := some 0 })).bump
        AVL.REPLAYS 1 p) := by
  have hsome : (s.link p).replay.isEmpty = false := List.isEmpty_eq_false_iff.2 hkept
  simp only [execLinkReplay, hquench, hnak, hservice, hsome, Bool.not_true, Bool.or_self, Bool.false_eq_true, if_false]
  rfl

/-- R291: an uncorrectable word of the replay buffer fails the port. -/
theorem execLinkReplay_uncorrectable (hnak : (s.link p).nakIn = true) (hservice : inService s p = true) :
    execLinkReplay p 2 s =
      .next (leavePort (raise .avl p 2 (modLink s p (fun l => { l with nakIn := false }))) p ptFailed) := by
  simp only [execLinkReplay, hquench, hnak, hservice, Bool.not_true, Bool.or_self, Bool.false_eq_true, if_false]
  rfl

/-- R289: a `NAK` outstanding for 2 µs is sent again. -/
theorem execNakTimeout_outstanding {t : Nat} (hnak : (s.link p).nakCk = some t) (hservice : inService s p = true) :
    execNakTimeout p s = .next (modLink (s.upTo (t + 2 * s.ckPerUs)) p (fun l => { l with
      nakDue := true, nakCk := some (s.upTo (t + 2 * s.ckPerUs)).ck })) := by
  simp only [execNakTimeout, hnak, hquench, hservice, Bool.not_true, Bool.or_self, Bool.false_eq_true, if_false]

/-- R291: with no acknowledgement for `ACK_TIMEOUT` the port retrains. -/
theorem execAckTimeout_noProgress (hkept : (s.link p).replay ≠ []) (hport : s.port' p = ptUp ∨ s.port' p = ptActive) :
    execAckTimeout p s = .next (startRetrain (raise .avl p 3
      (s.upTo ((s.link p).progCk + ceilDiv (s.reg AVL.ACK_TIMEOUT p * s.ckPerUs) 10))) p) := by
  have hsome : (s.link p).replay.isEmpty = false := List.isEmpty_eq_false_iff.2 hkept
  simp only [execAckTimeout, hsome, portRuns_of_up_or_active hport, hquench, Bool.not_true, Bool.or_self, Bool.false_eq_true,
    if_false]

end

/-- Settles O30: the choice of a flit to send, the check of one received, and the recovery of a link, each in the branch its
conditions leave. -/
theorem linkFlitCommandsComplete : Obligations.LinkFlitCommandsComplete :=
  ⟨fun _ _ => execFlitTransmit_quenched,
    fun _ _ _ _ => execFlitTransmit_ctrl,
    fun _ _ _ _ hquench hpage hport huncorr hlcrc =>
      ⟨execFlitReceive_idle hquench hpage hport huncorr hlcrc, execFlitReceive_ctrl hquench hpage hport huncorr hlcrc,
        execFlitReceive_badCrc hquench hpage hport huncorr hlcrc, execFlitReceive_uncorrectable hquench hpage hport huncorr
          hlcrc⟩,
    fun _ _ _ hquench => execQuenchSetReceive_inService hquench,
    fun _ _ hnak hservice hquench =>
      ⟨execLinkReplay_good hquench hnak hservice, execLinkReplay_uncorrectable hquench hnak hservice⟩,
    fun _ _ _ hnak hservice hquench => execNakTimeout_outstanding hquench hnak hservice,
    fun _ _ hkept hport hquench => execAckTimeout_noProgress hquench hkept hport⟩

end Sys2Proof.Machine
end

section
/-!
SUPPORT. The commands of a port's lanes, its presence and its training (R283, R292 to R298).
-/
namespace Sys2Proof.Machine

open Sys2Proof

section

variable {p : Port} {s t : State}

/-! ## Replacement of a lane (R292; the layout of the lane messages is log entry 45) -/

/-- R292: with its spare free the transmitter repeats the lane that the peer names on the spare. -/
theorem execLaneRequest_free {b : List Byte} (htaken : takeMsg s p ctLaneRequest = some (b, t))
    (hfree : t.flag AVL.STATE_SPARE_USED_TX p = false) :
    execLaneRequest p s = .next (modLink t p (fun l => { l with txRep := some (fieldAt b 0 1 % 4) })) := by
  simp only [execLaneRequest, htaken, hfree, Bool.false_eq_true, if_false]

/-- R292: with the spare equalised the receiver names the lane and a codeword, drawn freely, for the switch. -/
theorem execSpareEqualisationDone_requested {i : Nat} (hreplaced : (s.link p).rxRep = some (i, false)) :
    execSpareEqualisationDone p s = .next (modLink s.draw.2 p (fun l => { l with
      rxRep := some (i, true), ctrl := l.ctrl ++ [ctrlMsg ctLaneSwitch (leBytes 1 i ++ leBytes 8 s.draw.1)] })) := by
  simp only [execSpareEqualisationDone, hreplaced]

/-- R292: at the named codeword the spare takes the lane's place, which is journalled. -/
theorem execLaneSwitch_receive {i : Nat} (hreplaced : (s.link p).rxRep = some (i, true)) : execLaneSwitch p s =
    (let m := s.fld AVL.LANE_MAP_RX p
     let u := s.setFld AVL.LANE_MAP_RX (setBits m (3 * i) 3 (laneSpare m)) p
     let u := (modLink u p (fun l => { l with rxRep := none, good := 0 })).setFld AVL.STATE_SPARE_USED_RX 1 p
     .next (jnlRetire (raise .avl p 4 (u.bump AVL.LANE_SWAPS 1 p)) 2 (8 * p + i))) := by
  simp only [execLaneSwitch, hreplaced]

/-! ## Windows and re-equalisation (R292, R293) -/

/-- R292: a window's counts are shown: the corrected symbols of each lane and the corrected codewords. -/
def windowShown (s : State) (p : Nat) (sym : List Nat) (corr : Nat) : State :=
  ((List.range 5).foldl (fun s x => s.setReg AVL.LANE_SYM (min (2 ^ 32 - 1) (sym.getD x 0)) p x) s).wrapAdd
    AVL.FEC_CORR_CW corr p

/-- R292: a window with no lane over the threshold, and no standby lane to judge, only shows its counts. -/
theorem execLaneWindow_quiet {sym : List Nat} {corr : Nat} (hport : s.port' p = ptUp ∨ s.port' p = ptActive)
    (hquench : s.quenched = false) (hreal : s.armed AVL.INJ_LANE_BAD p = false)
    (hbelow : ∀ x, sym.getD x 0 ≤ s.reg AVL.LANE_THRESH p)
    (hfree : (windowShown s p sym corr).flag AVL.STATE_SPARE_USED_RX p = false) :
    execLaneWindow p sym corr s = .next (windowShown s p sym corr) := by
  have hnone : ∀ x, decide (s.reg AVL.LANE_THRESH p < sym.getD x 0) = false := fun x => decide_eq_false (Nat.not_lt.2 (hbelow x))
  unfold windowShown at *
  simp only [execLaneWindow, portRuns_of_up_or_active hport, hquench, hreal, hnone, hfree, Bool.not_true, Bool.or_self,
    Bool.false_and, Bool.false_eq_true, if_false, List.filter_false, Bool.not_false, if_true]

/-- R293: the period's time comes; while the spare carries a replaced lane or is about to, re-equalisation is skipped. -/
theorem execReEq_due (henabled : s.flag AVL.CTRL_RE_EQ_EN p = true) (hperiod : s.reg AVL.RE_EQ_PERIOD p ≠ 0)
    (hport : s.port' p = ptUp ∨ s.port' p = ptActive) (hquench : s.quenched = false) : execReEq p s =
    (let u := s.upTo ((s.link p).reEqCk + s.reg AVL.RE_EQ_PERIOD p * 1000000 * s.ckPerUs)
     let v := modLink u p (fun l => { l with reEqCk := u.ck })
     .next (if v.flag AVL.STATE_SPARE_USED_RX p || (s.link p).rxRep.isSome then v.bump AVL.RE_EQ_SKIPPED 1 p else v)) := by
  have hset : (s.reg AVL.RE_EQ_PERIOD p == 0) = false := beq_eq_false_iff_ne.2 hperiod
  simp only [execReEq, henabled, hset, portRuns_of_up_or_active hport, hquench, Bool.not_true, Bool.or_self, Bool.false_eq_true,
    if_false]

/-! ## Presence (R295, R296) -/

/-- R295: a cable that was absent is present after 10 ms, and starts the training of an enabled port. -/
theorem execPresenceAssert_absent (habsent : s.flag AVL.STATE_PRESENT p = false) : execPresenceAssert p s =
    (let u := (s.upTo (s.ck + 10000 * s.ckPerUs)).setFld AVL.STATE_PRESENT 1 p
     .next (raise .avl p 11 (if u.flag AVL.CTRL_EN p && u.pageOn .avl p && !u.quenched then
       u.setFld AVL.STATE_PORT ptTraining p else u))) := by
  simp only [execPresenceAssert, habsent, Bool.false_eq_true, if_false]

/-- R296: a cable that goes empties an enabled port; one that goes before its drain ended is noted as early. -/
theorem execPresenceDeassert_present (hpresent : s.flag AVL.STATE_PRESENT p = true) : execPresenceDeassert p s =
    (let u := s.setFld AVL.STATE_PRESENT 0 p
     let v := if u.fld STW.SVC_STATE_DRAIN = 1 ∨ u.fld STW.SVC_STATE_DRAIN = 2 then u.setFld STW.SVC_STATE_EARLY 1 else u
     .next (raise .avl p 11 (if v.flag AVL.CTRL_EN p then leavePort v p ptEmpty else v))) := by
  simp only [execPresenceDeassert, hpresent, Bool.not_true, Bool.false_eq_true, if_false]

/-! ## Training (R283, R296, R298) -/

section

variable {w : BitVec 23} {rx tx : BitVec 5} (hquench : s.quenched = false)
include hquench

theorem execAvlCtrlRetrain_running : execAvlCtrlRetrain p s = .next (startRetrain s p) := if_neg (ne_true_of_eq_false hquench)

variable (hrx : lanesOk rx.toNat = true) (htx : lanesOk tx.toNat = true)
include hrx htx

/-- R296: full training with four of five lanes in each direction brings a fresh link `UP`. -/
theorem execTrainingComplete_lanes (hport : s.port' p = ptTraining) : execTrainingComplete p (some w) rx tx s = .next
    (((freshLink (setLanes (portDown s p) p rx.toNat tx.toNat) p).setReg AVL.PEER (w.toNat + 2 ^ 23) p).setFld
      AVL.STATE_PORT ptUp p) := by
  simp only [execTrainingComplete, hport, hquench, hrx, htx, ne_eq, not_true_eq_false, Bool.false_eq_true, or_self, if_false,
    Bool.and_self, if_true]

/-- R296: short retraining with the same peer resumes the port, which replays what is unacknowledged. -/
theorem execShortRetrainComplete_samePeer (hport : s.port' p = ptRetraining) (hpeer : s.reg AVL.PEER p = w.toNat + 2 ^ 23) :
    execShortRetrainComplete p (some w) rx tx s =
      (let u := setLanes s p rx.toNat tx.toNat
       let v := modLink u p (fun l => { l with
         rp := if l.replay.isEmpty then none else some 0, progCk := u.ck, nakCk := none, nakDue := false, nakIn := false })
       .next (v.setFld AVL.STATE_PORT (v.link p).prev p)) := by
  simp only [execShortRetrainComplete, hport, hquench, hrx, htx, hpeer, ne_eq, not_true_eq_false, Bool.false_eq_true, or_self,
    if_false, Bool.and_self, Bool.not_true, if_true]

end

end

/-- Settles O31: each command in the one branch its conditions leave. The lane in the first payload byte, and the bytes of the
message that names the switch, are the model's choice (log entry 45). -/
theorem linkLaneAndTrainingCommandsComplete : Obligations.LinkLaneAndTrainingCommandsComplete :=
  ⟨fun _ _ _ _ => execLaneRequest_free,
    fun _ _ _ => execSpareEqualisationDone_requested,
    fun _ _ _ => execLaneSwitch_receive,
    fun _ _ _ _ => execLaneWindow_quiet,
    fun _ _ => execReEq_due,
    fun _ _ => execPresenceAssert_absent,
    fun _ _ => execPresenceDeassert_present,
    fun _ _ _ _ _ hquench hrx htx =>
      ⟨execTrainingComplete_lanes hquench hrx htx, execShortRetrainComplete_samePeer hquench hrx htx⟩,
    fun _ _ => execAvlCtrlRetrain_running⟩

end Sys2Proof.Machine
end

section
/-!
SUPPORT. The link exchange (R431, R432), the age of its keys (R301, R433), the random source (R422) and updates that wait (R434).
-/
namespace Sys2Proof.Machine

open Sys2Proof

section

variable {p : Port} {s t u : State} {b : List Byte}

/-! ## The messages of the exchange (R431, R432) -/

/-- R431: a port that may run an exchange takes the oldest message of a type. -/
theorem takeLink_of_linkable {q type : Nat} (hlinkable : linkable s q = true) : takeLink s q type = takeMsg s q type :=
  if_pos hlinkable

/-- With the page ON a command of `TRU_CMD` runs. -/
theorem truRow_on {op : Nat} (hon : s.pageState .tru = pgOn) (f : State → State) :
    truRow op s f = .next (f (s.setFld TRU.TRU_CMD_OP op)) := if_pos hon

/-- R431: the state in which `LINK` runs: the register shows its port and its code. -/
def linkAsked (s : State) (p : Nat) : State := (s.setFld TRU.TRU_CMD_ARG p).setFld TRU.TRU_CMD_OP 8

section

variable (hon : (s.setFld TRU.TRU_CMD_ARG p).pageState .tru = pgOn) (hlinkable : linkable (linkAsked s p) p = true)
include hon hlinkable

/-- R431: with random bits to be had the exchange starts. -/
theorem execLink_started (hrng : rngReady (linkAsked s p) = (true, t)) :
    execLink p s = .next ((startLink t p).setReg TRU.TRU_STATUS (2 ^ 8)) := by
  unfold linkAsked at *
  simp only [execLink, truRow_on hon, hlinkable, hrng, Bool.not_true, Bool.false_eq_true, if_false, if_true]
  rfl

/-- R422, R431: without random bits the exchange is refused with `RNG`. -/
theorem execLink_noRandom (hrng : rngReady (linkAsked s p) = (false, t)) :
    execLink p s = .next (t.setReg TRU.TRU_STATUS (9 + 2 ^ 8)) := by
  unfold linkAsked at *
  simp only [execLink, truRow_on hon, hlinkable, hrng, Bool.not_true, Bool.false_eq_true, if_false]
  rfl

end

section

variable (hlinkable : linkable s p = true)
include hlinkable

/-- R431: a device's `HELLO` whose certificate verifies under the vendor key is answered by the report over its nonce. -/
theorem execHello_verified {v w : State} {r : List Byte} (htaken : takeMsg s p lkHello = some (b, t))
    (hrng : rngReady t = (true, u)) (hrunning : (u.link p).ex.isSome = true) (hdevice : u.flag AVL.PEER_HOST p = false) :
    let cert := slice b 32 1280
    sigOk u u.tru.vendor (cert.take 0x300) (slice cert 0x300 512) = (true, v) →
    report (modLink v p (fun l => { l with peerN := some (fieldAt b 0 32), peerCert := cert })) (slice b 0 32) = (r, w) →
    execHello p s = .next (modLink w p (fun l => { l with ctrl := l.ctrl ++ fragments lkReport r })) := by
  intro cert hsig hreport
  have hstarted : (u.link p).ex.isNone = false := by
    rw [← Option.not_isSome, hrunning, Bool.not_true]
  simp only [cert] at hsig hreport
  simp only [execHello, takeLink_of_linkable hlinkable, htaken, hrng, hstarted, hdevice, hsig, hreport, Bool.not_true,
    Bool.false_eq_true, if_false, sendLink]

/-- R431: a report that passes is answered by this end's share, encrypted under the peer's key. -/
theorem execReport_passed {v : State} {seed : List Byte} {n x : Nat} (hheard : (s.link p).peerN.isSome = true)
    (htaken : takeMsg s p lkReport = some (b, t)) (hpassed : reportOk t p b = (trOk, u)) (hseed : u.drawBytes 64 = (seed, v))
    (hrunning : (v.link p).ex = some (n, x)) :
    execReport p s =
      (let w := modLink v p (fun l => { l with peerRep := true })
       .next (sendLink w p lkShare (oaepEncrypt (certKey (w.link p).peerCert) (leBytes 32 x) seed))) := by
  have hknown : (s.link p).peerN.isNone = false := by
    rw [← Option.not_isSome, hheard, Bool.not_true]
  simp only [execReport, hknown, takeLink_of_linkable hlinkable, htaken, hpassed, hseed, hrunning, Bool.false_eq_true, if_false,
    ne_eq, not_true_eq_false, Option.map_some, Option.getD_some]

/-- R432: a host's share gives the keys of both directions. A device ranks below a host, so this end is lo: it sends under the
first key and receives under the second. -/
theorem execShare_fromHost {x : List Byte} {n sh pn : Nat} (hreported : (s.link p).peerRep = true)
    (htaken : takeMsg s p lkShare = some (b, t))
    (hplain : oaepDecrypt (certKey (certBytes t)).1 t.tru.idPriv (slice b 0 512) = some x) (hlength : x.length = 32)
    (hrunning : (t.link p).ex = some (n, sh)) (hheard : (t.link p).peerN = some pn) (hhost : t.flag AVL.PEER_HOST p = true) :
    execShare p s =
      (let d := fun (g : Nat) => linkDigest g (sh, n, t.self, (p : Nat)) (leNat x, pn, t.fld AVL.PEER_ID p, t.fld AVL.PEER_PORT p)
       let k := fun (g : Nat) => (leNat ((d g).take 32), leNat (slice (d g) 32 5))
       .next (sendLink (installKeys t p (k 1) (k 2)) p lkDone (leBytes 4 0))) := by
  simp only [execShare, hreported, takeLink_of_linkable hlinkable, htaken, hplain, hlength, hrunning, hheard, hhost, Bool.not_true,
    Bool.true_or, Bool.false_eq_true, ne_eq, not_true_eq_false, if_false, if_true, trOk]

variable (htaken : takeMsg s p lkDone = some (b, t))
include htaken

/-- R431: a `DONE` with result 0 ends the exchange. -/
theorem execDone_accepted (hresult : fieldAt b 0 4 = 0) : execDone p s = .next (modLink t p exEnd) := by
  simp only [execDone, takeLink_of_linkable hlinkable, htaken]
  exact if_pos hresult

/-- R431: a `DONE` with another result fails the port. -/
theorem execDone_refused (hresult : fieldAt b 0 4 ≠ 0) : execDone p s =
    .next (raise .tru 0 5 (leavePort ((modLink t p exEnd).bump AVL.AUTH_FAIL 1 p) p ptFailed)) := by
  simp only [execDone, takeLink_of_linkable hlinkable, htaken]
  exact if_neg hresult

end

/-! ## The age of the keys (R301, R433) -/

section

variable (hencrypted : encOn s p = true) (hquench : s.quenched = false)
include hencrypted hquench

/-- R301: at 2^32 − 1 wraps the port fails. -/
theorem execTxWrapsLimit_exhausted (hwraps : 2 ^ 32 - 1 ≤ s.reg AVL.TX_WRAPS p) :
    execTxWrapsLimit p s = .next (leavePort s p ptFailed) := by
  simp only [execTxWrapsLimit, hencrypted, hquench, Bool.not_true, Bool.or_self, Bool.false_eq_true, if_false, if_pos hwraps]

/-- R301, R433: from 2^31 wraps on, a new key is asked for once, and with `AUTO_ROTATE` its exchange starts. -/
theorem execTxWrapsLimit_aged (hold : 2 ^ 31 ≤ s.reg AVL.TX_WRAPS p) (hleft : s.reg AVL.TX_WRAPS p < 2 ^ 32 - 1)
    (hunasked : s.flag AVL.KEY_STATE_KEY_AGE p = false) : execTxWrapsLimit p s =
      (let u := raise .avl p 10 (s.setFld AVL.KEY_STATE_KEY_AGE 1 p)
       .next (if u.flag TRU.LK_POLICY_AUTO_ROTATE && linkable u p && !u.tru.rngBad then startLink u p else u)) := by
  have hask : 2 ^ 31 ≤ s.reg AVL.TX_WRAPS p ∧ ¬ s.flag AVL.KEY_STATE_KEY_AGE p = true :=
    ⟨hold, ne_true_of_eq_false hunasked⟩
  simp only [execTxWrapsLimit, hencrypted, hquench, Bool.not_true, Bool.or_self, Bool.false_eq_true, if_false,
    if_neg (Nat.not_le.2 hleft), if_pos hask]

end

/-! ## Updates that wait (R434) -/

/-- R434: the only update, pending for `UPD_WAIT_FRAMES` frames, is left to the next warm reset. -/
theorem execUpdateDeferTimeout_late {m : Mod} {f : Nat} (hpending : s.tru.upd = [(m, f, false)])
    (hlate : f + s.reg TRU.UPD_WAIT_FRAMES ≤ s.frame) : execUpdateDeferTimeout s =
      .next (raise .tru 0 7 (modTru s (fun t => { t with upd := [(m, f, true)] }))) := by
  simp only [execUpdateDeferTimeout, modTru, hpending, hlate, decide_true, Bool.not_false, Bool.and_self, List.any_cons,
    List.any_nil, Bool.or_false, if_true, List.map_cons, List.map_nil]

end

/-- Settles O39: each message of the exchange in the branch its conditions leave; a failed health test and the window of updates
have no condition. -/
theorem linkExchangeCommandsComplete : Obligations.LinkExchangeCommandsComplete :=
  ⟨fun _ _ _ hon hlinkable => ⟨execLink_started hon hlinkable, execLink_noRandom hon hlinkable⟩,
    fun _ _ _ _ _ _ _ _ hlinkable => execHello_verified hlinkable,
    fun _ _ _ _ _ _ _ _ _ hheard hlinkable => execReport_passed hlinkable hheard,
    fun _ _ _ _ _ _ _ _ hreported hlinkable => execShare_fromHost hlinkable hreported,
    fun _ _ _ _ hlinkable htaken => ⟨execDone_accepted hlinkable htaken, execDone_refused hlinkable htaken⟩,
    fun _ _ hencrypted hquench =>
      ⟨execTxWrapsLimit_exhausted hencrypted hquench, execTxWrapsLimit_aged hencrypted hquench⟩,
    fun _ => rfl,
    fun _ => rfl,
    fun _ _ _ => execUpdateDeferTimeout_late⟩

end Sys2Proof.Machine
end

section
/-!
SUPPORT. The step and the queue (log entry 1), and that every command completes.
-/
namespace Sys2Proof.Machine

open Sys2Proof

theorem step_cons {s : State} {i : Instr} {rest : List Instr} (h : s.pending = i :: rest) :
    step s = exec i { s with pending := rest } := by
  rw [step, h]

theorem step_nil {s : State} (h : s.pending = []) : step s = .next s := by
  rw [step, h]

/-- No command faults or is refused: what it keeps is said of the next state it answers. -/
theorem exec_safe (i : Instr) (s : State) : Safe (exec i s) :=
  have ⟨t, ht, _⟩ := exec_kp Kp.rfl i
  ⟨t, ht⟩

theorem step_safe (s : State) : Safe (step s) := by
  cases h : s.pending with
  | nil => exact ⟨s, step_nil h⟩
  | cons i rest =>
    rw [step_cons h]
    exact exec_safe i _

/-- Settles O1: the front of the queue gives the branch. -/
theorem stepRunsFrontCommand : Obligations.StepRunsFrontCommand := fun _ _ _ => step_cons

/-- Settles O2: an empty queue gives the branch. -/
theorem emptyQueueIdles : Obligations.EmptyQueueIdles := fun _ => step_nil

/-- Settles O6: the command by its arm of `exec_kp`, the step by the command it takes off the queue. -/
theorem everyCommandCompletes : Obligations.EveryCommandCompletes := ⟨exec_safe, step_safe⟩

end Sys2Proof.Machine
end

section
/-!
SUPPORT. The commands of fault registers (R385), of fault injection (R404), of the Quench controller and the watchdog (R391 to R393,
R401), and of the shared land (R417).
-/
namespace Sys2Proof.Machine

open Sys2Proof

/-! ## Pages of the register window -/

/-- A FUSED page has no header that can be reached. -/
theorem pageState_of_headerAt {s : State} {a : Nat} {p : PageKind} {i o : Nat} (h : headerAt s a = some (p, i, o)) :
    s.pageState p i ≠ pgFused := by
  intro hfused
  unfold headerAt at h
  split at h
  · split at h
    · cases h
    · next hpage =>
      cases h
      exact hpage hfused
  · cases h

/-! ## Fault registers (R385) -/

section

variable {s : State} {a : BitVec 26} {p : PageKind} {i o : Nat} (hat : headerAt s a.toNat = some (p, i, o))
include hat

/-- R385: the ones written at `FLT_STATUS` clear their bits. -/
theorem execFltStatusClear_low (v : BitVec 64) (ho : o = 0x10) : execFltStatusClear a v s =
    .next (s.setReg (HDR.FLT_STATUS p) (s.reg (HDR.FLT_STATUS p) i - (s.reg (HDR.FLT_STATUS p) i &&& v.toNat)) i) := by
  simp only [execFltStatusClear, hat, if_pos ho]

/-- R385: a write at the high half of `FLT_STATUS` clears bits 63:32. -/
theorem execFltStatusClear_high (v : BitVec 64) (ho : o = 0x14) : execFltStatusClear a v s =
    .next (s.setReg (HDR.FLT_STATUS p) (s.reg (HDR.FLT_STATUS p) i -
      (s.reg (HDR.FLT_STATUS p) i &&& (v.toNat % 2 ^ 32 * 2 ^ 32))) i) := by
  have hlow : ¬ o = 0x10 := by omega
  simp only [execFltStatusClear, hat, if_neg hlow, if_pos ho]

theorem execFltFirstClear_at (ho : o = 0x30) : execFltFirstClear a s = .next (s.setFld (HDR.FLT_FIRST_VALID p) 0 i) := by
  simp only [execFltFirstClear, hat, if_pos ho]

/-- R391: a header word found with a parity error is handled at its place. -/
theorem execHeaderParityError_at (ho : o < 0x100) : execHeaderParityError a s = .next (headerParity s p i (o / 4)) := by
  simp only [execHeaderParityError, hat, if_pos ho]

end

/-- Settles O51: the offset in the page says which bits a write clears. -/
theorem faultClearsComplete : Obligations.FaultClearsComplete := fun _ v _ _ _ _ hat =>
  ⟨execFltStatusClear_low hat v, execFltStatusClear_high hat v, execFltFirstClear_at hat⟩

/-! ## Fault injection (R404) -/

section

variable {s : State} {p : PageKind} {f : Fld} {i : Nat}

theorem arm_enabled (hen : s.flag STW.INJ_EN_EN = true) (hfused : s.pageState p i ≠ pgFused)
    (hquench : s.pageState p i ≠ pgQuenched) : arm s p f i = s.setFld f 1 i :=
  if_pos (by simp [hen, hfused, hquench])

theorem arm_disabled (hen : s.flag STW.INJ_EN_EN = false) : arm s p f i = s := if_neg (by simp [hen])

end

/-- R404: commands that each arm their own bit set it while `INJ_EN.EN` is set in a page that can take it, and do nothing while it
is clear. -/
theorem injections_of_arm {s : State} {l : List (Instr × PageKind × Fld × Nat)}
    (harm : l.map (fun x => exec x.1 s) = l.map (fun x => .next (arm s x.2.1 x.2.2.1 x.2.2.2))) :
    ∀ x ∈ l, (s.flag STW.INJ_EN_EN = true → s.pageState x.2.1 x.2.2.2 ≠ pgFused → s.pageState x.2.1 x.2.2.2 ≠ pgQuenched →
        exec x.1 s = .next (s.setFld x.2.2.1 1 x.2.2.2)) ∧
      (s.flag STW.INJ_EN_EN = false → exec x.1 s = .next s) := by
  intro x hx
  rw [List.map_inj_left.1 harm x hx]
  exact ⟨fun hen hfused hquench => congrArg _ (arm_enabled hen hfused hquench), fun hen => congrArg _ (arm_disabled hen)⟩

/-- Settles O44: every command of the lists arms its own bit, and that of the header words does so in the page of its offset. -/
theorem injectionArms : Obligations.InjectionArms := by
  refine ⟨fun _ _ => injections_of_arm rfl, fun _ => injections_of_arm rfl, fun _ _ => injections_of_arm rfl,
    fun _ _ => injections_of_arm rfl, fun _ _ => injections_of_arm rfl, fun a s p i o hat => ?header⟩
  case header =>
    rw [exec_hdrParityInj, execHdrParityInj, onPage_of_headerAt hat]
    exact ⟨fun hen hquench => congrArg _ (arm_enabled hen (pageState_of_headerAt hat) hquench),
      fun hen => congrArg _ (arm_disabled hen)⟩

/-! ## The Quench controller (R392, R393) -/

section

variable {s : State}

/-- R392: causes of the codes 1 to 6 all reach the controller. -/
theorem execQuenchEntry_wf {q : QCause} {qs : List QCause} (hq : q.wf = true) (hqs : qs.all QCause.wf = true) :
    execQuenchEntry q qs s = .next (quench s q qs) := by
  have hcode : ∀ x ∈ q :: qs, decide (1 ≤ x.code ∧ x.code ≤ 6) = true := by
    intro x hx
    have hwf : x.wf = true := List.all_eq_true.1 (List.all_cons.trans (by simp [hq, hqs])) x hx
    simp only [QCause.wf, Bool.and_eq_true, decide_eq_true_eq] at hwf
    exact decide_eq_true hwf.1
  rw [execQuenchEntry, List.filter_eq_self.2 hcode]

/-- R392: software quenches the device. -/
theorem execQSwreq_code {v : BitVec 32} (hv : v.toNat % 2 ^ 16 = 0x51E4) :
    execQSwreq v s = .next (quench s ⟨6, 0, 0, 0⟩ []) := if_pos hv

variable (hquench : s.quenched = true)
include hquench

/-- R393: a quenched device shows the safe state 2 µs after its entry. -/
theorem execSafeStateReached_quenched (hsafe : s.flag STW.Q_STATE_SAFE = false) : execSafeStateReached s =
    (let u := s.upTo (s.pwr.qCk + 2 * s.ckPerUs)
     let v := (List.range 4).foldl (fun s c => if s.fld MLD.STATE_ARRAY c = 3 then s.setFld MLD.STATE_ARRAY 0 c else s) u
     .next ((({ v with svc := { v.svc with selfRef := true } } : State).setFld STW.Q_STATE_SAFE 1).setFld STW.SVC_LAMP_SERVICE 1)) :=
  if_pos (by simp [hquench, hsafe])

theorem execFlashQuiesced_busy (hbusy : s.flag STW.Q_STATE_FLASH_BUSY = true) :
    execFlashQuiesced s = .next ((landAll s).setFld STW.Q_STATE_FLASH_BUSY 0) := if_pos (by simp [hquench, hbusy])

end

/-! ## The watchdog (R401) -/

/-- R401: a watched core's period that passes quenches the device if the core missed the one before, and marks it if not. -/
theorem execWdogPeriodExpire_armed {s : State} {k : Fin 4} (harmed : bit (s.fld STW.WDOG_CTRL_ARMED) k = true) :
    execWdogPeriodExpire k s =
      (let u := s.upTo (s.pwr.wdogCk.toList.getD k 0 + s.fld STW.WDOG_CTRL_PERIOD * 1000 * s.ckPerUs)
       let w := wdogStart u k u.ck
       .next (if bit (w.fld STW.WDOG_STATE_MISSED) k then quench w ⟨5, 0, 0, 0⟩ []
         else raise .stw 0 4 (w.setFld STW.WDOG_STATE_MISSED (setBits (w.fld STW.WDOG_STATE_MISSED) k 1 1)))) := by
  simp only [execWdogPeriodExpire, if_pos harmed, apply_ite Host.Outcome.next]

/-! ## The shared land (R417) -/

/-- R417: a write with a tick width that neither clears `PIN_CONFLICT` nor sets both enables only gives the fields their values. -/
theorem execPinCtrlWrite_plain {s : State} {v : BitVec 32} (hwidth : bits v.toNat 2 8 ≠ 0) (hkeep : bit v.toNat 14 = false)
    (hone : (bit v.toNat 0 && bit v.toNat 1) = false) : execPinCtrlWrite v s =
      .next (((((s.setFld PWR.PIN_CTRL_TICK_OUT_EN (bits v.toNat 0 1)).setFld PWR.PIN_CTRL_STROBE_EN
        (bits v.toNat 1 1)).setFld PWR.PIN_CTRL_TICK_W (bits v.toNat 2 8)).setFld PWR.PIN_CTRL_STROBE_SRC
        (bits v.toNat 10 2)).setFld PWR.PIN_CTRL_STROBE_CORE (bits v.toNat 12 2)) := by
  simp only [execPinCtrlWrite, if_neg hwidth, hkeep, hone, Bool.false_and, Bool.false_eq_true, if_false]

/-- Settles O11: each command in the one branch its conditions leave; a kick has no condition. -/
theorem quenchCommandsComplete : Obligations.QuenchCommandsComplete :=
  ⟨fun _ _ _ => execQuenchEntry_wf, fun _ _ => execQSwreq_code, fun _ => execSafeStateReached_quenched,
    fun _ => execFlashQuiesced_busy, fun _ _ _ _ _ => execHeaderParityError_at, fun _ _ => rfl,
    fun _ _ => execWdogPeriodExpire_armed, fun _ _ => execPinCtrlWrite_plain⟩

end Sys2Proof.Machine
end

section
/-!
SUPPORT. The commands of power, clock and temperature (R371, R405 to R415) and of the resets (R454, R455, R458).
-/
namespace Sys2Proof.Machine

open Sys2Proof

section

variable {s : State}

/-! ## The trip and its flush (R371) -/

theorem execPowerFailTrip_low {pin : Bool} {mv : Nat} (hlow : pin = true ∨ mv < 38000) :
    execPowerFailTrip pin mv s = .next (powerFail s pin mv) := if_pos hlow

theorem execFlushComplete_flushing (hflushing : s.flag ING.JNL_STATE_FLUSHING = true) : execFlushComplete s =
    (let t := (flushTail ((landAll s).setFld STW.Q_STATE_FLASH_BUSY 0)).setFld ING.JNL_STATE_FLUSHING 0
     .next { t with svc := { t.svc with flushed := true } }) := if_pos hflushing

/-! ## Input samples and rails (R405 to R408) -/

theorem runOver_below {n ma lim : Nat} (h : ma ≤ lim) : runOver n ma lim = 0 := if_neg (Nat.not_lt.2 h)

/-- R405, R407: a sample in range is shown, and neither raises a source nor counts towards an over-current. -/
theorem execInputSample_inRange {mv ma : Nat} (hlow : 40000 ≤ mv) (hhigh : mv ≤ 46000) (hcurrent : ma ≤ 88000)
    (hreal : (s.upTo (s.pwr.sampleCk + s.ckPerUs)).armed PWR.PWR_INJ_VIN_LOW = false) : execInputSample mv ma s =
      (let u := s.upTo (s.pwr.sampleCk + s.ckPerUs)
       let t := ((((u.setReg PWR.VIN mv).setReg PWR.IIN (min 65535 (ma / 10))).setFld PWR.PWR_STATE_IN_LOW 0).setFld
         PWR.PWR_STATE_IN_HIGH 0)
       .next (modPwr t (fun p => { p with sampleCk := u.ck, over100 := 0, over88 := 0 }))) := by
  have hshown : min 65535 mv = mv := by omega
  have hnolow : ¬ mv < 40000 := by omega
  have hnohigh : ¬ 46000 < mv := by omega
  have hnotrip : ¬ mv < 38000 ∧ ¬ 50000 < mv := by omega
  have hover : ma ≤ 100000 := by omega
  simp only [execInputSample, hreal, Bool.false_eq_true, if_false, hshown, hnolow, hnohigh, hnotrip, decide_false,
    runOver_below hcurrent, runOver_below hover]
  rfl

/-- R408: a rail of a casting raises its source; only casting 0 has `VAUX`. -/
theorem execRailOutOfRegulation_present {d : Die} {rail : Fin 11} (hpresent : (rail : Nat) ≠ 10 ∨ (d : Nat) ≠ 1) :
    execRailOutOfRegulation d rail s = .next (raise .pwr 0 7 s) := if_neg (not_and_or.2 hpresent)

/-! ## Sensors and staggered starts (R409, R413) -/

/-- R413: without an injected reading the sensor's own is taken, with its calibration offset. -/
theorem execSensorRead_real {i : Fin 160} {deci : Int} (htrip : s.armed PWR.PWR_INJ_TRIP = false)
    (hhot : s.armed PWR.PWR_INJ_HOT = false) :
    execSensorRead i deci s = .next (takeReading s i (deci + calEffective s (32 + sensorDie i))) := by
  simp only [execSensorRead, htrip, hhot, Bool.false_and, Bool.false_eq_true, if_false]

/-- R409: the core start with the earliest slot is granted in it. -/
theorem execStaggerGrant_core {t c k : Nat} (hbusy : s.idleFrame = false) (hquench : s.quenched = false)
    (hnext : nextStart s = some (t, 0, c, k)) : execStaggerGrant s =
      (let u := ((({ s.upTo t with stag := s.stag.erase (0, c, k) } : State).bump PWR.GRANTS).setFld PWR.STAG_STATE_LAST (2 * c))
       .next ((u.modSpr c (fun p => { p with lastProgress := t, lastIssue := t, idleCk := 0, cause := false })).setFld
         SPR.STATE_STREAM stRunning c)) := by
  simp only [execStaggerGrant, hbusy, hquench, hnext, Bool.or_self, Bool.false_eq_true, if_false, if_true, Nat.add_zero]

/-! ## Resets (R454, R455, R458) -/

variable {e : BootEnv}

theorem execInputRecovery_flushed (hflushed : s.svc.flushed = true) : execInputRecovery e s = .next (warmBoot s e 4 false) :=
  if_pos hflushed

theorem execRstCmd_code (hon : s.svc.off = false) : execRstCmd 0x7A3C e s = .next (warmBoot s e 1 false) :=
  if_pos ⟨rfl, by simp [hon]⟩

/-- R454: another value than the code is ignored. -/
theorem execRstCmd_other {v : BitVec 16} (hv : v ≠ 0x7A3C) : execRstCmd v e s = .next s :=
  if_neg fun h => hv (BitVec.eq_of_toNat_eq h.1)

/-- R455: after the first failure of the rails the regulators are tried again. -/
theorem execRegulatorRetry_first (hoff : s.svc.off = true) (hfails : s.pwr.railFails = 1) :
    execRegulatorRetry e s = .next (coldBoot s e) := if_pos ⟨hoff, hfails⟩

/-- R458: the step in progress is marked once. -/
theorem execBootStepOvertime_unmarked {k : Fin 9} (hstep : s.fld STW.BOOT_STATE_STEP = (k : Nat) + 1)
    (hunmarked : bit (s.reg STW.BOOT_OVER) k = false) (hquench : s.quenched = false) : execBootStepOvertime k s =
      .next (raise .stw 0 12 (s.setReg STW.BOOT_OVER (setBits (s.reg STW.BOOT_OVER) k 1 1))) :=
  if_pos ⟨hstep, by simp [hunmarked], by simp [hquench]⟩

end

/-- Settles O10: each command in the one branch its conditions leave; an over-current, the loss of the clock and the stop of the
regulators have no condition. -/
theorem powerCommandsComplete : Obligations.PowerCommandsComplete :=
  ⟨fun _ _ _ => execPowerFailTrip_low, fun _ => execFlushComplete_flushing, fun _ _ _ => execInputSample_inRange, fun _ => rfl,
    fun _ _ _ => execRailOutOfRegulation_present, fun _ => rfl, fun _ _ _ => execSensorRead_real,
    fun _ _ _ _ => execStaggerGrant_core, fun _ => rfl, fun _ _ => execInputRecovery_flushed⟩

/-- Settles O37: a cold reset has no condition; the others in the one branch their conditions leave. -/
theorem resetCommandsComplete : Obligations.ResetCommandsComplete :=
  ⟨fun _ _ => rfl, fun _ _ => execRstCmd_code, fun _ _ _ => execRstCmd_other, fun _ _ => execRegulatorRetry_first,
    fun _ _ => execBootStepOvertime_unmarked⟩

end Sys2Proof.Machine
end

section
/-!
SUPPORT. The commands of the Steward: the sideband while it is read-only (R448), the long operations (R441, R442), and presses and
drains (R450 to R453).
-/
namespace Sys2Proof.Machine

open Sys2Proof

/-! ## The sideband while it is read-only (R448) -/

/-- The open offsets are those of `Q_SWREQ`, `SVC_CMD` and `SVC_LAMP`. -/
theorem sbOpen_iff (a : BitVec 32) : sbOpen a.toNat = true ↔ a = 0x420 ∨ a = 0x308 ∨ a = 0x304 := by
  have haddr : STW.Q_SWREQ.addr 0 0 = 0x420 ∧ STW.SVC_CMD.addr 0 0 = 0x308 ∧ STW.SVC_LAMP.addr 0 0 = 0x304 := by decide
  obtain ⟨hswreq, hcmd, hlamp⟩ := haddr
  simp only [sbOpen, hswreq, hcmd, hlamp, Bool.or_eq_true, beq_iff_eq, or_assoc, BitVec.toNat_eq]
  rfl

/-- Settles O46: a write at an open offset is carried out, one at another is refused. -/
theorem sidebandReadOnly : Obligations.SidebandReadOnly := by
  intro a v w e s ha hro
  refine ⟨fun hopen => ?_, fun hswreq hcmd hlamp => ?_⟩
  · have hopen' := (sbOpen_iff a).2 hopen
    exact ⟨congrArg _ (sbWrite_open s ha (Or.inr hopen') ..), congrArg _ (sbWrite_open s ha (Or.inr hopen') ..)⟩
  · have hclosed : sbOpen a.toNat = false := by
      rw [← Bool.not_eq_true, sbOpen_iff]
      exact not_or.2 ⟨hswreq, not_or.2 ⟨hcmd, hlamp⟩⟩
    exact ⟨congrArg _ (sbWrite_readOnly s ha hro hclosed ..), congrArg _ (sbWrite_readOnly s ha hro hclosed ..)⟩

/-! ## Long operations (R441, R442) -/

/-- R441: the operation that the registers of slot `k` ask for, once its code is shown. -/
def lopAsked (s : State) (k op : Nat) : LopSt :=
  let u := s.setFld STW.LOP_CMD_OP op 0 k
  { op := op, len := if op = 5 then 56 else u.reg STW.LOP_LEN 0 k,
    src := (u.fld STW.LOP_SRC_KIND 0 k, u.fld STW.LOP_SRC_ADDR 0 k),
    dst := (u.fld STW.LOP_DST_KIND 0 k, u.fld STW.LOP_DST_ADDR 0 k),
    remote := u.fld STW.LOP_REMOTE_DEV 0 k }

/-- R442: slot `k` with its code shown and its progress and errors at 0. -/
def lopCleared (s : State) (k op : Nat) : State :=
  ((s.setFld STW.LOP_CMD_OP op 0 k).setReg STW.LOP_PROGRESS 0 0 k).setReg STW.LOP_ERRORS 0 0 k

section

variable {s : State} {k op : Nat}

section

variable (hfree : lopOf (s.setFld STW.LOP_CMD_OP op 0 k) k = none)
include hfree

/-- R441, R442: `GO` in a free slot starts the operation or refuses it; the codes of the refusals are log entry 61. -/
theorem lopGo_free : lopGo s k op =
    (let x := lopAsked s k op
     let v := lopCleared s k op
     if !lopBounds v x then lopEnd v k 4 3
     else if lopBusy v k x || (decide (4 ≤ op) && !streamsStill v) then lopEnd v k 4 1
     else (setLop v k (some x)).setReg STW.LOP_STATUS 1 0 k) := by
  simp only [lopGo, hfree, Option.isSome_none, Bool.false_eq_true, if_false]
  rfl

theorem lopGo_outside (hout : lopBounds (lopCleared s k op) (lopAsked s k op) = false) :
    lopGo s k op = lopEnd (lopCleared s k op) k 4 3 := by
  rw [lopGo_free hfree]
  exact if_pos (by simp [hout])

variable (hin : lopBounds (lopCleared s k op) (lopAsked s k op) = true)
include hin

theorem lopGo_started (hidle : lopBusy (lopCleared s k op) k (lopAsked s k op) = false)
    (hstill : op < 4 ∨ streamsStill (lopCleared s k op) = true) :
    lopGo s k op = (setLop (lopCleared s k op) k (some (lopAsked s k op))).setReg STW.LOP_STATUS 1 0 k := by
  have hstarts : (decide (4 ≤ op) && !streamsStill (lopCleared s k op)) = false := by
    rcases hstill with hlow | hstill
    · simp [hlow]
    · simp [hstill]
  rw [lopGo_free hfree]
  simp only [hin, hidle, hstarts, Bool.not_true, Bool.or_self, Bool.false_eq_true, if_false]

theorem lopGo_busy (hbusy : lopBusy (lopCleared s k op) k (lopAsked s k op) = true ∨
    (4 ≤ op ∧ streamsStill (lopCleared s k op) = false)) : lopGo s k op = lopEnd (lopCleared s k op) k 4 1 := by
  rw [lopGo_free hfree]
  simp only [hin, Bool.not_true, Bool.false_eq_true, if_false]
  refine if_pos ?_
  rcases hbusy with hbusy | ⟨hhigh, hmoving⟩
  · simp [hbusy]
  · simp [hhigh, hmoving]

end

/-- R441: the commands of the long operations are `GO` under their codes. -/
theorem exec_longOps (k : Fin 4) (s : State) :
    ∀ q ∈ [(Instr.lopCopy k, 1), (.rcopy k, 2), (.hbmScrub k, 3), (.hbmTest k, 4), (.ingFormat k, 5)],
      exec q.1 s = .next (lopGo s k q.2) := List.map_inj_left.1 rfl

/-- R442: an abort ends what runs in the slot. -/
theorem execLopAbort_running {k : Fin 4} {x : LopSt} (hlop : lopOf s k = some x) : execLopAbort k s =
    .next (lopEnd { s with remote := s.remote.filter (fun r => !(r.core == 4 && r.seq == k)) } k 3 0) :=
  if_pos (by simp [hlop])

section

variable {k : Fin 4} {x : LopSt} {r : List (List Nat)} {errs : Nat} (hlop : lopOf s k = some x) (hquench : s.quenched = false)
include hlop hquench

/-- R441, R442: once the accesses of the last step are served, a step of the slot's operation runs. -/
theorem execLopStep_running : execLopStep k r errs s = .next
    (let t := lopSettle (hbmLeft s) s k
     if lopWaits t k then t
     else if x.op = 1 then copyStep t k x r
     else if x.op = 2 then rcopyStep t k x
     else if x.op = 5 then formatStep t k x r
     else hbmStep t k x errs) := by
  simp only [execLopStep, hquench, hlop, Bool.false_eq_true, if_false, apply_ite Host.Outcome.next]
  rfl

theorem execLopStep_waits (hwaits : lopWaits (lopSettle (hbmLeft s) s k) k = true) :
    execLopStep k r errs s = .next (lopSettle (hbmLeft s) s k) := by
  rw [execLopStep_running hlop hquench]
  exact congrArg _ (if_pos hwaits)

variable (hserved : lopWaits (lopSettle (hbmLeft s) s k) k = false)
include hserved

theorem execLopStep_copy (hop : x.op = 1) : execLopStep k r errs s = .next (copyStep (lopSettle (hbmLeft s) s k) k x r) := by
  simp [execLopStep_running hlop hquench, hserved, hop]

theorem execLopStep_rcopy (hop : x.op = 2) : execLopStep k r errs s = .next (rcopyStep (lopSettle (hbmLeft s) s k) k x) := by
  simp [execLopStep_running hlop hquench, hserved, hop]

theorem execLopStep_hbm (hop : x.op = 3 ∨ x.op = 4) :
    execLopStep k r errs s = .next (hbmStep (lopSettle (hbmLeft s) s k) k x errs) := by
  rcases hop with hop | hop <;> simp [execLopStep_running hlop hquench, hserved, hop]

theorem execLopStep_format (hop : x.op = 5) :
    execLopStep k r errs s = .next (formatStep (lopSettle (hbmLeft s) s k) k x r) := by
  simp [execLopStep_running hlop hquench, hserved, hop]

end

end

/-- Settles O41: the five commands are `lopGo` under their codes; an abort and a step act on what runs in the slot. The status of a
refused start is the model's choice (log entry 61). -/
theorem longOperationCommandsComplete : Obligations.LongOperationCommandsComplete := by
  refine ⟨fun k s q hq hfree => ?go, fun k s x hlop => ⟨execLopAbort_running hlop, fun r errs hquench =>
    ⟨execLopStep_waits hlop hquench, fun hserved => ⟨execLopStep_copy hlop hquench hserved, execLopStep_rcopy hlop hquench hserved,
      execLopStep_hbm hlop hquench hserved, execLopStep_format hlop hquench hserved⟩⟩⟩⟩
  case go =>
    rw [exec_longOps k s q hq]
    exact ⟨fun hin hidle hstill => congrArg _ (lopGo_started hfree hin hidle hstill),
      fun hin hbusy => congrArg _ (lopGo_busy hfree hin hbusy), fun hout => congrArg _ (lopGo_outside hfree hout)⟩

/-! ## Drains (R451, R452) -/

section

variable {s : State}

section

variable (hquench : s.quenched = false)
include hquench

/-- R451: a request moves the drain from NONE and raises its source. -/
theorem drainReq_none (hdrain : s.fld STW.SVC_STATE_DRAIN = 0) : drainReq s =
    (let u := setDrain s 1
     raise .stw 0 6 { u with svc := { u.svc with noteCk := u.ck } }) := if_pos ⟨hdrain, by simp [hquench]⟩

/-- R452: `GO` stops every core, quiesces the pages of a drain and enables no port. -/
theorem drainGo_requested (hdrain : s.fld STW.SVC_STATE_DRAIN = 1) : drainGo s =
    (let u := setDrain s 2
     let u : State := { u with svc := { u.svc with drainCk := u.ck } }
     let u := (List.finRange 4).foldl (fun s c => settled s (execSprCtrlRun c false s)) u
     let u := (PageKind.all.filter PageKind.drains).foldl (fun s p =>
       (List.range p.count).foldl (fun s i => if s.pageState p i = pgFused then s else pageQuiesce s p i true) s) u
     u.setReg ROUT.PORT_EN 0) := if_pos ⟨hdrain, by simp [hquench]⟩

variable (hdrain : s.fld STW.SVC_STATE_DRAIN = 2)
include hdrain

/-- R452: once the drained pages are still the device is safe; the condition is log entry 63. -/
theorem execDrainSafe_done (hdone : drainDone s = true) : execDrainSafe s =
    (let u := lifeSave (flushTail (jnlSnapshot s))
     .next (setDrain { u with svc := { u.svc with selfRef := true } } 3)) := if_pos ⟨hdrain, by simp [hquench], hdone⟩

/-- R452: a drain that passes its limit quenches the device. -/
theorem execDrainLimitExpire_quiescing : execDrainLimitExpire s =
    (let u := s.upTo (s.svc.drainCk + s.fld STW.DRAIN_CTRL_DRAIN_LIMIT * 1000 * s.ckPerUs)
     .next (raise .stw 0 8 (quench u ⟨6, 0, 0, 0⟩ []))) := if_pos ⟨hdrain, by simp [hquench]⟩

end

theorem drainCancel_requested (hdrain : s.fld STW.SVC_STATE_DRAIN = 1) : drainCancel s = setDrain s 0 := if_pos hdrain

theorem execDrainRenotify_requested (hdrain : s.fld STW.SVC_STATE_DRAIN = 1) : execDrainRenotify s =
    (let u := s.upTo (s.svc.noteCk + s.fld STW.DRAIN_CTRL_RENOTIFY * ckPerS s)
     let v : State := { u with svc := { u.svc with noteCk := u.ck } }
     .next (if bit (v.reg (HDR.FLT_EVT_EN .stw)) 6 then sendEvent v .stw 0 6 else v)) := if_pos hdrain

/-! ## Presses (R450, R451) -/

/-- R463: once the device is ready a press is taken at once. -/
theorem pressed_ready (hready : s.flag STW.BOOT_STATE_READY = true) (long : Bool) :
    pressed s long = if long then takeLongPress s else takePress s := by
  simp only [pressed, hready, Bool.not_true, Bool.false_and, Bool.false_eq_true, if_false]

/-- R451: a press in `SAFE` only counts. -/
theorem takePress_safe (hdrain : s.fld STW.SVC_STATE_DRAIN = 3) : takePress s = s.bump STW.SVC_PRESSES := if_pos hdrain

section

variable (hquench : s.quenched = false)
include hquench

/-- R451: what a press does outside quench in each state of a drain that is not safe. -/
theorem takePress_running (hdrain : s.fld STW.SVC_STATE_DRAIN ≠ 3) : takePress s =
    if s.fld STW.SVC_STATE_DRAIN = 0 then drainReq s
    else if s.fld STW.SVC_STATE_DRAIN = 1 then drainCancel s else s.bump STW.SVC_PRESSES := by
  refine (if_neg hdrain).trans ?_
  simp only [hquench, Bool.false_eq_true, if_false]
  rfl

/-- R451: a long press forces a requested drain. -/
theorem takeLongPress_requested (hdrain : s.fld STW.SVC_STATE_DRAIN = 1) :
    takeLongPress s = drainGo (raise .stw 0 7 (s.setFld STW.SVC_STATE_FORCED 1)) := by
  simp only [takeLongPress, hdrain, hquench, drSafe, drRequested, Nat.reduceEqDiff, Bool.false_eq_true, if_true, if_false]

end

end

/-- Settles O42: the drain state and the quench say what each command and press does; `ATTN` shows the length of the last press by
the model's choice (log entry 22). -/
theorem drainCommandsComplete : Obligations.DrainCommandsComplete := by
  refine ⟨fun s hquench => ⟨fun h => congrArg _ (drainReq_none hquench h), fun h => congrArg _ (drainCancel_requested h),
      fun h => congrArg _ (drainGo_requested hquench h), execDrainSafe_done hquench, execDrainLimitExpire_quiescing hquench⟩,
    fun _ => execDrainRenotify_requested, fun s hready => ?press, fun s hready hquench hdrain => ?long⟩
  case press =>
    have hpress : exec .attnPress s = .next (takePress (s.setFld STW.SVC_STATE_ATTN 0)) := congrArg _ (pressed_ready hready false)
    rw [hpress]
    refine ⟨fun h => congrArg _ (takePress_safe h), fun hq h => congrArg _ ?_, fun hq h => congrArg _ ?_,
      fun hq h => congrArg _ ?_⟩ <;> simp [takePress_running hq, h]
  case long => exact congrArg _ ((pressed_ready hready true).trans (takeLongPress_requested hquench hdrain))

end Sys2Proof.Machine
end

section
/-!
SUPPORT. The commands of `TRU_CMD` (R421 to R430, R434).
-/
namespace Sys2Proof.Machine

open Sys2Proof

section

variable {s : State} (hon : s.pageState .tru = pgOn)
include hon

/-! ## Random bits and reports (R422, R430) -/

/-- R422: with random bits to be had a fresh nonce is kept and placed in the buffer. -/
theorem execNonce_ready {u v : State} {b : List Byte} (hrng : rngReady (s.setFld TRU.TRU_CMD_OP 3) = (true, u))
    (hdraw : u.drawBytes 32 = (b, v)) : execNonce s = .next
      ((modTru (tunWrite v (v.fld TRU.TRU_BUF_ADDR) b) (fun t => { t with nonce := some b })).setReg TRU.TRU_STATUS (2 ^ 8)) := by
  simp only [execNonce, truRow_on hon, hrng, hdraw, Bool.not_true, Bool.false_eq_true, if_false]
  rfl

theorem execNonce_noRandom {u : State} (hrng : rngReady (s.setFld TRU.TRU_CMD_OP 3) = (false, u)) :
    execNonce s = .next (u.setReg TRU.TRU_STATUS (9 + 2 ^ 8)) := by
  simp only [execNonce, truRow_on hon, hrng, Bool.not_false, if_true]
  rfl

theorem execAttest_noRandom {u : State} (hrng : rngReady (s.setFld TRU.TRU_CMD_OP 1) = (false, u)) :
    execAttest s = .next (u.setReg TRU.TRU_STATUS (9 + 2 ^ 8)) := by
  simp only [execAttest, truRow_on hon, hrng, Bool.not_false, if_true]
  rfl

/-- R430: the report over a nonce of 16 to 64 bytes is written to the buffer. -/
theorem execAttest_ready {u v : State} {b : List Byte} (hmin : 16 ≤ (truBuf (s.setFld TRU.TRU_CMD_OP 1)).length)
    (hmax : (truBuf (s.setFld TRU.TRU_CMD_OP 1)).length ≤ 64) (hrng : rngReady (s.setFld TRU.TRU_CMD_OP 1) = (true, u))
    (hreport : report u (truBuf (s.setFld TRU.TRU_CMD_OP 1)) = (b, v)) :
    execAttest s = .next ((tunWrite v (v.fld TRU.TRU_BUF_ADDR) b).setReg TRU.TRU_STATUS (2 ^ 8)) := by
  have hlength : ¬ ((truBuf (s.setFld TRU.TRU_CMD_OP 1)).length < 16 ∨ 64 < (truBuf (s.setFld TRU.TRU_CMD_OP 1)).length) := by
    omega
  simp only [execAttest, truRow_on hon, hrng, if_neg hlength, hreport, Bool.not_true, Bool.false_eq_true, if_false]
  rfl

/-! ## Modules and patterns (R424, R428, R434) -/

/-- R424: the result of the checks is shown; a module that fails them is counted and raises source 4. -/
theorem execVerify_checked {r : Nat} {m : Option Mod} {u : State}
    (hcheck : checkModule (s.setFld TRU.TRU_CMD_OP 2) (truBuf (s.setFld TRU.TRU_CMD_OP 2)) = (r, m, u)) : execVerify s = .next
      ((if r = trOk then u else raise .tru 0 4 (u.bump TRU.VERIFY_FAILS)).setReg TRU.TRU_STATUS (r + 2 ^ 8)) := by
  simp only [execVerify, truRow_on hon, hcheck]
  rfl

/-- R428: an image whose signature verifies is kept for its load. -/
theorem execPatverify_checked {ok : Bool} {u : State} (hlength : 544 ≤ (truBuf (s.setFld TRU.TRU_CMD_OP 7)).length) :
    let o := s.setFld TRU.TRU_CMD_OP 7
    let b := truBuf o
    sigOk o (ownerOrVendor o) (b.take (b.length - 512)) (b.drop (b.length - 512)) = (ok, u) →
    execPatverify s = .next ((modTru u (fun t => { t with
      patImg := if ok then some (b.take (b.length - 512)) else none })).setReg TRU.TRU_STATUS ((if ok then 0 else 3) + 2 ^ 8)) := by
  intro o b hsig
  have hlong : ¬ b.length < 512 + 32 := Nat.not_lt.2 hlength
  simp only [b, o] at hsig hlong
  simp only [execPatverify, truRow_on hon, if_neg hlong, hsig]
  cases ok <;> rfl

/-- R434: a module that passes is programmed, journalled and pending. -/
theorem execUpdate_stored {m : Mod} {u v : State}
    (hcheck : checkModule (s.setFld TRU.TRU_CMD_OP 6) (truBuf (s.setFld TRU.TRU_CMD_OP 6)) = (trOk, some m, u))
    (hfree : u.tru.upd.any (fun x => x.1.block == m.block) = false) (hruns : ingRuns u = true)
    (hprogram : programModule u m (truBuf (s.setFld TRU.TRU_CMD_OP 6)).length = some v) : execUpdate s =
      (let w := modTru (jnlModule v m) (fun t => { t with upd := t.upd ++ [(m, v.frame, decide (m.block ≤ 2))] })
       .next ((w.setFld TRU.TRU_STATE_UPD_PENDING (b2n (!w.tru.upd.isEmpty))).setReg TRU.TRU_STATUS (2 ^ 8))) := by
  simp only [execUpdate, truRow_on hon, hcheck, hfree, hruns, hprogram, Bool.not_true, Bool.or_self, Bool.false_eq_true, if_false]
  rfl

/-! ## The owner key (R427) -/

/-- The state of `ENROL` (4) and `UNENROL` (5) past their first act: the nonce is used up. -/
def nonceUsed (s : State) (op : Nat) : State := modTru (s.setFld TRU.TRU_CMD_OP op) (fun t => { t with nonce := none })

/-- R427: a token over this device's nonce that verifies under the vendor key enrols its key; its layout is log entry 50. -/
theorem execEnrol_token {n : List Byte} {u : State} (hnonce : (s.setFld TRU.TRU_CMD_OP 4).tru.nonce = some n)
    (howner : (s.setFld TRU.TRU_CMD_OP 4).tru.owner = none) :
    let b := truBuf (s.setFld TRU.TRU_CMD_OP 4)
    b.length = 1076 → sigOk (nonceUsed s 4) (nonceUsed s 4).tru.vendor (b.take 564) (b.drop 564) = (true, u) →
    b.take 48 = tokenHead u n → execEnrol s = .next ((writeRecord3 (showOwner (modTru u (fun t => { t with
      owner := some (beNat (slice b 48 512), beNat (slice b 560 4)) })))).setReg TRU.TRU_STATUS (2 ^ 8)) := by
  intro b hlength hsig hhead
  have hfree : (nonceUsed s 4).tru.owner = none := howner
  simp only [b] at hlength hsig hhead
  unfold nonceUsed at *
  simp only [execEnrol, truRow_on hon, hnonce, hfree, hlength, hsig, hhead, Option.isSome_none, Option.isNone_some,
    Option.getD_some, bne_self_eq_false, Bool.or_self, Bool.not_true, ne_eq, not_true_eq_false, Bool.false_eq_true, if_false]
  rfl

/-- R427: a device with an owner refuses another. -/
theorem execEnrol_owned {k : Nat × Nat} (howner : (s.setFld TRU.TRU_CMD_OP 4).tru.owner = some k) :
    execEnrol s = .next ((raise .tru 0 6 (nonceUsed s 4)).setReg TRU.TRU_STATUS (7 + 2 ^ 8)) := by
  have howned : (nonceUsed s 4).tru.owner = some k := howner
  unfold nonceUsed at *
  simp only [execEnrol, truRow_on hon, howned, Option.isSome_some, if_true]
  rfl

/-- R427: with no owner module left a token that verifies takes the owner key away. -/
theorem execUnenrol_token {n : List Byte} {u : State} {k : Nat × Nat} (hnonce : (s.setFld TRU.TRU_CMD_OP 5).tru.nonce = some n)
    (howner : (s.setFld TRU.TRU_CMD_OP 5).tru.owner = some k) (hmods : (s.setFld TRU.TRU_CMD_OP 5).tru.mods = [])
    (hstored : (s.setFld TRU.TRU_CMD_OP 5).tru.stored = []) (hupd : (s.setFld TRU.TRU_CMD_OP 5).tru.upd = []) :
    let b := truBuf (s.setFld TRU.TRU_CMD_OP 5)
    b.length = 560 → sigOk (nonceUsed s 5) (nonceUsed s 5).tru.vendor (b.take 48) (b.drop 48) = (true, u) →
    b.take 48 = tokenHead u n →
    execUnenrol s = .next ((writeRecord3 (showOwner (modTru u (fun t => { t with owner := none })))).setReg TRU.TRU_STATUS (2 ^ 8)) := by
  intro b hlength hsig hhead
  have howned : (nonceUsed s 5).tru.owner = some k := howner
  have hmods' : (nonceUsed s 5).tru.mods = [] := hmods
  have hstored' : (nonceUsed s 5).tru.stored = [] := hstored
  have hupd' : (nonceUsed s 5).tru.upd = [] := hupd
  simp only [b] at hlength hsig hhead
  rw [hhead] at hsig
  unfold nonceUsed at *
  simp only [execUnenrol, truRow_on hon, hnonce, howned, hmods', hstored', hupd', hlength, hsig, hhead, Option.isNone_some,
    Option.getD_some, List.any_nil, bne_self_eq_false, Bool.or_self, Bool.true_or, Bool.not_true, ne_eq, not_true_eq_false,
    Bool.false_eq_true, if_false]
  rfl

end

/-- Settles O38: each command in the branch that its checks leave. The layout of a token is the model's reading of R427 (log entry
50). -/
theorem trustCommandsComplete : Obligations.TrustCommandsComplete := fun _ hon =>
  ⟨fun _ _ _ => execVerify_checked hon, fun _ _ _ => execNonce_ready hon,
    fun _ => ⟨execNonce_noRandom hon, execAttest_noRandom hon⟩, fun _ _ => execEnrol_token hon, fun _ => execEnrol_owned hon,
    fun _ _ _ => execUnenrol_token hon, fun _ _ => execPatverify_checked hon, fun _ _ _ => execAttest_ready hon,
    fun _ _ _ => execUpdate_stored hon⟩

end Sys2Proof.Machine
end

section
/-!
SUPPORT. Registers under composed updates: fields of a register, registers at different places of the window (R438), and updates that
write no register outside a list.
-/
namespace Sys2Proof.Machine

open Sys2Proof

/-! ## Fields -/

theorem testBit_bits (n lo w k : Nat) : (bits n lo w).testBit k = (decide (k < w) && n.testBit (lo + k)) := by
  rw [bits, Nat.testBit_mod_two_pow, Nat.testBit_shiftRight]

/-- A field that is set is a write under the field's mask. -/
theorem setBits_eq_mergeBits (n lo w v : Nat) : setBits n lo w v = mergeBits n (v <<< lo) ((2 ^ w - 1) <<< lo) := by
  have hold : bits n lo w * 2 ^ lo = n &&& (2 ^ w - 1) <<< lo := by
    rw [← Nat.shiftLeft_eq]
    refine Nat.eq_of_testBit_eq fun k => ?_
    simp only [Nat.testBit_shiftLeft, testBit_bits, Nat.testBit_and, Nat.testBit_two_pow_sub_one]
    rcases Nat.lt_or_ge k lo with hk | hk
    · simp [Nat.not_le.2 hk]
    · simp [hk, Bool.and_comm]
  have hnew : v % 2 ^ w * 2 ^ lo = v <<< lo &&& (2 ^ w - 1) <<< lo := by
    rw [← Nat.and_two_pow_sub_one_eq_mod, ← Nat.shiftLeft_eq, Nat.shiftLeft_and_distrib]
  rw [setBits, mergeBits, hold, hnew]

theorem testBit_setBits (n lo w v k : Nat) :
    (setBits n lo w v).testBit k = if lo ≤ k ∧ k < lo + w then v.testBit (k - lo) else n.testBit k := by
  rw [setBits_eq_mergeBits, testBit_mergeBits]
  simp only [Nat.testBit_shiftLeft, Nat.testBit_two_pow_sub_one]
  rcases Nat.lt_or_ge k lo with hk | hk
  · simp [Nat.not_le.2 hk]
  · have hiff : k - lo < w ↔ k < lo + w := by omega
    simp [hk, hiff]

/-- A field shows the value it was set to, cut to its width, if the register holds it whole. -/
theorem bits_setBits_same {lo w m : Nat} (n v : Nat) (hm : lo + w ≤ m) : bits (setBits n lo w v % 2 ^ m) lo w = v % 2 ^ w := by
  refine Nat.eq_of_testBit_eq fun k => ?_
  simp only [testBit_bits, Nat.testBit_mod_two_pow, testBit_setBits]
  by_cases hk : k < w
  · have hplace : lo + k < m ∧ lo ≤ lo + k ∧ lo + k < lo + w := by omega
    simp [hk, hplace]
  · simp [hk]

/-- A field keeps its value when another, apart from it, is set. -/
theorem bits_setBits_apart {lo w lo' w' m : Nat} (n v : Nat) (hm : lo' + w' ≤ m) (hapart : lo' + w' ≤ lo ∨ lo + w ≤ lo') :
    bits (setBits n lo w v % 2 ^ m) lo' w' = bits n lo' w' := by
  refine Nat.eq_of_testBit_eq fun k => ?_
  simp only [testBit_bits, Nat.testBit_mod_two_pow, testBit_setBits]
  by_cases hk : k < w'
  · have hplace : lo' + k < m ∧ ¬ (lo ≤ lo' + k ∧ lo' + k < lo + w) := by omega
    simp [hk, hplace]
  · simp [hk]

theorem State.Sound.setReg {s : State} (hs : s.Sound) (r : Reg) (v inst i : Nat) : (s.setReg r v inst i).Sound :=
  (State.setReg_kp r v inst i Kp.rfl).sound hs

theorem State.Sound.bump {s : State} (hs : s.Sound) (r : Reg) (k inst i : Nat) : (s.bump r k inst i).Sound := hs.setReg ..

section

variable {s : State} (hs : s.Sound) {f : Fld} (hf : f.reg.fuse = false)
include hs hf

theorem State.fld_setFld_same (hw : f.lo + f.w ≤ f.reg.width) (v inst i : Nat) :
    (s.setFld f v inst i).fld f inst i = v % 2 ^ f.w := by
  rw [State.setFld, State.fld, State.reg_setReg_same hs hf, bits_setBits_same _ _ hw]

theorem State.fld_setFld_apart {g : Fld} (hreg : g.reg = f.reg) (hw : g.lo + g.w ≤ f.reg.width)
    (hapart : g.lo + g.w ≤ f.lo ∨ f.lo + f.w ≤ g.lo) (v inst i : Nat) :
    (s.setFld f v inst i).fld g inst i = s.fld g inst i := by
  rw [State.setFld, State.fld, State.fld, hreg, State.reg_setReg_same hs hf, bits_setBits_apart _ _ hw hapart]

end

/-- A saturating counter that is increased. -/
theorem satN_eq_min (w n : Nat) : satN w n = min n (2 ^ w - 1) := by
  have hpos := Nat.two_pow_pos w
  unfold satN
  split <;> omega

theorem State.reg_bump_same {s : State} (hs : s.Sound) {r : Reg} (hr : r.fuse = false) (k inst i : Nat) :
    (s.bump r k inst i).reg r inst i = min (s.reg r inst i + k) (2 ^ r.width - 1) := by
  have hpos := Nat.two_pow_pos r.width
  rw [State.bump, State.reg_setReg_same hs hr, satN_eq_min, Nat.mod_eq_of_lt (by omega)]

/-- A register holds at most 64 bits. -/
theorem State.reg_lt (s : State) (r : Reg) (inst i : Nat) : s.reg r inst i < 2 ^ 64 := by
  unfold State.reg
  split <;> exact BitVec.isLt _

/-! ## Places of the window -/

/-- Element `i` of `r` in page `inst` lies in the register window (R438). -/
structure Reg.Placed (r : Reg) (inst i : Nat) : Prop where
  mem : r ∈ r.page.regs
  inst : inst < r.page.count
  idx : i < r.count

theorem PageKind.mem_all (p : PageKind) : p ∈ PageKind.all := by cases p <;> decide

section

variable {q r : Reg} {j k inst i : Nat}

/-- Different places lie at different offsets: the map gives each back. -/
theorem Reg.Placed.eq_of_addr (hq : q.Placed j k) (hr : r.Placed inst i) (h : q.addr j k = r.addr inst i) :
    q = r ∧ j = inst ∧ k = i := by
  have hatq := regAt_addr (PageKind.mem_all _) hq.inst hq.mem hq.idx (Or.inl rfl)
  have hatr := regAt_addr (PageKind.mem_all _) hr.inst hr.mem hr.idx (Or.inl rfl)
  rw [h, hatr] at hatq
  injection hatq with hloc
  injection hloc with hreg hinst hidx
  exact ⟨hreg.symm, hinst.symm, hidx.symm⟩

end

/-! ## Header registers -/

section

variable {p : PageKind} {r : Reg} (hr : r ∈ HDR.allRegs p)
include hr

theorem header_placed {i m : Nat} (hi : i < p.count) (hm : m < r.count) : r.Placed i m := by
  have hmem : r ∈ p.regs := List.mem_append_right _ hr
  obtain ⟨rfl, -, -⟩ := regs_fit p r hmem
  exact ⟨hmem, hi, hm⟩

theorem header_off_lt : r.off < 0x100 := by
  have hall : ∀ r ∈ HDR.allRegs p, r.off < 0x100 := by cases p <;> decide
  exact hall r hr

/-- A register past the header of its page lies nowhere in the header of a page. -/
theorem addr_ne_header {q : Reg} {j k i m : Nat} (hq : q.Placed j k) (hoff : 0x100 ≤ q.off) (hi : i < p.count) (hm : m < r.count) :
    q.addr j k ≠ r.addr i m := by
  intro h
  have hlt := header_off_lt hr
  rw [(hq.eq_of_addr (header_placed hr hi hm) h).1] at hoff
  omega

end

end Sys2Proof.Machine
end

section
/-!
SUPPORT. A fault source that is raised at RECORD severity (R385, R388).
-/
namespace Sys2Proof.Machine

open Sys2Proof

/-- Sources are numbered below 64 (R384). -/
theorem source_lt_of_defines {p : PageKind} {src : Nat} (h : p.defines src = true) : src < 64 := by
  obtain ⟨x, hx, heq⟩ := List.any_eq_true.1 h
  have hlt : ∀ x ∈ p.sources, x.1 < 64 := by cases p <;> decide
  exact beq_iff_eq.1 heq ▸ hlt x hx

/-- The status bits with a source's bit set. -/
theorem setStatusBit_eq_or (st src : Nat) : (if bit st src then st else st + 2 ^ src) = st ||| 2 ^ src := by
  rw [bit_eq_testBit]
  split
  · next hset =>
    refine Nat.eq_of_testBit_eq fun k => ?_
    rw [Nat.testBit_or, Nat.testBit_two_pow]
    by_cases hk : src = k
    · simp [← hk, hset]
    · simp [hk]
  · next hclear =>
    refine add_eq_or_of_and_eq_zero _ _ (Nat.eq_of_testBit_eq fun k => ?_)
    rw [Nat.testBit_and, Nat.testBit_two_pow, Nat.zero_testBit]
    by_cases hk : src = k
    · simp [← hk, hclear]
    · simp [hk]

/-- R385: the source's status bit set and its count, if it has one, increased. -/
def faultCounted (s : State) (p : PageKind) (i src : Nat) : State :=
  let u := s.setReg (HDR.FLT_STATUS p) (s.reg (HDR.FLT_STATUS p) i ||| 2 ^ src) i
  if src ≤ 15 then u.bump (HDR.FLT_COUNT p) 1 i src else u

/-- A state in which a first fault is noted as of this ck. -/
def faultNoted (s : State) (p : PageKind) (i : Nat) : State :=
  { s with firstCk := sset 0 s.firstCk (p.base i) (s.ck + 1) }

/-- R385: the capture of a first fault, with its frame and the model's note of its ck. -/
def faultCaptured (s : State) (p : PageKind) (i src : Nat) : State :=
  let s := (faultNoted s p i).setReg (HDR.FLT_FIRST p) (src + 2 ^ 31) i
  let s := s.setReg (HDR.FLT_FIRST_FRAME p) (s.frame % 2 ^ 32) i 0
  s.setReg (HDR.FLT_FIRST_FRAME p) (s.frame / 2 ^ 32 % 2 ^ 16) i 1

/-- R385: a captured fault is of this ck and of a higher source than `src`. -/
def capturedHigher (s : State) (p : PageKind) (i src : Nat) : Bool :=
  s.flag PWR.CLK_STATE_CK && sget 0 s.firstCk (p.base i) == s.ck + 1 &&
    decide (src < s.reg (HDR.FLT_FIRST p) i % 64)

section

variable {s : State} {p : PageKind} {i src : Nat}

/-! ## Registers that a record leaves -/

/-- A register at another offset than the status and the count reads as before. -/
theorem faultCounted_other (hs : s.Sound) {q : Reg} {j k : Nat} (hstatus : q.addr j k ≠ (HDR.FLT_STATUS p).addr i 0)
    (hcount : src ≤ 15 → q.addr j k ≠ (HDR.FLT_COUNT p).addr i src) : (faultCounted s p i src).reg q j k = s.reg q j k := by
  unfold faultCounted
  split
  · next hlow => exact (State.reg_setReg_other (hs.setReg ..) _ (hcount hlow)).trans (State.reg_setReg_other hs _ hstatus)
  · exact State.reg_setReg_other hs _ hstatus

theorem faultCounted_sound (hs : s.Sound) : (faultCounted s p i src).Sound := by
  unfold faultCounted
  split
  · exact (hs.setReg ..).bump ..
  · exact hs.setReg ..

theorem faultCounted_frame : ∃ regs, faultCounted s p i src = { s with regs := regs } := by
  unfold faultCounted
  split <;> exact ⟨_, rfl⟩

/-- A register past the header of its page is neither the status nor a count of a page. -/
theorem faultCounted_pastHeader (hs : s.Sound) (hi : i < p.count) {q : Reg} {j k : Nat} (hq : q.Placed j k) (hoff : 0x100 ≤ q.off) :
    (faultCounted s p i src).reg q j k = s.reg q j k :=
  faultCounted_other hs (addr_ne_header (by simp [HDR.allRegs]) hq hoff hi Nat.one_pos)
    fun hlow => addr_ne_header (by simp [HDR.allRegs]) hq hoff hi (Nat.lt_succ_of_le hlow)

/-- Two places of the header of a page are apart if their offsets in it are. -/
theorem header_addr_ne {q r : Reg} {k m : Nat} (hq : q.page = p) (hr : r.page = p)
    (h : q.off + q.stride * k ≠ r.off + r.stride * m) : q.addr i k ≠ r.addr i m := by
  simp only [Reg.addr, hq, hr]
  omega

theorem faultCounted_first (hs : s.Sound) :
    (faultCounted s p i src).reg (HDR.FLT_FIRST p) i = s.reg (HDR.FLT_FIRST p) i := by
  refine faultCounted_other hs (header_addr_ne rfl rfl ?_) fun _ => header_addr_ne rfl rfl ?_ <;>
    simp only [HDR.FLT_FIRST, HDR.FLT_STATUS, HDR.FLT_COUNT] <;> omega

theorem faultCounted_status (hs : s.Sound) (hsrc : src < 64) :
    (faultCounted s p i src).reg (HDR.FLT_STATUS p) i = s.reg (HDR.FLT_STATUS p) i ||| 2 ^ src := by
  have hlt : s.reg (HDR.FLT_STATUS p) i ||| 2 ^ src < 2 ^ (HDR.FLT_STATUS p).width :=
    Nat.or_lt_two_pow (s.reg_lt _ _ _) (Nat.pow_lt_pow_right Nat.one_lt_two hsrc)
  have hset := State.reg_setReg_same hs (r := HDR.FLT_STATUS p) rfl (s.reg (HDR.FLT_STATUS p) i ||| 2 ^ src) i 0
  rw [Nat.mod_eq_of_lt hlt] at hset
  unfold faultCounted
  split
  · have hother : (HDR.FLT_STATUS p).addr i 0 ≠ (HDR.FLT_COUNT p).addr i src := by
      refine header_addr_ne rfl rfl ?_
      simp only [HDR.FLT_STATUS, HDR.FLT_COUNT]
      omega
    exact (State.reg_setReg_other (hs.setReg ..) _ hother).trans hset
  · exact hset

theorem faultCounted_count (hs : s.Sound) (hlow : src ≤ 15) :
    (faultCounted s p i src).reg (HDR.FLT_COUNT p) i src = min (s.reg (HDR.FLT_COUNT p) i src + 1) (2 ^ 32 - 1) := by
  have hother : (HDR.FLT_COUNT p).addr i src ≠ (HDR.FLT_STATUS p).addr i 0 := by
    refine header_addr_ne rfl rfl ?_
    simp only [HDR.FLT_STATUS, HDR.FLT_COUNT]
    omega
  rw [faultCounted, if_pos hlow, State.reg_bump_same (hs.setReg ..) rfl, State.reg_setReg_other hs _ hother]
  rfl

/-! ## What a record does -/

/-- R385: the status and the count come first; then a first fault is captured, and in its ck a lower source takes its place. -/
theorem recordFault_eq (hs : s.Sound) (hi : i < p.count) : recordFault s p i src =
    if s.flag (HDR.FLT_FIRST_VALID p) i then
      if capturedHigher s p i src then (faultCounted s p i src).setReg (HDR.FLT_FIRST p) (src + 2 ^ 31) i
      else faultCounted s p i src
    else faultCaptured (faultCounted s p i src) p i src := by
  have hvalid : (faultCounted s p i src).flag (HDR.FLT_FIRST_VALID p) i = s.flag (HDR.FLT_FIRST_VALID p) i := by
    simp only [State.flag, State.fld, HDR.FLT_FIRST_VALID, faultCounted_first hs]
  have hclk : (faultCounted s p i src).flag PWR.CLK_STATE_CK = s.flag PWR.CLK_STATE_CK := by
    have hplaced : PWR.CLK_STATE.Placed 0 0 := ⟨by decide, by decide, by decide⟩
    simp only [State.flag, State.fld, PWR.CLK_STATE_CK, faultCounted_pastHeader hs hi hplaced (by decide)]
  have hnote : (faultCounted s p i src).firstCk = s.firstCk ∧ (faultCounted s p i src).ck = s.ck := by
    unfold faultCounted
    split <;> exact ⟨rfl, rfl⟩
  rw [recordFault, setStatusBit_eq_or]
  change (if (faultCounted s p i src).flag (HDR.FLT_FIRST_VALID p) i = true then
    if capturedHigher (faultCounted s p i src) p i src = true then _ else _ else _) = _
  rw [hvalid, show capturedHigher (faultCounted s p i src) p i src = capturedHigher s p i src by
    simp only [capturedHigher, hclk, hnote, faultCounted_first hs]]
  rfl

/-! ## The capture -/

theorem faultNoted_sound (hs : s.Sound) : (faultNoted s p i).Sound := { hs with }

/-- The header of a page holds no part of the frame counter. -/
theorem frame_setReg_header {r : Reg} {m : Nat} (hs : s.Sound) (hr : r ∈ HDR.allRegs p) (hi : i < p.count) (hm : m < r.count) (v : Nat) :
    (s.setReg r v i m).frame = s.frame := by
  have hplaced : PWR.FRAME_COUNT.Placed 0 0 := ⟨by decide, by decide, by decide⟩
  exact State.reg_setReg_other hs v (addr_ne_header hr hplaced (by decide) hi hm)

theorem faultCaptured_eq (hs : s.Sound) (hi : i < p.count) : faultCaptured s p i src =
    (((faultNoted s p i).setReg (HDR.FLT_FIRST p) (src + 2 ^ 31) i).setReg (HDR.FLT_FIRST_FRAME p) (s.frame % 2 ^ 32) i 0).setReg
      (HDR.FLT_FIRST_FRAME p) (s.frame / 2 ^ 32 % 2 ^ 16) i 1 := by
  have hnoted := faultNoted_sound (p := p) (i := i) hs
  have hframe : (HDR.FLT_FIRST_FRAME p) ∈ HDR.allRegs p := by simp [HDR.allRegs]
  have hfirst : ((faultNoted s p i).setReg (HDR.FLT_FIRST p) (src + 2 ^ 31) i).frame = s.frame :=
    frame_setReg_header hnoted (by simp [HDR.allRegs]) hi Nat.one_pos _
  simp only [faultCaptured, hfirst, frame_setReg_header (hnoted.setReg ..) hframe hi Nat.two_pos]

/-- What a record writes beside the status and the count it writes for a capture. -/
theorem recordFault_uncaptured (hs : s.Sound) (hi : i < p.count) {q : Reg} {j k : Nat}
    (hfirst : s.flag (HDR.FLT_FIRST_VALID p) i = false ∨ capturedHigher s p i src = true → q.addr j k ≠ (HDR.FLT_FIRST p).addr i 0)
    (hframe : s.flag (HDR.FLT_FIRST_VALID p) i = false →
      q.addr j k ≠ (HDR.FLT_FIRST_FRAME p).addr i 0 ∧ q.addr j k ≠ (HDR.FLT_FIRST_FRAME p).addr i 1) :
    (recordFault s p i src).reg q j k = (faultCounted s p i src).reg q j k := by
  have hsound := faultCounted_sound (p := p) (i := i) (src := src) hs
  rw [recordFault_eq hs hi]
  split_ifs with hvalid hhigher
  · exact State.reg_setReg_other hsound _ (hfirst (Or.inr hhigher))
  · rfl
  · have hnone := Bool.eq_false_of_not_eq_true hvalid
    obtain ⟨hlow, hhigh⟩ := hframe hnone
    have hnoted := faultNoted_sound (p := p) (i := i) hsound
    rw [faultCaptured, State.reg_setReg_other ((hnoted.setReg ..).setReg ..) _ hhigh,
      State.reg_setReg_other (hnoted.setReg ..) _ hlow, State.reg_setReg_other hnoted _ (hfirst (Or.inl hnone))]
    rfl

/-- R385: a fault that is captured, as the first or in the place of a higher source, shows with `VALID`. -/
theorem recordFault_first (hs : s.Sound) (hi : i < p.count) (hsrc : src < 64)
    (h : s.flag (HDR.FLT_FIRST_VALID p) i = false ∨ capturedHigher s p i src = true) :
    (recordFault s p i src).reg (HDR.FLT_FIRST p) i = src + 2 ^ 31 := by
  have hsound := faultCounted_sound (p := p) (i := i) (src := src) hs
  have hnoted := faultNoted_sound (p := p) (i := i) hsound
  have hfits : (src + 2 ^ 31) % 2 ^ (HDR.FLT_FIRST p).width = src + 2 ^ 31 := Nat.mod_eq_of_lt (by
    simp only [HDR.FLT_FIRST, Reg.width, Bool.false_eq_true, if_false]; omega)
  have hlow : (HDR.FLT_FIRST p).addr i 0 ≠ (HDR.FLT_FIRST_FRAME p).addr i 0 :=
    header_addr_ne rfl rfl (by simp [HDR.FLT_FIRST, HDR.FLT_FIRST_FRAME])
  have hhigh : (HDR.FLT_FIRST p).addr i 0 ≠ (HDR.FLT_FIRST_FRAME p).addr i 1 :=
    header_addr_ne rfl rfl (by simp [HDR.FLT_FIRST, HDR.FLT_FIRST_FRAME])
  rw [recordFault_eq hs hi]
  split_ifs with hvalid hhigher
  · rw [State.reg_setReg_same hsound rfl, hfits]
  · rcases h with hnone | hhigher'
    · rw [hnone] at hvalid; cases hvalid
    · exact absurd hhigher' hhigher
  · rw [faultCaptured, State.reg_setReg_other ((hnoted.setReg ..).setReg ..) _ hhigh,
      State.reg_setReg_other (hnoted.setReg ..) _ hlow, State.reg_setReg_same hnoted rfl, hfits]

/-- R385: the frame of a first fault. -/
theorem recordFault_firstFrame (hs : s.Sound) (hi : i < p.count) (hnone : s.flag (HDR.FLT_FIRST_VALID p) i = false) :
    (recordFault s p i src).reg (HDR.FLT_FIRST_FRAME p) i 0 = s.frame % 2 ^ 32 ∧
    (recordFault s p i src).reg (HDR.FLT_FIRST_FRAME p) i 1 = s.frame / 2 ^ 32 % 2 ^ 16 := by
  have hsound := faultCounted_sound (p := p) (i := i) (src := src) hs
  have hnoted := faultNoted_sound (p := p) (i := i) hsound
  have hplaced : PWR.FRAME_COUNT.Placed 0 0 := ⟨by decide, by decide, by decide⟩
  have hframe : (faultCounted s p i src).frame = s.frame := faultCounted_pastHeader hs hi hplaced (by decide)
  have hapart : (HDR.FLT_FIRST_FRAME p).addr i 0 ≠ (HDR.FLT_FIRST_FRAME p).addr i 1 :=
    header_addr_ne rfl rfl (by simp [HDR.FLT_FIRST_FRAME])
  rw [recordFault_eq hs hi, if_neg (by simp [hnone]), faultCaptured_eq hsound hi, hframe]
  constructor
  · rw [State.reg_setReg_other ((hnoted.setReg ..).setReg ..) _ hapart, State.reg_setReg_same (hnoted.setReg ..) rfl]
    exact Nat.mod_eq_of_lt (Nat.mod_lt _ (Nat.two_pow_pos 32))
  · rw [State.reg_setReg_same ((hnoted.setReg ..).setReg ..) rfl]
    exact Nat.mod_eq_of_lt ((Nat.mod_lt _ (Nat.two_pow_pos 16)).trans (Nat.pow_lt_pow_right Nat.one_lt_two (show 16 < 32 by decide)))

theorem recordFault_status (hs : s.Sound) (hi : i < p.count) (hsrc : src < 64) :
    (recordFault s p i src).reg (HDR.FLT_STATUS p) i = s.reg (HDR.FLT_STATUS p) i ||| 2 ^ src := by
  refine (recordFault_uncaptured hs hi (fun _ => ?_) fun _ => ⟨?_, ?_⟩).trans (faultCounted_status hs hsrc) <;>
    exact header_addr_ne rfl rfl (by simp [HDR.FLT_STATUS, HDR.FLT_FIRST, HDR.FLT_FIRST_FRAME])

theorem recordFault_count (hs : s.Sound) (hi : i < p.count) (hlow : src ≤ 15) :
    (recordFault s p i src).reg (HDR.FLT_COUNT p) i src = min (s.reg (HDR.FLT_COUNT p) i src + 1) (2 ^ 32 - 1) := by
  refine (recordFault_uncaptured hs hi (fun _ => ?_) fun _ => ⟨?_, ?_⟩).trans (faultCounted_count hs hlow) <;>
    exact header_addr_ne rfl rfl (by simp only [HDR.FLT_COUNT, HDR.FLT_FIRST, HDR.FLT_FIRST_FRAME]; omega)

/-- A record writes nothing beside the registers but the note of its ck. -/
theorem recordFault_frame (hs : s.Sound) (hi : i < p.count) :
    ({ recordFault s p i src with regs := s.regs, firstCk := s.firstCk } : State) = s := by
  obtain ⟨regs, hregs⟩ := faultCounted_frame (s := s) (p := p) (i := i) (src := src)
  rw [recordFault_eq hs hi, hregs]
  split_ifs <;> rfl

end

/-- R388: at RECORD severity a raise is its record. -/
theorem raise_record {s : State} {p : PageKind} {i src : Nat} (hdef : p.defines src = true) (hsev : s.severity p i src = .record) :
    raise p i src s = recordFault s p i src := by
  simp only [raise, raiseFor, hdef, hsev, if_true]

/-- Settles O50: the status and the count are written whatever is captured, and nothing else is but what the capture writes. -/
theorem faultIsRecorded : Obligations.FaultIsRecorded := by
  intro s p i src hs hi hdef hsev
  have hsrc := source_lt_of_defines hdef
  have hhigher : (s.flag (HDR.FLT_FIRST_VALID p) i = false ∨ (s.flag (HDR.FLT_FIRST_VALID p) i && s.flag PWR.CLK_STATE_CK &&
        sget 0 s.firstCk (p.base i) == s.ck + 1 && decide (src < s.reg (HDR.FLT_FIRST p) i % 64)) = true) ↔
      (s.flag (HDR.FLT_FIRST_VALID p) i = false ∨ capturedHigher s p i src = true) := by
    cases s.flag (HDR.FLT_FIRST_VALID p) i <;> simp [capturedHigher]
  rw [raise_record hdef hsev]
  simp only [hhigher]
  exact ⟨recordFault_status hs hi hsrc, recordFault_count hs hi, recordFault_first hs hi hsrc, recordFault_firstFrame hs hi,
    fun q j k hq hc hf hfr => (recordFault_uncaptured hs hi hf hfr).trans (faultCounted_other hs hq hc), recordFault_frame hs hi⟩

end Sys2Proof.Machine
end

section
/-!
SUPPORT. Entering quench (R392 to R394): what it writes, and what it leaves.
-/
namespace Sys2Proof.Machine

open Sys2Proof

/-! ## Updates that write no register outside a list -/

/-- The fuses, the record of trust and the contents of the memories. -/
def State.stores (s : State) : SMap Word × TruSt × Mem × Mem × Mem × SMap Nat × SMap Nat × Mem × Mem :=
  (s.fuses, s.tru, s.hbm, s.tun.bytes, s.tun.side, s.tun.badWords, s.tun.fenced, s.ing.bytes, s.ing.side)

/-- `t` has the stores of `s`, and its register file is canonical if that of `s` is; then every register of the window that is not of
`L` reads as in `s`. -/
def Keeps (L : List Reg) (s t : State) : Prop :=
  t.stores = s.stores ∧ (swf 0 s.regs = true → swf 0 t.regs = true ∧
    ∀ (q : Reg) (j k : Nat), q.Placed j k → q ∉ L → sget 0 t.regs (q.addr j k) = sget 0 s.regs (q.addr j k))

namespace Keeps

variable {L : List Reg} {s t u : State}

protected theorem rfl : Keeps L s s := ⟨Eq.refl _, fun h => ⟨h, fun _ _ _ _ _ => Eq.refl _⟩⟩

theorem trans (h : Keeps L s t) (k : Keeps L t u) : Keeps L s u :=
  ⟨k.1.trans h.1, fun hs => ⟨(k.2 (h.2 hs).1).1, fun q j i hq hL =>
    ((k.2 (h.2 hs).1).2 q j i hq hL).trans ((h.2 hs).2 q j i hq hL)⟩⟩

theorem mono {L' : List Reg} (h : Keeps L s t) (hsub : ∀ r ∈ L, r ∈ L') : Keeps L' s t :=
  ⟨h.1, fun hs => ⟨(h.2 hs).1, fun q j i hq hL => (h.2 hs).2 q j i hq fun hq' => hL (hsub q hq')⟩⟩

/-- An update beside the registers. -/
theorem of_regs (h : Keeps L s t) (hregs : u.regs = t.regs) (hstores : u.stores = t.stores) : Keeps L s u := by
  rw [Keeps, hregs, hstores]
  exact h

/-- A store in a register of the list. -/
theorem setReg (h : Keeps L s t) {r : Reg} {inst i : Nat} (hr : r ∈ L) (hp : r.Placed inst i) (v : Nat) :
    Keeps L s (t.setReg r v inst i) := by
  refine h.trans ⟨Eq.refl _, fun ht => ⟨swf_sset 0 _ _ _ ht, fun q j k hq hL => ?_⟩⟩
  rw [State.setReg, sget_sset _ _ _ _ _ ht, if_neg]
  intro haddr
  exact hL ((hq.eq_of_addr hp haddr).1 ▸ hr)

theorem setFld (h : Keeps L s t) {f : Fld} {inst i : Nat} (hr : f.reg ∈ L) (hp : f.reg.Placed inst i) (v : Nat) :
    Keeps L s (t.setFld f v inst i) := h.setReg hr hp _

theorem bump (h : Keeps L s t) {r : Reg} {inst i : Nat} (hr : r ∈ L) (hp : r.Placed inst i) (k : Nat) :
    Keeps L s (t.bump r k inst i) := h.setReg hr hp _

theorem ite {c : Prop} [Decidable c] (h : Keeps L s t) (k : Keeps L s u) : Keeps L s (if c then t else u) := by
  split
  · exact h
  · exact k

theorem foldl {α : Type} {f : State → α → State} {l : List α} (hf : ∀ u, ∀ x ∈ l, Keeps L u (f u x)) (s : State) :
    Keeps L s (l.foldl f s) := by
  induction l generalizing s with
  | nil => exact Keeps.rfl
  | cons x l ih =>
    exact (hf s x (List.mem_cons_self ..)).trans (ih (fun u y hy => hf u y (List.mem_cons_of_mem x hy)) (f s x))

theorem trans_stores (h : Keeps L s t) {L' : List Reg} (k : Keeps L' t u) : u.stores = s.stores := k.1.trans h.1

theorem fuses (h : Keeps L s t) : t.fuses = s.fuses := congrArg Prod.fst h.1

section

variable (h : Keeps L s t) (hs : s.Sound) {q : Reg} {j k : Nat} (hq : q.Placed j k) (hL : q ∉ L)
include h hs hq hL

theorem reg : t.reg q j k = s.reg q j k := by
  rw [State.reg, State.reg, h.fuses, (h.2 hs.regs).2 q j k hq hL]

end

theorem fld (h : Keeps L s t) (hs : s.Sound) {f : Fld} {j k : Nat} (hf : f.reg.Placed j k) (hL : f.reg ∉ L) :
    t.fld f j k = s.fld f j k := by
  rw [State.fld, State.fld, h.reg hs hf hL]

end Keeps

/-! ## The parts of an entry -/

/-- The registers that the parts of an entry into quench write after the pages read QUENCHED. -/
def quenchRegs : List Reg :=
  [MLD.STATE, CRU.STATE, ASY.STATE, LDL.STATE, ASY.CAPTURE_FREE, TRU.LK_STATE, AVL.KEY_STATE, AVL.TX_WRAPS, AVL.STATE,
   GRD.GRD_PROMOTE, PWR.STAG_STATE, PWR.PIN_CTRL, ING.JNL_SEQ, ING.JNL_TAIL, ING.JNL_DISCARDED, ING.JNL_STATE]

theorem quenchRegs_placed {r : Reg} (hr : r ∈ quenchRegs) {inst : Nat} (hi : inst < r.page.count) : r.Placed inst 0 := by
  have hall : ∀ r ∈ quenchRegs, r ∈ r.page.regs ∧ 0 < r.count := by decide
  exact ⟨(hall r hr).1, hi, (hall r hr).2⟩

section

variable {s t : State}

theorem Keeps.setQuenchReg (h : Keeps quenchRegs s t) {inst : Nat} (r : Reg) (v : Nat) (hi : inst < r.page.count)
    (hr : r ∈ quenchRegs := by decide) : Keeps quenchRegs s (t.setReg r v inst) :=
  h.setReg hr (quenchRegs_placed hr hi) v

theorem Keeps.setQuenchFld (h : Keeps quenchRegs s t) {inst : Nat} (f : Fld) (v : Nat) (hi : inst < f.reg.page.count)
    (hr : f.reg ∈ quenchRegs := by decide) : Keeps quenchRegs s (t.setFld f v inst) :=
  h.setFld hr (quenchRegs_placed hr hi) v

/-- R393: the engines of core `c` show that they have abandoned their work. -/
def quenchEngines (s : State) (c : Nat) : State :=
  let s := if s.fld MLD.STATE_ARRAY c = 1 ∨ s.fld MLD.STATE_ARRAY c = 2 then s.setFld MLD.STATE_ARRAY 3 c else s
  let s := (s.setFld MLD.STATE_HALF0 0 c).setFld MLD.STATE_HALF1 0 c
  let s := ((s.setReg CRU.STATE 0 c).setReg ASY.STATE 0 c).setReg LDL.STATE 0 c
  s.setReg ASY.CAPTURE_FREE ASY.CAPTURE_FREE.reset c

theorem quenchCore_eq (s : State) (c : Nat) : quenchCore s c = (quenchEngines s c).modCore c fun x => { x with
    mld := { rampCk := if s.fld MLD.STATE_ARRAY c = 3 then x.mld.rampCk else (quenchEngines s c).ck + 64 }
    cru := { x.cru with lo := none, hi := none, step := none, waitFrom := none }
    asy := { x.asy with pairs := [], blend := none }
    port := {}
    run := {} } := rfl

theorem quenchEngines_keeps (s : State) {c : Nat} (hc : c < 4) : Keeps quenchRegs s (quenchEngines s c) := by
  have harray : Keeps quenchRegs s (if s.fld MLD.STATE_ARRAY c = 1 ∨ s.fld MLD.STATE_ARRAY c = 2 then
      s.setFld MLD.STATE_ARRAY 3 c else s) := .ite (Keeps.rfl.setQuenchFld MLD.STATE_ARRAY 3 hc) .rfl
  have hhalves := (harray.setQuenchFld MLD.STATE_HALF0 0 hc).setQuenchFld MLD.STATE_HALF1 0 hc
  have hstates := ((hhalves.setQuenchReg CRU.STATE 0 hc).setQuenchReg ASY.STATE 0 hc).setQuenchReg LDL.STATE 0 hc
  exact hstates.setQuenchReg ASY.CAPTURE_FREE ASY.CAPTURE_FREE.reset hc

theorem quenchCore_keeps (s : State) {c : Nat} (hc : c < 4) : Keeps quenchRegs s (quenchCore s c) := by
  rw [quenchCore_eq]
  exact (quenchEngines_keeps s hc).of_regs rfl rfl

theorem eraseKeys_keeps (s : State) {p : Nat} (hp : p < 24) : Keeps quenchRegs s (eraseKeys s p) := by
  have hlink (f : PortLink → PortLink) : Keeps quenchRegs s (modLink s p f) :=
    Keeps.rfl.of_regs (modLink_regs ..) rfl
  exact ((((hlink _).setQuenchReg TRU.LK_STATE _ Nat.one_pos).setQuenchReg AVL.KEY_STATE 0 hp).setQuenchReg AVL.TX_WRAPS 0
    hp).setQuenchFld AVL.STATE_ENC_ON 0 hp

theorem quenchPorts_keeps (s : State) : Keeps quenchRegs s (quenchPorts s) := by
  refine .foldl (fun u p hp => ?_) s
  exact (Keeps.rfl.of_regs (modLink_regs ..) rfl).trans (eraseKeys_keeps _ (List.mem_range.1 hp))

/-- What an entry into quench abandons beside the registers. -/
def quenchDropped (s : State) : State :=
  { s with
    stag := [], ext := [], remote := [], sweep := {}, col := { s.col with runs := [], held := [], drain := [] },
    acc := { s.acc with hq := [] }
    tun := { s.tun with cache := s.tun.cache.filter (fun e => !e.fill && !e.gone), staging := [] }
    ing := { s.ing with writes := s.ing.writes.filter (fun w => w.page.isSome || decide (4 ≤ w.core)) },
    pwr := { s.pwr with promo := none, qCk := s.ck } }

/-- An entry into quench up to the field that shows programs in flight. -/
def quenchAbandoned (s : State) : State :=
  ((quenchDropped (quenchPorts ((List.range 4).foldl quenchCore s))).setFld GRD.GRD_PROMOTE_BUSY 0).setFld PWR.STAG_STATE_PEND 0

/-- R393: the flash is busy while a program is in flight. -/
def flashBusy (s : State) : Nat := if s.ing.writes.any (fun w => w.page.isSome) then 1 else 0

/-- R417: the strobe of a quench, if it is selected. -/
def quenchStrobe (s : State) : State := if s.fld PWR.PIN_CTRL_STROBE_SRC = 2 then strobe s else s

theorem quenchBlocks_eq (s : State) :
    quenchBlocks s = quenchStrobe ((quenchAbandoned s).setFld STW.Q_STATE_FLASH_BUSY (flashBusy (quenchAbandoned s))) := rfl

theorem quenchDropped_regs (s : State) : (quenchDropped s).regs = s.regs := rfl

theorem quenchDropped_stores (s : State) : (quenchDropped s).stores = s.stores := rfl

theorem quenchAbandoned_keeps (s : State) : Keeps quenchRegs s (quenchAbandoned s) := by
  have hcores : Keeps quenchRegs s ((List.range 4).foldl quenchCore s) :=
    .foldl (fun u _ hc => quenchCore_keeps u (List.mem_range.1 hc)) s
  have hports := hcores.trans (quenchPorts_keeps _)
  have hdropped := hports.of_regs (u := quenchDropped _) (quenchDropped_regs _) (quenchDropped_stores _)
  exact (hdropped.setQuenchFld (inst := 0) GRD.GRD_PROMOTE_BUSY 0 Nat.one_pos).setQuenchFld (inst := 0) PWR.STAG_STATE_PEND 0
    Nat.one_pos

theorem quenchStrobe_keeps (s : State) : Keeps quenchRegs s (quenchStrobe s) := by
  unfold quenchStrobe strobe
  exact .ite (.ite (.ite (Keeps.rfl.setQuenchFld (inst := 0) PWR.PIN_CTRL_PIN_CONFLICT 1 Nat.one_pos) .rfl) .rfl) .rfl

theorem jnlPush_keeps (s : State) (type : Nat) (payload : List Byte) (actor host : Nat) :
    Keeps quenchRegs s (jnlPush s type payload actor host) :=
  (Keeps.setQuenchReg (inst := 0) .rfl ING.JNL_SEQ _ Nat.one_pos).setQuenchReg (inst := 0) ING.JNL_TAIL _ Nat.one_pos

theorem jnlAppend_keeps (s : State) (type : Nat) (payload : List Byte) (actor host : Nat) :
    Keeps quenchRegs s (jnlAppend s type payload actor host) := by
  unfold jnlAppend
  exact .ite (jnlPush_keeps ..) (.ite (Keeps.rfl.setQuenchReg (inst := 0) ING.JNL_DISCARDED _ Nat.one_pos)
    (Keeps.rfl.setQuenchFld (inst := 0) ING.JNL_STATE_TAIL_FULL 1 Nat.one_pos))

theorem lifeAdd_keeps (L : List Reg) (s : State) (i k : Nat) : Keeps L s (lifeAdd s i k) := Keeps.rfl.of_regs rfl rfl

end

/-- What the streams of a device that enters quench abandon (R393). -/
def quenchStream (s : State) (c : Nat) : State :=
  (s.modSpr c fun p => { p with cur := none, eng := p.eng.map (fun e => { e with run := [], fin := [] }) }).modCore c
    fun x => { x with run := { x.run with requesters := [], flight := [] } }

theorem quenchCores_eq (s : State) :
    quenchCores s = (List.range 4).foldl (fun s c => (quenchStream s c).setFld SPR.STATE_STREAM stQuenched c) s := rfl

theorem state_placed {c : Nat} (hc : c < 4) : SPR.STATE.Placed c 0 := ⟨by decide, hc, by decide⟩

theorem quenchStream_step (s : State) {c : Nat} (hc : c < 4) :
    Keeps [SPR.STATE] s ((quenchStream s c).setFld SPR.STATE_STREAM stQuenched c) :=
  (Keeps.rfl.of_regs (u := quenchStream s c) rfl rfl).setFld (List.mem_singleton.2 rfl) (state_placed hc) _

theorem quenchCores_keeps (s : State) : Keeps [SPR.STATE] s (quenchCores s) := by
  rw [quenchCores_eq]
  exact .foldl (fun u _ hc => quenchStream_step u (List.mem_range.1 hc)) s

/-! ## Pages -/

/-- R393, R394: one page at an entry into quench. -/
def quenchPage (s : State) (x : PageKind × Nat) : State :=
  if x.1.quenches then if s.pageState x.1 x.2 = pgFused then s else s.setPageState x.1 x.2 pgQuenched else s

theorem quenchPages_eq (s : State) : quenchPages s = pages.foldl quenchPage s := by
  have hkind (s : State) (p : PageKind) : ((List.range p.count).map (fun i => (p, i))).foldl quenchPage s =
      if p.quenches then (List.range p.count).foldl (fun s i =>
        if s.pageState p i = pgFused then s else s.setPageState p i pgQuenched) s else s := by
    rw [List.foldl_map]
    cases hq : p.quenches
    · simp only [quenchPage, hq, Bool.false_eq_true, if_false]
      exact List.foldl_fixed ..
    · simp only [quenchPage, hq, if_true]
  rw [quenchPages, pages, List.foldl_flatMap]
  simp only [hkind]

/-- The registers that show the states of the pages. -/
def pageStates : List Reg := PageKind.all.map HDR.PAGE_STATE

theorem mem_pageStates (p : PageKind) : HDR.PAGE_STATE p ∈ pageStates := List.mem_map.2 ⟨p, p.mem_all, rfl⟩

theorem pageState_placed {p : PageKind} {i : Nat} (hi : i < p.count) : (HDR.PAGE_STATE p).Placed i 0 :=
  header_placed (by simp [HDR.allRegs]) hi Nat.one_pos

theorem lt_count_of_mem_pages {x : PageKind × Nat} (h : x ∈ pages) : x.2 < x.1.count := by
  obtain ⟨p, -, hx⟩ := List.mem_flatMap.1 h
  obtain ⟨i, hi, rfl⟩ := List.mem_map.1 hx
  exact List.mem_range.1 hi

theorem quenchPage_keeps (s : State) {x : PageKind × Nat} (hx : x ∈ pages) : Keeps pageStates s (quenchPage s x) :=
  .ite (.ite .rfl (Keeps.rfl.setFld (mem_pageStates _) (pageState_placed (lt_count_of_mem_pages hx)) _)) .rfl

theorem quenchPages_keeps (s : State) : Keeps pageStates s (quenchPages s) := by
  rw [quenchPages_eq]
  exact .foldl (fun u _ hx => quenchPage_keeps u hx) s

/-- R394: what a page of a kind that reads QUENCHED reads. -/
def quenchedState (st : Nat) : Nat := if st = pgFused then pgFused else pgQuenched

section

variable {s : State} {x : PageKind × Nat}

theorem quenchPage_sound (hs : s.Sound) : (quenchPage s x).Sound := by
  unfold quenchPage
  split_ifs
  · exact hs
  · exact hs.setReg ..
  · exact hs

/-- A page reads the state of R394 once it is quenched. -/
theorem quenchPage_same (hs : s.Sound) (hq : x.1.quenches = true) :
    (quenchPage s x).pageState x.1 x.2 = quenchedState (s.pageState x.1 x.2) := by
  rw [quenchPage, if_pos hq, quenchedState]
  split_ifs with hfused
  · exact hfused
  · exact State.fld_setFld_same hs (f := HDR.PAGE_STATE_ST x.1) rfl (by decide : 0 + 3 ≤ 32) pgQuenched x.2 0

/-- Another page keeps its state. -/
theorem quenchPage_other {p : PageKind} {i : Nat} (hs : s.Sound) (hx : x ∈ pages) (hi : i < p.count) (hne : (p, i) ≠ x) :
    (quenchPage s x).pageState p i = s.pageState p i := by
  have hother : (s.setPageState x.1 x.2 pgQuenched).pageState p i = s.pageState p i := by
    refine congrArg (fun n => bits n 0 3) (State.reg_setReg_other hs _ fun haddr => hne ?_)
    obtain ⟨hreg, hinst, -⟩ := (pageState_placed hi).eq_of_addr (pageState_placed (lt_count_of_mem_pages hx)) haddr
    exact Prod.ext (congrArg Reg.page hreg) hinst
  unfold quenchPage
  split_ifs
  · rfl
  · exact hother
  · rfl

/-- The pages of a list read the states of R394, the others as before. -/
theorem foldl_quenchPage {p : PageKind} {i : Nat} (hi : i < p.count) (hq : p.quenches = true) {l : List (PageKind × Nat)}
    (hl : ∀ x ∈ l, x ∈ pages) (hs : s.Sound) :
    (l.foldl quenchPage s).pageState p i = if (p, i) ∈ l then quenchedState (s.pageState p i) else s.pageState p i := by
  induction l generalizing s with
  | nil => rfl
  | cons x l ih =>
    rw [List.foldl_cons, ih (fun y hy => hl y (List.mem_cons_of_mem x hy)) (quenchPage_sound hs)]
    by_cases hx : (p, i) = x
    · subst hx
      have hsame : (quenchPage s (p, i)).pageState p i = quenchedState (s.pageState p i) := quenchPage_same (x := (p, i)) hs hq
      have hidem (n : Nat) : quenchedState (quenchedState n) = quenchedState n := by
        unfold quenchedState
        split <;> rfl
      simp only [hsame, hidem, List.mem_cons, true_or, if_true, ite_self]
    · rw [quenchPage_other hs (hl x (List.mem_cons_self ..)) hi hx]
      simp only [List.mem_cons, hx, false_or]

theorem quenchPages_pageState {p : PageKind} {i : Nat} (hs : s.Sound) (hi : i < p.count) (hq : p.quenches = true) :
    (quenchPages s).pageState p i = quenchedState (s.pageState p i) := by
  rw [quenchPages_eq, foldl_quenchPage hi hq (fun _ h => h) hs, if_pos (mem_pages p.mem_all hi)]

end

/-! ## Streams -/

/-- A change of a core shows in that core. -/
theorem State.core_modCore_same (s : State) {c : Nat} (hc : c < 4) (f : CoreSt → CoreSt) : (s.modCore c f).core c = f (s.core c) := by
  simp [State.modCore, State.core, hc]

/-- A change of a core leaves the other cores. -/
theorem State.core_modCore_other (s : State) {c d : Nat} (hd : d < 4) (hne : d ≠ c) (f : CoreSt → CoreSt) :
    (s.modCore c f).core d = s.core d := by
  simp [State.modCore, State.core, hd, hne]

/-- R393: a core's stream is quenched, and nothing waits in its Sprue. -/
def StreamQuenched (s : State) (c : Nat) : Prop := s.stream c = stQuenched ∧ (s.core c).spr.cur = none

section

variable {s : State} {c d : Nat}

theorem quenchStream_sound (hs : s.Sound) : (quenchStream s d).Sound := by
  unfold quenchStream
  refine (State.modCore_kp d _ (State.modSpr_kp s d _ Kp.rfl) ?_).sound hs
  exact fun _ h => h

theorem quenchStream_same (hs : s.Sound) (hc : c < 4) : StreamQuenched ((quenchStream s c).setFld SPR.STATE_STREAM stQuenched c) c := by
  constructor
  · exact State.fld_setFld_same (quenchStream_sound hs) (f := SPR.STATE_STREAM) rfl (by decide) stQuenched c 0
  · change ((quenchStream s c).core c).spr.cur = none
    rw [quenchStream, State.core_modCore_same _ hc, State.core_modSpr_same _ hc]

theorem quenchStream_other (hs : s.Sound) (hc : c < 4) (hd : d < 4) (hne : c ≠ d) (h : StreamQuenched s c) :
    StreamQuenched ((quenchStream s d).setFld SPR.STATE_STREAM stQuenched d) c := by
  obtain ⟨hstream, hcur⟩ := h
  constructor
  · refine Eq.trans ?_ hstream
    refine congrArg (fun n => bits n 0 3) (State.reg_setReg_other (quenchStream_sound hs) _ fun haddr => hne ?_)
    exact ((state_placed hc).eq_of_addr (state_placed hd) haddr).2.1
  · change ((quenchStream s d).core c).spr.cur = none
    rw [quenchStream, State.core_modCore_other _ hc hne, State.core_modSpr_other _ hc hne]
    exact hcur

theorem foldl_quenchStream (hc : c < 4) {l : List Nat} (hl : ∀ d ∈ l, d < 4) (hs : s.Sound) (h : c ∈ l ∨ StreamQuenched s c) :
    StreamQuenched (l.foldl (fun s d => (quenchStream s d).setFld SPR.STATE_STREAM stQuenched d) s) c := by
  induction l generalizing s with
  | nil => exact h.resolve_left (List.not_mem_nil)
  | cons d l ih =>
    refine ih (fun e he => hl e (List.mem_cons_of_mem d he)) ((quenchStream_sound hs).setReg ..) ?_
    by_cases hcd : c = d
    · exact Or.inr (hcd ▸ quenchStream_same hs hc)
    · have hrest := h.imp_left fun hmem => (List.mem_cons.1 hmem).resolve_left hcd
      exact hrest.imp_right (quenchStream_other hs hc (hl d (List.mem_cons_self ..)) hcd)

theorem quenchCores_stream (hs : s.Sound) (hc : c < 4) : StreamQuenched (quenchCores s) c := by
  rw [quenchCores_eq]
  exact foldl_quenchStream hc (fun _ h => List.mem_range.1 h) hs (Or.inl (List.mem_range.2 hc))

end

/-! ## The Sprues after their streams have stopped -/

/-- `t` has the Sprues of `s`. -/
def SameSprues (s t : State) : Prop := ∀ c < 4, (t.core c).spr = (s.core c).spr

theorem sameSprues_of_cores {s t : State} (h : t.cores = s.cores) : SameSprues s t := by
  intro c _
  rw [State.core, State.core, h]

theorem SameSprues.trans {s t u : State} (h : SameSprues s t) (k : SameSprues t u) : SameSprues s u :=
  fun c hc => (k c hc).trans (h c hc)

section

variable (s : State)

theorem quenchEngines_cores (d : Nat) : (quenchEngines s d).cores = s.cores := by
  unfold quenchEngines
  simp only [State.setReg_cores, State.setFld_cores, apply_ite State.cores, ite_self]

theorem quenchCore_sprues (d : Nat) : SameSprues s (quenchCore s d) := by
  intro c hc
  have hengines := sameSprues_of_cores (quenchEngines_cores s d) c hc
  rw [quenchCore_eq]
  by_cases hcd : c = d
  · subst hcd
    rw [State.core_modCore_same _ hc]
    exact hengines
  · rw [State.core_modCore_other _ hc hcd]
    exact hengines

theorem eraseKeys_cores (p : Nat) : (eraseKeys s p).cores = s.cores := by
  simp only [eraseKeys, State.setFld_cores, State.setReg_cores, modLink_cores]

theorem quenchPorts_cores : (quenchPorts s).cores = s.cores := by
  refine foldl_inv (fun u => u.cores = s.cores) _ (fun u p h => ?_) _ s rfl
  rw [eraseKeys_cores, modLink_cores, h]

theorem quenchPages_cores : (quenchPages s).cores = s.cores := by
  rw [quenchPages_eq]
  refine foldl_inv (fun u => u.cores = s.cores) _ (fun u x h => ?_) _ s rfl
  unfold quenchPage
  split_ifs <;> exact h

theorem quenchStrobe_cores : (quenchStrobe s).cores = s.cores := by
  unfold quenchStrobe strobe
  split_ifs <;> rfl

theorem jnlAppend_cores (type : Nat) (payload : List Byte) (actor host : Nat) :
    (jnlAppend s type payload actor host).cores = s.cores := by
  simp only [jnlAppend, jnlPush, apply_ite State.cores, State.setReg_cores, State.setFld_cores, State.bump_cores, ite_self]

theorem quenchDropped_cores : (quenchDropped s).cores = s.cores := rfl

theorem quenchBlocks_sprues : SameSprues s (quenchBlocks s) := by
  have hcores : SameSprues s ((List.range 4).foldl quenchCore s) :=
    foldl_inv (SameSprues s) _ (fun u d h => h.trans (quenchCore_sprues u d)) _ s (fun _ _ => rfl)
  rw [quenchBlocks_eq]
  refine hcores.trans (sameSprues_of_cores ?_)
  rw [quenchStrobe_cores, State.setFld_cores, quenchAbandoned, State.setFld_cores, State.setFld_cores, quenchDropped_cores,
    quenchPorts_cores]

end

end Sys2Proof.Machine
end

section
/-!
SUPPORT. The entry into quench as a whole (R392 to R394, R400), and its exit.
-/
namespace Sys2Proof.Machine

open Sys2Proof

/-! ## What the Steward shows -/

/-- R392: the entry in the registers of the Steward, up to the draw of the nonce. -/
def quenchCounted (s : State) (w : QCause) (later : Nat) : State :=
  (((s.setReg STW.Q_STATE 1).setReg STW.Q_CAUSE (w.code + w.type * 2 ^ 4 + w.inst * 2 ^ 12 + w.src * 2 ^ 20)).bump STW.Q_COUNT).setReg
    STW.Q_LATER later

/-- R392, R400: the entry as the registers of the Steward show it. -/
def quenchShown (s : State) (w : QCause) (later : Nat) : State :=
  let u := (quenchCounted s w later).draw.2.setReg STW.Q_NONCE (quenchCounted s w later).draw.1
  u.setReg STW.Q_FRAME u.frame

theorem State.Sound.draw {s : State} (hs : s.Sound) : s.draw.2.Sound := (State.draw_kp s Kp.rfl).sound hs

theorem State.reg_draw (s : State) (q : Reg) (inst i : Nat) : s.draw.2.reg q inst i = s.reg q inst i := rfl

theorem Keeps.draw {L : List Reg} {s t : State} (h : Keeps L s t) : Keeps L s t.draw.2 := h.of_regs rfl rfl

theorem quenchCounted_freeCtr (s : State) (w : QCause) (later : Nat) : (quenchCounted s w later).freeCtr = s.freeCtr := by
  simp only [quenchCounted, State.setReg_freeCtr, State.bump_freeCtr]

section

variable {s : State} (hs : s.Sound) (w : QCause) (later : Nat)
include hs

theorem quenchCounted_sound : (quenchCounted s w later).Sound := (((hs.setReg ..).setReg ..).bump ..).setReg ..

theorem quenchDrawn_sound : (quenchCounted s w later).draw.2.Sound := (quenchCounted_sound hs w later).draw

theorem quenchShown_sound : (quenchShown s w later).Sound := ((quenchDrawn_sound hs w later).setReg ..).setReg ..

omit hs in
/-- A register at another offset than the one that is stored in. -/
theorem stw_reg_other (hs : s.Sound) {q r : Reg} (v : Nat) (h : q.addr 0 0 ≠ r.addr 0 0 := by decide) :
    (s.setReg r v).reg q = s.reg q := State.reg_setReg_other hs v h

/-- Registers that are neither the nonce nor the frame show what was counted. -/
theorem quenchShown_reg {q : Reg} (hnonce : q.addr 0 0 ≠ STW.Q_NONCE.addr 0 0) (hframe : q.addr 0 0 ≠ STW.Q_FRAME.addr 0 0) :
    (quenchShown s w later).reg q = (quenchCounted s w later).reg q :=
  (stw_reg_other ((quenchDrawn_sound hs w later).setReg ..) _ hframe).trans <|
    (stw_reg_other (quenchDrawn_sound hs w later) _ hnonce).trans (State.reg_draw ..)

theorem quenchShown_state : (quenchShown s w later).reg STW.Q_STATE = 1 := by
  rw [quenchShown_reg hs w later (by decide) (by decide)]
  exact (stw_reg_other (((hs.setReg ..).setReg ..).bump ..) _).trans <| (stw_reg_other ((hs.setReg ..).setReg ..) _).trans <|
    (stw_reg_other (hs.setReg ..) _).trans (State.reg_setReg_same hs rfl 1 0 0)

theorem quenchShown_cause :
    (quenchShown s w later).reg STW.Q_CAUSE = (w.code + w.type * 2 ^ 4 + w.inst * 2 ^ 12 + w.src * 2 ^ 20) % 2 ^ 32 := by
  rw [quenchShown_reg hs w later (by decide) (by decide)]
  exact (stw_reg_other (((hs.setReg ..).setReg ..).bump ..) _).trans <| (stw_reg_other ((hs.setReg ..).setReg ..) _).trans <|
    State.reg_setReg_same (hs.setReg ..) rfl _ 0 0

theorem quenchShown_count : (quenchShown s w later).reg STW.Q_COUNT = min (s.reg STW.Q_COUNT + 1) (2 ^ 32 - 1) := by
  rw [quenchShown_reg hs w later (by decide) (by decide)]
  have hbefore : ((s.setReg STW.Q_STATE 1).setReg STW.Q_CAUSE (w.code + w.type * 2 ^ 4 + w.inst * 2 ^ 12 + w.src * 2 ^ 20)).reg
      STW.Q_COUNT = s.reg STW.Q_COUNT := (stw_reg_other (hs.setReg ..) _).trans (stw_reg_other hs _)
  refine (stw_reg_other (((hs.setReg ..).setReg ..).bump ..) _).trans ?_
  rw [State.reg_bump_same ((hs.setReg ..).setReg ..) rfl, hbefore]
  rfl

theorem quenchShown_later : (quenchShown s w later).reg STW.Q_LATER = later % 2 ^ 32 := by
  rw [quenchShown_reg hs w later (by decide) (by decide)]
  exact State.reg_setReg_same (((hs.setReg ..).setReg ..).bump ..) rfl later 0 0

theorem quenchShown_nonce : (quenchShown s w later).reg STW.Q_NONCE = (Config.freeValue s.freeCtr).toNat := by
  refine (stw_reg_other ((quenchDrawn_sound hs w later).setReg ..) _).trans ?_
  rw [State.reg_setReg_same (quenchDrawn_sound hs w later) rfl, State.draw, quenchCounted_freeCtr]
  exact Nat.mod_eq_of_lt (BitVec.isLt _)

theorem quenchShown_frame : (quenchShown s w later).reg STW.Q_FRAME = s.frame := by
  have hframe : ((quenchCounted s w later).draw.2.setReg STW.Q_NONCE (quenchCounted s w later).draw.1).frame = s.frame :=
    (stw_reg_other (quenchDrawn_sound hs w later) _).trans <| (State.reg_draw ..).trans <|
      (stw_reg_other (((hs.setReg ..).setReg ..).bump ..) _).trans <| (stw_reg_other ((hs.setReg ..).setReg ..) _).trans <|
      (stw_reg_other (hs.setReg ..) _).trans (stw_reg_other hs _)
  refine (State.reg_setReg_same ((quenchDrawn_sound hs w later).setReg ..) rfl _ 0 0).trans ?_
  rw [hframe]
  exact Nat.mod_eq_of_lt (s.reg_lt _ _ _)

end

/-- The Steward writes the record of an entry only. -/
def quenchRecord : List Reg := [STW.Q_STATE, STW.Q_CAUSE, STW.Q_COUNT, STW.Q_LATER, STW.Q_NONCE, STW.Q_FRAME]

theorem quenchRecord_placed {r : Reg} (hr : r ∈ quenchRecord) : r.Placed 0 0 := by
  have hfit : ∀ r ∈ quenchRecord, r ∈ r.page.regs ∧ 0 < r.page.count ∧ 0 < r.count := by decide
  exact ⟨(hfit r hr).1, (hfit r hr).2.1, (hfit r hr).2.2⟩

theorem quenchShown_keeps (s : State) (w : QCause) (later : Nat) : Keeps quenchRecord s (quenchShown s w later) := by
  have hset {t : State} (h : Keeps quenchRecord s t) (r : Reg) (v : Nat) (hr : r ∈ quenchRecord) : Keeps quenchRecord s (t.setReg r v) :=
    h.setReg hr (quenchRecord_placed hr) v
  have hcounted : Keeps quenchRecord s (quenchCounted s w later) :=
    hset (hset (hset (hset .rfl STW.Q_STATE _ (by decide)) STW.Q_CAUSE _ (by decide)) STW.Q_COUNT _ (by decide)) STW.Q_LATER _
      (by decide)
  exact hset (hset hcounted.draw STW.Q_NONCE _ (by decide)) STW.Q_FRAME _ (by decide)

/-! ## The parts in their order -/

/-- R422: a random source that has failed is a fault of the quenched device. -/
def quenchFault (s : State) : State := if s.tru.rngBad then raiseQuenched .tru 0 8 s else s

/-- An entry into quench up to its journal record. -/
def quenchEntered (s : State) (w : QCause) (later : Nat) : State :=
  lifeAdd (quenchBlocks (quenchPages (quenchCores (quenchShown s w later)))) 7 1

theorem quench_entry {s : State} (hnot : s.quenched = false) (q : QCause) (qs : List QCause) : ∃ payload,
    quench s q qs = jnlAppend (quenchFault (quenchEntered s (firstCause q qs) qs.length)) 4 payload 0 0 := by
  rw [quench, if_neg (by rw [hnot]; decide)]
  exact ⟨_, rfl⟩

/-- A cause that arrives while the device is quenched only counts. -/
theorem quench_quenched {s : State} (h : s.quenched = true) (q : QCause) (qs : List QCause) :
    quench s q qs = s.bump STW.Q_LATER (1 + qs.length) := by rw [quench, if_pos h]

/-! ## What the parts leave -/

/-- The registers that an entry writes after its record: streams, pages, engines, ports and the journal. -/
def enteredRegs : List Reg := SPR.STATE :: STW.Q_STATE :: (pageStates ++ quenchRegs)

theorem quenchBlocks_keeps (s : State) : Keeps (STW.Q_STATE :: quenchRegs) s (quenchBlocks s) := by
  have hplaced : STW.Q_STATE.Placed 0 0 := quenchRecord_placed (by decide)
  have habandoned := (quenchAbandoned_keeps s).mono fun r hr => List.mem_cons_of_mem STW.Q_STATE hr
  have hflash := habandoned.setFld (f := STW.Q_STATE_FLASH_BUSY) (List.mem_cons_self ..) hplaced (flashBusy (quenchAbandoned s))
  rw [quenchBlocks_eq]
  exact hflash.trans ((quenchStrobe_keeps _).mono fun r hr => List.mem_cons_of_mem STW.Q_STATE hr)

theorem quenchEntered_keeps (s : State) (w : QCause) (later : Nat) :
    Keeps enteredRegs (quenchShown s w later) (quenchEntered s w later) := by
  have hcores := (quenchCores_keeps (quenchShown s w later)).mono (L' := enteredRegs) (by simp [enteredRegs])
  have hpages := (quenchPages_keeps (quenchCores (quenchShown s w later))).mono (L' := enteredRegs)
    fun r hr => by simp [enteredRegs, hr]
  have hblocks := (quenchBlocks_keeps (quenchPages (quenchCores (quenchShown s w later)))).mono (L' := enteredRegs) fun r hr => by
    rcases List.mem_cons.1 hr with rfl | hr <;> simp [enteredRegs, *]
  exact ((hcores.trans hpages).trans hblocks).trans (lifeAdd_keeps ..)

/-- The registers that a fault of the random source writes while the device is quenched. -/
def rngFaultRegs : List Reg :=
  [HDR.FLT_STATUS .tru, HDR.FLT_COUNT .tru, HDR.FLT_FIRST .tru, HDR.FLT_FIRST_FRAME .tru, STW.Q_LATER, ING.JNL_SEQ, ING.JNL_TAIL,
   ING.JNL_DISCARDED]

section

variable {s t : State}

theorem Keeps.setRngFault (h : Keeps rngFaultRegs s t) (r : Reg) (v : Nat) (i : Nat := 0) (hr : r ∈ rngFaultRegs := by decide)
    (hi : i < r.count := by decide) : Keeps rngFaultRegs s (t.setReg r v 0 i) := by
  have hall : ∀ r ∈ rngFaultRegs, r ∈ r.page.regs ∧ 0 < r.page.count := by decide
  exact h.setReg hr ⟨(hall r hr).1, (hall r hr).2, hi⟩ v

theorem recordFault_rng_keeps (s : State) : Keeps rngFaultRegs s (recordFault s .tru 0 8) := by
  have hstatus := (Keeps.rfl (s := s)).setRngFault (HDR.FLT_STATUS .tru) (s.reg (HDR.FLT_STATUS .tru) 0 ||| 2 ^ 8)
  have hcounted : Keeps rngFaultRegs s (faultCounted s .tru 0 8) := hstatus.setRngFault (HDR.FLT_COUNT .tru) _ 8
  have hnoted := hcounted.of_regs (u := faultNoted (faultCounted s .tru 0 8) .tru 0) rfl rfl
  have hcaptured : Keeps rngFaultRegs s (faultCaptured (faultCounted s .tru 0 8) .tru 0 8) :=
    ((hnoted.setRngFault (HDR.FLT_FIRST .tru) _).setRngFault (HDR.FLT_FIRST_FRAME .tru) _).setRngFault (HDR.FLT_FIRST_FRAME .tru) _ 1
  rw [recordFault, setStatusBit_eq_or]
  exact .ite (.ite (hcounted.setRngFault (HDR.FLT_FIRST .tru) _) hcounted) hcaptured

theorem sendEvent_keeps (L : List Reg) (s : State) (p : PageKind) (i src : Nat) : Keeps L s (sendEvent s p i src) := by
  unfold sendEvent sendMsg
  exact .ite (.ite (Keeps.rfl.of_regs rfl rfl) .rfl) .rfl

theorem jnlFault_rng_keeps (s : State) (payload : List Byte) : Keeps rngFaultRegs s (jnlFault s payload) := by
  have hpushed : Keeps rngFaultRegs s (jnlPush s 3 payload 0 0) :=
    (Keeps.setRngFault (.of_regs .rfl rfl rfl) ING.JNL_SEQ _).setRngFault ING.JNL_TAIL _
  exact .ite hpushed (Keeps.rfl.setRngFault ING.JNL_DISCARDED _)

theorem raiseQuenched_rng_keeps (s : State) : Keeps rngFaultRegs s (raiseQuenched .tru 0 8 s) := by
  have hrecord := recordFault_rng_keeps s
  have hevent := hrecord.trans (sendEvent_keeps rngFaultRegs _ .tru 0 8)
  have hjournal {u : State} (h : Keeps rngFaultRegs s u) (payload : List Byte) : Keeps rngFaultRegs s (jnlFault u payload) :=
    h.trans (jnlFault_rng_keeps u payload)
  have hlater {u : State} (h : Keeps rngFaultRegs s u) : Keeps rngFaultRegs s (u.bump STW.Q_LATER) := h.setRngFault STW.Q_LATER _
  exact .ite hrecord (.ite (hlater (hjournal (.ite hevent hrecord) _)) (hjournal (.ite hevent hrecord) _))

end

/-! ## The entry as a whole -/

section

variable {s : State} (hs : s.Sound) (hnot : s.quenched = false) (q : QCause) (qs : List QCause)

theorem quenchEntered_tru (s : State) (w : QCause) (later : Nat) : (quenchEntered s w later).tru = s.tru :=
  congrArg (fun x => x.2.1) ((quenchShown_keeps s w later).trans_stores (quenchEntered_keeps s w later))

include hnot in
/-- With a healthy random source the entry ends with its journal record. -/
theorem quench_healthy (hrng : s.tru.rngBad = false) :
    ∃ payload, quench s q qs = jnlAppend (quenchEntered s (firstCause q qs) qs.length) 4 payload 0 0 := by
  obtain ⟨payload, heq⟩ := quench_entry hnot q qs
  rw [quenchFault, quenchEntered_tru, hrng, if_neg Bool.false_ne_true] at heq
  exact ⟨payload, heq⟩

include hs hnot in
/-- A register of the entry's record that nothing after it writes. -/
theorem quench_record (hrng : s.tru.rngBad = false) {r : Reg} (hr : r.Placed 0 0) (hL : r ∉ enteredRegs) :
    (quench s q qs).reg r = (quenchShown s (firstCause q qs) qs.length).reg r := by
  obtain ⟨payload, heq⟩ := quench_healthy hnot q qs hrng
  have hend := (jnlAppend_keeps (quenchEntered s (firstCause q qs) qs.length) 4 payload 0 0).mono (L' := enteredRegs) fun r hr => by
    simp [enteredRegs, hr]
  rw [heq]
  exact ((quenchEntered_keeps ..).trans hend).reg (quenchShown_sound hs _ _) hr hL

include hs hnot in
/-- R400: the nonce of an entry is the value drawn, whether or not the random source has failed. -/
theorem quench_nonce : (quench s q qs).reg STW.Q_NONCE = (Config.freeValue s.freeCtr).toNat := by
  have hplaced : STW.Q_NONCE.Placed 0 0 := quenchRecord_placed (by decide)
  obtain ⟨payload, heq⟩ := quench_entry hnot q qs
  have hentered := quenchEntered_keeps s (firstCause q qs) qs.length
  have hfault : Keeps (enteredRegs ++ rngFaultRegs) (quenchEntered s (firstCause q qs) qs.length)
      (quenchFault (quenchEntered s (firstCause q qs) qs.length)) :=
    .ite ((raiseQuenched_rng_keeps _).mono fun r hr => List.mem_append_right _ hr) .rfl
  have hend := (jnlAppend_keeps (quenchFault (quenchEntered s (firstCause q qs) qs.length)) 4 payload 0 0).mono
    (L' := enteredRegs ++ rngFaultRegs) fun r hr => by simp [enteredRegs, hr]
  rw [heq]
  refine ((((hentered.mono fun r hr => List.mem_append_left _ hr).trans hfault).trans hend).reg (quenchShown_sound hs _ _) hplaced
    (by decide)).trans (quenchShown_nonce hs _ _)

end

/-! ## What reads quenched -/

theorem quenchDropped_sound {s : State} (hs : s.Sound) : (quenchDropped s).Sound := { hs with }

/-- An entry into quench up to the states of the pages. -/
def quenchPaged (s : State) (w : QCause) (later : Nat) : State := quenchPages (quenchCores (quenchShown s w later))

/-- The rest of an entry, with the payload of its journal record. -/
def quenchEnded (s : State) (payload : List Byte) : State := jnlAppend (lifeAdd (quenchBlocks s) 7 1) 4 payload 0 0

section

variable {s : State} (hs : s.Sound)
include hs

theorem quenchPaged_sound (w : QCause) (later : Nat) : (quenchPaged s w later).Sound :=
  (quenchPages_kp _ (quenchCores_kp _ Kp.rfl)).sound (quenchShown_sound hs w later)

/-- The field that shows programs in flight lies apart from the flag of a quench. -/
theorem quenchBlocks_quenched : (quenchBlocks s).quenched = s.quenched := by
  have hplaced : STW.Q_STATE.Placed 0 0 := quenchRecord_placed (by decide)
  have hsound : (quenchAbandoned s).Sound :=
    have hcores : Kp s ((List.range 4).foldl quenchCore s) := Kp.foldl _ (fun u c h => quenchCore_kp u c h) _ _ Kp.rfl
    ((quenchDropped_sound ((quenchPorts_kp _ hcores).sound hs)).setReg ..).setReg ..
  have hflash := State.fld_setFld_apart hsound (f := STW.Q_STATE_FLASH_BUSY) rfl (g := STW.Q_STATE_QUENCHED) rfl (by decide) (by decide)
    (flashBusy (quenchAbandoned s)) 0 0
  have hstrobe := (quenchStrobe_keeps ((quenchAbandoned s).setFld STW.Q_STATE_FLASH_BUSY (flashBusy (quenchAbandoned s)))).fld
    (hsound.setReg ..) (f := STW.Q_STATE_QUENCHED) hplaced (by decide)
  have habandoned := (quenchAbandoned_keeps s).fld hs (f := STW.Q_STATE_QUENCHED) hplaced (by decide)
  rw [quenchBlocks_eq, State.quenched, State.quenched, State.flag, State.flag, hstrobe, hflash, habandoned]

omit hs in
/-- The rest of an entry writes no stream and no page state. -/
theorem quenchEnded_keeps (s : State) (payload : List Byte) : Keeps (STW.Q_STATE :: quenchRegs) s (quenchEnded s payload) :=
  ((quenchBlocks_keeps s).trans (lifeAdd_keeps ..)).trans ((jnlAppend_keeps ..).mono fun _ hr => List.mem_cons_of_mem STW.Q_STATE hr)

theorem quenchEnded_quenched (payload : List Byte) : (quenchEnded s payload).quenched = s.quenched := by
  have hplaced : STW.Q_STATE.Placed 0 0 := quenchRecord_placed (by decide)
  have hblocks : (quenchBlocks s).Sound := (quenchBlocks_kp s Kp.rfl).sound hs
  have hend : Keeps quenchRegs (quenchBlocks s) (quenchEnded s payload) := (lifeAdd_keeps quenchRegs _ 7 1).trans (jnlAppend_keeps ..)
  rw [← quenchBlocks_quenched hs, State.quenched, State.quenched, State.flag, State.flag,
    hend.fld hblocks (f := STW.Q_STATE_QUENCHED) hplaced (by decide)]

omit hs in
theorem quenchEnded_sprues (payload : List Byte) : SameSprues s (quenchEnded s payload) :=
  (quenchBlocks_sprues s).trans (sameSprues_of_cores (jnlAppend_cores ..))

end

section

variable {s : State} (hs : s.Sound) (w : QCause) (later : Nat)
include hs

theorem quenchPaged_quenched : (quenchPaged s w later).quenched = true := by
  have hplaced : STW.Q_STATE.Placed 0 0 := quenchRecord_placed (by decide)
  have hcores := (quenchCores_keeps (quenchShown s w later)).reg (quenchShown_sound hs w later) hplaced (by decide)
  have hpages := (quenchPages_keeps (quenchCores (quenchShown s w later))).reg
    ((quenchCores_kp _ Kp.rfl).sound (quenchShown_sound hs w later)) hplaced (by decide)
  have hreg : (quenchPaged s w later).reg STW.Q_STATE = 1 := hpages.trans (hcores.trans (quenchShown_state hs w later))
  simp only [State.quenched, State.flag, State.fld, STW.Q_STATE_QUENCHED, hreg]
  decide

theorem quenchPaged_stream {c : Nat} (hc : c < 4) : StreamQuenched (quenchPaged s w later) c := by
  have hcores := quenchCores_stream (quenchShown_sound hs w later) hc
  have hpages := (quenchPages_keeps (quenchCores (quenchShown s w later))).fld
    ((quenchCores_kp _ Kp.rfl).sound (quenchShown_sound hs w later)) (f := SPR.STATE_STREAM) (state_placed hc) (by decide)
  refine ⟨hpages.trans hcores.1, ?_⟩
  rw [quenchPaged, sameSprues_of_cores (quenchPages_cores _) c hc]
  exact hcores.2

theorem quenchPaged_pageState {p : PageKind} {i : Nat} (hi : i < p.count) (hq : p.quenches = true) :
    (quenchPaged s w later).pageState p i = quenchedState (s.pageState p i) := by
  have hshown := quenchShown_sound hs w later
  have hnot : ∀ L : List Reg, (∀ r ∈ L, 0x100 ≤ r.off) → HDR.PAGE_STATE p ∉ L := fun L hL h => absurd (hL _ h) (by
    simp [HDR.PAGE_STATE])
  have hrecord : (quenchShown s w later).pageState p i = s.pageState p i :=
    (quenchShown_keeps s w later).fld hs (f := HDR.PAGE_STATE_ST p) (pageState_placed hi) (hnot _ (by decide))
  have hcores : (quenchCores (quenchShown s w later)).pageState p i = s.pageState p i :=
    ((quenchCores_keeps _).fld hshown (f := HDR.PAGE_STATE_ST p) (pageState_placed hi) (hnot _ (by decide))).trans hrecord
  rw [quenchPaged, quenchPages_pageState ((quenchCores_kp _ Kp.rfl).sound hshown) hi hq, hcores]

omit hs in
theorem quenchPaged_stores : (quenchPaged s w later).stores = s.stores :=
  (quenchPages_keeps (quenchCores (quenchShown s w later))).1.trans
    ((quenchShown_keeps s w later).trans_stores (quenchCores_keeps (quenchShown s w later)))

end

section

variable {s : State} (hs : s.Sound) {c : Nat} (payload : List Byte)
include hs

theorem quenchEnded_stream (hc : c < 4) (h : StreamQuenched s c) : StreamQuenched (quenchEnded s payload) c := by
  obtain ⟨hstream, hcur⟩ := h
  refine ⟨((quenchEnded_keeps s payload).fld hs (f := SPR.STATE_STREAM) (state_placed hc) (by decide)).trans hstream, ?_⟩
  rw [quenchEnded_sprues payload c hc, hcur]

theorem quenchEnded_pageState {p : PageKind} {i : Nat} (hi : i < p.count) :
    (quenchEnded s payload).pageState p i = s.pageState p i := by
  have hoff : ∀ r ∈ STW.Q_STATE :: quenchRegs, 0x100 ≤ r.off := by decide
  refine (quenchEnded_keeps s payload).fld hs (f := HDR.PAGE_STATE_ST p) (pageState_placed hi) fun h => ?_
  exact absurd (hoff _ h) (by simp [HDR.PAGE_STATE_ST, HDR.PAGE_STATE])

end

/-- Settles O53: the record is what the Steward shows first, the streams and the pages are what their parts make them, and no part
after them writes these; every part leaves the stores. -/
theorem quenchStopsTheDevice : Obligations.QuenchStopsTheDevice := by
  intro s q qs hs
  refine ⟨fun h => quench_quenched h q qs, fun hnot hrng => ?_⟩
  obtain ⟨payload, heq⟩ := quench_healthy hnot q qs hrng
  have hended : quench s q qs = quenchEnded (quenchPaged s (firstCause q qs) qs.length) payload := heq
  have hpaged := quenchPaged_sound hs (firstCause q qs) qs.length
  have hrecord (r : Reg) (hr : r ∈ quenchRecord) (hL : r ∉ enteredRegs) := quench_record hs hnot q qs hrng (quenchRecord_placed hr) hL
  have hstores : (quench s q qs).stores = s.stores := by
    rw [hended, (quenchEnded_keeps _ payload).1, quenchPaged_stores]
  simp only [State.stores, Prod.mk.injEq] at hstores
  obtain ⟨hfuses, -, hhbm, htun, hside, hbad, hfenced, hing, hiside⟩ := hstores
  refine ⟨?_, (hrecord STW.Q_CAUSE (by decide) (by decide)).trans (quenchShown_cause hs _ _),
    (hrecord STW.Q_COUNT (by decide) (by decide)).trans (quenchShown_count hs _ _),
    (hrecord STW.Q_LATER (by decide) (by decide)).trans (quenchShown_later hs _ _),
    (hrecord STW.Q_FRAME (by decide) (by decide)).trans (quenchShown_frame hs _ _), fun c hc => ?_, fun p _ i hi hq => ?_,
    hhbm, htun, hside, hbad, hfenced, hing, hiside, hfuses⟩
  · rw [hended, quenchEnded_quenched hpaged, quenchPaged_quenched hs]
  · rw [hended]
    exact quenchEnded_stream hpaged payload hc (quenchPaged_stream hs _ _ hc)
  · rw [hended, quenchEnded_pageState hpaged payload hi, quenchPaged_pageState hs _ _ hi hq, quenchedState]

/-- R400: the conditions of an exit on its fields: it names this device, this quench and its nonce. -/
def exitFits (m : Packet) (u : State) : Prop :=
  u.quenched = true ∧ fieldAt m.body 0 8 % 2 ^ 17 = u.self ∧ fieldAt m.body 8 8 = u.reg STW.Q_COUNT ∧
    fieldAt m.body 16 8 = u.reg STW.Q_NONCE

section

variable (e : BootEnv) {s t u : State} {n : Nat} {m : Packet} {ok : Bool}
  (hmsg : takeKind s 0x18 = some (n, m, t)) (hsig : sigOk t (ownerOrVendor t) (exitSigned m) (slice m.body 24 512) = (ok, u))
include hmsg hsig

/-- R400: an exit whose signature verifies and whose fields fit acts. -/
theorem execQuenchExit_acts (hok : ok = true) (hfits : exitFits m u) :
    execQuenchExit e s = .next (warmBoot u e (if bit m.word 0 then 3 else 2) (bit m.word 0)) := by
  obtain ⟨hquenched, hself, hcount, hnonce⟩ := hfits
  simp only [execQuenchExit, hmsg, hsig, hok, hquenched, hself, hcount, hnonce, beq_self_eq_true, Bool.and_self, if_true]

/-- R400: any other exit is counted and raises source 5. -/
theorem execQuenchExit_refused (h : ¬ (ok = true ∧ exitFits m u)) :
    execQuenchExit e s = .next (raise .stw 0 5 (u.bump STW.Q_EXIT_REFUSED)) := by
  simp only [execQuenchExit, hmsg, hsig]
  refine if_neg fun hgood => h ?_
  simp only [Bool.and_eq_true, beq_iff_eq] at hgood
  obtain ⟨⟨⟨⟨hok, hquenched⟩, hself⟩, hcount⟩, hnonce⟩ := hgood
  exact ⟨hok, hquenched, hself, hcount, hnonce⟩

end

/-- Settles O45: the five conditions are the command's test (the layout of the body and the action bit are those of R399), and the
nonce that an entry draws (log entry 3) is written by nothing after it. -/
theorem quenchExitIsVerified : Obligations.QuenchExitIsVerified := by
  refine ⟨fun e s t u n m ok hmsg hsig => ⟨fun hok hq hself hcount hnonce => ?_, fun hbad => ?_⟩,
    fun s q qs hs hnot => quench_nonce hs hnot q qs⟩
  · exact execQuenchExit_acts e hmsg hsig hok ⟨hq, hself, hcount, hnonce⟩
  · refine execQuenchExit_refused e hmsg hsig ?_
    rintro ⟨hok, hq, hself, hcount, hnonce⟩
    rcases hbad with h | h | h | h | h
    · exact Bool.false_ne_true (h.symm.trans hok)
    · exact Bool.false_ne_true (h.symm.trans hq)
    · exact h hself
    · exact h hcount
    · exact h hnonce

end Sys2Proof.Machine
end

section
/-!
SUPPORT. The commands of the journal, the lifetime counters and the Riser stream (R364 to R380).
-/
namespace Sys2Proof.Machine

open Sys2Proof

/-! ## The journal and the lifetime counters -/

section

variable {s : State}

/-- R368: a record of the program that finds room and is not durable completes at once. -/
theorem execJappend_room {c : Core} {i : Iss} {q : Requester} (hhead : runHead s c rnJappend = some (i, q))
    (hsrc : sourceStatus q = stOk) (hroom : jnlRoom s = true) (hdurable : bit i.desc.param 0 = false) :
    execJappend c s = .next (sweepFinish (jnlPush s (i.desc.len1 % 2 ^ 16) ((gotBytes q 0 q.total).take i.desc.len0) (c + 1) 0) c i q
      stOk 0) := by
  simp only [execJappend, hhead, hsrc, hroom, hdurable, ne_eq, not_true_eq_false, if_false, Bool.not_true, Bool.false_eq_true]

section

variable (hon : s.pageState .ing = pgOn) (hsram : jnlInSram s = false)
include hon hsram

theorem execJournalPageProgram_full (hfull : 4 ≤ s.jnl.tail.length) : execJournalPageProgram s = .next ((jnlProgram s).getD s) := by
  rw [execJournalPageProgram, if_neg (by simp [hon, hsram]), if_pos (Or.inl hfull)]

theorem execJournalSync_due (hdue : s.jnl.syncFrame + s.fld ING.JNL_CTRL_SYNC_FRAMES ≤ s.frame) :
    execJournalSync s = .next ((jnlProgram s).getD s) := by
  rw [execJournalSync, if_neg (by simp [hon, hsram]), if_pos hdue]

end

theorem execSnapshotAppend_due (hon : s.pageState .ing = pgOn) (hdue : s.fld ING.JNL_CTRL_SNAP_PAGES ≤ s.jnl.pagesSinceSnap) :
    execSnapshotAppend s = .next (freePages (jnlSnapshot s)) := by rw [execSnapshotAppend, if_pos ⟨hon, Or.inr hdue⟩]

theorem execLifeSave_runs (h : ingRuns s = true) : execLifeSave s =
    .next (lifeSave (s.upTo (s.lifeCk + s.fld ING.LIFE_CTRL_SAVE_MIN * 60 * ckPerS s))) := by rw [execLifeSave, if_pos h]

end

/-! ## The records of a step -/

/-- R375: the first block of a step opens it, unless it has waited for room. -/
def riserOpened (s : State) (c : Core) (i : Iss) : State :=
  if bit i.desc.param 1 ∧ ¬ s.riser.waits.any (fun w => w.1 == (c : Nat)) then modRiser s (fun x => { x with
    stepKey := s.flag ING.RSR_STATE_BROKEN, stepAll := true, blocks := 0, stepFrom := s.reg ING.RSR_SEQ, skip := false })
  else s

theorem riserOpened_armed (s : State) (c : Core) (i : Iss) (f : Fld) : (riserOpened s c i).armed f = s.armed f := by
  unfold riserOpened
  split <;> rfl

/-- R375: a block's record holds its master bytes and not their change. -/
def riserKey (u : State) (i : Iss) : Bool :=
  bit i.desc.param 0 || i.desc.len0 % 2 ^ 32 % max 1 (u.fld ING.RSR_CTRL_KEY_EVERY) == 0 || u.riser.stepKey

/-- R375: the bytes of a block's record before they are coded. -/
def riserRaw (u : State) (i : Iss) (q : Requester) : List Byte :=
  riserData (riserKey u i) (gotBytes q 0 (i.desc.reg0.bytes / 16384)) (gotBytes q (i.desc.reg0.bytes / 16384) q.total)

/-- R375: a block without a change adds no record. -/
def riserSame (u : State) (i : Iss) (q : Requester) : Bool := !riserKey u i && (riserRaw u i q).all (fun b => b == 0)

/-- R376: the coded bytes of a block's record. -/
def riserCoded (u : State) (i : Iss) (q : Requester) : List Byte := riserCode ((riserRaw u i q).length + 1) [] (riserRaw u i q)

/-- R375: the bytes of the buffer that a block's record, and with `LAST` the end record, need. -/
def riserNeed (u : State) (i : Iss) (q : Requester) : Nat :=
  (if riserSame u i q then 0 else 32 + (riserCoded u i q).length) + (if bit i.desc.param 2 then 48 else 0)

/-- R375: a block's record, and with `LAST` the end record, in the buffer. -/
def riserAdded (u : State) (c : Core) (i : Iss) (q : Requester) : State :=
  let e := i.desc.len0 % 2 ^ 32
  let all := u.riser.stepAll && riserKey u i
  let v := modRiser (riserUnwait u c) (fun x => { x with stepAll := all, blocks := x.blocks + 1 })
  let v := if riserSame u i q then v
    else riserPush v e i.desc.len1 (if riserKey u i then 0 else 1) (gotBytes q 0 (i.desc.reg0.bytes / 16384)).length (riserCoded u i q) all
  if bit i.desc.param 2 then
    modRiser (riserPush v e 0xFFFFFFFF 2 16 (leBytes 8 (v.reg COL.SW_SEAL) ++ leBytes 8 v.riser.blocks) all)
      (fun x => { x with endSeq := (e, v.reg ING.RSR_SEQ) })
  else v

section

variable {c : Core} {s : State} {i : Iss} {q : Requester} (hhead : runHead s c rnRiser = some (i, q)) (hsrc : sourceStatus q = stOk)
include hhead hsrc

/-- R380: the rest of a step one of whose records was dropped adds none (log entry 66). -/
theorem execRiser_skips (hskip : (riserOpened s c i).riser.skip = true) :
    execRiser c s = .next (sweepFinish (riserOpened s c i) c i q stOk (2 * (i.desc.reg0.bytes / 16384))) := by
  unfold execRiser
  rw [hhead]
  exact (if_neg (not_not.2 hsrc)).trans (if_pos hskip)

/-- R375: a block's record that finds room is in the buffer, and what every destination has leaves it. -/
theorem execRiser_adds (hinj : s.armed ING.JNL_INJ_RSR_FULL = false) (hskip : (riserOpened s c i).riser.skip = false)
    (hroom : riserUsed (riserOpened s c i) + riserNeed (riserOpened s c i) i q ≤
      (riserOpened s c i).fld ING.RSR_BUF_SIZE * 2 ^ 20) :
    execRiser c s = .next (sweepFinish (riserShow (riserTrim 4 (riserAdded (riserOpened s c i) c i q))) c i q stOk
      (2 * (i.desc.reg0.bytes / 16384))) := by
  have hfull : ¬ ((riserOpened s c i).armed ING.JNL_INJ_RSR_FULL = true ∨ (riserOpened s c i).fld ING.RSR_BUF_SIZE * 2 ^ 20 <
      riserUsed (riserOpened s c i) + riserNeed (riserOpened s c i) i q) := by
    rw [riserOpened_armed, hinj]
    exact not_or.2 ⟨Bool.false_ne_true, Nat.not_lt.2 hroom⟩
  unfold execRiser
  rw [hhead]
  exact (if_neg (not_not.2 hsrc)).trans <| (if_neg (Bool.eq_false_iff.1 hskip)).trans (if_neg hfull)

end

/-! ## What is dropped, exported and acknowledged -/

section

variable {s : State}

/-- R378: a block that has waited too long takes with it the records of its step. -/
theorem execRiserWaitTimeout_drops {c f : Nat} {i : Iss} {q : Requester}
    (hwait : s.riser.waits.find? (fun w => decide (w.2 + s.fld ING.RSR_BUF_WAIT_FRAMES ≤ s.frame)) = some (c, f))
    (hhead : runHead (riserUnwait s c) c rnRiser = some (i, q)) (hinj : (riserUnwait s c).armed ING.JNL_INJ_RSR_FULL = false) :
    execRiserWaitTimeout s =
      (let v := modRiser (riserUnwait s c) (fun x => { x with
         buf := x.buf.filter (fun r => decide (r.sseq < x.stepFrom)), gap := true, stepAll := false, skip := true })
       .next (riserShow (sweepFinish (raise .ing 0 11 ((v.setFld ING.RSR_STATE_BROKEN 1).bump ING.RSR_DROPPED)) c i q
         stRiserDropped 0))) := by
  simp only [execRiserWaitTimeout, hwait, hhead, hinj, Bool.false_eq_true, if_false]

theorem execRiserExport_runs (h : ingRuns s = true) : execRiserExport s =
    (let u := s.upTo (exportDue s)
     let u := if toIngot u then exportIngot u else u
     let v := if toHost u then exportHost u else u
     .next (riserShow (riserTrim v.riser.buf.length v))) := by
  simp only [execRiserExport, h, Bool.not_true, Bool.false_eq_true, if_false]

theorem execRiserRetx_due (hhost : toHost s = true) (hruns : ingRuns s = true) (hsent : s.riser.hostAck < s.riser.hostSent)
    (hdue : s.riser.ackFrame + s.fld ING.RSR_BUF_RETX_FRAMES ≤ s.frame) :
    execRiserRetx s = .next (modRiser s (fun x => { x with hostSent := x.hostAck, ackFrame := s.frame })) := by
  rw [execRiserRetx, if_pos (by simp [hhost, hruns, hsent, hdue])]

/-- R377: an acknowledgement of the host that goes on. -/
theorem execBulk_acks {t : State} {p : Nat} {m : Packet} (hnot : s.quenched = false) (hmsg : takeKind s 0x30 = some (p, m, t))
    (hack : bit m.word 25 = true) (hhost : m.shost = true) (hsrc : m.src = t.fld ING.RSR_CTRL_HOST)
    (hnew : t.riser.hostAck < fieldAt m.body 0 8 + 1) :
    execBulk s =
      (let u := modRiser t (fun x => { x with hostAck := fieldAt m.body 0 8 + 1, ackFrame := t.frame })
       .next (riserShow (riserTrim u.riser.buf.length u))) := by
  simp only [execBulk, hnot, hmsg, hack, hhost, hsrc, hnew, Bool.false_eq_true, if_false, Bool.and_self, beq_self_eq_true, if_true]

end

/-- Settles O26, command by command. -/
theorem journalAndRiserCommandsComplete : Obligations.JournalAndRiserCommandsComplete :=
  ⟨fun _ _ _ _ => execJappend_room,
   fun _ hon hsram => ⟨execJournalPageProgram_full hon hsram, execJournalSync_due hon hsram⟩,
   fun _ => execSnapshotAppend_due,
   fun _ => execLifeSave_runs,
   fun _ _ _ _ hhead hsrc hinj => ⟨execRiser_skips hhead hsrc, execRiser_adds hhead hsrc hinj⟩,
   fun _ _ _ _ _ => execRiserWaitTimeout_drops,
   fun _ => execRiserExport_runs,
   fun _ => execRiserRetx_due,
   fun _ _ _ _ => execBulk_acks⟩

end Sys2Proof.Machine
end

section
/-!
SUPPORT. The commands of the collectives, the fences, the group table (R326 to R332) and of the sweep (R334, R345 to R358).
-/
namespace Sys2Proof.Machine

open Sys2Proof

/-! ## Collectives and fences -/

section

variable {c : Core} {s : State} {i : Iss} {q : Requester} (hhead : runHead s c rnColl = some (i, q))
include hhead

/-- R326, R327: a `COLL` joins its group's collective where the entry holds the operation of its command. -/
theorem collRow_takes {ok : GEnt → Bool} (hok : ok (gent s (i.desc.param % 1024)) = true) :
    collRow ok c s = .next (doColl s c i q) := by
  simp only [collRow, hhead, hok, if_true]

theorem collRow_allReduce (hop : (gent s (i.desc.param % 1024)).op = 0) :
    collRow (fun e => e.reserved || e.op == 0) c s = .next (doColl s c i q) :=
  collRow_takes hhead (ok := fun e => e.reserved || e.op == 0) (by simp [hop])

theorem collRow_op {n : Nat} (hreserved : (gent s (i.desc.param % 1024)).reserved = false)
    (hop : (gent s (i.desc.param % 1024)).op = n) :
    collRow (fun e => !e.reserved && e.op == n) c s = .next (doColl s c i q) :=
  collRow_takes hhead (ok := fun e => !e.reserved && e.op == n) (by simp [hreserved, hop])

/-- R330: the fence of the last core that the group names goes to every other member. -/
theorem execCollFence_last (hreserved : (gent s (i.desc.param % 1024)).reserved = false) (hop : (gent s (i.desc.param % 1024)).op = 5)
    (hfresh : (collRun s (i.desc.param % 1024)).joined.any (fun j => j.1 == (c : Nat)) = false)
    (hall : (collCores (gent s (i.desc.param % 1024)) c).all (fun k =>
      ((collRun s (i.desc.param % 1024)).joined ++ [((c : Nat), i.seq, [], ({} : Flags))]).any (fun j => j.1 == k)) = true) :
    execCollFence c s =
      (let e := gent s (i.desc.param % 1024)
       let r := collRun s (i.desc.param % 1024)
       let r' := { r with joined := r.joined ++ [((c : Nat), i.seq, [], ({} : Flags))] }
       .next (tryFence ((List.range e.n).foldl (fun s j => if j = e.pos then s else sendMsg s 0 0x21 (e.dev s j) false
          (i.desc.param % 1024 + newEpoch s (i.desc.param % 1024) * 2 ^ 16) []) s)
          { r' with own := some [], fence := r'.fence ++ [e.pos] })) := by
  have hjoins : ¬ ((gent s (i.desc.param % 1024)).reserved = true ∨ (gent s (i.desc.param % 1024)).op ≠ 5 ∨
      (collRun s (i.desc.param % 1024)).joined.any (fun j => j.1 == (c : Nat)) = true) := by
    rw [hreserved, hop, hfresh]
    decide
  unfold execCollFence
  rw [hhead]
  exact (if_neg hjoins).trans (if_pos hall)

end

section

variable {s : State}

/-- R330, R312: a member's fence counts. -/
theorem execFence_counts {t : State} {p j : Nat} {m : Packet} (hnot : s.quenched = false) (hmsg : takeKind s 0x21 = some (p, m, t))
    (hpos : (gent t (bits m.word 0 10)).posOf t m.src = some j) :
    execFence s = .next (tryFence t { collRun t (bits m.word 0 10) with fence := (collRun t (bits m.word 0 10)).fence ++ [j] }) := by
  simp only [execFence, hnot, hmsg, hpos, Bool.false_eq_true, if_false]

/-- R328, R331: a packet of a member, of the epoch that its entry has, is taken. -/
theorem execColl_takes {p j : Nat} {m : Packet} (hnot : s.quenched = false)
    (hmsg : s.inbox.find? (fun x => x.2.mkind == 0x20 && x.2.tc == 1 && forMe s x.2) = some (p, m)) :
    (let u : State := { s with inbox := s.inbox.erase (p, m) }
     let e := gent u (bits m.word 0 10)
     u.armed COL.INJ_STALE = false → e.valid = true → (bits m.word 16 16 + 2 ^ 16 - e.epoch) % 2 ^ 16 = 0 →
     e.posOf (freeFlits u p m) m.src = some j →
     execColl s = .next (takeChunk (freeFlits u p m) (bits m.word 0 10) e j m)) := by
  intro u e hinj hvalid hepoch hpos
  unfold execColl
  rw [if_neg (Bool.eq_false_iff.1 hnot), hmsg]
  simp only [u, e] at hinj hvalid hepoch hpos ⊢
  simp only [hinj, hvalid, hepoch, hpos, Bool.false_eq_true, if_false, false_or, true_and, not_true_eq_false, ne_eq,
    show ¬ 32768 ≤ 0 by decide]

/-- R331: a packet that has been held too long is dropped. -/
theorem execCollHoldTimeout_drops {x : Nat × Packet × Nat}
    (hheld : s.col.held.find? (fun x => decide (x.2.2 + s.reg COL.HOLD_FRAMES < s.frame)) = some x) :
    execCollHoldTimeout s = .next (raise .col 0 6 ((freeFlits
      { s with col := { s.col with held := s.col.held.erase x } } x.1 x.2.1).bump COL.HELD_DROPPED)) := by
  simp only [execCollHoldTimeout, hheld]

section

variable (hpage : s.pageState .col ≠ pgQuenched) (hidle : grpBusy s (s.reg COL.GRP_SEL) = false)
include hpage hidle

/-- R329: an idle entry is defined, or its next contents are where it is valid. -/
theorem execGrpDefine_idle : execGrpDefine s =
    (let g := s.reg COL.GRP_SEL
     let u := s.setFld COL.GRP_STATUS_BUSY 0
     .next (if (gent u g).valid then { u with col := { u.col with grpNext := sset 0 u.col.grpNext g (grpImage u) } }
       else setGroup u g (grpImage u))) := by
  rw [execGrpDefine, if_neg hpage, if_neg (Bool.eq_false_iff.1 hidle)]
  exact (apply_ite Host.Outcome.next _ _ _).symm

theorem execGrpFree_idle : execGrpFree s =
    (let g := s.reg COL.GRP_SEL
     let u := s.setFld COL.GRP_STATUS_BUSY 0
     .next { u with col := { u.col with
       grp := sset 0 u.col.grp g 0, grpNext := sset 0 u.col.grpNext g 0, drain := u.col.drain.erase g,
       runs := u.col.runs.filter (fun r => r.group != g) } }) := by
  rw [execGrpFree, if_neg hpage, if_neg (Bool.eq_false_iff.1 hidle)]

end

end

/-- Settles O27, command by command: the five data operations differ in the operation that their entry holds. -/
theorem collectiveCommandsComplete : Obligations.CollectiveCommandsComplete :=
  ⟨fun _ _ _ _ hhead => ⟨collRow_allReduce hhead, collRow_op hhead, collRow_op hhead, collRow_op hhead, collRow_op hhead,
     execCollFence_last hhead⟩,
   fun _ _ _ _ _ => execFence_counts,
   fun _ _ _ _ => execColl_takes,
   fun _ _ => execCollHoldTimeout_drops,
   fun _ hpage hidle => ⟨execGrpDefine_idle hpage hidle, execGrpFree_idle hpage hidle⟩⟩

/-! ## The sweep -/

section

variable {c : Core} {s : State} {i : Iss} {q : Requester}

theorem execSwCmdRelease_on (hpage : s.pageState .col ≠ pgQuenched) : execSwCmdRelease s = .next (releaseGrad s) := by
  rw [execSwCmdRelease, if_neg hpage]

theorem execSwCmdClearHold_on (hpage : s.pageState .col ≠ pgQuenched) :
    execSwCmdClearHold s = .next (s.setFld COL.SW_STATE_HELD 0) := by rw [execSwCmdClearHold, if_neg hpage]

/-- R346: a check block that holds the entries it counts gives the clip factor and the verdict word. -/
theorem execNcheck_whole (hhead : runHead s c rnNcheck = some (i, q)) (hsrc : sourceStatus q = stOk) :
    (let b := gotBytes q 0 q.total
     64 + 8 * (fieldAt b 0x14 4 % 2 ^ 16) + 8 * (fieldAt b 0x1C 4 % 2 ^ 16) ≤ b.length →
     (let v := verdictBits s b
      let r := putBytes { s := s } c i.seq i.desc.reg1 false 0
        (leBytes 4 (clipFactor (decodeFloat .wa64 (fieldAt b 0 8)) (decodeFloat .fp32 (fieldAt b 0x10 4))))
      let r := putBytes r c i.seq i.desc.reg2 false 0 (leBytes 4 (v + b2n (v == 0) * 2 ^ 31))
      execNcheck c s = .next (sweepFinish r.s c i q r.st (fieldAt b 0x1C 4 % 2 ^ 16)))) := by
  intro b hwhole
  unfold execNcheck
  rw [hhead]
  exact (if_neg (not_not.2 hsrc)).trans (if_neg (Nat.not_lt.2 hwhole))

/-- R347: a `VOTE` opens the vote of its key; that `RETAINED` is set at once is log entry 65. -/
theorem execVote_opens {e l : GEnt} (hhead : runHead s c rnVote = some (i, q)) (hnone : s.sweep.vote = none)
    (hsrc : sourceStatus q = stOk) (hflask : flaskGrp s = some e) (hlane : laneGrp s = some l) :
    execVote c s =
      (let v : VoteSt := {
         core := c, seq := i.seq, e := i.desc.len0 % 2 ^ 32, a := i.desc.len1 % 2 ^ 16,
         deadline := i.frame + i.desc.aux16, verdict := leNat (gotBytes q 0 q.total) % 2 ^ 32 }
       .next (openVote ((((s.setReg COL.SW_EPOCH v.e).setReg COL.SW_ATTEMPT v.a).setFld COL.SW_STATE_VOTE 1).setFld
         COL.SW_STATE_RETAINED 1) v e)) := by
  simp only [execVote, hhead, hnone, hsrc, hflask, hlane, Option.isSome_none, ne_eq, not_true_eq_false, Bool.false_eq_true, if_false]

/-- R347 to R349: the oldest vote message of its phases is taken. -/
theorem voteRow_takes {ok : Nat → Bool} {x : Nat × Packet} (hnot : s.quenched = false)
    (hmsg : s.inbox.find? (fun x => x.2.mkind == 0x13 && x.2.tc == 0 && forMe s x.2 && ok (msgPhase x.2)) = some x) :
    voteRow ok s = .next (takeVote (freeFlits { s with inbox := s.inbox.erase x } x.1 x.2) x.2) := by
  simp only [voteRow, hnot, hmsg, Bool.false_eq_true, if_false]

section

variable {v : VoteSt} (hvote : s.sweep.vote = some v) (hword : v.word = none)
include hvote hword

/-- R348: at the deadline the abort is provisional. -/
theorem execVoteDeadline_due (hfirst : v.provisional = false) (hdue : v.deadline ≤ s.frame) : execVoteDeadline s =
    .next ((modSweep s (fun x => { x with vote := some { v with provisional := true } })).setFld COL.SW_STATE_VOTE 3) := by
  simp only [execVoteDeadline, hvote, hword, hfirst, hdue, Option.isNone_none, Bool.false_eq_true, not_false_eq_true, and_self, if_true]

/-- R348: after the grace it is final. -/
theorem execVoteGraceExpire_due (hprov : v.provisional = true) (hdue : v.deadline + s.fld COL.SW_CTRL_GRACE ≤ s.frame) :
    execVoteGraceExpire s = .next (decide' s v 4) := by
  simp only [execVoteGraceExpire, hvote, hword, hprov, hdue, Option.isNone_none, and_self, if_true]

end

/-- R352: the first block of a seal, whose record is good, is folded into a fresh accumulator. -/
theorem execSeal_first {g : GEnt} (hhead : runHead s c rnSeal = some (i, q)) (hsrc : sourceStatus q = stOk)
    (hfirst : bit i.desc.param 0 = true) (hlast : bit i.desc.param 1 = false) (hblock : i.desc.len1 = 0)
    (hgrp : (sealGrp s).filter (fun g => decide (g.n ≤ 256)) = some g) :
    (let nt := i.desc.reg0.bytes / 16384
     let e := i.desc.len0 % 2 ^ 32
     let pl := gotBytes q 0 nt
     let rec_ := gotBytes q nt q.total
     fieldAt rec_ 0x3C 4 = crc32c (slice rec_ 0 60) → fieldAt rec_ 0 4 = e → fieldAt rec_ 8 8 = crc64 pl →
     execSeal c s =
      (let u := (modSweep s (fun x => { x with acc := crc64Init })).setReg COL.SW_NEXT_BLOCK 0
       .next (sweepFinish ((modSweep u (fun x => { x with acc := crc64Fold x.acc pl })).setReg COL.SW_NEXT_BLOCK 1) c i q stOk nt))) := by
  intro nt e pl rec_ hheader hepoch hcrc
  simp only [nt, e, pl, rec_] at hheader hepoch hcrc ⊢
  simp only [execSeal, hhead, hsrc, hfirst, hlast, hblock, hgrp, hheader, hepoch, hcrc, beq_self_eq_true, bne_self_eq_false,
    Bool.and_self, Bool.and_false, Bool.false_eq_true, Option.isNone_some, ne_eq, not_true_eq_false, if_true, if_false, false_and,
    Nat.zero_add]

/-- R354: a new seal of a member is kept, and the seals of this device's epoch are resolved. -/
theorem execSealMessage_keeps {t : State} {p : Nat} {m : Packet} (hnot : s.quenched = false)
    (hmsg : takeKind s 0x14 = some (p, m, t)) :
    (let k := (fieldAt m.body 0 4, fieldAt m.body 4 2, fieldAt m.body 8 8)
     bits m.word 0 10 = t.fld COL.SW_SEAL_GRP_G → t.sweep.seals.contains k = false → execSealMessage s =
      (let u := modSweep t (fun x => { x with seals := x.seals.filter (fun y => !(y.1 == k.1 && y.2.1 == k.2.1)) ++ [k] })
       .next (if u.sweep.own.any (fun o => o.1 == k.1) then resolveSeals u else u))) := by
  intro k hgrp hnew
  have hkept : ¬ (bits m.word 0 10 ≠ t.fld COL.SW_SEAL_GRP_G ∨ t.sweep.seals.contains k = true) :=
    not_or.2 ⟨not_not.2 hgrp, Bool.eq_false_iff.1 hnew⟩
  unfold execSealMessage
  rw [if_neg (Bool.eq_false_iff.1 hnot), hmsg]
  exact if_neg hkept

/-- R354: a seal that stays missing is reported once. -/
theorem execSealTimeout_due {a f b : Nat} (hown : s.sweep.own = some (a, f, b)) (hopen : s.fld COL.SW_STATE_SEAL = 1)
    (hnew : s.sweep.missing = false) (hdue : f + s.fld COL.SW_CTRL_SEAL_FRAMES < s.frame) :
    execSealTimeout s = .next (raise .col 0 12 (modSweep s (fun x => { x with missing := true }))) := by
  simp only [execSealTimeout, hown, hopen, hnew, hdue, Bool.false_eq_true, not_false_eq_true, and_self, if_true]

end

/-- Settles O28, command by command. -/
theorem sweepCommandsComplete : Obligations.SweepCommandsComplete :=
  ⟨fun _ hpage => ⟨execSwCmdRelease_on hpage, execSwCmdClearHold_on hpage⟩,
   fun _ _ _ _ => execNcheck_whole,
   fun _ _ _ _ _ _ => execVote_opens,
   fun _ _ hnot =>
     have hrow (ok : Nat → Bool) {x : Nat × Packet} := voteRow_takes (ok := ok) (x := x) hnot
     ⟨hrow fun p => p == 0, hrow fun p => p == 1, hrow fun p => p == 2, hrow fun p => p == 3, hrow fun p => decide (4 ≤ p)⟩,
   fun _ _ hvote hword => ⟨execVoteDeadline_due hvote hword, execVoteGraceExpire_due hvote hword⟩,
   fun _ _ _ _ _ => execSeal_first,
   fun _ _ _ _ => execSealMessage_keeps,
   fun _ _ _ _ => execSealTimeout_due⟩

end Sys2Proof.Machine
end
